-- ==== Sys2Proof/Word.lean ====
section
/-!
DEFINITION. The word types of the EB7144: registers are 32 bits wide (R12), memories and buffers are bytes (R16).
-/
namespace Sys2Proof

/-- One byte of a buffer, a descriptor or a memory. -/
abbrev Byte := BitVec 8

/-- One 32-bit register or instruction word. -/
abbrev Word := BitVec 32

/-- One 64-bit value: a descriptor field, an F register, a timestamp. -/
abbrev DWord := BitVec 64

end Sys2Proof
end

