-- ==== Sys2Proof/Machine/Bits.lean ====
section
/-!
DEFINITION. Bit fields of words, bytes as numbers in both orders (R16: little-endian unless a rule says otherwise),
sparse maps kept as lists of (key, value) pairs, and byte memories in canonical form.
-/
namespace Sys2Proof.Machine
open Sys2Proof

/-- Bits hi..lo of a word as a number. -/
def fld (w : Word) (hi lo : Nat) : Nat := (w.toNat >>> lo) % 2 ^ (hi - lo + 1)

/-- Bit i of a word. -/
def bitAt (w : Word) (i : Nat) : Bool := w.getLsbD i

/-- The word with ones at bits hi..lo. -/
def fieldMask (hi lo : Nat) : Word := BitVec.ofNat 32 ((2 ^ (hi - lo + 1) - 1) * 2 ^ lo)

/-- The word with bits hi..lo replaced by the low bits of v. -/
def setBits (w : Word) (hi lo : Nat) (v : Nat) : Word :=
  (w &&& ~~~ fieldMask hi lo) ||| ((BitVec.ofNat 32 (v * 2 ^ lo)) &&& fieldMask hi lo)

/-- 1 for true. -/
def b2n (b : Bool) : Nat := if b then 1 else 0

/-- The word with bit i set to b. -/
def setBit (w : Word) (i : Nat) (b : Bool) : Word := setBits w i i (b2n b)

/-- The number whose little-endian bytes are given. -/
def leNat : List Byte → Nat
  | [] => 0
  | b :: t => b.toNat + 256 * leNat t

/-- The number whose big-endian bytes are given. -/
def beNat (l : List Byte) : Nat := l.foldl (fun n b => 256 * n + b.toNat) 0

/-- The n low bytes of v, least significant first. -/
def natLE : Nat → Nat → List Byte
  | 0, _ => []
  | n + 1, v => BitVec.ofNat 8 v :: natLE n (v / 256)

/-- The n low bytes of v, most significant first. -/
def natBE (n v : Nat) : List Byte := (natLE n v).reverse

/-- The number of bits of a number: 0 for 0. -/
def bitLen (n : Nat) : Nat := if n = 0 then 0 else n.log2 + 1

/-- len bytes of a buffer from an offset, short where the buffer ends. -/
def slice (l : List Byte) (off len : Nat) : List Byte := (l.drop off).take len

/-- Little-endian field of a buffer. -/
def leAt (l : List Byte) (off len : Nat) : Nat := leNat (slice l off len)

/-- Big-endian field of a buffer. -/
def beAt (l : List Byte) (off len : Nat) : Nat := beNat (slice l off len)

/-- A buffer cut or filled with zero bytes to an exact length. -/
def fixLen (n : Nat) (l : List Byte) : List Byte := l.take n ++ List.replicate (n - l.length) 0

/-- n zero bytes. -/
def zeros (n : Nat) : List Byte := List.replicate n 0

/-- The buffer with one bit flipped, bit 0 being the least significant bit of the first byte. -/
def flipBit (l : List Byte) (i : Nat) : List Byte :=
  l.modify (i / 8) (fun b => b ^^^ BitVec.ofNat 8 (2 ^ (i % 8)))

/-- Bitwise exclusive or of two buffers of one length. -/
def xorBytes (a b : List Byte) : List Byte := List.zipWith (· ^^^ ·) a b

/-- The bytes of an ASCII text. -/
def ascii (s : String) : List Byte := s.toList.map (fun c => BitVec.ofNat 8 c.toNat)

/-- a divided by b, rounded up. -/
def ceilDiv (a b : Nat) : Nat := (a + b - 1) / b

/-- A counter that saturates at the top of its width. -/
def satAdd (bits n k : Nat) : Nat := Nat.min (n + k) (2 ^ bits - 1)

/-! Sparse maps: keys strictly rising, written with mput and mdel. -/

/-- The value at a key. -/
def mget {α : Type} (m : List (Nat × α)) (k : Nat) : Option α :=
  match m with
  | [] => none
  | (a, b) :: t => if a = k then some b else mget t k

/-- The map with the value at a key set. -/
def mput {α : Type} (m : List (Nat × α)) (k : Nat) (v : α) : List (Nat × α) :=
  match m with
  | [] => [(k, v)]
  | (a, b) :: t => if k < a then (k, v) :: (a, b) :: t else if k = a then (k, v) :: t else (a, b) :: mput t k v

/-- The map without a key. -/
def mdel {α : Type} (m : List (Nat × α)) (k : Nat) : List (Nat × α) := m.filter (fun p => p.1 != k)

/-- The map with the value at a key, where there is one, changed. -/
def mmod {α : Type} (m : List (Nat × α)) (k : Nat) (f : α → α) : List (Nat × α) :=
  m.map (fun p => if p.1 = k then (p.1, f p.2) else p)

/-- The least number from `start` on that is no key of the map, looking at n numbers. -/
def mfree {α : Type} (m : List (Nat × α)) (start : Nat) : Nat → Option Nat
  | 0 => none
  | n + 1 => if (mget m start).isNone then some start else mfree m (start + 1) n

/-- Keys strictly rising. -/
def keysRise {α : Type} : List (Nat × α) → Bool
  | [] => true
  | [_] => true
  | (a, _) :: (b, v) :: t => decide (a < b) && keysRise ((b, v) :: t)

/-! Byte memories: an unlisted address reads as zero, and no listed byte is zero. -/

/-- A byte memory: (address, byte) pairs, addresses strictly rising, no byte zero. -/
abbrev Memory := List Host.Cell

/-- The canonical form of a byte memory. -/
abbrev Memory.wf (m : Memory) : Prop := keysRise m = true ∧ m.all (fun c => c.2 != 0) = true

/-- The byte at an address: zero where nothing is listed (every such memory of the device is scrubbed to zeros first). -/
def readByte (m : Memory) (a : Nat) : Byte := (mget m a).getD 0

/-- The memory with one byte written, in canonical form. -/
def writeByte (m : Memory) (a : Nat) (v : Byte) : Memory := if v = 0 then mdel m a else mput m a v

/-- n bytes from an address. -/
def readBytes (m : Memory) (a : Nat) : Nat → List Byte
  | 0 => []
  | n + 1 => readByte m a :: readBytes m (a + 1) n

/-- The memory with a list of bytes written from an address on. -/
def writeBytes (m : Memory) (a : Nat) : List Byte → Memory
  | [] => m
  | b :: t => writeBytes (writeByte m a b) (a + 1) t

end Sys2Proof.Machine
end

