-- ==== Sys2Proof/Machine/TypesHost.lean ====
section
/-!
DEFINITION. What commands carry from outside the device (log entry 1): bytes read from host memory, and the places where a
read or a write on the link can fail.
-/
namespace Sys2Proof.Machine
open Sys2Proof

/-- One segment of a scatter-gather list as it stands in host memory: its address and its 16-byte entries (R98). -/
structure SgPart where
  addr    : Nat
  entries : List (List Byte)
deriving DecidableEq, Repr

/-- What the device reads from host memory for one command, beside its descriptor: the segments of the lists that the descriptor's
buffers name (none for a flat buffer), the input and the auxiliary bytes in order, and the blobs that entries of the function's
blob table name, by entry (R98, R99, R147). -/
structure HostRead where
  inList  : List SgPart
  auxList : List SgPart
  outList : List SgPart
  input   : List Byte
  aux     : List Byte
  blobs   : List (Nat × List Byte)
deriving DecidableEq, Repr

/-- What the conditioner takes for one block (R268, R269): samples of cells, by group × 32 + cell, sample i in bit i mod 8 of byte ⌊i / 8⌋,
and whether the two lanes that compute the block agree. -/
structure NrgTake where
  cells : List (Nat × List Byte)
  agree : Bool
deriving DecidableEq, Repr

/-- Who waits for key-grade bytes (R271). -/
inductive NrgWho where
  | cmd (id : Nat)
  | chunk (cmd : Nat)          -- a chunk of a command's entropy stream (R183)
  | expander (e : Nat)
  | spillNonce (ctx : Nat)
  | management (tag : Nat)     -- 1 the SLS (R130), 2 the boot's part of the spill epochs (R239), 3 the loop generators (R339), 4 DRS and DID (R350)
  | mailbox (key : Nat)        -- a management command, by its request
  | port (k : Nat)             -- the handshake on a Wolum port (R400)
  | peer (id : List Byte)      -- the handshake of an end-to-end session (R401)
  | card (port : Nat)          -- a card session (R380, R382)
deriving DecidableEq, Repr

/-- How a turn of the digest engine ends on a pipeline (R227, R237): whether its two cores disagree, and a bit that a fault flipped in the
state. -/
structure TurnEnd where
  pipe  : Nat
  cores : Bool
  flip  : Option Nat
deriving DecidableEq, Repr

/-- What the firmware finds as it starts: tamper channels that fail their boot test (R338), handles whose key records are damaged (R138),
and collector pairs, by source and class, that fail theirs (R360). -/
structure BootFind where
  channels : List (Nat × Nat)
  records  : List Nat
  pairs    : List (Nat × Nat)
deriving DecidableEq, Repr

/-- A card's answer to an APDU (R376 to R379): the response with its status word; in T=0 the parity errors of the exchange by character,
signalled by either side, and the procedure bytes before the status; in T=1 the faulty blocks before the good one, and the multipliers of
the S(WTX) requests. -/
structure CardAnswer where
  resp   : List Byte
  errors : List Nat
  procs  : List Byte
  bad    : Nat
  wtx    : List Byte
deriving DecidableEq, Repr

/-- A read that fails on the link (R59). -/
inductive ReadSite where
  | descriptor (fn qp : Nat)   -- a descriptor fetch
  | command (cmd : Nat)        -- input, auxiliary data, a list or a blob of a command
  | mailbox (fn ch : Nat)      -- a request buffer
  | restore (cmd : Nat)        -- a spilled digest context read back (R242)
deriving DecidableEq, Repr

/-- A write that cannot be delivered (R59). -/
inductive WriteSite where
  | completion (fn qp : Nat)
  | output (cmd : Nat)
  | results (cmd : Nat)        -- a batch's results array or bitmap
  | mailbox (fn ch : Nat)      -- a response buffer
deriving DecidableEq, Repr

/-- A memory card as it is found on insertion (R384 to R388): 1 SDSC, 2 SDHC or SDXC, 3 MMC, other values another card; whether it
accepts S18R and passes the checks of the voltage switch; the modes its check mode or EXT_CSD offers; those whose switch verifies
(SDR 104 with its tuning); a verified 4-bit width; whether it is locked, its password, its blocks. -/
structure McCard where
  kind     : Nat
  s18      : Bool
  switchOk : Bool
  offers   : List Nat
  verifies : List Nat
  width4   : Bool
  locked   : Bool
  password : List Byte
  blocks   : List (Nat × List Byte)
deriving DecidableEq, Repr

/-- An instruction of the TAP (R356, R358): those that the spec names, and private ones by the scope that opens them. -/
inductive JtagIns where
  | idcode | bypass | extest | sample | preload
  | priv (scope : Nat)
deriving DecidableEq, Repr

/-- What a production programmer writes to flash over the boot SPI port (R312; log entry 54): a firmware bank with its mark (0 invalid,
1 staged, 2 trial, 3 confirmed, 4 trial failed), the preferred bank, a configuration bank with its commit block. -/
inductive FlashItem where
  | firmware (bank mark : Nat) (image : List Byte)
  | prefer (bank : Nat)
  | config (bank : Nat) (image commit : List Byte)
deriving DecidableEq, Repr

/-! What devices of a fabric send one another. The spec gives these messages a meaning and no format (log entry 50). -/

/-- An attestation statement of another device as it checks out (R400, R409): whether it verifies against the vendor identity
certificates, the identity, life-cycle state, firmware SVN, fabric ID and nonce it names, and whether it carries the SEALED-LOST event. -/
structure PeerStmt where
  genuine  : Bool
  identity : List Byte
  lcs      : Nat
  svn      : Nat
  fabric   : List Byte
  nonce    : List Byte
  lost     : Bool
deriving DecidableEq, Repr

/-- A message of the handshake (R400). -/
inductive ShakeMsg where
  | identity (id nonce : List Byte)
  | offer (pub : List Byte) (st : PeerStmt)
  | answer (ct : List Byte) (st : PeerStmt)
deriving DecidableEq, Repr

/-- A hello (R402): identity, fabric ID, configured address, last address held, whether its sender is DISCOVERING. -/
structure Hello where
  id     : List Byte
  fabric : List Byte
  conf   : Option Nat
  last   : Option Nat
  disc   : Bool
deriving DecidableEq, Repr

/-- An end-to-end message (R403 to R411). Keys are named by group and class 0b10 index. -/
inductive FabMsg where
  | ack (msg : Nat)
  | shake (m : ShakeMsg)                                       -- of an end-to-end session (R401)
  | assign (addr : Nat)                                        -- the root gives an address
  | join (group : Nat) (members : List (List Byte)) (creator : Bool)
  | key (group idx gen : Nat) (attrs priv : List Byte)         -- a key of the group, by ADD_KEY, at a rejoin or in a restore
  | stored (group idx gen status : Nat)                        -- the answer to it
  | discard (group idx : Nat)
  | commitReq (group idx gen : Nat) (attrs priv : List Byte)   -- a COMMIT forwarded to the leader
  | stage (group idx gen : Nat) (attrs priv : List Byte)
  | flip (group idx gen : Nat)
  | unstage (group idx gen : Nat)                              -- the leader drops a COMMIT before its commit point (R76)
  | destroyReq (group idx gen : Nat)
  | destroyed (group idx gen : Nat)
  | restoreAsk (group : Nat) (st : PeerStmt)
  | restoreNo (group : Nat)
  | restoreEnd (group : Nat)
  | work (cmd cls : Nat)
  | workDone (cmd : Nat)
  | idle (accept : Bool) (classes : List Nat)                  -- idle capacity advertised
  | pulse (ts : Nat)                                           -- the timestamp of the coming SYNC pulse
  | relayCard (port : Nat) (present : Bool)                    -- a card ready in a port, or gone
  | relayApdu (port : Nat) (apdu : List Byte)
  | relayResp (port : Nat) (resp : List Byte)
deriving DecidableEq, Repr

/-- What goes out over a Wolum port: one of these fills one flit (log entry 50). -/
inductive PortMsg where
  | shake (m : ShakeMsg)
  | hello (h : Hello)
  | linkState (addr : Nat) (ports : List (Nat × Nat))
  | msg (src dest id : Nat) (body : FabMsg)
  | ack (seq : Nat)
  | nak (seq : Nat)
  | retrain
deriving DecidableEq, Repr

end Sys2Proof.Machine
end

