-- ==== Sys2Proof/Machine/TypesPvc.lean ====
section
/-!
DEFINITION. Data of the polynomial vector cores (spec file 06): kernels, the registers and memory of a run, sponge units,
the queues of a cluster. A tagged value is held as its recombined value and its share type (log entry 17).
-/
namespace Sys2Proof.Machine
open Sys2Proof

/-- A register number of an instruction word (R196). -/
abbrev R5 := BitVec 5
/-- A predicate number. -/
abbrev P3 := BitVec 3

/-- The share type of a tagged value (R180). -/
inductive Share where
  | bool | arith | arithq (m : BitVec 2)
deriving DecidableEq, Repr

/-- The secrecy tag of a register: none is untagged (R178). -/
abbrev Tag := Option Share

/-- A scalar register with its tag. -/
structure SReg where
  v : Word
  t : Tag
deriving DecidableEq, Repr

/-- A vector register with its tag; Fn is the low 64 bits of Wn (R170). -/
structure WReg where
  v : BitVec 256
  t : Tag
deriving DecidableEq, Repr

/-- A predicate register with its tag bit. -/
structure PReg where
  v : BitVec 256
  t : Bool
deriving DecidableEq, Repr

/-- A window: base address and size in bytes (R176). -/
structure Window where
  base : Nat
  size : Nat
deriving DecidableEq, Repr

/-- A parameter entry of a kernel image. -/
structure KParam where
  index  : Nat
  flags  : Nat
  inLen  : Nat
  auxLen : Nat
  out    : Nat
deriving DecidableEq, Repr

/-- A loaded kernel (the header, the parameter table and the body's parts of R187 to R190). -/
structure Kernel where
  kind     : Nat                 -- 0 vendor, 1 owner
  opcode   : Nat
  codeLen  : Nat
  entry    : Nat
  handler  : Option Nat
  caps     : Nat
  famMask  : Nat
  use1     : Nat
  use2     : Nat
  svn      : Nat
  tables   : Nat
  entropy  : Nat
  valTime  : Nat
  cycles   : Nat
  sram     : Nat
  input    : Window
  aux      : Window
  work     : Window
  secret   : Window
  output   : Window
  qm       : List Nat
  gfp      : Nat
  params   : List KParam
  twiddles : List Byte
  code     : List Byte
  data     : List Byte
  measure  : List Byte
  signer   : List Byte           -- key identifier of the trailer
  persist  : Bool                -- kept in flash
  grants   : Option (List Nat)   -- none: every function (R190)
  slots    : List Nat            -- twiddle slots held (R189)
  current  : Bool                -- commands resolve it; false once replaced or unloaded, and until boot loads it
deriving DecidableEq, Repr

/-- A sponge unit held by a run (R166, R214). -/
structure Sponge where
  rate     : Nat
  pos      : Nat
  squeeze  : Bool
  st       : List Byte           -- 200 bytes
  tagged   : Bool
deriving DecidableEq, Repr

/-- Why a run does not issue its next instruction. -/
inductive Stall where
  | sram                                        -- waits for its shared-SRAM allotment (R165)
  | sponge (which : List Nat) (rate : Nat)      -- waits for a claim (R166)
  | mask                                        -- waits for masks (R168)
  | ent (d : R5) (off : Nat)                    -- waits for an entropy chunk (R183)
  | slide (aux : Bool) (off : Nat)              -- waits for a window refill (R177)
  | kld (dst : Nat) (data : List Byte) (tagged : Bool) (code : Option (Nat × Nat))
      -- waits for key bytes (R182); of a resident Classic McEliece key, its handle and parameter set: they come from its cache entry (R41)
  | ended                                       -- the run has ended and its PVC is scrubbed (R193)
deriving DecidableEq, Repr

/-- The run of a kernel on one PVC: the architectural state of R169 and what the core knows of its command. -/
structure Pvc where
  cmd     : Nat
  leg     : Nat
  kern    : Kernel
  par     : KParam
  inLen   : Nat
  auxLen  : Nat
  cap     : Nat                  -- output capacity
  inl     : Bool                 -- the descriptor asks for an inline result (flag bit 3)
  k1      : Option (List Byte × List Byte)   -- private and public part of the first key (R182)
  k2      : Option (List Byte × List Byte)
  c1      : Option (Nat × Nat)   -- handle and parameter set of a first key whose public part the code-key cache holds (R41, R182)
  c2      : Option (Nat × Nat)
  src     : List Byte            -- value of the context that the parameter entry reads
  test    : Bool                 -- a test variant: the entropy stream is the host's (R183)
  alloc   : Bool                 -- holds its shared-SRAM allotment, until the scrub of its PVC ends (R165)
  ent     : List Byte            -- entropy-stream bytes drawn so far
  s       : Vector SReg 32
  w       : Vector WReg 32
  p       : Vector PReg 8
  len     : Nat
  epr     : Nat
  resume  : Bool                 -- the next instruction is resumed by ERET (R186)
  qm      : Vector Nat 4         -- 0 while unset
  gfp     : Nat                  -- 0 while unset
  fpsr    : BitVec 5
  pc      : Word
  tpc     : Word
  tcause  : Nat
  taddr   : Word
  handler : Bool                 -- in the handler
  valid   : Bool                 -- in the validation phase (R191)
  mem     : Memory               -- data memory
  shares  : List (Nat × Share)   -- share type of SECRET lines that is not BOOL, by line number
  sram    : Memory               -- the run's shared-SRAM allotment
  inSeg   : Nat × Nat            -- resident segment of the input aperture: offset and length (R177)
  auxSeg  : Nat × Nat
  sp      : Vector (Option Sponge) 2
  ctxOut  : Option (List Byte)   -- bytes written by CTXST
  masks   : Nat                  -- mask bytes drawn
  stall   : Option Stall
deriving DecidableEq, Repr

/-- The shared resources of a cluster beside its registers. -/
structure Cluster where
  spQueue   : List Nat           -- cores whose sponge claim waits, oldest first
  sramQueue : List Nat           -- cores whose allotment waits, oldest first
  maskPart  : Nat                -- mask bytes used of the block last delivered (136 bytes a block)
  owner     : Option Nat         -- function it is dedicated to (R71)
  draining  : Option Nat         -- dedication change in progress: the function it will belong to, 2,048 for none
  maskStall : Bool               -- its expander is at the reseed limit (R277)
deriving DecidableEq, Repr

end Sys2Proof.Machine
end

