-- ==== Sys2Proof/Syntax.lean ====
section
/-!
DEFINITION. The commands the block takes: one constructor per row of spec/opcode_table.json. The table gives rows no bits and
no operands; the operands are what the rules say the row's event carries (log entry 1). Rows NOP to VREJ are instructions of
the vector instruction set on core c, with the fields of their instruction word (spec file 07, R196); they stand first.
-/
namespace Sys2Proof
open Sys2Proof.Machine

/-- A command. -/
inductive Instr where
  | nop (c : Nat) (d : R5) (a : R5) (b : R5)   -- NOP, R197
  | add (c : Nat) (d : R5) (a : R5) (b : R5)   -- ADD, R199
  | sub (c : Nat) (d : R5) (a : R5) (b : R5)   -- SUB, R199
  | and (c : Nat) (d : R5) (a : R5) (b : R5)   -- AND, R199
  | or (c : Nat) (d : R5) (a : R5) (b : R5)   -- OR, R199
  | xor (c : Nat) (d : R5) (a : R5) (b : R5)   -- XOR, R199
  | sll (c : Nat) (d : R5) (a : R5) (b : R5)   -- SLL, R199
  | srl (c : Nat) (d : R5) (a : R5) (b : R5)   -- SRL, R199
  | sra (c : Nat) (d : R5) (a : R5) (b : R5)   -- SRA, R199
  | slt (c : Nat) (d : R5) (a : R5) (b : R5)   -- SLT, R199
  | sltu (c : Nat) (d : R5) (a : R5) (b : R5)   -- SLTU, R199
  | mul (c : Nat) (d : R5) (a : R5) (b : R5)   -- MUL, R199
  | mulh (c : Nat) (d : R5) (a : R5) (b : R5)   -- MULH, R199
  | mulhu (c : Nat) (d : R5) (a : R5) (b : R5)   -- MULHU, R199
  | min (c : Nat) (d : R5) (a : R5) (b : R5)   -- MIN, R199
  | max (c : Nat) (d : R5) (a : R5) (b : R5)   -- MAX, R199
  | minu (c : Nat) (d : R5) (a : R5) (b : R5)   -- MINU, R199
  | maxu (c : Nat) (d : R5) (a : R5) (b : R5)   -- MAXU, R199
  | slli (c : Nat) (d : R5) (a : R5) (b : R5)   -- SLLI, R199
  | srli (c : Nat) (d : R5) (a : R5) (b : R5)   -- SRLI, R199
  | srai (c : Nat) (d : R5) (a : R5) (b : R5)   -- SRAI, R199
  | jr (c : Nat) (d : R5) (a : R5) (b : R5)   -- JR, R195
  | addm (c : Nat) (e : Bool) (m : BitVec 2) (d : R5) (a : R5) (b : R5)   -- ADDM, R201
  | subm (c : Nat) (e : Bool) (m : BitVec 2) (d : R5) (a : R5) (b : R5)   -- SUBM, R201
  | mulm (c : Nat) (e : Bool) (m : BitVec 2) (d : R5) (a : R5) (b : R5)   -- MULM, R201
  | mulb (c : Nat) (e : Bool) (m : BitVec 2) (d : R5) (a : R5) (b : R5)   -- MULB, R201
  | redb (c : Nat) (e : Bool) (m : BitVec 2) (d : R5) (a : R5) (b : R5)   -- REDB, R201
  | addi (c : Nat) (d : R5) (a : R5) (imm : BitVec 16)   -- ADDI, R199
  | andi (c : Nat) (d : R5) (a : R5) (imm : BitVec 16)   -- ANDI, R199
  | ori (c : Nat) (d : R5) (a : R5) (imm : BitVec 16)   -- ORI, R199
  | xori (c : Nat) (d : R5) (a : R5) (imm : BitVec 16)   -- XORI, R199
  | lui (c : Nat) (d : R5) (a : R5) (imm : BitVec 16)   -- LUI, R199
  | slti (c : Nat) (d : R5) (a : R5) (imm : BitVec 16)   -- SLTI, R199
  | lw (c : Nat) (d : R5) (a : R5) (imm : BitVec 16)   -- LW, R199
  | lh (c : Nat) (d : R5) (a : R5) (imm : BitVec 16)   -- LH, R199
  | lhu (c : Nat) (d : R5) (a : R5) (imm : BitVec 16)   -- LHU, R199
  | lbu (c : Nat) (d : R5) (a : R5) (imm : BitVec 16)   -- LBU, R199
  | sw (c : Nat) (d : R5) (a : R5) (imm : BitVec 16)   -- SW, R199
  | sh (c : Nat) (d : R5) (a : R5) (imm : BitVec 16)   -- SH, R199
  | sb (c : Nat) (d : R5) (a : R5) (imm : BitVec 16)   -- SB, R199
  | beq (c : Nat) (a : R5) (b : R5) (off : BitVec 16)   -- BEQ, R216
  | bne (c : Nat) (a : R5) (b : R5) (off : BitVec 16)   -- BNE, R216
  | blt (c : Nat) (a : R5) (b : R5) (off : BitVec 16)   -- BLT, R216
  | bge (c : Nat) (a : R5) (b : R5) (off : BitVec 16)   -- BGE, R216
  | bltu (c : Nat) (a : R5) (b : R5) (off : BitVec 16)   -- BLTU, R216
  | bgeu (c : Nat) (a : R5) (b : R5) (off : BitVec 16)   -- BGEU, R216
  | j (c : Nat) (off : BitVec 26)   -- J, R216
  | jal (c : Nat) (off : BitVec 26)   -- JAL, R216
  | fld (c : Nat) (d : R5) (a : R5) (imm : BitVec 16)   -- FLD, R208
  | fst (c : Nat) (d : R5) (a : R5) (imm : BitVec 16)   -- FST, R208
  | fadd (c : Nat) (d : R5) (a : R5) (b : R5)   -- FADD, R208
  | fsub (c : Nat) (d : R5) (a : R5) (b : R5)   -- FSUB, R208
  | fmul (c : Nat) (d : R5) (a : R5) (b : R5)   -- FMUL, R208
  | fdiv (c : Nat) (d : R5) (a : R5) (b : R5)   -- FDIV, R208
  | fsqrt (c : Nat) (d : R5) (a : R5) (b : R5)   -- FSQRT, R208
  | fmadd (c : Nat) (d : R5) (a : R5) (b : R5)   -- FMADD, R208
  | fneg (c : Nat) (d : R5) (a : R5) (b : R5)   -- FNEG, R208
  | fabs (c : Nat) (d : R5) (a : R5) (b : R5)   -- FABS, R208
  | frint (c : Nat) (d : R5) (a : R5) (b : R5)   -- FRINT, R208
  | ffloor (c : Nat) (d : R5) (a : R5) (b : R5)   -- FFLOOR, R208
  | fcvtFS (c : Nat) (d : R5) (a : R5) (b : R5)   -- FCVT_F_S, R208
  | fcvtSF (c : Nat) (d : R5) (a : R5) (b : R5)   -- FCVT_S_F, R208
  | flt (c : Nat) (d : R5) (a : R5) (b : R5)   -- FLT, R208
  | feq (c : Nat) (d : R5) (a : R5) (b : R5)   -- FEQ, R208
  | fmvSLo (c : Nat) (d : R5) (a : R5) (b : R5)   -- FMV_S_LO, R208
  | fmvSHi (c : Nat) (d : R5) (a : R5) (b : R5)   -- FMV_S_HI, R208
  | fmvF (c : Nat) (d : R5) (a : R5) (b : R5)   -- FMV_F, R208
  | exit (c : Nat) (d : R5) (a : R5) (b : R5)   -- EXIT, R191
  | eret (c : Nat) (d : R5) (a : R5) (b : R5)   -- ERET, R211
  | valend (c : Nat) (d : R5) (a : R5) (b : R5)   -- VALEND, R191
  | setlenH (c : Nat) (d : R5) (a : R5) (b : R5)   -- SETLEN_H, R173
  | setlenW (c : Nat) (d : R5) (a : R5) (b : R5)   -- SETLEN_W, R173
  | mfc (c : Nat) (d : R5) (a : R5) (b : R5)   -- MFC, R209
  | mtc (c : Nat) (d : R5) (a : R5) (b : R5)   -- MTC, R209
  | slide (c : Nat) (d : R5) (a : R5) (b : R5)   -- SLIDE, R177
  | kldP1 (c : Nat) (d : R5) (a : R5) (b : R5)   -- KLD_P1, R182
  | kldU1 (c : Nat) (d : R5) (a : R5) (b : R5)   -- KLD_U1, R182
  | kldP2 (c : Nat) (d : R5) (a : R5) (b : R5)   -- KLD_P2, R182
  | kldU2 (c : Nat) (d : R5) (a : R5) (b : R5)   -- KLD_U2, R182
  | kldC (c : Nat) (d : R5) (a : R5) (b : R5)   -- KLD_C, R210
  | ent (c : Nat) (d : R5) (a : R5) (b : R5)   -- ENT, R183
  | dclW (c : Nat) (d : R5) (a : R5) (b : R5)   -- DCL_W, R184
  | dclM (c : Nat) (d : R5) (a : R5) (b : R5)   -- DCL_M, R184
  | ctxst (c : Nat) (d : R5) (a : R5) (b : R5)   -- CTXST, R210
  | vadd (c : Nat) (d : R5) (a : R5) (b : R5) (p : P3) (l : Bool) (e : Bool)   -- VADD, R198
  | vsub (c : Nat) (d : R5) (a : R5) (b : R5) (p : P3) (l : Bool) (e : Bool)   -- VSUB, R198
  | vsadd (c : Nat) (d : R5) (a : R5) (b : R5) (p : P3) (l : Bool) (e : Bool)   -- VSADD, R200
  | vssub (c : Nat) (d : R5) (a : R5) (b : R5) (p : P3) (l : Bool) (e : Bool)   -- VSSUB, R200
  | vsaddu (c : Nat) (d : R5) (a : R5) (b : R5) (p : P3) (l : Bool) (e : Bool)   -- VSADDU, R200
  | vssubu (c : Nat) (d : R5) (a : R5) (b : R5) (p : P3) (l : Bool) (e : Bool)   -- VSSUBU, R200
  | vmul (c : Nat) (d : R5) (a : R5) (b : R5) (p : P3) (l : Bool) (e : Bool)   -- VMUL, R198
  | vmulh (c : Nat) (d : R5) (a : R5) (b : R5) (p : P3) (l : Bool) (e : Bool)   -- VMULH, R200
  | vmulhu (c : Nat) (d : R5) (a : R5) (b : R5) (p : P3) (l : Bool) (e : Bool)   -- VMULHU, R200
  | vmulhr (c : Nat) (d : R5) (a : R5) (b : R5) (p : P3) (l : Bool) (e : Bool)   -- VMULHR, R200
  | vqdmulhr (c : Nat) (d : R5) (a : R5) (b : R5) (p : P3) (l : Bool) (e : Bool)   -- VQDMULHR, R200
  | vand (c : Nat) (d : R5) (a : R5) (b : R5) (p : P3) (l : Bool) (e : Bool)   -- VAND, R198
  | vor (c : Nat) (d : R5) (a : R5) (b : R5) (p : P3) (l : Bool) (e : Bool)   -- VOR, R198
  | vxor (c : Nat) (d : R5) (a : R5) (b : R5) (p : P3) (l : Bool) (e : Bool)   -- VXOR, R198
  | vandn (c : Nat) (d : R5) (a : R5) (b : R5) (p : P3) (l : Bool) (e : Bool)   -- VANDN, R198
  | vshl (c : Nat) (d : R5) (a : R5) (b : R5) (p : P3) (l : Bool) (e : Bool)   -- VSHL, R198
  | vshr (c : Nat) (d : R5) (a : R5) (b : R5) (p : P3) (l : Bool) (e : Bool)   -- VSHR, R198
  | vsra (c : Nat) (d : R5) (a : R5) (b : R5) (p : P3) (l : Bool) (e : Bool)   -- VSRA, R198
  | vshrr (c : Nat) (d : R5) (a : R5) (b : R5) (p : P3) (l : Bool) (e : Bool)   -- VSHRR, R200
  | vshrru (c : Nat) (d : R5) (a : R5) (b : R5) (p : P3) (l : Bool) (e : Bool)   -- VSHRRU, R200
  | vmin (c : Nat) (d : R5) (a : R5) (b : R5) (p : P3) (l : Bool) (e : Bool)   -- VMIN, R198
  | vmax (c : Nat) (d : R5) (a : R5) (b : R5) (p : P3) (l : Bool) (e : Bool)   -- VMAX, R198
  | vminu (c : Nat) (d : R5) (a : R5) (b : R5) (p : P3) (l : Bool) (e : Bool)   -- VMINU, R198
  | vmaxu (c : Nat) (d : R5) (a : R5) (b : R5) (p : P3) (l : Bool) (e : Bool)   -- VMAXU, R198
  | vsel (c : Nat) (d : R5) (a : R5) (b : R5) (p : P3) (l : Bool) (e : Bool)   -- VSEL, R175
  | vmov (c : Nat) (d : R5) (a : R5) (b : R5) (p : P3) (l : Bool) (e : Bool)   -- VMOV, R198
  | vsplat (c : Nat) (d : R5) (a : R5) (b : R5) (p : P3) (l : Bool) (e : Bool)   -- VSPLAT, R198
  | vext (c : Nat) (d : R5) (a : R5) (b : R5) (p : P3) (l : Bool) (e : Bool)   -- VEXT, R198
  | vins (c : Nat) (d : R5) (a : R5) (b : R5) (p : P3) (l : Bool) (e : Bool)   -- VINS, R198
  | vclmul (c : Nat) (d : R5) (a : R5) (b : R5) (p : P3) (l : Bool) (e : Bool)   -- VCLMUL, R205
  | vgfmul (c : Nat) (d : R5) (a : R5) (b : R5) (p : P3) (l : Bool) (e : Bool)   -- VGFMUL, R205
  | va2b (c : Nat) (d : R5) (a : R5) (b : R5) (p : P3) (l : Bool) (e : Bool)   -- VA2B, R206
  | vb2a (c : Nat) (d : R5) (a : R5) (b : R5) (p : P3) (l : Bool) (e : Bool)   -- VB2A, R206
  | vb2aq (c : Nat) (m : BitVec 2) (d : R5) (a : R5) (b : R5) (p : P3) (l : Bool) (e : Bool)   -- VB2AQ, R206
  | vaddi (c : Nat) (d : R5) (a : R5) (p : P3) (l : Bool) (e : Bool) (imm : BitVec 8)   -- VADDI, R198
  | vshli (c : Nat) (d : R5) (a : R5) (p : P3) (l : Bool) (e : Bool) (imm : BitVec 8)   -- VSHLI, R198
  | vshri (c : Nat) (d : R5) (a : R5) (p : P3) (l : Bool) (e : Bool) (imm : BitVec 8)   -- VSHRI, R198
  | vsrai (c : Nat) (d : R5) (a : R5) (p : P3) (l : Bool) (e : Bool) (imm : BitVec 8)   -- VSRAI, R198
  | vshrri (c : Nat) (d : R5) (a : R5) (p : P3) (l : Bool) (e : Bool) (imm : BitVec 8)   -- VSHRRI, R200
  | vshrrui (c : Nat) (d : R5) (a : R5) (p : P3) (l : Bool) (e : Bool) (imm : BitVec 8)   -- VSHRRUI, R200
  | vsplati (c : Nat) (d : R5) (a : R5) (p : P3) (l : Bool) (e : Bool) (imm : BitVec 8)   -- VSPLATI, R198
  | vandi (c : Nat) (d : R5) (a : R5) (p : P3) (l : Bool) (e : Bool) (imm : BitVec 8)   -- VANDI, R198
  | vcmpEq (c : Nat) (d : R5) (a : R5) (b : R5) (p : P3) (l : Bool) (e : Bool)   -- VCMP_EQ, R175
  | vcmpNe (c : Nat) (d : R5) (a : R5) (b : R5) (p : P3) (l : Bool) (e : Bool)   -- VCMP_NE, R175
  | vcmpLt (c : Nat) (d : R5) (a : R5) (b : R5) (p : P3) (l : Bool) (e : Bool)   -- VCMP_LT, R175
  | vcmpGe (c : Nat) (d : R5) (a : R5) (b : R5) (p : P3) (l : Bool) (e : Bool)   -- VCMP_GE, R175
  | vcmpLtu (c : Nat) (d : R5) (a : R5) (b : R5) (p : P3) (l : Bool) (e : Bool)   -- VCMP_LTU, R175
  | vcmpGeu (c : Nat) (d : R5) (a : R5) (b : R5) (p : P3) (l : Bool) (e : Bool)   -- VCMP_GEU, R175
  | vaddm (c : Nat) (m : BitVec 2) (d : R5) (a : R5) (b : R5) (p : P3) (l : Bool) (e : Bool)   -- VADDM, R201
  | vsubm (c : Nat) (m : BitVec 2) (d : R5) (a : R5) (b : R5) (p : P3) (l : Bool) (e : Bool)   -- VSUBM, R201
  | vnegm (c : Nat) (m : BitVec 2) (d : R5) (a : R5) (b : R5) (p : P3) (l : Bool) (e : Bool)   -- VNEGM, R201
  | vmulm (c : Nat) (m : BitVec 2) (d : R5) (a : R5) (b : R5) (p : P3) (l : Bool) (e : Bool)   -- VMULM, R201
  | vmulb (c : Nat) (m : BitVec 2) (d : R5) (a : R5) (b : R5) (p : P3) (l : Bool) (e : Bool)   -- VMULB, R201
  | vredb (c : Nat) (m : BitVec 2) (d : R5) (a : R5) (b : R5) (p : P3) (l : Bool) (e : Bool)   -- VREDB, R201
  | vredm (c : Nat) (m : BitVec 2) (d : R5) (a : R5) (b : R5) (p : P3) (l : Bool) (e : Bool)   -- VREDM, R201
  | vreds (c : Nat) (m : BitVec 2) (d : R5) (a : R5) (b : R5) (p : P3) (l : Bool) (e : Bool)   -- VREDS, R201
  | vcent (c : Nat) (m : BitVec 2) (d : R5) (a : R5) (b : R5) (p : P3) (l : Bool) (e : Bool)   -- VCENT, R201
  | bfct (c : Nat) (m : BitVec 2) (d : R5) (a : R5) (b : R5) (p : P3) (l : Bool) (e : Bool)   -- BFCT, R202
  | bfgs (c : Nat) (m : BitVec 2) (d : R5) (a : R5) (b : R5) (p : P3) (l : Bool) (e : Bool)   -- BFGS, R202
  | vcompr (c : Nat) (m : BitVec 2) (d : R5) (a : R5) (p : P3) (l : Bool) (e : Bool) (imm : BitVec 8)   -- VCOMPR, R203
  | vdecompr (c : Nat) (m : BitVec 2) (d : R5) (a : R5) (p : P3) (l : Bool) (e : Bool) (imm : BitVec 8)   -- VDECOMPR, R203
  | vpack (c : Nat) (d : R5) (a : R5) (p : P3) (l : Bool) (e : Bool) (imm : BitVec 8)   -- VPACK, R204
  | vunpack (c : Nat) (d : R5) (a : R5) (p : P3) (l : Bool) (e : Bool) (imm : BitVec 8)   -- VUNPACK, R204
  | pand (c : Nat) (d : R5) (a : R5) (b : R5) (p : P3) (l : Bool) (e : Bool)   -- PAND, R175
  | por (c : Nat) (d : R5) (a : R5) (b : R5) (p : P3) (l : Bool) (e : Bool)   -- POR, R175
  | pxor (c : Nat) (d : R5) (a : R5) (b : R5) (p : P3) (l : Bool) (e : Bool)   -- PXOR, R175
  | pandn (c : Nat) (d : R5) (a : R5) (b : R5) (p : P3) (l : Bool) (e : Bool)   -- PANDN, R175
  | plen (c : Nat) (d : R5) (a : R5) (b : R5) (p : P3) (l : Bool) (e : Bool)   -- PLEN, R175
  | pcnt (c : Nat) (d : R5) (a : R5) (b : R5) (p : P3) (l : Bool) (e : Bool)   -- PCNT, R175
  | vld (c : Nat) (d : R5) (a : R5) (p : P3) (l : Bool) (e : Bool) (off : BitVec 11)   -- VLD, R212
  | vst (c : Nat) (d : R5) (a : R5) (p : P3) (l : Bool) (e : Bool) (off : BitVec 11)   -- VST, R213
  | vldb (c : Nat) (d : R5) (a : R5) (b : R5) (p : P3) (l : Bool) (e : Bool)   -- VLDB, R212
  | vstb (c : Nat) (d : R5) (a : R5) (b : R5) (p : P3) (l : Bool) (e : Bool)   -- VSTB, R213
  | vgath (c : Nat) (d : R5) (a : R5) (b : R5) (p : P3) (l : Bool) (e : Bool)   -- VGATH, R212
  | vscat (c : Nat) (d : R5) (a : R5) (b : R5) (p : P3) (l : Bool) (e : Bool)   -- VSCAT, R213
  | sclaim (c : Nat) (d : R5) (a : R5) (b : R5) (p : P3) (l : Bool) (e : Bool)   -- SCLAIM, R214
  | sclaim2 (c : Nat) (d : R5) (a : R5) (b : R5) (p : P3) (l : Bool) (e : Bool)   -- SCLAIM2, R214
  | sabs (c : Nat) (d : R5) (a : R5) (b : R5) (p : P3) (l : Bool) (e : Bool)   -- SABS, R214
  | sabsb (c : Nat) (d : R5) (a : R5) (b : R5) (p : P3) (l : Bool) (e : Bool)   -- SABSB, R214
  | sfin (c : Nat) (d : R5) (a : R5) (b : R5) (p : P3) (l : Bool) (e : Bool)   -- SFIN, R214
  | ssqz (c : Nat) (d : R5) (a : R5) (b : R5) (p : P3) (l : Bool) (e : Bool)   -- SSQZ, R214
  | srel (c : Nat) (d : R5) (a : R5) (b : R5) (p : P3) (l : Bool) (e : Bool)   -- SREL, R214
  | vrej (c : Nat) (mode : BitVec 2) (unit : Bool) (z : Bool) (m : BitVec 2) (d : R5) (a : R5) (b : R5) (p : P3) (l : Bool) (e : Bool)   -- VREJ, R215
  | sqTailDoorbell (fn : Nat) (qp : Nat) (v : Word)   -- SQ_TAIL_DOORBELL, R88
  | cqHeadDoorbell (fn : Nat) (qp : Nat) (v : Word)   -- CQ_HEAD_DOORBELL, R90
  | qpCreate (fn : Nat) (qp : Nat) (v : Word)   -- QP_CREATE, R84
  | qpDelete (fn : Nat) (qp : Nat) (v : Word)   -- QP_DELETE, R87
  | qpDeleteDone (fn : Nat) (qp : Nat)   -- QP_DELETE_DONE, R87
  | descriptorFetch (fn : Nat) (qp : Nat) (desc : List Byte)   -- DESCRIPTOR_FETCH, R93
  | fenceStart (cmd : Nat)   -- FENCE_START, R103
  | chainSuccessorStart (cmd : Nat)   -- CHAIN_SUCCESSOR_START, R104
  | runPlace (cmd : Nat) (leg : Nat) (units : List Nat)   -- RUN_PLACE, R192
  | runFinish (cmd : Nat) (leg : Nat) (unit : Nat) (flip : Option Nat)   -- RUN_FINISH, R33
  | pendingCompletionWrite (fn : Nat) (qp : Nat)   -- PENDING_COMPLETION_WRITE, R90
  | coalTimeout (fn : Nat) (qp : Nat)   -- COAL_TIMEOUT, R109
  | linkReadFail (site : ReadSite)   -- LINK_READ_FAIL, R59
  | linkWriteFail (site : WriteSite)   -- LINK_WRITE_FAIL, R59
  | linkDown   -- LINK_DOWN, R59
  | hotReset   -- HOT_RESET, R59
  | pcieRemoteLoopback (enter : Bool)   -- PCIE_REMOTE_LOOPBACK, R412
  | encaps (cmd : Nat) (host : HostRead)   -- ENCAPS, R21
  | encapsCtx (cmd : Nat) (host : HostRead)   -- ENCAPS_CTX, R23
  | decaps (cmd : Nat) (host : HostRead)   -- DECAPS, R29
  | decapsCtx (cmd : Nat) (host : HostRead)   -- DECAPS_CTX, R23
  | sign (cmd : Nat) (host : HostRead)   -- SIGN, R31
  | signDet (cmd : Nat) (host : HostRead)   -- SIGN_DET, R21
  | signPh (cmd : Nat) (host : HostRead)   -- SIGN_PH, R421
  | signMu (cmd : Nat) (host : HostRead)   -- SIGN_MU, R38
  | signDetPh (cmd : Nat) (host : HostRead)   -- SIGN_DET_PH, R421
  | verify (cmd : Nat) (host : HostRead)   -- VERIFY, R28
  | verifyPh (cmd : Nat) (host : HostRead)   -- VERIFY_PH, R421
  | verifyMu (cmd : Nat) (host : HostRead)   -- VERIFY_MU, R38
  | agree (cmd : Nat) (host : HostRead)   -- AGREE, R45
  | agreeCtx (cmd : Nat) (host : HostRead)   -- AGREE_CTX, R23
  | encryptOaep (cmd : Nat) (host : HostRead)   -- ENCRYPT_OAEP, R44
  | decryptOaep (cmd : Nat) (host : HostRead)   -- DECRYPT_OAEP, R44
  | signPkcs1 (cmd : Nat) (host : HostRead)   -- SIGN_PKCS1, R43
  | signPss (cmd : Nat) (host : HostRead)   -- SIGN_PSS, R43
  | verifyPkcs1 (cmd : Nat) (host : HostRead)   -- VERIFY_PKCS1, R43
  | verifyPss (cmd : Nat) (host : HostRead)   -- VERIFY_PSS, R43
  | testVariant (cmd : Nat) (host : HostRead)   -- TEST_VARIANT, R17
  | journalWriteDone (h : Nat) (ok : Bool)   -- JOURNAL_WRITE_DONE, R155
  | generate (cmd : Nat) (host : HostRead)   -- GENERATE, R146
  | generateBlob (cmd : Nat) (host : HostRead)   -- GENERATE_BLOB, R147
  | import (cmd : Nat) (host : HostRead)   -- IMPORT, R145
  | derive (cmd : Nat) (host : HostRead)   -- DERIVE, R144
  | wrap (cmd : Nat) (host : HostRead)   -- WRAP, R149
  | unwrap (cmd : Nat) (host : HostRead)   -- UNWRAP, R150
  | stageGenerate (cmd : Nat) (host : HostRead)   -- STAGE_GENERATE, R151
  | stageUnwrap (cmd : Nat) (host : HostRead)   -- STAGE_UNWRAP, R151
  | stageVerify (cmd : Nat) (host : HostRead)   -- STAGE_VERIFY, R152
  | commit (cmd : Nat) (host : HostRead)   -- COMMIT, R153
  | discard (cmd : Nat) (host : HostRead)   -- DISCARD, R151
  | destroy (cmd : Nat) (host : HostRead)   -- DESTROY, R154
  | retiringDrainEnd (h : Nat) (gen : Nat)   -- RETIRING_DRAIN_END, R30
  | blobEpoch (cmd : Nat) (host : HostRead)   -- BLOB_EPOCH, R148
  | ctxClear (cmd : Nat) (host : HostRead)   -- CTX_CLEAR, R141
  | publicExport (cmd : Nat) (host : HostRead)   -- PUBLIC_EXPORT, R143
  | attributes (cmd : Nat) (host : HostRead)   -- ATTRIBUTES, R132
  | blobTable (cmd : Nat) (host : HostRead)   -- BLOB_TABLE, R147
  | opmFormat (cmd : Nat) (host : HostRead)   -- OPM_FORMAT, R262
  | opmRun (cmd : Nat) (host : HostRead)   -- OPM_RUN, R263
  | unsealDone   -- UNSEAL_DONE, R138
  | codeKeyPortion (h : Nat) (ok : Bool)   -- CODE_KEY_PORTION, R139
  | codeKeyEntryFreed   -- CODE_KEY_ENTRY_FREED, R140
  | hteRebuildDone (h : Nat)   -- HTE_REBUILD_DONE, R223
  | digest (cmd : Nat) (host : HostRead)   -- DIGEST, R230
  | mac (cmd : Nat) (host : HostRead)   -- MAC, R230
  | macVerify (cmd : Nat) (host : HostRead)   -- MAC_VERIFY, R232
  | init (cmd : Nat) (host : HostRead)   -- INIT, R231
  | update (cmd : Nat) (host : HostRead)   -- UPDATE, R234
  | final (cmd : Nat) (host : HostRead)   -- FINAL, R234
  | finalVerify (cmd : Nat) (host : HostRead)   -- FINAL_VERIFY, R234
  | save (cmd : Nat) (host : HostRead)   -- SAVE, R238
  | restore (cmd : Nat) (host : HostRead)   -- RESTORE, R239
  | release (cmd : Nat) (host : HostRead)   -- RELEASE, R234
  | epochAdvance (cmd : Nat) (host : HostRead)   -- EPOCH_ADVANCE, R239
  | dgeTurnEnd (cmd : Nat) (turn : Machine.TurnEnd)   -- DGE_TURN_END, R237
  | dgeSlotWaitEnd (cmd : Nat)   -- DGE_SLOT_WAIT_END, R236
  | spillWriteFail   -- SPILL_WRITE_FAIL, R242
  | check (cmd : Nat) (host : HostRead)   -- CHECK, R247
  | checkVerify (cmd : Nat) (host : HostRead)   -- CHECK_VERIFY, R247
  | chkCfgWrite (off : Nat) (v : Word)   -- CHK_CFG_WRITE, R245
  | random (cmd : Nat) (host : HostRead)   -- RANDOM, R278
  | randomCtx (cmd : Nat) (host : HostRead)   -- RANDOM_CTX, R278
  | rawCapture (cmd : Nat) (host : HostRead) (samples : List Byte) (fails : List (Nat × Nat × Nat)) (fb : List (Nat × Nat))   -- RAW_CAPTURE, R279
  | batch (cmd : Nat) (host : HostRead)   -- BATCH, R105
  | campaign (cmd : Nat) (host : HostRead)   -- CAMPAIGN, R105
  | abortBatch (cmd : Nat) (host : HostRead)   -- ABORT_BATCH, R108
  | batchMemberDispatch (batch : Nat) (rec : List Byte)   -- BATCH_MEMBER_DISPATCH, R106
  | kernelCommand (cmd : Nat) (host : HostRead)   -- KERNEL_COMMAND, R191
  | validationPhaseTimeout (c : Nat)   -- VALIDATION_PHASE_TIMEOUT, R191
  | kernelWatchdog (c : Nat)   -- KERNEL_WATCHDOG, R185
  | spongeClaimGrant (cl : Nat)   -- SPONGE_CLAIM_GRANT, R166
  | sramAllotGrant (cl : Nat)   -- SRAM_ALLOT_GRANT, R165
  | maskStreamResume (c : Nat)   -- MASK_STREAM_RESUME, R168
  | entChunkArrival (cmd : Nat)   -- ENT_CHUNK_ARRIVAL, R183
  | slideRefillDone (c : Nat) (data : List Byte)   -- SLIDE_REFILL_DONE, R177
  | kldDelivered (c : Nat)   -- KLD_DELIVERED, R182
  | pvcScrubDone (c : Nat)   -- PVC_SCRUB_DONE, R193
  | dedicationDrainTimeout   -- DEDICATION_DRAIN_TIMEOUT, R73
  | applyClustersDone   -- APPLY_CLUSTERS_DONE, R73
  | vfmSel (v : Word)   -- VFM_SEL, R67
  | applyAllot (v : Word)   -- APPLY_ALLOT, R68
  | applyCtx (v : Word)   -- APPLY_CTX, R68
  | applyInflight (v : Word)   -- APPLY_INFLIGHT, R68
  | applyKey (v : Word)   -- APPLY_KEY, R68
  | applyClusters (v : Word)   -- APPLY_CLUSTERS, R71
  | applyOpm (v : Word)   -- APPLY_OPM, R260
  | applySpill (v : Word)   -- APPLY_SPILL, R68
  | quiesceStart (v : Word)   -- QUIESCE_START, R78
  | quiesceRelease (v : Word)   -- QUIESCE_RELEASE, R78
  | quiesceDone (fn : Nat)   -- QUIESCE_DONE, R78
  | flr (fn : Nat)   -- FLR, R75
  | flrDone (fn : Nat)   -- FLR_DONE, R75
  | readDrainTimeout (fn : Nat)   -- READ_DRAIN_TIMEOUT, R75
  | pf0Flr   -- PF0_FLR, R79
  | vfEnableClear   -- VF_ENABLE_CLEAR, R79
  | vfEnableSet   -- VF_ENABLE_SET, R55
  | numvfsWrite (n : Nat)   -- NUMVFS_WRITE, R55
  | mbxGo (fn : Nat) (ch : Nat)   -- MBX_GO, R118
  | mbxCancel (fn : Nat) (ch : Nat)   -- MBX_CANCEL, R118
  | mbxAck (fn : Nat) (ch : Nat)   -- MBX_ACK, R118
  | devInfo (fn : Nat) (ch : Nat)   -- DEV_INFO, R122
  | configRead (fn : Nat) (ch : Nat)   -- CONFIG_READ, R305
  | configPush (fn : Nat) (ch : Nat) (req : List Byte)   -- CONFIG_PUSH, R305
  | curveRecordChecked (i : Nat)   -- CURVE_RECORD_CHECKED, R258
  | curveSwitch (i : Nat)   -- CURVE_SWITCH, R259
  | outcomeQuery (fn : Nat) (ch : Nat)   -- OUTCOME_QUERY, R120
  | resQuery (fn : Nat) (ch : Nat)   -- RES_QUERY, R63
  | fnQuiesce (fn : Nat) (ch : Nat)   -- FN_QUIESCE, R78
  | keyList (fn : Nat) (ch : Nat)   -- KEY_LIST, R132
  | keyDestroyFn (fn : Nat) (ch : Nat)   -- KEY_DESTROY_FN, R77
  | setPolicy (fn : Nat) (ch : Nat)   -- SET_POLICY, R135
  | setLeafBlock (fn : Nat) (ch : Nat)   -- SET_LEAF_BLOCK, R156
  | ackLost (fn : Nat) (ch : Nat)   -- ACK_LOST, R159
  | ckArea (fn : Nat) (ch : Nat)   -- CK_AREA, R140
  | kernelLoad (fn : Nat) (ch : Nat) (req : List Byte)   -- KERNEL_LOAD, R190
  | kernelUnload (fn : Nat) (ch : Nat)   -- KERNEL_UNLOAD, R190
  | kernelUnloadDone (op : Nat)   -- KERNEL_UNLOAD_DONE, R190
  | grant (fn : Nat) (ch : Nat)   -- GRANT, R190
  | revoke (fn : Nat) (ch : Nat)   -- REVOKE, R190
  | signerSet (fn : Nat) (ch : Nat) (req : List Byte)   -- SIGNER_SET, R190
  | signerClear (fn : Nat) (ch : Nat)   -- SIGNER_CLEAR, R190
  | kernelList (fn : Nat) (ch : Nat)   -- KERNEL_LIST, R190
  | attest (fn : Nat) (ch : Nat) (req : Machine.HostRead)   -- ATTEST, R163
  | sillageRead (fn : Nat) (ch : Nat)   -- SILLAGE_READ, R162
  | certRead (fn : Nat) (ch : Nat)   -- CERT_READ, R163
  | lcTransition (fn : Nat) (ch : Nat) (req : List Byte)   -- LC_TRANSITION, R352
  | debugChallenge (fn : Nat) (ch : Nat)   -- DEBUG_CHALLENGE, R355
  | debugResponse (fn : Nat) (ch : Nat) (req : List Byte)   -- DEBUG_RESPONSE, R356
  | lcsDbgEnd (v : Word)   -- LCS_DBG_END, R356
  | debugSessionExpiry   -- DEBUG_SESSION_EXPIRY, R356
  | nonceExpiry (purpose : Nat)   -- NONCE_EXPIRY, R355
  | tmpConfig (fn : Nat) (ch : Nat) (req : List Byte)   -- TMP_CONFIG, R335
  | tmpLock (fn : Nat) (ch : Nat)   -- TMP_LOCK, R337
  | peatLogRead (fn : Nat) (ch : Nat)   -- PEAT_LOG_READ, R343
  | spillFn (fn : Nat) (ch : Nat)   -- SPILL_FN, R411
  | rekey (fn : Nat) (ch : Nat)   -- REKEY, R411
  | rejoin (fn : Nat) (ch : Nat)   -- REJOIN, R411
  | create (fn : Nat) (ch : Nat) (req : List Byte)   -- CREATE, R406
  | join (fn : Nat) (ch : Nat) (req : List Byte)   -- JOIN, R406
  | addKey (fn : Nat) (ch : Nat)   -- ADD_KEY, R407
  | leave (fn : Nat) (ch : Nat)   -- LEAVE, R406
  | status (fn : Nat) (ch : Nat)   -- STATUS, R406
  | fabRestore (fn : Nat) (ch : Nat)   -- FAB_RESTORE, R409
  | quorumOpen (fn : Nat) (ch : Nat) (req : List Byte)   -- QUORUM_OPEN, R382
  | quorumClose (fn : Nat) (ch : Nat)   -- QUORUM_CLOSE, R383
  | quorumWaitTimeout   -- QUORUM_WAIT_TIMEOUT, R382
  | quorumLifetimeExpiry   -- QUORUM_LIFETIME_EXPIRY, R383
  | escrowWrite (fn : Nat) (ch : Nat) (req : List Byte)   -- ESCROW_WRITE, R393
  | escrowRestore (fn : Nat) (ch : Nat)   -- ESCROW_RESTORE, R394
  | fwStage (fn : Nat) (ch : Nat) (req : List Byte)   -- FW_STAGE, R123
  | fwVerify (fn : Nat) (ch : Nat)   -- FW_VERIFY, R123
  | fwActivate (fn : Nat) (ch : Nat)   -- FW_ACTIVATE, R123
  | fwConfirm (fn : Nat) (ch : Nat)   -- FW_CONFIRM, R123
  | fwCommitSvn (fn : Nat) (ch : Nat)   -- FW_COMMIT_SVN, R123
  | fwStatus (fn : Nat) (ch : Nat)   -- FW_STATUS, R124
  | kindlingLoad (fn : Nat) (ch : Nat) (req : List Byte)   -- KINDLING_LOAD, R300
  | trialReadyTimeout   -- TRIAL_READY_TIMEOUT, R124
  | lockstepMismatch   -- LOCKSTEP_MISMATCH, R125
  | pairSelftestDone (pass : Bool)   -- PAIR_SELFTEST_DONE, R125
  | dispatchWatchdog (core : Nat) (jobs : List Nat)   -- DISPATCH_WATCHDOG, R126
  | hearthWatchdog   -- HEARTH_WATCHDOG, R127
  | vinValid (a : Nat) (b : Nat) (c : Nat)   -- VIN_VALID, R291
  | vinLoss (cell : Bool)   -- VIN_LOSS, R340
  | vinOvervoltage (cell : Bool)   -- VIN_OVERVOLTAGE, R317
  | bellowsDecision (v : Nat) (v50 : Nat)   -- BELLOWS_DECISION, R284
  | domainRampDone (d : Nat)   -- DOMAIN_RAMP_DONE, R285
  | admissionTestDone (unit : Nat) (pass : Bool)   -- ADMISSION_TEST_DONE, R285
  | idleGate (d : Nat)   -- IDLE_GATE, R286
  | vinDerate (v : Nat)   -- VIN_DERATE, R287
  | inputCurrentLimit (v : Nat)   -- INPUT_CURRENT_LIMIT, R316
  | wakePermitFound   -- WAKE_PERMIT_FOUND, R288
  | permitHoldTimeout   -- PERMIT_HOLD_TIMEOUT, R289
  | permitWaitTimeout   -- PERMIT_WAIT_TIMEOUT, R290
  | resetNAssert   -- RESET_N_ASSERT, R292
  | resetExit (a : Nat) (b : Nat) (c : Nat)   -- RESET_EXIT, R292
  | heldOff   -- HELD_OFF, R293
  | heldOffRelease (a : Nat) (b : Nat) (c : Nat)   -- HELD_OFF_RELEASE, R293
  | perstNFall   -- PERST_N_FALL, R294
  | perstNRise   -- PERST_N_RISE, R294
  | thermalTrip   -- THERMAL_TRIP, R296
  | thermalRecover   -- THERMAL_RECOVER, R296
  | vioLow   -- VIO_LOW, R318
  | vioRestored   -- VIO_RESTORED, R318
  | rstCtrlFull (v : Word)   -- RST_CTRL_FULL, R295
  | rstCtrlHio (v : Word)   -- RST_CTRL_HIO, R291
  | softwareResetStart   -- SOFTWARE_RESET_START, R295
  | kindlingStart (dud : Nat)   -- KINDLING_START, R299
  | firmwareStart (found : Machine.BootFind)   -- FIRMWARE_START, R301
  | smbusRead (bus : Nat) (code : Nat)   -- SMBUS_READ, R326
  | tamperEvent (srcs : List Nat) (chans : List Nat)   -- TAMPER_EVENT, R330
  | eraseLineRelease   -- ERASE_LINE_RELEASE, R333
  | tmpBistInterval (rails : List (Nat × Nat))   -- TMP_BIST_INTERVAL, R338
  | tmpTestGo (v : Word)   -- TMP_TEST_GO, R338
  | tmpChannelTestDone (pass : Bool)   -- TMP_CHANNEL_TEST_DONE, R338
  | peatScan (fails : List (Nat × Nat))   -- PEAT_SCAN, R341
  | vbatBackupAlarm (gone : Bool)   -- VBAT_BACKUP_ALARM, R346
  | peatRtcHiWrite (v : Word)   -- PEAT_RTC_HI_WRITE, R345
  | peatRtcLoWrite (v : Word)   -- PEAT_RTC_LO_WRITE, R345
  | peatCntInc (v : Word)   -- PEAT_CNT_INC, R344
  | nrgWindowEnd (obs : List (Nat × List Byte))   -- NRG_WINDOW_END, R272
  | nrgBlock (take : NrgTake)   -- NRG_BLOCK, R268
  | keyGradeGrant   -- KEY_GRADE_GRANT, R271
  | nrgWaitLimit (who : NrgWho)   -- NRG_WAIT_LIMIT, R276
  | nrgRestart   -- NRG_RESTART, R275
  | nrgStartupDone (g : Nat) (fb : List (Nat × Nat)) (obs : List (Nat × List Byte))   -- NRG_STARTUP_DONE, R273
  | expanderReseedRequest (e : Nat)   -- EXPANDER_RESEED_REQUEST, R277
  | expanderUrgent (e : Nat)   -- EXPANDER_URGENT, R277
  | expanderHardLimit (e : Nat)   -- EXPANDER_HARD_LIMIT, R277
  | fltEvent (src : Nat) (cls : Nat) (arg : Nat)   -- FLT_EVENT, R361
  | fltRailBreak (src : Nat) (cls : Nat)   -- FLT_RAIL_BREAK, R360
  | flueTransferError (region : Nat) (chan : Nat)   -- FLUE_TRANSFER_ERROR, R364
  | flueHandshakeTimeout (region : Nat) (chan : Nat)   -- FLUE_HANDSHAKE_TIMEOUT, R364
  | unitSelftestDone (u : Nat) (pass : Bool)   -- UNIT_SELFTEST_DONE, R368
  | scPresence (port : Nat)   -- SC_PRESENCE, R373
  | scAtr (port : Nat) (atr : List Byte) (pps : List Byte)   -- SC_ATR, R375
  | scAtrTimeout (port : Nat)   -- SC_ATR_TIMEOUT, R374
  | scApduResponse (port : Nat) (resp : Machine.CardAnswer)   -- SC_APDU_RESPONSE, R379
  | scApduTimeout (port : Nat)   -- SC_APDU_TIMEOUT, R377
  | scRemoval (port : Nat)   -- SC_REMOVAL, R378
  | cardOvercurrent (port : Nat)   -- CARD_OVERCURRENT, R322
  | mc0Insert (card : McCard)   -- MC0_INSERT, R384
  | mc0Remove   -- MC0_REMOVE, R390
  | mc0BusyEnd (answered : Bool) (good : Bool) (back : List (Nat × List Byte))   -- MC0_BUSY_END, R387
  | mc0BusyTimeout   -- MC0_BUSY_TIMEOUT, R387
  | mc0IdleSleep   -- MC0_IDLE_SLEEP, R389
  | wolumTrainingDone (k : Nat) (lanes : Nat)   -- WOLUM_TRAINING_DONE, R398
  | linkHandshakeMessage (k : Nat) (m : ShakeMsg)   -- LINK_HANDSHAKE_MESSAGE, R400
  | wolumFlitReceive (k : Nat) (errs : Nat) (flit : List Byte)   -- WOLUM_FLIT_RECEIVE, R399
  | linkRekeyTimer (k : Nat)   -- LINK_REKEY_TIMER, R400
  | helloTimer   -- HELLO_TIMER, R402
  | helloReceive (k : Nat) (h : Hello)   -- HELLO_RECEIVE, R402
  | linkStateReceive (k : Nat) (addr : Nat) (ports : List (Nat × Nat))   -- LINK_STATE_RECEIVE, R404
  | e2eResendTimeout (msg : Nat)   -- E2E_RESEND_TIMEOUT, R404
  | fabricMessage (src : List Byte) (id : Nat) (body : FabMsg)   -- FABRIC_MESSAGE, R408
  | spillPeerTimeout (cmd : Nat)   -- SPILL_PEER_TIMEOUT, R410
  | syncPulseOut   -- SYNC_PULSE_OUT, R396
  | syncInPulse   -- SYNC_IN_PULSE, R396
  | fabricTimeSync (ts : Nat)   -- FABRIC_TIME_SYNC, R397
  | srdLbGo (v : Word) (jtag : Bool)   -- SRD_LB_GO, R413
  | srdLbStop (v : Word) (errs : Nat) (bits : Nat)   -- SRD_LB_STOP, R413
  | srdUnitTestGo (v : Word)   -- SRD_UNIT_TEST_GO, R416
  | injectFltEvent (v : Word)   -- INJECT_FLT_EVENT, R417
  | injectRunCorruption (v : Word)   -- INJECT_RUN_CORRUPTION, R417
  | injectTamperChannel (v : Word)   -- INJECT_TAMPER_CHANNEL, R417
  | injectTamperAlarm (v : Word)   -- INJECT_TAMPER_ALARM, R417
  | opmWindowWrite (off : Nat) (v : Word)   -- OPM_WINDOW_WRITE, R266
  | opmWindowRead (off : Nat)   -- OPM_WINDOW_READ, R262
  | pvcDiagViewWrite (cl : Nat) (off : Nat) (v : Word)   -- PVC_DIAG_VIEW_WRITE, R194
  | rcRead (fn : Nat) (bar : Nat) (off : Nat) (be : Nat)   -- RC_READ, R14
  | registerWrite (fn : Nat) (bar : Nat) (off : Nat) (v : Word) (be : Nat)   -- REGISTER_WRITE, R12
  | pcieLinkUp   -- PCIE_LINK_UP, R306
  | wolumPortDown (k : Nat)   -- WOLUM_PORT_DOWN, R399
  | scWaitingTimeExpiry (port : Nat)   -- SC_WAITING_TIME_EXPIRY, R377
  | jtagTapAccess (trst : Bool) (ins : JtagIns) (data : List Byte)   -- JTAG_TAP_ACCESS, R358
  | bootSpiAccess (item : FlashItem)   -- BOOT_SPI_ACCESS, R312
deriving DecidableEq, Repr

end Sys2Proof
end

