-- ==== Sys2Proof/Decode.lean ====
section
/-!
DEFINITION. Decoding. The rows of spec/opcode_table.json give no bits, so decodeTableWord answers none for every word. The vector
instruction set has encodings of its own (spec file 07, R195 to R197): decodePvc reads a 32-bit instruction word as the command
that names it on core c, and encodePvc writes the word of such a command. A word whose major opcode or func the chapter does not
define has no command: the core traps ILLEGAL on it (R197).
-/
namespace Sys2Proof
open Sys2Proof.Machine

/-- The command a table word spells: the table gives no row any bits. -/
def decodeTableWord (_nbits _w : Nat) : Option Instr := none

/-! Fields of an instruction word (R196). -/

def ifMajor (w : Word) : BitVec 6 := w.extractLsb' 26 6
def ifD (w : Word) : R5 := w.extractLsb' 21 5
def ifA (w : Word) : R5 := w.extractLsb' 16 5
def ifB (w : Word) : R5 := w.extractLsb' 11 5
def ifFunc11 (w : Word) : BitVec 11 := w.extractLsb' 0 11
def ifImm16 (w : Word) : BitVec 16 := w.extractLsb' 0 16
def ifOff26 (w : Word) : BitVec 26 := w.extractLsb' 0 26
def ifBit (w : Word) (i : Nat) : Bool := w.getLsbD i
/-- Format V. -/
def ifPV (w : Word) : P3 := w.extractLsb' 8 3
def ifFunc6 (w : Word) : BitVec 6 := w.extractLsb' 0 6
/-- Formats VI and M. -/
def ifPI (w : Word) : P3 := w.extractLsb' 13 3
def ifFunc3 (w : Word) : BitVec 3 := w.extractLsb' 8 3
def ifImm8 (w : Word) : BitVec 8 := w.extractLsb' 0 8
def ifOff11 (w : Word) : BitVec 11 := w.extractLsb' 0 11

/-- A word of format SR, SI, B, J, V, VI, M (R196). -/
def wSR (maj : BitVec 6) (d a b : R5) (func : BitVec 11) : Word := maj ++ d ++ a ++ b ++ func
def wSI (maj : BitVec 6) (d a : R5) (imm : BitVec 16) : Word := maj ++ d ++ a ++ imm
def wJ (maj : BitVec 6) (off : BitVec 26) : Word := maj ++ off
def wV (maj : BitVec 6) (d a b : R5) (p : P3) (l e : Bool) (func : BitVec 6) : Word :=
  maj ++ d ++ a ++ b ++ p ++ BitVec.ofBool l ++ BitVec.ofBool e ++ func
def wVI (maj : BitVec 6) (d a : R5) (p : P3) (l e : Bool) (func : BitVec 3) (imm : BitVec 8) : Word :=
  maj ++ d ++ a ++ p ++ BitVec.ofBool l ++ BitVec.ofBool e ++ func ++ imm
def wM (maj : BitVec 6) (d a : R5) (p : P3) (l e : Bool) (off : BitVec 11) : Word :=
  maj ++ d ++ a ++ p ++ BitVec.ofBool l ++ BitVec.ofBool e ++ off

/-- Major 0x00: func 10:0. -/
def decMajor00 (c : Nat) (w : Word) : Option Instr :=
  match (ifFunc11 w).toNat with
  | 0x000 => some (.nop c (ifD w) (ifA w) (ifB w))
  | 0x001 => some (.exit c (ifD w) (ifA w) (ifB w))
  | 0x002 => some (.eret c (ifD w) (ifA w) (ifB w))
  | 0x003 => some (.valend c (ifD w) (ifA w) (ifB w))
  | 0x004 => some (.setlenH c (ifD w) (ifA w) (ifB w))
  | 0x005 => some (.setlenW c (ifD w) (ifA w) (ifB w))
  | 0x006 => some (.mfc c (ifD w) (ifA w) (ifB w))
  | 0x007 => some (.mtc c (ifD w) (ifA w) (ifB w))
  | 0x008 => some (.slide c (ifD w) (ifA w) (ifB w))
  | 0x020 => some (.kldP1 c (ifD w) (ifA w) (ifB w))
  | 0x021 => some (.kldU1 c (ifD w) (ifA w) (ifB w))
  | 0x022 => some (.kldP2 c (ifD w) (ifA w) (ifB w))
  | 0x023 => some (.kldU2 c (ifD w) (ifA w) (ifB w))
  | 0x024 => some (.kldC c (ifD w) (ifA w) (ifB w))
  | 0x028 => some (.ent c (ifD w) (ifA w) (ifB w))
  | 0x029 => some (.dclW c (ifD w) (ifA w) (ifB w))
  | 0x02A => some (.dclM c (ifD w) (ifA w) (ifB w))
  | 0x02B => some (.ctxst c (ifD w) (ifA w) (ifB w))
  | _ => none

/-- Major 0x01: func 10:0. -/
def decMajor01 (c : Nat) (w : Word) : Option Instr :=
  match (ifFunc11 w).toNat with
  | 0x000 => some (.add c (ifD w) (ifA w) (ifB w))
  | 0x001 => some (.sub c (ifD w) (ifA w) (ifB w))
  | 0x002 => some (.and c (ifD w) (ifA w) (ifB w))
  | 0x003 => some (.or c (ifD w) (ifA w) (ifB w))
  | 0x004 => some (.xor c (ifD w) (ifA w) (ifB w))
  | 0x005 => some (.sll c (ifD w) (ifA w) (ifB w))
  | 0x006 => some (.srl c (ifD w) (ifA w) (ifB w))
  | 0x007 => some (.sra c (ifD w) (ifA w) (ifB w))
  | 0x008 => some (.slt c (ifD w) (ifA w) (ifB w))
  | 0x009 => some (.sltu c (ifD w) (ifA w) (ifB w))
  | 0x00A => some (.mul c (ifD w) (ifA w) (ifB w))
  | 0x00B => some (.mulh c (ifD w) (ifA w) (ifB w))
  | 0x00C => some (.mulhu c (ifD w) (ifA w) (ifB w))
  | 0x00D => some (.min c (ifD w) (ifA w) (ifB w))
  | 0x00E => some (.max c (ifD w) (ifA w) (ifB w))
  | 0x00F => some (.minu c (ifD w) (ifA w) (ifB w))
  | 0x010 => some (.maxu c (ifD w) (ifA w) (ifB w))
  | 0x020 => some (.slli c (ifD w) (ifA w) (ifB w))
  | 0x021 => some (.srli c (ifD w) (ifA w) (ifB w))
  | 0x022 => some (.srai c (ifD w) (ifA w) (ifB w))
  | 0x030 => some (.jr c (ifD w) (ifA w) (ifB w))
  | 0x040 => some (.addm c false 0 (ifD w) (ifA w) (ifB w))
  | 0x041 => some (.addm c false 1 (ifD w) (ifA w) (ifB w))
  | 0x042 => some (.addm c false 2 (ifD w) (ifA w) (ifB w))
  | 0x043 => some (.addm c false 3 (ifD w) (ifA w) (ifB w))
  | 0x044 => some (.addm c true 0 (ifD w) (ifA w) (ifB w))
  | 0x045 => some (.addm c true 1 (ifD w) (ifA w) (ifB w))
  | 0x046 => some (.addm c true 2 (ifD w) (ifA w) (ifB w))
  | 0x047 => some (.addm c true 3 (ifD w) (ifA w) (ifB w))
  | 0x048 => some (.subm c false 0 (ifD w) (ifA w) (ifB w))
  | 0x049 => some (.subm c false 1 (ifD w) (ifA w) (ifB w))
  | 0x04A => some (.subm c false 2 (ifD w) (ifA w) (ifB w))
  | 0x04B => some (.subm c false 3 (ifD w) (ifA w) (ifB w))
  | 0x04C => some (.subm c true 0 (ifD w) (ifA w) (ifB w))
  | 0x04D => some (.subm c true 1 (ifD w) (ifA w) (ifB w))
  | 0x04E => some (.subm c true 2 (ifD w) (ifA w) (ifB w))
  | 0x04F => some (.subm c true 3 (ifD w) (ifA w) (ifB w))
  | 0x050 => some (.mulm c false 0 (ifD w) (ifA w) (ifB w))
  | 0x051 => some (.mulm c false 1 (ifD w) (ifA w) (ifB w))
  | 0x052 => some (.mulm c false 2 (ifD w) (ifA w) (ifB w))
  | 0x053 => some (.mulm c false 3 (ifD w) (ifA w) (ifB w))
  | 0x054 => some (.mulm c true 0 (ifD w) (ifA w) (ifB w))
  | 0x055 => some (.mulm c true 1 (ifD w) (ifA w) (ifB w))
  | 0x056 => some (.mulm c true 2 (ifD w) (ifA w) (ifB w))
  | 0x057 => some (.mulm c true 3 (ifD w) (ifA w) (ifB w))
  | 0x058 => some (.mulb c false 0 (ifD w) (ifA w) (ifB w))
  | 0x059 => some (.mulb c false 1 (ifD w) (ifA w) (ifB w))
  | 0x05A => some (.mulb c false 2 (ifD w) (ifA w) (ifB w))
  | 0x05B => some (.mulb c false 3 (ifD w) (ifA w) (ifB w))
  | 0x05C => some (.mulb c true 0 (ifD w) (ifA w) (ifB w))
  | 0x05D => some (.mulb c true 1 (ifD w) (ifA w) (ifB w))
  | 0x05E => some (.mulb c true 2 (ifD w) (ifA w) (ifB w))
  | 0x05F => some (.mulb c true 3 (ifD w) (ifA w) (ifB w))
  | 0x060 => some (.redb c false 0 (ifD w) (ifA w) (ifB w))
  | 0x061 => some (.redb c false 1 (ifD w) (ifA w) (ifB w))
  | 0x062 => some (.redb c false 2 (ifD w) (ifA w) (ifB w))
  | 0x063 => some (.redb c false 3 (ifD w) (ifA w) (ifB w))
  | 0x064 => some (.redb c true 0 (ifD w) (ifA w) (ifB w))
  | 0x065 => some (.redb c true 1 (ifD w) (ifA w) (ifB w))
  | 0x066 => some (.redb c true 2 (ifD w) (ifA w) (ifB w))
  | 0x067 => some (.redb c true 3 (ifD w) (ifA w) (ifB w))
  | _ => none

/-- Major 0x1C: func 10:0. -/
def decMajor1C (c : Nat) (w : Word) : Option Instr :=
  match (ifFunc11 w).toNat with
  | 0x000 => some (.fadd c (ifD w) (ifA w) (ifB w))
  | 0x001 => some (.fsub c (ifD w) (ifA w) (ifB w))
  | 0x002 => some (.fmul c (ifD w) (ifA w) (ifB w))
  | 0x003 => some (.fdiv c (ifD w) (ifA w) (ifB w))
  | 0x004 => some (.fsqrt c (ifD w) (ifA w) (ifB w))
  | 0x005 => some (.fmadd c (ifD w) (ifA w) (ifB w))
  | 0x006 => some (.fneg c (ifD w) (ifA w) (ifB w))
  | 0x007 => some (.fabs c (ifD w) (ifA w) (ifB w))
  | 0x008 => some (.frint c (ifD w) (ifA w) (ifB w))
  | 0x009 => some (.ffloor c (ifD w) (ifA w) (ifB w))
  | 0x00A => some (.fcvtFS c (ifD w) (ifA w) (ifB w))
  | 0x00B => some (.fcvtSF c (ifD w) (ifA w) (ifB w))
  | 0x00C => some (.flt c (ifD w) (ifA w) (ifB w))
  | 0x00D => some (.feq c (ifD w) (ifA w) (ifB w))
  | 0x00E => some (.fmvSLo c (ifD w) (ifA w) (ifB w))
  | 0x00F => some (.fmvSHi c (ifD w) (ifA w) (ifB w))
  | 0x010 => some (.fmvF c (ifD w) (ifA w) (ifB w))
  | _ => none

/-- Major 0x20: func 5:0. -/
def decMajor20 (c : Nat) (w : Word) : Option Instr :=
  match (ifFunc6 w).toNat with
  | 0x00 => some (.vadd c (ifD w) (ifA w) (ifB w) (ifPV w) (ifBit w 7) (ifBit w 6))
  | 0x01 => some (.vsub c (ifD w) (ifA w) (ifB w) (ifPV w) (ifBit w 7) (ifBit w 6))
  | 0x02 => some (.vsadd c (ifD w) (ifA w) (ifB w) (ifPV w) (ifBit w 7) (ifBit w 6))
  | 0x03 => some (.vssub c (ifD w) (ifA w) (ifB w) (ifPV w) (ifBit w 7) (ifBit w 6))
  | 0x04 => some (.vsaddu c (ifD w) (ifA w) (ifB w) (ifPV w) (ifBit w 7) (ifBit w 6))
  | 0x05 => some (.vssubu c (ifD w) (ifA w) (ifB w) (ifPV w) (ifBit w 7) (ifBit w 6))
  | 0x06 => some (.vmul c (ifD w) (ifA w) (ifB w) (ifPV w) (ifBit w 7) (ifBit w 6))
  | 0x07 => some (.vmulh c (ifD w) (ifA w) (ifB w) (ifPV w) (ifBit w 7) (ifBit w 6))
  | 0x08 => some (.vmulhu c (ifD w) (ifA w) (ifB w) (ifPV w) (ifBit w 7) (ifBit w 6))
  | 0x09 => some (.vmulhr c (ifD w) (ifA w) (ifB w) (ifPV w) (ifBit w 7) (ifBit w 6))
  | 0x0A => some (.vqdmulhr c (ifD w) (ifA w) (ifB w) (ifPV w) (ifBit w 7) (ifBit w 6))
  | 0x0B => some (.vand c (ifD w) (ifA w) (ifB w) (ifPV w) (ifBit w 7) (ifBit w 6))
  | 0x0C => some (.vor c (ifD w) (ifA w) (ifB w) (ifPV w) (ifBit w 7) (ifBit w 6))
  | 0x0D => some (.vxor c (ifD w) (ifA w) (ifB w) (ifPV w) (ifBit w 7) (ifBit w 6))
  | 0x0E => some (.vandn c (ifD w) (ifA w) (ifB w) (ifPV w) (ifBit w 7) (ifBit w 6))
  | 0x0F => some (.vshl c (ifD w) (ifA w) (ifB w) (ifPV w) (ifBit w 7) (ifBit w 6))
  | 0x10 => some (.vshr c (ifD w) (ifA w) (ifB w) (ifPV w) (ifBit w 7) (ifBit w 6))
  | 0x11 => some (.vsra c (ifD w) (ifA w) (ifB w) (ifPV w) (ifBit w 7) (ifBit w 6))
  | 0x12 => some (.vshrr c (ifD w) (ifA w) (ifB w) (ifPV w) (ifBit w 7) (ifBit w 6))
  | 0x13 => some (.vshrru c (ifD w) (ifA w) (ifB w) (ifPV w) (ifBit w 7) (ifBit w 6))
  | 0x14 => some (.vmin c (ifD w) (ifA w) (ifB w) (ifPV w) (ifBit w 7) (ifBit w 6))
  | 0x15 => some (.vmax c (ifD w) (ifA w) (ifB w) (ifPV w) (ifBit w 7) (ifBit w 6))
  | 0x16 => some (.vminu c (ifD w) (ifA w) (ifB w) (ifPV w) (ifBit w 7) (ifBit w 6))
  | 0x17 => some (.vmaxu c (ifD w) (ifA w) (ifB w) (ifPV w) (ifBit w 7) (ifBit w 6))
  | 0x18 => some (.vsel c (ifD w) (ifA w) (ifB w) (ifPV w) (ifBit w 7) (ifBit w 6))
  | 0x19 => some (.vmov c (ifD w) (ifA w) (ifB w) (ifPV w) (ifBit w 7) (ifBit w 6))
  | 0x1A => some (.vsplat c (ifD w) (ifA w) (ifB w) (ifPV w) (ifBit w 7) (ifBit w 6))
  | 0x1B => some (.vext c (ifD w) (ifA w) (ifB w) (ifPV w) (ifBit w 7) (ifBit w 6))
  | 0x1C => some (.vins c (ifD w) (ifA w) (ifB w) (ifPV w) (ifBit w 7) (ifBit w 6))
  | 0x1D => some (.vclmul c (ifD w) (ifA w) (ifB w) (ifPV w) (ifBit w 7) (ifBit w 6))
  | 0x1E => some (.vgfmul c (ifD w) (ifA w) (ifB w) (ifPV w) (ifBit w 7) (ifBit w 6))
  | 0x1F => some (.va2b c (ifD w) (ifA w) (ifB w) (ifPV w) (ifBit w 7) (ifBit w 6))
  | 0x20 => some (.vb2a c (ifD w) (ifA w) (ifB w) (ifPV w) (ifBit w 7) (ifBit w 6))
  | 0x24 => some (.vb2aq c 0 (ifD w) (ifA w) (ifB w) (ifPV w) (ifBit w 7) (ifBit w 6))
  | 0x25 => some (.vb2aq c 1 (ifD w) (ifA w) (ifB w) (ifPV w) (ifBit w 7) (ifBit w 6))
  | 0x26 => some (.vb2aq c 2 (ifD w) (ifA w) (ifB w) (ifPV w) (ifBit w 7) (ifBit w 6))
  | 0x27 => some (.vb2aq c 3 (ifD w) (ifA w) (ifB w) (ifPV w) (ifBit w 7) (ifBit w 6))
  | _ => none

/-- Major 0x21: func 10:8. -/
def decMajor21 (c : Nat) (w : Word) : Option Instr :=
  match (ifFunc3 w).toNat with
  | 0 => some (.vaddi c (ifD w) (ifA w) (ifPI w) (ifBit w 12) (ifBit w 11) (ifImm8 w))
  | 1 => some (.vshli c (ifD w) (ifA w) (ifPI w) (ifBit w 12) (ifBit w 11) (ifImm8 w))
  | 2 => some (.vshri c (ifD w) (ifA w) (ifPI w) (ifBit w 12) (ifBit w 11) (ifImm8 w))
  | 3 => some (.vsrai c (ifD w) (ifA w) (ifPI w) (ifBit w 12) (ifBit w 11) (ifImm8 w))
  | 4 => some (.vshrri c (ifD w) (ifA w) (ifPI w) (ifBit w 12) (ifBit w 11) (ifImm8 w))
  | 5 => some (.vshrrui c (ifD w) (ifA w) (ifPI w) (ifBit w 12) (ifBit w 11) (ifImm8 w))
  | 6 => some (.vsplati c (ifD w) (ifA w) (ifPI w) (ifBit w 12) (ifBit w 11) (ifImm8 w))
  | 7 => some (.vandi c (ifD w) (ifA w) (ifPI w) (ifBit w 12) (ifBit w 11) (ifImm8 w))
  | _ => none

/-- Major 0x22: func 5:0. -/
def decMajor22 (c : Nat) (w : Word) : Option Instr :=
  match (ifFunc6 w).toNat with
  | 0x00 => some (.vcmpEq c (ifD w) (ifA w) (ifB w) (ifPV w) (ifBit w 7) (ifBit w 6))
  | 0x01 => some (.vcmpNe c (ifD w) (ifA w) (ifB w) (ifPV w) (ifBit w 7) (ifBit w 6))
  | 0x02 => some (.vcmpLt c (ifD w) (ifA w) (ifB w) (ifPV w) (ifBit w 7) (ifBit w 6))
  | 0x03 => some (.vcmpGe c (ifD w) (ifA w) (ifB w) (ifPV w) (ifBit w 7) (ifBit w 6))
  | 0x04 => some (.vcmpLtu c (ifD w) (ifA w) (ifB w) (ifPV w) (ifBit w 7) (ifBit w 6))
  | 0x05 => some (.vcmpGeu c (ifD w) (ifA w) (ifB w) (ifPV w) (ifBit w 7) (ifBit w 6))
  | _ => none

/-- Major 0x23: func 5:0. -/
def decMajor23 (c : Nat) (w : Word) : Option Instr :=
  match (ifFunc6 w).toNat with
  | 0x00 => some (.vaddm c 0 (ifD w) (ifA w) (ifB w) (ifPV w) (ifBit w 7) (ifBit w 6))
  | 0x01 => some (.vaddm c 1 (ifD w) (ifA w) (ifB w) (ifPV w) (ifBit w 7) (ifBit w 6))
  | 0x02 => some (.vaddm c 2 (ifD w) (ifA w) (ifB w) (ifPV w) (ifBit w 7) (ifBit w 6))
  | 0x03 => some (.vaddm c 3 (ifD w) (ifA w) (ifB w) (ifPV w) (ifBit w 7) (ifBit w 6))
  | 0x04 => some (.vsubm c 0 (ifD w) (ifA w) (ifB w) (ifPV w) (ifBit w 7) (ifBit w 6))
  | 0x05 => some (.vsubm c 1 (ifD w) (ifA w) (ifB w) (ifPV w) (ifBit w 7) (ifBit w 6))
  | 0x06 => some (.vsubm c 2 (ifD w) (ifA w) (ifB w) (ifPV w) (ifBit w 7) (ifBit w 6))
  | 0x07 => some (.vsubm c 3 (ifD w) (ifA w) (ifB w) (ifPV w) (ifBit w 7) (ifBit w 6))
  | 0x08 => some (.vnegm c 0 (ifD w) (ifA w) (ifB w) (ifPV w) (ifBit w 7) (ifBit w 6))
  | 0x09 => some (.vnegm c 1 (ifD w) (ifA w) (ifB w) (ifPV w) (ifBit w 7) (ifBit w 6))
  | 0x0A => some (.vnegm c 2 (ifD w) (ifA w) (ifB w) (ifPV w) (ifBit w 7) (ifBit w 6))
  | 0x0B => some (.vnegm c 3 (ifD w) (ifA w) (ifB w) (ifPV w) (ifBit w 7) (ifBit w 6))
  | 0x0C => some (.vmulm c 0 (ifD w) (ifA w) (ifB w) (ifPV w) (ifBit w 7) (ifBit w 6))
  | 0x0D => some (.vmulm c 1 (ifD w) (ifA w) (ifB w) (ifPV w) (ifBit w 7) (ifBit w 6))
  | 0x0E => some (.vmulm c 2 (ifD w) (ifA w) (ifB w) (ifPV w) (ifBit w 7) (ifBit w 6))
  | 0x0F => some (.vmulm c 3 (ifD w) (ifA w) (ifB w) (ifPV w) (ifBit w 7) (ifBit w 6))
  | 0x10 => some (.vmulb c 0 (ifD w) (ifA w) (ifB w) (ifPV w) (ifBit w 7) (ifBit w 6))
  | 0x11 => some (.vmulb c 1 (ifD w) (ifA w) (ifB w) (ifPV w) (ifBit w 7) (ifBit w 6))
  | 0x12 => some (.vmulb c 2 (ifD w) (ifA w) (ifB w) (ifPV w) (ifBit w 7) (ifBit w 6))
  | 0x13 => some (.vmulb c 3 (ifD w) (ifA w) (ifB w) (ifPV w) (ifBit w 7) (ifBit w 6))
  | 0x14 => some (.vredb c 0 (ifD w) (ifA w) (ifB w) (ifPV w) (ifBit w 7) (ifBit w 6))
  | 0x15 => some (.vredb c 1 (ifD w) (ifA w) (ifB w) (ifPV w) (ifBit w 7) (ifBit w 6))
  | 0x16 => some (.vredb c 2 (ifD w) (ifA w) (ifB w) (ifPV w) (ifBit w 7) (ifBit w 6))
  | 0x17 => some (.vredb c 3 (ifD w) (ifA w) (ifB w) (ifPV w) (ifBit w 7) (ifBit w 6))
  | 0x18 => some (.vredm c 0 (ifD w) (ifA w) (ifB w) (ifPV w) (ifBit w 7) (ifBit w 6))
  | 0x19 => some (.vredm c 1 (ifD w) (ifA w) (ifB w) (ifPV w) (ifBit w 7) (ifBit w 6))
  | 0x1A => some (.vredm c 2 (ifD w) (ifA w) (ifB w) (ifPV w) (ifBit w 7) (ifBit w 6))
  | 0x1B => some (.vredm c 3 (ifD w) (ifA w) (ifB w) (ifPV w) (ifBit w 7) (ifBit w 6))
  | 0x1C => some (.vreds c 0 (ifD w) (ifA w) (ifB w) (ifPV w) (ifBit w 7) (ifBit w 6))
  | 0x1D => some (.vreds c 1 (ifD w) (ifA w) (ifB w) (ifPV w) (ifBit w 7) (ifBit w 6))
  | 0x1E => some (.vreds c 2 (ifD w) (ifA w) (ifB w) (ifPV w) (ifBit w 7) (ifBit w 6))
  | 0x1F => some (.vreds c 3 (ifD w) (ifA w) (ifB w) (ifPV w) (ifBit w 7) (ifBit w 6))
  | 0x20 => some (.vcent c 0 (ifD w) (ifA w) (ifB w) (ifPV w) (ifBit w 7) (ifBit w 6))
  | 0x21 => some (.vcent c 1 (ifD w) (ifA w) (ifB w) (ifPV w) (ifBit w 7) (ifBit w 6))
  | 0x22 => some (.vcent c 2 (ifD w) (ifA w) (ifB w) (ifPV w) (ifBit w 7) (ifBit w 6))
  | 0x23 => some (.vcent c 3 (ifD w) (ifA w) (ifB w) (ifPV w) (ifBit w 7) (ifBit w 6))
  | 0x24 => some (.bfct c 0 (ifD w) (ifA w) (ifB w) (ifPV w) (ifBit w 7) (ifBit w 6))
  | 0x25 => some (.bfct c 1 (ifD w) (ifA w) (ifB w) (ifPV w) (ifBit w 7) (ifBit w 6))
  | 0x26 => some (.bfct c 2 (ifD w) (ifA w) (ifB w) (ifPV w) (ifBit w 7) (ifBit w 6))
  | 0x27 => some (.bfct c 3 (ifD w) (ifA w) (ifB w) (ifPV w) (ifBit w 7) (ifBit w 6))
  | 0x28 => some (.bfgs c 0 (ifD w) (ifA w) (ifB w) (ifPV w) (ifBit w 7) (ifBit w 6))
  | 0x29 => some (.bfgs c 1 (ifD w) (ifA w) (ifB w) (ifPV w) (ifBit w 7) (ifBit w 6))
  | 0x2A => some (.bfgs c 2 (ifD w) (ifA w) (ifB w) (ifPV w) (ifBit w 7) (ifBit w 6))
  | 0x2B => some (.bfgs c 3 (ifD w) (ifA w) (ifB w) (ifPV w) (ifBit w 7) (ifBit w 6))
  | _ => none

/-- Major 0x24: func 10:8. -/
def decMajor24 (c : Nat) (w : Word) : Option Instr :=
  match (ifFunc3 w).toNat with
  | 0 => some (.vcompr c 0 (ifD w) (ifA w) (ifPI w) (ifBit w 12) (ifBit w 11) (ifImm8 w))
  | 1 => some (.vcompr c 1 (ifD w) (ifA w) (ifPI w) (ifBit w 12) (ifBit w 11) (ifImm8 w))
  | 2 => some (.vcompr c 2 (ifD w) (ifA w) (ifPI w) (ifBit w 12) (ifBit w 11) (ifImm8 w))
  | 3 => some (.vcompr c 3 (ifD w) (ifA w) (ifPI w) (ifBit w 12) (ifBit w 11) (ifImm8 w))
  | 4 => some (.vdecompr c 0 (ifD w) (ifA w) (ifPI w) (ifBit w 12) (ifBit w 11) (ifImm8 w))
  | 5 => some (.vdecompr c 1 (ifD w) (ifA w) (ifPI w) (ifBit w 12) (ifBit w 11) (ifImm8 w))
  | 6 => some (.vdecompr c 2 (ifD w) (ifA w) (ifPI w) (ifBit w 12) (ifBit w 11) (ifImm8 w))
  | 7 => some (.vdecompr c 3 (ifD w) (ifA w) (ifPI w) (ifBit w 12) (ifBit w 11) (ifImm8 w))
  | _ => none

/-- Major 0x25: func 10:8. -/
def decMajor25 (c : Nat) (w : Word) : Option Instr :=
  match (ifFunc3 w).toNat with
  | 0 => some (.vpack c (ifD w) (ifA w) (ifPI w) (ifBit w 12) (ifBit w 11) (ifImm8 w))
  | 1 => some (.vunpack c (ifD w) (ifA w) (ifPI w) (ifBit w 12) (ifBit w 11) (ifImm8 w))
  | _ => none

/-- Major 0x26: func 5:0. -/
def decMajor26 (c : Nat) (w : Word) : Option Instr :=
  match (ifFunc6 w).toNat with
  | 0x00 => some (.pand c (ifD w) (ifA w) (ifB w) (ifPV w) (ifBit w 7) (ifBit w 6))
  | 0x01 => some (.por c (ifD w) (ifA w) (ifB w) (ifPV w) (ifBit w 7) (ifBit w 6))
  | 0x02 => some (.pxor c (ifD w) (ifA w) (ifB w) (ifPV w) (ifBit w 7) (ifBit w 6))
  | 0x03 => some (.pandn c (ifD w) (ifA w) (ifB w) (ifPV w) (ifBit w 7) (ifBit w 6))
  | 0x04 => some (.plen c (ifD w) (ifA w) (ifB w) (ifPV w) (ifBit w 7) (ifBit w 6))
  | 0x05 => some (.pcnt c (ifD w) (ifA w) (ifB w) (ifPV w) (ifBit w 7) (ifBit w 6))
  | _ => none

/-- Major 0x2A: func 5:0. -/
def decMajor2A (c : Nat) (w : Word) : Option Instr :=
  match (ifFunc6 w).toNat with
  | 0x00 => some (.vldb c (ifD w) (ifA w) (ifB w) (ifPV w) (ifBit w 7) (ifBit w 6))
  | _ => none

/-- Major 0x2B: func 5:0. -/
def decMajor2B (c : Nat) (w : Word) : Option Instr :=
  match (ifFunc6 w).toNat with
  | 0x00 => some (.vstb c (ifD w) (ifA w) (ifB w) (ifPV w) (ifBit w 7) (ifBit w 6))
  | _ => none

/-- Major 0x2C: func 5:0. -/
def decMajor2C (c : Nat) (w : Word) : Option Instr :=
  match (ifFunc6 w).toNat with
  | 0x00 => some (.vgath c (ifD w) (ifA w) (ifB w) (ifPV w) (ifBit w 7) (ifBit w 6))
  | _ => none

/-- Major 0x2D: func 5:0. -/
def decMajor2D (c : Nat) (w : Word) : Option Instr :=
  match (ifFunc6 w).toNat with
  | 0x00 => some (.vscat c (ifD w) (ifA w) (ifB w) (ifPV w) (ifBit w 7) (ifBit w 6))
  | _ => none

/-- Major 0x30: func 5:0. -/
def decMajor30 (c : Nat) (w : Word) : Option Instr :=
  match (ifFunc6 w).toNat with
  | 0x00 => some (.sclaim c (ifD w) (ifA w) (ifB w) (ifPV w) (ifBit w 7) (ifBit w 6))
  | 0x01 => some (.sclaim2 c (ifD w) (ifA w) (ifB w) (ifPV w) (ifBit w 7) (ifBit w 6))
  | 0x02 => some (.sabs c (ifD w) (ifA w) (ifB w) (ifPV w) (ifBit w 7) (ifBit w 6))
  | 0x03 => some (.sabsb c (ifD w) (ifA w) (ifB w) (ifPV w) (ifBit w 7) (ifBit w 6))
  | 0x04 => some (.sfin c (ifD w) (ifA w) (ifB w) (ifPV w) (ifBit w 7) (ifBit w 6))
  | 0x05 => some (.ssqz c (ifD w) (ifA w) (ifB w) (ifPV w) (ifBit w 7) (ifBit w 6))
  | 0x06 => some (.srel c (ifD w) (ifA w) (ifB w) (ifPV w) (ifBit w 7) (ifBit w 6))
  | _ => none

/-- The command that an instruction word names on core c. -/
def decodePvc (c : Nat) (w : Word) : Option Instr :=
  match (ifMajor w).toNat with
  | 0x00 => decMajor00 c w
  | 0x01 => decMajor01 c w
  | 0x02 => some (.addi c (ifD w) (ifA w) (ifImm16 w))
  | 0x03 => some (.andi c (ifD w) (ifA w) (ifImm16 w))
  | 0x04 => some (.ori c (ifD w) (ifA w) (ifImm16 w))
  | 0x05 => some (.xori c (ifD w) (ifA w) (ifImm16 w))
  | 0x06 => some (.lui c (ifD w) (ifA w) (ifImm16 w))
  | 0x07 => some (.slti c (ifD w) (ifA w) (ifImm16 w))
  | 0x08 => some (.lw c (ifD w) (ifA w) (ifImm16 w))
  | 0x09 => some (.lh c (ifD w) (ifA w) (ifImm16 w))
  | 0x0A => some (.lhu c (ifD w) (ifA w) (ifImm16 w))
  | 0x0B => some (.lbu c (ifD w) (ifA w) (ifImm16 w))
  | 0x0C => some (.sw c (ifD w) (ifA w) (ifImm16 w))
  | 0x0D => some (.sh c (ifD w) (ifA w) (ifImm16 w))
  | 0x0E => some (.sb c (ifD w) (ifA w) (ifImm16 w))
  | 0x10 => some (.beq c (ifD w) (ifA w) (ifImm16 w))
  | 0x11 => some (.bne c (ifD w) (ifA w) (ifImm16 w))
  | 0x12 => some (.blt c (ifD w) (ifA w) (ifImm16 w))
  | 0x13 => some (.bge c (ifD w) (ifA w) (ifImm16 w))
  | 0x14 => some (.bltu c (ifD w) (ifA w) (ifImm16 w))
  | 0x15 => some (.bgeu c (ifD w) (ifA w) (ifImm16 w))
  | 0x16 => some (.j c (ifOff26 w))
  | 0x17 => some (.jal c (ifOff26 w))
  | 0x18 => some (.fld c (ifD w) (ifA w) (ifImm16 w))
  | 0x19 => some (.fst c (ifD w) (ifA w) (ifImm16 w))
  | 0x1C => decMajor1C c w
  | 0x20 => decMajor20 c w
  | 0x21 => decMajor21 c w
  | 0x22 => decMajor22 c w
  | 0x23 => decMajor23 c w
  | 0x24 => decMajor24 c w
  | 0x25 => decMajor25 c w
  | 0x26 => decMajor26 c w
  | 0x27 => some (.vrej c (w.extractLsb' 4 2) (ifBit w 3) (ifBit w 2) (w.extractLsb' 0 2) (ifD w) (ifA w) (ifB w) (ifPV w) (ifBit w 7) (ifBit w 6))
  | 0x28 => some (.vld c (ifD w) (ifA w) (ifPI w) (ifBit w 12) (ifBit w 11) (ifOff11 w))
  | 0x29 => some (.vst c (ifD w) (ifA w) (ifPI w) (ifBit w 12) (ifBit w 11) (ifOff11 w))
  | 0x2A => decMajor2A c w
  | 0x2B => decMajor2B c w
  | 0x2C => decMajor2C c w
  | 0x2D => decMajor2D c w
  | 0x30 => decMajor30 c w
  | _ => none

/-- The instruction word of a command of the vector instruction set; none for the other commands. -/
def encodePvc : Instr → Option Word
  | .add _ d a b => some (wSR 0x01 d a b 0x000)
  | .sub _ d a b => some (wSR 0x01 d a b 0x001)
  | .and _ d a b => some (wSR 0x01 d a b 0x002)
  | .or _ d a b => some (wSR 0x01 d a b 0x003)
  | .xor _ d a b => some (wSR 0x01 d a b 0x004)
  | .sll _ d a b => some (wSR 0x01 d a b 0x005)
  | .srl _ d a b => some (wSR 0x01 d a b 0x006)
  | .sra _ d a b => some (wSR 0x01 d a b 0x007)
  | .slt _ d a b => some (wSR 0x01 d a b 0x008)
  | .sltu _ d a b => some (wSR 0x01 d a b 0x009)
  | .mul _ d a b => some (wSR 0x01 d a b 0x00A)
  | .mulh _ d a b => some (wSR 0x01 d a b 0x00B)
  | .mulhu _ d a b => some (wSR 0x01 d a b 0x00C)
  | .min _ d a b => some (wSR 0x01 d a b 0x00D)
  | .max _ d a b => some (wSR 0x01 d a b 0x00E)
  | .minu _ d a b => some (wSR 0x01 d a b 0x00F)
  | .maxu _ d a b => some (wSR 0x01 d a b 0x010)
  | .slli _ d a b => some (wSR 0x01 d a b 0x020)
  | .srli _ d a b => some (wSR 0x01 d a b 0x021)
  | .srai _ d a b => some (wSR 0x01 d a b 0x022)
  | .jr _ d a b => some (wSR 0x01 d a b 0x030)
  | .addm _ e m d a b => some (wSR 0x01 d a b (0x08#8 ++ BitVec.ofBool e ++ m))
  | .subm _ e m d a b => some (wSR 0x01 d a b (0x09#8 ++ BitVec.ofBool e ++ m))
  | .mulm _ e m d a b => some (wSR 0x01 d a b (0x0A#8 ++ BitVec.ofBool e ++ m))
  | .mulb _ e m d a b => some (wSR 0x01 d a b (0x0B#8 ++ BitVec.ofBool e ++ m))
  | .redb _ e m d a b => some (wSR 0x01 d a b (0x0C#8 ++ BitVec.ofBool e ++ m))
  | .addi _ d a imm => some (wSI 0x02 d a imm)
  | .andi _ d a imm => some (wSI 0x03 d a imm)
  | .ori _ d a imm => some (wSI 0x04 d a imm)
  | .xori _ d a imm => some (wSI 0x05 d a imm)
  | .lui _ d a imm => some (wSI 0x06 d a imm)
  | .slti _ d a imm => some (wSI 0x07 d a imm)
  | .lw _ d a imm => some (wSI 0x08 d a imm)
  | .lh _ d a imm => some (wSI 0x09 d a imm)
  | .lhu _ d a imm => some (wSI 0x0A d a imm)
  | .lbu _ d a imm => some (wSI 0x0B d a imm)
  | .sw _ d a imm => some (wSI 0x0C d a imm)
  | .sh _ d a imm => some (wSI 0x0D d a imm)
  | .sb _ d a imm => some (wSI 0x0E d a imm)
  | .beq _ a b off => some (wSI 0x10 a b off)
  | .bne _ a b off => some (wSI 0x11 a b off)
  | .blt _ a b off => some (wSI 0x12 a b off)
  | .bge _ a b off => some (wSI 0x13 a b off)
  | .bltu _ a b off => some (wSI 0x14 a b off)
  | .bgeu _ a b off => some (wSI 0x15 a b off)
  | .j _ off => some (wJ 0x16 off)
  | .jal _ off => some (wJ 0x17 off)
  | .fld _ d a imm => some (wSI 0x18 d a imm)
  | .fst _ d a imm => some (wSI 0x19 d a imm)
  | .fadd _ d a b => some (wSR 0x1C d a b 0x000)
  | .fsub _ d a b => some (wSR 0x1C d a b 0x001)
  | .fmul _ d a b => some (wSR 0x1C d a b 0x002)
  | .fdiv _ d a b => some (wSR 0x1C d a b 0x003)
  | .fsqrt _ d a b => some (wSR 0x1C d a b 0x004)
  | .fmadd _ d a b => some (wSR 0x1C d a b 0x005)
  | .fneg _ d a b => some (wSR 0x1C d a b 0x006)
  | .fabs _ d a b => some (wSR 0x1C d a b 0x007)
  | .frint _ d a b => some (wSR 0x1C d a b 0x008)
  | .ffloor _ d a b => some (wSR 0x1C d a b 0x009)
  | .fcvtFS _ d a b => some (wSR 0x1C d a b 0x00A)
  | .fcvtSF _ d a b => some (wSR 0x1C d a b 0x00B)
  | .flt _ d a b => some (wSR 0x1C d a b 0x00C)
  | .feq _ d a b => some (wSR 0x1C d a b 0x00D)
  | .fmvSLo _ d a b => some (wSR 0x1C d a b 0x00E)
  | .fmvSHi _ d a b => some (wSR 0x1C d a b 0x00F)
  | .fmvF _ d a b => some (wSR 0x1C d a b 0x010)
  | .nop _ d a b => some (wSR 0x00 d a b 0x000)
  | .exit _ d a b => some (wSR 0x00 d a b 0x001)
  | .eret _ d a b => some (wSR 0x00 d a b 0x002)
  | .valend _ d a b => some (wSR 0x00 d a b 0x003)
  | .setlenH _ d a b => some (wSR 0x00 d a b 0x004)
  | .setlenW _ d a b => some (wSR 0x00 d a b 0x005)
  | .mfc _ d a b => some (wSR 0x00 d a b 0x006)
  | .mtc _ d a b => some (wSR 0x00 d a b 0x007)
  | .slide _ d a b => some (wSR 0x00 d a b 0x008)
  | .kldP1 _ d a b => some (wSR 0x00 d a b 0x020)
  | .kldU1 _ d a b => some (wSR 0x00 d a b 0x021)
  | .kldP2 _ d a b => some (wSR 0x00 d a b 0x022)
  | .kldU2 _ d a b => some (wSR 0x00 d a b 0x023)
  | .kldC _ d a b => some (wSR 0x00 d a b 0x024)
  | .ent _ d a b => some (wSR 0x00 d a b 0x028)
  | .dclW _ d a b => some (wSR 0x00 d a b 0x029)
  | .dclM _ d a b => some (wSR 0x00 d a b 0x02A)
  | .ctxst _ d a b => some (wSR 0x00 d a b 0x02B)
  | .vadd _ d a b p l e => some (wV 0x20 d a b p l e 0x00)
  | .vsub _ d a b p l e => some (wV 0x20 d a b p l e 0x01)
  | .vsadd _ d a b p l e => some (wV 0x20 d a b p l e 0x02)
  | .vssub _ d a b p l e => some (wV 0x20 d a b p l e 0x03)
  | .vsaddu _ d a b p l e => some (wV 0x20 d a b p l e 0x04)
  | .vssubu _ d a b p l e => some (wV 0x20 d a b p l e 0x05)
  | .vmul _ d a b p l e => some (wV 0x20 d a b p l e 0x06)
  | .vmulh _ d a b p l e => some (wV 0x20 d a b p l e 0x07)
  | .vmulhu _ d a b p l e => some (wV 0x20 d a b p l e 0x08)
  | .vmulhr _ d a b p l e => some (wV 0x20 d a b p l e 0x09)
  | .vqdmulhr _ d a b p l e => some (wV 0x20 d a b p l e 0x0A)
  | .vand _ d a b p l e => some (wV 0x20 d a b p l e 0x0B)
  | .vor _ d a b p l e => some (wV 0x20 d a b p l e 0x0C)
  | .vxor _ d a b p l e => some (wV 0x20 d a b p l e 0x0D)
  | .vandn _ d a b p l e => some (wV 0x20 d a b p l e 0x0E)
  | .vshl _ d a b p l e => some (wV 0x20 d a b p l e 0x0F)
  | .vshr _ d a b p l e => some (wV 0x20 d a b p l e 0x10)
  | .vsra _ d a b p l e => some (wV 0x20 d a b p l e 0x11)
  | .vshrr _ d a b p l e => some (wV 0x20 d a b p l e 0x12)
  | .vshrru _ d a b p l e => some (wV 0x20 d a b p l e 0x13)
  | .vmin _ d a b p l e => some (wV 0x20 d a b p l e 0x14)
  | .vmax _ d a b p l e => some (wV 0x20 d a b p l e 0x15)
  | .vminu _ d a b p l e => some (wV 0x20 d a b p l e 0x16)
  | .vmaxu _ d a b p l e => some (wV 0x20 d a b p l e 0x17)
  | .vsel _ d a b p l e => some (wV 0x20 d a b p l e 0x18)
  | .vmov _ d a b p l e => some (wV 0x20 d a b p l e 0x19)
  | .vsplat _ d a b p l e => some (wV 0x20 d a b p l e 0x1A)
  | .vext _ d a b p l e => some (wV 0x20 d a b p l e 0x1B)
  | .vins _ d a b p l e => some (wV 0x20 d a b p l e 0x1C)
  | .vclmul _ d a b p l e => some (wV 0x20 d a b p l e 0x1D)
  | .vgfmul _ d a b p l e => some (wV 0x20 d a b p l e 0x1E)
  | .va2b _ d a b p l e => some (wV 0x20 d a b p l e 0x1F)
  | .vb2a _ d a b p l e => some (wV 0x20 d a b p l e 0x20)
  | .vb2aq _ m d a b p l e => some (wV 0x20 d a b p l e (0x9#4 ++ m))
  | .vaddi _ d a p l e imm => some (wVI 0x21 d a p l e 0 imm)
  | .vshli _ d a p l e imm => some (wVI 0x21 d a p l e 1 imm)
  | .vshri _ d a p l e imm => some (wVI 0x21 d a p l e 2 imm)
  | .vsrai _ d a p l e imm => some (wVI 0x21 d a p l e 3 imm)
  | .vshrri _ d a p l e imm => some (wVI 0x21 d a p l e 4 imm)
  | .vshrrui _ d a p l e imm => some (wVI 0x21 d a p l e 5 imm)
  | .vsplati _ d a p l e imm => some (wVI 0x21 d a p l e 6 imm)
  | .vandi _ d a p l e imm => some (wVI 0x21 d a p l e 7 imm)
  | .vcmpEq _ d a b p l e => some (wV 0x22 d a b p l e 0x00)
  | .vcmpNe _ d a b p l e => some (wV 0x22 d a b p l e 0x01)
  | .vcmpLt _ d a b p l e => some (wV 0x22 d a b p l e 0x02)
  | .vcmpGe _ d a b p l e => some (wV 0x22 d a b p l e 0x03)
  | .vcmpLtu _ d a b p l e => some (wV 0x22 d a b p l e 0x04)
  | .vcmpGeu _ d a b p l e => some (wV 0x22 d a b p l e 0x05)
  | .vaddm _ m d a b p l e => some (wV 0x23 d a b p l e (0x0#4 ++ m))
  | .vsubm _ m d a b p l e => some (wV 0x23 d a b p l e (0x1#4 ++ m))
  | .vnegm _ m d a b p l e => some (wV 0x23 d a b p l e (0x2#4 ++ m))
  | .vmulm _ m d a b p l e => some (wV 0x23 d a b p l e (0x3#4 ++ m))
  | .vmulb _ m d a b p l e => some (wV 0x23 d a b p l e (0x4#4 ++ m))
  | .vredb _ m d a b p l e => some (wV 0x23 d a b p l e (0x5#4 ++ m))
  | .vredm _ m d a b p l e => some (wV 0x23 d a b p l e (0x6#4 ++ m))
  | .vreds _ m d a b p l e => some (wV 0x23 d a b p l e (0x7#4 ++ m))
  | .vcent _ m d a b p l e => some (wV 0x23 d a b p l e (0x8#4 ++ m))
  | .bfct _ m d a b p l e => some (wV 0x23 d a b p l e (0x9#4 ++ m))
  | .bfgs _ m d a b p l e => some (wV 0x23 d a b p l e (0xA#4 ++ m))
  | .vcompr _ m d a p l e imm => some (wVI 0x24 d a p l e (0#1 ++ m) imm)
  | .vdecompr _ m d a p l e imm => some (wVI 0x24 d a p l e (1#1 ++ m) imm)
  | .vpack _ d a p l e imm => some (wVI 0x25 d a p l e 0 imm)
  | .vunpack _ d a p l e imm => some (wVI 0x25 d a p l e 1 imm)
  | .pand _ d a b p l e => some (wV 0x26 d a b p l e 0x00)
  | .por _ d a b p l e => some (wV 0x26 d a b p l e 0x01)
  | .pxor _ d a b p l e => some (wV 0x26 d a b p l e 0x02)
  | .pandn _ d a b p l e => some (wV 0x26 d a b p l e 0x03)
  | .plen _ d a b p l e => some (wV 0x26 d a b p l e 0x04)
  | .pcnt _ d a b p l e => some (wV 0x26 d a b p l e 0x05)
  | .vrej _ mode u z m d a b p l e => some (wV 0x27 d a b p l e (mode ++ BitVec.ofBool u ++ BitVec.ofBool z ++ m))
  | .vld _ d a p l e off => some (wM 0x28 d a p l e off)
  | .vst _ d a p l e off => some (wM 0x29 d a p l e off)
  | .vldb _ d a b p l e => some (wV 0x2A d a b p l e 0x00)
  | .vstb _ d a b p l e => some (wV 0x2B d a b p l e 0x00)
  | .vgath _ d a b p l e => some (wV 0x2C d a b p l e 0x00)
  | .vscat _ d a b p l e => some (wV 0x2D d a b p l e 0x00)
  | .sclaim _ d a b p l e => some (wV 0x30 d a b p l e 0x00)
  | .sclaim2 _ d a b p l e => some (wV 0x30 d a b p l e 0x01)
  | .sabs _ d a b p l e => some (wV 0x30 d a b p l e 0x02)
  | .sabsb _ d a b p l e => some (wV 0x30 d a b p l e 0x03)
  | .sfin _ d a b p l e => some (wV 0x30 d a b p l e 0x04)
  | .ssqz _ d a b p l e => some (wV 0x30 d a b p l e 0x05)
  | .srel _ d a b p l e => some (wV 0x30 d a b p l e 0x06)
  | _ => none

end Sys2Proof
end

