-- ==== Sys2Proof/Config.lean ====
section
/-!
DEFINITION. What the spec leaves open or takes from other standards: constants without a body, so that nothing in Lean
knows a value of them and every statement holds for every value.
-/
namespace Sys2Proof.Config

/-! Binary64 corners that IEEE 754 leaves to the implementation (R170, R208; log entry 7). -/

/-- Tininess is detected before rounding. -/
opaque tinyBefore : Bool
/-- A fused multiply-add of zero and infinity with a quiet NaN addend raises the invalid flag. -/
opaque fmaNanInvalid : Bool

/-! Vector cores. -/

/-- VEXT of a lane that the register does not have: the value written (log entry 27). -/
opaque laneBeyond : BitVec 256 → Nat → Nat → Word
/-- VINS into a lane that the register does not have: the register afterwards (log entry 27). -/
opaque insBeyond : BitVec 256 → Nat → Nat → Word → BitVec 256
/-- The value that shares of a modulus recombine to after that modulus was changed (log entry 28). -/
opaque reshared : BitVec 256 → Nat → Nat → BitVec 256

/-! Time. -/

/-- The engine time, or another duration the device reports, number n (R100; log entry 14). -/
opaque engineTime : Nat → Word

/-- The estimated engine time of a job, by opcode, parameter-set index and input length, in 10 ns units (R69; log entry 20). -/
opaque estimate : Nat → Nat → Nat → Nat

/-- The tag in the results entry of a batch member whose record could not be read (R107, R108; log entry 39). -/
opaque unreadTag : Nat → Nat

/-! Noise. -/

/-- A trim code rises, by the count of ones among 256 samples (R267; log entry 138). -/
opaque trimUp : Nat → Bool
/-- Entropy-stream bytes that a peer's own generator drew for work spilled to it (R410; log entry 15). -/
opaque peerByte : Nat → Byte

/-! Parts of the public-key schemes that the model does not compute (log entry 4). -/

/-- FN-DSA, by index: coefficient of f, g or F of a key from 48 bytes; coefficient of s2 that the sampler gives under a private key for a
point and a sampler seed. -/
opaque fnSolve : Nat → List Byte → Nat → Nat → Int
opaque fnSample : Nat → List Byte → List Nat → List Byte → Nat → Int
/-- Classic McEliece, by parameters: the number of the error vector that 32 drawn bytes give; a row of the public key of a private key that
has no systematic form. -/
opaque mcePick : Nat → List Byte → Nat
opaque mceRow : Nat → List Byte → Nat → Nat
/-- HQC, by index (the spec's sizes fit no version of its specification): the vector s of two seeds; the vectors u and v and the digest d of
message and salt under a public key; the shared secret of a message, or of a rejected ciphertext under a private key; the message and salt
that a ciphertext decodes to. -/
opaque hqcS : Nat → List Byte → List Byte → Nat
opaque hqcU : Nat → List Byte → List Byte → Nat
opaque hqcV : Nat → List Byte → List Byte → Nat
opaque hqcD : Nat → List Byte → List Byte → List Byte
opaque hqcKey : Nat → List Byte → List Byte → List Byte
opaque hqcReject : Nat → List Byte → List Byte → List Byte
opaque hqcOpen : Nat → List Byte → List Byte → List Byte
/-- Message and drawn bytes of the pairwise test of a family and index (R152; log entry 112). -/
opaque pairBytes : Nat → Nat → List Byte
/-- SEED and I of a successor tree of an HSS key, by the drawn ones of its level, the level and the tree's number (log entry 35). -/
opaque treeSeed : List Byte → Nat → Nat → List Byte
/-- The randomiser with which an HSS level signs a lower root, by the key's seed, the level and the tree's number (log entry 35). -/
opaque rootRand : List Byte → Nat → Nat → List Byte
/-- The shape of a stateful key, as free numbers (log entry 35). -/
opaque hbsPick : List Byte → Nat → Nat
/-- Base of a Miller-Rabin round: the spec derives it from a hash of the candidate and does not say how (R257, R258). -/
opaque mrBase : List Byte → Nat → Nat

/-- What a context keeps of a value longer than its 128 bytes (R141; log entry 120). -/
opaque ctxTrim : List Byte → List Byte

/-- The certificates that CERT_READ returns, by identity keys, alias keys, measurement and life-cycle code (R163; log entry 25). -/
opaque certificates : List Byte → List Byte → List Byte → Nat → List Byte
/-- The subject key identifier of the device identity certificate, by the identity keys (R122; log entry 25). -/
opaque subjectKeyId : List Byte → List Byte
/-- Mask blocks that a run draws from its unit's expander, by opcode, parameter set and unit (R221, R252; log entry 135). -/
opaque maskBlocks : Nat → Nat → Nat → Nat
/-- Bytes of the header and the prefix that an AER report carries (R54, R59; log entry 127). -/
opaque aerByte : Nat → Byte
/-- The vendor ID in configuration space, Challiond's (R56; log entry 127). -/
opaque vendorId : BitVec 16
/-- Bits that a boundary scan captures, as bytes (R356, R358; log entry 53). -/
opaque boundary : Nat → Byte
/-- The 32-bit check word of an SLS: how it is computed the spec does not say (R342; log entry 148). -/
opaque slsCheck : List Byte → Word
/-- What stands outside the device, by time in 10 ns: the level of a GPIO net that the device does not drive, the ERR_N net as the other
devices of the group leave it, VIO and VBAT in mV every 10 ms, the highest die sensor every 1 ms (R326, R362; log entry 149). -/
opaque gpioNet : Nat → Nat → Bool
opaque errNet : Nat → Bool
opaque vioMv : Nat → BitVec 16
opaque vbatMv : Nat → BitVec 16
opaque dieMax : Nat → BitVec 8
/-- Bit k of the stream on TL_OUTn, by the generator's seed (R339; log entry 150). -/
opaque loopBit : List Byte → Nat → Nat → Bool

/-! Keys held in ROM and in the firmware (R187, R299; log entry 4). -/

/-- The vendor's ML-DSA-87 and HSS keys for kernels. -/
opaque vendorKernelKey : List Byte
opaque vendorKernelHss : List Byte

/-! Firmware images, whose layout the spec does not give (R123, R299; log entry 16). -/

/-- The vendor's hybrid signature over the image verifies. -/
opaque fwSigned : List Byte → Bool
/-- The security version number of an image. -/
opaque fwSvn : List Byte → BitVec 6
/-- Major, minor and build of an image, as GLB_VERSION holds them. -/
opaque fwVersion : List Byte → Word
/-- Major and minor version of the management command interface of an image, as MBX_CAPS holds them. -/
opaque fwInterface : List Byte → BitVec 16
/-- The measurement of Kindling's ROM. -/
opaque romHash : List Byte

/-! Authorisation (R354): SHA3-256 of the vendor's public keys held in Kindling's ROM (log entry 4). -/

opaque vendorLcKey : List Byte
opaque vendorDebugKey : List Byte

/-! The fabric (spec file 17; log entry 50). -/

/-- The hash of source address, destination address and flow ID that picks a next hop (R404). -/
opaque routeHash : Nat → Nat → Nat → Nat
/-- The AES-256-GCM tag of a flit is right: key, salt, the 256 bytes (R398). -/
opaque flitOk : List Byte → List Byte → List Byte → Bool

/-! Statuses that no rule gives (R384 to R394; log entry 49). -/

/-- Status of a ceremony that a media error ends, or that finds no volume or no record. -/
opaque openStatus : Nat → Byte

end Sys2Proof.Config
end

