-- ==== Sys2Proof/Machine/RegTable.lean ====
section
/-!
DEFINITION. The register map of the EB7144: one row per register (or array of registers) of the register tables of
spec/ (00 to 18), with the offset, the resets it survives (R15, R297) and, per field, bits, access code (R14) and reset
value. Fields whose reset the spec gives as fuse, image, measured, strap, peat or flash carry the value that the
assumption log names (log entries 9 to 13). Reserved fields have no row: they read as zero (R12).
-/
namespace Sys2Proof.Machine

/-- The access codes of R14. -/
inductive Access where
  | ro | rw | wo | w1c | w1s | rc | rwl | rws
deriving DecidableEq, Repr

/-- Which resets a register survives (R15, heading line of its table). -/
inductive Survive where
  | none        -- survives no reset
  | hio         -- survives a host-interface-only reset
  | allButVin   -- survives every reset except loss of VIN
  | every       -- survives every reset
deriving DecidableEq, Repr

/-- One field of a register table (R15). -/
structure RegField where
  name  : String
  hi    : Nat
  lo    : Nat
  acc   : Access
  reset : Nat
deriving DecidableEq, Repr

/-- One register, or an array: instance (i, j) lies at base + i * stride1 + j * stride2. -/
structure RegSpec where
  name    : String
  base    : Nat
  stride1 : Nat
  count1  : Nat
  stride2 : Nat
  count2  : Nat
  survive : Survive
  fields  : List RegField
deriving DecidableEq, Repr

namespace Reg
def GLB_ID : Nat := 0x0
def GLB_VERSION : Nat := 0x4
def GLB_CAPS : Nat := 0x8
def VF_STATUS : Nat := 0x9000
def VF_ALLOT : Nat := 0x9004
def VF_CTX_ALLOT : Nat := 0x9008
def VF_INFLIGHT : Nat := 0x900C
def VF_KEY_ALLOT : Nat := 0x9010
def VFM_CAPS : Nat := 0x100000
def VFM_FREE0 : Nat := 0x100004
def VFM_FREE1 : Nat := 0x100008
def VFM_FREE2 : Nat := 0x10000C
def VFM_DEDICATED : Nat := 0x100010
def VFM_SEL : Nat := 0x100100
def VFM_ST_CLUSTERS : Nat := 0x100114
def VFM_ST_OPM : Nat := 0x100118
def VFM_ST_SPILL_LO : Nat := 0x10011C
def VFM_ST_SPILL_HI : Nat := 0x100120
def VFM_ST_SPILL_LEN : Nat := 0x100124
def VFM_APPLY : Nat := 0x100130
def VFM_APPLY_STAT : Nat := 0x100134
def VFM_QUIESCE : Nat := 0x100200
def VFM_QUIESCE_STAT : Nat := 0x100204
def VFM_FLR_DONE (i : Nat) : Nat := 0x100400 + i * 0x4
def VFM_EVT_VEC : Nat := 0x100500
def QP_BASE_LO (i : Nat) : Nat := 0x210000 + i * 0x10
def QP_BASE_HI (i : Nat) : Nat := 0x210004 + i * 0x10
def QP_CFG (i : Nat) : Nat := 0x210008 + i * 0x10
def QP_STAT (i : Nat) : Nat := 0x21000C + i * 0x10
def SQ_TAIL (i : Nat) : Nat := 0x200000 + i * 0x1000
def CQ_HEAD (i : Nat) : Nat := 0x200004 + i * 0x1000
def CMD_CAPS : Nat := 0x220000
def CMD_INFLIGHT : Nat := 0x220004
def CMD_CRC_CNT : Nat := 0x220008
def CMD_QPERR (i : Nat) : Nat := 0x220100 + i * 0x4
def MBX_CAPS (i : Nat) : Nat := 0x80000 + i * 0x1000
def MBX_CTRL (i : Nat) : Nat := 0x80004 + i * 0x1000
def MBX_DOORBELL (i : Nat) : Nat := 0x80008 + i * 0x1000
def MBX_STAT (i : Nat) : Nat := 0x8000C + i * 0x1000
def MBX_ACK (i : Nat) : Nat := 0x80010 + i * 0x1000
def MBX_REQ_EXT_LO (i : Nat) : Nat := 0x80014 + i * 0x1000
def MBX_REQ_EXT_HI (i : Nat) : Nat := 0x80018 + i * 0x1000
def MBX_RESP_EXT_LO (i : Nat) : Nat := 0x8001C + i * 0x1000
def MBX_RESP_EXT_HI (i : Nat) : Nat := 0x80020 + i * 0x1000
def MBX_REQ_EXT_LEN (i : Nat) : Nat := 0x80024 + i * 0x1000
def MBX_RESP_EXT_CAP (i : Nat) : Nat := 0x80028 + i * 0x1000
def MBX_REQ (i j : Nat) : Nat := 0x80100 + i * 0x1000 + j * 0x4
def MBX_DATA (i j : Nat) : Nat := 0x80200 + i * 0x1000 + j * 0x4
def HRT_STAT : Nat := 0xF0000
def HRT_WDT : Nat := 0xF0004
def KST_CAPS : Nat := 0x300000
def KST_STAT : Nat := 0x300004
def KST_UNSEAL : Nat := 0x300008
def KST_USE0 : Nat := 0x30000C
def KST_USE1 : Nat := 0x300010
def KST_HBS : Nat := 0x300014
def KST_LOST : Nat := 0x300018
def CL_STAT (i : Nat) : Nat := 0x1000000 + i * 0x100000
def CL_PVC (i j : Nat) : Nat := 0x1000010 + i * 0x100000 + j * 0x4
def CL_MASK (i : Nat) : Nat := 0x1000040 + i * 0x100000
def CL_TRAP (i : Nat) : Nat := 0x1000044 + i * 0x100000
def CL_TRAP_CNT (i : Nat) : Nat := 0x1000048 + i * 0x100000
def CL_SRAM (i : Nat) : Nat := 0x100004C + i * 0x100000
def CL_TWID (i : Nat) : Nat := 0x1000050 + i * 0x100000
def CL_RUNS (i : Nat) : Nat := 0x1000054 + i * 0x100000
def CL_DIAG (i : Nat) : Nat := 0x1000060 + i * 0x100000
def HTE_CAPS : Nat := 0x500000
def HTE_STAT : Nat := 0x500004
def HTE_GRP (i : Nat) : Nat := 0x500010 + i * 0x4
def HTE_MASK : Nat := 0x500050
def HTE_RUNS : Nat := 0x500054
def DGE_CAPS : Nat := 0x400000
def DGE_STAT : Nat := 0x400004
def DGE_USE : Nat := 0x400008
def DGE_SPILL : Nat := 0x40000C
def DGE_SPILL_ERR : Nat := 0x400010
def DGE_KSC_HIT : Nat := 0x400014
def CHK_CAPS : Nat := 0x480000
def CHK_STAT : Nat := 0x480004
def CHK_CFG (i : Nat) : Nat := 0x481000 + i * 0x40
def CHK_POLY_LO (i : Nat) : Nat := 0x481004 + i * 0x40
def CHK_POLY_HI (i : Nat) : Nat := 0x481008 + i * 0x40
def CHK_INIT_LO (i : Nat) : Nat := 0x48100C + i * 0x40
def CHK_INIT_HI (i : Nat) : Nat := 0x481010 + i * 0x40
def CHK_XOR_LO (i : Nat) : Nat := 0x481014 + i * 0x40
def CHK_XOR_HI (i : Nat) : Nat := 0x481018 + i * 0x40
def CHK_RESULT (i : Nat) : Nat := 0x48101C + i * 0x40
def CHK_RESULTH (i : Nat) : Nat := 0x481020 + i * 0x40
def CHK_LAST (i : Nat) : Nat := 0x481024 + i * 0x40
def BNE_CAPS : Nat := 0x600000
def BNE_STAT : Nat := 0x600004
def BNE_UNIT (i : Nat) : Nat := 0x600010 + i * 0x4
def BNE_MASK (i : Nat) : Nat := 0x600030 + i * 0x4
def BNE_CURVE : Nat := 0x600050
def BNE_CURVE_ERR (i : Nat) : Nat := 0x600054 + i * 0x4
def BNE_RUNS : Nat := 0x60005C
def OPM_SEL : Nat := 0x600100
def OPM_PART0 : Nat := 0x600104
def OPM_PART1 : Nat := 0x600108
def OPM_STAT : Nat := 0x600110
def NRG_CAPS : Nat := 0x60000
def NRG_STAT : Nat := 0x60004
def NRG_CTRL : Nat := 0x60008
def NRG_WAIT : Nat := 0x6000C
def NRG_EXP : Nat := 0x60010
def NRG_OUT : Nat := 0x60014
def NRG_GRP (i : Nat) : Nat := 0x60100 + i * 0x4
def PWR_INRUSH : Nat := 0x20000
def PWR_WAKE : Nat := 0x20004
def PWR_IDLE : Nat := 0x20008
def PWR_STAT : Nat := 0x2000C
def PWR_VIN : Nat := 0x20010
def PWR_LOAD : Nat := 0x20014
def PWR_PAUSES : Nat := 0x20018
def PWR_ON (i : Nat) : Nat := 0x20100 + i * 0x4
def RST_CAUSE : Nat := 0x10000
def RST_LAST : Nat := 0x10004
def RST_CTRL : Nat := 0x10008
def RST_CFG : Nat := 0x1000C
def RST_STRAP : Nat := 0x10010
def RST_TIME : Nat := 0x10014
def GLB_GPIO_IN : Nat := 0x100
def GLB_GPIO_OUT : Nat := 0x104
def GLB_STAT_LS : Nat := 0x108
def GLB_SUPPLY : Nat := 0x10C
def GLB_TEMP : Nat := 0x110
def TMP_CAPS : Nat := 0x40000
def TMP_STAT : Nat := 0x40004
def TMP_CTRL : Nat := 0x40008
def TMP_FIRST : Nat := 0x4000C
def TMP_STICKY (i : Nat) : Nat := 0x40010 + i * 0x4
def TMP_TEST : Nat := 0x40020
def TMP_TL : Nat := 0x40024
def TMP_SRC (i : Nat) : Nat := 0x40100 + i * 0x4
def PEAT_STAT : Nat := 0x2300000
def PEAT_RTC_LO : Nat := 0x2300004
def PEAT_RTC_HI : Nat := 0x2300008
def PEAT_CNT (i : Nat) : Nat := 0x2300020 + i * 0x4
def PEAT_CNT_INC : Nat := 0x2300040
def LCS_STATE : Nat := 0x50000
def LCS_TOKENS : Nat := 0x50004
def LCS_DBG : Nat := 0x50008
def LCS_DBG_END : Nat := 0x5000C
def FLT_CAPS : Nat := 0x30000
def FLT_STAT : Nat := 0x30004
def FLT_CTRL : Nat := 0x30008
def FLT_PIN_MASK : Nat := 0x3000C
def FLT_FIRST : Nat := 0x30010
def FLT_FIRST_TS (i : Nat) : Nat := 0x30014 + i * 0x4
def FLT_CNT0 : Nat := 0x3001C
def FLT_CNT1 : Nat := 0x30020
def FLT_STICKY (i : Nat) : Nat := 0x30100 + i * 0x4
def FLT_SEL : Nat := 0x30200
def FLT_SRC : Nat := 0x30204
def FLT_SRC_TS : Nat := 0x30208
def FLT_RETIRE : Nat := 0x30210
def CRD_SC_STAT (i : Nat) : Nat := 0x2100010 + i * 0x4
def CRD_MC_STAT : Nat := 0x2100020
def CRD_MC_CFG : Nat := 0x2100024
def CRD_QUORUM : Nat := 0x2100030
def CRD_CER : Nat := 0x2100034
def FAB_CAPS : Nat := 0x2000000
def FAB_STAT : Nat := 0x2000004
def FAB_ADDR : Nat := 0x2000008
def FAB_ROOT_ID (i : Nat) : Nat := 0x2000010 + i * 0x4
def FAB_PORT (i : Nat) : Nat := 0x2000100 + i * 0x4
def FAB_REPLAY (i : Nat) : Nat := 0x2000140 + i * 0x4
def FAB_ROUTE_SEL : Nat := 0x2000200
def FAB_ROUTE : Nat := 0x2000204
def FAB_SPILL : Nat := 0x2000210
def FAB_SYNC : Nat := 0x2000214
def SRD_LB_CTRL : Nat := 0x2200000
def SRD_LB_STAT : Nat := 0x2200004
def SRD_LB_BITS : Nat := 0x2200008
def SRD_UNIT_TEST : Nat := 0x2200010
def SRD_INJ_CTRL : Nat := 0x2200020
def SRD_INJ_STAT : Nat := 0x2200024
def VFM_ST_ALLOT : Nat := 0x100104
def VFM_ST_CTX : Nat := 0x100108
def VFM_ST_INFLIGHT : Nat := 0x10010C
def VFM_ST_KEY : Nat := 0x100110
end Reg

/-- Register tables of the PF0 BAR0 blocks described in spec file 00_scope.md. The fuse value of GLB_ID.GRADE is 1, EB7144-F (DESIGN CHOICE,
log entry 9). -/
def regs00 : List RegSpec := [
  ⟨"GLB_ID", 0x0, 0x0, 1, 0x0, 1, .every,
    [⟨"PART", 31, 16, .ro, 0x7144⟩, ⟨"GRADE", 15, 12, .ro, 0x1⟩, ⟨"STEP", 11, 8, .ro, 0x0⟩, ⟨"VENDOR", 7, 0, .ro, 0xC1⟩]⟩,
  ⟨"GLB_VERSION", 0x4, 0x0, 1, 0x0, 1, .hio,
    [⟨"MAJOR", 31, 24, .ro, 0x0⟩, ⟨"MINOR", 23, 16, .ro, 0x0⟩, ⟨"BUILD", 15, 1, .ro, 0x0⟩, ⟨"BANK", 0, 0, .ro, 0x0⟩]⟩,
  ⟨"GLB_CAPS", 0x8, 0x0, 1, 0x0, 1, .hio,
    [⟨"DGE_QUADS", 19, 17, .ro, 0x0⟩, ⟨"BNE_ACTIVE", 16, 13, .ro, 0x0⟩, ⟨"HTE_ACTIVE", 12, 8, .ro, 0x0⟩, ⟨"PVC_ACTIVE", 6, 0, .ro, 0x0⟩]⟩]

/-- Register tables of the PF0 BAR0 blocks described in spec file 02_host_link_and_functions.md. The staging registers read 0 before any
VFM_SEL write has loaded them (DESIGN CHOICE, log entry 126). -/
def regs02 : List RegSpec := [
  ⟨"VFM_CAPS", 0x100000, 0x0, 1, 0x0, 1, .every,
    [⟨"MAX_VECS", 24, 20, .ro, 0x10⟩, ⟨"MAX_QPS", 19, 16, .ro, 0x8⟩, ⟨"TOTAL_VFS", 10, 0, .ro, 0x7FF⟩]⟩,
  ⟨"VFM_FREE0", 0x100004, 0x0, 1, 0x0, 1, .none,
    [⟨"VEC_FREE", 28, 16, .ro, 0x0⟩, ⟨"QP_FREE", 12, 0, .ro, 0x0⟩]⟩,
  ⟨"VFM_FREE1", 0x100008, 0x0, 1, 0x0, 1, .none,
    [⟨"OPM_FREE", 25, 17, .ro, 0x0⟩, ⟨"CTX_FREE", 16, 0, .ro, 0x0⟩]⟩,
  ⟨"VFM_FREE2", 0x10000C, 0x0, 1, 0x0, 1, .none,
    [⟨"KEY_OBJ_FREE", 31, 16, .ro, 0x0⟩, ⟨"KEY_4K_FREE", 13, 0, .ro, 0x0⟩]⟩,
  ⟨"VFM_DEDICATED", 0x100010, 0x0, 1, 0x0, 1, .none,
    [⟨"CLUSTERS", 11, 0, .ro, 0x0⟩]⟩,
  ⟨"VFM_SEL", 0x100100, 0x0, 1, 0x0, 1, .none,
    [⟨"FN", 11, 0, .rw, 0x0⟩]⟩,
  ⟨"VFM_ST_CLUSTERS", 0x100114, 0x0, 1, 0x0, 1, .none,
    [⟨"CLUSTERS", 11, 0, .rw, 0x0⟩]⟩,
  ⟨"VFM_ST_OPM", 0x100118, 0x0, 1, 0x0, 1, .none,
    [⟨"OPM_4K", 8, 0, .rw, 0x0⟩]⟩,
  ⟨"VFM_ST_SPILL_LO", 0x10011C, 0x0, 1, 0x0, 1, .none,
    [⟨"ADDR_LO", 31, 12, .rw, 0x0⟩]⟩,
  ⟨"VFM_ST_SPILL_HI", 0x100120, 0x0, 1, 0x0, 1, .none,
    [⟨"ADDR_HI", 31, 0, .rw, 0x0⟩]⟩,
  ⟨"VFM_ST_SPILL_LEN", 0x100124, 0x0, 1, 0x0, 1, .none,
    [⟨"LEN_4K", 15, 0, .rw, 0x0⟩]⟩,
  ⟨"VFM_APPLY", 0x100130, 0x0, 1, 0x0, 1, .none,
    [⟨"SPILL", 7, 7, .wo, 0x0⟩, ⟨"OPM", 6, 6, .wo, 0x0⟩, ⟨"CLUSTERS", 5, 5, .wo, 0x0⟩, ⟨"KEY", 4, 4, .wo, 0x0⟩, ⟨"INFLIGHT", 3, 3, .wo, 0x0⟩, ⟨"CTX", 2, 2, .wo, 0x0⟩, ⟨"ALLOT", 1, 1, .wo, 0x0⟩, ⟨"GO", 0, 0, .wo, 0x0⟩]⟩,
  ⟨"VFM_APPLY_STAT", 0x100134, 0x0, 1, 0x0, 1, .none,
    [⟨"FAILED", 18, 16, .ro, 0x0⟩, ⟨"RESULT", 15, 8, .ro, 0x0⟩, ⟨"BUSY", 0, 0, .ro, 0x0⟩]⟩,
  ⟨"VFM_QUIESCE", 0x100200, 0x0, 1, 0x0, 1, .none,
    [⟨"START", 31, 31, .wo, 0x0⟩, ⟨"RELEASE", 30, 30, .wo, 0x0⟩, ⟨"FN", 11, 0, .wo, 0x0⟩]⟩,
  ⟨"VFM_QUIESCE_STAT", 0x100204, 0x0, 1, 0x0, 1, .none,
    [⟨"ELAPSED", 27, 16, .ro, 0x0⟩, ⟨"DONE", 13, 13, .ro, 0x0⟩, ⟨"BUSY", 12, 12, .ro, 0x0⟩, ⟨"FN", 11, 0, .ro, 0x0⟩]⟩,
  ⟨"VFM_FLR_DONE", 0x100400, 0x4, 64, 0x0, 1, .none,
    [⟨"DONE", 31, 0, .w1c, 0x0⟩]⟩,
  ⟨"VFM_EVT_VEC", 0x100500, 0x0, 1, 0x0, 1, .none,
    [⟨"EN", 6, 6, .rw, 0x0⟩, ⟨"VEC", 5, 0, .rw, 0x1⟩]⟩,
  ⟨"VFM_ST_ALLOT", 0x100104, 0x0, 1, 0x0, 1, .none,
    [⟨"WEIGHT", 23, 16, .rw, 0x0⟩, ⟨"VECS", 8, 4, .rw, 0x0⟩, ⟨"QPS", 3, 0, .rw, 0x0⟩]⟩,
  ⟨"VFM_ST_CTX", 0x100108, 0x0, 1, 0x0, 1, .none,
    [⟨"CTX", 16, 0, .rw, 0x0⟩]⟩,
  ⟨"VFM_ST_INFLIGHT", 0x10010C, 0x0, 1, 0x0, 1, .none,
    [⟨"CAP", 14, 0, .rw, 0x0⟩]⟩,
  ⟨"VFM_ST_KEY", 0x100110, 0x0, 1, 0x0, 1, .none,
    [⟨"KEY_OBJ", 31, 16, .rw, 0x0⟩, ⟨"KEY_4K", 13, 0, .rw, 0x0⟩]⟩]

/-- Register tables of the PF0 BAR0 blocks described in spec file 03_queues_and_descriptors.md. -/
def regs03 : List RegSpec := [
  ⟨"QP_BASE_LO", 0x210000, 0x10, 16, 0x0, 1, .none,
    [⟨"ADDR_LO", 31, 12, .rw, 0x0⟩]⟩,
  ⟨"QP_BASE_HI", 0x210004, 0x10, 16, 0x0, 1, .none,
    [⟨"ADDR_HI", 31, 0, .rw, 0x0⟩]⟩,
  ⟨"QP_CFG", 0x210008, 0x10, 16, 0x0, 1, .none,
    [⟨"EN", 31, 31, .rw, 0x0⟩, ⟨"COAL_TIME", 30, 24, .rw, 0x0⟩, ⟨"COAL_CNT", 23, 16, .rw, 0x0⟩, ⟨"IEN", 15, 15, .rw, 0x0⟩, ⟨"VEC", 13, 8, .rw, 0x0⟩, ⟨"CQ_SIZE", 7, 4, .rw, 0x0⟩, ⟨"SQ_SIZE", 3, 0, .rw, 0x0⟩]⟩,
  ⟨"QP_STAT", 0x21000C, 0x10, 16, 0x0, 1, .none,
    [⟨"STATE", 31, 30, .ro, 0x0⟩, ⟨"ERR", 29, 24, .ro, 0x0⟩, ⟨"SQ_HEAD", 15, 0, .ro, 0x0⟩]⟩,
  ⟨"SQ_TAIL", 0x200000, 0x1000, 16, 0x0, 1, .none,
    [⟨"TAIL", 15, 0, .wo, 0x0⟩]⟩,
  ⟨"CQ_HEAD", 0x200004, 0x1000, 16, 0x0, 1, .none,
    [⟨"HEAD", 15, 0, .wo, 0x0⟩]⟩,
  ⟨"CMD_CAPS", 0x220000, 0x0, 1, 0x0, 1, .every,
    [⟨"INFLIGHT_MAX", 31, 16, .ro, 0x4000⟩, ⟨"PF_QPS", 15, 8, .ro, 0x10⟩, ⟨"MAX_SQ_SIZE", 7, 4, .ro, 0xC⟩, ⟨"MAX_CQ_SIZE", 3, 0, .ro, 0xC⟩]⟩,
  ⟨"CMD_INFLIGHT", 0x220004, 0x0, 1, 0x0, 1, .none,
    [⟨"PEAK", 30, 16, .rc, 0x0⟩, ⟨"USED", 14, 0, .ro, 0x0⟩]⟩,
  ⟨"CMD_CRC_CNT", 0x220008, 0x0, 1, 0x0, 1, .none,
    [⟨"COUNT", 31, 0, .rc, 0x0⟩]⟩,
  ⟨"CMD_QPERR", 0x220100, 0x4, 64, 0x0, 1, .none,
    [⟨"FN", 31, 0, .w1c, 0x0⟩]⟩]

/-- Register tables of the PF0 BAR0 blocks described in spec file 04_mailboxes_and_management.md. -/
def regs04 : List RegSpec := [
  ⟨"MBX_CAPS", 0x80000, 0x1000, 4, 0x0, 1, .every,
    [⟨"IF_MAJOR", 23, 16, .ro, 0x0⟩, ⟨"IF_MINOR", 15, 8, .ro, 0x0⟩, ⟨"CHANNEL", 1, 0, .ro, 0x0⟩]⟩,
  ⟨"MBX_CTRL", 0x80004, 0x1000, 4, 0x0, 1, .none,
    [⟨"IEN", 6, 6, .rw, 0x0⟩, ⟨"VEC", 5, 0, .rw, 0x0⟩]⟩,
  ⟨"MBX_DOORBELL", 0x80008, 0x1000, 4, 0x0, 1, .none,
    [⟨"CANCEL", 1, 1, .wo, 0x0⟩, ⟨"GO", 0, 0, .wo, 0x0⟩]⟩,
  ⟨"MBX_STAT", 0x8000C, 0x1000, 4, 0x0, 1, .none,
    [⟨"HOLD", 6, 6, .ro, 0x0⟩, ⟨"FAILOVER", 5, 5, .w1c, 0x0⟩, ⟨"OVERRUN", 4, 4, .w1c, 0x0⟩, ⟨"EARLY", 3, 3, .ro, 0x1⟩, ⟨"DONE", 2, 2, .ro, 0x0⟩, ⟨"BUSY", 1, 1, .ro, 0x0⟩, ⟨"READY", 0, 0, .ro, 0x0⟩]⟩,
  ⟨"MBX_ACK", 0x80010, 0x1000, 4, 0x0, 1, .none,
    [⟨"ACK", 0, 0, .wo, 0x0⟩]⟩,
  ⟨"MBX_REQ_EXT_LO", 0x80014, 0x1000, 4, 0x0, 1, .none,
    [⟨"ADDR_LO", 31, 0, .rw, 0x0⟩]⟩,
  ⟨"MBX_REQ_EXT_HI", 0x80018, 0x1000, 4, 0x0, 1, .none,
    [⟨"ADDR_HI", 31, 0, .rw, 0x0⟩]⟩,
  ⟨"MBX_RESP_EXT_LO", 0x8001C, 0x1000, 4, 0x0, 1, .none,
    [⟨"ADDR_LO", 31, 0, .rw, 0x0⟩]⟩,
  ⟨"MBX_RESP_EXT_HI", 0x80020, 0x1000, 4, 0x0, 1, .none,
    [⟨"ADDR_HI", 31, 0, .rw, 0x0⟩]⟩,
  ⟨"MBX_REQ_EXT_LEN", 0x80024, 0x1000, 4, 0x0, 1, .none,
    [⟨"BYTES", 24, 0, .rw, 0x0⟩]⟩,
  ⟨"MBX_RESP_EXT_CAP", 0x80028, 0x1000, 4, 0x0, 1, .none,
    [⟨"BYTES", 24, 0, .rw, 0x0⟩]⟩,
  ⟨"MBX_REQ", 0x80100, 0x1000, 4, 0x4, 16, .none,
    [⟨"WORD", 31, 0, .rw, 0x0⟩]⟩,
  ⟨"MBX_DATA", 0x80200, 0x1000, 4, 0x4, 16, .none,
    [⟨"WORD", 31, 0, .ro, 0x0⟩]⟩,
  ⟨"HRT_STAT", 0xF0000, 0x0, 1, 0x0, 1, .none,
    [⟨"FAILOVERS", 23, 16, .ro, 0x0⟩, ⟨"DISP_RETIRED", 15, 8, .ro, 0x0⟩, ⟨"STANDBY", 3, 2, .ro, 0x1⟩, ⟨"ACTIVE", 0, 0, .ro, 0x0⟩]⟩,
  ⟨"HRT_WDT", 0xF0004, 0x0, 1, 0x0, 1, .none,
    [⟨"DISP_100US", 31, 16, .rwl, 0x64⟩, ⟨"HEARTH_MS", 15, 0, .rwl, 0x3E8⟩]⟩]

/-- Register tables of the PF0 BAR0 blocks described in spec file 05_key_store_and_attestation.md. -/
def regs05 : List RegSpec := [
  ⟨"KST_CAPS", 0x300000, 0x0, 1, 0x0, 1, .every,
    [⟨"OBJ_MAX", 31, 16, .ro, 0x8000⟩, ⟨"CK_GRAN", 15, 8, .ro, 0x40⟩, ⟨"CACHE_MIB", 7, 0, .ro, 0x30⟩]⟩,
  ⟨"KST_STAT", 0x300004, 0x0, 1, 0x0, 1, .none,
    [⟨"ERASED", 7, 7, .w1c, 0x0⟩, ⟨"LOADING", 6, 6, .ro, 0x0⟩, ⟨"SEAL", 5, 4, .ro, 0x0⟩]⟩,
  ⟨"KST_UNSEAL", 0x300008, 0x0, 1, 0x0, 1, .none,
    [⟨"TOTAL", 31, 16, .ro, 0x0⟩, ⟨"DONE", 15, 0, .ro, 0x0⟩]⟩,
  ⟨"KST_USE0", 0x30000C, 0x0, 1, 0x0, 1, .none,
    [⟨"BYTES_4K", 29, 16, .ro, 0x0⟩, ⟨"OBJ", 15, 0, .ro, 0x0⟩]⟩,
  ⟨"KST_USE1", 0x300010, 0x0, 1, 0x0, 1, .none,
    [⟨"CK_USED", 23, 17, .ro, 0x0⟩, ⟨"CTX", 16, 0, .ro, 0x0⟩]⟩,
  ⟨"KST_HBS", 0x300014, 0x0, 1, 0x0, 1, .none,
    [⟨"SPARE", 23, 16, .ro, 0x0⟩, ⟨"FROZEN", 15, 5, .ro, 0x0⟩, ⟨"DEF_LOG2", 4, 0, .ro, 0xA⟩]⟩,
  ⟨"KST_LOST", 0x300018, 0x0, 1, 0x0, 1, .allButVin,
    [⟨"STAMP", 31, 0, .ro, 0x0⟩]⟩]

/-- Register tables of the PF0 BAR0 blocks described in spec file 06_polynomial_vector_cores.md. -/
def regs06 : List RegSpec := [
  ⟨"CL_STAT", 0x1000000, 0x100000, 12, 0x0, 1, .none,
    [⟨"OWNER", 19, 8, .ro, 0x0⟩, ⟨"DEDICATED", 7, 7, .ro, 0x0⟩, ⟨"MASK_STALL", 6, 6, .ro, 0x0⟩, ⟨"SPONGE_FREE", 5, 3, .ro, 0x4⟩]⟩,
  ⟨"CL_PVC", 0x1000010, 0x100000, 12, 0x4, 8, .none,
    [⟨"STATE", 31, 30, .ro, 0x0⟩, ⟨"FN", 27, 16, .ro, 0x0⟩, ⟨"OPCODE", 15, 0, .ro, 0x0⟩]⟩,
  ⟨"CL_MASK", 0x1000040, 0x100000, 12, 0x0, 1, .none,
    [⟨"BLOCKS", 20, 0, .ro, 0x0⟩]⟩,
  ⟨"CL_TRAP", 0x1000044, 0x100000, 12, 0x0, 1, .none,
    [⟨"CAUSE", 31, 24, .ro, 0x0⟩, ⟨"PVC", 23, 21, .ro, 0x0⟩, ⟨"OPCODE", 15, 0, .ro, 0x0⟩]⟩,
  ⟨"CL_TRAP_CNT", 0x1000048, 0x100000, 12, 0x0, 1, .none,
    [⟨"FLOW", 31, 16, .rc, 0x0⟩, ⟨"FAULT", 15, 0, .rc, 0x0⟩]⟩,
  ⟨"CL_SRAM", 0x100004C, 0x100000, 12, 0x0, 1, .none,
    [⟨"KCACHE_4K", 22, 16, .ro, 0x0⟩, ⟨"DATA_FREE_4K", 7, 0, .ro, 0xC0⟩]⟩,
  ⟨"CL_TWID", 0x1000050, 0x100000, 12, 0x0, 1, .none,
    [⟨"SLOTS", 15, 0, .ro, 0x0⟩]⟩,
  ⟨"CL_RUNS", 0x1000054, 0x100000, 12, 0x0, 1, .none,
    [⟨"COUNT", 31, 0, .rc, 0x0⟩]⟩,
  ⟨"CL_DIAG", 0x1000060, 0x100000, 12, 0x0, 1, .none,
    [⟨"PVC", 2, 0, .rw, 0x0⟩]⟩]

/-- Register tables of the PF0 BAR0 blocks described in spec file 08_hash_tree_digest_and_check.md. -/
def regs08 : List RegSpec := [
  ⟨"HTE_CAPS", 0x500000, 0x0, 1, 0x0, 1, .every,
    [⟨"UNITS", 15, 8, .ro, 0x8⟩, ⟨"GROUPS", 7, 0, .ro, 0x10⟩]⟩,
  ⟨"HTE_STAT", 0x500004, 0x0, 1, 0x0, 1, .none,
    [⟨"IN_SERVICE", 31, 16, .ro, 0x0⟩, ⟨"REBUILD", 15, 4, .ro, 0x0⟩, ⟨"MASK_STALL", 0, 0, .ro, 0x0⟩]⟩,
  ⟨"HTE_GRP", 0x500010, 0x4, 16, 0x0, 1, .none,
    [⟨"STATE", 31, 30, .ro, 0x0⟩, ⟨"FN", 27, 16, .ro, 0x0⟩, ⟨"OPCODE", 15, 0, .ro, 0x0⟩]⟩,
  ⟨"HTE_MASK", 0x500050, 0x0, 1, 0x0, 1, .none,
    [⟨"BLOCKS", 20, 0, .ro, 0x0⟩]⟩,
  ⟨"HTE_RUNS", 0x500054, 0x0, 1, 0x0, 1, .none,
    [⟨"COUNT", 31, 0, .rc, 0x0⟩]⟩,
  ⟨"DGE_CAPS", 0x400000, 0x0, 1, 0x0, 1, .every,
    [⟨"KSC", 31, 24, .ro, 0xFF⟩, ⟨"CTX", 23, 13, .ro, 0x400⟩, ⟨"PIPES", 5, 0, .ro, 0x20⟩]⟩,
  ⟨"DGE_STAT", 0x400004, 0x0, 1, 0x0, 1, .none,
    [⟨"CLEARED", 11, 11, .rc, 0x0⟩, ⟨"PIPES_IN", 10, 5, .ro, 0x0⟩, ⟨"QUADS", 3, 0, .ro, 0x0⟩]⟩,
  ⟨"DGE_USE", 0x400008, 0x0, 1, 0x0, 1, .none,
    [⟨"KSC_USED", 24, 16, .ro, 0x0⟩, ⟨"RESIDENT", 10, 0, .ro, 0x0⟩]⟩,
  ⟨"DGE_SPILL", 0x40000C, 0x0, 1, 0x0, 1, .none,
    [⟨"RESTORES", 31, 16, .rc, 0x0⟩, ⟨"SPILLS", 15, 0, .rc, 0x0⟩]⟩,
  ⟨"DGE_SPILL_ERR", 0x400010, 0x0, 1, 0x0, 1, .none,
    [⟨"READ", 31, 16, .rc, 0x0⟩, ⟨"WRITE", 15, 0, .rc, 0x0⟩]⟩,
  ⟨"DGE_KSC_HIT", 0x400014, 0x0, 1, 0x0, 1, .none,
    [⟨"MISS", 31, 16, .rc, 0x0⟩, ⟨"HIT", 15, 0, .rc, 0x0⟩]⟩,
  ⟨"CHK_CAPS", 0x480000, 0x0, 1, 0x0, 1, .every,
    [⟨"SPARES", 15, 8, .ro, 0x2⟩, ⟨"CHANNELS", 7, 0, .ro, 0x40⟩]⟩,
  ⟨"CHK_STAT", 0x480004, 0x0, 1, 0x0, 1, .none,
    [⟨"CFG_ERR", 8, 8, .w1c, 0x0⟩, ⟨"SPARES_LEFT", 1, 0, .ro, 0x2⟩]⟩,
  ⟨"CHK_CFG", 0x481000, 0x40, 64, 0x0, 1, .hio,
    [⟨"EN", 31, 31, .rw, 0x0⟩, ⟨"OWNER", 30, 19, .rw, 0x0⟩, ⟨"POLY", 18, 16, .rw, 0x0⟩, ⟨"FOLD", 15, 13, .rw, 0x0⟩, ⟨"BLK", 12, 12, .rw, 0x0⟩, ⟨"OUT_BE", 11, 11, .rw, 0x0⟩, ⟨"REFIN", 10, 10, .rw, 0x0⟩, ⟨"REFOUT", 9, 9, .rw, 0x0⟩]⟩,
  ⟨"CHK_POLY_LO", 0x481004, 0x40, 64, 0x0, 1, .hio,
    [⟨"VALUE", 31, 0, .rw, 0x0⟩]⟩,
  ⟨"CHK_POLY_HI", 0x481008, 0x40, 64, 0x0, 1, .hio,
    [⟨"VALUE", 31, 0, .rw, 0x0⟩]⟩,
  ⟨"CHK_INIT_LO", 0x48100C, 0x40, 64, 0x0, 1, .hio,
    [⟨"VALUE", 31, 0, .rw, 0x0⟩]⟩,
  ⟨"CHK_INIT_HI", 0x481010, 0x40, 64, 0x0, 1, .hio,
    [⟨"VALUE", 31, 0, .rw, 0x0⟩]⟩,
  ⟨"CHK_XOR_LO", 0x481014, 0x40, 64, 0x0, 1, .hio,
    [⟨"VALUE", 31, 0, .rw, 0x0⟩]⟩,
  ⟨"CHK_XOR_HI", 0x481018, 0x40, 64, 0x0, 1, .hio,
    [⟨"VALUE", 31, 0, .rw, 0x0⟩]⟩,
  ⟨"CHK_RESULT", 0x48101C, 0x40, 64, 0x0, 1, .none,
    [⟨"VALUE", 31, 0, .ro, 0x0⟩]⟩,
  ⟨"CHK_RESULTH", 0x481020, 0x40, 64, 0x0, 1, .none,
    [⟨"VALUE", 31, 0, .ro, 0x0⟩]⟩,
  ⟨"CHK_LAST", 0x481024, 0x40, 64, 0x0, 1, .none,
    [⟨"FN", 27, 16, .ro, 0x0⟩, ⟨"TAG", 15, 0, .ro, 0x0⟩]⟩]

/-- Register tables of the PF0 BAR0 blocks described in spec file 09_big_number_engine.md. -/
def regs09 : List RegSpec := [
  ⟨"BNE_CAPS", 0x600000, 0x0, 1, 0x0, 1, .every,
    [⟨"MAX_256", 23, 16, .ro, 0x20⟩, ⟨"CURVES", 15, 8, .ro, 0x10⟩, ⟨"UNITS", 7, 0, .ro, 0x8⟩]⟩,
  ⟨"BNE_STAT", 0x600004, 0x0, 1, 0x0, 1, .none,
    [⟨"MASK_STALL", 15, 8, .ro, 0x0⟩, ⟨"IN_SERVICE", 7, 0, .ro, 0x0⟩]⟩,
  ⟨"BNE_UNIT", 0x600010, 0x4, 8, 0x0, 1, .none,
    [⟨"STATE", 31, 30, .ro, 0x0⟩, ⟨"FN", 27, 16, .ro, 0x0⟩, ⟨"OPCODE", 15, 0, .ro, 0x0⟩]⟩,
  ⟨"BNE_MASK", 0x600030, 0x4, 8, 0x0, 1, .none,
    [⟨"BLOCKS", 20, 0, .ro, 0x0⟩]⟩,
  ⟨"BNE_CURVE", 0x600050, 0x0, 1, 0x0, 1, .none,
    [⟨"FAILED", 31, 16, .ro, 0x0⟩, ⟨"VALID", 15, 0, .ro, 0x0⟩]⟩,
  ⟨"BNE_CURVE_ERR", 0x600054, 0x4, 2, 0x0, 1, .none,
    [⟨"CODE", 31, 0, .ro, 0x0⟩]⟩,
  ⟨"BNE_RUNS", 0x60005C, 0x0, 1, 0x0, 1, .none,
    [⟨"COUNT", 31, 0, .rc, 0x0⟩]⟩,
  ⟨"OPM_SEL", 0x600100, 0x0, 1, 0x0, 1, .none,
    [⟨"FN", 11, 0, .rw, 0x0⟩]⟩,
  ⟨"OPM_PART0", 0x600104, 0x0, 1, 0x0, 1, .none,
    [⟨"FORMATTED", 31, 31, .ro, 0x0⟩, ⟨"SEALED", 30, 30, .ro, 0x0⟩, ⟨"SLOT_256", 29, 24, .ro, 0x0⟩, ⟨"SLOTS", 21, 11, .ro, 0x0⟩, ⟨"IN_USE", 10, 0, .ro, 0x0⟩]⟩,
  ⟨"OPM_PART1", 0x600108, 0x0, 1, 0x0, 1, .none,
    [⟨"POISONED", 26, 16, .ro, 0x0⟩, ⟨"BASE_4K", 8, 0, .ro, 0x0⟩]⟩,
  ⟨"OPM_STAT", 0x600110, 0x0, 1, 0x0, 1, .none,
    [⟨"POISON", 0, 0, .w1c, 0x0⟩]⟩]

/-- Register tables of the PF0 BAR0 blocks described in spec file 10_entropy_source.md. -/
def regs10 : List RegSpec := [
  ⟨"NRG_CAPS", 0x60000, 0x0, 1, 0x0, 1, .every,
    [⟨"CELLS_PER_GRP", 15, 8, .ro, 0x20⟩, ⟨"GROUPS", 4, 0, .ro, 0x10⟩]⟩,
  ⟨"NRG_STAT", 0x60004, 0x0, 1, 0x0, 1, .hio,
    [⟨"CONSEC", 15, 14, .ro, 0x0⟩, ⟨"RETIRED", 13, 9, .ro, 0x0⟩, ⟨"IN_SERVICE", 8, 4, .ro, 0x0⟩, ⟨"LOW", 3, 3, .ro, 0x0⟩, ⟨"STATE", 1, 0, .ro, 0x3⟩]⟩,
  ⟨"NRG_CTRL", 0x60008, 0x0, 1, 0x0, 1, .none,
    [⟨"RESTART", 0, 0, .wo, 0x0⟩]⟩,
  ⟨"NRG_WAIT", 0x6000C, 0x0, 1, 0x0, 1, .hio,
    [⟨"LIMIT_100US", 13, 0, .rwl, 0x64⟩]⟩,
  ⟨"NRG_EXP", 0x60010, 0x0, 1, 0x0, 1, .hio,
    [⟨"AT_LIMIT", 20, 0, .ro, 0x0⟩]⟩,
  ⟨"NRG_OUT", 0x60014, 0x0, 1, 0x0, 1, .hio,
    [⟨"BLOCKS", 31, 0, .rc, 0x0⟩]⟩,
  ⟨"NRG_GRP", 0x60100, 0x4, 16, 0x0, 1, .hio,
    [⟨"STATE", 31, 30, .ro, 0x0⟩, ⟨"RETEST", 29, 28, .ro, 0x0⟩, ⟨"FAILS", 27, 16, .ro, 0x0⟩, ⟨"TEST", 10, 8, .ro, 0x0⟩, ⟨"CELL", 4, 0, .ro, 0x0⟩]⟩]

/-- Register tables of the PF0 BAR0 blocks described in spec file 11_waking_a_shelf.md. -/
def regs11 : List RegSpec := [
  ⟨"PWR_INRUSH", 0x20000, 0x0, 1, 0x0, 1, .allButVin,
    [⟨"BUDGET", 5, 0, .rwl, 0x8⟩]⟩,
  ⟨"PWR_WAKE", 0x20004, 0x0, 1, 0x0, 1, .allButVin,
    [⟨"PERMIT_WAIT_MS", 23, 16, .rwl, 0x32⟩, ⟨"POST_BUDGET", 5, 0, .rwl, 0x2⟩]⟩,
  ⟨"PWR_IDLE", 0x20008, 0x0, 1, 0x0, 1, .hio,
    [⟨"TIMEOUT_MS", 15, 0, .rw, 0x0⟩]⟩,
  ⟨"PWR_STAT", 0x2000C, 0x0, 1, 0x0, 1, .allButVin,
    [⟨"QUEUED", 15, 8, .ro, 0xA4⟩, ⟨"DERATED", 7, 7, .ro, 0x0⟩, ⟨"PAUSED", 6, 6, .ro, 0x0⟩, ⟨"PERMIT", 5, 4, .ro, 0x0⟩, ⟨"WAKING", 0, 0, .ro, 0x1⟩]⟩,
  ⟨"PWR_VIN", 0x20010, 0x0, 1, 0x0, 1, .none,
    [⟨"VREF_MV", 31, 16, .ro, 0x0⟩, ⟨"VIN_MV", 15, 0, .ro, 0x2EE0⟩]⟩,
  ⟨"PWR_LOAD", 0x20014, 0x0, 1, 0x0, 1, .none,
    [⟨"LIMIT_100MW", 31, 16, .ro, 0x5DC⟩, ⟨"ADMITTED_100MW", 15, 0, .ro, 0x5⟩]⟩,
  ⟨"PWR_PAUSES", 0x20018, 0x0, 1, 0x0, 1, .allButVin,
    [⟨"DERATES", 31, 16, .rc, 0x0⟩, ⟨"PAUSES", 15, 0, .rc, 0x0⟩]⟩,
  ⟨"PWR_ON", 0x20100, 0x4, 6, 0x0, 1, .none,
    [⟨"ON", 31, 0, .ro, 0x0⟩]⟩,
  ⟨"RST_CAUSE", 0x10000, 0x0, 1, 0x0, 1, .allButVin,
    [⟨"HOT_RESET", 11, 11, .w1c, 0x0⟩, ⟨"LINK_DOWN", 10, 10, .w1c, 0x0⟩, ⟨"THERMAL", 9, 9, .w1c, 0x0⟩, ⟨"LIFE_CYCLE", 8, 8, .w1c, 0x0⟩, ⟨"SOFTWARE", 7, 7, .w1c, 0x0⟩, ⟨"FAULT", 6, 6, .w1c, 0x0⟩, ⟨"TAMPER", 5, 5, .w1c, 0x0⟩, ⟨"DISP_WDT", 4, 4, .w1c, 0x0⟩, ⟨"HEARTH_WDT", 3, 3, .w1c, 0x0⟩, ⟨"PERST", 2, 2, .w1c, 0x0⟩, ⟨"RESET_N", 1, 1, .w1c, 0x0⟩, ⟨"POR", 0, 0, .w1c, 0x1⟩]⟩,
  ⟨"RST_LAST", 0x10004, 0x0, 1, 0x0, 1, .allButVin,
    [⟨"FULL_CNT", 31, 16, .ro, 0x0⟩, ⟨"CAUSE", 3, 0, .ro, 0x0⟩]⟩,
  ⟨"RST_CTRL", 0x10008, 0x0, 1, 0x0, 1, .none,
    [⟨"KEY", 31, 16, .wo, 0x0⟩, ⟨"HIO", 1, 1, .wo, 0x0⟩, ⟨"FULL", 0, 0, .wo, 0x0⟩]⟩,
  ⟨"RST_CFG", 0x1000C, 0x0, 1, 0x0, 1, .allButVin,
    [⟨"PERST_MODE", 0, 0, .rwl, 0x0⟩]⟩,
  ⟨"RST_STRAP", 0x10010, 0x0, 1, 0x0, 1, .none,
    [⟨"BOOT", 17, 16, .ro, 0x0⟩, ⟨"LEVEL", 11, 8, .ro, 0x0⟩, ⟨"CODE", 5, 0, .ro, 0x0⟩]⟩,
  ⟨"RST_TIME", 0x10014, 0x0, 1, 0x0, 1, .allButVin,
    [⟨"FULL_MS", 31, 16, .ro, 0x0⟩, ⟨"READY_MS", 15, 0, .ro, 0x0⟩]⟩]

/-- Register tables of the PF0 BAR0 blocks described in spec file 12_module_balls_and_supplies.md. -/
def regs12 : List RegSpec := [
  ⟨"GLB_GPIO_IN", 0x100, 0x0, 1, 0x0, 1, .none,
    [⟨"LEVEL", 31, 0, .ro, 0x0⟩]⟩,
  ⟨"GLB_GPIO_OUT", 0x104, 0x0, 1, 0x0, 1, .hio,
    [⟨"LEVEL", 31, 0, .rw, 0x0⟩]⟩,
  ⟨"GLB_STAT_LS", 0x108, 0x0, 1, 0x0, 1, .none,
    [⟨"POSITION", 11, 8, .ro, 0x0⟩, ⟨"VIO_LOW", 7, 7, .ro, 0x0⟩, ⟨"DERATED", 6, 6, .ro, 0x0⟩, ⟨"SEAL", 5, 4, .ro, 0x0⟩, ⟨"ERR", 3, 3, .ro, 0x0⟩, ⟨"HOLD", 2, 2, .ro, 0x0⟩, ⟨"READY", 1, 1, .ro, 0x0⟩, ⟨"WAKING", 0, 0, .ro, 0x1⟩]⟩,
  ⟨"GLB_SUPPLY", 0x10C, 0x0, 1, 0x0, 1, .none,
    [⟨"VBAT_MV", 31, 16, .ro, 0xBB8⟩, ⟨"VIO_MV", 15, 0, .ro, 0xCE4⟩]⟩,
  ⟨"GLB_TEMP", 0x110, 0x0, 1, 0x0, 1, .none,
    [⟨"PEAK", 15, 8, .rc, 0x19⟩, ⟨"DIE_MAX", 7, 0, .ro, 0x19⟩]⟩]

/-- Register tables of the PF0 BAR0 blocks described in spec file 13_tamper_and_peat_domain.md. -/
def regs13 : List RegSpec := [
  ⟨"TMP_CAPS", 0x40000, 0x0, 1, 0x0, 1, .every,
    [⟨"LOOPS", 23, 16, .ro, 0x10⟩, ⟨"HARD", 15, 8, .ro, 0xE⟩, ⟨"SOURCES", 7, 0, .ro, 0x40⟩]⟩,
  ⟨"TMP_STAT", 0x40004, 0x0, 1, 0x0, 1, .allButVin,
    [⟨"CFG_ERR", 4, 4, .w1c, 0x0⟩, ⟨"TEST_BUSY", 3, 3, .ro, 0x0⟩, ⟨"ALERT", 2, 2, .ro, 0x0⟩, ⟨"ERASE_HELD", 1, 1, .ro, 0x0⟩, ⟨"LOCKED", 0, 0, .ro, 0x0⟩]⟩,
  ⟨"TMP_CTRL", 0x40008, 0x0, 1, 0x0, 1, .allButVin,
    [⟨"BIST_H", 15, 8, .rwl, 0x18⟩, ⟨"IEN", 6, 6, .rwl, 0x0⟩, ⟨"VEC", 5, 0, .rwl, 0x2⟩]⟩,
  ⟨"TMP_FIRST", 0x4000C, 0x0, 1, 0x0, 1, .allButVin,
    [⟨"VALID", 31, 31, .w1c, 0x0⟩, ⟨"RESP", 27, 24, .ro, 0x0⟩, ⟨"SOURCE", 21, 16, .ro, 0x0⟩, ⟨"SEQ", 15, 0, .ro, 0x0⟩]⟩,
  ⟨"TMP_STICKY", 0x40010, 0x4, 2, 0x0, 1, .allButVin,
    [⟨"SRC", 31, 0, .w1c, 0x0⟩]⟩,
  ⟨"TMP_TEST", 0x40020, 0x0, 1, 0x0, 1, .none,
    [⟨"GO", 31, 31, .wo, 0x0⟩, ⟨"CH", 16, 16, .rw, 0x0⟩, ⟨"SOURCE", 13, 8, .rw, 0x0⟩, ⟨"RESULT", 2, 1, .ro, 0x0⟩, ⟨"BUSY", 0, 0, .ro, 0x0⟩]⟩,
  ⟨"TMP_TL", 0x40024, 0x0, 1, 0x0, 1, .allButVin,
    [⟨"RATE", 2, 0, .rwl, 0x2⟩]⟩,
  ⟨"TMP_SRC", 0x40100, 0x4, 64, 0x0, 1, .allButVin,
    [⟨"EN", 31, 31, .rwl, 0x0⟩, ⟨"FAIL_B", 21, 21, .ro, 0x0⟩, ⟨"FAIL_A", 20, 20, .ro, 0x0⟩, ⟨"HARD", 19, 19, .ro, 0x0⟩, ⟨"W_E", 18, 16, .rwl, 0x0⟩, ⟨"W_M", 15, 12, .rwl, 0x0⟩, ⟨"N", 11, 4, .rwl, 0x0⟩, ⟨"RESP", 3, 0, .rwl, 0x0⟩]⟩,
  ⟨"PEAT_STAT", 0x2300000, 0x0, 1, 0x0, 1, .every,
    [⟨"OVERWRITTEN", 31, 16, .ro, 0x0⟩, ⟨"LOG_COUNT", 15, 8, .ro, 0x0⟩, ⟨"XTAL_OK", 2, 2, .ro, 0x1⟩, ⟨"COLD", 1, 1, .ro, 0x0⟩, ⟨"SLS_VALID", 0, 0, .ro, 0x0⟩]⟩,
  ⟨"PEAT_RTC_LO", 0x2300004, 0x0, 1, 0x0, 1, .every,
    [⟨"SEC_LO", 31, 0, .rw, 0x0⟩]⟩,
  ⟨"PEAT_RTC_HI", 0x2300008, 0x0, 1, 0x0, 1, .every,
    [⟨"SUBSEC", 30, 16, .ro, 0x0⟩, ⟨"SEC_HI", 7, 0, .rw, 0x0⟩]⟩,
  ⟨"PEAT_CNT", 0x2300020, 0x4, 8, 0x0, 1, .every,
    [⟨"VALUE", 31, 0, .ro, 0x0⟩]⟩,
  ⟨"PEAT_CNT_INC", 0x2300040, 0x0, 1, 0x0, 1, .none,
    [⟨"KEY", 31, 16, .wo, 0x0⟩, ⟨"N", 2, 0, .wo, 0x0⟩]⟩]

/-- Register tables of the PF0 BAR0 blocks described in spec file 14_life_cycle_and_debug.md. -/
def regs14 : List RegSpec := [
  ⟨"LCS_STATE", 0x50000, 0x0, 1, 0x0, 1, .every,
    [⟨"ROOT_KILL", 31, 31, .ro, 0x0⟩, ⟨"PARTIAL", 30, 26, .ro, 0x0⟩, ⟨"COMPLETE", 25, 21, .ro, 0x0⟩, ⟨"PENDING", 15, 8, .ro, 0x0⟩, ⟨"CODE", 7, 0, .ro, 0x0⟩]⟩,
  ⟨"LCS_TOKENS", 0x50004, 0x0, 1, 0x0, 1, .every,
    [⟨"SPENT", 23, 0, .ro, 0x0⟩]⟩,
  ⟨"LCS_DBG", 0x50008, 0x0, 1, 0x0, 1, .none,
    [⟨"ACTIVE", 31, 31, .ro, 0x0⟩, ⟨"OWNER", 30, 30, .ro, 0x0⟩, ⟨"OWNER_FUSED", 29, 29, .ro, 0x0⟩, ⟨"MINUTES", 21, 8, .ro, 0x0⟩, ⟨"SCOPES", 5, 0, .ro, 0x0⟩]⟩,
  ⟨"LCS_DBG_END", 0x5000C, 0x0, 1, 0x0, 1, .none,
    [⟨"KEY", 31, 16, .wo, 0x0⟩, ⟨"END", 0, 0, .wo, 0x0⟩]⟩]

/-- Register tables of the PF0 BAR0 blocks described in spec file 15_fault_collection_and_replay.md. -/
def regs15 : List RegSpec := [
  ⟨"FLT_CAPS", 0x30000, 0x0, 1, 0x0, 1, .every,
    [⟨"SOURCES", 8, 0, .ro, 0x140⟩]⟩,
  ⟨"FLT_STAT", 0x30004, 0x0, 1, 0x0, 1, .allButVin,
    [⟨"RECOVERING", 5, 5, .ro, 0x0⟩, ⟨"ERR_IN", 4, 4, .ro, 0x1⟩, ⟨"ERR_OUT", 3, 3, .ro, 0x0⟩, ⟨"OPEN", 2, 0, .ro, 0x0⟩]⟩,
  ⟨"FLT_CTRL", 0x30008, 0x0, 1, 0x0, 1, .allButVin,
    [⟨"F_RESET", 7, 7, .rw, 0x0⟩, ⟨"IEN", 6, 6, .rw, 0x0⟩, ⟨"VEC", 5, 0, .rw, 0x3⟩]⟩,
  ⟨"FLT_PIN_MASK", 0x3000C, 0x0, 1, 0x0, 1, .allButVin,
    [⟨"CLASS", 2, 0, .rw, 0x6⟩]⟩,
  ⟨"FLT_FIRST", 0x30010, 0x0, 1, 0x0, 1, .allButVin,
    [⟨"VALID", 31, 31, .w1c, 0x0⟩, ⟨"RAIL", 12, 12, .ro, 0x0⟩, ⟨"CLASS", 11, 10, .ro, 0x0⟩, ⟨"SOURCE", 8, 0, .ro, 0x0⟩]⟩,
  ⟨"FLT_FIRST_TS", 0x30014, 0x4, 2, 0x0, 1, .allButVin,
    [⟨"TIME", 31, 0, .ro, 0x0⟩]⟩,
  ⟨"FLT_CNT0", 0x3001C, 0x0, 1, 0x0, 1, .allButVin,
    [⟨"D", 31, 16, .rc, 0x0⟩, ⟨"C", 15, 0, .rc, 0x0⟩]⟩,
  ⟨"FLT_CNT1", 0x30020, 0x0, 1, 0x0, 1, .allButVin,
    [⟨"F", 15, 0, .rc, 0x0⟩]⟩,
  ⟨"FLT_STICKY", 0x30100, 0x4, 10, 0x0, 1, .allButVin,
    [⟨"SRC", 31, 0, .w1c, 0x0⟩]⟩,
  ⟨"FLT_SEL", 0x30200, 0x0, 1, 0x0, 1, .none,
    [⟨"SOURCE", 8, 0, .rw, 0x0⟩]⟩,
  ⟨"FLT_SRC", 0x30204, 0x0, 1, 0x0, 1, .allButVin,
    [⟨"COUNT", 31, 16, .ro, 0x0⟩, ⟨"ACTIVE", 5, 5, .ro, 0x0⟩, ⟨"RAIL", 4, 4, .ro, 0x0⟩, ⟨"CLASSES", 2, 0, .ro, 0x0⟩]⟩,
  ⟨"FLT_SRC_TS", 0x30208, 0x0, 1, 0x0, 1, .allButVin,
    [⟨"TIME", 31, 0, .ro, 0x0⟩]⟩,
  ⟨"FLT_RETIRE", 0x30210, 0x0, 1, 0x0, 1, .allButVin,
    [⟨"WINDOW_MIN", 31, 16, .rw, 0x3C⟩, ⟨"LIMIT", 3, 0, .rw, 0x3⟩]⟩]

/-- Register tables of the PF0 BAR0 blocks described in spec file 16_card_ports.md. -/
def regs16 : List RegSpec := [
  ⟨"CRD_SC_STAT", 0x2100010, 0x4, 2, 0x0, 1, .hio,
    [⟨"STATE", 31, 28, .ro, 0x0⟩, ⟨"CLASS", 27, 26, .ro, 0x0⟩, ⟨"PROTO", 25, 25, .ro, 0x0⟩, ⟨"PPS", 24, 24, .ro, 0x0⟩, ⟨"TA1", 23, 16, .ro, 0x11⟩, ⟨"REJECTS", 15, 8, .rc, 0x0⟩, ⟨"OPERATOR", 7, 0, .ro, 0xFF⟩]⟩,
  ⟨"CRD_MC_STAT", 0x2100020, 0x0, 1, 0x0, 1, .hio,
    [⟨"STATE", 31, 28, .ro, 0x0⟩, ⟨"TYPE", 27, 26, .ro, 0x0⟩, ⟨"MODE", 25, 23, .ro, 0x0⟩, ⟨"WIDTH4", 22, 22, .ro, 0x0⟩, ⟨"V18", 21, 21, .ro, 0x0⟩]⟩,
  ⟨"CRD_MC_CFG", 0x2100024, 0x0, 1, 0x0, 1, .hio,
    [⟨"MAX_MODE", 31, 29, .rw, 0x5⟩, ⟨"WIDTH4", 28, 28, .rw, 0x1⟩, ⟨"IDLE_MS", 15, 0, .rw, 0x3E8⟩]⟩,
  ⟨"CRD_QUORUM", 0x2100030, 0x0, 1, 0x0, 1, .hio,
    [⟨"STATE", 31, 30, .ro, 0x0⟩, ⟨"PURPOSE", 29, 22, .ro, 0x0⟩, ⟨"APPROVALS", 21, 17, .ro, 0x0⟩, ⟨"REQUIRED", 16, 12, .ro, 0x0⟩, ⟨"MINUTES", 5, 0, .ro, 0x0⟩]⟩,
  ⟨"CRD_CER", 0x2100034, 0x0, 1, 0x0, 1, .hio,
    [⟨"OP", 31, 30, .ro, 0x0⟩, ⟨"COMMITTED", 29, 29, .ro, 0x0⟩, ⟨"SHARES", 28, 24, .ro, 0x0⟩, ⟨"NEXT", 7, 0, .ro, 0xFF⟩]⟩]

/-- Register tables of the PF0 BAR0 blocks described in spec file 17_wolum_fabric.md. -/
def regs17 : List RegSpec := [
  ⟨"FAB_CAPS", 0x2000000, 0x0, 1, 0x0, 1, .every,
    [⟨"GROUPS", 31, 24, .ro, 0x40⟩, ⟨"ROUTES", 23, 8, .ro, 0x1000⟩, ⟨"PORTS", 7, 0, .ro, 0x10⟩]⟩,
  ⟨"FAB_STAT", 0x2000004, 0x0, 1, 0x0, 1, .none,
    [⟨"LINKS_UP", 12, 8, .ro, 0x0⟩, ⟨"CONFLICT", 4, 4, .ro, 0x0⟩, ⟨"ROOT", 3, 3, .ro, 0x0⟩, ⟨"STATE", 1, 0, .ro, 0x0⟩]⟩,
  ⟨"FAB_ADDR", 0x2000008, 0x0, 1, 0x0, 1, .none,
    [⟨"ROOT_ADDR", 27, 16, .ro, 0x0⟩, ⟨"VALID", 12, 12, .ro, 0x0⟩, ⟨"ADDR", 11, 0, .ro, 0x0⟩]⟩,
  ⟨"FAB_ROOT_ID", 0x2000010, 0x4, 8, 0x0, 1, .none,
    [⟨"ID", 31, 0, .ro, 0x0⟩]⟩,
  ⟨"FAB_PORT", 0x2000100, 0x4, 16, 0x0, 1, .none,
    [⟨"STATE", 31, 29, .ro, 0x0⟩, ⟨"REFUSE", 28, 26, .ro, 0x0⟩, ⟨"LANES", 25, 24, .ro, 0x0⟩, ⟨"RETRAINS", 23, 16, .ro, 0x0⟩, ⟨"PEER", 11, 0, .ro, 0x0⟩]⟩,
  ⟨"FAB_REPLAY", 0x2000140, 0x4, 16, 0x0, 1, .none,
    [⟨"NAK", 31, 16, .rc, 0x0⟩, ⟨"CORR", 15, 0, .rc, 0x0⟩]⟩,
  ⟨"FAB_ROUTE_SEL", 0x2000200, 0x0, 1, 0x0, 1, .none,
    [⟨"DEST", 11, 0, .rw, 0x0⟩]⟩,
  ⟨"FAB_ROUTE", 0x2000204, 0x0, 1, 0x0, 1, .none,
    [⟨"VALID", 31, 31, .ro, 0x0⟩, ⟨"HOPS", 30, 26, .ro, 0x0⟩, ⟨"COUNT", 25, 24, .ro, 0x0⟩, ⟨"PORTS", 15, 0, .ro, 0x0⟩]⟩,
  ⟨"FAB_SPILL", 0x2000210, 0x0, 1, 0x0, 1, .none,
    [⟨"IN", 31, 16, .rc, 0x0⟩, ⟨"OUT", 15, 0, .rc, 0x0⟩]⟩,
  ⟨"FAB_SYNC", 0x2000214, 0x0, 1, 0x0, 1, .none,
    [⟨"OFFSET", 31, 0, .ro, 0x0⟩]⟩]

/-- Register tables of the PF0 BAR0 blocks described in spec file 18_loopbacks_and_production_test.md. -/
def regs18 : List RegSpec := [
  ⟨"SRD_LB_CTRL", 0x2200000, 0x0, 1, 0x0, 1, .none,
    [⟨"GO", 31, 31, .wo, 0x0⟩, ⟨"STOP", 30, 30, .wo, 0x0⟩, ⟨"IF", 23, 16, .rw, 0x0⟩, ⟨"DEPTH", 11, 10, .rw, 0x0⟩, ⟨"PATTERN", 9, 8, .rw, 0x2⟩]⟩,
  ⟨"SRD_LB_STAT", 0x2200004, 0x0, 1, 0x0, 1, .none,
    [⟨"STATE", 31, 29, .ro, 0x0⟩, ⟨"REASON", 28, 26, .ro, 0x0⟩, ⟨"ERRORS", 23, 0, .rc, 0x0⟩]⟩,
  ⟨"SRD_LB_BITS", 0x2200008, 0x0, 1, 0x0, 1, .none,
    [⟨"COUNT", 31, 0, .rc, 0x0⟩]⟩,
  ⟨"SRD_UNIT_TEST", 0x2200010, 0x0, 1, 0x0, 1, .none,
    [⟨"GO", 31, 31, .wo, 0x0⟩, ⟨"CLASS", 27, 24, .rw, 0x0⟩, ⟨"UNIT", 14, 8, .rw, 0x0⟩, ⟨"RESULT", 7, 6, .ro, 0x0⟩, ⟨"BUSY", 0, 0, .ro, 0x0⟩]⟩,
  ⟨"SRD_INJ_CTRL", 0x2200020, 0x0, 1, 0x0, 1, .none,
    [⟨"GO", 31, 31, .wo, 0x0⟩, ⟨"KIND", 30, 28, .rw, 0x0⟩, ⟨"CLASS", 27, 26, .rw, 0x1⟩, ⟨"CH", 25, 25, .rw, 0x0⟩, ⟨"TARGET", 17, 9, .rw, 0x0⟩]⟩,
  ⟨"SRD_INJ_STAT", 0x2200024, 0x0, 1, 0x0, 1, .none,
    [⟨"RESULT", 31, 30, .ro, 0x0⟩, ⟨"REASON", 29, 27, .ro, 0x0⟩, ⟨"COUNT", 15, 0, .rc, 0x0⟩]⟩]

/-- Every register of PF0 BAR0 (R10). -/
def pfRegs : List RegSpec :=
  regs00 ++ regs02 ++ regs03 ++ regs04 ++ regs05 ++ regs06 ++ regs08 ++ regs09 ++ regs10 ++ regs11 ++ regs12 ++ regs13 ++ regs14 ++ regs15 ++ regs16 ++ regs17 ++ regs18

/-- Every register of a VF BAR0 (R61): status, mailbox, queue registers and doorbells. -/
def vfRegs : List RegSpec := [
  ⟨"VF_STATUS", 0x9000, 0x0, 1, 0x0, 1, .none,
    [⟨"CLUSTERS", 19, 8, .ro, 0x0⟩, ⟨"QP_ERR", 6, 6, .ro, 0x0⟩, ⟨"ISO_DEGRADED", 5, 5, .ro, 0x0⟩, ⟨"DEDICATED", 4, 4, .ro, 0x0⟩, ⟨"HOLD", 3, 3, .ro, 0x0⟩, ⟨"QUIESCED", 2, 2, .ro, 0x0⟩, ⟨"QUIESCING", 1, 1, .ro, 0x0⟩, ⟨"ACTIVE", 0, 0, .ro, 0x0⟩]⟩,
  ⟨"VF_ALLOT", 0x9004, 0x0, 1, 0x0, 1, .none,
    [⟨"WEIGHT", 23, 16, .ro, 0x0⟩, ⟨"VECS", 8, 4, .ro, 0x0⟩, ⟨"QPS", 3, 0, .ro, 0x0⟩]⟩,
  ⟨"VF_CTX_ALLOT", 0x9008, 0x0, 1, 0x0, 1, .none,
    [⟨"CTX", 16, 0, .ro, 0x0⟩]⟩,
  ⟨"VF_INFLIGHT", 0x900C, 0x0, 1, 0x0, 1, .none,
    [⟨"USED", 30, 16, .ro, 0x0⟩, ⟨"CAP", 14, 0, .ro, 0x0⟩]⟩,
  ⟨"VF_KEY_ALLOT", 0x9010, 0x0, 1, 0x0, 1, .none,
    [⟨"KEY_OBJ", 31, 16, .ro, 0x0⟩, ⟨"KEY_4K", 13, 0, .ro, 0x0⟩]⟩,
  ⟨"QP_BASE_LO", 0xA000, 0x10, 8, 0x0, 1, .none,
    [⟨"ADDR_LO", 31, 12, .rw, 0x0⟩]⟩,
  ⟨"QP_BASE_HI", 0xA004, 0x10, 8, 0x0, 1, .none,
    [⟨"ADDR_HI", 31, 0, .rw, 0x0⟩]⟩,
  ⟨"QP_CFG", 0xA008, 0x10, 8, 0x0, 1, .none,
    [⟨"EN", 31, 31, .rw, 0x0⟩, ⟨"COAL_TIME", 30, 24, .rw, 0x0⟩, ⟨"COAL_CNT", 23, 16, .rw, 0x0⟩, ⟨"IEN", 15, 15, .rw, 0x0⟩, ⟨"VEC", 13, 8, .rw, 0x0⟩, ⟨"CQ_SIZE", 7, 4, .rw, 0x0⟩, ⟨"SQ_SIZE", 3, 0, .rw, 0x0⟩]⟩,
  ⟨"QP_STAT", 0xA00C, 0x10, 8, 0x0, 1, .none,
    [⟨"STATE", 31, 30, .ro, 0x0⟩, ⟨"ERR", 29, 24, .ro, 0x0⟩, ⟨"SQ_HEAD", 15, 0, .ro, 0x0⟩]⟩,
  ⟨"SQ_TAIL", 0x0, 0x1000, 8, 0x0, 1, .none,
    [⟨"TAIL", 15, 0, .wo, 0x0⟩]⟩,
  ⟨"CQ_HEAD", 0x4, 0x1000, 8, 0x0, 1, .none,
    [⟨"HEAD", 15, 0, .wo, 0x0⟩]⟩,
  ⟨"MBX_CAPS", 0x8000, 0x0, 1, 0x0, 1, .every,
    [⟨"IF_MAJOR", 23, 16, .ro, 0x0⟩, ⟨"IF_MINOR", 15, 8, .ro, 0x0⟩, ⟨"CHANNEL", 1, 0, .ro, 0x0⟩]⟩,
  ⟨"MBX_CTRL", 0x8004, 0x0, 1, 0x0, 1, .none,
    [⟨"IEN", 6, 6, .rw, 0x0⟩, ⟨"VEC", 5, 0, .rw, 0x0⟩]⟩,
  ⟨"MBX_DOORBELL", 0x8008, 0x0, 1, 0x0, 1, .none,
    [⟨"CANCEL", 1, 1, .wo, 0x0⟩, ⟨"GO", 0, 0, .wo, 0x0⟩]⟩,
  ⟨"MBX_STAT", 0x800C, 0x0, 1, 0x0, 1, .none,
    [⟨"HOLD", 6, 6, .ro, 0x0⟩, ⟨"FAILOVER", 5, 5, .w1c, 0x0⟩, ⟨"OVERRUN", 4, 4, .w1c, 0x0⟩, ⟨"EARLY", 3, 3, .ro, 0x1⟩, ⟨"DONE", 2, 2, .ro, 0x0⟩, ⟨"BUSY", 1, 1, .ro, 0x0⟩, ⟨"READY", 0, 0, .ro, 0x0⟩]⟩,
  ⟨"MBX_ACK", 0x8010, 0x0, 1, 0x0, 1, .none,
    [⟨"ACK", 0, 0, .wo, 0x0⟩]⟩,
  ⟨"MBX_REQ_EXT_LO", 0x8014, 0x0, 1, 0x0, 1, .none,
    [⟨"ADDR_LO", 31, 0, .rw, 0x0⟩]⟩,
  ⟨"MBX_REQ_EXT_HI", 0x8018, 0x0, 1, 0x0, 1, .none,
    [⟨"ADDR_HI", 31, 0, .rw, 0x0⟩]⟩,
  ⟨"MBX_RESP_EXT_LO", 0x801C, 0x0, 1, 0x0, 1, .none,
    [⟨"ADDR_LO", 31, 0, .rw, 0x0⟩]⟩,
  ⟨"MBX_RESP_EXT_HI", 0x8020, 0x0, 1, 0x0, 1, .none,
    [⟨"ADDR_HI", 31, 0, .rw, 0x0⟩]⟩,
  ⟨"MBX_REQ_EXT_LEN", 0x8024, 0x0, 1, 0x0, 1, .none,
    [⟨"BYTES", 24, 0, .rw, 0x0⟩]⟩,
  ⟨"MBX_RESP_EXT_CAP", 0x8028, 0x0, 1, 0x0, 1, .none,
    [⟨"BYTES", 24, 0, .rw, 0x0⟩]⟩,
  ⟨"MBX_REQ", 0x8100, 0x4, 16, 0x0, 1, .none,
    [⟨"WORD", 31, 0, .rw, 0x0⟩]⟩,
  ⟨"MBX_DATA", 0x8200, 0x4, 16, 0x0, 1, .none,
    [⟨"WORD", 31, 0, .ro, 0x0⟩]⟩]

/-- Whether the array of r has an instance at the offset. -/
def RegSpec.has (r : RegSpec) (off : Nat) : Bool :=
  decide (r.base ≤ off) &&
    (let d := off - r.base
     if r.count1 ≤ 1 then d == 0
     else
       let i := d / r.stride1
       let rest := d % r.stride1
       decide (i < r.count1) &&
         (if r.count2 ≤ 1 then rest == 0
          else rest % r.stride2 == 0 && decide (rest / r.stride2 < r.count2)))

/-- The instance numbers (i, j) of the offset in the array of r. -/
def RegSpec.index (r : RegSpec) (off : Nat) : Nat × Nat :=
  let d := off - r.base
  if r.count1 ≤ 1 then (0, 0)
  else (d / r.stride1, if r.count2 ≤ 1 then 0 else (d % r.stride1) / r.stride2)

/-- The reset word of a register: every field at its reset value, reserved bits zero (R12, R15). -/
def RegSpec.resetWord (r : RegSpec) : Word :=
  r.fields.foldl (fun w f => setBits w f.hi f.lo f.reset) 0

/-- The bits of the fields whose access code satisfies p. -/
def RegSpec.mask (r : RegSpec) (p : Access → Bool) : Word :=
  r.fields.foldl (fun w f => if p f.acc then setBits w f.hi f.lo (2 ^ (f.hi - f.lo + 1) - 1) else w) 0

/-- The row of the register at an offset of a function's BAR0 (function 0 is PF0). -/
def regSpec (fn off : Nat) : Option RegSpec :=
  (if fn = 0 then pfRegs else vfRegs).find? (fun r => r.has off)

end Sys2Proof.Machine
end

