-- ==== Sys2Proof/Machine/TypesQueue.lean ====
section
/-!
DEFINITION. Data of the queue engine and of dispatch: functions, queue pairs, in-flight commands with their duplicated
runs, batches, engine units (spec files 02, 03, 01, 15).
-/
namespace Sys2Proof.Machine
open Sys2Proof

/-- The engine classes, each with its own scheduler (R69), and the commands that need none. -/
inductive Eng where
  | pvc | hte | bne | dge | chk | disp
deriving DecidableEq, Repr

/-- The number of a class, in messages to peers. -/
def Eng.num : Eng → Nat
  | .pvc => 0
  | .hte => 1
  | .bne => 2
  | .dge => 3
  | .chk => 4
  | .disp => 5

/-- A function: its allotments (R63), its dedicated clusters (R71) and its reset state (R75, R78). -/
structure Fn where
  qps        : Nat
  vecs       : Nat
  weight     : Nat
  ctx        : Nat
  cap        : Nat
  key4k      : Nat
  keyObj     : Nat
  opm4k      : Nat
  spillAddr  : Nat
  spillLen   : Nat
  clusters   : Nat
  isoDeg     : Bool
  quiescing  : Bool
  quiesced   : Bool
  flr        : Bool               -- the reset in progress ends as a function-level reset (R80)
  blobAddr   : Nat
  blobCount  : Nat
  spillPeer  : Bool               -- marked by SPILL_FN (R411)
deriving DecidableEq, Repr

/-- QPq_STAT.STATE. -/
inductive QpState where
  | off | active | error | deleting
deriving DecidableEq, Repr

/-- A completion that waits for room in its CQ (R90): the command, and the entry without phase bit and SQ head. -/
structure WaitEntry where
  cmd   : Nat
  entry : List Byte
  irq   : Bool     -- counts as pending for the MSI-X message (R109)
  ok    : Bool     -- status SUCCESS
deriving DecidableEq, Repr

/-- A queue pair (R82 to R91, R104, R109). -/
structure QPair where
  baseLo    : Word
  baseHi    : Word
  cfg       : Word
  state     : QpState
  err       : Nat
  head      : Nat
  tail      : Nat
  cqHead    : Nat
  cqTail    : Nat
  phase     : Bool
  waiting   : List WaitEntry
  pendCnt   : Nat                 -- pending completions (R109)
  pendSince : Nat                 -- time of the oldest of them
  irqCfg    : Word                -- QPq_CFG as it stood at the last completion: a change applies from the next one on (R109)
  chain     : Option Nat          -- the fetched descriptor whose successor comes next (R104)
  chainRes  : Option Bool         -- its outcome, where it was written before the successor is fetched
  firstFail : Option Nat          -- the earliest command that did not complete with SUCCESS (R103)
deriving DecidableEq, Repr

/-- The node bytes that the private state of a stateful key holds of one tree: its number, the nodes from level hb up, the subtree under
the next leaf, and the next subtree as far as it is built (R222). -/
structure HbsTree where
  tree : Nat
  top  : List Byte
  cur  : List Byte
  nxt  : List Byte
deriving DecidableEq, Repr

def HbsTree.size (x : HbsTree) : Nat := x.top.length + x.cur.length + x.nxt.length

/-- The key generation a command resolved at step 6 (R30); of a stateful key, with its trees and signed roots before the command's leaf
(R222, R225). -/
structure KeyMat where
  handle : Nat
  gen    : Nat
  fam    : Nat
  par    : Nat
  attrs  : List Byte
  priv   : List Byte
  pub    : List Byte
  uid    : Nat := 0           -- tells generations apart, those of a handle that was used again too (R30)
  trees  : List HbsTree := []
  links  : List (List Byte) := []
  dom    : Nat := 0           -- identity of the loaded curve the key was made on (R259)
deriving DecidableEq, Repr

/-- What one run of a command yields (R33): the comparator compares all of it. -/
structure RunResult where
  status  : Nat
  out     : List Byte
  verdict : Option Bool
  leaf    : Option Nat
  inline  : List Byte      -- bytes 16 on of the completion
  secret  : List Byte      -- what goes to a context, a key object or a sealed value
  attempts : Nat           -- attempt count of a signature (R39)
  trap     : Nat           -- TCAUSE of a kernel run that ended in a trap, else 0 (R192)
  own      : Bool := true  -- the run's check of its own result passed (R253)
deriving DecidableEq, Repr

/-- A run placed on a unit; res is none while it goes on. -/
structure Run where
  unit  : Nat
  start : Nat              -- order of placement, for the rule on the most recent run (R366)
  kres  : Option RunResult -- what a kernel run left at EXIT or at its trap (R191)
  res   : Option RunResult
deriving DecidableEq, Repr

/-- A duplicated and voted part of a command: all of it, or one leg of a hybrid (R33, R49, R51). -/
structure Leg where
  cls     : Eng
  want    : Nat            -- 2 runs, 3 after a disagreement, 5 after a replay (R35, R367)
  runs    : List Run
  used    : List Nat       -- every unit the leg was placed on
  decided : Option RunResult
  retest  : List Nat := []  -- units that ran it and are self-tested because no other unit could ever take the run (R366)
  passed  : List Nat := []  -- those of them that passed
deriving DecidableEq, Repr

/-- Where an in-flight command stands. -/
inductive Phase where
  | held       -- fetched; a fence or a chain predecessor holds it (R103, R104)
  | started    -- steps 1 and 2 passed; the row of its operation validates and starts it
  | waitUnseal -- names an object not yet unsealed (R138)
  | waitLoad   -- waits for a code key to be loaded (R139, R140)
  | waitLeaf   -- waits for a ceiling write (R155) or a rebuild of the key's state (R223)
  | waitSlot   -- waits for a resident digest slot (R236)
  | waitOrder  -- waits for an earlier command on the same digest context or OPM partition (R235, R262)
  | waitRand   -- waits for key-grade bytes (R32)
  | ready      -- validated and drawn; its runs, or the next turn of a digest command (R237), may be placed
  | running    -- at least one run is placed
  | waitCq     -- completed, waits for room in the CQ (R90)
  | batch      -- a batch or campaign whose members run (R106)
  | remote     -- spilled to a peer (R410)
  | waitGroup  -- a COMMIT that the members of its group carry out (R408)
deriving DecidableEq, Repr

/-- An in-flight table entry (R93). -/
structure Cmd where
  fn       : Nat
  qp       : Nat
  slot     : Nat
  member   : Option (Nat × Nat)     -- the batch entry and the member index
  desc     : List Byte
  pred     : Option Nat
  predRes  : Option Bool
  fence    : Bool
  phase    : Phase
  inp      : List Byte
  aux      : List Byte
  outMap   : List (Nat × Nat)
  k1       : Option KeyMat
  k2       : Option KeyMat
  src      : List Byte              -- value of a source context
  leaf     : Option Nat
  rand     : List Byte
  need     : Nat                    -- key-grade bytes still to draw
  chunk    : List (List Byte)       -- the blocks reserved for an entropy chunk that has not yet arrived (R183, R271)
  legs     : List Leg
  replayed : Bool
  since    : Nat                    -- time of the present wait
  note     : List Byte              -- data a family keeps between its steps
  uses     : List Nat := []         -- further generations resolved at step 6 (R30)
  via      : Option Nat := none     -- the channel that stands in for a check's own after a lane mismatch (R249)
  kern     : Bool := false          -- bound for a kernel, which it has resolved (R190, R191)
deriving DecidableEq, Repr

/-- A batch or campaign (R105 to R108). -/
structure Batch where
  total    : Nat
  next     : Nat                    -- next record to dispatch
  done     : List Nat               -- members whose results entry is written
  campaign : Bool
  template : List Byte
  bitmap   : Nat                    -- address
  succ     : Nat
  other    : Nat
  rejected : Nat                    -- verdict 0
  firstBad : Option Nat
  aborted  : Bool
  tag      : Nat
  chain    : Option Nat             -- member whose successor comes next (R104 within the batch)
  results  : List (Nat × Nat)       -- index and status of finished members, for chains and fences
deriving DecidableEq, Repr

/-- An engine unit, numbered as its fault source (R359): PVC 0-95, cluster-shared 96-107, HTE 108-123, BNE 124-131,
DGE 132-163, CHK 164-229. -/
structure EUnit where
  service  : Bool                   -- admitted, tested and not retired
  retired  : Bool
  selftest : Bool
  scrub    : Bool
  busy     : Option Nat             -- the command whose run it holds
  kept     : Option Nat             -- the command whose third run takes it once it is scrubbed (R366)
  inter    : Option Nat             -- a command whose run a tree group interleaves with key generation (R224)
  booted   : Bool                   -- passed its boot self-test (R11)
  fn       : Nat                    -- function and opcode of the present or last run
  opcode   : Nat
  outvotes : List Nat               -- times of outvotes (R368)
  corrupt  : Option Nat             -- armed result corruption (R417): the bit
  tested   : Bool                   -- under a unit test (R416)
  code     : List Byte              -- a core's instruction memory: the code last copied into it, which no scrub clears (R189, R193)
deriving DecidableEq, Repr

end Sys2Proof.Machine
end

