-- ==== Sys2Proof/Machine/TypesKey.lean ====
section
/-!
DEFINITION. Data of the key store (spec file 05), the digest engine (08), the operand memory (09) and the noise random
generator (10).
-/
namespace Sys2Proof.Machine
open Sys2Proof

/-- One generation of a key (R151 to R153) with its leaf counters where it is stateful (R155). -/
structure KeyGen where
  gen     : Nat
  par     : Nat
  priv    : List Byte
  pub     : List Byte
  next    : Nat            -- next leaf to assign
  ceil    : Nat            -- persisted ceiling
  last    : Nat            -- last leaf
  raising : Option Nat     -- a ceiling write in progress and its value
  seqNo   : Nat            -- journal sequence number
  curve   : Nat            -- identity of the loaded curve the key was made on (R259)
  uid     : Nat               -- tells generations apart for as long as the device exists (R30, R241)
  stuck   : Bool              -- no block is left in which to journal a generation that a DESTROY retired (R156)
  trees   : List HbsTree      -- node bytes of a stateful key before leaf `next` is used (R222)
  links   : List (List Byte)  -- signed public keys of the lower trees that serve (R225)
deriving DecidableEq, Repr

/-- A key object (R132, R136, R151). -/
structure KeyObj where
  attrs    : List Byte      -- bytes 0 to 7 and 24 to 27 of the record; the RO fields are computed
  act      : KeyGen
  staged   : Option KeyGen
  stAttrs  : List Byte      -- attribute record of the staged generation
  verified : Bool
  frozen   : Bool
  retiring : List KeyGen
  unsealed : Bool           -- false until boot unsealing reaches it (R138)
  rebuild  : Bool           -- private state of a stateful key being rebuilt (R223)
deriving DecidableEq, Repr

/-- A value in a hardware context (R141). -/
structure CtxVal where
  value  : List Byte
  opcode : Nat
deriving DecidableEq, Repr

/-- An entry of the code-key cache (R139, R140). -/
structure CodeKey where
  handle  : Nat
  gran    : Nat
  loading : Bool
  loaded  : Nat             -- bytes moved so far
  used    : Nat             -- order of last use
  cause   : Nat             -- the command that caused the load
deriving DecidableEq, Repr

/-- A persistent record of the flash key area, with the sealing key it was sealed under (R137). -/
structure FlashKey where
  obj     : KeyObj
  dsk     : List Byte
  damaged : Bool
  ceil    : Nat             -- HBS area: the ceiling of the newest valid journal record (R155)
deriving DecidableEq, Repr

/-- The key store. -/
structure KeyStore where
  objs      : List (Nat × KeyObj)       -- by handle
  dying     : List (Nat × KeyGen)       -- generations retired by DESTROY, still in use (R154)
  ctxs      : List (Nat × CtxVal)       -- by function × 65536 + index
  codeKeys  : List CodeKey
  flash     : List (Nat × FlashKey)     -- by handle
  ckFlash   : List Nat                  -- handles whose public key the flash code-key area holds (R140)
  ckMiB     : Nat
  dsk       : Option (List Byte)
  blobEpoch : List (Nat × Nat)          -- flash, by function
  hbsSpare  : Nat
  lost      : Nat                       -- stamp of the last erase or SEALED-LOST
  useClock  : Nat
  uids      : Nat                       -- the next generation's own number
  blobCurves : List (List Byte × Nat)   -- identities of the loaded curves of sealed blobs, by their nonces (R259; log entry 121)
  inLost    : Bool                      -- SEALED-LOST holds until it is acknowledged or ended by a restore (R159)
deriving DecidableEq, Repr

/-- The state of a digest context (R234). -/
inductive DctxState where
  | opened | final | invalid
deriving DecidableEq, Repr

/-- A slot of the keyed-state cache (R240): the inner and outer chaining values of HMAC, or the state of KMAC after the key block. -/
structure KscSlot where
  handle : Nat
  uid    : Nat              -- the key generation
  alg    : Nat
  st     : List Byte
  outer  : List Byte
  used   : Nat              -- order of last use
deriving DecidableEq, Repr

/-- A digest context in use (R233, R234): FREE contexts are not listed. -/
structure Dctx where
  state    : DctxState
  alg      : Nat
  keyed    : Option Nat     -- the MAC key's handle
  gen      : Nat
  uid      : Nat            -- the key generation that INIT resolved (R241)
  total    : Option Nat     -- declared total
  count    : Nat            -- bytes absorbed
  chainv   : List Byte      -- chaining value or sponge state
  part     : List Byte      -- partial block
  outer    : List Byte      -- outer chaining value of a MAC
  custom   : Bool           -- a cSHAKE with a customisation string
  resident : Bool
  spillAt  : Nat            -- slot in the spill area
  used     : Nat            -- order of last use
deriving DecidableEq, Repr

/-- The digest and check engines (R227 to R249). -/
structure Digest where
  ctxs      : List (Nat × Dctx)        -- by function × 4096 + index
  ksc       : List KscSlot             -- keyed-state slots in use
  saveEpoch : List (Nat × Nat)         -- flash, by function
  saved     : List (List Byte × Nat)   -- flash: nonces of blobs of keyed contexts, with the generation bound (R241; log entry 119)
  spillEp   : List (Nat × Nat)         -- count of the spill epoch by function (R239)
  spillAll  : Nat                      -- advances of every function's spill epoch at once (R242)
  bootEp    : Nat                      -- the value drawn at boot (R239)
  clock     : Nat
  chkSpare  : List (Nat × Nat)         -- channel and the spare that stands in for it
deriving DecidableEq, Repr

/-- A slot of the operand memory (R261, R262): EMPTY slots are not listed. -/
structure OpmSlot where
  poisoned : Bool
  value    : Nat
  secret   : Bool           -- marked by KLOAD and what is computed from it
deriving DecidableEq, Repr

/-- A function's partition of the operand memory. -/
structure OpmPart where
  base    : Nat
  slotLen : Nat             -- bytes; 0 while unformatted
  sealed  : Bool
  slots   : List (Nat × OpmSlot)
deriving DecidableEq, Repr

/-- A loaded curve that passed its checks (R258). -/
structure Curve where
  p      : Nat
  a      : Nat
  b      : Nat
  gx     : Nat
  gy     : Nat
  n      : Nat
  h      : Nat
  ident  : Nat              -- changes with every change of the record (R259)
deriving DecidableEq, Repr

/-- A waiting key-grade request (R271). -/
structure NrgReq where
  cls   : Nat
  reqr  : Nat               -- requester number
  who   : NrgWho
  left  : Nat               -- bytes still to grant
  since : Nat
deriving DecidableEq, Repr

/-- The noise random generator (R267 to R280) beside its registers. -/
structure Nrg where
  ready    : List (List Byte)               -- the ready pool: blocks of 32 bytes
  pend     : List (List Nat × List Byte)    -- the pending pool: blocks, each with the groups whose open windows it waits for
  queue    : List NrgReq
  lanes    : Nat                      -- conditioner lanes in service, of 3
  discard  : Nat                      -- blocks still to discard at start-up
  retries  : List (Nat × Nat)         -- groups in start-up, with their retries so far
  passes   : List (Nat × Nat)         -- re-test passes in a row by group
  exps     : List (Nat × List Byte)   -- expanders that hold a seed: the 200 bytes of the sponge as the last seed left it (R277)
  fb       : List (Nat × Nat)         -- trim codes that differ from 32, by group × 32 + cell (R267)
deriving DecidableEq, Repr

/-- Expanders that hold a seed. -/
def Nrg.seeded (n : Nrg) : List Nat := n.exps.map (·.1)

end Sys2Proof.Machine
end

