-- ==== Sys2Proof/Machine/TypesMgmt.lean ====
section
/-!
DEFINITION. Data of the management complex: mailboxes, firmware and configuration banks, power and reset, life cycle,
fault collection (spec files 04, 11, 14, 15).
-/
namespace Sys2Proof.Machine
open Sys2Proof

/-- A request a mailbox channel has accepted (R118): the words and buffer registers copied at GO. -/
structure MbxReq where
  words    : List Word
  reqAddr  : Nat
  reqLen   : Nat
  respAddr : Nat
  respCap  : Nat
  started  : Bool        -- its command's first step was taken
  commit   : Bool        -- its commit point is passed (R119)
  noBuf    : Bool        -- the write of its response buffer cannot be delivered (R118)
  rand     : List Byte   -- key-grade bytes granted to its command (R271)
deriving DecidableEq, Repr

/-- An outcome record (R120). -/
structure Outcome where
  seq    : Nat
  state  : Nat
  status : Nat
  inline : List Byte
  bytes  : Nat
  owner  : Option Nat    -- the request, by its key, while it runs on past its commit point
deriving DecidableEq, Repr

/-- The state of a firmware bank (R123, R124). -/
inductive FwState where
  | invalid | staged | trial | confirmed | trialFailed
deriving DecidableEq, Repr

/-- A firmware bank in flash. -/
structure FwBank where
  state : FwState
  image : Memory
  len   : Nat          -- bytes staged
  failed : Bool        -- a trial of it was abandoned, and nothing has been staged since (R124)
deriving DecidableEq, Repr

/-- A configuration bank in flash (R302): the image and whether its commit block is whole. -/
structure CfgBank where
  image  : List Byte
  commit : List Byte
deriving DecidableEq, Repr

/-- How far the boot has come (R299 to R306). -/
inductive Stage where
  | off          -- no VIN
  | inReset      -- full reset in progress
  | heldOff      -- R293
  | kindling     -- reset left, Kindling to run
  | kindlingMbx  -- Kindling serves channel 0 (R300)
  | firmware     -- firmware verified and started, its own steps to run
  | ready        -- MBX_STAT.READY set
deriving DecidableEq, Repr

/-- Boot and firmware state. -/
structure Boot where
  stage    : Stage
  hold     : Bool
  bank     : Nat                 -- running bank
  trial    : Bool                -- the running image is a trial not yet confirmed
  pushed   : Bool                -- the running image was host-pushed
  fw       : List Byte           -- measurement
  svn      : Nat
  iface    : Nat                 -- MBX_CAPS.IF_MAJOR and IF_MINOR of the running image; 0 while Kindling serves (R113, R300)
  since    : Nat                 -- time the present stage began
  banks    : List FwBank         -- A, B
  prefer   : Nat
  staging  : Bool                -- the last management command was FW_STAGE
  cfgBanks : List CfgBank
  cfgLoaded : Option Nat
  cfgMin   : Nat
  signer   : Option (List Byte)  -- bound configuration signer: SHA3-256 of its key
  subsys   : Word                -- subsystem vendor ID and subsystem ID in force
  subsysNext : Word              -- from the next full or host-interface-only reset on
  template : Fn                  -- the VF template in force
  templateNext : Fn              -- from the next return to the template on (R66)
  pf0      : Fn                  -- PF0's defaults (R63)
  sillage  : List (List Byte)
  running  : List Byte           -- running value L (R162)
  curveNew : List (Nat × List Byte)   -- curve records to install, by index: none for one that is removed (R258, R259)
  lowSpeed : List Byte           -- the section in force for the low-speed ports (R325)
  dispExp  : Option Nat          -- time of the last dispatch expiry (R126)
  reason   : List Nat            -- causes of the reset in progress
  newState : Bool                -- first boot of a life-cycle state: it completes once the new SLS is stored (R130)
  steps    : Bool                -- the firmware's own steps are done but for the tests of units (R301)
  fullDone : Bool                -- RST_TIME.FULL_MS holds the time of the present wake (R306)
deriving DecidableEq, Repr

/-- The wake-permit and power state beside the PWR registers (R281 to R296). -/
structure Power where
  vin      : Bool
  vioOk    : Bool
  queues   : List (List Nat)     -- domains queued by class 0 to 3; 164 stands for the Hearth domain
  ramping  : List Nat
  powered  : List Nat
  starts   : List (Nat × Nat × Nat)   -- ramp starts of the last 10 µs: time, inrush in mA at 12 V, VIN in mV then
  burst    : Bool                -- some queue was not empty one decision ago
  pause    : Nat                 -- end of the sag pause
  waking   : Bool                -- initial wake
  heldAt   : Option Nat          -- when the permit was taken
  permitOut : Bool               -- WAKE_PERMIT_OUT released
  vinAt    : Nat                 -- start of the time that RST_TIME counts: VIN valid, or the end of the RESET_N stretch
  thermal  : Bool                -- thermal trip in force
  drive    : Option Nat          -- end of the device's own RESET_N drive
  resetN   : Bool                -- level of the RESET_N net
  perstN   : Bool                -- level of PERST_N
  swReset  : Option Nat          -- a software (7) or life-cycle (8) reset waits (R295)
  swAt     : Nat                 -- when it was asked for
  strap    : Option Nat          -- board position last sampled since VIN valid (R288, R298)
  strapped : Bool                -- the strap has been sampled since the reset began
  banksLost : List Nat           -- stacked-die banks lost (R365, R414)
  flue     : List (Nat × List Nat)   -- times of the repeats of the last 1 ms by flue channel (R364)
  islands  : List Nat            -- flue-channel regions whose far island is isolated (R364)
  tempFrom : Nat                 -- the millisecond from which GLB_TEMP.PEAK counts (R326)
deriving DecidableEq, Repr

/-- A challenge nonce (R355) and the real-time second it was given. -/
structure Nonce where
  value : List Byte
  at_   : Nat
deriving DecidableEq, Repr

/-- An open debug session (R356). -/
structure DebugSession where
  scopes : Nat
  owner  : Bool
  ends   : Nat                   -- 10 ns time
  seized : Bool                  -- HEARTH or SCAN: key derivation held in reset (R357)
deriving DecidableEq, Repr

/-- The transition record in flash (R352). -/
structure TransRecord where
  target : Nat
  hash   : List Byte
deriving DecidableEq, Repr

/-- Life cycle: fuses, flash record, volatile flags (R347 to R356). -/
structure LifeCycle where
  slots     : List Nat            -- blown fuses of the five slots, 32 bits each
  rootKill  : Nat                 -- blown fuses, 8 bits
  markers   : List Nat            -- spent markers of the 24 tokens, 4 bits each
  hashes    : List (List Byte)    -- token hashes
  owner     : Option (List Byte)  -- owner debug key hash
  minSvn    : Nat
  drs       : Option (List Byte)
  did       : Option (List Byte)
  testOpen  : Bool                -- TEST_OPEN is in force
  openFlag  : Bool                -- the volatile flag of R351, until the reset that enters TEST_OPEN
  leftOpen  : Bool                -- TEST_OPEN ended with the reset in progress: its keys are still to be destroyed (R350)
  record    : Option TransRecord
  block     : List Byte           -- the accepted block, until the reset has used it
  nonceDbg  : Option Nonce
  nonceLc   : Option Nonce
  session   : Option DebugSession
deriving DecidableEq, Repr

/-- The record of a fault source (R361). -/
structure FltSrc where
  count   : Nat
  classes : Nat
  active  : Bool
  rail    : Bool
  ts      : Nat
  respond : Bool                  -- a response to an event is in progress (R369)
deriving DecidableEq, Repr

end Sys2Proof.Machine
end

