-- ==== Sys2Proof/Machine/TypesIo.lean ====
section
/-!
DEFINITION. Data of the tamper logic and the peat domain, the card ports, the Wolum fabric, and what the device sends
outward (spec files 13, 16, 17, 12).
-/
namespace Sys2Proof.Machine
open Sys2Proof

/-- A tamper source beside its register (R329, R330, R333). -/
structure TmpSrc where
  events : List Nat        -- times of its events within the window
  last   : Option Nat      -- its last event
  armed  : Bool            -- may alarm again (no event for a whole W since the last alarm)
  reset  : Bool            -- caused a RESET and has had events since (R333)
  injFail : Nat            -- FAIL bits that an injection has set: the channels stay in service (R417)
deriving DecidableEq, Repr

/-- The peat domain (R340 to R346), held on VBAT, and the flash copies of its counters (R344). -/
structure Peat where
  vbat     : Bool                  -- the backup cell keeps the domain powered without VIN
  sls      : Option (List Byte)
  checked  : List Byte             -- what the check word beside the SLS was computed over (R342)
  log      : List (List Byte)      -- entries of 16 bytes, oldest first
  lostCnt  : Nat                   -- entries overwritten (R343)
  counters : List Nat
  cold     : Bool
  xtal     : Bool
  secs     : Nat                   -- real-time clock, seconds
  frac     : Nat                   -- and units of 10 ns of the second that runs
  stagedHi : Nat
  fails    : List (Nat × Nat)      -- failing scans in a row by source (R341)
  flashCnt : List Nat              -- counters 0 to 7 in flash
  wake     : Option (Word × Word)  -- wake settings of PWR_INRUSH and PWR_WAKE
deriving DecidableEq, Repr

/-- Subseconds of the real-time clock, in units of 1/32,768 s (R343). -/
def Peat.subsec (p : Peat) : Nat := p.frac * 32768 / 100000000

/-- The SLS is there and matches its 32-bit check word (R342; log entry 148). -/
def Peat.slsValid (p : Peat) : Bool :=
  match p.sls with
  | some x => x == p.checked || Config.slsCheck x == Config.slsCheck p.checked
  | none => false

/-- The SLS that the domain reports as valid. -/
def Peat.secret (p : Peat) : Option (List Byte) := if p.slsValid then p.sls else none

/-- A new SLS is stored with its check word. -/
def Peat.store (p : Peat) (x : List Byte) : Peat := { p with sls := some x, checked := x }

/-- The tamper channel test in progress (R338). -/
structure TmpTest where
  source : Nat
  ch     : Nat
  byPf   : Bool                    -- started by TMP_TEST.GO
  inj    : Bool                    -- an injection (R417)
deriving DecidableEq, Repr

/-- Where a ceremony step stands with the card in a port (R379). -/
inductive CardStep where
  | none | select | identity | authenticate | putShare | getShare | relay
deriving DecidableEq, Repr

/-- The parameters of the exchange with a card, from its ATR (R376, R377): Fi and Di, the extra guard time, the integers of the waiting times,
the card's information field size, and whether blocks carry a CRC. -/
structure CardMode where
  fi    : Nat
  di    : Nat
  guard : Nat
  wi    : Nat
  ifsc  : Nat
  bwi   : Nat
  cwi   : Nat
  crc   : Bool
deriving DecidableEq, Repr

/-- The defaults of ISO/IEC 7816-3. -/
def CardMode.default : CardMode := { fi := 372, di := 1, guard := 0, wi := 10, ifsc := 32, bwi := 4, cwi := 13, crc := false }

/-- A smart-card port beside its register (R373 to R379). -/
structure ScPort where
  step     : CardStep
  out      : List (List Byte)      -- APDUs of a chained command still to send (R378)
  retries  : Nat                   -- block-error recovery: R-blocks and resynchs sent (R377)
  resp     : List Byte             -- response gathered over 61xx
  ident    : List Byte             -- identity data of the card in the session
  challenge : List Byte
  seed     : List Byte             -- seed of the ephemeral key pair (R380)
  share    : Nat                   -- index of the share being placed
  pps      : Option (List Byte)    -- a PPS request not yet answered (R375)
  noPps    : Bool                  -- reactivated to run at the defaults without PPS (R375)
  drawing  : Bool                  -- its next step waits for key-grade bytes (R271)
  mode     : CardMode
  nr       : Nat                   -- sequence bit of the block that the card sends next (R377)
  ins      : Byte                  -- instruction byte of the APDU outstanding (R376)
deriving DecidableEq, Repr

/-- A quorum session (R381 to R383). -/
structure Quorum where
  inForce  : Bool
  purposes : Nat
  lifetime : Nat                   -- minutes
  waitSec  : Nat
  counted  : List (List Byte)      -- operator IDs counted
  needOld  : Bool                  -- a roster change that also needs the present roster
  newRoster : List (List Byte)
  newMq    : Nat
  nonce    : List Byte
  since    : Nat                   -- opened, then put in force
deriving DecidableEq, Repr

/-- An escrow ceremony (R393, R394). -/
structure Ceremony where
  write    : Bool                  -- ESCROW_WRITE, else ESCROW_RESTORE
  m        : Nat
  opIds    : List (List Byte)      -- entry i - 1 takes share i
  bk       : List Byte
  shares   : List (Nat × List Byte)   -- the shares made or collected, by index
  placed   : List Nat              -- indices placed and confirmed
  bundle   : List Byte             -- header, sealed body, tag
  id       : List Byte             -- bundle ID
  seq      : Nat                   -- record sequence
  address  : Nat                   -- block address a of the record
  phase    : Nat                   -- 0 volume header being written, 1 shares, 2 record blocks, 3 commit block
  rewrite  : Bool                  -- the record was written again
  keys     : Nat
deriving DecidableEq, Repr

/-- The card block. -/
structure Cards where
  ports    : List (Nat × ScPort)   -- CARD_A 0, CARD_B 1, where a card is activated
  roster   : List (List Byte)      -- flash
  mq       : Nat                   -- flash
  quorum   : Option Quorum
  ceremony : Option Ceremony
  mc0Busy  : Bool                  -- a write in progress on MC0
  volume   : List (Nat × List Byte)  -- blocks of the memory card in MC0 by address; those not listed are zero
  mc0Pass  : List Byte             -- its password, empty without one
deriving DecidableEq, Repr

/-- How far a handshake is (R400). -/
inductive Shake where
  | none | opening | identity | offered | done
deriving DecidableEq, Repr

/-- One end of a handshake, of a link or of an end-to-end session (R400, R401). -/
structure Shaker where
  stage     : Shake
  peerId    : List Byte
  myNonce   : List Byte
  peerNonce : List Byte
  seed      : List Byte            -- of the ephemeral key pair
  keys      : List Byte            -- the 96 bytes derived
  held      : Option ShakeMsg      -- a message whose answer waits for key-grade bytes (R271)
  inbox     : List ShakeMsg        -- messages that arrived meanwhile
deriving DecidableEq, Repr

/-- A Wolum port beside its registers (R398 to R400). -/
structure WPort where
  sh       : Shaker
  txSeq    : Nat
  rxSeq    : Nat
  unacked  : List (Nat × Nat × PortMsg)   -- the flits kept: sequence, virtual channel, content
  waiting  : List (Nat × PortMsg)         -- waiting for a credit or for room in the replay buffer
  replays  : Nat                   -- replays without an acknowledgement
  fails    : Nat                   -- failed trainings in a row
  credits  : List Nat              -- per virtual channel
  flits    : Nat                   -- flits sent under the present keys
  keyedAt  : Nat
deriving DecidableEq, Repr

/-- A device of the fabric, as hellos and messages show it (R402, R403, R410). -/
structure Peer where
  id      : List Byte
  conf    : Option Nat
  last    : Option Nat
  disc    : Bool
  addr    : Option Nat
  sh      : Shaker                 -- the end-to-end session with it
  accept  : Bool                   -- accepts spilled work
  idle    : List Nat               -- engine classes with idle capacity
deriving DecidableEq, Repr

/-- A replication group (R406 to R408). -/
structure Group where
  members  : List (List Byte)
  fn       : Nat
  joined   : List (List Byte)      -- members that have sent JOIN with the same list
deriving DecidableEq, Repr

/-- A JOIN seen of a group that this device has not joined (R406). -/
structure Invite where
  group   : Nat
  sender  : List Byte
  members : List (List Byte)
  creator : Bool
deriving DecidableEq, Repr

/-- An end-to-end message waiting for its acknowledgement (R404). -/
structure E2e where
  dest   : List Byte               -- identity
  body   : FabMsg
  sent   : Bool                    -- on its way; else it waits for a session or a route
  tries  : Nat                     -- resends
deriving DecidableEq, Repr

/-- An ADD_KEY in progress (R407): its request, the group, the index, the members still to answer and those that have stored the key. -/
structure AddKey where
  chan    : Nat
  group   : Nat
  idx     : Nat
  waiting : List (List Byte)
  stored  : List (List Byte)
deriving DecidableEq, Repr

/-- A COMMIT of a replicated key in progress (R408): the command here or at the member that forwarded it, the key, its generation, and the
members that still have to write the sealed record; at a member that has forwarded it, the leader. -/
structure RCommit where
  cmd     : Option Nat
  group   : Nat
  idx     : Nat
  gen     : Nat
  attrs   : List Byte
  priv    : List Byte
  waiting : List (List Byte)
  leader  : Option (List Byte)
deriving DecidableEq, Repr

/-- A FAB_RESTORE in progress (R409): its request, the groups left, the member asked, those that have declined, the counts. -/
structure FabRestore where
  chan     : Nat
  groups   : List Nat
  asking   : Option (List Byte)
  declined : List (List Byte)
  kept     : List Nat
  skipped  : List Nat
deriving DecidableEq, Repr

/-- The fabric block. -/
structure Fabric where
  cfg      : List Byte             -- section 0x0005 in force
  ports    : List (Nat × WPort)
  peers    : List Peer
  states   : List (Nat × List (Nat × Nat)) -- link states: address, its ports up with the peer address
  addr     : Option Nat
  lastAddr : Option Nat            -- flash
  groups   : List (Nat × Group)    -- flash
  invites  : List Invite
  destroyed : List (Nat × Nat)     -- flash: destroyed marks, group × 2^18 + index and generation
  e2e      : List (Nat × E2e)
  nextMsg  : Nat
  adding   : Option AddKey
  commits  : List RCommit
  restore  : Option FabRestore
  spilled  : List (Nat × List Byte)  -- commands spilled: entry, peer
  syncNext : Option Nat            -- announced timestamp of the coming pulse
  synced   : Bool                  -- an announcement has come since the last full reset: SYNC prevails (R397)
  relays   : List (Nat × List Byte)  -- own card ports that serve a peer's session (R411)
  remote   : List (Nat × List Byte × Nat)  -- cards of peers' ports taken into a session: port number from 2 on, peer, its port
deriving DecidableEq, Repr

/-- A pin the device drives. -/
inductive Pin where
  | pcieTx | wolumTx (port : Nat)
  | resetN | errN | alertN | wakePermitOut | syncOut | gpio (n : Nat) | tlOut (n : Nat)
  | smbScl (bus : Nat) | smbSda (bus : Nat) | uartTx (n : Nat) | spiMiso | tdo
  | cardVcc (port : Nat) | cardRst (port : Nat) | cardClk (port : Nat) | cardIo (port : Nat)
  | mc0Vdd | mc0Clk | mc0Cmd | mc0Dat (n : Nat)
deriving DecidableEq, Repr

/-- What the device does at a pin: nothing (high impedance), a driven level or supply, a clock or lane that runs, electrical idle. -/
inductive Pad where
  | z | low | high | runs | idle
deriving DecidableEq, Repr

/-- What AER logs of a request that failed: its header and its TLP prefix (R54). -/
structure AerLog where
  header : List Byte
  tlp    : List Byte
deriving DecidableEq, Repr

/-- What the device sends outward, in order (log entry 1). -/
inductive LinkOut where
  | mem (fn addr : Nat) (data : List Byte) (relaxed : Bool)   -- a memory write under a routing ID (R58)
  | msix (fn vec : Nat)                                       -- an MSI-X message
  | aer (fn : Nat) (r : AerLog)                               -- an error reported by AER (R54, R59)
  | readData (fn off : Nat) (v : Word)                        -- the answer to a register read
  | pin (p : Pin) (level : Bool)                              -- an edge of a pulse; the levels that stand are State.pad
  | apdu (port : Nat) (data : List Byte)
  | mc0 (block : Nat) (data : List Byte)                      -- a block written to the memory card
  | card (port : Nat) (data : List Byte)                      -- PPS, IFS and recovery characters to a smart card
  | mc0Cmd (c : Nat)                                          -- another MC0 command
  | wolum (port seq vc : Nat) (m : PortMsg)                   -- a flit
  | smbus (data : List Byte)
  | jtag (data : List Byte)
  | spi (data : List Byte)
deriving DecidableEq, Repr

/-- The running loopback and unit test (R413, R416), and the pending corruption (R418). -/
structure TestPath where
  loop     : Option (Nat × Nat)    -- interface, depth
  unit     : Option Nat            -- unit under SRD_UNIT_TEST
  pending  : Option Nat            -- unit with a pending run corruption
  views    : List (Nat × Memory)   -- data memory of idle PVCs as the diagnostic view wrote it (R194)
deriving DecidableEq, Repr

/-- The host link and the functions' configuration space (R54 to R61). -/
structure Link where
  up       : Bool                -- data link up, host link in L0
  vfEnable : Bool
  numVfs   : Nat
  relaxed  : List Nat            -- functions whose Enable Relaxed Ordering is set
  msix     : List (Nat × Word)   -- MSI-X tables: function × 65536 + offset in the table
  pba      : List Nat            -- pending bits that are set: function × 65536 + vector (R60, R61)
  aer      : List (Nat × AerLog) -- AER logs of the functions: the first error since the reset (R54)
  flrAfter : List Nat            -- functions whose reset waits for the apply in progress (R80)
  stLoaded : List (Nat × Word)   -- what the last write of VFM_SEL loaded, by staging register (R67)
  follower : Bool                -- loopback follower of the link partner (R412)
deriving DecidableEq, Repr

end Sys2Proof.Machine
end

