-- ==== Sys2Proof/Machine/State.lean ====
section
/-!
DEFINITION. The state of the EB7144: its registers, its queues, engines, stores and domains, and the queue of waiting
commands; the reasons a step can stop; the state after power-on reset.
-/
namespace Sys2Proof.Machine
open Sys2Proof

/-- Why the machine would stop with a fault. No rule of the spec stops the block, and no command raises this one (safe). -/
inductive Fault where
  /-- Raised by no command: the type has to be inhabited for nothing more than its name. -/
  | none
deriving DecidableEq, Repr

/-- Why a command has no meaning. -/
inductive Refusal where
  /-- Raised by an arm of exec whose command is not modelled yet (safe: the machine stops). -/
  | notModelled (mnemonic : String)
  /-- Raised by JTAG_TAP_ACCESS for a private instruction that a scope or the state opens: the spec does not say what Hearth's debug
  access and the scan chains do (R356; safe: the machine stops). -/
  | debugUnit
deriving DecidableEq, Repr

/-- The state of the block. -/
structure State where
  pending  : List Instr                 -- commands waiting, first in first out
  now      : Nat                        -- 10 ns units since VIN became valid (R361, R396)
  free     : Nat                        -- the model's own: where the next free value is read (log entry 14)
  tx       : List LinkOut               -- the model's own: what the device has sent outward (log entry 1)
  regs     : List (Nat × Word)          -- registers that differ from their reset word, by function × 2^28 + offset
  link     : Link
  fns      : List (Nat × Fn)            -- functions that differ from the template (R63)
  qps      : List (Nat × QPair)         -- by function × 16 + pair
  cmds     : List (Nat × Cmd)           -- the in-flight table (R93)
  nextCmd  : Nat
  nextRun  : Nat
  sched    : List (Nat × Int)           -- deficits by engine class × 4096 + function, in 10 ns units (R69); 0 where unlisted
  turn     : List (Nat × Nat)           -- the function that each scheduler served last (R69)
  batches  : List (Nat × Batch)         -- by the entry of the batch descriptor
  ks       : KeyStore
  dg       : Digest
  opm      : List (Nat × OpmPart)       -- by function
  curves   : List (Nat × Curve)         -- by loaded-curve index
  kernels  : List Kernel
  signers  : List (Nat × Nat)           -- owner kernel signers: slot and handle of the key object (R190)
  pvcs     : List (Nat × Pvc)           -- runs by core
  clusters : List (Nat × Cluster)
  units    : List (Nat × EUnit)         -- engine units by fault source
  nrg      : Nrg
  mbx      : List (Nat × MbxReq)        -- accepted requests by function × 4 + channel; from 65,536 on those whose function was reset
  outcomes : List (Nat × Outcome)       -- by function × 65536 + code
  boot     : Boot
  pwr      : Power
  tmp      : List (Nat × TmpSrc)
  tmpTest  : Option TmpTest
  tmpNext  : List TmpTest               -- channel tests that wait (R338)
  tmpSeries : Option Nat                -- the firmware's series of tests: the source and channel it has come to, as 2 * source + channel (R338)
  tlSeed   : List Byte                  -- seed of the loop generators; none drawn yet where empty (R339)
  peat     : Peat
  lc       : LifeCycle
  flt      : List (Nat × FltSrc)
  cards    : Cards
  fab      : Fabric
  test     : TestPath
deriving DecidableEq, Repr

/-- The default VF template (R63). -/
def defaultTemplate : Fn where
  qps := 1
  vecs := 2
  weight := 16
  ctx := 16
  cap := 64
  key4k := 0
  keyObj := 0
  opm4k := 0
  spillAddr := 0
  spillLen := 0
  clusters := 0
  isoDeg := false
  quiescing := false
  quiesced := false
  flr := false
  blobAddr := 0
  blobCount := 0
  spillPeer := false

/-- PF0's default allotments (R63). -/
def defaultPf0 : Fn :=
  { defaultTemplate with qps := 16, vecs := 64, weight := 64, ctx := 1024, cap := 4096, key4k := 1024, keyObj := 2048, opm4k := 16 }

/-- A firmware bank that holds nothing. -/
def FwBank.blank : FwBank where
  state := .invalid
  image := []
  len := 0
  failed := false

/-- A generator that holds nothing: without power, or in a full reset. -/
def Nrg.off : Nrg where
  ready := []
  pend := []
  queue := []
  lanes := 3
  discard := 0
  retries := []
  passes := []
  exps := []
  fb := []

/-- The switched domains in the order in which their classes queue (R281, R282), with the fabric port of class 1; 164 stands for the
Hearth domain. -/
def queuesWith (port : Nat) : List (List Nat) :=
  let clusters := fun (a n : Nat) => (List.range n).flatMap (fun i => (96 + a + i) :: (List.range 8).map (fun p => 8 * (a + i) + p))
  let span := fun (a n : Nat) => (List.range n).map (· + a)
  [[164, 154], span 156 8 ++ [137, 138 + port],
   [136, 155, 132, 133] ++ span 124 3 ++ span 108 3 ++ clusters 0 3 ++ [134, 135] ++ span 127 5 ++ span 111 13 ++ clusters 3 9,
   (span 138 16).filter (· != 138 + port)]

/-- The queues before a configuration image is loaded: the fabric port of class 1 is port 0. -/
def wakeQueues : List (List Nat) := queuesWith 0

/-- The peat log entry of the power-on reset itself (R343): clock 0, kind 0x02, cause 0, in DEPLOYED, sequence number 1. -/
def powerOnEntry : List Byte := zeros 7 ++ [0x02, 0, 0, 0, 0x33] ++ [1, 0, 0, 0]

/-- The machine right after power-on reset (R291): VIN valid, Kindling not yet run, no configuration image loaded. Values that
the spec does not state are those of log entries 8 to 13. -/
def State.reset : State where
  pending := []
  now := 0
  free := 0
  tx := []
  regs := []
  link := { up := false, vfEnable := false, numVfs := 0, relaxed := [], msix := [], pba := [], aer := [], flrAfter := [], stLoaded := [], follower := false }
  fns := []
  qps := []
  cmds := []
  nextCmd := 0
  nextRun := 0
  sched := []
  turn := []
  batches := []
  ks := { objs := [], dying := [], ctxs := [], codeKeys := [], flash := [], ckFlash := [], ckMiB := 64, dsk := none,
          blobEpoch := [], hbsSpare := 0, lost := 0, useClock := 0, uids := 1, blobCurves := [], inLost := false }
  dg := { ctxs := [], ksc := [], saveEpoch := [], saved := [], spillEp := [], spillAll := 0, bootEp := 0, clock := 0, chkSpare := [] }
  opm := []
  curves := []
  kernels := []
  signers := []
  pvcs := []
  clusters := []
  units := []
  nrg := .off
  mbx := []
  outcomes := []
  boot := { stage := .inReset, hold := false, bank := 0, trial := false, pushed := false, fw := [], svn := 0, iface := 0, since := 0,
            banks := [.blank, .blank], prefer := 0, staging := false, cfgBanks := [⟨[], []⟩, ⟨[], []⟩], cfgLoaded := none,
            cfgMin := 0, signer := none, subsys := 0, subsysNext := 0, template := defaultTemplate, templateNext := defaultTemplate, pf0 := defaultPf0, sillage := [],
            running := zeros 48, curveNew := [], lowSpeed := [], dispExp := none, reason := [0], newState := false, steps := false, fullDone := false }
  pwr := { vin := true, vioOk := true, queues := wakeQueues, ramping := [], powered := [],
           starts := [], burst := false, pause := 0, waking := true, heldAt := none, permitOut := false, vinAt := 0,
           thermal := false, drive := some 0, resetN := false, perstN := false, swReset := none, swAt := 0, strap := none,
           strapped := false, banksLost := [], flue := [], islands := [], tempFrom := 0 }
  tmp := []
  tmpTest := none
  tmpNext := []
  tmpSeries := none
  tlSeed := []
  peat := { vbat := true, sls := none, checked := [], log := [powerOnEntry], lostCnt := 0, counters := 1 :: List.replicate 7 0, cold := false,
            xtal := true, secs := 0, frac := 0, stagedHi := 0, fails := [], flashCnt := 1 :: List.replicate 7 0, wake := none }
  lc := { slots := [0xFFFFFFFF, 0xFFFFFFFF, 0xFFFFFFFF, 0, 0], rootKill := 0, markers := List.replicate 24 0,
          hashes := List.replicate 24 (zeros 16), owner := none, minSvn := 0, drs := some (zeros 32), did := some (zeros 32), testOpen := false, openFlag := false, leftOpen := false, record := none,
          block := [], nonceDbg := none, nonceLc := none, session := none }
  flt := []
  cards := { ports := [], roster := [], mq := 0, quorum := none, ceremony := none, mc0Busy := false, volume := [],
             mc0Pass := [] }
  fab := { cfg := [], ports := [], peers := [], states := [], addr := none, lastAddr := none, groups := [], invites := [],
           destroyed := [], e2e := [], nextMsg := 0, adding := none, commits := [], restore := none, spilled := [],
           syncNext := none, synced := false, relays := [], remote := [] }
  test := { loop := none, unit := none, pending := none, views := [] }

end Sys2Proof.Machine
end

