-- ==== Sys2Proof/Machine/Ops.lean ====
section
/-!
DEFINITION. The named operations over the state that every family uses: registers (R12 to R15), what is sent outward, free
values, units and functions by number.
-/
namespace Sys2Proof.Machine
open Sys2Proof

/-! Registers. -/

/-- The key of a register in State.regs. -/
def regKey (fn off : Nat) : Nat := fn * 2 ^ 28 + off

/-- A TMP_SRC word. -/
def tmpWord (en hard : Bool) (n wm we resp : Nat) : Word :=
  BitVec.ofNat 32 (b2n en * 2 ^ 31 + b2n hard * 2 ^ 19 + we * 2 ^ 16 + wm * 2 ^ 12 + n * 2 ^ 4 + resp)

/-- Default N, W and response of a tamper source (R328); W is written with the mantissa from 1 to 9 (log entry 31). -/
def tmpDefault (i : Nat) : Word :=
  if i ≤ 3 then tmpWord true true 2 2 1 13
  else if i = 4 then tmpWord true true 1 1 0 13
  else if i ≤ 12 then tmpWord true true 2 1 1 13
  else if i = 13 then tmpWord true true 1 1 0 9
  else if i = 14 then tmpWord true false 3 1 6 3
  else if i = 15 then 0
  else if i ≤ 31 then tmpWord false false 4 1 3 7
  else if i ≤ 34 then tmpWord true false 1 1 0 5
  else if i = 36 then tmpWord true false 1 1 0 1
  else if i = 37 then tmpWord true false 1 1 0 5
  else if i = 38 then tmpWord true false 1 1 0 3
  else if i = 40 then tmpWord true false 2 1 3 5
  else if i = 41 then tmpWord true false 2 1 3 3
  else if 44 ≤ i ∧ i ≤ 51 then tmpWord true false 1 1 0 5
  else if i = 53 then tmpWord true false 1 1 0 9
  else 0

/-- The reset word of the register at an offset: its table's, with the values that differ along an array. -/
def regReset (fn off : Nat) : Word :=
  match regSpec fn off with
  | none => 0
  | some r =>
    if fn = 0 ∧ r.base = Reg.TMP_SRC 0 then tmpDefault (r.index off).1
    else if fn = 0 ∧ r.base = Reg.MBX_CAPS 0 then setBits r.resetWord 1 0 (r.index off).1
    else r.resetWord

/-- The stored word of a register. -/
def State.rd (s : State) (fn off : Nat) : Word := (mget s.regs (regKey fn off)).getD (regReset fn off)

/-- A register set to a word: a register at its reset word is not listed. -/
def State.wr (s : State) (fn off : Nat) (v : Word) : State :=
  { s with regs := if v = regReset fn off then mdel s.regs (regKey fn off) else mput s.regs (regKey fn off) v }

/-- Field hi..lo of a register of PF0. -/
def State.rdF (s : State) (off hi lo : Nat) : Nat := fld (s.rd 0 off) hi lo

/-- A register of PF0 with field hi..lo set. -/
def State.wrF (s : State) (off hi lo v : Nat) : State := s.wr 0 off (setBits (s.rd 0 off) hi lo v)

/-- One bit of a register of PF0. -/
def State.rdB (s : State) (off i : Nat) : Bool := bitAt (s.rd 0 off) i

/-- A register of PF0 with one bit set to b. -/
def State.wrB (s : State) (off i : Nat) (b : Bool) : State := s.wrF off i i (b2n b)

/-- A counting field of PF0 raised by k, saturating at its top. -/
def State.incF (s : State) (off hi lo k : Nat) : State := s.wrF off hi lo (satAdd (hi - lo + 1) (s.rdF off hi lo) k)

/-! What the device sends outward, and free values. -/

/-- One more item sent outward. -/
def State.emit (s : State) (o : LinkOut) : State := { s with tx := s.tx ++ [o] }

/-- A fresh place among the free values. -/
def State.fresh (s : State) : State := { s with free := s.free + 1 }

/-- The vector's mask bit in the function's MSI-X table, set at reset (log entry 10). -/
def State.vecMasked (s : State) (fn vec : Nat) : Bool := bitAt ((mget s.link.msix (fn * 65536 + 16 * vec + 12)).getD 1) 0

/-- The function is fenced by a reset or a quiesce: it sends no MSI-X messages (R75, R78). -/
def State.fenced (s : State) (fn : Nat) : Bool := match mget s.fns fn with | some f => f.quiescing || f.quiesced | none => false

/-- An MSI-X message of a function; that of a masked vector stays pending (R60, R61; log entry 10). A fenced function sends none. -/
def State.msix (s : State) (fn vec : Nat) : State :=
  if s.fenced fn then s
  else if s.vecMasked fn vec then { s with link := { s.link with pba := (fn * 65536 + vec) :: s.link.pba.erase (fn * 65536 + vec) } }
  else s.emit (.msix fn vec)

/-- AER reports an error on a request of a function; the log keeps the first (R54, R59). The spec gives the error's header and prefix to
the PCIe specification: free values (log entry 127). -/
def State.aerReport (s : State) (fn : Nat) : State :=
  let r : AerLog := { header := (List.range 16).map (fun i => Config.aerByte (s.free + i)),
                      tlp := (List.range 16).map (fun i => Config.aerByte (s.free + 16 + i)) }
  let s1 := { s with free := s.free + 32 }.emit (.aer fn r)
  { s1 with link := { s1.link with aer := if (mget s.link.aer fn).isSome then s.link.aer else mput s.link.aer fn r } }

/-- A memory write under a function's routing ID; nothing is sent for no bytes (R57, R58). -/
def State.memWrite (s : State) (fn addr : Nat) (data : List Byte) (relaxed : Bool) : State :=
  if data.isEmpty then s else s.emit (.mem fn addr data (relaxed && s.link.relaxed.contains fn))

/-! Functions, queue pairs, in-flight entries. -/

/-- The function's record: the template where nothing differs (R63). -/
def State.fn (s : State) (n : Nat) : Fn := (mget s.fns n).getD (if n = 0 then s.boot.pf0 else s.boot.template)

def State.setFn (s : State) (n : Nat) (f : Fn) : State := { s with fns := mput s.fns n f }

def qpKey (fn qp : Nat) : Nat := fn * 16 + qp

/-- A queue pair as reset leaves it (R83). -/
def QPair.off : QPair where
  baseLo := 0
  baseHi := 0
  cfg := 0
  state := .off
  err := 0
  head := 0
  tail := 0
  cqHead := 0
  cqTail := 0
  phase := true
  waiting := []
  pendCnt := 0
  pendSince := 0
  irqCfg := 0
  chain := none
  chainRes := none
  firstFail := none

def State.qp (s : State) (fn q : Nat) : QPair := (mget s.qps (qpKey fn q)).getD .off

def State.setQp (s : State) (fn q : Nat) (p : QPair) : State := { s with qps := mput s.qps (qpKey fn q) p }

def State.setCmd (s : State) (id : Nat) (c : Cmd) : State := { s with cmds := mput s.cmds id c }

def State.modCmd (s : State) (id : Nat) (f : Cmd → Cmd) : State := { s with cmds := mmod s.cmds id f }

/-! The schedulers (R69). -/

/-- The command is a ready job of the class: a leg, or a turn, without a run yet. -/
def Cmd.readyFor (c : Cmd) (e : Eng) : Bool :=
  (c.phase == .ready || c.phase == .running) && c.legs.any (fun l => l.cls == e && l.decided.isNone && l.runs.isEmpty)

/-- The functions with a ready job of the class. -/
def State.readyFns (s : State) (e : Eng) : List Nat := ((s.cmds.filter (fun x => x.2.readyFor e)).map (fun x => x.2.fn)).eraseDups

/-- A function's deficit at a class. -/
def State.deficit (s : State) (e : Eng) (fn : Nat) : Int := (mget s.sched (e.num * 4096 + fn)).getD 0

/-- The next number after p in a rising list, else its first. -/
def nextAfter (l : List Nat) (p : Nat) : Option Nat := match l.find? (fun f => decide (p < f)) with | some f => some f | none => l.head?

/-- The number that stands n places further on in the round. -/
def nthAfter (l : List Nat) : Nat → Nat → Nat
  | 0, p => p
  | n + 1, p => nthAfter l n ((nextAfter l p).getD p)

/-- Rounds that make a deficit positive. -/
def roundsFor (d w : Int) : Nat := if 0 < d then 0 else ((-d) / w + 1).toNat

/-- The deficit round-robin over functions with a ready job: the rounds added to every deficit before one is positive, and the function
that is served next. -/
def State.drrPick (s : State) (e : Eng) (fns : List Nat) : Option (Nat × Nat) :=
  let l := fns.mergeSort (fun a b => decide (a ≤ b))
  let w := fun (f : Nat) => ((s.fn f).weight * 100 : Int)
  match l.map (fun f => roundsFor (s.deficit e f) (w f)) with
  | [] => none
  | r :: t =>
    let n := t.foldl Nat.min r
    let p := nthAfter l n ((mget s.turn e.num).getD 4095)
    let live := l.filter (fun f => decide (0 < s.deficit e f + n * w f))
    (nextAfter live p).map (fun f => (n, f))

/-- A job of a function is dispatched: the rounds that came first add WEIGHT × 1 µs each to every function with a ready job; then its cost
is taken off. -/
def State.charge (s : State) (e : Eng) (fns : List Nat) (rounds fn cost : Nat) : State :=
  let given := fns.foldl (fun m f => mput m (e.num * 4096 + f) (s.deficit e f + rounds * ((s.fn f).weight * 100))) s.sched
  { s with
    sched := mput given (e.num * 4096 + fn) ((mget given (e.num * 4096 + fn)).getD 0 - cost)
    turn := mput s.turn e.num fn }

/-- A deficit lasts while its function has a ready job of the class. -/
def stillReady (cmds : List (Nat × Cmd)) (k : Nat) : Bool :=
  k / 4096 == Eng.num .disp || cmds.any (fun x => x.2.fn == k % 4096 && [Eng.pvc, .hte, .bne, .dge, .chk].any (fun e => e.num == k / 4096 && x.2.readyFor e))

/-- A function with no ready job of a class has its deficit there set to 0. -/
def State.settle (s : State) : State := { s with sched := s.sched.filter (fun d => stillReady s.cmds d.1) }

/-! Engine units. -/

/-- A unit that has not passed its admission tests. -/
def EUnit.off : EUnit where
  service := false
  retired := false
  selftest := false
  kept := none
  scrub := false
  busy := none
  inter := none
  booted := false
  fn := 0
  opcode := 0
  outvotes := []
  corrupt := none
  tested := false
  code := []

def State.unit (s : State) (u : Nat) : EUnit := (mget s.units u).getD .off

def State.setUnit (s : State) (u : Nat) (e : EUnit) : State := { s with units := mput s.units u e }

/-- No handshake. -/
def Shaker.idle : Shaker where
  stage := .none
  peerId := []
  myNonce := []
  peerNonce := []
  seed := []
  keys := []
  held := none
  inbox := []

/-- A handshake that goes no further; keys in force stay. -/
def Shaker.stop (x : Shaker) : Shaker :=
  { Shaker.idle with stage := if x.keys.isEmpty then .none else .done, peerId := x.peerId, keys := x.keys }

/-- A cluster with nothing waiting. -/
def Cluster.idle : Cluster where
  spQueue := []
  sramQueue := []
  maskPart := 0
  owner := none
  draining := none
  maskStall := false

def State.cluster (s : State) (c : Nat) : Cluster := (mget s.clusters c).getD .idle

def State.setCluster (s : State) (c : Nat) (x : Cluster) : State := { s with clusters := mput s.clusters c x }

/-- The cluster of a core (06, table of the resources of a cluster). -/
def clusterOf (core : Nat) : Nat := core / 8

def State.setPvc (s : State) (c : Nat) (p : Pvc) : State := { s with pvcs := mput s.pvcs c p }

/-- Free run-data area of a cluster's shared SRAM, in 4 KiB units (R165): a run holds its allotment from its start until its scrub ends. -/
def State.sramFree (s : State) (cl : Nat) : Nat :=
  192 - (s.pvcs.filter (fun x => clusterOf x.1 == cl && x.2.alloc)).foldl (fun n x => n + x.2.kern.sram / 4096) 0

/-! Status codes of completions (R110). -/
namespace St
def SUCCESS : Nat := 0x00
def BAD_OPCODE : Nat := 0x10
def BAD_FIELD : Nat := 0x11
def LENGTH_MISMATCH : Nat := 0x12
def STATE : Nat := 0x13
def KEY_USAGE : Nat := 0x14
def KEY_ABSENT : Nat := 0x15
def QUOTA : Nat := 0x16
def OUTPUT_TOO_SMALL : Nat := 0x17
def KEY_EXHAUSTED : Nat := 0x18
def DESCRIPTOR_CRC : Nat := 0x19
def INVALID_INPUT : Nat := 0x20
def NON_CANONICAL : Nat := 0x21
def ENTROPY_UNAVAILABLE : Nat := 0x30
def ENTROPY_FAULT : Nat := 0x31
def ABORTED : Nat := 0x40
def FENCED : Nat := 0x41
def DEVICE_FAULT : Nat := 0x50
def KERNEL_FAULT : Nat := 0x60
def SECRET_FLOW : Nat := 0x61
def CARD_REMOVED : Nat := 0x70
def QUORUM_REQUIRED : Nat := 0x71
end St

/-! Key-grade requests (R271): classes 1 to 3, requester numbers 0 to 23. -/

/-- n free values are used up. -/
def State.used (s : State) (n : Nat) : State := { s with free := s.free + n }

/-- A request joins the queue of the noise random generator. -/
def State.nrgAsk (s : State) (cls reqr : Nat) (who : NrgWho) (amount : Nat) : State :=
  { s with nrg := { s.nrg with queue := s.nrg.queue ++ [⟨cls, reqr, who, amount, s.now⟩] } }

/-- The requests of an owner leave the queue: they take nothing (R271). -/
def State.dropWho (s : State) (w : NrgWho) : State :=
  { s with nrg := { s.nrg with queue := s.nrg.queue.filter (fun r => r.who != w) } }

/-- The generator is in FAULT: a new request completes with ENTROPY_FAULT (R274). -/
def State.nrgDown (s : State) : Bool := s.rdF Reg.NRG_STAT 1 0 == 2

/-- Blocks reserved for chunks that have not arrived return to the ready pool (R271), which a generator in FAULT or without power does not
hold. -/
def State.unreserve (s : State) (blocks : List (List Byte)) : State :=
  if s.rdF Reg.NRG_STAT 1 0 < 2 then { s with nrg := { s.nrg with ready := s.nrg.ready ++ blocks } } else s

/-- A raw capture under way ends with its command: the group reruns its start-up, a RETIRED one is RETIRED again (R279). -/
def State.endRaw (s : State) (c : Cmd) : State :=
  if leAt c.desc 0 2 = 0x0E20 ∧ c.phase = .running then
    let g := leAt c.desc 3 1
    if c.note = [1] then s.wrF (Reg.NRG_GRP g) 31 30 2
    else { s with nrg := { s.nrg with retries := mput s.nrg.retries g 0, passes := mdel s.nrg.passes g } }
  else s

end Sys2Proof.Machine
end

