-- ==== Sys2Proof/Machine/Complete.lean ====
section
/-!
DEFINITION. Ends of commands: completion entries, results entries and summaries, the full completion queue, the phase bit, coalesced
messages, the marks that fences and chains look at (spec file 03, R90 to R92, R100 to R107, R109), and commands dropped with no
completion (R86, R87).
-/
namespace Sys2Proof.Machine
open Sys2Proof

/-- How a command ends. -/
structure Done where
  status  : Nat
  bytes   : Nat
  verdict : Option Bool
  inline  : List Byte         -- bytes 16 on
  timed   : Bool              -- passed validation step 9: the engine time counts (R100)
deriving DecidableEq, Repr

/-- A status with its inline bytes, from validation steps 1 to 9. -/
def Done.fail (status : Nat) (inline : List Byte) : Done := ⟨status, 0, none, inline, false⟩

/-- A status alone. -/
def Done.err (status : Nat) : Done := .fail status []

/-- SUCCESS of a command that needs no engine. -/
def Done.ok (bytes : Nat) (inline : List Byte) : Done := ⟨St.SUCCESS, bytes, none, inline, true⟩

/-- ABORTED with its reason in byte 16 (R101). -/
def Done.aborted (reason : Nat) : Done := .fail St.ABORTED [BitVec.ofNat 8 reason]

/-- A status of a command that passed validation step 9: the engine time counts (R100). -/
def Done.late (status : Nat) : Done := { Done.err status with timed := true }

/-- ABORTED of such a command. -/
def Done.abortedLate (reason : Nat) : Done := { Done.aborted reason with timed := true }

/-! Fields of a descriptor (R94). -/

def Cmd.op (c : Cmd) : Nat := leAt c.desc 0 2
def Cmd.flags (c : Cmd) : Nat := leAt c.desc 2 1
def Cmd.par (c : Cmd) : Nat := leAt c.desc 3 1
def Cmd.tag (c : Cmd) : Nat := leAt c.desc 4 2
def Cmd.ctx (c : Cmd) : Nat := leAt c.desc 6 2
def Cmd.h1 (c : Cmd) : Nat := leAt c.desc 8 4
def Cmd.h2 (c : Cmd) : Nat := leAt c.desc 12 4
def Cmd.inAddr (c : Cmd) : Nat := leAt c.desc 16 8
def Cmd.inLen (c : Cmd) : Nat := leAt c.desc 24 4
def Cmd.cap (c : Cmd) : Nat := leAt c.desc 28 4
def Cmd.outAddr (c : Cmd) : Nat := leAt c.desc 32 8
def Cmd.auxAddr (c : Cmd) : Nat := leAt c.desc 40 8
def Cmd.b (c : Cmd) (i : Nat) : Nat := leAt c.desc i 1
def Cmd.auxLen (c : Cmd) : Nat := leAt c.desc 56 4
/-- Flag bit i. -/
def Cmd.flag (c : Cmd) (i : Nat) : Bool := c.flags.testBit i

/-! Queue memory. -/

/-- Entries of a queue whose size field is n (R82). -/
def queueLen (n : Nat) : Nat := 16 * 2 ^ n
def QPair.sqLen (p : QPair) : Nat := queueLen (fld p.cfg 3 0)
def QPair.cqLen (p : QPair) : Nat := queueLen (fld p.cfg 7 4)
def QPair.base (p : QPair) : Nat := p.baseHi.toNat * 2 ^ 32 + p.baseLo.toNat
/-- Address of slot i of the CQ (R82). -/
def QPair.cqSlot (p : QPair) (i : Nat) : Nat := p.base + Nat.max (64 * p.sqLen) 4096 + 32 * i
/-- The CQ is full when tail + 1 equals the head last written (R90). -/
def QPair.cqFull (p : QPair) : Bool := (p.cqTail + 1) % p.cqLen == p.cqHead
def QPair.ien (p : QPair) : Bool := bitAt p.cfg 15

/-- A completion entry without phase bit and SQ head (R100, R101). -/
def mkEntry (tag q : Nat) (d : Done) (replayed : Bool) (time : Word) : List Byte :=
  let fl := (match d.verdict with | some v => 2 + 4 * b2n v | none => 0) + 8 * b2n replayed
  natLE 2 tag ++ natLE 2 q ++ [BitVec.ofNat 8 d.status, BitVec.ofNat 8 fl] ++ zeros 2 ++ natLE 4 d.bytes
    ++ natLE 4 time.toNat ++ fixLen 16 d.inline

/-- The entry as it is written: with its phase bit and SQ head. -/
def stampEntry (e : List Byte) (phase : Bool) (head : Nat) : List Byte :=
  e.take 5 ++ [(e.getD 5 0) ||| BitVec.ofNat 8 (b2n phase)] ++ natLE 2 head ++ e.drop 8

/-- The parts of host memory that a range of a buffer lies in, given the buffer's segments (R98). -/
def scatter : List (Nat × Nat) → Nat → List Byte → List (Nat × List Byte)
  | [], _, _ => []
  | (a, n) :: t, off, data =>
    if off ≥ n then scatter t (off - n) data
    else
      let k := n - off
      (a + off, data.take k) :: scatter t 0 (data.drop k)

/-- Data written to a range of a command's output buffer (R57, R58). -/
def State.writeOut (s : State) (c : Cmd) (off : Nat) (data : List Byte) (relaxed : Bool) : State :=
  (scatter c.outMap off data).foldl (fun (x : State) p => x.memWrite c.fn p.1 p.2 relaxed) s

/-! Interrupts (R109). -/

/-- Vectors a function has (R63). -/
def State.vecs (s : State) (fn : Nat) : Nat := if fn = 0 then 64 else (s.fn fn).vecs

/-- A completion is written, and counts as pending with flag bit 1 or without SUCCESS; with IEN set the message goes out at the count. The
configuration in force now applies until the next completion. -/
def State.countIrq (s : State) (fn q : Nat) (irq : Bool) : State :=
  let p := s.qp fn q
  let n := p.pendCnt + b2n irq
  let since := if p.pendCnt = 0 then s.now else p.pendSince
  if p.ien && decide (0 < n) && decide (n ≥ Nat.max (fld p.cfg 23 16) 1) then
    (s.setQp fn q { p with pendCnt := 0, irqCfg := p.cfg }).msix fn (fld p.cfg 13 8)
  else s.setQp fn q { p with pendCnt := n, pendSince := since, irqCfg := p.cfg }

/-! Writing an entry. -/

/-- Successors of a command in its chain see how it ended (R104). -/
def tellSuccessors (id : Nat) (ok : Bool) (m : List (Nat × Cmd)) : List (Nat × Cmd) :=
  m.map (fun x => if x.2.pred = some id then (x.1, { x.2 with predRes := some ok }) else x)

/-- An entry is written at the CQ tail; its in-flight entry is free, and fences and chains see it (R91, R102 to R104). -/
def State.writeCq (s : State) (fn q id : Nat) (entry : List Byte) (irq ok : Bool) : State :=
  let p := s.qp fn q
  let s1 := s.memWrite fn (p.cqSlot p.cqTail) (stampEntry entry p.phase p.head) false
  let t := (p.cqTail + 1) % p.cqLen
  let p1 := { p with
    cqTail := t
    phase := if t = 0 then !p.phase else p.phase
    chainRes := if p.chain = some id then some ok else p.chainRes
    firstFail := if ok then p.firstFail else some (match p.firstFail with | some f => Nat.min f id | none => id) }
  ({ (s1.setQp fn q p1) with cmds := mdel (tellSuccessors id ok s1.cmds) id }).countIrq fn q irq

/-! Runs and requests of a command that ends. -/

/-- The opcode a unit shows for a command (08, HTE_GRP). -/
def Cmd.shownOp (c : Cmd) : Nat := if !c.kern ∧ (c.op = 0x0F30 ∨ c.op = 0x0F02) then 0x0F01 else c.op

/-- The interleaved run of a tree group ends: the group shows the key generation that goes on (R224; 08, HTE_GRP). -/
def State.interEnds (s : State) (x : EUnit) : EUnit :=
  match x.busy.bind (fun k => mget s.cmds k) with
  | some c => { x with inter := none, fn := c.fn, opcode := c.shownOp }
  | none => { x with inter := none }

/-- The runs of a command still on units end with it: a PVC goes to scrub (R193), any other unit is free. -/
def State.dropRuns (s : State) (id : Nat) : State :=
  let gone := (s.pvcs.filter (fun x => x.2.cmd == id && x.2.stall != some .ended)).map (·.1)
  { s with
    pvcs := s.pvcs.map (fun x => if x.2.cmd = id then (x.1, { x.2 with stall := some .ended, sp := Vector.replicate 2 none }) else x)
    clusters := s.clusters.map (fun x => (x.1, { x.2 with
      spQueue := x.2.spQueue.filter (fun c => !gone.contains c), sramQueue := x.2.sramQueue.filter (fun c => !gone.contains c) }))
    units := s.units.map (fun x =>
      let z := if x.2.kept = some id then { x.2 with kept := none } else x.2
      let y := if z.inter = some id then s.interEnds z else z
      (x.1, if y.busy = some id then (if x.1 < 96 then { y with scrub := true } else { y with busy := y.inter, inter := none }) else y)) }

/-- Bytes of a command's entropy stream: what was drawn, without the nonce of a blob. -/
def Cmd.stream (c : Cmd) : Nat := c.rand.length - (if c.op = 0x0F02 ∧ !c.kern then 32 else 0)

/-- A request for key-grade bytes belongs to a command. -/
def NrgReq.ofCmd (id : Nat) (r : NrgReq) : Bool := r.who == .cmd id || r.who == .chunk id

/-- The waiting requests of a command end without being granted, and what is reserved for it returns (R271); a raw capture ends (R279). -/
def State.dropReqs (s : State) (id : Nat) : State :=
  let s1 := { s with nrg := { s.nrg with queue := s.nrg.queue.filter (fun r => !r.ofCmd id) } }
  match mget s.cmds id with
  | some c => (s1.unreserve c.chunk).endRaw c
  | none => s1

/-- The slots that an OPM_RUN in a list of entries names as destinations. -/
def opmDests (list : List Byte) : List Nat := (List.range (list.length / 16)).map (fun i => leAt list (16 * i + 2) 2)

/-- An abort of an OPM_RUN whose runs were due poisons its destinations; a SEALED partition is zeroised (R266). -/
def State.opmAbort (s : State) (c : Cmd) : State :=
  if c.op = 0x0F80 ∧ !c.legs.isEmpty ∧ !c.kern then
    { s with opm := mmod s.opm c.fn (fun (p : OpmPart) =>
        if p.sealed then { p with slots := [] }
        else { p with slots := (opmDests c.inp).foldl (fun m d => mput m d ⟨true, 0, false⟩) p.slots }) }
  else s

/-- What a command's end leaves behind on the engines. -/
def State.letGo (s : State) (id : Nat) : State :=
  let s1 := (s.dropRuns id).dropReqs id
  { s1 with sched := s1.sched.filter (fun d => stillReady (mdel s1.cmds id) d.1) }

/-! Ends of commands. -/

/-- The end of a command that is no member of a batch: its entry is written, or waits for room in the CQ (R90). -/
def State.completeTop (s : State) (id : Nat) (c : Cmd) (entry : List Byte) (ok : Bool) : State :=
  let irq := c.flag 1 || !ok
  let p := s.qp c.fn c.qp
  if p.state = .active then
    if p.cqFull || !p.waiting.isEmpty then
      ({ s with cmds := mput s.cmds id { c with phase := .waitCq, legs := [], chunk := [] } }).setQp c.fn c.qp
        { p with waiting := p.waiting ++ [WaitEntry.mk id entry irq ok] }
    else s.writeCq c.fn c.qp id entry irq ok
  else { s with cmds := mdel s.cmds id }

/-- The summary completion of a batch whose members all have results entries (R107). -/
def State.summary (s : State) (bid : Nat) (b : Batch) : State :=
  match mget s.cmds bid with
  | none => s
  | some c =>
    let d : Done :=
      { status := if b.aborted then St.ABORTED else St.SUCCESS
        bytes := b.total * 32
        verdict := none
        inline := natLE 4 b.succ ++ natLE 4 b.other ++ natLE 4 b.rejected ++
          (match b.firstBad with | some i => natLE 4 i | none => List.replicate 4 255)
        timed := true }
    let e := mkEntry c.tag c.qp d false (Config.engineTime s.free)
    ({ s.fresh with batches := mdel s.batches bid }).completeTop bid c e (d.status == St.SUCCESS)

/-- A word of a batch's bitmap (R107). -/
def bitmapWord (done : List Nat) (k : Nat) : Nat :=
  (List.range 64).foldl (fun n i => n + (if done.contains (64 * k + i) then 2 ^ i else 0)) 0

/-- A member ends: its results entry, then its bit, then the summary where it was the last (R107). -/
def State.memberDone (s : State) (bid i : Nat) (tag : Nat) (d : Done) (replayed : Bool) (time : Word) : State :=
  match mget s.batches bid, mget s.cmds bid with
  | some b, some bc =>
    let e := stampEntry (mkEntry tag 0 d replayed time) true 0
    let s1 := s.writeOut bc (32 * i) e false
    let done := i :: b.done
    let s2 := s1.memWrite bc.fn (b.bitmap + 8 * (i / 64)) (natLE 8 (bitmapWord done (i / 64))) false
    let ok := d.status == St.SUCCESS
    let b1 := { b with
      done := done
      succ := b.succ + b2n ok
      other := b.other + b2n (!ok)
      rejected := b.rejected + b2n (d.verdict == some false)
      firstBad := if ok then b.firstBad else some (match b.firstBad with | some f => Nat.min f i | none => i)
      results := (i, d.status) :: b.results }
    if done.length = b.total then s2.summary bid b1 else { s2 with batches := mput s2.batches bid b1 }
  | _, _ => s

/-- A command ends with the tag that its entry carries (R101). -/
def State.completeTag (s : State) (id tag : Nat) (d : Done) : State :=
  match mget s.cmds id with
  | none => s
  | some c =>
    let aborts := d.status == St.ABORTED || d.status == St.DEVICE_FAULT || d.status == St.ENTROPY_FAULT || d.status == St.KERNEL_FAULT
    let s0 := if aborts then (s.letGo id).opmAbort c else s.letGo id
    let time := if d.timed then Config.engineTime s.free else 0
    let s1 := if d.timed then s0.fresh else s0
    match c.member with
    | some (b, i) =>
      ({ s1 with cmds := mdel (tellSuccessors id (d.status == St.SUCCESS) s1.cmds) id }).memberDone b i tag d c.replayed time
    | none => s1.completeTop id c (mkEntry tag c.qp d c.replayed time) (d.status == St.SUCCESS)

/-- A command ends. -/
def State.complete (s : State) (id : Nat) (d : Done) : State :=
  match mget s.cmds id with
  | none => s
  | some c => s.completeTag id c.tag d

/-! Commands dropped with no completion. -/

/-- One in-flight entry is freed with no completion (R86, R87). -/
def State.dropCmd (s : State) (id : Nat) : State :=
  let s1 := match mget s.cmds id with
    | some c => (s.letGo id).opmAbort c
    | none => s.letGo id
  { s1 with cmds := mdel s1.cmds id, batches := mdel s1.batches id }

/-- Every command that satisfies a test is dropped. -/
def State.dropCmds (s : State) (f : Cmd → Bool) : State :=
  ((s.cmds.filter (fun c => f c.2)).map (·.1)).foldl State.dropCmd s

/-- The pair has halted on a link error (R84): causes 6 and 7. -/
def QPair.linkErr (p : QPair) : Bool := p.state == .error && (p.err == 6 || p.err == 7)

/-- A queue pair enters ERROR (R86): its commands are dropped and the function's bit of CMD_QPERR is set. -/
def State.qpError (s : State) (fn q cause : Nat) : State :=
  let s1 := s.dropCmds (fun c => c.fn == fn && c.qp == q)
  let p := s1.qp fn q
  (s1.setQp fn q { p with state := .error, err := cause, waiting := [], pendCnt := 0, chain := none, chainRes := none }).wrB
    (Reg.CMD_QPERR (fn / 32)) (fn % 32) true

/-- The next chunk of a command's entropy stream is asked for, once for all its runs: 64 bytes, fewer at the stream's limit (R31, R183).
In FAULT the command ends (R274). -/
def State.askChunk (s : State) (cmd : Nat) (c : Cmd) : State :=
  if s.nrgDown then s.complete cmd (.late St.ENTROPY_FAULT)
  else if !c.chunk.isEmpty || s.nrg.queue.any (fun r => r.who == .chunk cmd) then s
  else s.nrgAsk 2 23 (.chunk cmd) (Nat.min 64 (4096 - c.stream))

end Sys2Proof.Machine
end

