-- ==== Sys2Proof/Machine/Hash.lean ====
section
/-!
DEFINITION. The hash functions that the spec names by their standards (FIPS 180-4, FIPS 202, SP 800-185, RFC 2104,
RFC 5869), written as block functions over a chaining state, so that a digest context can hold the state between parts
(spec file 08). PRESUMED from those standards (log entry 6); the spec's own worked figures agree.
-/
namespace Sys2Proof.Machine
open Sys2Proof

/-- Greatest r with r^k ≤ n and r < 2^bits. -/
def rootFrom (k n : Nat) : Nat → Nat → Nat
  | 0, acc => acc
  | b + 1, acc => let t := acc + 2 ^ b; rootFrom k n b (if t ^ k ≤ n then t else acc)

/-- The primes among n numbers from p on. -/
def primesFrom (p : Nat) : Nat → List Nat
  | 0 => []
  | n + 1 => if (List.range p).all (fun d => d < 2 || p % d != 0) then p :: primesFrom (p + 1) n else primesFrom (p + 1) n

/-- The first 80 primes. -/
def primes80 : List Nat := primesFrom 2 408

/-- FIPS 180-4 round constants: fractions of the cube roots of the first primes. -/
def sha256K : List Word := (primes80.take 64).map (fun p => BitVec.ofNat 32 (rootFrom 3 (p * 2 ^ 96) 36 0))
def sha512K : List DWord := primes80.map (fun p => BitVec.ofNat 64 (rootFrom 3 (p * 2 ^ 192) 68 0))

/-- Fractions of the square roots of primes: the SHA-256, SHA-512 and SHA-384 initial values. -/
def sqrtFrac (bits p : Nat) : Nat := rootFrom 2 (p * 2 ^ (2 * bits)) (bits + 5) 0 % 2 ^ bits

def bytesOfWords (w n : Nat) (l : List Nat) : List Byte := (l.take n).flatMap (natBE w)

/-- n big-endian words of w bytes. -/
def wordsOfBytes (w : Nat) : Nat → List Byte → List Nat
  | 0, _ => []
  | n + 1, l => beNat (l.take w) :: wordsOfBytes w n (l.drop w)

def rotr32 (x : Word) (n : Nat) : Word := x.rotateRight n
def rotr64 (x : DWord) (n : Nat) : DWord := x.rotateRight n

/-- Message schedule of SHA-256, newest word first. -/
def sched256 : Nat → List Word → List Word
  | 0, w => w
  | n + 1, w =>
    let g := fun i => w.getD i 0
    let s0 := rotr32 (g 14) 7 ^^^ rotr32 (g 14) 18 ^^^ (g 14 >>> 3)
    let s1 := rotr32 (g 1) 17 ^^^ rotr32 (g 1) 19 ^^^ (g 1 >>> 10)
    sched256 n ((g 15 + s0 + g 6 + s1) :: w)

def sched512 : Nat → List DWord → List DWord
  | 0, w => w
  | n + 1, w =>
    let g := fun i => w.getD i 0
    let s0 := rotr64 (g 14) 1 ^^^ rotr64 (g 14) 8 ^^^ (g 14 >>> 7)
    let s1 := rotr64 (g 1) 19 ^^^ rotr64 (g 1) 61 ^^^ (g 1 >>> 6)
    sched512 n ((g 15 + s0 + g 6 + s1) :: w)

/-- SHA-256 compression of one 64-byte block into a 32-byte chaining value. -/
def sha256Block (st blk : List Byte) : List Byte :=
  let h := (wordsOfBytes 4 8 st).map (BitVec.ofNat 32)
  let w := (sched256 48 ((wordsOfBytes 4 16 blk).map (BitVec.ofNat 32)).reverse).reverse
  let r := (List.zip w sha256K).foldl (fun (v : List Word) wk =>
    let g := fun i => v.getD i 0
    let s1 := rotr32 (g 4) 6 ^^^ rotr32 (g 4) 11 ^^^ rotr32 (g 4) 25
    let ch := (g 4 &&& g 5) ^^^ (~~~ (g 4) &&& g 6)
    let t1 := g 7 + s1 + ch + wk.2 + wk.1
    let s0 := rotr32 (g 0) 2 ^^^ rotr32 (g 0) 13 ^^^ rotr32 (g 0) 22
    let mj := (g 0 &&& g 1) ^^^ (g 0 &&& g 2) ^^^ (g 1 &&& g 2)
    [t1 + s0 + mj, g 0, g 1, g 2, g 3 + t1, g 4, g 5, g 6]) h
  (List.zipWith (· + ·) h r).flatMap (fun x => natBE 4 x.toNat)

/-- SHA-512 compression of one 128-byte block into a 64-byte chaining value. -/
def sha512Block (st blk : List Byte) : List Byte :=
  let h := (wordsOfBytes 8 8 st).map (BitVec.ofNat 64)
  let w := (sched512 64 ((wordsOfBytes 8 16 blk).map (BitVec.ofNat 64)).reverse).reverse
  let r := (List.zip w sha512K).foldl (fun (v : List DWord) wk =>
    let g := fun i => v.getD i 0
    let s1 := rotr64 (g 4) 14 ^^^ rotr64 (g 4) 18 ^^^ rotr64 (g 4) 41
    let ch := (g 4 &&& g 5) ^^^ (~~~ (g 4) &&& g 6)
    let t1 := g 7 + s1 + ch + wk.2 + wk.1
    let s0 := rotr64 (g 0) 28 ^^^ rotr64 (g 0) 34 ^^^ rotr64 (g 0) 39
    let mj := (g 0 &&& g 1) ^^^ (g 0 &&& g 2) ^^^ (g 1 &&& g 2)
    [t1 + s0 + mj, g 0, g 1, g 2, g 3 + t1, g 4, g 5, g 6]) h
  (List.zipWith (· + ·) h r).flatMap (fun x => natBE 8 x.toNat)

/-! Keccak-f[1600] over a 200-byte state, lanes little-endian. -/

def lanesOf : Nat → List Byte → List DWord
  | 0, _ => []
  | n + 1, l => BitVec.ofNat 64 (leNat (l.take 8)) :: lanesOf n (l.drop 8)

def bytesOfLanes (l : List DWord) : List Byte := l.flatMap (fun x => natLE 8 x.toNat)

/-- The rotation of lane (x, y): offsets (t + 1)(t + 2) / 2 along the walk (x, y) ↦ (y, 2x + 3y). -/
def rhoWalk : Nat → Nat → Nat → Nat → List (Nat × Nat)
  | 0, _, _, _ => []
  | n + 1, t, x, y => (x + 5 * y, (t + 1) * (t + 2) / 2 % 64) :: rhoWalk n (t + 1) y ((2 * x + 3 * y) % 5)

def rhoOffsets : List (Nat × Nat) := rhoWalk 24 0 1 0

/-- One step of the round-constant register x^8 + x^6 + x^5 + x^4 + 1. -/
def rcStep (r : Nat) : Nat := let d := 2 * r; if d < 256 then d else (d ^^^ 0x171) % 256

def rcBits : Nat → Nat → List Bool
  | 0, _ => []
  | n + 1, r => (r % 2 == 1) :: rcBits n (rcStep r)

/-- Round constants: bit 2^j - 1 of constant i is output bit j + 7 i of the register. -/
def keccakRC : List DWord :=
  let bits := rcBits 168 1
  (List.range 24).map (fun i => (List.range 7).foldl
    (fun (w : DWord) j => if bits.getD (j + 7 * i) false then w ||| BitVec.ofNat 64 (2 ^ (2 ^ j - 1)) else w) 0)

def keccakRound (a : List DWord) (rc : DWord) : List DWord :=
  let g := fun (l : List DWord) i => l.getD i 0
  let c := (List.range 5).map (fun x => g a x ^^^ g a (x + 5) ^^^ g a (x + 10) ^^^ g a (x + 15) ^^^ g a (x + 20))
  let d := (List.range 5).map (fun x => g c ((x + 4) % 5) ^^^ (g c ((x + 1) % 5)).rotateLeft 1)
  let t := (List.range 25).map (fun i => (g a i ^^^ g d (i % 5)).rotateLeft ((mget rhoOffsets i).getD 0))
  -- pi: lane (x, y) of the new state is lane ((x + 3 y) mod 5, x) of the rotated one
  let b := (List.range 25).map (fun i => let x := i % 5; let y := i / 5; g t ((x + 3 * y) % 5 + 5 * x))
  let e := (List.range 25).map (fun i => let x := i % 5; let y := i / 5 * 5
    g b i ^^^ (~~~ (g b ((x + 1) % 5 + y)) &&& g b ((x + 2) % 5 + y)))
  e.modify 0 (· ^^^ rc)

def keccakF (st : List Byte) : List Byte := bytesOfLanes (keccakRC.foldl keccakRound (lanesOf 25 st))

/-- One sponge step: a block of the rate's length is added into the state and the state permuted. -/
def spongeBlock (st blk : List Byte) : List Byte := keccakF (xorBytes st (fixLen 200 blk))

/-! One shape for all: a family, its rate, its suffix byte. -/

/-- The hash constructions of the device. -/
inductive HKind where
  | sha2s (iv : List Nat)      -- 32-bit words, block 64
  | sha2l (iv : List Nat)      -- 64-bit words, block 128
  | keccak (rate suffix : Nat)
deriving DecidableEq, Repr

def HKind.rate : HKind → Nat
  | .sha2s _ => 64
  | .sha2l _ => 128
  | .keccak r _ => r

/-- The chaining state before the first block. -/
def HKind.init : HKind → List Byte
  | .sha2s iv => bytesOfWords 4 8 iv
  | .sha2l iv => bytesOfWords 8 8 iv
  | .keccak _ _ => zeros 200

def HKind.block : HKind → List Byte → List Byte → List Byte
  | .sha2s _, st, b => sha256Block st b
  | .sha2l _, st, b => sha512Block st b
  | .keccak _ _, st, b => spongeBlock st b

/-- Absorb as many whole blocks as the bytes hold: the new state and what is left over. fuel counts blocks. -/
def HKind.absorb (k : HKind) : Nat → List Byte → List Byte → List Byte × List Byte
  | 0, st, l => (st, l)
  | f + 1, st, l => if l.length < k.rate then (st, l) else k.absorb f (k.block st (l.take k.rate)) (l.drop k.rate)

def HKind.absorbAll (k : HKind) (st l : List Byte) : List Byte × List Byte := k.absorb (l.length / k.rate) st l

/-- n squeezed bytes of a sponge state; fuel counts blocks. -/
def squeeze (rate : Nat) : Nat → List Byte → Nat → List Byte
  | 0, st, n => st.take (Nat.min n rate)
  | f + 1, st, n => if n ≤ rate then st.take n else st.take rate ++ squeeze rate f (keccakF st) (n - rate)

/-- The digest of a state, its last partial block and the count of all bytes absorbed. -/
def HKind.finish (k : HKind) (st part : List Byte) (count outLen : Nat) : List Byte :=
  match k with
  | .sha2s _ =>
    let z := (119 - part.length % 64) % 64
    (k.absorbAll st (part ++ [0x80] ++ zeros z ++ natBE 8 (8 * count))).1.take outLen
  | .sha2l _ =>
    let z := (239 - part.length % 128) % 128
    (k.absorbAll st (part ++ [0x80] ++ zeros z ++ natBE 16 (8 * count))).1.take outLen
  | .keccak r s =>
    let b := (fixLen r (part ++ [BitVec.ofNat 8 s])).modify (r - 1) (· ^^^ 0x80)
    squeeze r (outLen / r) (spongeBlock st b) outLen

/-- One-shot hash. -/
def HKind.hash (k : HKind) (m : List Byte) (outLen : Nat) : List Byte :=
  let (st, part) := k.absorbAll k.init m
  k.finish st part m.length outLen

def ivSqrt (bits : Nat) (lo n : Nat) : List Nat := ((primes80.drop lo).take n).map (sqrtFrac bits)

def kSha256 : HKind := .sha2s (ivSqrt 32 0 8)
def kSha224 : HKind := .sha2s ((ivSqrt 64 8 8).map (· % 2 ^ 32))
def kSha512 : HKind := .sha2l (ivSqrt 64 0 8)
def kSha384 : HKind := .sha2l (ivSqrt 64 8 8)
/-- SHA-512/256: the initial value is SHA-512, its own initial value masked with a5…, of the name. -/
def kSha512t256 : HKind :=
  let k0 := HKind.sha2l ((ivSqrt 64 0 8).map (· ^^^ 0xa5a5a5a5a5a5a5a5))
  .sha2l (wordsOfBytes 8 8 (k0.hash (ascii "SHA-512/256") 64))
def kSha3 (out : Nat) : HKind := .keccak (200 - 2 * out) 0x06
def kShake128 : HKind := .keccak 168 0x1f
def kShake256 : HKind := .keccak 136 0x1f

def sha3_256 (m : List Byte) : List Byte := (kSha3 32).hash m 32
def sha3_384 (m : List Byte) : List Byte := (kSha3 48).hash m 48

/-! SP 800-185. -/

/-- Bytes of a number without leading zeros, at least one. -/
def minBE (n : Nat) : List Byte := natBE (Nat.max 1 ((bitLen n + 7) / 8)) n

def leftEncode (n : Nat) : List Byte := let b := minBE n; BitVec.ofNat 8 b.length :: b
def rightEncode (n : Nat) : List Byte := let b := minBE n; b ++ [BitVec.ofNat 8 b.length]
def encodeString (s : List Byte) : List Byte := leftEncode (8 * s.length) ++ s
def bytepad (w : Nat) (x : List Byte) : List Byte :=
  let b := leftEncode w ++ x
  b ++ zeros ((w - b.length % w) % w)

/-- The bytes a cSHAKE absorbs before its message: none where name and customisation are empty. -/
def cshakePrefix (rate : Nat) (name custom : List Byte) : List Byte :=
  if name.isEmpty && custom.isEmpty then [] else bytepad rate (encodeString name ++ encodeString custom)

/-- cSHAKE's sponge: SHAKE where name and customisation are empty. -/
def kCshake (rate : Nat) (name custom : List Byte) : HKind :=
  .keccak rate (if name.isEmpty && custom.isEmpty then 0x1f else 0x04)

def cshake (rate : Nat) (m name custom : List Byte) (outLen : Nat) : List Byte :=
  (kCshake rate name custom).hash (cshakePrefix rate name custom ++ m) outLen

/-- The bytes a KMAC absorbs before its data. -/
def kmacPrefix (rate : Nat) (key custom : List Byte) : List Byte :=
  cshakePrefix rate (ascii "KMAC") custom ++ bytepad rate (encodeString key)

/-- KMAC with an output of a fixed length in bytes; rate 168 for KMAC128, 136 for KMAC256. -/
def kmac (rate : Nat) (key data : List Byte) (outLen : Nat) (custom : List Byte) : List Byte :=
  (HKind.keccak rate 0x04).hash (kmacPrefix rate key custom ++ data ++ rightEncode (8 * outLen)) outLen

/-- kmac256(key, data, bits, custom) of R128, length in bytes. -/
def kmac256 (key data : List Byte) (outLen : Nat) (custom : String) : List Byte := kmac 136 key data outLen (ascii custom)

/-! RFC 2104 and RFC 5869. -/

def hmacKey (k : HKind) (hLen : Nat) (key : List Byte) : List Byte :=
  fixLen k.rate (if key.length > k.rate then k.hash key hLen else key)

def hmac (k : HKind) (hLen : Nat) (key m : List Byte) : List Byte :=
  let k0 := hmacKey k hLen key
  k.hash (k0.map (· ^^^ 0x5c) ++ k.hash (k0.map (· ^^^ 0x36) ++ m) hLen) hLen

def hkdfExpand (k : HKind) (hLen : Nat) (prk info : List Byte) : Nat → Nat → List Byte → List Byte
  | 0, _, _ => []
  | n + 1, i, t =>
    let t' := hmac k hLen prk (t ++ info ++ [BitVec.ofNat 8 i])
    t' ++ hkdfExpand k hLen prk info n (i + 1) t'

/-- HKDF: extract with the salt, expand with the info (R144). -/
def hkdf (k : HKind) (hLen : Nat) (ikm salt info : List Byte) (outLen : Nat) : List Byte :=
  let prk := hmac k hLen (if salt.isEmpty then zeros hLen else salt) ikm
  (hkdfExpand k hLen prk info (ceilDiv outLen hLen) 1 []).take outLen

/-! The Eblos seal (section "Sealed blobs and wrapped keys" of spec file 05). -/

/-- seal(k, hdr, pt, s): ciphertext and tag. -/
def sealBytes (k hdr pt : List Byte) (s : String) : List Byte × List Byte :=
  let kk := kmac256 k hdr 64 s
  let ct := xorBytes pt (kmac256 (kk.take 32) [] pt.length (s ++ "-E"))
  (ct, kmac256 (kk.drop 32) (hdr ++ ct) 32 (s ++ "-T"))

/-- open(): the tag is compared before any decryption. -/
def openBytes (k hdr ct tag : List Byte) (s : String) : Option (List Byte) :=
  let kk := kmac256 k hdr 64 s
  if kmac256 (kk.drop 32) (hdr ++ ct) 32 (s ++ "-T") = tag then
    some (xorBytes ct (kmac256 (kk.take 32) [] ct.length (s ++ "-E")))
  else none

/-- The hash identifiers of algorithm services (spec file 01): construction and digest length. -/
def hashId : Nat → Option (HKind × Nat)
  | 0x01 => some (kSha224, 28)
  | 0x02 => some (kSha256, 32)
  | 0x03 => some (kSha384, 48)
  | 0x04 => some (kSha512, 64)
  | 0x05 => some (kSha512t256, 32)
  | 0x06 => some (kSha3 28, 28)
  | 0x07 => some (kSha3 32, 32)
  | 0x08 => some (kSha3 48, 48)
  | 0x09 => some (kSha3 64, 64)
  | 0x0A => some (kShake128, 32)
  | 0x0B => some (kShake256, 64)
  | _ => none

/-- Digest length of a hash identifier. -/
def hashLen (h : Nat) : Nat := match hashId h with
  | some p => p.2
  | none => 0

end Sys2Proof.Machine
end

