-- ==== Sys2Proof/Machine/Reset.lean ====
section
/-!
DEFINITION. The life-cycle code (R347, R348), the peat log (R343), and what the two kinds of reset do to the state (R291 to R297).
-/
namespace Sys2Proof.Machine
open Sys2Proof

/-! Life cycle. -/

/-- A slot is complete when all its 32 fuses are blown (R348). -/
def slotFull (v : Nat) : Bool := v == 2 ^ 32 - 1
def slotPartial (v : Nat) : Bool := v != 0 && !slotFull v

/-- The codes of the states held in the slots (R347). -/
def slotCodes : List Nat := [0x11, 0x22, 0x33, 0x44, 0x55]

/-- The highest complete slot, counted from 1; 0 when none is. -/
def topSlot (slots : List Nat) : Nat := ((List.range 5).filter (fun i => slotFull (slots.getD i 0))).foldl (fun _ i => i + 1) 0

/-- The life-cycle state code (R347, R348). -/
def LifeCycle.code (l : LifeCycle) : Nat :=
  let t := topSlot l.slots
  if (l.slots.drop t).any slotPartial then 0xEE
  else if t = 0 then 0x00
  else if t = 1 ∧ l.testOpen then 0x12
  else slotCodes.getD (t - 1) 0

namespace Lc
def BLANK : Nat := 0x00
def TEST : Nat := 0x11
def TEST_OPEN : Nat := 0x12
def FACTORY : Nat := 0x22
def DEPLOYED : Nat := 0x33
def ANALYSIS : Nat := 0x44
def SCRAP : Nat := 0x55
def LOCKED_INVALID : Nat := 0xEE
end Lc

def State.lcc (s : State) : Nat := s.lc.code

/-! The peat log. -/

/-- Peat counter n advances by one and saturates; with VIN valid the new value reaches flash (R344). -/
def State.peatCount (s : State) (n : Nat) : State :=
  let v := satAdd 32 (s.peat.counters.getD n 0) 1
  { s with peat := { s.peat with counters := s.peat.counters.set n v,
                                 flashCnt := if s.pwr.vin then s.peat.flashCnt.set n v else s.peat.flashCnt } }

/-- A log entry (R343): circular over 64 entries, an overwritten one counted. -/
def State.peatLog (s : State) (kind src resp chans : Nat) : State :=
  let s1 := s.peatCount 0
  let e := natLE 5 s.peat.secs ++ natLE 2 s.peat.subsec ++ [kind, src, resp, chans, s.lcc].map (BitVec.ofNat 8)
    ++ natLE 4 (s1.peat.counters.getD 0 0)
  let full := decide (64 ≤ s.peat.log.length)
  { s1 with peat := { s1.peat with log := (if full then s.peat.log.drop 1 else s.peat.log) ++ [e],
                                   lostCnt := if full then satAdd 16 s.peat.lostCnt 1 else s.peat.lostCnt } }

/-! Resets. -/

/-- The registers that a reset keeps, by the access of their tables (R15, R297). -/
def State.keepRegs (s : State) (keep : Survive → Bool) : State :=
  { s with regs := s.regs.filter (fun r =>
      match regSpec (r.1 / 2 ^ 28) (r.1 % 2 ^ 28) with
      | some x => keep x.survive
      | none => false) }

/-- Every cause's bit is set in RST_CAUSE, RST_LAST names the lowest, and the peat log gets its entry (R297, R307, R343). -/
def State.noteReset (s : State) (causes : List Nat) : State :=
  let s1 := causes.foldl (fun (x : State) c => x.wrB Reg.RST_CAUSE c true) s
  let c := causes.foldl Nat.min 15
  (s1.wrF Reg.RST_LAST 3 0 c).peatLog 0x02 c 0 0

/-- What both resets do to commands, queue pairs, mailboxes, contexts and the digest and operand memories (R297): commands are
dropped with no completion, allotments and dedication return to the template (R66), spill epochs advance. -/
def State.dropHost (s : State) : State :=
  let s := s.cmds.foldl (fun (x : State) c => (x.unreserve c.2.chunk).endRaw c.2) s
  { s with
    link := { s.link with vfEnable := false, numVfs := 0, relaxed := [], msix := [], pba := [], flrAfter := [], aer := [] }
    fns := []
    boot := { s.boot with template := s.boot.templateNext, subsys := s.boot.subsysNext }
    qps := []
    cmds := []
    sched := []
    turn := []
    batches := []
    pvcs := []
    units := s.units.map (fun u => (u.1, { u.2 with busy := none, inter := none, scrub := false }))
    clusters := s.clusters.map (fun c => (c.1, { c.2 with spQueue := [], sramQueue := [], owner := none, draining := none }))
    ks := { s.ks with ctxs := [], dying := [] }
    dg := { s.dg with ctxs := [], ksc := [], spillAll := s.dg.spillAll + 1 }
    opm := []
    nrg := { s.nrg with queue := s.nrg.queue.filter (fun r =>
      match r.who with | .cmd _ => false | .chunk _ => false | .spillNonce _ => false | _ => true) }
    flt := mmod s.flt 285 (fun (r : FltSrc) => { r with active := false })
    fab := { s.fab with spilled := [] } }

/-- A request goes on under another key, with what runs for it. -/
def State.rekey (s : State) (old new : Nat) (r : MbxReq) : State :=
  { s with
    mbx := mput (mdel s.mbx old) new r
    outcomes := s.outcomes.map (fun (o : Nat × Outcome) => (o.1, if o.2.owner = some old then { o.2 with owner := some new } else o.2))
    fab := { s.fab with
      restore := s.fab.restore.map (fun (x : FabRestore) => if x.chan = old then { x with chan := new } else x)
      adding := s.fab.adding.map (fun (x : AddKey) => if x.chan = old then { x with chan := new } else x) } }

/-- The requests that a reset of their function leaves: those past their commit point run to their end and deliver no response (R119,
R297). They go on under the first free key a multiple of 65,536 above their own. -/
def State.keepReqs (s : State) (fnGone : Nat → Bool) : State :=
  s.mbx.foldl (fun (x : State) r =>
    if r.1 < 65536 ∧ fnGone (r.1 / 4) then
      if r.2.commit then
        match (List.range (x.mbx.length + 1)).find? (fun i => (mget x.mbx (r.1 + 65536 * (i + 1))).isNone) with
        | some i => x.rekey r.1 (r.1 + 65536 * (i + 1)) r.2
        | none => x
      else { (x.dropWho (.mailbox r.1)) with mbx := mdel x.mbx r.1 }
    else x) s

/-- A session being opened, a ceremony, a restore and an ADD_KEY end with the request that runs them. -/
def State.orphans (s : State) : State :=
  let has := fun (c : Nat) => s.mbx.any (fun r => r.2.started && (r.2.words.getD 0 0).toNat % 65536 == c)
  let q := match s.cards.quorum with
    | some q => if q.inForce || has 0x0900 then some q else none
    | none => none
  let c := if has 0x0902 || has 0x0903 then s.cards.ceremony else none
  { s with
    cards := { s.cards with quorum := q, ceremony := c }
    fab := { s.fab with restore := if has 0x0802 then s.fab.restore else none, adding := if has 0x0801 then s.fab.adding else none } }

/-- Registers whose reset value is measured: the readings that stand (R15; log entry 10). -/
def measuredRegs : List Nat := [Reg.PWR_LOAD]

/-- Registers that show what a host-interface-only reset keeps: the key store's state, the strap and the loaded curves (R297). -/
def liveRegs : List Nat := [Reg.KST_STAT, Reg.RST_STRAP, Reg.BNE_CURVE, Reg.BNE_CURVE_ERR 0, Reg.BNE_CURVE_ERR 1]

/-- The registers of a list read as they did in an earlier state. -/
def State.readAs (s before : State) (l : List Nat) : State := l.foldl (fun (x : State) r => x.wr 0 r (before.rd 0 r)) s

/-- The staging registers read what the last write of VFM_SEL loaded (R15, R67). -/
def State.loadStaging (s : State) : State :=
  (s.link.stLoaded.filter (fun (r : Nat × Word) => Reg.VFM_ST_ALLOT ≤ r.1 && r.1 ≤ Reg.VFM_ST_SPILL_LEN)).foldl (fun (x : State) r => x.wr 0 r.1 r.2) s

/-- What every reset leaves in the measured registers, and in the staging registers: what the last write of VFM_SEL loaded, zero while
none has been written (R15, R67; log entry 126). -/
def State.afterReset (s before : State) : State :=
  (s.loadStaging.readAs before measuredRegs).wrF Reg.PWR_VIN 15 0 (before.rdF Reg.PWR_VIN 15 0)

/-- A host-interface-only reset (R291, R297). -/
def State.hioReset (s : State) (causes : List Nat) : State :=
  let s1 := (s.noteReset causes).dropHost
  let s2 := s1.keepRegs (fun k => match k with | .none => false | _ => true)
  let s3 := { s2 with
    test := { s2.test with loop := none, unit := none, pending := none }
    units := s2.units.map (fun (u : Nat × EUnit) => (u.1, { u.2 with corrupt := none, tested := false, fn := 0, opcode := 0 })) }
  (((s3.keepReqs (fun _ => true)).afterReset s).readAs s liveRegs).orphans

/-- The reset sources that do not drive RESET_N (R291): RESET_N itself. -/
def drivesReset (causes : List Nat) : Bool := causes.any (fun c => c != 1)

/-- A full reset by the given causes (R291, R292, R297). During a reset in progress no second one starts: its causes join (R292,
R307). The device drives RESET_N low for 10 ms where a cause's row says so. -/
def State.fullReset (s : State) (causes : List Nat) : State :=
  if s.boot.stage = .inReset ∨ s.boot.stage = .heldOff ∨ s.boot.stage = .off then
    let s1 := causes.foldl (fun (x : State) c => x.wrB Reg.RST_CAUSE c true) s
    (s1.wrF Reg.RST_LAST 3 0 (causes.foldl Nat.min (s.rdF Reg.RST_LAST 3 0)))
  else
    let s1 := (s.noteReset causes).dropHost
    let cnt := satAdd 16 (s1.rdF Reg.RST_LAST 31 16) 1
    let s2 := (s1.wrF Reg.RST_LAST 31 16 cnt).keepRegs (fun k => match k with | .none => false | .hio => false | _ => true)
    let drive := drivesReset causes
    let b0 := s2.boot
    let b1 := { b0 with template := defaultTemplate, templateNext := defaultTemplate, subsysNext := b0.subsys, cfgLoaded := none }
    let b2 := { b1 with stage := .inReset, hold := false, trial := false, pushed := false, fw := [], iface := 0, since := s.now, reason := causes }
    let bt := { b2 with staging := false, sillage := [], curveNew := [], running := zeros 48, dispExp := none, lowSpeed := [],
                        steps := false, fullDone := false }
    let s3 : State := { s2 with
      mbx := []
      outcomes := []
      curves := []
      kernels := (s.kernels.filter (fun k => k.persist)).map (fun (k : Kernel) => { k with current := false })
      units := s.units.map (fun (u : Nat × EUnit) => (u.1, { EUnit.off with tested := u.2.tested }))
      clusters := []
      ks := { s2.ks with objs := [], codeKeys := [], ckFlash := s.ks.ckFlash.filter (fun h => (mget s.ks.flash h).isSome), dsk := none, lost := s.ks.lost }
      dg := { s2.dg with chkSpare := [] }
      nrg := .off
      link := { s2.link with up := false, follower := false }
      boot := bt
      pwr := { s.pwr with drive := if drive then some s.now else none, swReset := none, strapped := false, flue := [], islands := [] }
      tmpTest := none
      tmpNext := []
      tmpSeries := none
      tlSeed := []
      flt := s.flt.map (fun (x : Nat × FltSrc) =>
        (x.1, { x.2 with respond := false, active := x.2.active && !(decide (x.1 = 246) || (decide (264 ≤ x.1) && decide (x.1 < 280))) }))
      lc := { s.lc with nonceDbg := none, nonceLc := none, session := none, openFlag := s.lc.openFlag && causes.contains 8,
                        testOpen := false, leftOpen := s.lc.leftOpen || s.lc.testOpen }
      cards := { s.cards with ports := [], quorum := none, ceremony := none, mc0Busy := false }
      fab := { s.fab with
        cfg := []
        ports := []
        peers := []
        states := []
        addr := none
        invites := []
        e2e := []
        adding := none
        commits := []
        restore := none
        spilled := []
        syncNext := none
        synced := false
        relays := []
        remote := [] }
      test := { loop := none, unit := none, pending := none, views := [] } }
    (s3.afterReset s).wr 0 Reg.KST_STAT (setBits (s.rd 0 Reg.KST_STAT) 6 4 0)

end Sys2Proof.Machine
end

