-- ==== Sys2Proof/Machine/Flt.lean ====
section
/-!
DEFINITION. What a fault event and a tamper alarm do wherever they arise: the collector's records (R361 to R363), the clears of the
digest engine and of the noise random generator (R242, R280), and the erase (R158, R331).
-/
namespace Sys2Proof.Machine
open Sys2Proof

/-! The fault collector. -/

def State.sticky (s : State) (src : Nat) : Bool := s.rdB (Reg.FLT_STICKY (src / 32)) (src % 32)

def FltSrc.none : FltSrc := ⟨0, 0, false, false, 0, false⟩

def State.fltSrc (s : State) (src : Nat) : FltSrc := (mget s.flt src).getD .none

/-- Classes recorded for uncleared sources (FLT_STAT.OPEN). -/
def State.openClasses (s : State) : Nat := s.flt.foldl (fun n x => if s.sticky x.1 then n ||| x.2.classes else n) 0

/-- The device holds ERR_N low (R362). -/
def State.errLow (s : State) : Bool := (s.openClasses &&& s.rdF Reg.FLT_PIN_MASK 2 0) != 0

/-- Digest commands past validation, and commands with a run on a pipeline: in progress on the digest engine (R242). -/
def Cmd.onDge (c : Cmd) : Bool :=
  (c.op / 256 == 0x0C && (c.phase == .waitSlot || c.phase == .ready || c.phase == .running || c.phase == .waitRand)) ||
    c.legs.any (fun l => l.cls == .dge && !l.runs.isEmpty && l.decided.isNone)

/-- A digest context without what it held. -/
def Dctx.wipe (x : Dctx) (st : DctxState) : Dctx :=
  { x with state := st, chainv := [], part := [], outer := [], resident := false }

/-- The clear of R242: contexts, spill epochs, keyed-state slots and pipelines; commands in progress complete with ABORTED, reason 0x01. -/
def State.dgeClear (s : State) : State :=
  let ids := (s.cmds.filter (fun c => c.2.onDge)).map (·.1)
  let s1 := { s with dg := { s.dg with
    ctxs := s.dg.ctxs.map (fun c => (c.1, if c.2.state = .opened then c.2.wipe .invalid else c.2))
    ksc := []
    spillAll := s.dg.spillAll + 1 } }
  (ids.foldl (fun (x : State) i => x.complete i (.abortedLate 1)) s1).wrB Reg.DGE_STAT 11 true

/-- The requester number of an expander (R271): clusters 0 to 11, BNE units 12 to 19, the HTE 20. -/
def expanders : List Nat := List.range 21

/-- A cluster whose expander delivers nothing. -/
def Cluster.stalled (x : Cluster) : Cluster := { x with maskStall := true }

/-- The clear of R280: pools and expander states; every expander asks at once for a class-1 reseed and its consumers stall. -/
def State.nrgClear (s : State) : State :=
  let q := s.nrg.queue.filter (fun r => match r.who with | .expander _ => false | _ => true)
  { s with
    nrg := { s.nrg with ready := [], pend := [], exps := [], queue := q ++ expanders.map (fun e => ⟨1, e, .expander e, 32, s.now⟩) }
    clusters := (List.range 12).foldl (fun m c => mput m c (Cluster.stalled ((mget m c).getD .idle))) s.clusters }

/-- Class numbers: 0 C, 1 D, 2 F. -/
def clsF : Nat := 2

/-- An event of a source (R361 to R363, R369): its sticky bit and record, the class count, the first record, the message,
and for class F the digest clear (R242) and, where F_RESET asks for it, a full reset. -/
def State.fault (s : State) (src cls : Nat) (active rail respond : Bool) : State :=
  let r := s.fltSrc src
  let old := if s.sticky src then r.classes else 0
  let r1 : FltSrc :=
    { count := satAdd 16 r.count 1, classes := old ||| 2 ^ cls, active := r.active || active, rail := r.rail || rail,
      ts := s.now, respond := r.respond || respond }
  let s1 := { s with flt := mput s.flt src r1 }
  let s2 := s1.wrB (Reg.FLT_STICKY (src / 32)) (src % 32) true
  let s3 := match cls with
    | 0 => s2.incF Reg.FLT_CNT0 15 0 1
    | 1 => s2.incF Reg.FLT_CNT0 31 16 1
    | _ => s2.incF Reg.FLT_CNT1 15 0 1
  let s4 :=
    if s3.rdB Reg.FLT_FIRST 31 then s3
    else
      let w := 2 ^ 31 + b2n rail * 2 ^ 12 + (cls + 1) * 2 ^ 10 + src
      ((s3.wr 0 Reg.FLT_FIRST (BitVec.ofNat 32 w)).wr 0 (Reg.FLT_FIRST_TS 0) (BitVec.ofNat 32 s.now)).wr 0 (Reg.FLT_FIRST_TS 1)
        (BitVec.ofNat 32 (s.now / 2 ^ 32))
  let masked := (s4.rdF Reg.FLT_PIN_MASK 2 0).testBit cls
  let s5 := if s4.rdB Reg.FLT_CTRL 6 && masked then s4.msix 0 (s4.rdF Reg.FLT_CTRL 5 0) else s4
  if cls = clsF then
    let s6 := s5.dgeClear
    if s6.rdB Reg.FLT_CTRL 7 then s6.fullReset [6] else s6
  else s5

/-- An event whose response ends with it. -/
def State.flt1 (s : State) (src cls : Nat) : State := s.fault src cls false false false

/-- The source is asserting: a response is in progress, a condition persists, or a pair of it is broken (R361). -/
def FltSrc.asserts (r : FltSrc) : Bool := r.active || r.respond || r.rail

/-- The response to a source's event has ended (R361, R369). -/
def State.fltEnd (s : State) (src : Nat) : State :=
  { s with flt := mmod s.flt src (fun r => { r with respond := false }) }

/-- A persisting condition of a source begins or ends (R361). -/
def State.fltActive (s : State) (src : Nat) (on : Bool) : State :=
  { s with flt := mmod s.flt src (fun r => { r with active := on }) }

/-! SEALED-LOST and the erase. -/

def State.sealState (s : State) : Nat := s.rdF Reg.KST_STAT 5 4

namespace Seal
def UNSEALING : Nat := 0
def NORMAL : Nat := 1
def LOST : Nat := 2
def EMPTY : Nat := 3
end Seal

/-- The key store enters SEALED-LOST (R159, R346): stamp, counter 2 and a log entry of kind 0x05. -/
def State.enterLost (s : State) : State :=
  let s1 := s.wrF Reg.KST_STAT 5 4 Seal.LOST
  let s2 := (s1.wr 0 Reg.KST_LOST (BitVec.ofNat 32 s.peat.secs)).peatCount 2
  { s2 with ks := { s2.ks with lost := s.peat.secs, inLost := true } }.peatLog 0x05 0 0 0

/-- A new SLS is asked for (R130): 32 key-grade bytes for the key store. The tag 1 marks the request. -/
def State.askSls (s : State) : State :=
  if s.nrg.queue.any (fun r => r.who == .management 1) then s else s.nrgAsk 2 21 (.management 1) 32

/-- No DSK exists in this state (R420). -/
def State.noDskState (s : State) : Bool :=
  s.lc.rootKill != 0 || s.lcc == Lc.ANALYSIS || s.lcc == Lc.SCRAP || s.lcc == Lc.LOCKED_INVALID

/-- A session with HEARTH or SCAN holds the key-derivation hardware in reset (R357). -/
def State.seized (s : State) : Bool := match s.lc.session with | some d => d.seized | none => false

/-- No DSK exists: in the states of R420, and while a session holds the key-derivation hardware in reset (R357; log entry 122). -/
def State.noDsk (s : State) : Bool := s.noDskState || s.seized

/-- The device sealing key (R128); fuses not blown read as zeros. -/
def State.deriveDsk (s : State) : State :=
  let k := s.peat.secret.map (fun (sls : List Byte) => kmac256 sls ((s.lc.drs.getD (zeros 32)) ++ [BitVec.ofNat 8 s.lcc]) 32 "seal")
  { s with ks := { s.ks with dsk := if s.noDsk then none else k } }

/-- The sealing key waits for the SLS that is being drawn (R130): what seals or opens under it waits (R137; log entry 122). -/
def State.dskPending (s : State) : Bool := s.ks.dsk.isNone && !s.noDsk

/-- ERASE on VIN (R158, R331): the shelf-life secret, the sealing key, the key cache, the code-key cache, the contexts, staged keys,
SEALED operand slots and the keyed-state cache are gone; SEALED-LOST follows. -/
def State.eraseKeys (s : State) : State :=
  let s1 := { s with
    peat := { s.peat with sls := none }
    ks := { s.ks with objs := [], dying := [], ctxs := [], codeKeys := [], ckFlash := s.ks.ckFlash.filter (fun h => (mget s.ks.flash h).isSome), dsk := none }
    dg := { s.dg with ksc := [] }
    fab := { s.fab with peers := s.fab.peers.map (fun (p : Peer) => { p with sh := Shaker.idle }) }
    nrg := { s.nrg with queue := s.nrg.queue.filter (fun r => match r.who with | .peer _ => false | _ => true) }
    opm := s.opm.map (fun (p : Nat × OpmPart) => (p.1, if p.2.sealed then { p.2 with slots := [] } else p.2)) }
  let s2 := (s1.wrB Reg.KST_STAT 7 true).wrB Reg.KST_STAT 6 false
  let s3 := if s2.sealState = Seal.LOST then s2.wr 0 Reg.KST_LOST (BitVec.ofNat 32 s.peat.secs) else s2.enterLost
  { s3 with ks := { s3.ks with lost := s.peat.secs } }.peatCount 1

end Sys2Proof.Machine
end

