-- ==== Sys2Proof/Machine/Numbers.lean ====
section
/-!
DEFINITION. The arithmetic of the big-number engine: modular powers and inverses, Miller-Rabin rounds, curves in short Weierstrass and
in Edwards form, and the standard curves and groups that R45 to R48 and R251 name, with the constants of their standards
(FIPS 186-5, RFC 5639, SEC 2, RFC 7748, RFC 8032, RFC 7919, RFC 3526; PRESUMED, log entry 5).
-/
namespace Sys2Proof.Machine
open Sys2Proof

/-! Modular arithmetic. -/

/-- b^e mod m by squaring, with as many steps as e has bits. -/
def powStep (m : Nat) : Nat → Nat → Nat → Nat → Nat
  | 0, _, _, acc => acc
  | k + 1, b, e, acc => powStep m k (b * b % m) (e / 2) (if e % 2 = 1 then acc * b % m else acc)

def powMod (b e m : Nat) : Nat := powStep m (bitLen e) (b % m) e (1 % m)

/-- Inverse modulo a prime. -/
def invP (a p : Nat) : Nat := powMod a (p - 2) p

/-- Extended Euclid on (r0, r1) with the coefficients of the second argument; fuel bounds the steps. -/
def egcdStep : Nat → Nat → Nat → Int → Int → Nat × Int
  | 0, r0, _, t0, _ => (r0, t0)
  | k + 1, r0, r1, t0, t1 => if r1 = 0 then (r0, t0) else egcdStep k r1 (r0 % r1) t1 (t0 - (r0 / r1 : Nat) * t1)

/-- The inverse of a modulo m; 0 where there is none. -/
def invMod (a m : Nat) : Nat :=
  let r := egcdStep (2 * bitLen m + 2) m (a % m) 0 1
  if r.1 = 1 then (r.2 % (m : Int)).toNat else 0

/-- v is a square modulo p. -/
def isSquare (v p : Nat) : Bool := v % p == 0 || powMod v ((p - 1) / 2) p == 1

/-- A product in the field of p with the root of w adjoined. -/
def mul2 (p w : Nat) (a b : Nat × Nat) : Nat × Nat := ((a.1 * b.1 + a.2 * b.2 % p * w) % p, (a.1 * b.2 + a.2 * b.1) % p)

def pow2Step (p w : Nat) : Nat → Nat × Nat → Nat → Nat × Nat → Nat × Nat
  | 0, _, _, acc => acc
  | k + 1, b, e, acc => pow2Step p w k (mul2 p w b b) (e / 2) (if e % 2 = 1 then mul2 p w acc b else acc)

/-- A square root of a square v modulo an odd prime p. -/
def sqrtMod (v p : Nat) : Nat :=
  let a := ((List.range 128).find? (fun a => !isSquare (a * a + p - v % p) p)).getD 0
  let w := (a * a + p - v % p) % p
  (pow2Step p w (bitLen p) (a, 1) ((p + 1) / 2) (1, 0)).1

/-- One Miller-Rabin round with base b: n − 1 = 2^s · d. -/
def mrSquares (n : Nat) : Nat → Nat → Bool
  | 0, _ => false
  | k + 1, x => x == n - 1 || mrSquares n k (x * x % n)

def twos : Nat → Nat → Nat × Nat
  | 0, n => (0, n)
  | k + 1, n => if n % 2 = 0 then let r := twos k (n / 2); (r.1 + 1, r.2) else (0, n)

def mrRound (n b : Nat) : Bool :=
  let r := twos (bitLen n) (n - 1)
  let x := powMod (2 + b % (n - 3)) r.2 n
  x == 1 || mrSquares n r.1 x

/-- 64 Miller-Rabin rounds whose bases come from a hash (R257, R258). -/
def probablePrime (seed : List Byte) (n : Nat) : Bool :=
  decide (3 < n) && n % 2 == 1 && (List.range 64).all (fun i => mrRound n (Config.mrBase seed i))

/-! Curves in short Weierstrass form. -/

/-- What the checks and sizes need of a curve in short Weierstrass form. -/
structure CurveSpec where
  p     : Nat
  a     : Nat
  b     : Nat
  gx    : Nat
  gy    : Nat
  n     : Nat
  h     : Nat
  pLen  : Nat
  nBits : Nat
  dom   : Nat       -- distinguishes loaded curves
deriving DecidableEq, Repr

/-- A point; none is the identity. -/
abbrev Pt := Option (Nat × Nat)

def CurveSpec.onCurve (c : CurveSpec) (x y : Nat) : Bool := y * y % c.p == (x * x * x + c.a * x + c.b) % c.p

def CurveSpec.add (c : CurveSpec) (P Q : Pt) : Pt :=
  match P, Q with
  | none, q => q
  | p, none => p
  | some (x1, y1), some (x2, y2) =>
    if x1 = x2 ∧ (y1 + y2) % c.p = 0 then none
    else
      let l := if x1 = x2 then (3 * x1 * x1 + c.a) * invP (2 * y1) c.p % c.p
        else (y2 + c.p - y1) * invP (x2 + c.p - x1) c.p % c.p
      let x := (l * l + 2 * c.p - x1 - x2) % c.p
      some (x, (l * (x1 + c.p - x) + c.p - y1) % c.p)

def mulStep (c : CurveSpec) : Nat → Nat → Pt → Pt → Pt
  | 0, _, _, acc => acc
  | k + 1, n, P, acc => mulStep c k (n / 2) (c.add P P) (if n % 2 = 1 then c.add acc P else acc)

def CurveSpec.mul (c : CurveSpec) (n : Nat) (P : Pt) : Pt := mulStep c (bitLen n) n P none

/-- The point G. -/
def CurveSpec.g (c : CurveSpec) : Pt := some (c.gx, c.gy)

/-- P-256. -/
def curve0 : CurveSpec where
  p := 0xffffffff00000001000000000000000000000000ffffffffffffffffffffffff
  a := 0xffffffff00000001000000000000000000000000fffffffffffffffffffffffc
  b := 0x5ac635d8aa3a93e7b3ebbd55769886bc651d06b0cc53b0f63bce3c3e27d2604b
  gx := 0x6b17d1f2e12c4247f8bce6e563a440f277037d812deb33a0f4a13945d898c296
  gy := 0x4fe342e2fe1a7f9b8ee7eb4a7c0f9e162bce33576b315ececbb6406837bf51f5
  n := 0xffffffff00000000ffffffffffffffffbce6faada7179e84f3b9cac2fc632551
  h := 1
  pLen := 32
  nBits := 256
  dom := 0

/-- P-384. -/
def curve1 : CurveSpec where
  p := 0xfffffffffffffffffffffffffffffffffffffffffffffffffffffffffffffffeffffffff0000000000000000ffffffff
  a := 0xfffffffffffffffffffffffffffffffffffffffffffffffffffffffffffffffeffffffff0000000000000000fffffffc
  b := 0xb3312fa7e23ee7e4988e056be3f82d19181d9c6efe8141120314088f5013875ac656398d8a2ed19d2a85c8edd3ec2aef
  gx := 0xaa87ca22be8b05378eb1c71ef320ad746e1d3b628ba79b9859f741e082542a385502f25dbf55296c3a545e3872760ab7
  gy := 0x3617de4a96262c6f5d9e98bf9292dc29f8f41dbd289a147ce9da3113b5f0b8c00a60b1ce1d7e819d7a431d7c90ea0e5f
  n := 0xffffffffffffffffffffffffffffffffffffffffffffffffc7634d81f4372ddf581a0db248b0a77aecec196accc52973
  h := 1
  pLen := 48
  nBits := 384
  dom := 0

/-- P-521. -/
def curve2 : CurveSpec where
  p := 0x1ffffffffffffffffffffffffffffffffffffffffffffffffffffffffffffffffffffffffffffffffffffffffffffffffffffffffffffffffffffffffffffffffff
  a := 0x1fffffffffffffffffffffffffffffffffffffffffffffffffffffffffffffffffffffffffffffffffffffffffffffffffffffffffffffffffffffffffffffffffc
  b := 0x51953eb9618e1c9a1f929a21a0b68540eea2da725b99b315f3b8b489918ef109e156193951ec7e937b1652c0bd3bb1bf073573df883d2c34f1ef451fd46b503f00
  gx := 0xc6858e06b70404e9cd9e3ecb662395b4429c648139053fb521f828af606b4d3dbaa14b5e77efe75928fe1dc127a2ffa8de3348b3c1856a429bf97e7e31c2e5bd66
  gy := 0x11839296a789a3bc0045c8a5fb42c7d1bd998f54449579b446817afbd17273e662c97ee72995ef42640c550b9013fad0761353c7086a272c24088be94769fd16650
  n := 0x1fffffffffffffffffffffffffffffffffffffffffffffffffffffffffffffffffa51868783bf2f966b7fcc0148f709a5d03bb5c9b8899c47aebb6fb71e91386409
  h := 1
  pLen := 66
  nBits := 521
  dom := 0

/-- brainpoolP256r1. -/
def curve3 : CurveSpec where
  p := 0xa9fb57dba1eea9bc3e660a909d838d726e3bf623d52620282013481d1f6e5377
  a := 0x7d5a0975fc2c3057eef67530417affe7fb8055c126dc5c6ce94a4b44f330b5d9
  b := 0x26dc5c6ce94a4b44f330b5d9bbd77cbf958416295cf7e1ce6bccdc18ff8c07b6
  gx := 0x8bd2aeb9cb7e57cb2c4b482ffc81b7afb9de27e1e3bd23c23a4453bd9ace3262
  gy := 0x547ef835c3dac4fd97f8461a14611dc9c27745132ded8e545c1d54c72f046997
  n := 0xa9fb57dba1eea9bc3e660a909d838d718c397aa3b561a6f7901e0e82974856a7
  h := 1
  pLen := 32
  nBits := 256
  dom := 0

/-- brainpoolP384r1. -/
def curve4 : CurveSpec where
  p := 0x8cb91e82a3386d280f5d6f7e50e641df152f7109ed5456b412b1da197fb71123acd3a729901d1a71874700133107ec53
  a := 0x7bc382c63d8c150c3c72080ace05afa0c2bea28e4fb22787139165efba91f90f8aa5814a503ad4eb04a8c7dd22ce2826
  b := 0x4a8c7dd22ce28268b39b55416f0447c2fb77de107dcd2a62e880ea53eeb62d57cb4390295dbc9943ab78696fa504c11
  gx := 0x1d1c64f068cf45ffa2a63a81b7c13f6b8847a3e77ef14fe3db7fcafe0cbd10e8e826e03436d646aaef87b2e247d4af1e
  gy := 0x8abe1d7520f9c2a45cb1eb8e95cfd55262b70b29feec5864e19c054ff99129280e4646217791811142820341263c5315
  n := 0x8cb91e82a3386d280f5d6f7e50e641df152f7109ed5456b31f166e6cac0425a7cf3ab6af6b7fc3103b883202e9046565
  h := 1
  pLen := 48
  nBits := 384
  dom := 0

/-- brainpoolP512r1. -/
def curve5 : CurveSpec where
  p := 0xaadd9db8dbe9c48b3fd4e6ae33c9fc07cb308db3b3c9d20ed6639cca703308717d4d9b009bc66842aecda12ae6a380e62881ff2f2d82c68528aa6056583a48f3
  a := 0x7830a3318b603b89e2327145ac234cc594cbdd8d3df91610a83441caea9863bc2ded5d5aa8253aa10a2ef1c98b9ac8b57f1117a72bf2c7b9e7c1ac4d77fc94ca
  b := 0x3df91610a83441caea9863bc2ded5d5aa8253aa10a2ef1c98b9ac8b57f1117a72bf2c7b9e7c1ac4d77fc94cadc083e67984050b75ebae5dd2809bd638016f723
  gx := 0x81aee4bdd82ed9645a21322e9c4c6a9385ed9f70b5d916c1b43b62eef4d0098eff3b1f78e2d0d48d50d1687b93b97d5f7c6d5047406a5e688b352209bcb9f822
  gy := 0x7dde385d566332ecc0eabfa9cf7822fdf209f70024a57b1aa000c55b881f8111b2dcde494a5f485e5bca4bd88a2763aed1ca2b2fa8f0540678cd1e0f3ad80892
  n := 0xaadd9db8dbe9c48b3fd4e6ae33c9fc07cb308db3b3c9d20ed6639cca70330870553e5c414ca92619418661197fac10471db1d381085ddaddb58796829ca90069
  h := 1
  pLen := 64
  nBits := 512
  dom := 0

/-- secp256k1. -/
def curve6 : CurveSpec where
  p := 0xfffffffffffffffffffffffffffffffffffffffffffffffffffffffefffffc2f
  a := 0x0
  b := 0x7
  gx := 0x79be667ef9dcbbac55a06295ce870b07029bfcdb2dce28d959f2815b16f81798
  gy := 0x483ada7726a3c4655da4fbfc0e1108a8fd17b448a68554199c47d08ffb10d4b8
  n := 0xfffffffffffffffffffffffffffffffebaaedce6af48a03bbfd25e8cd0364141
  h := 1
  pLen := 32
  nBits := 256
  dom := 0

/-- The standard curves of family 0x0A (R46). -/
def stdCurve : Nat → Option CurveSpec
  | 0 => some curve0
  | 1 => some curve1
  | 2 => some curve2
  | 3 => some curve3
  | 4 => some curve4
  | 5 => some curve5
  | 6 => some curve6
  | _ => none

/-! The FFDH groups (R45): RFC 7919 takes its primes from e, RFC 3526 from π. -/

/-- Terms 1/i! of e, scaled. -/
def eTerms : Nat → Nat → Nat → Nat
  | 0, _, _ => 0
  | k + 1, i, t => t + eTerms k (i + 1) (t / (i + 1))

/-- ⌊2^k · e⌋. -/
def eFloor (k : Nat) : Nat := eTerms (k / 4 + 64) 0 (2 ^ (k + 64)) / 2 ^ 64

/-- The series of arctan (1/x), scaled; t is the power of 1/x, n the divisor. -/
def atanTerms (x : Nat) : Nat → Nat → Nat → Int
  | 0, _, _ => 0
  | k + 1, n, t => (t / n : Nat) - atanTerms x k (n + 2) (t / (x * x))

/-- ⌊2^k · π⌋, by Machin's formula with 64 guard bits. -/
def piFloor (k : Nat) : Nat :=
  let u := 2 ^ (k + 64)
  let f := k / 4 + 32
  ((16 * atanTerms 5 f 1 (u / 5) - 4 * atanTerms 239 f 1 (u / 239)).toNat) / 2 ^ 64

/-- A prime of b bits around a constant c of 2^(b-130) and an offset. -/
def groupPrime (b c x : Nat) : Nat := 2 ^ b - 2 ^ (b - 64) - 1 + 2 ^ 64 * (c + x)

/-- The safe prime of a group; its generator is 2. -/
def ffdhP : Nat → Nat
  | 0 => groupPrime 2048 (eFloor 1918) 560316
  | 1 => groupPrime 3072 (eFloor 2942) 2625351
  | 2 => groupPrime 4096 (eFloor 3966) 5736041
  | 3 => groupPrime 6144 (eFloor 6014) 15705020
  | 4 => groupPrime 8192 (eFloor 8062) 10965728
  | 8 => groupPrime 2048 (piFloor 1918) 124476
  | 9 => groupPrime 3072 (piFloor 2942) 1690314
  | 10 => groupPrime 4096 (piFloor 3966) 240904
  | 11 => groupPrime 6144 (piFloor 6014) 929484
  | 12 => groupPrime 8192 (piFloor 8062) 4743158
  | _ => 1

/-! Edwards and Montgomery curves (RFC 7748, RFC 8032). -/

/-- A curve of family 0x0B: a·x² + y² = 1 + d·x²·y² modulo p, the base point, its order and the cofactor's logarithm; the Montgomery
form has a24 and the bytes of a coordinate. -/
structure EdSpec where
  p    : Nat
  a    : Nat
  d    : Nat
  gx   : Nat
  gy   : Nat
  l    : Nat
  c    : Nat
  len  : Nat      -- bytes of an EdDSA key
  a24  : Nat
  xlen : Nat      -- bytes of an XDH value
deriving DecidableEq, Repr

def ed25519 : EdSpec where
  p := 2 ^ 255 - 19
  a := 2 ^ 255 - 20
  d := 0x52036cee2b6ffe738cc740797779e89800700a4d4141d8ab75eb4dca135978a3
  gx := 0x216936d3cd6e53fec0a4e231fdd6dc5c692cc7609525a7b2c9562d608f25d51a
  gy := 0x6666666666666666666666666666666666666666666666666666666666666658
  l := 2 ^ 252 + 27742317777372353535851937790883648493
  c := 3
  len := 32
  a24 := 121665
  xlen := 32

def ed448 : EdSpec where
  p := 2 ^ 448 - 2 ^ 224 - 1
  a := 1
  d := 2 ^ 448 - 2 ^ 224 - 1 - 39081
  gx := 224580040295924300187604334099896036246789641632564134246125461686950415467406032909029192869357953282578032075146446173674602635247710
  gy := 298819210078481492676017930443930673437544040154080242095928241372331506189835876003536878655418784733982303233503462500531545062832660
  l := 2 ^ 446 - 13818066809895115352007386748515426880336692474882178609894547503885
  c := 2
  len := 57
  a24 := 39081
  xlen := 56

/-- The curve behind an index of family 0x0B: 0 to 2 and 8 are Curve25519, the others Curve448. -/
def edSpec (par : Nat) : EdSpec := if par ≤ 2 ∨ par = 8 then ed25519 else ed448

/-- The complete addition of two points. -/
def EdSpec.add (c : EdSpec) (P Q : Nat × Nat) : Nat × Nat :=
  let (x1, y1) := P
  let (x2, y2) := Q
  let t := c.d * (x1 * x2 % c.p) % c.p * (y1 * y2 % c.p) % c.p
  ((x1 * y2 + y1 * x2) * invP (1 + t) c.p % c.p, (y1 * y2 + (c.p - c.a) * x1 % c.p * x2) * invP (1 + c.p - t) c.p % c.p)

def edMulStep (c : EdSpec) : Nat → Nat → Nat × Nat → Nat × Nat → Nat × Nat
  | 0, _, _, acc => acc
  | k + 1, n, P, acc => edMulStep c k (n / 2) (c.add P P) (if n % 2 = 1 then c.add acc P else acc)

def EdSpec.mul (c : EdSpec) (n : Nat) (P : Nat × Nat) : Nat × Nat := edMulStep c (bitLen n) n P (0, 1)

/-- The encoding of a point: y little-endian, the lowest bit of x on top. -/
def EdSpec.enc (c : EdSpec) (P : Nat × Nat) : List Byte := natLE c.len (P.2 + 2 ^ (8 * c.len - 1) * (P.1 % 2))

/-- The square of x for a given y. -/
def EdSpec.xx (c : EdSpec) (y : Nat) : Nat := (1 + c.p - y * y % c.p) * invP ((c.a + (c.p - c.d) * (y * y % c.p)) % c.p) c.p % c.p

/-- A point from its encoding; none where it has no canonical point. -/
def EdSpec.dec (c : EdSpec) (v : List Byte) : Option (Nat × Nat) :=
  let top := 2 ^ (8 * c.len - 1)
  let y := leNat v % top
  let sign := leNat v / top
  let x2 := c.xx y
  if v.length ≠ c.len ∨ y ≥ c.p ∨ !isSquare x2 c.p ∨ (x2 = 0 ∧ sign = 1) then none
  else
    let x := sqrtMod x2 c.p
    some (if x % 2 = sign then (x, y) else ((c.p - x) % c.p, y))

/-- One step of the Montgomery ladder of RFC 7748 on (x2, z2, x3, z3) with the bit. -/
def ladderStep (c : EdSpec) (x1 : Nat) (s : Nat × Nat × Nat × Nat) (bit : Bool) : Nat × Nat × Nat × Nat :=
  let (u2, w2, u3, w3) := s
  let (x2, z2, x3, z3) := if bit then (u3, w3, u2, w2) else (u2, w2, u3, w3)
  let p := c.p
  let a := (x2 + z2) % p
  let b := (x2 + p - z2) % p
  let aa := a * a % p
  let bb := b * b % p
  let e := (aa + p - bb) % p
  let da := (x3 + p - z3) % p * a % p
  let cb := (x3 + z3) % p * b % p
  let x5 := (da + cb) * (da + cb) % p
  let z5 := x1 * ((da + p - cb) % p * ((da + p - cb) % p) % p) % p
  let x4 := aa * bb % p
  let z4 := e * ((aa + c.a24 * e) % p) % p
  if bit then (x5, z5, x4, z4) else (x4, z4, x5, z5)

/-- The function X25519 or X448 on a clamped scalar and a coordinate, as a number. -/
def EdSpec.ladder (c : EdSpec) (k u : Nat) : Nat :=
  let n := bitLen k
  let r := (List.range n).foldl (fun s i => ladderStep c u s (k.testBit (n - 1 - i))) (1, 0, u, 1)
  r.1 * invP r.2.1 c.p % c.p

end Sys2Proof.Machine
end

