-- ==== Sys2Proof/Machine/Params.lean ====
section
/-!
DEFINITION. Operations, parameter sets and sizes of the algorithm services (spec file 01, R16 to R51, R419, R421): which family has
which operation, lengths of keys, ciphertexts, secrets and signatures, and the key-grade bytes an operation draws (R31).
-/
namespace Sys2Proof.Machine
open Sys2Proof

/-! Operation codes (R16). -/
namespace Op
def ENCAPS : Nat := 0x10
def ENCAPS_CTX : Nat := 0x11
def DECAPS : Nat := 0x12
def DECAPS_CTX : Nat := 0x13
def SIGN : Nat := 0x20
def SIGN_DET : Nat := 0x21
def SIGN_PH : Nat := 0x22
def SIGN_MU : Nat := 0x23
def SIGN_DET_PH : Nat := 0x24
def VERIFY : Nat := 0x28
def VERIFY_PH : Nat := 0x29
def VERIFY_MU : Nat := 0x2A
def AGREE : Nat := 0x30
def AGREE_CTX : Nat := 0x31
def ENCRYPT_OAEP : Nat := 0x40
def DECRYPT_OAEP : Nat := 0x41
def SIGN_PKCS1 : Nat := 0x44
def SIGN_PSS : Nat := 0x45
def VERIFY_PKCS1 : Nat := 0x46
def VERIFY_PSS : Nat := 0x47
end Op

/-- The operations a family has (R16). -/
def famOps : Nat → List Nat
  | 0x01 => [0x10, 0x11, 0x12, 0x13]
  | 0x02 => [0x20, 0x21, 0x22, 0x23, 0x24, 0x28, 0x29, 0x2A]
  | 0x03 => [0x20, 0x22, 0x28, 0x29]
  | 0x04 => [0x20, 0x21, 0x22, 0x24, 0x28, 0x29]
  | 0x05 => [0x20, 0x28]
  | 0x06 => [0x21, 0x28]
  | 0x07 => [0x10, 0x11, 0x12, 0x13]
  | 0x08 => [0x10, 0x11, 0x12, 0x13]
  | 0x09 => [0x30, 0x31, 0x40, 0x41, 0x44, 0x45, 0x46, 0x47]
  | 0x0A => [0x20, 0x21, 0x22, 0x24, 0x28, 0x29, 0x30, 0x31]
  | 0x0B => [0x21, 0x24, 0x28, 0x29, 0x30, 0x31]
  | 0x10 => [0x10, 0x11, 0x12, 0x13]
  | 0x11 => [0x20, 0x21, 0x28]
  | _ => []

def isEncaps (o : Nat) : Bool := o == 0x10 || o == 0x11
def isDecaps (o : Nat) : Bool := o == 0x12 || o == 0x13
def isSign (o : Nat) : Bool := (0x20 ≤ o && o ≤ 0x24) || o == 0x44 || o == 0x45
def isVerify (o : Nat) : Bool := (0x28 ≤ o && o ≤ 0x2A) || o == 0x46 || o == 0x47
def isAgree (o : Nat) : Bool := o == 0x30 || o == 0x31
def isPh (o : Nat) : Bool := o == 0x22 || o == 0x24 || o == 0x29
def isCtxOp (o : Nat) : Bool := o == 0x11 || o == 0x13 || o == 0x31
/-- Operations that may take PUBLIC_IN_AUX (R20). -/
def takesPublic (o : Nat) : Bool := isEncaps o || isVerify o || o == 0x40

/-- The handle value PUBLIC_IN_AUX (R20). -/
def PUBLIC_IN_AUX : Nat := 0xFFFFFFFF

/-- The operation draws key-grade randomness (R17, R31). -/
def drawsKey (fam o : Nat) : Bool :=
  isEncaps o || o == 0x40 || o == 0x45 || ((o == 0x20 || o == 0x22 || o == 0x23) && fam != 0x0B && fam != 0x06)

/-! Usage bits (R132). -/
namespace Use
def SIGN : Nat := 0
def VERIFY : Nat := 1
def ENCAP : Nat := 2
def DECAP : Nat := 3
def DERIVE : Nat := 4
def WRAP : Nat := 5
def UNWRAP : Nat := 6
def AGREE : Nat := 7
def MAC : Nat := 8
end Use

/-- The usage bit an operation needs (R26). -/
def useBit (o : Nat) : Nat :=
  if isEncaps o ∨ o = 0x40 then Use.ENCAP
  else if isDecaps o ∨ o = 0x41 then Use.DECAP
  else if isSign o then Use.SIGN
  else if isVerify o then Use.VERIFY
  else Use.AGREE

/-! Curves and groups. -/

/-- Bytes of the primes of the FFDH groups (R45): ffdhe2048 to ffdhe8192, then MODP groups 14 to 18. -/
def ffdhLen : Nat → Option Nat
  | 0 => some 256 | 1 => some 384 | 2 => some 512 | 3 => some 768 | 4 => some 1024
  | 8 => some 256 | 9 => some 384 | 10 => some 512 | 11 => some 768 | 12 => some 1024
  | _ => none

/-! Sizes of the schemes: public key, private key, then ciphertext and secret, or signature. -/

/-- Key-encapsulation schemes: public key, private key, ciphertext, shared secret. -/
def kemLens : Nat → Nat → Option (Nat × Nat × Nat × Nat)
  | 1, 0 => some (800, 1632, 768, 32)
  | 1, 1 => some (1184, 2400, 1088, 32)
  | 1, 2 => some (1568, 3168, 1568, 32)
  | 7, 0 | 7, 5 => some (261120, 6492, 96, 32)
  | 7, 1 | 7, 6 => some (524160, 13608, 156, 32)
  | 7, 2 | 7, 7 => some (1044992, 13932, 208, 32)
  | 7, 3 | 7, 8 => some (1047319, 13948, 194, 32)
  | 7, 4 | 7, 9 => some (1357824, 14120, 208, 32)
  | 8, 0 => some (2249, 2289, 4481, 64)
  | 8, 1 => some (4522, 4562, 9026, 64)
  | 8, 2 => some (7245, 7285, 14469, 64)
  | _, _ => none

/-- n of an SLH-DSA parameter set. -/
def slhN (par : Nat) : Nat := if par < 4 then 16 else if par < 8 then 24 else 32

/-- Signature schemes with fixed sizes: public key, private key, signature. -/
def sigLens : Nat → Nat → Option (Nat × Nat × Nat)
  | 2, 0 => some (1312, 2560, 2420)
  | 2, 1 => some (1952, 4032, 3309)
  | 2, 2 => some (2592, 4896, 4627)
  | 3, 0 => some (897, 1281, 666)
  | 3, 1 => some (1793, 2305, 1280)
  | 4, 0 | 4, 1 => some (32, 64, 7856)
  | 4, 2 | 4, 3 => some (32, 64, 17088)
  | 4, 4 | 4, 5 => some (48, 96, 16224)
  | 4, 6 | 4, 7 => some (48, 96, 35664)
  | 4, 8 | 4, 9 => some (64, 128, 29792)
  | 4, 10 | 4, 11 => some (64, 128, 49856)
  | _, _ => none

/-- Family 0x0B: public key, private key, signature or shared secret (R47, R48). -/
def edLens : Nat → Option (Nat × Nat × Nat)
  | 0 | 1 | 2 => some (32, 32, 64)
  | 3 | 4 => some (57, 57, 114)
  | 8 => some (32, 32, 32)
  | 9 => some (56, 56, 56)
  | _ => none

/-- Legs of a hybrid KEM: post-quantum family and index, classical family and index (R49). -/
def hybKem : Nat → Option (Nat × Nat × Nat × Nat)
  | 0 => some (1, 1, 0x0B, 8)
  | 1 => some (1, 1, 0x0A, 0)
  | 2 => some (1, 2, 0x0A, 1)
  | 3 => some (1, 2, 0x0B, 9)
  | 4 => some (7, 2, 0x0B, 8)
  | _ => none

/-- Legs of a hybrid signature (R51). -/
def hybSig : Nat → Option (Nat × Nat × Nat × Nat)
  | 0 => some (2, 0, 0x0B, 0)
  | 1 => some (2, 1, 0x0A, 0)
  | 2 => some (2, 1, 0x0B, 0)
  | 3 => some (2, 2, 0x0A, 1)
  | 4 => some (2, 2, 0x0B, 3)
  | _ => none

def hybLegs (fam par : Nat) : Option (Nat × Nat × Nat × Nat) := if fam = 0x10 then hybKem par else if fam = 0x11 then hybSig par else none

/-! Stateful hash-based schemes (R40). -/

/-- n of an LMS/HSS index. -/
def lmsN (par : Nat) : Nat := if par % 2 = 0 then 32 else 24

/-- LM-OTS p. -/
def otsP (n w : Nat) : Nat :=
  if n = 32 then (if w = 1 then 265 else if w = 2 then 133 else if w = 4 then 67 else 34)
  else (if w = 1 then 200 else if w = 2 then 101 else if w = 4 then 51 else 26)

/-- The LMS type codes of an index: the first of five, heights 5 to 25 (RFC 8554, NIST SP 800-208; log entry 36). -/
def lmsType (par : Nat) : Nat := if par = 0 then 0x05 else if par = 1 then 0x0A else if par = 2 then 0x0F else 0x14

/-- The shape of a stateful key: heights and Winternitz parameters of the levels of an HSS key, or n, h and d of an XMSS key. -/
structure HbsShape where
  n      : Nat
  levels : List (Nat × Nat)   -- (height, w)
  d      : Nat                -- XMSS layers; 0 for HSS
  shake  : Bool
  oid    : Nat                -- of an XMSS key
deriving DecidableEq, Repr

/-- The shape of an HSS key of an index. -/
def lmsShape (par : Nat) (levels : List (Nat × Nat)) : HbsShape := ⟨lmsN par, levels, 0, decide (2 ≤ par), 0⟩

/-- n of an LMS type code of the table of supported parameters, whatever the index (R40). -/
def lmsCodeN (t : Nat) : Option Nat :=
  if 0x05 ≤ t ∧ t ≤ 0x09 ∨ 0x0F ≤ t ∧ t ≤ 0x13 then some 32 else if 0x0A ≤ t ∧ t ≤ 0x0E ∨ 0x14 ≤ t ∧ t ≤ 0x18 then some 24 else none

/-- Height and layers of the XMSS^MT shapes, in the order of their OIDs. -/
def xmssMt : List (Nat × Nat) := [(20, 2), (20, 4), (40, 2), (40, 4), (40, 8), (60, 3), (60, 6), (60, 12)]

/-- The shape of an XMSS or XMSS^MT OID that the table of supported parameters lists (RFC 8391, SP 800-208; log entry 36). -/
def xmssShape (par oid : Nat) : Option HbsShape :=
  if par = 0 then
    let mk := fun (lo n : Nat) (sh : Bool) => some ⟨n, [([10, 16, 20].getD (oid - lo) 10, 4)], 1, sh, oid⟩
    if 1 ≤ oid ∧ oid ≤ 3 then mk 1 32 false
    else if 0x0D ≤ oid ∧ oid ≤ 0x0F then mk 0x0D 24 false
    else if 0x10 ≤ oid ∧ oid ≤ 0x12 then mk 0x10 32 true
    else if 0x13 ≤ oid ∧ oid ≤ 0x15 then mk 0x13 24 true
    else none
  else
    let mk := fun (lo n : Nat) (sh : Bool) => let hd := xmssMt.getD (oid - lo) (20, 2); some ⟨n, [(hd.1, 4)], hd.2, sh, oid⟩
    if 1 ≤ oid ∧ oid ≤ 8 then mk 1 32 false
    else if 0x21 ≤ oid ∧ oid ≤ 0x28 then mk 0x21 24 false
    else if 0x29 ≤ oid ∧ oid ≤ 0x30 then mk 0x29 32 true
    else if 0x31 ≤ oid ∧ oid ≤ 0x38 then mk 0x31 24 true
    else none

/-- n of an OID of the table of supported parameters, of XMSS or XMSS^MT (R40). -/
def xmssOidN (par oid : Nat) : Option Nat := (xmssShape par oid).map (·.n)

def HbsShape.height (x : HbsShape) : Nat := x.levels.foldl (fun a l => a + l.1) 0

/-- The height of each level, the top one first. -/
def HbsShape.heights (x : HbsShape) : List Nat := if x.d = 0 then x.levels.map (·.1) else List.replicate x.d (x.height / x.d)

/-- Leaves of the key: the combined counter of R155. -/
def HbsShape.leaves (x : HbsShape) : Nat := 2 ^ x.height

def lmsSigLen (n : Nat) (l : Nat × Nat) : Nat := 12 + n * (otsP n l.2 + 1) + l.1 * n

/-- Signature length (table of stateful hash-based sizes, R40). -/
def HbsShape.sigLen (x : HbsShape) : Nat :=
  if x.d = 0 then
    4 + x.levels.foldl (fun a l => a + lmsSigLen x.n l) 0 + (x.levels.length - 1) * (24 + x.n)
  else
    let len := if x.n = 32 then 67 else 51
    if x.d = 1 then 4 + x.n + (len + x.height) * x.n else ceilDiv x.height 8 + x.n + (x.height + x.d * len) * x.n

def HbsShape.pkLen (x : HbsShape) : Nat := if x.d = 0 then 28 + x.n else 4 + 2 * x.n

/-- The supported shape that a key's own attributes pick (R40), from free numbers: the attribute record has no field for it
(log entry 35). -/
def hbsShape (fam par : Nat) (pick : Nat → Nat) : HbsShape :=
  if fam = 5 then
    lmsShape par ((List.range (1 + pick 0 % 8)).map (fun i => ([5, 10, 15, 20, 25].getD (pick (2 * i + 1) % 5) 5, [1, 2, 4, 8].getD (pick (2 * i + 2) % 4) 1)))
  else
    let lo := if par = 0 then [1, 0x0D, 0x10, 0x13] else [1, 0x21, 0x29, 0x31]
    (xmssShape par (lo.getD (pick 0 % 4) 1 + pick 1 % (if par = 0 then 3 else 8))).getD (lmsShape 0 [])

/-- The shape is one that the table of supported parameters lists (R40): up to eight levels of the listed heights and Winternitz parameters,
or an OID. -/
def HbsShape.supported (x : HbsShape) (fam par : Nat) : Bool :=
  if fam = 5 then
    decide (1 ≤ x.levels.length) && decide (x.levels.length ≤ 8) &&
      x.levels.all (fun l => [5, 10, 15, 20, 25].contains l.1 && [1, 2, 4, 8].contains l.2)
  else (xmssShape par x.oid).isSome

/-! Parameter indices (R19). -/

/-- RSA sizes: k from 4 to 32, below 8 for verification only. -/
def rsaOk (o k : Nat) : Bool := 4 ≤ k && k ≤ 32 && (8 ≤ k || o == 0x46 || o == 0x47)

/-- The index is defined for the family and operation; a loaded curve must be installed. -/
def parOk (fam o par : Nat) (curve : Nat → Option CurveSpec) : Bool :=
  match fam with
  | 0x01 | 0x07 | 0x08 => (kemLens fam par).isSome
  | 0x02 | 0x03 | 0x04 => (sigLens fam par).isSome
  | 0x05 => par < 4
  | 0x06 => par < 2
  | 0x09 => if isAgree o then (ffdhLen par).isSome else rsaOk o par
  | 0x0A => (curve par).isSome
  | 0x0B =>
    if isAgree o then par == 8 || par == 9
    else if isPh o then par == 2 || par == 4
    else par == 0 || par == 1 || par == 3
  | 0x10 | 0x11 => (hybLegs fam par).isSome
  | _ => false

/-- Byte 48 is allowed (R22, R47, R49). -/
def byte48Ok (fam o par v : Nat) : Bool :=
  match fam with
  | 0x02 | 0x03 | 0x04 => if o == 0x23 || o == 0x2A then v == 0 else true
  | 0x0B => if isAgree o then v == 0 else if par == 0 then v == 0 else if par == 1 then 1 ≤ v else true
  | 0x10 => v == 0 || v == 1
  | 0x11 => true
  | _ => v == 0

/-- Byte 49 is allowed (R421). -/
def byte49Ok (fam o v : Nat) : Bool :=
  match fam with
  | 0x02 | 0x03 | 0x04 => if isPh o then 1 ≤ v && v ≤ 0x0B else v == 0
  | 0x09 => if isAgree o then v == 0 else 1 ≤ v && v ≤ 9
  | 0x0A => if isAgree o then v == 0 else 1 ≤ v && v ≤ 9
  | _ => v == 0

/-! Key-grade bytes of an operation (R31). -/

/-- Scalar draw of a curve: the bits of n and 64 more. -/
def scalarDraw (nBits : Nat) : Nat := ceilDiv (nBits + 64) 8

/-- The draw of an ephemeral classical scalar (R31). -/
def ephDraw (fam par : Nat) : Nat :=
  if fam = 0x0B then (if par = 8 then 32 else 56)
  else match stdCurve par with
    | some c => scalarDraw c.nBits
    | none => 0

/-- Key-grade bytes of an operation of a simple family, drawn before the first run. -/
def opDraw (fam o par hash nBits : Nat) : Nat :=
  if drawsKey fam o then
    match fam with
    | 0x01 => 32
    | 0x02 => 32
    | 0x03 => 72
    | 0x04 => slhN par
    | 0x05 => lmsN par
    | 0x07 => 32
    | 0x08 => if par = 0 then 32 else if par = 1 then 40 else 48
    | 0x09 => hashLen hash
    | 0x0A => scalarDraw nBits
    | _ => 0
  else 0

/-- Key-grade bytes of an operation, hybrids included. -/
def cmdDraw (fam o par hash nBits : Nat) : Nat :=
  match hybLegs fam par with
  | some (pf, pp, tf, tp) =>
    if fam = 0x10 then (if isEncaps o then opDraw pf o pp 0 0 + ephDraw tf tp else 0)
    else if o = 0x20 then 32 + (if tf = 0x0A then ephDraw tf tp else 0)
    else 0
  | none => opDraw fam o par hash nBits

end Sys2Proof.Machine
end

