-- ==== Sys2Proof/Machine/Classic.lean ====
section
/-!
DEFINITION. The classical schemes of the big-number engine (R43 to R48, R251, R253, R257, R419): RSA in PKCS #1 v1.5, PSS and OAEP,
FFDH, ECDSA and ECDH, EdDSA and XDH, with key generation from an entropy stream, the checks on entry, and the self-check of a run.
What R43 to R48 take from PKCS #1, FIPS 186-5, RFC 6979, RFC 8032 and RFC 7748 is PRESUMED from those standards (log entry 4).
-/
namespace Sys2Proof.Machine
open Sys2Proof

/-- The digest of a message under a hash identifier. -/
def hashOf (h : Nat) (m : List Byte) : List Byte := match hashId h with
  | some (k, n) => k.hash m n
  | none => []

/-- Block i of n bytes of an entropy stream; none where the stream does not hold it. -/
def streamBlock (rand : List Byte) (n i : Nat) : Option (List Byte) := if n * (i + 1) ≤ rand.length then some (slice rand (n * i) n) else none

/-- The first of the attempts i, i + 1, … that answers, each on its own block of the stream: none where the stream ends first (R31). -/
def firstTry {α : Type} (rand : List Byte) (n : Nat) (f : List Byte → Option α) : Nat → Nat → Option (α × Nat)
  | 0, _ => none
  | k + 1, i =>
    match streamBlock rand n i with
    | none => none
    | some b => match f b with
      | some x => some (x, i + 1)
      | none => firstTry rand n f k (i + 1)

/-- A private scalar from a draw: its lowest bits, as many as the bound has; none where they give a value below lo or at or above the
bound (R251; log entry 111). -/
def scalarOf (lo bound : Nat) (b : List Byte) : Option Nat :=
  let v := beNat b % 2 ^ bitLen bound
  if lo ≤ v ∧ v < bound then some v else none

/-! RSA (R43, R44, R251, R257, R419). -/

/-- The fields of a private key of index k, in the order of R419. -/
structure RsaKey where
  n    : Nat
  e    : Nat
  d    : Nat
  p    : Nat
  q    : Nat
  dp   : Nat
  dq   : Nat
  qinv : Nat
deriving DecidableEq, Repr

def RsaKey.enc (x : RsaKey) (k : Nat) : List Byte :=
  natBE (32 * k) x.n ++ natBE 4 x.e ++ natBE (32 * k) x.d ++ natBE (16 * k) x.p ++ natBE (16 * k) x.q ++ natBE (16 * k) x.dp ++
    natBE (16 * k) x.dq ++ natBE (16 * k) x.qinv

def RsaKey.dec (k : Nat) (v : List Byte) : RsaKey where
  n := beAt v 0 (32 * k)
  e := beAt v (32 * k) 4
  d := beAt v (32 * k + 4) (32 * k)
  p := beAt v (64 * k + 4) (16 * k)
  q := beAt v (80 * k + 4) (16 * k)
  dp := beAt v (96 * k + 4) (16 * k)
  dq := beAt v (112 * k + 4) (16 * k)
  qinv := beAt v (128 * k + 4) (16 * k)

/-- A candidate passes the tests of R257, its bases from SHA3-256 of the candidate. -/
def rsaPrimeOk (k v : Nat) : Bool := probablePrime (sha3_256 (natBE (16 * k) v)) v

/-- The checks of R257 on a private key. -/
def RsaKey.ok (x : RsaKey) (k : Nat) : Bool :=
  let m := (x.p - 1) * (x.q - 1) / Nat.gcd (x.p - 1) (x.q - 1)
  rsaPrimeOk k x.p && rsaPrimeOk k x.q && x.n == x.p * x.q && bitLen x.n == 256 * k && x.e % 2 == 1 && decide (3 ≤ x.e) &&
  decide (x.e < 2 ^ 32) && x.e * x.d % m == 1 % m && x.dp == x.d % (x.p - 1) && x.dq == x.d % (x.q - 1) && x.qinv == invMod x.q x.p

/-- The private operation in CRT form. -/
def RsaKey.priv (x : RsaKey) (c : Nat) : Nat :=
  let m1 := powMod c x.dp x.p
  let m2 := powMod c x.dq x.q
  m2 + x.q * (x.qinv * (m1 + x.p - m2 % x.p) % x.p)

/-- The first value from v on, in steps of two, that passes; none at or above the limit (R251). The first argument bounds the steps. -/
def primeFrom (k lim : Nat) : Nat → Nat → Option Nat
  | 0, _ => none
  | f + 1, v => if v ≥ lim then none else if Nat.gcd (v - 1) 65537 = 1 ∧ rsaPrimeOk k v then some v else primeFrom k lim f (v + 2)

/-- The prime of a start point: its top two bits and its lowest bit are set. -/
def rsaPrime (k : Nat) (b : List Byte) : Option Nat :=
  let lim := 2 ^ (128 * k)
  primeFrom k lim lim ((beNat b % 2 ^ (128 * k - 2)) / 2 * 2 + 1 + 3 * 2 ^ (128 * k - 2))

/-- The prime of the first start point that has one and that far enough lies from a given number, and the start points left. -/
def rsaFind (k far : Nat) : List (List Byte) → Option (Nat × List (List Byte))
  | [] => none
  | b :: t => match rsaPrime k b with
    | some p => if max p far - min p far > 2 ^ (128 * k - 100) then some (p, t) else rsaFind k far t
    | none => rsaFind k far t

/-- The whole blocks of a stream. -/
def streamBlocks (n : Nat) (rand : List Byte) : List (List Byte) := (List.range (rand.length / n)).map (fun i => slice rand (n * i) n)

/-- Key generation (R251): the first two blocks are the start points of p and q, later blocks the new ones. -/
def rsaGen (k : Nat) (rand : List Byte) : Option (List Byte) :=
  match streamBlocks (16 * k) rand with
  | b0 :: b1 :: t =>
    match rsaFind k 0 (b0 :: t) with
    | none => none
    | some (p, t1) =>
      match rsaFind k p (b1 :: t1) with
      | none => none
      | some (q, _) =>
        let d := invMod 65537 ((p - 1) * (q - 1) / Nat.gcd (p - 1) (q - 1))
        some (RsaKey.enc ⟨p * q, 65537, d, p, q, d % (p - 1), d % (q - 1), invMod q p⟩ k)
  | _ => none

/-- MGF1 with the hash of byte 49. -/
def mgf1 (h : Nat) (seed : List Byte) (len : Nat) : List Byte :=
  ((List.range (ceilDiv len (hashLen h))).flatMap (fun i => hashOf h (seed ++ natBE 4 i))).take len

/-- The last arc of a hash's object identifier under 2.16.840.1.101.3.4.2. -/
def hashArc : Nat → Nat
  | 0x01 => 4 | 0x02 => 1 | 0x03 => 2 | 0x04 => 3 | 0x05 => 6 | 0x06 => 7 | 0x07 => 8 | 0x08 => 9 | 0x09 => 10 | 0x0A => 11 | _ => 12

/-- The object identifier of a hash, in DER. -/
def hashOid (h : Nat) : List Byte := [0x06, 0x09, 0x60, 0x86, 0x48, 0x01, 0x65, 0x03, 0x04, 0x02, BitVec.ofNat 8 (hashArc h)]

/-- EMSA-PKCS1-v1_5 in n bytes; none where it does not fit. -/
def emsaPkcs1 (n h : Nat) (m : List Byte) : Option (List Byte) :=
  let hl := hashLen h
  let t : List Byte := [0x30, BitVec.ofNat 8 (17 + hl), 0x30, 0x0d] ++ hashOid h ++ [0x05, 0x00, 0x04, BitVec.ofNat 8 hl] ++ hashOf h m
  if n < t.length + 11 then none else some ([0x00, 0x01] ++ List.replicate (n - t.length - 3) 0xff ++ [0x00] ++ t)

/-- EMSA-PSS in n bytes of a modulus of 8n bits, with a salt as long as the hash; none where it does not fit. -/
def emsaPss (n h : Nat) (m salt : List Byte) : Option (List Byte) :=
  let hl := hashLen h
  if n < 2 * hl + 2 then none
  else
    let hh := hashOf h (zeros 8 ++ hashOf h m ++ salt)
    let db := zeros (n - 2 * hl - 2) ++ [0x01] ++ salt
    let masked := (xorBytes db (mgf1 h hh db.length)).modify 0 (· &&& 0x7f)
    some (masked ++ hh ++ [0xbc])

/-- EMSA-PSS verification: the salt is as long as the hash. -/
def pssOk (n h : Nat) (m em : List Byte) : Bool :=
  let hl := hashLen h
  let masked := em.take (n - hl - 1)
  let hh := slice em (n - hl - 1) hl
  let db := (xorBytes masked (mgf1 h hh masked.length)).modify 0 (· &&& 0x7f)
  decide (2 * hl + 2 ≤ n) && leAt em (n - 1) 1 == 0xbc && leAt em 0 1 / 128 == 0 && db.take (n - 2 * hl - 2) == zeros (n - 2 * hl - 2) &&
  leAt db (n - 2 * hl - 2) 1 == 1 && hh == hashOf h (zeros 8 ++ hashOf h m ++ db.drop (n - 2 * hl - 1))

/-- The encoded message of an RSA signature operation. -/
def rsaEm (o n h : Nat) (m salt : List Byte) : Option (List Byte) := if o = Op.SIGN_PSS then emsaPss n h m salt else emsaPkcs1 n h m

/-- SIGN_PKCS1 and SIGN_PSS. -/
def rsaSign (o k h : Nat) (priv m salt : List Byte) : List Byte :=
  match rsaEm o (32 * k) h m salt with
  | some em => natBE (32 * k) ((RsaKey.dec k priv).priv (beNat em))
  | none => zeros (32 * k)

/-- VERIFY_PKCS1 and VERIFY_PSS: a representative at or above n gives verdict 0 (R28). -/
def rsaVerify (o k h : Nat) (pub m sig : List Byte) : Bool :=
  let n := beAt pub 0 (32 * k)
  let s := beNat sig
  let em := natBE (32 * k) (powMod s (beAt pub (32 * k) 4) n)
  decide (s < n) && (if o == Op.VERIFY_PSS then pssOk (32 * k) h m em else emsaPkcs1 (32 * k) h m == some em)

/-- OAEP encryption: label, seed. -/
def oaepEnc (k h : Nat) (pub m label seed : List Byte) : List Byte :=
  let n := 32 * k
  let hl := hashLen h
  let db := hashOf h label ++ zeros (n - m.length - 2 * hl - 2) ++ [0x01] ++ m
  let mdb := xorBytes db (mgf1 h seed (n - hl - 1))
  let ms := xorBytes seed (mgf1 h mdb hl)
  natBE n (powMod (beNat (0x00 :: ms ++ mdb)) (beAt pub n 4) (beAt pub 0 n))

/-- OAEP decryption; none where decoding fails (R44). -/
def oaepDec (k h : Nat) (priv c label : List Byte) : Option (List Byte) :=
  let n := 32 * k
  let hl := hashLen h
  let em := natBE n ((RsaKey.dec k priv).priv (beNat c))
  let mdb := em.drop (hl + 1)
  let seed := xorBytes (slice em 1 hl) (mgf1 h mdb hl)
  let db := xorBytes mdb (mgf1 h seed (n - hl - 1))
  let rest := (db.drop hl).dropWhile (· == 0)
  if leAt em 0 1 = 0 ∧ db.take hl = hashOf h label ∧ rest.head? = some 1 then some (rest.drop 1) else none

/-! FFDH (R45): generator 2, q = (p − 1) / 2. -/

def ffdhPub (par : Nat) (priv : List Byte) : List Byte :=
  let p := ffdhP par
  natBE ((ffdhLen par).getD 0) (powMod 2 (beNat priv) p)

def ffdhAgree (par : Nat) (priv peer : List Byte) : List Byte :=
  let p := ffdhP par
  natBE ((ffdhLen par).getD 0) (powMod (beNat peer) (beNat priv) p)

/-! Curves in short Weierstrass form (R46). -/

/-- A point in SEC 1 form; none where it is not on the curve. -/
def CurveSpec.dec (c : CurveSpec) (v : List Byte) : Pt :=
  let x := beAt v 1 c.pLen
  if v.length = 1 + 2 * c.pLen then some (x, beAt v (1 + c.pLen) c.pLen)
  else if v.length = 1 + c.pLen then
    let y := sqrtMod ((x * x * x + c.a * x + c.b) % c.p) c.p
    some (x, if y % 2 = leAt v 0 1 % 2 then y else (c.p - y) % c.p)
  else none

/-- The uncompressed form. -/
def CurveSpec.enc (c : CurveSpec) (P : Pt) : List Byte :=
  match P with
  | some (x, y) => 0x04 :: (natBE c.pLen x ++ natBE c.pLen y)
  | none => [0x00]

def ecPubOf (c : CurveSpec) (priv : List Byte) : List Byte := c.enc (c.mul (beNat priv) c.g)

/-- The X coordinate of the shared point, at the field length. -/
def ecdh (c : CurveSpec) (priv peer : List Byte) : List Byte :=
  match c.mul (beNat priv) (c.dec peer) with
  | some (x, _) => natBE c.pLen x
  | none => zeros c.pLen

/-- The leftmost bits of a digest, as many as n has. -/
def CurveSpec.trunc (c : CurveSpec) (d : List Byte) : Nat := beNat d / 2 ^ (8 * d.length - c.nBits)

/-- r ‖ s for a per-message scalar; none where r or s is 0. -/
def ecdsaWith (c : CurveSpec) (d z k : Nat) : Option (List Byte) :=
  match c.mul k c.g with
  | none => none
  | some (x, _) =>
    let r := x % c.n
    let s := invP k c.n * (z + r * d) % c.n
    let w := ceilDiv c.nBits 8
    if k % c.n = 0 ∨ r = 0 ∨ s = 0 then none else some (natBE w r ++ natBE w s)

/-- RFC 6979: the bytes T of a candidate, and V after them. -/
def drbgBytes (hk : HKind) (hl : Nat) (key : List Byte) : Nat → List Byte → List Byte → List Byte × List Byte
  | 0, v, t => (v, t)
  | f + 1, v, t => let v1 := hmac hk hl key v; drbgBytes hk hl key f v1 (t ++ v1)

/-- RFC 6979: the first candidate that gives a signature; the first argument bounds the candidates. -/
def drbgSign (c : CurveSpec) (hk : HKind) (hl d z : Nat) : Nat → List Byte → List Byte → List Byte
  | 0, _, _ => []
  | f + 1, key, v =>
    let w := ceilDiv c.nBits 8
    let r := drbgBytes hk hl key (ceilDiv w hl) v []
    let k := c.trunc (r.2.take w)
    match if 1 ≤ k ∧ k < c.n then ecdsaWith c d z k else none with
    | some s => s
    | none =>
      let key1 := hmac hk hl key (r.1 ++ [0x00])
      drbgSign c hk hl d z f key1 (hmac hk hl key1 r.1)

/-- Deterministic ECDSA over a digest (RFC 6979 with the hash of byte 49). -/
def ecdsaDet (c : CurveSpec) (h : Nat) (priv digest : List Byte) : List Byte :=
  match hashId h with
  | none => []
  | some (hk, hl) =>
    let w := ceilDiv c.nBits 8
    let d := beNat priv
    let z := c.trunc digest
    let x := natBE w d ++ natBE w (z % c.n)
    let v0 := List.replicate hl (0x01 : Byte)
    let k1 := hmac hk hl (zeros hl) (v0 ++ [0x00] ++ x)
    let v1 := hmac hk hl k1 v0
    let k2 := hmac hk hl k1 (v1 ++ [0x01] ++ x)
    drbgSign c hk hl d z (2 ^ 32) k2 (hmac hk hl k2 v1)

/-- Randomised ECDSA over a digest: k is the draw reduced modulo n; the rare k that gives no signature takes the next draw. -/
def ecdsaRand (c : CurveSpec) (priv digest rand : List Byte) : Option (List Byte) :=
  (firstTry rand (scalarDraw c.nBits) (fun b => ecdsaWith c (beNat priv) (c.trunc digest) (beNat b % c.n)) (rand.length + 1) 0).map (·.1)

/-- ECDSA verification over a digest: r or s of 0, or at or above n, gives verdict 0 (R28). -/
def ecdsaVerify (c : CurveSpec) (pub digest sig : List Byte) : Bool :=
  let w := ceilDiv c.nBits 8
  let r := beAt sig 0 w
  let s := beAt sig w w
  let i := invP s c.n
  decide (1 ≤ r) && decide (r < c.n) && decide (1 ≤ s) && decide (s < c.n) &&
    (match c.add (c.mul (c.trunc digest * i % c.n) c.g) (c.mul (r * i % c.n) (c.dec pub)) with
     | some (x, _) => x % c.n == r
     | none => false)

/-! EdDSA (R47). -/

/-- The hash of the scheme: SHA-512, or 114 bytes of SHAKE256. -/
def edHash (par : Nat) (m : List Byte) : List Byte := if par ≤ 2 then kSha512.hash m 64 else kShake256.hash m 114

/-- dom2 and dom4: none for Ed25519. -/
def edDom (par : Nat) (ctx : List Byte) : List Byte :=
  let ph : Byte := if par = 2 ∨ par = 4 then 1 else 0
  if par = 0 then []
  else if par ≤ 2 then ascii "SigEd25519 no Ed25519 collisions" ++ [ph, BitVec.ofNat 8 ctx.length] ++ ctx
  else ascii "SigEd448" ++ [ph, BitVec.ofNat 8 ctx.length] ++ ctx

/-- The clamped scalar of the first half of the key's hash. -/
def edScalar (par : Nat) (h : List Byte) : Nat :=
  if par ≤ 2 then leAt h 0 32 % 2 ^ 254 / 8 * 8 + 2 ^ 254 else leAt h 0 56 % 2 ^ 447 / 4 * 4 + 2 ^ 447

def edPub (par : Nat) (seed : List Byte) : List Byte :=
  let c := edSpec par
  c.enc (c.mul (edScalar par (edHash par seed)) (c.gx, c.gy))

/-- Deterministic signature over a message, or over the prehash of a ph index. -/
def edSign (par : Nat) (seed m ctx : List Byte) : List Byte :=
  let c := edSpec par
  let h := edHash par seed
  let s := edScalar par h
  let a := c.enc (c.mul s (c.gx, c.gy))
  let r := leNat (edHash par (edDom par ctx ++ h.drop c.len ++ m)) % c.l
  let rr := c.enc (c.mul r (c.gx, c.gy))
  let k := leNat (edHash par (edDom par ctx ++ rr ++ a ++ m)) % c.l
  rr ++ natLE c.len ((r + k * s) % c.l)

/-- The cofactored equation. -/
def edVerify (par : Nat) (pub m sig ctx : List Byte) : Bool :=
  let c := edSpec par
  let s := leNat (sig.drop c.len)
  match c.dec (sig.take c.len), c.dec pub with
  | some r, some a =>
    let k := leNat (edHash par (edDom par ctx ++ sig.take c.len ++ pub ++ m)) % c.l
    let f := 2 ^ c.c
    decide (s < c.l) && c.mul f (c.mul s (c.gx, c.gy)) == c.add (c.mul f r) (c.mul f (c.mul k a))
  | _, _ => false

/-! XDH (R48). -/

/-- The clamped scalar of RFC 7748. -/
def xdhScalar (par : Nat) (priv : List Byte) : Nat :=
  if par = 8 then leNat priv % 2 ^ 254 / 8 * 8 + 2 ^ 254 else leNat priv % 2 ^ 447 / 4 * 4 + 2 ^ 447

def xdh (par : Nat) (priv peer : List Byte) : List Byte :=
  let c := edSpec par
  natLE c.xlen (c.ladder (xdhScalar par priv) ((if par = 8 then leNat peer % 2 ^ 255 else leNat peer) % c.p))

def xdhPub (par : Nat) (priv : List Byte) : List Byte := xdh par priv (natLE (edSpec par).xlen (if par = 8 then 9 else 5))

end Sys2Proof.Machine
end

