-- ==== Sys2Proof/Machine/Lattice.lean ====
section
/-!
DEFINITION. ML-KEM and ML-DSA (R29, R37 to R39), which the spec takes from FIPS 203 and FIPS 204 (PRESUMED from those standards,
log entry 4). Polynomials are lists of 256 numbers below the modulus.
-/
namespace Sys2Proof.Machine
open Sys2Proof

/-! Packed integers and samplers. -/

/-- n integers of d bits, little-endian. -/
def fieldUnpack (d n : Nat) (b : List Byte) : List Nat := let v := leNat b; (List.range n).map (fun i => (v >>> (d * i)) % 2 ^ d)

/-- Integers of d bits packed. -/
def fieldPack (d : Nat) (l : List Nat) : List Byte := natLE (ceilDiv (d * l.length) 8) (l.foldr (fun x a => x % 2 ^ d + 2 ^ d * a) 0)

/-- The first answer of a sampler on ever more bytes of an extendable output; the first argument bounds the doublings. -/
def sampleGrow {α : Type} (k : HKind) (m : List Byte) (f : List Byte → Option α) : Nat → Nat → Option α
  | 0, _ => none
  | u + 1, n => match f (k.hash m n) with
    | some x => some x
    | none => sampleGrow k m f u (2 * n)

/-- The first n values that a chunk of w bytes at a time yields; none where the bytes end first. -/
def sampleWords (w n : Nat) (f : List Byte → List Nat) (b : List Byte) : Option (List Nat) :=
  let l := (streamBlocks w b).flatMap f
  if l.length < n then none else some (l.take n)

/-- The bits of i, as many as b, reversed. -/
def bitRev (b i : Nat) : Nat := (List.range b).foldl (fun a j => 2 * a + (i >>> j) % 2) 0

/-! Number-theoretic transforms with the root of a modulus. -/

/-- One layer: blocks of 2·len, the twiddle of block b from `z`. -/
def nttLayer (q : Nat) (z : Nat → Nat) (f : List Nat) (len : Nat) : List Nat :=
  (List.range 256).map (fun j =>
    let b := j / (2 * len)
    let w := z (128 / len + b)
    if j % (2 * len) < len then (f.getD j 0 + w * f.getD (j + len) 0) % q else (f.getD (j - len) 0 + (q - w) * f.getD j 0) % q)

def invLayer (q : Nat) (z : Nat → Nat) (f : List Nat) (len : Nat) : List Nat :=
  (List.range 256).map (fun j =>
    let b := j / (2 * len)
    let w := z (2 * (128 / len) - 1 - b)
    if j % (2 * len) < len then (f.getD j 0 + f.getD (j + len) 0) % q else w * (f.getD j 0 + q - f.getD (j - len) 0) % q)

def addP (q : Nat) (a b : List Nat) : List Nat := List.zipWith (fun x y => (x + y) % q) a b
def subP (q : Nat) (a b : List Nat) : List Nat := List.zipWith (fun x y => (x + q - y) % q) a b

/-- A sum of products, one polynomial product after the other. -/
def dotP (q : Nat) (mul : List Nat → List Nat → List Nat) (a b : List (List Nat)) : List Nat :=
  (List.zip a b).foldl (fun s x => addP q s (mul x.1 x.2)) (List.replicate 256 0)

/-! ML-KEM (FIPS 203). -/

def kyQ : Nat := 3329

/-- k, η1, du and dv of a parameter set; η2 is 2. -/
def kyPar (par : Nat) : Nat × Nat × Nat × Nat := if par = 0 then (2, 3, 10, 4) else if par = 1 then (3, 2, 10, 4) else (4, 2, 11, 5)

def kyZeta (i : Nat) : Nat := powMod 17 (bitRev 7 i) kyQ
def kyNtt (f : List Nat) : List Nat := [128, 64, 32, 16, 8, 4, 2].foldl (nttLayer kyQ kyZeta) f
def kyInv (f : List Nat) : List Nat := ([2, 4, 8, 16, 32, 64, 128].foldl (invLayer kyQ kyZeta) f).map (fun x => x * 3303 % kyQ)

def kyMul (a b : List Nat) : List Nat :=
  (List.range 128).flatMap (fun i =>
    let g := powMod 17 (2 * bitRev 7 i + 1) kyQ
    let x := fun (l : List Nat) j => l.getD (2 * i + j) 0
    [(x a 0 * x b 0 + x a 1 * x b 1 % kyQ * g) % kyQ, (x a 0 * x b 1 + x a 1 * x b 0) % kyQ])

/-- SampleNTT. -/
def kySample (m : List Byte) : List Nat :=
  (sampleGrow kShake128 m (sampleWords 3 256 (fun c =>
    let v := leNat c
    [v % 4096, v / 4096].filter (· < kyQ))) 16 672).getD []

/-- SamplePolyCBD of PRF output. -/
def kyCbd (eta : Nat) (s : List Byte) (n : Nat) : List Nat :=
  let bits := fieldUnpack 1 (512 * eta) (kShake256.hash (s ++ [BitVec.ofNat 8 n]) (64 * eta))
  let sum := fun (l : List Nat) => l.foldl (· + ·) 0
  (List.range 256).map (fun i => (sum ((bits.drop (2 * i * eta)).take eta) + kyQ - sum ((bits.drop ((2 * i + 1) * eta)).take eta)) % kyQ)

def kyCompress (d x : Nat) : Nat := (2 * x * 2 ^ d + kyQ) / (2 * kyQ) % 2 ^ d
def kyDecompress (d y : Nat) : Nat := (2 * y * kyQ + 2 ^ d) / 2 ^ (d + 1)

/-- Entry (i, j) of the matrix. -/
def kyA (rho : List Byte) (i j : Nat) : List Nat := kySample (rho ++ [BitVec.ofNat 8 j, BitVec.ofNat 8 i])

/-- d ‖ z gives the decapsulation key: secret vector, encapsulation key, its hash, z. -/
def kyGen (par : Nat) (dz : List Byte) : List Byte :=
  let (k, eta, _, _) := kyPar par
  let g := (kSha3 64).hash (dz.take 32 ++ [BitVec.ofNat 8 k]) 64
  let rho := g.take 32
  let ks := List.range k
  let s := ks.map (fun i => kyNtt (kyCbd eta (g.drop 32) i))
  let t := ks.map (fun i => addP kyQ (dotP kyQ kyMul (ks.map (kyA rho i)) s) (kyNtt (kyCbd eta (g.drop 32) (k + i))))
  let ek := t.flatMap (fieldPack 12) ++ rho
  s.flatMap (fieldPack 12) ++ ek ++ sha3_256 ek ++ slice dz 32 32

/-- K-PKE.Encrypt. -/
def kyEnc (par : Nat) (ek m r : List Byte) : List Byte :=
  let (k, eta, du, dv) := kyPar par
  let ks := List.range k
  let t := ks.map (fun i => fieldUnpack 12 256 (slice ek (384 * i) 384))
  let rho := slice ek (384 * k) 32
  let y := ks.map (fun i => kyNtt (kyCbd eta r i))
  let u := ks.map (fun i => addP kyQ (kyInv (dotP kyQ kyMul (ks.map (fun j => kyA rho j i)) y)) (kyCbd 2 r (k + i)))
  let mu := (fieldUnpack 1 256 m).map (kyDecompress 1)
  let v := addP kyQ (addP kyQ (kyInv (dotP kyQ kyMul t y)) (kyCbd 2 r (2 * k))) mu
  u.flatMap (fun p => fieldPack du (p.map (kyCompress du))) ++ fieldPack dv (v.map (kyCompress dv))

/-- K-PKE.Decrypt. -/
def kyDec (par : Nat) (dk c : List Byte) : List Byte :=
  let (k, _, du, dv) := kyPar par
  let ks := List.range k
  let u := ks.map (fun i => (fieldUnpack du 256 (slice c (32 * du * i) (32 * du))).map (kyDecompress du))
  let v := (fieldUnpack dv 256 (c.drop (32 * du * k))).map (kyDecompress dv)
  let s := ks.map (fun i => fieldUnpack 12 256 (slice dk (384 * i) 384))
  fieldPack 1 ((subP kyQ v (kyInv (dotP kyQ kyMul s (u.map kyNtt)))).map (kyCompress 1))

/-- Ciphertext and shared secret for a message of 32 bytes. -/
def kyEncaps (par : Nat) (ek m : List Byte) : List Byte × List Byte :=
  let g := (kSha3 64).hash (m ++ sha3_256 ek) 64
  (kyEnc par ek m (g.drop 32), g.take 32)

/-- Decapsulation: a ciphertext that re-encryption does not give again yields the rejection secret J(z ‖ c) (R29). -/
def kyDecaps (par : Nat) (dk c : List Byte) : List Byte :=
  let k := (kyPar par).1
  let ek := slice dk (384 * k) (384 * k + 32)
  let m := kyDec par dk c
  let r := kyEncaps par ek m
  if r.1 = c then r.2 else kShake256.hash (dk.drop (768 * k + 64) ++ c) 32

/-! ML-DSA (FIPS 204). -/

def diQ : Nat := 8380417

/-- A parameter set. -/
structure DiPar where
  k     : Nat
  l     : Nat
  eta   : Nat
  tau   : Nat
  lam   : Nat      -- bytes of the challenge hash
  g1    : Nat
  g2    : Nat
  omega : Nat
deriving DecidableEq, Repr

def diPar (par : Nat) : DiPar :=
  if par = 0 then ⟨4, 4, 2, 39, 32, 2 ^ 17, (diQ - 1) / 88, 80⟩
  else if par = 1 then ⟨6, 5, 4, 49, 48, 2 ^ 19, (diQ - 1) / 32, 55⟩
  else ⟨8, 7, 2, 60, 64, 2 ^ 19, (diQ - 1) / 32, 75⟩

def DiPar.beta (x : DiPar) : Nat := x.tau * x.eta

def diZeta (i : Nat) : Nat := powMod 1753 (bitRev 8 i) diQ
def diNtt (f : List Nat) : List Nat := [128, 64, 32, 16, 8, 4, 2, 1].foldl (nttLayer diQ diZeta) f
def diInv (f : List Nat) : List Nat := ([1, 2, 4, 8, 16, 32, 64, 128].foldl (invLayer diQ diZeta) f).map (fun x => x * 8347681 % diQ)
def diMul (a b : List Nat) : List Nat := List.zipWith (fun x y => x * y % diQ) a b

def diH (m : List Byte) (n : Nat) : List Byte := kShake256.hash m n

/-- The absolute value of a residue taken around zero. -/
def diAbs (x : Nat) : Nat := min x (diQ - x)

/-- Every coefficient lies below a bound in absolute value. -/
def diSmall (v : List (List Nat)) (b : Nat) : Bool := v.all (fun p => p.all (fun x => decide (diAbs x < b)))

/-- RejNTTPoly of entry (r, s). -/
def diA (rho : List Byte) (r s : Nat) : List Nat :=
  (sampleGrow kShake128 (rho ++ [BitVec.ofNat 8 s, BitVec.ofNat 8 r])
    (sampleWords 3 256 (fun c => [leNat c % 2 ^ 23].filter (· < diQ))) 16 1008).getD []

/-- RejBoundedPoly. -/
def diBounded (eta : Nat) (seed : List Byte) (r : Nat) : List Nat :=
  (sampleGrow kShake256 (seed ++ natLE 2 r) (sampleWords 1 256 (fun c =>
    [leNat c % 16, leNat c / 16].filterMap (fun z =>
      if eta = 2 then (if z < 15 then some ((diQ + 2 - z % 5) % diQ) else none) else (if z < 9 then some ((diQ + 4 - z) % diQ) else none)))) 16 272).getD []

/-- BitPack of values from −a to b. -/
def diPack (a b : Nat) (p : List Nat) : List Byte := fieldPack (bitLen (a + b)) (p.map (fun x => (b + diQ - x) % diQ))
def diUnpack (a b : Nat) (v : List Byte) : List Nat := (fieldUnpack (bitLen (a + b)) 256 v).map (fun z => (b + diQ - z % diQ) % diQ)

/-- Power2Round. -/
def diHigh13 (x : Nat) : Nat := (x + 4095) / 8192
def diLow13 (x : Nat) : Nat := (x + diQ - 8192 * diHigh13 x) % diQ

/-- HighBits and LowBits for γ2. -/
def diDecompose (g2 x : Nat) : Nat × Nat :=
  let r0 := x % (2 * g2)
  let low := if r0 ≤ g2 then r0 else r0 + diQ - 2 * g2
  if (x + diQ - low) % diQ = diQ - 1 then (0, (low + diQ - 1) % diQ) else ((x + diQ - low) % diQ / (2 * g2), low)

def diHigh (g2 : Nat) (p : List Nat) : List Nat := p.map (fun x => (diDecompose g2 x).1)
def diLow (g2 : Nat) (p : List Nat) : List Nat := p.map (fun x => (diDecompose g2 x).2)

/-- UseHint. -/
def diUse (g2 : Nat) (h : Bool) (x : Nat) : Nat :=
  let m := (diQ - 1) / (2 * g2)
  let (a, b) := diDecompose g2 x
  if h then (if 0 < b ∧ b ≤ g2 then (a + 1) % m else (a + m - 1) % m) else a

def diW1 (g2 : Nat) (v : List (List Nat)) : List Byte := v.flatMap (fieldPack (bitLen ((diQ - 1) / (2 * g2) - 1)))

/-- The swaps of SampleInBall: positions i from 256 − τ on, the bytes left; none where the bytes end first. -/
def diBallStep (signs : Nat) : Nat → Nat → List Byte → List Nat → Option (List Nat)
  | 0, _, _, c => some c
  | k + 1, i, bs, c =>
    match bs.dropWhile (fun b => decide (i < b.toNat)) with
    | [] => none
    | b :: t =>
      let c1 := c.set i (c.getD b.toNat 0)
      diBallStep (signs / 2) k (i + 1) t (c1.set b.toNat (if signs % 2 = 1 then diQ - 1 else 1))

def diBall (tau : Nat) (seed : List Byte) : List Nat :=
  (sampleGrow kShake256 seed (fun bs => diBallStep (leNat (bs.take 8)) tau (256 - tau) (bs.drop 8) (List.replicate 256 0)) 16 272).getD []

/-- The private key of a seed of 32 bytes. -/
def diGen (par : Nat) (xi : List Byte) : List Byte × List Byte :=
  let x := diPar par
  let g := diH (xi ++ [BitVec.ofNat 8 x.k, BitVec.ofNat 8 x.l]) 128
  let rho := g.take 32
  let s1 := (List.range x.l).map (diBounded x.eta (slice g 32 64))
  let s2 := (List.range x.k).map (fun r => diBounded x.eta (slice g 32 64) (r + x.l))
  let sh := s1.map diNtt
  let t := (List.range x.k).map (fun r => addP diQ (diInv (dotP diQ diMul ((List.range x.l).map (diA rho r)) sh)) (s2.getD r []))
  let pk := rho ++ t.flatMap (fun p => fieldPack 10 (p.map diHigh13))
  (rho ++ slice g 96 32 ++ diH pk 64 ++ (s1 ++ s2).flatMap (diPack x.eta x.eta) ++ t.flatMap (fun p => diPack 4095 4096 (p.map diLow13)), pk)

/-- Polynomials packed one after the other. -/
def diUnpackAll (n a b : Nat) (v : List Byte) : List (List Nat) :=
  let w := 32 * bitLen (a + b)
  (List.range n).map (fun i => diUnpack a b (slice v (w * i) w))

/-- The public key of a private key. -/
def diPub (par : Nat) (sk : List Byte) : List Byte :=
  let x := diPar par
  let rho := sk.take 32
  let w := 32 * bitLen (2 * x.eta)
  let sh := (diUnpackAll x.l x.eta x.eta (sk.drop 128)).map diNtt
  let s2 := diUnpackAll x.k x.eta x.eta (sk.drop (128 + w * x.l))
  rho ++ (List.range x.k).flatMap (fun r =>
    fieldPack 10 ((addP diQ (diInv (dotP diQ diMul ((List.range x.l).map (diA rho r)) sh)) (s2.getD r [])).map diHigh13))

/-- The positions of the ones of a hint, in the packing of FIPS 204. -/
def diHintPack (x : DiPar) (h : List (List Bool)) : List Byte :=
  let ones := h.map (fun p => (List.range 256).filter (fun i => p.getD i false))
  let ends := (List.range x.k).map (fun i => ((ones.take (i + 1)).map List.length).foldl (· + ·) 0)
  fixLen x.omega (ones.flatten.map (BitVec.ofNat 8)) ++ ends.map (BitVec.ofNat 8)

/-- A list rises strictly. -/
def rising : List Nat → Bool
  | a :: b :: t => decide (a < b) && rising (b :: t)
  | _ => true

/-- The hint of a signature; none where its encoding is not the standard's (R28). -/
def diHintUnpack (x : DiPar) (v : List Byte) : Option (List (List Bool)) :=
  let ends := (v.drop x.omega).map BitVec.toNat
  let pos := (v.take x.omega).map BitVec.toNat
  let start := fun i => if i = 0 then 0 else ends.getD (i - 1) 0
  let parts := (List.range x.k).map (fun i => (pos.drop (start i)).take (ends.getD i 0 - start i))
  let last := ends.getD (x.k - 1) 0
  if (List.range x.k).all (fun i => decide (start i ≤ ends.getD i 0)) && decide (last ≤ x.omega) && parts.all rising && (pos.drop last).all (· == 0) then
    some (parts.map (fun p => (List.range 256).map p.contains))
  else none

/-- The iterations of signing from a mask counter: the signature and the number of iterations (R39). -/
def diSignStep (x : DiPar) (a : List (List (List Nat))) (s1 s2 t0 : List (List Nat)) (mu rho2 : List Byte) : Nat → Nat → Nat → Option (List Byte × Nat)
  | 0, _, _ => none
  | f + 1, kappa, n =>
    let y := (List.range x.l).map (fun r => diUnpack (x.g1 - 1) x.g1 (diH (rho2 ++ natLE 2 (kappa + r)) (32 * bitLen (2 * x.g1 - 1))))
    let yh := y.map diNtt
    let w := a.map (fun row => diInv (dotP diQ diMul row yh))
    let ct := diH (mu ++ diW1 x.g2 (w.map (diHigh x.g2))) x.lam
    let c := diNtt (diBall x.tau ct)
    let times := fun (v : List (List Nat)) => v.map (fun p => diInv (diMul c p))
    let z := List.zipWith (addP diQ) y (times s1)
    let r := List.zipWith (subP diQ) w (times s2)
    let u := times t0
    let h := List.zipWith (fun (p q : List Nat) => List.zipWith (fun m e => (diDecompose x.g2 m).1 != (diDecompose x.g2 ((m + e) % diQ)).1) p q) r u
    let ones := (h.map (fun p => p.countP id)).foldl (· + ·) 0
    if diSmall z (x.g1 - x.beta) && diSmall (r.map (diLow x.g2)) (x.g2 - x.beta) && diSmall u x.g2 && decide (ones ≤ x.omega) then
      some (ct ++ z.flatMap (diPack (x.g1 - 1) x.g1) ++ diHintPack x h, n + 1)
    else diSignStep x a s1 s2 t0 mu rho2 f (kappa + x.l) (n + 1)

/-- A signature over μ with a hedging value. -/
def diSignMu (par : Nat) (sk mu rnd : List Byte) : Option (List Byte × Nat) :=
  let x := diPar par
  let w := 32 * bitLen (2 * x.eta)
  let a := (List.range x.k).map (fun r => (List.range x.l).map (diA (sk.take 32) r))
  diSignStep x a ((diUnpackAll x.l x.eta x.eta (sk.drop 128)).map diNtt) ((diUnpackAll x.k x.eta x.eta (sk.drop (128 + w * x.l))).map diNtt)
    ((diUnpackAll x.k 4095 4096 (sk.drop (128 + w * (x.l + x.k)))).map diNtt) mu (diH (slice sk 32 32 ++ rnd ++ mu) 64) (65536 / x.l) 0 0

/-- Verification over μ. -/
def diVerifyMu (par : Nat) (pk mu sig : List Byte) : Bool :=
  let x := diPar par
  let zl := 32 * bitLen (2 * x.g1 - 1)
  let ct := sig.take x.lam
  let z := diUnpackAll x.l (x.g1 - 1) x.g1 (sig.drop x.lam)
  match diHintUnpack x (sig.drop (x.lam + zl * x.l)) with
  | none => false
  | some h =>
    let rho := pk.take 32
    let c := diNtt (diBall x.tau ct)
    let zh := z.map diNtt
    let w := (List.range x.k).map (fun r =>
      let t1 := (fieldUnpack 10 256 (slice pk (32 + 320 * r) 320)).map (fun v => v * 8192 % diQ)
      let v := diInv (subP diQ (dotP diQ diMul ((List.range x.l).map (diA rho r)) zh) (diMul c (diNtt t1)))
      List.zipWith (diUse x.g2) (h.getD r []) v)
    diSmall z (x.g1 - x.beta) && ct == diH (mu ++ diW1 x.g2 w) x.lam

/-- The message of FIPS 204 and FIPS 205: pure, or with the object identifier of the hash of a digest. -/
def wrapMsg (ph : Bool) (h : Nat) (ctx m : List Byte) : List Byte :=
  [if ph then 1 else 0, BitVec.ofNat 8 ctx.length] ++ ctx ++ (if ph then hashOid h else []) ++ m

/-- μ of an operation: the input itself for SIGN_MU and VERIFY_MU (R38); tr is the hash of the public key. -/
def diMu (o h : Nat) (tr ctx m : List Byte) : List Byte :=
  if o = Op.SIGN_MU ∨ o = Op.VERIFY_MU then m else diH (tr ++ wrapMsg (isPh o) h ctx m) 64

end Sys2Proof.Machine
end

