-- ==== Sys2Proof/Machine/Codes.lean ====
section
/-!
DEFINITION. Classic McEliece as its round-4 specification defines it, and the formats of HQC (R24, R29, R31, R41, R42; PRESUMED from those
specifications, log entry 4). A vector of bits is a number, entry i at bit i.
-/
namespace Sys2Proof.Machine
open Sys2Proof

/-! Fields of 2^m elements; a polynomial over one is a list of coefficients, lowest first. -/

/-- Parameters of Classic McEliece: m, n, t, the field's polynomial, and the lower terms of the polynomial F of degree t. -/
structure Mce where
  m : Nat
  n : Nat
  t : Nat
  f : Nat
  low : List (Nat × Nat)
deriving DecidableEq, Repr

def mceOf (i : Nat) : Mce :=
  match i with
  | 0 => ⟨12, 3488, 64, 0x1009, [(0, 2), (1, 1), (3, 1)]⟩
  | 1 => ⟨13, 4608, 96, 0x201b, [(0, 1), (6, 1), (9, 1), (10, 1)]⟩
  | 2 => ⟨13, 6688, 128, 0x201b, [(0, 1), (1, 1), (2, 1), (7, 1)]⟩
  | 3 => ⟨13, 6960, 119, 0x201b, [(0, 1), (8, 1)]⟩
  | _ => ⟨13, 8192, 128, 0x201b, [(0, 1), (1, 1), (2, 1), (7, 1)]⟩

/-- Rows of the parity-check matrix. -/
def Mce.rows (x : Mce) : Nat := x.m * x.t
/-- Columns of the public matrix T. -/
def Mce.k (x : Mce) : Nat := x.n - x.rows

def Mce.mul (x : Mce) (a b : Nat) : Nat :=
  (List.range x.m).foldr (fun i s =>
    let d := 2 * s
    let r := if d.testBit x.m then d ^^^ x.f else d
    if b.testBit i then r ^^^ a else r) 0

def Mce.pow (x : Mce) (a e : Nat) : Nat :=
  (List.range x.m).foldr (fun i s => let d := x.mul s s; if e.testBit i then x.mul d a else d) 1

def Mce.inv (x : Mce) (a : Nat) : Nat := x.pow a (2 ^ x.m - 2)

/-- The value of a polynomial at a point. -/
def Mce.eval (x : Mce) (p : List Nat) (a : Nat) : Nat := p.foldr (fun c s => x.mul s a ^^^ c) 0

/-- Sum of two polynomials, as long as the first. -/
def polyAdd (a b : List Nat) : List Nat := (List.zipIdx a).map (fun c => c.1 ^^^ b.getD c.2 0)

/-- Product modulo F, of polynomials of t coefficients. -/
def Mce.mulF (x : Mce) (a b : List Nat) : List Nat :=
  b.foldr (fun c s =>
    let top := s.getD (x.t - 1) 0
    let up := 0 :: s.take (x.t - 1)
    let r := (List.zipIdx up).map (fun u => u.1 ^^^ (match x.low.find? (fun z => z.1 == u.2) with | some z => x.mul top z.2 | none => 0))
    polyAdd r (a.map (x.mul c))) (List.replicate x.t 0)

/-- Elimination over the field, column by column; none where a column has no pivot. Rows done, rows left. -/
def Mce.solve (x : Mce) : Nat → Nat → List (List Nat) → List (List Nat) → Option (List (List Nat))
  | 0, _, done, _ => some done
  | u + 1, c, done, rest =>
    match rest.find? (fun r => r.getD c 0 != 0) with
    | none => none
    | some p =>
      let i := x.inv (p.getD c 0)
      let q := p.map (x.mul i)
      let clear (r : List Nat) : List Nat := polyAdd r (q.map (x.mul (r.getD c 0)))
      x.solve u (c + 1) (done.map clear ++ [q]) ((rest.erase p).map clear)

/-- The minimal polynomial of an element of the extension, where its degree is t: its coefficients below the leading one. -/
def Mce.minPoly (x : Mce) (b : List Nat) : Option (List Nat) :=
  let one := (List.range x.t).map (fun i => if i = 0 then 1 else 0)
  let pw := (List.range x.t).foldl (fun (l : List (List Nat)) _ => l ++ [x.mulF (l.getLastD one) b]) [one]
  (x.solve x.t 0 [] ((List.range x.t).map (fun i => pw.map (fun p => p.getD i 0)))).map (fun r => r.map (fun v => v.getD x.t 0))

/-! The permutation of the field and its control bits. -/

/-- Entries of c moved to where p points: entry p(i) of the result is entry i of c. -/
def composeInv (c p : Array Nat) : Array Nat := (Array.zip p c).foldl (fun a x => a.setIfInBounds x.1 x.2) (Array.replicate c.size 0)

/-- The control bits of a permutation of 2^m entries. -/
def controlBits : Nat → Array Nat → List Nat
  | 0, _ => []
  | 1, p => [p.getD 0 0]
  | m + 2, p =>
    let n := 2 ^ (m + 2)
    let ids := Array.range n
    let lo (a b : Array Nat) : Array Nat := ids.map (fun i => Nat.min (a.getD i 0) (b.getD i 0))
    let p0 := ids.map (fun i => p.getD (i ^^^ 1) 0)
    let q0 := ids.map (fun i => p.getD i 0 ^^^ 1)
    let pinv := composeInv ids p
    let (p1, q1) := (composeInv p0 q0, composeInv q0 p0)
    let c1 := lo ids p1
    let (p2, q2) := (composeInv p1 q1, composeInv q1 p1)
    let r := (List.range m).foldl (fun (s : Array Nat × Array Nat × Array Nat) _ =>
      (lo s.1 (composeInv s.1 s.2.2), composeInv s.2.1 s.2.2, composeInv s.2.2 s.2.1)) (c1, p2, q2)
    let half := Array.range (n / 2)
    let f := half.map (fun j => r.1.getD (2 * j) 0 % 2)
    let fp := composeInv (ids.map (fun i => i ^^^ f.getD (i / 2) 0)) pinv
    let l := half.map (fun k => fp.getD (2 * k) 0 % 2)
    let mid := composeInv fp (ids.map (fun y => y ^^^ l.getD (y / 2) 0))
    let z0 := controlBits (m + 1) (half.map (fun j => mid.getD (2 * j) 0 / 2))
    let z1 := controlBits (m + 1) (half.map (fun j => mid.getD (2 * j + 1) 0 / 2))
    f.toList ++ (List.zipWith (fun a b => [a, b]) z0 z1).flatten ++ l.toList

/-- The permutation that control bits, as a number, stand for. -/
def permOf (m bits : Nat) : Array Nat :=
  (List.range (2 * m - 1)).foldl (fun (p : Array Nat) i =>
    let gap := 2 ^ Nat.min i (2 * m - 2 - i)
    p.mapIdx (fun pos v =>
      let j := (pos / (2 * gap)) * gap + pos % gap
      if bits.testBit (i * 2 ^ (m - 1) + j) then p.getD (if pos / gap % 2 = 0 then pos + gap else pos - gap) 0 else v)) (Array.range (2 ^ m))

/-! The code. -/

/-- Rows of the parity-check matrix of a support and a Goppa polynomial (leading coefficient left out). -/
def Mce.check (x : Mce) (g sup : List Nat) : List Nat :=
  let w := sup.map (fun a => x.inv (x.eval (g ++ [1]) a))
  let cols := (List.range x.t).foldl (fun (l : List (List Nat)) _ => l ++ [List.zipWith x.mul (l.getLastD w) sup]) [w]
  (cols.take x.t).flatMap (fun r => (List.range x.m).map (fun b => (List.zipIdx r).foldl (fun a c => if c.1.testBit b then a ||| 2 ^ c.2 else a) 0))

/-- Elimination of bits: row i takes the least column from its lower end on that its rows have a one in, within `width` of i where i is
`from_` or above and i itself below. Rows done and their pivots; none where a pivot lies elsewhere. -/
def reduceRows (wide width : Nat) : Nat → Nat → List Nat → List Nat → List Nat → Option (List Nat × List Nat)
  | 0, _, done, piv, _ => some (done, piv)
  | u + 1, i, done, piv, rest =>
    let lo := match piv.getLast? with | some c => c + 1 | none => 0
    let hi := if i < wide then i else wide + width - 1
    match (List.range (hi + 1)).find? (fun c => decide (lo ≤ c) && rest.any (fun r => r.testBit c)) with
    | none => none
    | some c =>
      match rest.find? (fun r => r.testBit c) with
      | none => none
      | some p =>
        let clear (r : Nat) : Nat := if r.testBit c then r ^^^ p else r
        reduceRows wide width u (i + 1) (done.map clear ++ [p]) (piv ++ [c]) ((rest.erase p).map clear)

/-- The order of the columns once each pivot stands at its row. -/
def pivotOrder (n : Nat) (piv : List Nat) : Array Nat :=
  (List.zipIdx piv).foldl (fun (a : Array Nat) c => (a.setIfInBounds c.2 (a.getD c.1 0)).setIfInBounds c.1 (a.getD c.2 0)) (Array.range n)

/-- The public matrix T, its pivots and the support in its new order; `semi` is the f variant. -/
def Mce.matGen (x : Mce) (semi : Bool) (g sup : List Nat) : Option (List Nat × List Nat × List Nat) :=
  match reduceRows (if semi then x.rows - 32 else x.rows) 64 x.rows 0 [] [] (x.check g sup) with
  | none => none
  | some (rows, piv) =>
    let ord := pivotOrder x.n piv
    let sa := sup.toArray
    some (rows.map (fun r => (List.range x.k).foldl (fun a j => if r.testBit (ord.getD (x.rows + j) 0) then a ||| 2 ^ j else a) 0), piv,
      ord.toList.map (fun i => sa.getD i 0))

/-- A public key: rows of T in whole bytes. -/
def Mce.pubBytes (x : Mce) (rows : List Nat) : List Byte := rows.flatMap (natLE (ceilDiv x.k 8))

/-! Key generation (R31). -/

/-- The order of the field from 32-bit numbers, one for each element; none where two are equal. -/
def fieldOrder (m : Nat) (a : List Nat) : Option (List Nat) :=
  let s := (List.zipIdx a).insertionSort (fun x y => x.1 ≤ y.1)
  if (List.zip s (s.drop 1)).all (fun x => x.1.1 != x.2.1) then some (s.map (fun x => bitRev m x.2)) else none

/-- One attempt from 32 bytes: the private key, none where the attempt fails. -/
def mceGen (par : Nat) (seed : List Byte) : Option (List Byte) :=
  let x := mceOf (par % 5)
  let q := 2 ^ x.m
  let e := kShake256.hash (64 :: seed) (x.n / 8 + 4 * q + 2 * x.t + 32)
  let s := e.take (x.n / 8)
  match fieldOrder x.m ((List.range q).map (fun i => leAt e (x.n / 8 + 4 * i) 4)) with
  | none => none
  | some al =>
    match x.minPoly ((List.range x.t).map (fun i => leAt e (x.n / 8 + 4 * q + 2 * i) 2 % q)) with
    | none => none
    | some g =>
      match x.matGen (5 ≤ par) g (al.take x.n) with
      | none => none
      | some (_, piv, sup) =>
        let base := x.rows - 32
        let c := if 5 ≤ par then (piv.drop base).foldl (fun a p => a + 2 ^ (p - base)) 0 else 2 ^ 32 - 1
        let bits := controlBits x.m ((sup ++ al.drop x.n).map (bitRev x.m)).toArray
        some (seed ++ natLE 8 c ++ g.flatMap (natLE 2) ++ natLE ((2 * x.m - 1) * 2 ^ (x.m - 4)) (bits.foldr (fun b a => b + 2 * a) 0) ++ s)

/-- Goppa polynomial, support and s of a private key. -/
def Mce.split (x : Mce) (priv : List Byte) : List Nat × List Nat × List Byte :=
  let cb := (2 * x.m - 1) * 2 ^ (x.m - 4)
  ((List.range x.t).map (fun i => leAt priv (40 + 2 * i) 2 % 2 ^ x.m),
    ((permOf x.m (leAt priv (40 + 2 * x.t) cb)).toList.take x.n).map (bitRev x.m), slice priv (40 + 2 * x.t + cb) (x.n / 8))

/-- The public key of a private key. -/
def mcePub (i : Nat) (priv : List Byte) : List Byte :=
  let x := mceOf i
  let k := x.split priv
  x.pubBytes (match x.matGen false k.1 k.2.1 with
    | some r => r.1
    | none => (List.range x.rows).map (fun j => Config.mceRow i priv j % 2 ^ x.k))

/-! Encapsulation and decapsulation (R29). -/

/-- t of the positions in a list, by number. -/
def pickSet : Nat → List Nat → Nat → List Nat
  | 0, _, _ => []
  | t + 1, l, r =>
    let p := l.getD (r % l.length) 0
    p :: pickSet t (l.erase p) (r / l.length)

/-- Entries of a vector that are one add up to an odd number. -/
def oddWeight (n v : Nat) : Bool := (List.range n).foldl (fun a i => a ^^ v.testBit i) false

def weight (n v : Nat) : Nat := (List.range n).foldl (fun a i => a + b2n (v.testBit i)) 0

/-- The ciphertext of an error vector: H e with H = (1 | T). -/
def Mce.encode (x : Mce) (pub : List Byte) (e : Nat) : List Byte :=
  let len := ceilDiv x.k 8
  natLE (ceilDiv x.rows 8) ((List.range x.rows).foldl (fun a i =>
    if e.testBit i ^^ oddWeight x.k (leAt pub (i * len) len &&& (e >>> x.rows)) then a ||| 2 ^ i else a) 0)

def mceSecret (b : Byte) (e ct : List Byte) : List Byte := kShake256.hash (b :: e ++ ct) 32

def mceEncaps (i : Nat) (pub rand : List Byte) : List Byte × List Byte :=
  let x := mceOf i
  let e := (pickSet x.t (List.range x.n) (Config.mcePick i rand)).foldl (fun a p => a ||| 2 ^ p) 0
  let ct := x.encode pub e
  (ct, mceSecret 1 (natLE (x.n / 8) e) ct)

/-- Syndrome j of a vector of bits, for j below 2t. -/
def Mce.syndromes (x : Mce) (sup w2 : List Nat) (v : Nat) : List Nat :=
  let on := (List.zipIdx (List.zip sup w2)).filter (fun z => v.testBit z.2)
  (List.range (2 * x.t)).map (fun j => on.foldl (fun a z => a ^^^ x.mul z.1.2 (x.pow z.1.1 j)) 0)

/-- Berlekamp and Massey's shortest recurrence: connection polynomial C, former one B, length, shift, former discrepancy. -/
def Mce.massey (x : Mce) (s : List Nat) : Nat → Nat → List Nat → List Nat → Nat → Nat → Nat → List Nat
  | 0, _, c, _, _, _, _ => c
  | u + 1, k, c, b, l, sh, d0 =>
    let d := (List.range (l + 1)).foldl (fun a i => a ^^^ x.mul (c.getD i 0) (s.getD (k - i) 0)) 0
    if d = 0 then x.massey s u (k + 1) c b l (sh + 1) d0
    else
      let c' := polyAdd c (List.replicate sh 0 ++ b.map (x.mul (x.mul d (x.inv d0))))
      if 2 * l ≤ k then x.massey s u (k + 1) c' c (k + 1 - l) 1 d else x.massey s u (k + 1) c' b l (sh + 1) d0

/-- The error vector of weight t that a ciphertext decodes to; none where there is none. -/
def Mce.decode (x : Mce) (g sup : List Nat) (pub ct : List Byte) : Option Nat :=
  let w2 := sup.map (fun a => let v := x.inv (x.eval (g ++ [1]) a); x.mul v v)
  let loc := (x.massey (x.syndromes sup w2 (leNat ct % 2 ^ x.rows)) (2 * x.t) 0 (1 :: List.replicate (2 * x.t) 0) [1] 0 1 1).take (x.t + 1)
  let e := (List.zipIdx sup).foldl (fun a z => if x.eval loc.reverse z.1 = 0 then a ||| 2 ^ z.2 else a) 0
  if weight x.n e = x.t ∧ x.encode pub e = ct then some e else none

/-- Decapsulation: a ciphertext that the re-encoded error vector does not give again, padding bits included, yields the rejection secret. -/
def mceDecaps (i : Nat) (priv pub ct : List Byte) : List Byte :=
  let x := mceOf i
  let k := x.split priv
  match x.decode k.1 k.2.1 pub ct with
  | some e => mceSecret 1 (natLE (x.n / 8) e) ct
  | none => mceSecret 0 k.2.2 ct

/-! HQC: keys are a seed of 40 bytes and the vector s, a private key another seed before them; a ciphertext is u, v and 64 bytes (DEDUCED from
the spec's sizes, log entry 4). The bits above n of s and u are zero (R42). -/

def hqcN (par : Nat) : Nat := if par = 0 then 17669 else if par = 1 then 35851 else 57637
/-- Bytes of v. -/
def hqcVLen (par : Nat) : Nat := if par = 0 then 2208 else if par = 1 then 4480 else 7200
def hqcVec (par v : Nat) : List Byte := natLE (ceilDiv (hqcN par) 8) (v % 2 ^ hqcN par)

def hqcGen (par : Nat) (rand : List Byte) : List Byte :=
  rand.take 40 ++ slice rand 40 40 ++ hqcVec par (Config.hqcS par (rand.take 40) (slice rand 40 40))

def hqcEnc (par : Nat) (pub m : List Byte) : List Byte :=
  hqcVec par (Config.hqcU par pub m) ++ natLE (hqcVLen par) (Config.hqcV par pub m) ++ fixLen 64 (Config.hqcD par pub m)

def hqcEncaps (par : Nat) (pub rand : List Byte) : List Byte × List Byte :=
  let ct := hqcEnc par pub rand
  (ct, fixLen 64 (Config.hqcKey par rand ct))

def hqcDecaps (par : Nat) (priv ct : List Byte) : List Byte :=
  let m := Config.hqcOpen par priv ct
  fixLen 64 (if hqcEnc par (priv.drop 40) m = ct then Config.hqcKey par m ct else Config.hqcReject par priv ct)

end Sys2Proof.Machine
end

