-- ==== Sys2Proof/Machine/HashSig.lean ====
section
/-!
DEFINITION. SLH-DSA, LMS/HSS and XMSS (R40, R220), which the spec takes from FIPS 205, RFC 8554, RFC 8391 and NIST SP 800-208 (PRESUMED
from those standards, log entry 4), and the private state of stateful keys (R222, R225).
-/
namespace Sys2Proof.Machine
open Sys2Proof

/-- Digits of b bits of a byte string, most significant first. -/
def digitsBE (b n : Nat) (m : List Byte) : List Nat := let v := beNat m; (List.range n).map (fun i => (v >>> (8 * m.length - b * (i + 1))) % 2 ^ b)

/-- The digits of a hash and of its checksum for chains of 2^w steps: the first argument is the number of checksum digits (RFC 8554,
RFC 8391, FIPS 205). -/
def wotsDigits (v w : Nat) (m : List Byte) : List Nat :=
  let u := 8 * m.length / w
  let d := digitsBE w u m
  let sum := d.foldl (fun a x => a + (2 ^ w - 1 - x)) 0
  d ++ (List.range v).map (fun i => (sum >>> (w * (v - 1 - i))) % 2 ^ w)

/-! SLH-DSA (FIPS 205). -/

/-- A parameter set. -/
structure SlhPar where
  shake : Bool
  n     : Nat
  h     : Nat
  d     : Nat
  a     : Nat
  k     : Nat
  m     : Nat
deriving DecidableEq, Repr

def slhPar (par : Nat) : SlhPar :=
  let s := par % 2 == 1
  match par / 2 with
  | 0 => ⟨s, 16, 63, 7, 12, 14, 30⟩
  | 1 => ⟨s, 16, 66, 22, 6, 33, 34⟩
  | 2 => ⟨s, 24, 63, 7, 14, 17, 39⟩
  | 3 => ⟨s, 24, 66, 22, 8, 33, 42⟩
  | 4 => ⟨s, 32, 64, 8, 14, 22, 47⟩
  | _ => ⟨s, 32, 68, 17, 9, 35, 49⟩

/-- An address: layer, tree, type, and its three words. -/
structure Adrs where
  layer : Nat
  tree  : Nat
  ty    : Nat
  w1    : Nat
  w2    : Nat
  w3    : Nat
deriving DecidableEq, Repr

/-- The bytes of an address, in the compressed form for SHA2. -/
def Adrs.bytes (x : Adrs) (shake : Bool) : List Byte :=
  (if shake then natBE 4 x.layer ++ natBE 12 x.tree ++ natBE 4 x.ty else natBE 1 x.layer ++ natBE 8 x.tree ++ natBE 1 x.ty) ++
    natBE 4 x.w1 ++ natBE 4 x.w2 ++ natBE 4 x.w3

/-- F, H and T over a message; F and PRF of the SHA2 sets always use SHA-256. -/
def SlhPar.th (x : SlhPar) (small : Bool) (seed : List Byte) (ad : Adrs) (m : List Byte) : List Byte :=
  if x.shake then kShake256.hash (seed ++ ad.bytes true ++ m) x.n
  else if small || x.n == 16 then (kSha256.hash (seed ++ zeros (64 - x.n) ++ ad.bytes false ++ m) 32).take x.n
  else (kSha512.hash (seed ++ zeros (128 - x.n) ++ ad.bytes false ++ m) 64).take x.n

def SlhPar.prfMsg (x : SlhPar) (prf rnd m : List Byte) : List Byte :=
  if x.shake then kShake256.hash (prf ++ rnd ++ m) x.n
  else if x.n = 16 then (hmac kSha256 32 prf (rnd ++ m)).take x.n else (hmac kSha512 64 prf (rnd ++ m)).take x.n

def SlhPar.hMsg (x : SlhPar) (r seed root m : List Byte) : List Byte :=
  if x.shake then kShake256.hash (r ++ seed ++ root ++ m) x.m
  else let h := if x.n = 16 then 0x02 else 0x04; mgf1 h (r ++ seed ++ hashOf h (r ++ seed ++ root ++ m)) x.m

/-- s steps of a chain from step i. -/
def SlhPar.chain (x : SlhPar) (seed : List Byte) (ad : Adrs) : Nat → Nat → List Byte → List Byte
  | 0, _, v => v
  | s + 1, i, v => SlhPar.chain x seed ad s (i + 1) (x.th true seed { ad with w3 := i } v)

/-- Chains of a WOTS+ key: from the values given, the steps of each. -/
def SlhPar.chains (x : SlhPar) (seed : List Byte) (ad : Adrs) (from_ steps : List Nat) (vs : List (List Byte)) : List (List Byte) :=
  (List.range vs.length).map (fun i => x.chain seed { ad with w2 := i } (steps.getD i 0) (from_.getD i 0) (vs.getD i []))

/-- The secret values of a WOTS+ key. -/
def SlhPar.wotsSk (x : SlhPar) (sk seed : List Byte) (ad : Adrs) : List (List Byte) :=
  (List.range (2 * x.n + 3)).map (fun i => x.th true seed { ad with ty := 5, w2 := i, w3 := 0 } sk)

/-- The compressed public key of chain ends. -/
def SlhPar.wotsPk (x : SlhPar) (seed : List Byte) (ad : Adrs) (ends : List (List Byte)) : List Byte :=
  x.th false seed { ad with ty := 1, w2 := 0, w3 := 0 } ends.flatten

/-- Node i at height z of the XMSS tree of an address. -/
def SlhPar.node (x : SlhPar) (sk seed : List Byte) (layer tree : Nat) : Nat → Nat → List Byte
  | 0, i =>
    let ad : Adrs := ⟨layer, tree, 0, i, 0, 0⟩
    x.wotsPk seed ad (x.chains seed ad [] (List.replicate (2 * x.n + 3) 15) (x.wotsSk sk seed ad))
  | z + 1, i => x.th false seed ⟨layer, tree, 2, 0, z + 1, i⟩ (SlhPar.node x sk seed layer tree z (2 * i) ++ SlhPar.node x sk seed layer tree z (2 * i + 1))

/-- A path from a leaf value up to the root. -/
def climb (f : Nat → Nat → List Byte → List Byte → List Byte) : Nat → Nat → List Byte → List (List Byte) → List Byte
  | _, _, v, [] => v
  | z, i, v, p :: t => climb f (z + 1) (i / 2) (if i % 2 = 0 then f (z + 1) (i / 2) v p else f (z + 1) (i / 2) p v) t

/-- An XMSS signature of a value with leaf i. -/
def SlhPar.xmssSign (x : SlhPar) (sk seed : List Byte) (layer tree i : Nat) (m : List Byte) : List Byte :=
  let ad : Adrs := ⟨layer, tree, 0, i, 0, 0⟩
  (x.chains seed ad [] (wotsDigits 3 4 m) (x.wotsSk sk seed ad)).flatten ++
    (List.range (x.h / x.d)).flatMap (fun z => x.node sk seed layer tree z ((i / 2 ^ z) ^^^ 1))

/-- The byte string cut into pieces of n bytes. -/
def pieces (n : Nat) (l : List Byte) : List (List Byte) := streamBlocks n l

/-- The root that an XMSS signature gives. -/
def SlhPar.xmssRoot (x : SlhPar) (seed : List Byte) (layer tree i : Nat) (m sig : List Byte) : List Byte :=
  let len := 2 * x.n + 3
  let ad : Adrs := ⟨layer, tree, 0, i, 0, 0⟩
  let ps := pieces x.n sig
  let ds := wotsDigits 3 4 m
  climb (fun z j a b => x.th false seed ⟨layer, tree, 2, 0, z, j⟩ (a ++ b)) 0 i
    (x.wotsPk seed ad (x.chains seed ad ds (ds.map (15 - ·)) (ps.take len))) (ps.drop len)

/-- Node i at height z of the FORS trees of a key pair. -/
def SlhPar.fors (x : SlhPar) (sk seed : List Byte) (tree leaf : Nat) : Nat → Nat → List Byte
  | 0, i => x.th true seed ⟨0, tree, 3, leaf, 0, i⟩ (x.th true seed ⟨0, tree, 6, leaf, 0, i⟩ sk)
  | z + 1, i => x.th false seed ⟨0, tree, 3, leaf, z + 1, i⟩ (SlhPar.fors x sk seed tree leaf z (2 * i) ++ SlhPar.fors x sk seed tree leaf z (2 * i + 1))

/-- The FORS digest, the tree and the leaf that a message digest names. -/
def SlhPar.indices (x : SlhPar) (dg : List Byte) : List Nat × Nat × Nat :=
  let a := ceilDiv (x.k * x.a) 8
  let hp := x.h / x.d
  let b := ceilDiv (x.h - hp) 8
  (digitsBE x.a x.k (dg.take a), beAt dg a b % 2 ^ (x.h - hp), beAt dg (a + b) (ceilDiv hp 8) % 2 ^ hp)

/-- The layers of the hypertree, from a layer on: signatures of the value below. -/
def SlhPar.htSign (x : SlhPar) (sk seed : List Byte) : Nat → Nat → Nat → Nat → List Byte → List Byte
  | 0, _, _, _, _ => []
  | f + 1, layer, tree, leaf, m =>
    let hp := x.h / x.d
    let s := x.xmssSign sk seed layer tree leaf m
    s ++ SlhPar.htSign x sk seed f (layer + 1) (tree / 2 ^ hp) (tree % 2 ^ hp) (x.xmssRoot seed layer tree leaf m s)

def SlhPar.htRoot (x : SlhPar) (seed : List Byte) : Nat → Nat → Nat → Nat → List Byte → List Byte → List Byte
  | 0, _, _, _, m, _ => m
  | f + 1, layer, tree, leaf, m, sig =>
    let hp := x.h / x.d
    let n := x.n * (2 * x.n + 3 + hp)
    SlhPar.htRoot x seed f (layer + 1) (tree / 2 ^ hp) (tree % 2 ^ hp) (x.xmssRoot seed layer tree leaf m (sig.take n)) (sig.drop n)

/-- The FORS public key of the leaf values and paths of a signature. -/
def SlhPar.forsRoot (x : SlhPar) (seed : List Byte) (tree leaf : Nat) (ix : List Nat) (sig : List Byte) : List Byte :=
  x.th false seed ⟨0, tree, 4, leaf, 0, 0⟩ ((List.range x.k).flatMap (fun i =>
    let ps := pieces x.n (slice sig (x.n * (x.a + 1) * i) (x.n * (x.a + 1)))
    let j := ix.getD i 0 + i * 2 ^ x.a
    climb (fun z k a b => x.th false seed ⟨0, tree, 3, leaf, z, k⟩ (a ++ b)) 0 j (x.th true seed ⟨0, tree, 3, leaf, 0, j⟩ (ps.headD [])) (ps.drop 1)))

/-- The private key: SK.seed, SK.prf, PK.seed, PK.root. -/
def slhGen (par : Nat) (rand : List Byte) : List Byte :=
  let x := slhPar par
  let seed := slice rand (2 * x.n) x.n
  rand.take (3 * x.n) ++ x.node (rand.take x.n) seed (x.d - 1) 0 (x.h / x.d) 0

/-- A signature; `rnd` is opt_rand. -/
def slhSign (par : Nat) (priv m rnd : List Byte) : List Byte :=
  let x := slhPar par
  let sk := priv.take x.n
  let seed := slice priv (2 * x.n) x.n
  let r := x.prfMsg (slice priv x.n x.n) rnd m
  let (ix, tree, leaf) := x.indices (x.hMsg r seed (slice priv (3 * x.n) x.n) m)
  let f := (List.range x.k).flatMap (fun i =>
    let j := ix.getD i 0
    x.th true seed ⟨0, tree, 6, leaf, 0, j + i * 2 ^ x.a⟩ sk ++
      (List.range x.a).flatMap (fun z => x.fors sk seed tree leaf z (i * 2 ^ (x.a - z) + ((j / 2 ^ z) ^^^ 1))))
  r ++ f ++ x.htSign sk seed x.d 0 tree leaf (x.forsRoot seed tree leaf ix f)

def slhVerify (par : Nat) (pub m sig : List Byte) : Bool :=
  let x := slhPar par
  let seed := pub.take x.n
  let root := pub.drop x.n
  let (ix, tree, leaf) := x.indices (x.hMsg (sig.take x.n) seed root m)
  let fl := x.k * (x.a + 1) * x.n
  x.htRoot seed x.d 0 tree leaf (x.forsRoot seed tree leaf ix (slice sig x.n fl)) (sig.drop (x.n + fl)) == root

/-! LMS and HSS (RFC 8554, SP 800-208). The index of family 0x05 gives the hash. -/

/-- The hash of an index, n bytes long. -/
def lmsHash (par : Nat) (m : List Byte) : List Byte := if par < 2 then (kSha256.hash m 32).take (lmsN par) else kShake256.hash m (lmsN par)

/-- Type codes of LM-OTS and LMS. -/
def otsType (par w : Nat) : Nat := 4 * par + (if w = 1 then 1 else if w = 2 then 2 else if w = 4 then 3 else 4)
def lmsCode (par h : Nat) : Nat := lmsType par + (h / 5 - 1)

/-- s steps of an LM-OTS chain from step j. -/
def otsChain (par : Nat) (pre : List Byte) : Nat → Nat → List Byte → List Byte
  | 0, _, v => v
  | s + 1, j, v => otsChain par pre s (j + 1) (lmsHash par (pre ++ [BitVec.ofNat 8 j] ++ v))

/-- What stands before the step number in chain i of key q. -/
def otsPre (i : List Byte) (q c : Nat) : List Byte := i ++ natBE 4 q ++ natBE 2 c

/-- The secret value of chain c (RFC 8554, Appendix A). -/
def otsSk (par : Nat) (seed i : List Byte) (q c : Nat) : List Byte := lmsHash par (otsPre i q c ++ [0xff] ++ seed)

/-- The LM-OTS public key of chain ends. -/
def otsPk (par : Nat) (i : List Byte) (q : Nat) (ends : List (List Byte)) : List Byte := lmsHash par (i ++ natBE 4 q ++ [0x80, 0x80] ++ ends.flatten)

/-- Digits of a message under an LM-OTS key. -/
def otsDigits (par w : Nat) (i : List Byte) (q : Nat) (c m : List Byte) : List Nat :=
  wotsDigits (otsP (lmsN par) w - 8 * lmsN par / w) w (lmsHash par (i ++ natBE 4 q ++ [0x81, 0x81] ++ c ++ m))

/-- Node j at height z of an LMS tree of height h: node 2^(h − z) + j of RFC 8554. -/
def lmsNode (par h w : Nat) (seed i : List Byte) : Nat → Nat → List Byte
  | 0, q =>
    let ends := (List.range (otsP (lmsN par) w)).map (fun c => otsChain par (otsPre i q c) (2 ^ w - 1) 0 (otsSk par seed i q c))
    lmsHash par (i ++ natBE 4 (2 ^ h + q) ++ [0x82, 0x82] ++ otsPk par i q ends)
  | z + 1, j =>
    lmsHash par (i ++ natBE 4 (2 ^ (h - (z + 1)) + j) ++ [0x83, 0x83] ++ lmsNode par h w seed i z (2 * j) ++ lmsNode par h w seed i z (2 * j + 1))

/-- The LMS public key of a tree. -/
def lmsPub (par h w : Nat) (seed i : List Byte) : List Byte :=
  natBE 4 (lmsCode par h) ++ natBE 4 (otsType par w) ++ i ++ lmsNode par h w seed i h 0

/-- The LMS signature of a message with leaf q and randomiser c; `path z` is the path's node at height z. -/
def lmsSign (par h w : Nat) (seed i : List Byte) (q : Nat) (c m : List Byte) (path : Nat → List Byte) : List Byte :=
  let ds := otsDigits par w i q c m
  natBE 4 q ++ natBE 4 (otsType par w) ++ c ++
    (List.range ds.length).flatMap (fun k => otsChain par (otsPre i q k) (ds.getD k 0) 0 (otsSk par seed i q k)) ++
    natBE 4 (lmsCode par h) ++ (List.range h).flatMap path

/-- The height and Winternitz parameter that a public key's type codes name under an index. -/
def lmsTypes (par : Nat) (pub : List Byte) : Option (Nat × Nat) :=
  let a := beAt pub 0 4
  let b := beAt pub 4 4
  if lmsType par ≤ a ∧ a < lmsType par + 5 ∧ 4 * par + 1 ≤ b ∧ b ≤ 4 * par + 4 then
    some (5 * (a - lmsType par + 1), 2 ^ (b - 4 * par - 1))
  else none

/-- Length of an LMS signature by its type codes; none where they are not those of the key. -/
def lmsVerify (par : Nat) (pub m sig : List Byte) : Bool :=
  match lmsTypes par pub with
  | none => false
  | some (h, w) =>
    let n := lmsN par
    let p := otsP n w
    let i := slice pub 8 16
    let q := beAt sig 0 4
    let c := slice sig 8 n
    let ys := pieces n (slice sig (8 + n) (n * p))
    let ds := otsDigits par w i q c m
    let ends := (List.range p).map (fun k => otsChain par (otsPre i q k) (2 ^ w - 1 - ds.getD k 0) (ds.getD k 0) (ys.getD k []))
    let leaf := lmsHash par (i ++ natBE 4 (2 ^ h + q) ++ [0x82, 0x82] ++ otsPk par i q ends)
    sig.length == 12 + n * (p + 1) + n * h && beAt sig 4 4 == beAt pub 4 4 && beAt sig (8 + n * (p + 1)) 4 == beAt pub 0 4 && decide (q < 2 ^ h) &&
      climb (fun z j a b => lmsHash par (i ++ natBE 4 (2 ^ (h - z) + j) ++ [0x83, 0x83] ++ a ++ b)) 0 q leaf (pieces n (sig.drop (12 + n * (p + 1)))) ==
        pub.drop 24

/-- The levels of an HSS signature: Nspk signed public keys, then the signature of the message. -/
def hssLevels (par : Nat) (m : List Byte) : Nat → List Byte → List Byte → Bool
  | 0, pub, sig => lmsVerify par pub m sig
  | k + 1, pub, sig =>
    match lmsTypes par pub with
    | none => false
    | some l =>
      let n := lmsSigLen (lmsN par) l
      let next := slice sig n (24 + lmsN par)
      next.length == 24 + lmsN par && lmsVerify par pub next (sig.take n) && hssLevels par m k next (sig.drop (n + 24 + lmsN par))

/-- HSS verification (RFC 8554, R40): L and Nspk agree, and every level verifies. -/
def hssVerify (par : Nat) (pub m sig : List Byte) : Bool :=
  let l := beAt pub 0 4
  decide (1 ≤ l) && decide (l ≤ 8) && pub.length == 28 + lmsN par && decide (4 ≤ sig.length) && beAt sig 0 4 + 1 == l &&
    hssLevels par m (l - 1) (pub.drop 4) (sig.drop 4)

/-! XMSS and XMSS^MT (RFC 8391, SP 800-208). -/

/-- The hash of a shape: a prefix of 32 bytes for n = 32 and of 4 bytes for n = 24 names the function. -/
def HbsShape.xh (x : HbsShape) (f : Nat) (m : List Byte) : List Byte :=
  let b := natBE (if x.n = 32 then 32 else 4) f ++ m
  if x.shake then kShake256.hash b x.n else (kSha256.hash b 32).take x.n

/-- An address of RFC 8391 with its keyAndMask word. -/
def Adrs.xbytes (a : Adrs) (hash km : Nat) : List Byte :=
  natBE 4 a.layer ++ natBE 8 a.tree ++ natBE 4 a.ty ++ natBE 4 a.w1 ++ natBE 4 a.w2 ++ natBE 4 hash ++ natBE 4 km

/-- One chain step. -/
def HbsShape.xF (x : HbsShape) (seed : List Byte) (a : Adrs) (hash : Nat) (v : List Byte) : List Byte :=
  x.xh 0 (x.xh 3 (seed ++ a.xbytes hash 0) ++ xorBytes v (x.xh 3 (seed ++ a.xbytes hash 1)))

/-- The randomised hash of two nodes. -/
def HbsShape.xH (x : HbsShape) (seed : List Byte) (a : Adrs) (l r : List Byte) : List Byte :=
  x.xh 1 (x.xh 3 (seed ++ a.xbytes a.w3 0) ++ xorBytes l (x.xh 3 (seed ++ a.xbytes a.w3 1)) ++ xorBytes r (x.xh 3 (seed ++ a.xbytes a.w3 2)))

def HbsShape.xChain (x : HbsShape) (seed : List Byte) (a : Adrs) : Nat → Nat → List Byte → List Byte
  | 0, _, v => v
  | s + 1, i, v => HbsShape.xChain x seed a s (i + 1) (x.xF seed a i v)

/-- Chains of the OTS key of leaf i from the values given, with first steps and numbers of steps. -/
def HbsShape.xChains (x : HbsShape) (seed : List Byte) (layer tree i : Nat) (at_ steps : List Nat) (vs : List (List Byte)) : List (List Byte) :=
  (List.range vs.length).map (fun c => x.xChain seed ⟨layer, tree, 0, i, c, 0⟩ (steps.getD c 0) (at_.getD c 0) (vs.getD c []))

/-- The secret values of the OTS key of leaf i (SP 800-208). -/
def HbsShape.xSk (x : HbsShape) (sk seed : List Byte) (layer tree i : Nat) : List (List Byte) :=
  (List.range (2 * x.n + 3)).map (fun c => x.xh 4 (sk ++ seed ++ (Adrs.mk layer tree 0 i c 0).xbytes 0 0))

/-- One level of an L-tree: pairs are hashed, an odd node stays. -/
def lPairs (f : Nat → List Byte → List Byte → List Byte) : Nat → List (List Byte) → List (List Byte)
  | i, a :: b :: t => f i a b :: lPairs f (i + 1) t
  | _, l => l

/-- The root of an L-tree; the first argument bounds its height. -/
def HbsShape.lTree (x : HbsShape) (seed : List Byte) (layer tree i : Nat) : Nat → Nat → List (List Byte) → List Byte
  | 0, _, l => l.headD []
  | f + 1, z, l =>
    if l.length ≤ 1 then l.headD []
    else HbsShape.lTree x seed layer tree i f (z + 1) (lPairs (fun j a b => x.xH seed ⟨layer, tree, 1, i, z, j⟩ a b) 0 l)

/-- Node j at height z of a tree. -/
def HbsShape.xNode (x : HbsShape) (sk seed : List Byte) (layer tree : Nat) : Nat → Nat → List Byte
  | 0, i => x.lTree seed layer tree i 8 0 (x.xChains seed layer tree i [] (List.replicate (2 * x.n + 3) 15) (x.xSk sk seed layer tree i))
  | z + 1, j => x.xH seed ⟨layer, tree, 2, 0, z, j⟩ (HbsShape.xNode x sk seed layer tree z (2 * j)) (HbsShape.xNode x sk seed layer tree z (2 * j + 1))

/-- The OTS part and the path of a signature with leaf i of a tree. -/
def HbsShape.xTreeSig (x : HbsShape) (sk seed : List Byte) (layer tree i : Nat) (m : List Byte) (path : Nat → List Byte) : List Byte :=
  (x.xChains seed layer tree i [] (wotsDigits 3 4 m) (x.xSk sk seed layer tree i)).flatten ++ (List.range (x.height / x.d)).flatMap path

/-- The root that the OTS part and the path give. -/
def HbsShape.xTreeRoot (x : HbsShape) (seed : List Byte) (layer tree i : Nat) (m sig : List Byte) : List Byte :=
  let len := 2 * x.n + 3
  let ps := pieces x.n sig
  let ds := wotsDigits 3 4 m
  climb (fun z j a b => x.xH seed ⟨layer, tree, 2, 0, z - 1, j⟩ a b) 0 i
    (x.lTree seed layer tree i 8 0 (x.xChains seed layer tree i ds (ds.map (15 - ·)) (ps.take len))) (ps.drop len)

/-- The message digest with randomiser r. -/
def HbsShape.xMsg (x : HbsShape) (r root : List Byte) (idx : Nat) (m : List Byte) : List Byte := x.xh 2 (r ++ root ++ natBE x.n idx ++ m)

/-- Bytes of the index in a signature. -/
def HbsShape.idxLen (x : HbsShape) : Nat := if x.d = 1 then 4 else ceilDiv x.height 8

/-- The roots of the layers that a signature gives, from a layer on. -/
def HbsShape.xRoot (x : HbsShape) (seed : List Byte) : Nat → Nat → Nat → List Byte → List Byte → List Byte
  | 0, _, _, m, _ => m
  | f + 1, layer, idx, m, sig =>
    let hp := x.height / x.d
    let n := x.n * (2 * x.n + 3 + hp)
    HbsShape.xRoot x seed f (layer + 1) (idx / 2 ^ hp) (x.xTreeRoot seed layer (idx / 2 ^ hp) (idx % 2 ^ hp) m (sig.take n)) (sig.drop n)

/-- XMSS and XMSS^MT verification. -/
def xmssVerify (par : Nat) (pub m sig : List Byte) : Bool :=
  match xmssShape par (beAt pub 0 4) with
  | none => false
  | some x =>
    let k := x.idxLen
    let idx := beAt sig 0 k
    let root := slice pub 4 x.n
    let seed := pub.drop (4 + x.n)
    sig.length == x.sigLen && pub.length == x.pkLen && decide (idx < x.leaves) &&
      x.xRoot seed x.d 0 idx (x.xMsg (slice sig k x.n) root idx m) (sig.drop (k + x.n)) == root

/-! Stateful private keys: the shape, then the drawn seeds (log entry 35). -/

/-- Bytes of the shape before the seeds. -/
def hbsHead : Nat := 20

/-- The shape as bytes: L with (height, w) of each level, or the OID. -/
def HbsShape.enc (x : HbsShape) : List Byte :=
  fixLen hbsHead (if x.d = 0 then BitVec.ofNat 8 x.levels.length :: x.levels.flatMap (fun l => [BitVec.ofNat 8 l.1, BitVec.ofNat 8 l.2]) else natBE 4 x.oid)

/-- The shape of a private key. -/
def shapeOf (fam par : Nat) (priv : List Byte) : HbsShape :=
  if fam = 5 then lmsShape par ((List.range (leAt priv 0 1)).map (fun i => (leAt priv (1 + 2 * i) 1, leAt priv (2 + 2 * i) 1)))
  else (xmssShape par (beAt priv 0 4)).getD (lmsShape 0 [])

/-- Key-grade bytes of key generation (R31). -/
def HbsShape.draw (x : HbsShape) : Nat := if x.d = 0 then (x.n + 16) * x.levels.length else 3 * x.n

/-- SEED and I of tree t at a level of an HSS key: the first tree's are drawn, the successors' follow from them in a way the spec does not
give (log entry 35). -/
def hssSeeds (x : HbsShape) (priv : List Byte) (lev t : Nat) : List Byte × List Byte :=
  let own := slice priv (hbsHead + (x.n + 16) * lev) (x.n + 16)
  let b := if t = 0 then own else fixLen (x.n + 16) (Config.treeSeed own lev t)
  (b.take x.n, b.drop x.n)

/-- The tree at a level that serves combined leaf q, and its leaf. -/
def HbsShape.place (x : HbsShape) (lev q : Nat) : Nat × Nat :=
  let below := (x.heights.drop (lev + 1)).foldl (· + ·) 0
  let h := x.heights.getD lev 0
  (q / 2 ^ (below + h), q / 2 ^ below % 2 ^ h)

/-- Node j at height z of tree t at a level, level 0 the top one. -/
def hbsNode (fam par : Nat) (x : HbsShape) (priv : List Byte) (lev t z j : Nat) : List Byte :=
  if fam = 5 then
    let s := hssSeeds x priv lev t
    let l := x.levels.getD lev (5, 8)
    lmsNode par l.1 l.2 s.1 s.2 z j
  else x.xNode (slice priv hbsHead x.n) (slice priv (hbsHead + 2 * x.n) x.n) (x.d - 1 - lev) t z j

/-- The public key of a stateful key. -/
def hbsPub (fam par : Nat) (priv : List Byte) : List Byte :=
  let x := shapeOf fam par priv
  if fam = 5 then
    let s := hssSeeds x priv 0 0
    let l := x.levels.getD 0 (5, 8)
    natBE 4 x.levels.length ++ lmsPub par l.1 l.2 s.1 s.2
  else natBE 4 x.oid ++ hbsNode fam par x priv 0 0 (x.heights.getD 0 0) 0 ++ slice priv (hbsHead + 2 * x.n) x.n

/-- The signed public key of the tree at a level below the top that serves leaf q: the upper level signs its root once (R225), with a
randomiser the spec does not give (log entry 35). -/
def hssLink (par : Nat) (x : HbsShape) (priv : List Byte) (lev q : Nat) : List Byte :=
  let lo := x.levels.getD lev (5, 8)
  let hi := x.levels.getD (lev - 1) (5, 8)
  let (t, _) := x.place lev q
  let (tu, qu) := x.place (lev - 1) q
  let s := hssSeeds x priv lev t
  let u := hssSeeds x priv (lev - 1) tu
  let pub := lmsPub par lo.1 lo.2 s.1 s.2
  lmsSign par hi.1 hi.2 u.1 u.2 qu (fixLen x.n (Config.rootRand (slice priv hbsHead x.n) lev t)) pub
    (fun z => hbsNode 5 par x priv (lev - 1) tu z ((qu / 2 ^ z) ^^^ 1)) ++ pub

/-- Node j at height z that a tree's state holds: of the top part, or of the current subtree. -/
def HbsTree.node (x : HbsTree) (n h z j : Nat) : List Byte :=
  let hb := ceilDiv h 2
  if z < hb then slice x.cur (n * (2 ^ (hb + 1) - 2 ^ (hb - z + 1) + j % 2 ^ (hb - z))) n
  else slice x.top (n * (2 ^ (h - hb + 1) - 2 ^ (h - z + 1) + j)) n

/-- The serving tree of a level among the trees of a key. -/
def servingTree (trees : List HbsTree) (lev : Nat) : HbsTree := trees.getD (if lev = 0 then 0 else 2 * lev - 1) ⟨0, [], [], []⟩

/-- The layers of an XMSS or XMSS^MT signature from a layer on; paths and roots come from the trees of the private state (R220). -/
def HbsShape.xLayers (x : HbsShape) (sk seed : List Byte) (trees : List HbsTree) : Nat → Nat → Nat → List Byte → List Byte
  | 0, _, _, _ => []
  | f + 1, layer, idx, m =>
    let hp := x.height / x.d
    let i := idx % 2 ^ hp
    let tr := servingTree trees (x.d - 1 - layer)
    x.xTreeSig sk seed layer (idx / 2 ^ hp) i m (fun z => tr.node x.n hp z ((i / 2 ^ z) ^^^ 1)) ++
      HbsShape.xLayers x sk seed trees f (layer + 1) (idx / 2 ^ hp) (tr.node x.n hp hp 0)

/-- The signature of a message with combined leaf q, from the trees and the signed public keys of the private state before that leaf is
used; `rand` is C of LMS (R220). -/
def hbsSign (fam par : Nat) (priv : List Byte) (trees : List HbsTree) (links : List (List Byte)) (q : Nat) (rand m : List Byte) : List Byte :=
  let x := shapeOf fam par priv
  if fam = 5 then
    let lev := x.levels.length - 1
    let l := x.levels.getD lev (5, 8)
    let (t, i) := x.place lev q
    let s := hssSeeds x priv lev t
    natBE 4 lev ++ links.flatten ++ lmsSign par l.1 l.2 s.1 s.2 i rand m (fun z => (servingTree trees lev).node x.n l.1 z ((i / 2 ^ z) ^^^ 1))
  else
    let sk := slice priv hbsHead x.n
    let seed := slice priv (hbsHead + 2 * x.n) x.n
    let h := x.heights.getD 0 0
    let root := (servingTree trees 0).node x.n h h 0
    let r := x.xh 3 (slice priv (hbsHead + x.n) x.n ++ natBE 32 q)
    natBE x.idxLen q ++ r ++ x.xLayers sk seed trees x.d 0 q (x.xMsg r root q m)

/-! The private state beside the seeds (R222). -/

/-- Nodes of levels z0 to z1 under one node of level z1, from the lowest level up, those whose leaves are not all below `built` as zeros. -/
def nodeBytes (n z0 z1 root built : Nat) (nd : Nat → Nat → List Byte) : List Byte :=
  (List.range (z1 + 1 - z0)).flatMap (fun k =>
    let z := z0 + k
    let w := 2 ^ (z1 - z)
    (List.range w).flatMap (fun i => let j := root * w + i; if (j + 1) * 2 ^ z ≤ built then nd z j else zeros n))

/-- The state of a tree of height h whose next leaf is i. -/
def treeState (n h t i : Nat) (nd : Nat → Nat → List Byte) : HbsTree :=
  let hb := ceilDiv h 2
  let s := i / 2 ^ hb
  { tree := t
    top := nodeBytes n hb h 0 (2 ^ h) nd
    cur := nodeBytes n 0 hb s (2 ^ h) nd
    nxt := if (s + 1) * 2 ^ hb < 2 ^ h then nodeBytes n 0 hb (s + 1) ((s + 1) * 2 ^ hb + i % 2 ^ hb) nd else zeros (n * (2 ^ (hb + 1) - 1)) }

/-- The state of a successor of which i leaves are built (R225): it is complete when the tree before it is exhausted. -/
def succState (n h t i : Nat) (nd : Nat → Nat → List Byte) : HbsTree :=
  let hb := ceilDiv h 2
  { tree := t, top := nodeBytes n hb h 0 i nd, cur := nodeBytes n 0 hb 0 i nd, nxt := zeros (n * (2 ^ (hb + 1) - 1)) }

/-- The trees of a key before combined leaf q is used: at each level the serving tree, and below the top its successor. -/
def hbsTrees (fam par : Nat) (priv : List Byte) (q : Nat) : List HbsTree :=
  let x := shapeOf fam par priv
  (List.range x.heights.length).flatMap (fun lev =>
    let (t, i) := x.place lev q
    let h := x.heights.getD lev 0
    treeState x.n h t i (hbsNode fam par x priv lev t) ::
      (if lev = 0 then [] else [succState x.n h (t + 1) i (hbsNode fam par x priv lev (t + 1))]))

/-- The signed public keys of the lower levels for leaf q; a SIGN that crosses to a successor changes its level's (R225). -/
def hbsLinks (fam par : Nat) (priv : List Byte) (q : Nat) : List (List Byte) :=
  let x := shapeOf fam par priv
  if fam = 5 then (List.range (x.levels.length - 1)).map (fun i => hssLink par x priv (i + 1) q) else []

/-- T(h) of R222. -/
def treeNodes (h : Nat) : Nat := let hb := ceilDiv h 2; (2 ^ (h - hb + 1) - 1) + 2 * (2 ^ (hb + 1) - 1)

/-- Bytes of the private state: 64 of seeds and identifiers, and the nodes; every level below the top counts twice (R222). -/
def HbsShape.stateLen (x : HbsShape) : Nat :=
  64 + x.n * ((List.range x.heights.length).foldl (fun a lev => a + (if lev = 0 then 1 else 2) * treeNodes (x.heights.getD lev 0)) 0)

end Sys2Proof.Machine
end

