-- ==== Sys2Proof/Machine/Ntru.lean ====
section
/-!
DEFINITION. FN-DSA (R18, R24, R28): keys, signatures and verification as NIST's standard forms them (PRESUMED from its draft, log entry 4).
The solution of the NTRU equation and the sampler are functions without a body. Polynomials are lists of n coefficients.
-/
namespace Sys2Proof.Machine
open Sys2Proof

def fnQ : Nat := 12289
def fnLog (par : Nat) : Nat := if par = 0 then 9 else 10
def fnN (par : Nat) : Nat := 2 ^ fnLog par
/-- Bits of a coefficient of f and g in a private key. -/
def fnBits (par : Nat) : Nat := if par = 0 then 6 else 5
/-- Bound of the squared norm. -/
def fnBound (par : Nat) : Nat := if par = 0 then 34034726 else 70265242
/-- Bytes of the padded signature that hold the coefficients. -/
def fnRoom (par : Nat) : Nat := (if par = 0 then 666 else 1280) - 41

/-- Integers of d bits, most significant bit first. -/
def fnPack (d : Nat) (l : List Int) : List Byte := natBE (d * l.length / 8) (l.foldl (fun a x => a * 2 ^ d + (x % 2 ^ d).toNat) 0)
def fnUnpack (d n : Nat) (b : List Byte) : List Nat := (List.range n).map (fun i => beNat b >>> (d * (n - 1 - i)) % 2 ^ d)
/-- An integer of d bits in two's complement. -/
def fnSigned (d x : Nat) : Int := if x < 2 ^ (d - 1) then (x : Int) else (x : Int) - 2 ^ d

/-! Arithmetic modulo q and x^n + 1, through the values at the roots of x^n + 1. -/

/-- Power k of a primitive root of order 2n. -/
def fnRoot (par k : Nat) : Nat := powMod 7 (k % (2 * fnN par) * (1024 / fnN par)) fnQ
def fnEval (par : Nat) (f : List Int) : List Nat :=
  (List.range (fnN par)).map (fun i => ((List.zipIdx f).foldl (fun (a : Int) x => (a + x.1 * fnRoot par ((2 * i + 1) * x.2)) % fnQ) 0).toNat)
def fnInterp (par : Nat) (v : List Nat) : List Int :=
  (List.range (fnN par)).map (fun j =>
    ((powMod (fnN par) (fnQ - 2) fnQ * (List.zipIdx v).foldl (fun a x => (a + x.1 * fnRoot par (2 * fnN par - (2 * x.2 + 1) * j % (2 * fnN par))) % fnQ) 0 % fnQ : Nat) : Int))
def fnMul (par : Nat) (a b : List Int) : List Int := fnInterp par (List.zipWith (fun x y => x * y % fnQ) (fnEval par a) (fnEval par b))
def fnDiv (par : Nat) (a b : List Int) : List Int :=
  fnInterp par (List.zipWith (fun x y => x * powMod y (fnQ - 2) fnQ % fnQ) (fnEval par a) (fnEval par b))

/-! Keys. -/

/-- A private key: header, f and g, F. -/
def fnGen (par : Nat) (seed : List Byte) : List Byte :=
  let p (i : Nat) : List Int := (List.range (fnN par)).map (Config.fnSolve par seed i)
  BitVec.ofNat 8 (0x50 + fnLog par) :: fnPack (fnBits par) (p 0) ++ fnPack (fnBits par) (p 1) ++ fnPack 8 (p 2)

/-- The public key of a private key: header, h = g / f of 14 bits a coefficient. -/
def fnPub (par : Nat) (priv : List Byte) : List Byte :=
  let len := fnBits par * fnN par / 8
  let p (i : Nat) : List Int := (fnUnpack (fnBits par) (fnN par) (slice priv (1 + i * len) len)).map (fnSigned (fnBits par))
  BitVec.ofNat 8 (fnLog par) :: fnPack 14 (fnDiv par (p 1) (p 0))

/-! Signatures. -/

/-- The point that a message is hashed to. -/
def fnPoint (par : Nat) (pub msg salt : List Byte) : List Nat :=
  (sampleGrow kShake256 (salt ++ kShake256.hash pub 64 ++ msg) (sampleWords 2 (fnN par) (fun b =>
    let t := beNat b
    if t < 61445 then [t % fnQ] else [])) 64 (4 * fnN par)).getD []

def byteBits (b : Byte) : List Bool := (List.range 8).map (fun i => b.getLsbD (7 - i))
def bitsByte (l : List Bool) : Byte := BitVec.ofNat 8 ((List.range 8).foldl (fun a i => 2 * a + b2n (l.getD i false)) 0)

/-- One coefficient: its sign, its seven low bits, its high part in unary. -/
def fnCode (x : Int) : List Bool :=
  let a := x.natAbs
  decide (x < 0) :: (List.range 7).map (fun i => a.testBit (6 - i)) ++ List.replicate (a / 128) false ++ [true]

/-- The signature of a salt and coefficients, filled with zeros; none where they do not fit. -/
def fnSig (par : Nat) (salt : List Byte) (s2 : List Int) : Option (List Byte) :=
  let bits := s2.flatMap fnCode
  if bits.length ≤ 8 * fnRoom par then
    some (BitVec.ofNat 8 (0x30 + fnLog par) :: salt ++ (List.range (fnRoom par)).map (fun i => bitsByte (bits.drop (8 * i))))
  else none

/-- n coefficients off a bit string and the rest of it; none for a negative zero, a high part above 15 or an end of the bits. -/
def fnDecode : Nat → List Bool → Option (List Int × List Bool)
  | 0, b => some ([], b)
  | n + 1, b =>
    let hi := ((b.drop 8).takeWhile (fun x => !x)).length
    let a := (List.range 7).foldl (fun a i => 2 * a + b2n (b.getD (i + 1) false)) 0 + 128 * hi
    let neg := b.getD 0 false
    if b.length < 9 + hi ∨ hi > 15 ∨ (neg ∧ a = 0) then none
    else (fnDecode n (b.drop (9 + hi))).map (fun (r : List Int × List Bool) => ((if neg then -(a : Int) else (a : Int)) :: r.1, r.2))

/-- The residue of least magnitude. -/
def fnCentre (x : Int) : Int := if x % fnQ ≤ (fnQ / 2 : Nat) then x % fnQ else x % fnQ - fnQ

/-- Verification of a message in its standard form: every field in range and canonical, and (c - s2 h, s2) short. -/
def fnVerify (par : Nat) (pub msg sig : List Byte) : Bool :=
  let h := (fnUnpack 14 (fnN par) (pub.drop 1))
  match fnDecode (fnN par) ((sig.drop 41).flatMap byteBits) with
  | none => false
  | some (s2, rest) =>
    let c := fnPoint par pub msg (slice sig 1 40)
    let s1 := List.zipWith (fun (x : Nat) (y : Int) => fnCentre ((x : Int) - y)) c (fnMul par s2 (h.map (fun (x : Nat) => (x : Int))))
    let norm := (s1 ++ s2).foldl (fun a x => a + x.natAbs * x.natAbs) 0
    leAt pub 0 1 == fnLog par && h.all (· < fnQ) && leAt sig 0 1 == 0x30 + fnLog par && rest.all (fun x => !x) && decide (norm ≤ fnBound par)

/-- One attempt (R18): a salt and a sampler seed; none where the result is not short or does not fit. -/
def fnTry (par : Nat) (priv pub msg salt seed : List Byte) : Option (List Byte) :=
  let c := fnPoint par pub msg salt
  (fnSig par salt ((List.range (fnN par)).map (Config.fnSample par priv c seed))).filter (fnVerify par pub msg)

end Sys2Proof.Machine
end

