-- ==== Sys2Proof/Machine/Schemes.lean ====
section
/-!
DEFINITION. One view of the public-key schemes for the algorithm services: key generation, public keys, encapsulation, signatures,
agreement, and the checks of material and of results (R16 to R51, R145, R152, R253, R257).
-/
namespace Sys2Proof.Machine
open Sys2Proof

/-- Private-key bytes of generation: none where the algorithm needs more of the entropy stream (R31, R251). A stateful key is the shape and
the drawn seeds. -/
def schemeGen (c : Option CurveSpec) (fam par : Nat) (ffdh : Bool) (shape : HbsShape) (rand : List Byte) : Option (List Byte) :=
  match fam with
  | 0x01 => some (kyGen par (rand.take 64))
  | 0x02 => some (diGen par (rand.take 32)).1
  | 0x03 => some (fnGen par (rand.take 48))
  | 0x04 => some (slhGen par rand)
  | 0x05 | 0x06 => some (shape.enc ++ rand.take shape.draw)
  | 0x07 => (firstTry rand 32 (mceGen par) (rand.length + 1) 0).map (fun x => x.1)
  | 0x08 => some (hqcGen par rand)
  | 0x09 =>
    if ffdh then
      let n := (ffdhLen par).getD 0
      (firstTry rand n (scalarOf 2 ((ffdhP par - 1) / 2)) (rand.length + 1) 0).map (fun x => natBE n x.1)
    else rsaGen par rand
  | 0x0A => match c with
    | some c => (firstTry rand (scalarDraw c.nBits) (scalarOf 1 c.n) (rand.length + 1) 0).map (fun x => natBE (ceilDiv c.nBits 8) x.1)
    | none => some []
  | 0x0B => some (rand.take (match edLens par with | some (_, k, _) => k | none => 0))
  | _ => some (rand.take (16 * par))

/-- The public key of a private key. -/
def schemePub (c : Option CurveSpec) (fam par : Nat) (ffdh : Bool) (priv : List Byte) : List Byte :=
  match fam with
  | 0x01 => slice priv (384 * (kyPar par).1) (384 * (kyPar par).1 + 32)
  | 0x02 => diPub par priv
  | 0x03 => fnPub par priv
  | 0x04 => priv.drop (2 * slhN par)
  | 0x05 | 0x06 => hbsPub fam par priv
  | 0x07 => mcePub (par % 5) priv
  | 0x08 => priv.drop 40
  | 0x09 => if ffdh then ffdhPub par priv else priv.take (32 * par + 4)
  | 0x0A => match c with | some c => ecPubOf c priv | none => []
  | 0x0B => if par ≤ 4 then edPub par priv else xdhPub par priv
  | _ => []

/-! Key encapsulation (R29). -/

/-- Ciphertext and shared secret of an encapsulation with drawn bytes. -/
def kemEncaps (fam par : Nat) (pub rand : List Byte) : List Byte × List Byte :=
  if fam = 0x01 then kyEncaps par pub rand else if fam = 0x07 then mceEncaps (par % 5) pub rand else hqcEncaps par pub rand

/-- Decapsulation: a ciphertext that re-encryption does not give again yields the scheme's rejection secret. -/
def kemDecaps (fam par : Nat) (priv pub ct : List Byte) : List Byte :=
  if fam = 0x01 then kyDecaps par priv ct else if fam = 0x07 then mceDecaps (par % 5) priv pub ct else hqcDecaps par priv ct

/-! Signatures. -/

/-- The digest that an ECDSA operation signs: the input of a _PH form, else the hash of the message (R46, R421). -/
def ecdsaDigest (o h : Nat) (m : List Byte) : List Byte := if isPh o then m else hashOf h m

/-- A signature and its attempt count; none where the entropy stream ends before an attempt succeeds (R18, R31). Operation, hash, key,
leaf, message, context string or label, drawn bytes. -/
def schemeSign (c : Option CurveSpec) (fam par o h : Nat) (k : KeyMat) (leaf : Option Nat) (m ctx rand : List Byte) : Option (List Byte × Nat) :=
  let det := o == Op.SIGN_DET || o == Op.SIGN_DET_PH
  match fam with
  | 0x02 => diSignMu par k.priv (diMu o h (slice k.priv 64 64) ctx m) (if det then zeros 32 else rand.take 32)
  | 0x03 => firstTry rand 72 (fun b => fnTry par k.priv (fnPub par k.priv) (wrapMsg (isPh o) h ctx m) (b.take 40) (b.drop 40)) (rand.length + 1) 0
  | 0x04 => some (slhSign par k.priv (wrapMsg (isPh o) h ctx m) (if det then slice k.priv (2 * slhN par) (slhN par) else rand), 1)
  | 0x05 | 0x06 => some (hbsSign fam par k.priv k.trees k.links (leaf.getD 0) rand m, 1)
  | 0x09 => some (rsaSign o par h k.priv m rand, 1)
  | 0x0A => match c with
    | some c => if det then some (ecdsaDet c h k.priv (ecdsaDigest o h m), 1) else (ecdsaRand c k.priv (ecdsaDigest o h m) rand).map (fun x => (x, 1))
    | none => some ([], 1)
  | _ => some (edSign par k.priv m ctx, 1)

/-- Whether a signature verifies (R28). -/
def schemeVerify (c : Option CurveSpec) (fam par o h : Nat) (pub m sig ctx : List Byte) : Bool :=
  match fam with
  | 0x02 => diVerifyMu par pub (diMu o h (diH pub 64) ctx m) sig
  | 0x03 => fnVerify par pub (wrapMsg (isPh o) h ctx m) sig
  | 0x04 => slhVerify par pub (wrapMsg (isPh o) h ctx m) sig
  | 0x05 => hssVerify par pub m sig
  | 0x06 => xmssVerify par pub m sig
  | 0x09 => rsaVerify o par h pub m sig
  | 0x0A => match c with | some c => ecdsaVerify c pub (ecdsaDigest o h m) sig | none => false
  | 0x0B => edVerify par pub m sig ctx
  | _ => false

/-- A pure ML-DSA signature under a context string verifies. -/
def mldsaVerify (par : Nat) (pub msg sig : List Byte) (ctx : String) : Bool := schemeVerify none 2 par Op.VERIFY 0 pub msg sig (ascii ctx)

/-- The shared secret of an agreement, at its fixed length (R24, R45, R46, R48). -/
def schemeAgree (c : Option CurveSpec) (fam par : Nat) (priv peer : List Byte) : List Byte :=
  match fam with
  | 0x09 => ffdhAgree par priv peer
  | 0x0A => match c with | some c => ecdh c priv peer | none => []
  | _ => xdh par priv peer

/-! Checks. -/

/-- The pairwise test of a key (R145, R152). Its message, drawn bytes and test peer are fixed and the spec does not give them (log entry
112); a stateful key signs with the leaf that its trees stand before. -/
def pairwiseOk (c : Option CurveSpec) (fam par : Nat) (ffdh : Bool) (k : KeyMat) : Bool :=
  let t := Config.pairBytes fam par
  let m := t.take 32
  let r := t.drop 32
  match fam with
  | 0x01 | 0x07 | 0x08 => let e := kemEncaps fam par k.pub r; kemDecaps fam par k.priv k.pub e.1 == e.2
  | 0x02 | 0x03 | 0x04 | 0x05 | 0x06 =>
    match schemeSign c fam par Op.SIGN 0 k (some 0) m [] r with
    | some s => schemeVerify c fam par Op.VERIFY 0 k.pub m s.1 []
    | none => false
  | 0x09 =>
    if ffdh then ffdhAgree par k.priv (ffdhPub par r) == ffdhAgree par r k.pub
    else rsaVerify Op.VERIFY_PKCS1 par 2 k.pub m (rsaSign Op.SIGN_PKCS1 par 2 k.priv m [])
  | 0x0A => match c with
    | some x => ecdsaVerify x k.pub (hashOf 2 m) (ecdsaDet x 2 k.priv (hashOf 2 m)) && ecdh x k.priv (ecPubOf x r) == ecdh x r k.pub
    | none => false
  | 0x0B => if par ≤ 4 then edVerify par k.pub m (edSign par k.priv m []) [] else xdh par k.priv (xdhPub par r) == xdh par r k.pub
  | _ => true

/-- The checks of a private key on entry (R37, R145, R257); the public key stands beside it. -/
def privateOk (c : Option CurveSpec) (fam par : Nat) (ffdh : Bool) (k : KeyMat) : Bool :=
  match fam with
  | 0x01 =>
    let n := 384 * (kyPar par).1
    slice k.priv (k.priv.length - 64) 32 == sha3_256 k.pub && (fieldUnpack 12 (256 * (kyPar par).1) (k.pub.take n)).all (· < kyQ)
  | 0x02 | 0x03 | 0x04 => pairwiseOk c fam par ffdh k
  | 0x09 => if ffdh then decide (1 < beNat k.priv ∧ beNat k.priv < (ffdhP par - 1) / 2) else (RsaKey.dec par k.priv).ok par
  | 0x0A => match c with
    | some x => decide (1 ≤ beNat k.priv ∧ beNat k.priv < x.n) && (k.pub.isEmpty || k.pub == ecPubOf x k.priv)
    | none => false
  | 0x0B => k.pub.isEmpty || k.pub == schemePub c fam par ffdh k.priv
  | _ => true

/-- A result of the big-number engine passes the run's own check (R253): an RSA private result gives its input again, an ECDSA signature
verifies, an agreement lies on its curve or has order q. RFC 7748 results are only reduced: their points may lie on the twist (log entry
113). -/
def ownCheck (c : Option CurveSpec) (fam par o h : Nat) (k : KeyMat) (inp m out secret : List Byte) : Bool :=
  match fam with
  | 0x09 =>
    if isAgree o then powMod (beNat (out ++ secret)) ((ffdhP par - 1) / 2) (ffdhP par) == 1
    else
      let x := RsaKey.dec par k.priv
      if o = 0x41 then powMod (x.priv (beNat inp)) x.e x.n == beNat inp % x.n
      else if isSign o then rsaVerify (if o = Op.SIGN_PSS then Op.VERIFY_PSS else Op.VERIFY_PKCS1) par h k.pub m out
      else true
  | 0x0A => match c with
    | some x =>
      if isAgree o then let v := beNat (out ++ secret); decide (v < x.p) && isSquare ((v * v * v + x.a * v + x.b) % x.p) x.p
      else if isSign o then ecdsaVerify x (ecPubOf x k.priv) (ecdsaDigest o h m) out
      else true
    | none => true
  | 0x0B => if isAgree o then decide (leNat (out ++ secret) < (edSpec par).p) else true
  | _ => true

end Sys2Proof.Machine
end

