-- ==== Sys2Proof/Machine/Keys.lean ====
section
/-!
DEFINITION. Arithmetic of public checks (R255 to R258), key sizes, handles and their resolution (R131, R138, R147), attribute
records (R132, R133), quotas (R136) and hardware contexts (R141).
-/
namespace Sys2Proof.Machine
open Sys2Proof

/-- The curve of an index of family 0x0A: a standard one, or a loaded one that passed its checks (R258). -/
def State.curveSpec (s : State) (par : Nat) : Option CurveSpec :=
  match stdCurve par with
  | some c => some c
  | none =>
    if 0x10 ≤ par ∧ par ≤ 0x1F then
      match mget s.curves (par - 0x10) with
      | some c => some ⟨c.p, c.a, c.b, c.gx, c.gy, c.n, c.h, ceilDiv (bitLen c.p) 8, bitLen c.n, c.ident⟩
      | none => none
    else none

/-! Checks of public values: 0 passes, otherwise the status of step 10 (R25, R255). -/

/-- A SEC 1 point (R46, R255). -/
def CurveSpec.check (c : CurveSpec) (v : List Byte) : Nat :=
  let f := leAt v 0 1
  if v.length = 1 + 2 * c.pLen then
    let x := beAt v 1 c.pLen
    let y := beAt v (1 + c.pLen) c.pLen
    if x ≥ c.p ∨ y ≥ c.p then St.NON_CANONICAL
    else if f ≠ 4 ∨ !c.onCurve x y then St.INVALID_INPUT
    else if c.h > 1 ∧ c.mul c.h (some (x, y)) = none then St.INVALID_INPUT
    else 0
  else if v.length = 1 + c.pLen then
    let x := beAt v 1 c.pLen
    let r := (x * x * x + c.a * x + c.b) % c.p
    if x ≥ c.p then St.NON_CANONICAL
    else if (f ≠ 2 ∧ f ≠ 3) ∨ !isSquare r c.p then St.INVALID_INPUT
    else if c.h > 1 ∧ c.mul c.h (some (x, sqrtMod r c.p)) = none then St.INVALID_INPUT
    else 0
  else St.INVALID_INPUT

/-- Lengths a point may have: the identity, compressed, uncompressed (R46, R257). -/
def CurveSpec.ptLen (c : CurveSpec) (n : Nat) : Bool := n == 1 || n == 1 + c.pLen || n == 1 + 2 * c.pLen

/-- An EdDSA public key (R47): the range first, then decoding and small order. -/
def edCheck (par : Nat) (v : List Byte) : Nat :=
  let c := edSpec par
  let top := 2 ^ (8 * v.length - 1)
  let y := leNat v % top
  let x2 := c.xx y
  if y ≥ c.p ∨ (x2 = 0 ∧ leNat v / top = 1) then St.NON_CANONICAL
  else match c.dec v with
    | none => St.INVALID_INPUT
    | some P => if c.mul (2 ^ c.c) P = (0, 1) then St.INVALID_INPUT else 0

/-- An XDH peer value (R48). -/
def xdhCheck (par : Nat) (v : List Byte) : Nat :=
  let p := (edSpec par).p
  let x := if par = 8 then leNat v % 2 ^ 255 else leNat v
  if x ≥ p then St.NON_CANONICAL else 0

/-- An FFDH peer value (R45). -/
def ffdhCheck (par : Nat) (v : List Byte) : Nat :=
  let p := ffdhP par
  let y := beNat v
  if y ≥ p then St.NON_CANONICAL
  else if y = 0 ∨ y = 1 ∨ y = p - 1 ∨ powMod y ((p - 1) / 2) p ≠ 1 then St.INVALID_INPUT
  else 0

/-- The 12-bit coefficients of an ML-KEM key (R37). -/
def coeffs12 : Nat → List Byte → List Nat
  | 0, _ => []
  | k + 1, l => (leAt l 0 3 % 4096) :: (leAt l 0 3 / 4096) :: coeffs12 k (l.drop 3)

/-- A public key arriving by PUBLIC_IN_AUX (R37, R38, R41 to R43, R46, R47). -/
def checkPublic (fam par : Nat) (curve : Option CurveSpec) (v : List Byte) : Nat :=
  match fam with
  | 0x01 => if (coeffs12 ((v.length - 32) / 3) v).all (· < 3329) then 0 else St.NON_CANONICAL
  | 0x07 => if par % 5 = 3 then
      (let row := 677     -- bytes of a row: 5,413 bits and 3 of padding (R41)
       if (List.range 1547).all (fun i => (leAt v (i * row + row - 1) 1) / 32 == 0) then 0 else St.NON_CANONICAL)
    else 0
  | 0x08 =>
    let n := if par = 0 then 17669 else if par = 1 then 35851 else 57637
    if leAt v (v.length - 1) 1 / 2 ^ (n % 8) = 0 then 0 else St.NON_CANONICAL
  | 0x09 =>
    let n := beAt v 0 (32 * par)
    let e := beAt v (32 * par) 4
    if n % 2 = 1 ∧ n ≥ 2 ^ (256 * par - 1) ∧ e % 2 = 1 ∧ e ≥ 3 then 0 else St.INVALID_INPUT
  | 0x0A => match curve with | some c => c.check v | none => 0
  | 0x0B => if par ≤ 4 then edCheck par v else xdhCheck par v
  | _ => 0

/-! Keys. -/

/-- Length of a private key (R132 to R136, R419; log entry 35 for FFDH); a stateful key's follows from its shape. -/
def privKeyLen (curve : Nat → Option CurveSpec) (fam par : Nat) (ffdh : Bool) : Nat :=
  match fam with
  | 0x01 | 0x07 | 0x08 => match kemLens fam par with | some (_, k, _, _) => k | none => 0
  | 0x02 | 0x03 | 0x04 => match sigLens fam par with | some (_, k, _) => k | none => 0
  | 0x09 => if ffdh then (ffdhLen par).getD 0 else 144 * par + 4
  | 0x0A => match curve par with | some c => ceilDiv c.nBits 8 | none => 0
  | 0x0B => match edLens par with | some (_, k, _) => k | none => 0
  | 0x0C | 0x0F => 16 * par
  | _ => 0

/-- Length of a private key, composite hybrids included (R134). -/
def privLenOf (curve : Nat → Option CurveSpec) (fam par : Nat) (ffdh : Bool) : Nat :=
  match hybLegs fam par with
  | some (pf, pp, tf, tp) => privKeyLen curve pf pp false + privKeyLen curve tf tp false
  | none => privKeyLen curve fam par ffdh

/-- Length of a public key. -/
def pubKeyLen (curve : Nat → Option CurveSpec) (fam par : Nat) (ffdh : Bool) (priv : List Byte) : Nat :=
  match fam with
  | 0x01 | 0x07 | 0x08 => match kemLens fam par with | some (k, _, _, _) => k | none => 0
  | 0x02 | 0x03 | 0x04 => match sigLens fam par with | some (k, _, _) => k | none => 0
  | 0x05 | 0x06 => (shapeOf fam par priv).pkLen
  | 0x09 => if ffdh then (ffdhLen par).getD 0 else 32 * par + 4
  | 0x0A => match curve par with | some c => 1 + 2 * c.pLen | none => 0
  | 0x0B => match edLens par with | some (k, _, _) => k | none => 0
  | _ => 0

/-- The public key of a private key (R134: the legs of a composite key stand one after the other). -/
def pubOf (curve : Nat → Option CurveSpec) (fam par : Nat) (ffdh : Bool) (priv : List Byte) : List Byte :=
  match hybLegs fam par with
  | some (pf, pp, tf, tp) =>
    let k := privKeyLen curve pf pp false
    schemePub none pf pp false (priv.take k) ++ schemePub (curve tp) tf tp false (priv.drop k)
  | none => schemePub (curve par) fam par ffdh priv

/-! Handles (R131). -/

def handleFn (h : Nat) : Nat := h / 2 ^ 20
def handleClass (h : Nat) : Nat := h / 2 ^ 18 % 4
def handleIdx (h : Nat) : Nat := h % 2 ^ 18
def mkHandle (fn cls idx : Nat) : Nat := fn * 2 ^ 20 + cls * 2 ^ 18 + idx

/-! Attribute records (R132, R133). -/

def attrFam (a : List Byte) : Nat := leAt a 0 1
def attrPar (a : List Byte) : Nat := leAt a 1 1
def attrUse (a : List Byte) : Nat := leAt a 2 2
def attrPolicy (a : List Byte) : Nat := leAt a 4 1
def attrFlags (a : List Byte) : Nat := leAt a 5 1
def attrPersist (a : List Byte) : Bool := (attrFlags a).testBit 0
def attrQuorum (a : List Byte) : Bool := (attrFlags a).testBit 1
def attrLeafBlock (a : List Byte) : Nat := leAt a 6 2
def attrGroup (a : List Byte) : Nat := leAt a 24 4
def attrFfdh (a : List Byte) : Bool := attrFam a == 0x09 && (attrUse a).testBit Use.AGREE
def isStateful (fam : Nat) : Bool := fam == 0x05 || fam == 0x06

/-- Usage bits a family allows (R133). -/
def famUses (fam par : Nat) : Nat :=
  match fam with
  | 0x01 | 0x07 | 0x08 | 0x10 => 0x6C
  | 0x02 | 0x03 | 0x04 | 0x05 | 0x06 | 0x11 => 0x03
  | 0x09 => 0x8F
  | 0x0A => 0x83
  | 0x0B => if par ≤ 4 then 0x03 else 0x80
  | 0x0C => 0x100
  | 0x0F => 0x10
  | _ => 0

/-- The record is good (R132, R133): reserved bits and RO fields zero, family and index defined, usage allowed. -/
def attrOk (curve : Nat → Option CurveSpec) (a : List Byte) : Bool :=
  let fam := attrFam a
  let par := attrPar a
  let u := attrUse a
  let parGood :=
    match fam with
    | 0x0C | 0x0F => 1 ≤ par && par ≤ 8
    | 0x09 => if u.testBit Use.AGREE then (ffdhLen par).isSome else 4 ≤ par && par ≤ 32
    | 0x0A => (curve par).isSome
    | 0x0B => (edLens par).isSome
    | _ => parOk fam 0x20 par curve
  a.length == 32 && parGood && famUses fam par != 0 && u &&& (0xFFFF - famUses fam par) == 0 &&
  attrPolicy a ≤ 2 && attrFlags a &&& 0xFC == 0 &&
  (if isStateful fam then attrPersist a && (attrPolicy a == 0 || attrPolicy a == 2) &&
      (attrLeafBlock a == 0 || (6 ≤ attrLeafBlock a && attrLeafBlock a ≤ 16)) else attrLeafBlock a == 0) &&
  (!attrQuorum a || attrPolicy a != 0) &&
  (if fam == 0x09 then (u.testBit Use.AGREE != (u &&& 0x0F != 0)) else true) &&
  leAt a 8 16 == 0 && attrGroup a == 0 && leAt a 28 4 == 0

/-! Objects and quotas (R136). -/

/-- Bytes charged for a private key: with its header, rounded up to 64. -/
def keyBytesOf (privLen : Nat) : Nat := ceilDiv (privLen + 64) 64 * 64

/-- Private-key bytes of a generation: of a stateful key, those of its private state (R222). -/
def privBytes (fam par : Nat) (priv : List Byte) : Nat := if isStateful fam then (shapeOf fam par priv).stateLen else priv.length

/-- Bytes charged for an object, its staged generation included (R151). -/
def KeyObj.charge (o : KeyObj) : Nat :=
  let f := attrFam o.attrs
  keyBytesOf (privBytes f o.act.par o.act.priv) + (match o.staged with | some g => keyBytesOf (privBytes f g.par g.priv) | none => 0)

def State.objsOf (s : State) (fn : Nat) : List (Nat × KeyObj) := s.ks.objs.filter (fun o => handleFn o.1 == fn)

/-- What a function may not exceed: 1 the number of objects, 2 the cache bytes, 0 neither (R136). A staged generation is no new
object. -/
def State.quotaHit (s : State) (fn privLen : Nat) (newObj : Bool) : Nat :=
  let os := s.objsOf fn
  let f := s.fn fn
  if newObj && decide (os.length ≥ f.keyObj ∨ s.ks.objs.length ≥ 32768) then 1
  else if os.foldl (fun n o => n + o.2.charge) 0 + keyBytesOf privLen > f.key4k * 4096 then 2
  else if s.ks.objs.foldl (fun n o => n + o.2.charge) 0 + keyBytesOf privLen > 48 * 2 ^ 20 then 2
  else 0

/-- A free resident handle of a function: the lowest index, from 1 on for PF0 (R131). The records of objects not yet unsealed are in
the store too. -/
def State.freeHandle (s : State) (fn : Nat) : Option Nat :=
  let start := mkHandle fn 0 (if fn = 0 then 1 else 0)
  mfree s.ks.objs start (32768 - (if fn = 0 then 1 else 0))

/-- Generation counts as the record shows it, leaves left, charge (R132). -/
def KeyObj.record (o : KeyObj) : List Byte :=
  let a := o.attrs
  let st := isStateful (attrFam a)
  let fl := attrFlags a + 4 * b2n st + 8 * b2n (attrGroup a != 0) + 16 * b2n o.staged.isSome
  let left := if st then (if o.act.next ≤ o.act.last then o.act.last + 1 - o.act.next else 0) else 0
  a.take 5 ++ [BitVec.ofNat 8 fl] ++ slice a 6 2 ++ natLE 4 o.charge ++ natLE 4 o.act.gen ++ natLE 8 left ++ slice a 24 8

/-- An empty generation with the given key material. -/
def mkGen (uid gen par : Nat) (priv pub : List Byte) (curve last : Nat) : KeyGen :=
  { gen := gen, par := par, priv := priv, pub := pub, next := 0, ceil := 0, last := last, raising := none, seqNo := 0, curve := curve,
    uid := uid, stuck := false, trees := [], links := [] }

/-- A generation of a stateful key stands before a leaf: its trees and signed roots are those of that leaf (R220, R222, R225). -/
def KeyGen.at_ (g : KeyGen) (fam q : Nat) : KeyGen :=
  if isStateful fam ∧ q ≤ g.last then { g with next := q, trees := hbsTrees fam g.par g.priv q, links := hbsLinks fam g.par g.priv q }
  else { g with next := q }

/-- What the record of a stateful key holds of its trees: the top part of the top level (R223). -/
def KeyGen.sealedPart (g : KeyGen) : KeyGen :=
  { g with trees := (g.trees.take 1).map (fun t => { t with cur := [], nxt := [] }), links := [] }

/-- A generation as commands use it. -/
def KeyGen.mat (g : KeyGen) (h : Nat) (a : List Byte) : KeyMat :=
  { handle := h, gen := g.gen, fam := attrFam a, par := g.par, attrs := a, priv := g.priv, pub := g.pub, uid := g.uid, trees := g.trees,
    links := g.links, dom := g.curve }

/-- What resolving a handle gives at step 5. -/
inductive Found where
  | absent
  | wait                       -- not yet unsealed (R138), or the sealing key waits for the SLS (R130)
  | lost                       -- the stacked die has lost two banks (R414)
  | key (m : KeyMat) (o : Option KeyObj)
deriving DecidableEq, Repr

/-- A sealed blob opened under the sealing key (R147). Its own number, above those of the objects, tells it from every other blob (R240). -/
def State.openBlob (s : State) (fn h : Nat) (b : List Byte) : Option KeyMat :=
  match s.ks.dsk with
  | none => none
  | some k =>
    let p := leAt b 44 4
    if b.length = 112 + p ∧ leAt b 0 4 = 0x314B4245 ∧ leAt b 4 2 = fn ∧ leAt b 6 1 = 1 ∧ leAt b 7 1 = 0 ∧
        leAt b 40 4 = (mget s.ks.blobEpoch fn).getD 0 then
      match openBytes k (b.take 80) (slice b 80 p) (b.drop (80 + p)) "EBLOS-BLOB" with
      | some priv =>
        let a := slice b 8 32
        some { handle := h, gen := 1, fam := attrFam a, par := attrPar a, attrs := a, priv := priv, uid := 2 ^ 64 + leNat b,
               pub := pubOf s.curveSpec (attrFam a) (attrPar a) (attrFfdh a) priv, dom := ((s.ks.blobCurves.find? (fun x => x.1 == slice b 48 32)).map (·.2)).getD 0 }
      | none => none
    else none

/-- A handle is resolved for a function (R131, R138, R147, R159). -/
def State.resolve (s : State) (fn h : Nat) (blobs : List (Nat × List Byte)) : Found :=
  let cls := handleClass h
  let idx := handleIdx h
  if h = PUBLIC_IN_AUX ∨ h = 0 ∨ handleFn h ≠ fn ∨ cls = 3 ∨ (cls ≠ 1 ∧ idx ≥ 32768) ∨ s.sealState = Seal.LOST then .absent
  else if cls = 1 then
    if idx ≥ (s.fn fn).blobCount then .absent
    else if s.dskPending then .wait
    else match mget blobs idx with
      | some b => match s.openBlob fn h b with | some m => .key m none | none => .absent
      | none => .absent
  else if 2 ≤ s.pwr.banksLost.length then .lost
  else match mget s.ks.objs h with
    | some o => if o.unsealed then .key (o.act.mat h o.attrs) (some o) else .wait
    | none => .absent

/-! Hardware contexts (R23, R141). -/

def ctxKey (fn i : Nat) : Nat := fn * 65536 + i
def State.ctxVal (s : State) (fn i : Nat) : Option CtxVal := mget s.ks.ctxs (ctxKey fn i)

/-- A context takes a value of 16 to 128 bytes (R141); what it keeps of a longer one is not stated, and is free (log entry 120). -/
def State.setCtx (s : State) (fn i : Nat) (v : List Byte) (op : Nat) : State :=
  let w := if v.length ≤ 128 then v else fixLen 128 (Config.ctxTrim v)
  { s with ks := { s.ks with ctxs := mput s.ks.ctxs (ctxKey fn i) ⟨w, op⟩ } }

def State.clearCtx (s : State) (fn i : Nat) : State := { s with ks := { s.ks with ctxs := mdel s.ks.ctxs (ctxKey fn i) } }

/-- A test variant may run (R17, R145): TEST, TEST_OPEN and FACTORY. -/
def State.testState (s : State) : Bool := s.lcc == Lc.TEST || s.lcc == Lc.TEST_OPEN || s.lcc == Lc.FACTORY

/-- A quorum session in force holds a purpose (R381, R383). -/
def State.quorumFor (s : State) (purpose : Nat) : Bool :=
  match s.cards.quorum with | some q => q.inForce && q.purposes.testBit purpose | none => false

/-- The session that the QUORUM-flag actions of R135 need. -/
def State.quorumOpen (s : State) : Bool := s.quorumFor 3

end Sys2Proof.Machine
end

