-- ==== Sys2Proof/Machine/Queue.lean ====
section
/-!
DEFINITION. Queue pairs, doorbells, the fetch of descriptors, the start of commands under fences and chains, and the shared steps of
validation (spec file 03, R82 to R104, R109; 01, R25).
-/
namespace Sys2Proof.Machine
open Sys2Proof

/-! CRC-32C (R96). -/

/-- Eight steps of the reflected register. -/
def crcBits (v : Nat) : Nat → Nat
  | 0 => v
  | n + 1 => crcBits (if v % 2 = 1 then (v / 2) ^^^ 0x82F63B78 else v / 2) n

def crc32c (l : List Byte) : Nat := (l.foldl (fun v b => crcBits (v ^^^ b.toNat) 8) 0xFFFFFFFF) ^^^ 0xFFFFFFFF

/-! Scatter-gather lists (R98, R99). -/

/-- The data of one segment and the address of the next one; none where an entry is malformed or the segment does not end. -/
def sgPart : List (List Byte) → Option (List (Nat × Nat) × Option Nat)
  | [] => none
  | e :: t =>
    let a := leAt e 0 8
    let n := leAt e 8 4
    if leAt e 13 3 ≠ 0 then none
    else match leAt e 12 1 with
      | 0 => if a + n > 2 ^ 63 then none else (sgPart t).map (fun r => ((a, n) :: r.1, r.2))
      | 1 => if a + n > 2 ^ 63 then none else some ([(a, n)], none)
      | 2 => if n ≠ 0 ∨ a % 16 ≠ 0 then none else some ([], some a)
      | _ => none

/-- The data entries of a list whose segments are given, from its address on. -/
def sgList : List SgPart → Nat → Option (List (Nat × Nat))
  | [], _ => none
  | p :: t, a =>
    if a % 16 ≠ 0 ∨ p.addr ≠ a ∨ a % 4096 + 16 * p.entries.length > 4096 then none
    else match sgPart p.entries with
      | none => none
      | some (d, none) => some d
      | some (d, some l) => (sgList t l).map (fun r => d ++ r)

/-- The segments of a buffer: a flat one, or a list whose total must equal the length. Otherwise how the command ends. -/
def buffer (addr len : Nat) (parts : List SgPart) : Except Done (List (Nat × Nat)) :=
  if len = 0 then .ok []
  else if addr < 2 ^ 63 then .ok [(addr, len)]
  else match sgList parts (addr - 2 ^ 63) with
    | none => .error (.err St.BAD_FIELD)
    | some d =>
      let tot := d.foldl (fun n x => n + x.2) 0
      if d.length > 4096 ∨ parts.length > 16 then .error (.err St.BAD_FIELD)
      else if tot ≠ len then .error (.fail St.LENGTH_MISMATCH (natLE 4 (Nat.min tot 0xFFFFFFFF)))
      else .ok d

/-- LENGTH_MISMATCH with the length the device counted. -/
def lenFail (n : Nat) : Done := .fail St.LENGTH_MISMATCH (natLE 4 (Nat.min n 0xFFFFFFFF))

/-- OUTPUT_TOO_SMALL with the size required. -/
def tooSmall (n : Nat) : Done := .fail St.OUTPUT_TOO_SMALL (natLE 4 n)

/-- Steps 8 and 9 of R25 over the three buffers: expected input and auxiliary lengths, and the output size. The input and
auxiliary bytes are read. -/
def Cmd.buffers (c : Cmd) (h : HostRead) (inOk auxOk : Nat → Bool) (outLen : Nat) : Except Done Cmd := do
  let _ ← buffer c.inAddr c.inLen h.inList
  let _ ← buffer c.auxAddr c.auxLen h.auxList
  let o ← buffer c.outAddr c.cap h.outList
  if !inOk c.inLen then throw (lenFail c.inLen)
  if !auxOk c.auxLen then throw (lenFail c.auxLen)
  if c.cap < outLen then throw (tooSmall outLen)
  pure { c with inp := fixLen c.inLen h.input, aux := fixLen c.auxLen h.aux, outMap := o }

/-- A check of validation. -/
def need (b : Bool) (status : Nat) : Except Done Unit := if b then .ok () else .error (.err status)

/-! Queue registers (R82 to R84). -/

/-- Queue pairs a function has (R83). -/
def State.qps' (s : State) (fn : Nat) : Nat := if fn = 0 then 16 else (s.fn fn).qps

/-- The function is enabled (R55, R79). -/
def State.enabled (s : State) (fn : Nat) : Bool := fn == 0 || (s.link.vfEnable && decide (fn ≤ s.link.numVfs))

/-- The function is enabled and neither quiescing nor quiesced. -/
def State.fnActive (s : State) (fn : Nat) : Bool := s.enabled fn && !(s.fn fn).quiescing && !(s.fn fn).quiesced

/-- A queue pair can be created now (R84, R300, R304, R353, R358). -/
def State.qpAvailable (s : State) (fn : Nat) : Bool :=
  s.fnActive fn && !s.boot.hold && (s.boot.stage == .ready || s.boot.stage == .firmware) && s.lcc != Lc.LOCKED_INVALID && s.lcc != Lc.SCRAP

/-- The first failing check of a creation (R84); 0 when all pass. -/
def State.qpCheck (s : State) (fn : Nat) (p : QPair) : Nat :=
  if fld p.cfg 3 0 > 12 ∨ fld p.cfg 7 4 > 12 ∨ bitAt p.baseHi 31 then 1
  else if bitAt p.cfg 15 ∧ fld p.cfg 13 8 ≥ s.vecs fn then 2
  else if !s.qpAvailable fn then 8
  else 0

/-- The bits of QPq_CFG that a write changes: every writable bit while EN is 0, else the coalescing fields and IEN. -/
def cfgMask (en : Bool) : Word := if en then fieldMask 30 15 else fieldMask 30 15 ||| fieldMask 13 0

/-- A write to QPq_CFG (R84, R87). -/
def State.qpCfg (s : State) (fn q : Nat) (v : Word) : State :=
  if q < s.qps' fn then
    let p := s.qp fn q
    let en := bitAt p.cfg 31
    let m := cfgMask en
    let p1 := { p with cfg := (p.cfg &&& ~~~ m) ||| (v &&& m) }
    if bitAt v 31 then
      if p.state = .off then
        let e := s.qpCheck fn p1
        if e = 0 then
          s.setQp fn q { QPair.off with baseLo := p1.baseLo, baseHi := p1.baseHi, cfg := setBit p1.cfg 31 true, state := .active }
        else s.setQp fn q { p1 with err := e }
      else s.setQp fn q p1
    else if en && (p.state == .active || p.state == .error) then
      let s1 := s.dropCmds (fun c => c.fn == fn && c.qp == q)
      s1.setQp fn q { p1 with cfg := setBit p1.cfg 31 false, state := .deleting, waiting := [], pendCnt := 0, chain := none, chainRes := none,
                              firstFail := none }
    else s.setQp fn q p1
  else s

/-- QP_CREATE: a write of 1 to EN (R84). -/
def execQpCreate (fn qp : Nat) (v : Word) (s : State) : Host.Outcome State Fault Refusal := .next (s.qpCfg fn qp (setBit v 31 true))

/-- QP_DELETE: a write of 0 to EN (R87). -/
def execQpDelete (fn qp : Nat) (v : Word) (s : State) : Host.Outcome State Fault Refusal := .next (s.qpCfg fn qp (setBit v 31 false))

/-- QP_DELETE_DONE: a deleting pair reaches OFF (R87); a pair that a reset or quiesce deletes waits for its step 8 (R75, R78). -/
def execQpDeleteDone (fn qp : Nat) (s : State) : Host.Outcome State Fault Refusal :=
  let p := s.qp fn qp
  if p.state = .deleting ∧ !bitAt p.cfg 31 then .next (s.setQp fn qp { p with state := .off }) else .next s

/-! Doorbells (R88, R90). -/

/-- The pair takes doorbells: it exists, is ACTIVE, and its function is not fenced by a reset. -/
def State.qpOpen (s : State) (fn q : Nat) : Bool := decide (q < s.qps' fn) && s.fnActive fn && (s.qp fn q).state == .active

/-- SQ_TAIL_DOORBELL (R88): a tail at or above the size is an error of the pair (R84). -/
def execSqTailDoorbell (fn qp : Nat) (v : Word) (s : State) : Host.Outcome State Fault Refusal :=
  if s.qpOpen fn qp then
    let p := s.qp fn qp
    let t := fld v 15 0
    if t ≥ p.sqLen then .next (s.qpError fn qp 4) else .next (s.setQp fn qp { p with tail := t })
  else .next s

/-- CQ_HEAD_DOORBELL (R90): the head moves within what was written (R84). -/
def execCqHeadDoorbell (fn qp : Nat) (v : Word) (s : State) : Host.Outcome State Fault Refusal :=
  if s.qpOpen fn qp then
    let p := s.qp fn qp
    let h := fld v 15 0
    let n := p.cqLen
    if h ≥ n ∨ (h + n - p.cqHead) % n > (p.cqTail + n - p.cqHead) % n then .next (s.qpError fn qp 5)
    else .next (s.setQp fn qp { p with cqHead := h })
  else .next s

/-- PENDING_COMPLETION_WRITE: the oldest completion that waits is written once the CQ has room (R90). -/
def execPendingCompletionWrite (fn qp : Nat) (s : State) : Host.Outcome State Fault Refusal :=
  let p := s.qp fn qp
  match p.waiting with
  | [] => .next s
  | w :: t =>
    if s.qpOpen fn qp && !p.cqFull then .next ((s.setQp fn qp { p with waiting := t }).writeCq fn qp w.cmd w.entry w.irq w.ok)
    else .next s

/-- COAL_TIMEOUT: with COAL_TIME non-zero, the oldest pending completion is that many µs old; IEN and COAL_TIME as they stood at the last
completion (R109). -/
def execCoalTimeout (fn qp : Nat) (s : State) : Host.Outcome State Fault Refusal :=
  let p := s.qp fn qp
  if s.qpOpen fn qp && bitAt p.irqCfg 15 && decide (0 < p.pendCnt) && fld p.irqCfg 30 24 != 0 then
    .next ((s.setQp fn qp { p with pendCnt := 0 }).msix fn (fld p.cfg 13 8))
  else .next s

/-! Known opcodes: validation step 2 (R16, R17, R94, R110). -/

def keyOps : List Nat := [0x0F01, 0x0F02, 0x0F08, 0x0F10, 0x0F20, 0x0F21, 0x0F30, 0x0F31, 0x0F32, 0x0F33, 0x0F34, 0x0F40, 0x0F41,
  0x0F50, 0x0F60, 0x0F61, 0x0F70, 0x0F80, 0x0F88]
def digestOps : List Nat := [0x0C01, 0x0C02, 0x0C03, 0x0C10, 0x0C11, 0x0C12, 0x0C13, 0x0C18, 0x0C19, 0x0C1A, 0x0C20]

/-- The opcode names an operation (R16): with bit 7, only one that draws key-grade bytes (R17). -/
def algOpOk (op : Nat) : Bool :=
  let fam := op / 256
  let o := op % 128
  (famOps fam).contains o && (op % 256 < 128 || drawsKey fam o)

/-- The opcode of a command is defined for its function; one of the custom range is where a kernel serves it (R191). -/
def opcodeOk (fn op : Nat) (member : Bool) : Bool :=
  algOpOk op || digestOps.contains op || op == 0x0D01 || op == 0x0D02 || op == 0x0E01 || op == 0x0E02 || (op == 0x0E20 && fn == 0) ||
    keyOps.contains op || (!member && (op == 0xF001 || op == 0xF002 || op == 0xF010))

/-! Start of a command. -/

/-- The CRC of the descriptor is right; the entries of a campaign's members carry none (R106). -/
def crcOk (desc : List Byte) : Bool := leAt desc 60 4 == crc32c (desc.take 60)

/-- An earlier command of the SQ, or an earlier member of the batch, has not ended (R103). -/
def State.earlierLive (s : State) (id : Nat) (c : Cmd) : Bool :=
  s.cmds.any (fun x => decide (x.1 < id) && (match c.member, x.2.member with
    | none, none => x.2.fn == c.fn && x.2.qp == c.qp
    | some (b, _), some (b', _) => b == b'
    | _, _ => false))

/-- An earlier one ended without SUCCESS (R103). -/
def State.earlierFailed (s : State) (id : Nat) (c : Cmd) : Bool :=
  match c.member with
  | none => match (s.qp c.fn c.qp).firstFail with | some f => decide (f < id) | none => false
  | some (b, i) => match mget s.batches b with
    | some x => x.results.any (fun r => decide (r.1 < i) && r.2 != St.SUCCESS)
    | none => false

/-- The command waits: for its chain predecessor, or for its fence (R103, R104). -/
def State.isHeld (s : State) (id : Nat) (c : Cmd) : Bool :=
  (c.pred.isSome && c.predRes.isNone) || (c.fence && s.earlierLive id c)

/-- A command whose CRC failed carries this note. -/
def badCrc : List Byte := [1]

/-- A campaign member whose record sets reserved bits carries this one (R106). -/
def badRec : List Byte := [2]

/-- The kernel that serves an opcode for a function: vendor kernels need no grant (R190, R191). -/
def State.kernelFor (s : State) (fn op : Nat) : Option Kernel :=
  s.kernels.find? (fun k => k.opcode == op && k.current && (k.kind == 0 || (match k.grants with | none => true | some l => l.contains fn)))

/-- A vendor kernel is loaded for an opcode of the families' own range: its commands are the kernel's (R190, R191). -/
def State.vendorKernel (s : State) (op : Nat) : Bool :=
  decide (op < 0x8000) && s.kernels.any (fun k => k.opcode == op && k.current && k.kind == 0)

/-- The command starts: chain and fence decide first, then validation steps 1 and 2 and the flags (R25, R95, R103, R104). -/
def State.start (s : State) (id : Nat) : State :=
  match mget s.cmds id with
  | none => s
  | some c =>
    if c.note = badCrc then
      let slot := match c.member with | some (_, i) => i | none => c.slot
      s.completeTag id 0xFFFF (.fail St.DESCRIPTOR_CRC (natLE 2 slot ++ zeros 2 ++ natLE 4 (crc32c (c.desc.take 60))))
    else if c.predRes = some false then s.complete id (.aborted 2)
    else if c.fence && s.earlierFailed id c then s.complete id (.err St.FENCED)
    else if !opcodeOk c.fn c.op c.member.isSome && (s.kernelFor c.fn c.op).isNone then s.complete id (.err St.BAD_OPCODE)
    else if c.note = badRec || c.flag 2 != c.member.isSome || c.flags / 32 != 0 then s.complete id (.err St.BAD_FIELD)
    else s.setCmd id { c with phase := .started }

/-- A fresh in-flight entry. -/
def newCmd (fn qp slot : Nat) (desc : List Byte) (member : Option (Nat × Nat)) (pred : Option Nat) (predRes : Option Bool)
    (fence bad : Bool) (now : Nat) : Cmd :=
  { fn := fn, qp := qp, slot := slot, member := member, desc := desc, pred := pred, predRes := predRes, fence := fence,
    phase := .held, inp := [], aux := [], outMap := [], k1 := none, k2 := none, src := [], leaf := none, rand := [], need := 0,
    chunk := [], legs := [], replayed := false, since := now, note := if bad then badCrc else [] }

/-- Entries of the in-flight table a function holds (R93). -/
def State.usedBy (s : State) (fn : Nat) : Nat := (s.cmds.filter (fun c => c.2.fn == fn)).length

/-- The functions that could take an in-flight entry: a descriptor waits in a pair, or a member in a batch, and the cap leaves room. -/
def State.wantsEntry (s : State) : List Nat :=
  let sq := (s.qps.filter (fun x => s.qpOpen (x.1 / 16) (x.1 % 16) && x.2.head != x.2.tail)).map (fun x => x.1 / 16)
  let mem := s.batches.filterMap (fun b => match mget s.cmds b.1 with
    | some c => if c.phase = .batch ∧ b.2.next < b.2.total ∧ s.qpOpen c.fn c.qp then some c.fn else none
    | none => none)
  ((sq ++ mem).filter (fun f => decide (s.usedBy f < (s.fn f).cap))).eraseDups

/-- The last free entry of the table is the function's: the weighted scheduler would serve it next (R64, R69). -/
def State.entryTurn (s : State) (fn : Nat) : Bool :=
  decide (s.cmds.length + 1 < 16384) || (s.drrPick .disp s.wantsEntry).any (fun p => p.2 == fn)

/-- A function's command may be fetched (R64, R65, R93). -/
def State.roomFor (s : State) (fn : Nat) : Bool := decide (s.usedBy fn < (s.fn fn).cap) && decide (s.cmds.length < 16384) && s.entryTurn fn

/-- The scheduler of in-flight entries: while entries are to spare it holds no deficits; the last one is charged as 1 µs of work (R64; log
entry 125). -/
def State.chargeEntry (s : State) (fn : Nat) : State :=
  let fns := s.wantsEntry
  let mine := fun (d : Nat × Int) => d.1 / 4096 == Eng.num .disp
  if s.cmds.length + 1 < 16384 then { s with sched := s.sched.filter (fun d => !mine d) }
  else
    let s1 := { s with sched := s.sched.filter (fun d => !mine d || fns.contains (d.1 % 4096)) }
    s1.charge .disp fns (match s1.drrPick .disp fns with | some p => p.1 | none => 0) fn 100

/-- An in-flight entry is taken; CMD_INFLIGHT.PEAK follows. -/
def State.addCmd (s : State) (c : Cmd) : State :=
  let s1 := { s with cmds := mput s.cmds s.nextCmd c, nextCmd := s.nextCmd + 1 }
  s1.wrF Reg.CMD_INFLIGHT 30 16 (Nat.max (s.rdF Reg.CMD_INFLIGHT 30 16) s1.cmds.length)

/-- DESCRIPTOR_FETCH: the slot at the head is copied whole and the head moves on (R88, R93). A descriptor whose CRC fails sets no
fence or chain of its own (R96). -/
def execDescriptorFetch (fn qp : Nat) (desc : List Byte) (s : State) : Host.Outcome State Fault Refusal :=
  let p := s.qp fn qp
  if s.qpOpen fn qp && p.head != p.tail && s.roomFor fn then
    let d := fixLen 64 desc
    let bad := !crcOk d
    let abortB := leAt d 0 2 == 0xF010 && !bad
    let id := s.nextCmd
    let c := newCmd fn qp p.head d none (if abortB then none else p.chain) (if abortB then none else p.chainRes)
      (!bad && !abortB && leAt d 2 1 % 2 == 1) bad s.now
    let chained := !bad && (leAt d 2 1).testBit 4
    let p1 := { p with head := (p.head + 1) % p.sqLen, chain := if chained then some id else none, chainRes := none }
    let s1 := ((s.chargeEntry fn).setQp fn qp p1).addCmd c
    let s2 := if bad then s1.incF Reg.CMD_CRC_CNT 31 0 1 else s1
    .next (if s2.isHeld id c then s2 else s2.start id)
  else .next s

/-- A held command whose conditions are met starts. -/
def State.release (s : State) (id : Nat) : State :=
  match mget s.cmds id with
  | some c => if c.phase = .held ∧ !s.isHeld id c then s.start id else s
  | none => s

/-- FENCE_START (R103). -/
def execFenceStart (cmd : Nat) (s : State) : Host.Outcome State Fault Refusal := .next (s.release cmd)

/-- CHAIN_SUCCESSOR_START (R104). -/
def execChainSuccessorStart (cmd : Nat) (s : State) : Host.Outcome State Fault Refusal := .next (s.release cmd)

/-- A command fetched earlier from the same SQ, or an earlier member of the same batch, has started and is not yet validated: commands of
one SQ start in fetch order, and one that waits for its key holds back those after it (R102, R106, R138). ABORT_BATCH starts as soon as it
is fetched (R108). -/
def State.behind (s : State) (id : Nat) (c : Cmd) : Bool :=
  c.op != 0xF010 && s.cmds.any (fun x => decide (x.1 < id) && (x.2.phase == .started || x.2.phase == .waitUnseal) &&
    (match c.member, x.2.member with
     | none, none => x.2.fn == c.fn && x.2.qp == c.qp
     | some (b, _), some (b', _) => b == b'
     | _, _ => false))

/-- A row applies to a started command that satisfies a test, once its turn has come; on any other it has no effect (log entry 2). -/
def startRow (id : Nat) (f : Cmd → Bool) (g : Cmd → State) (s : State) : Host.Outcome State Fault Refusal :=
  match mget s.cmds id with
  | none => .next s
  | some c => if c.phase = .started ∧ f c ∧ !s.behind id c then .next (g c) else .next s

/-- The row of an operation, which a vendor kernel loaded for the opcode takes over (R191). -/
def opRow (id : Nat) (f : Cmd → Bool) (g : Cmd → State) (s : State) : Host.Outcome State Fault Refusal :=
  startRow id (fun c => f c && !s.vendorKernel c.op) g s

end Sys2Proof.Machine
end

