-- ==== Sys2Proof/Machine/Admit.lean ====
section
/-!
DEFINITION. What a validated command waits for before its runs may be placed: the load of a code key (R139, R140), a leaf (R155), key-grade
bytes (R31, R32, R271). Sizes that depend on curves and keys, and the resolution of keys at steps 5 and 6 (R25, R26, R134).
-/
namespace Sys2Proof.Machine
open Sys2Proof

/-- Not a status of the device: the command waits for its object to be unsealed (R138). -/
def waitUnsealMark : Nat := 0x100

/-- A command that opens or seals under DSK: STATE at step 4 where no DSK exists (R420), and it waits for an SLS being drawn (R130; log
entry 122). -/
def State.needDsk (s : State) (b : Bool) : Except Done Unit :=
  if !b then .ok () else if s.noDsk then .error (.err St.STATE) else if s.dskPending then .error (.err waitUnsealMark) else .ok ()

/-- A handle of a sealed blob: STATE at step 4 where no DSK exists (R420). -/
def State.needBlob (s : State) (h : Nat) : Except Done Unit := need (!(s.noDsk && handleClass h == 1)) St.STATE

/-! Steps 5 and 6. -/

/-- The key of a handle; the command waits where the object is not yet unsealed. -/
def State.findKey (s : State) (fn h : Nat) (blobs : List (Nat × List Byte)) (fam : Nat → Bool) : Except Done (KeyMat × Option KeyObj) :=
  match s.resolve fn h blobs with
  | .absent => .error (.err St.KEY_ABSENT)
  | .wait => .error (.err waitUnsealMark)
  | .lost => .error (.fail St.DEVICE_FAULT [0xFF, 0xFF])
  | .key m o => if fam m.fam then .ok (m, o) else .error (.err St.KEY_ABSENT)

/-- The curve a key was made on is still the one loaded (R259). -/
def State.curveHolds (s : State) (m : KeyMat) : Bool :=
  m.fam != 0x0A || m.par < 0x10 || (match s.curveSpec m.par with | some c => m.dom == c.dom | none => true)

/-- Classic McEliece keys of a set and its f variant are interchangeable; elsewhere the index must match (R19). -/
def parMatches (fam keyPar par : Nat) : Bool := if fam == 0x07 then keyPar % 5 == par % 5 else keyPar == par

/-- Step 6: usage bit, parameter set, curve identity. -/
def State.keyUse (s : State) (k : KeyMat × Option KeyObj) (bit par : Nat) : Except Done Unit :=
  if (attrUse k.1.attrs).testBit bit && parMatches k.1.fam k.1.par par && s.curveHolds k.1 then .ok () else .error (.err St.KEY_USAGE)

/-- A public key given in the auxiliary buffer. -/
def publicMat (fam par : Nat) (pub : List Byte) : KeyMat :=
  { handle := PUBLIC_IN_AUX, gen := 0, fam := fam, par := par, attrs := zeros 32, priv := [], pub := pub }

/-- The legs of a composite key (R134). -/
def State.splitKey (s : State) (m : KeyMat) (pf pp tf tp : Nat) : KeyMat × KeyMat :=
  let k := privKeyLen s.curveSpec pf pp false
  let n := match kemLens pf pp, sigLens pf pp with | some (a, _, _, _), _ => a | _, some (a, _, _) => a | _, _ => 0
  ({ m with fam := pf, par := pp, priv := m.priv.take k, pub := m.pub.take n },
   { m with fam := tf, par := tp, priv := m.priv.drop k, pub := m.pub.drop n })

/-- Identity of the curve of an index (R259). -/
def State.domOf (s : State) (par : Nat) : Nat := match s.curveSpec par with | some c => c.dom | none => 0

/-! Code keys (R139, R140). -/

/-- Granules of a code key. -/
def granules (par : Nat) : Nat := [1, 2, 4, 4, 6].getD (par % 5) 6

/-- The code key that a command's encapsulation reads: a resident Classic McEliece key (R41). -/
def Cmd.codeKey (c : Cmd) : Option Nat :=
  match c.k1 with
  | some k => if !c.kern ∧ k.fam = 0x07 ∧ k.handle ≠ PUBLIC_IN_AUX ∧ handleClass k.handle ≠ 1 ∧
      (isEncaps (c.op % 128) ∨ c.op = 0x0F20) then some k.handle else none
  | none => none

/-- An in-flight command, or a core that waits in a KLD, reads an entry (R140, R182). -/
def State.readsCode (s : State) (h : Nat) : Bool :=
  s.pvcs.any (fun x => match x.2.stall with | some (.kld _ _ _ (some k)) => k.1 == h | _ => false) || s.cmds.any (fun x => x.2.codeKey == some h && (x.2.phase == .ready || x.2.phase == .running || x.2.phase == .waitRand))

/-- Entries least recently used leave until a number of granules is free; none where those that stay do not allow it. -/
def evict (busy : Nat → Bool) (want : Nat) : Nat → List CodeKey → Option (List CodeKey)
  | 0, _ => none
  | n + 1, l =>
    if l.foldl (fun a k => a + k.gran) 0 + want ≤ 60 then some l
    else
      let cand := l.filter (fun k => !busy k.handle && !k.loading)
      match cand with
      | [] => none
      | k :: t =>
        let o := t.foldl (fun (a b : CodeKey) => if b.used < a.used then b else a) k
        evict busy want n (l.filter (fun x => x.handle != o.handle))

/-- A load starts where the load buffer and enough granules are free (R139, R140). -/
def State.startLoad (s : State) (h par cause : Nat) : State :=
  if s.ks.codeKeys.any (fun k => k.loading) then s
  else match evict s.readsCode (granules par) 61 s.ks.codeKeys with
    | none => s
    | some l =>
      let k : CodeKey := ⟨h, granules par, true, 0, s.ks.useClock, cause⟩
      { s with ks := { s.ks with codeKeys := l ++ [k] } }.wrB Reg.KST_STAT 6 true

/-- A use of a code key makes it the most recent (R41). -/
def State.touchCode (s : State) (h : Nat) : State :=
  let n := s.ks.useClock + 1
  let l := s.ks.codeKeys.map (fun (k : CodeKey) => if k.handle = h then { k with used := n } else k)
  { s with ks := { s.ks with useClock := n, codeKeys := l } }

/-! Stateful keys (R36, R155). -/

/-- A generation of an object changed, the active one or one that is retiring. -/
def KeyObj.modGen (o : KeyObj) (uid : Nat) (f : KeyGen → KeyGen) : KeyObj :=
  { o with act := if o.act.uid = uid then f o.act else o.act
           retiring := o.retiring.map (fun g => if g.uid = uid then f g else g) }

def KeyObj.genOf (o : KeyObj) (uid : Nat) : Option KeyGen := if o.act.uid = uid then some o.act else o.retiring.find? (fun g => g.uid == uid)

def State.setObj (s : State) (h : Nat) (o : KeyObj) : State := { s with ks := { s.ks with objs := mput s.ks.objs h o } }

/-- A generation of a handle, retired by a DESTROY or not (R30). -/
def State.findGen (s : State) (h uid : Nat) : Option KeyGen :=
  match (mget s.ks.objs h).bind (fun o => o.genOf uid) with
  | some g => some g
  | none => (s.ks.dying.find? (fun x => x.1 == h && x.2.uid == uid)).map (·.2)

def State.modGen (s : State) (h uid : Nat) (f : KeyGen → KeyGen) : State :=
  { s with ks := { s.ks with
    objs := mmod s.ks.objs h (fun o => o.modGen uid f)
    dying := s.ks.dying.map (fun x => if x.1 = h ∧ x.2.uid = uid then (x.1, f x.2) else x) } }

/-- The object that still holds a generation. -/
def State.holder (s : State) (h uid : Nat) : Option KeyObj := (mget s.ks.objs h).bind (fun o => if (o.genOf uid).isSome then some o else none)

/-- Leaves of a reservation block of a key, by its record (R156). -/
def State.blockOf (s : State) (attrs : List Byte) : Nat :=
  2 ^ (if attrLeafBlock attrs = 0 then s.rdF Reg.KST_HBS 4 0 else attrLeafBlock attrs)

/-- The ceiling write that the next leaf makes due, if any (R155). -/
def KeyGen.raise (g : KeyGen) (block : Nat) : KeyGen :=
  if g.raising.isNone ∧ g.next + block / 4 ≥ g.ceil ∧ g.ceil < g.last + 1 then
    { g with raising := some (Nat.min (g.ceil + block) (g.last + 1)) } else g

/-- The command signs with a stateful key. -/
def Cmd.wantsLeaf (c : Cmd) : Bool :=
  (match c.k1 with | some k => isStateful k.fam | none => false) && isSign (c.op % 128) && c.op / 256 < 0x0C && !c.kern

/-! Key-grade bytes. -/

/-- Step of a draw: RANDOM asks in chunks of 4 KiB (R278); every other fixed amount is granted whole (R271). -/
def Cmd.ask (c : Cmd) : Nat := if c.op = 0x0E01 then Nat.min c.need 4096 else c.need

/-- The command asks for its next bytes; in FAULT it ends at once (R276). -/
def State.askRand (s : State) (id : Nat) (c : Cmd) : State :=
  if s.nrgDown then s.complete id (.late St.ENTROPY_FAULT)
  else (s.setCmd id { c with phase := .waitRand, since := s.now }).nrgAsk 2 23 (.cmd id) c.ask

/-- The next thing a validated command waits for. -/
def State.advance (s : State) (id : Nat) : State :=
  match mget s.cmds id with
  | none => s
  | some c =>
    match c.codeKey with
    | some h =>
      match s.ks.codeKeys.find? (fun k => k.handle == h && !k.loading) with
      | some _ =>
        let s1 := s.touchCode h
        if c.need > 0 then s1.askRand id c else s1.setCmd id { c with phase := .ready }
      | none =>
        let s1 := s.setCmd id { c with phase := .waitLoad, since := s.now }
        if s1.ks.codeKeys.any (fun k => k.handle == h) then s1
        else s1.startLoad h (match c.k1 with | some k => k.par | none => 0) id
    | none =>
      if c.wantsLeaf ∧ c.leaf = none then
        match c.k1 with
        | none => s
        | some k =>
          match s.findGen k.handle k.uid with
          | none => s.complete id (.late St.KEY_ABSENT)
          | some g =>
            let o := s.holder k.handle k.uid
            let blk := s.blockOf ((o.map (·.attrs)).getD k.attrs)
            let rebuild := o.any (·.rebuild)
            if o.any (·.frozen) ∨ g.stuck ∨ g.next > g.last then s.complete id (.late St.KEY_EXHAUSTED)
            else if rebuild ∨ g.next ≥ g.ceil then
              (s.modGen k.handle k.uid (fun g => if rebuild then g else g.raise blk)).setCmd id { c with phase := .waitLeaf, since := s.now }
            else
              let s1 := s.modGen k.handle k.uid (fun g => (g.at_ k.fam (g.next + 1)).raise blk)
              let c1 := { c with leaf := some g.next, k1 := some { k with trees := g.trees, links := g.links } }
              if c.need > 0 then (s1.setCmd id c1).askRand id c1 else s1.setCmd id { c1 with phase := .ready }
      else if c.need > 0 then s.askRand id c
      else s.setCmd id { c with phase := .ready }

/-- A command that has passed validation is kept with what it resolved, and goes on. -/
def State.takeIn (s : State) (id : Nat) (c : Cmd) : State := ({ s with cmds := mput s.cmds id c }).advance id

/-- The outcome of validation: the command goes on, ends, or waits to be validated again once objects are unsealed (R138). -/
def State.validated (s : State) (id : Nat) (c : Cmd) (r : Except Done Cmd) : State :=
  match r with
  | .ok c1 => s.takeIn id c1
  | .error d => if d.status = waitUnsealMark then s.setCmd id { c with phase := .waitUnseal, since := s.now } else s.complete id d

/-- Commands in a phase go on, in the order of their entries. -/
def State.advanceAll (s : State) (f : Cmd → Bool) : State :=
  ((s.cmds.filter (fun x => f x.2)).map (·.1)).foldl State.advance s

/-- The generation of a handle whose ceiling write is in progress: the active one first, then those that retire (R155). -/
def State.raisingGen (s : State) (h : Nat) : Option KeyGen :=
  ((match mget s.ks.objs h with | some o => o.act :: o.retiring | none => []) ++
    (s.ks.dying.filter (fun x => x.1 == h)).map (·.2)).find? (fun g => g.raising.isSome)

/-- A command waits for a leaf of a key. -/
def Cmd.waitsLeaf (c : Cmd) (h : Nat) : Bool := c.phase == .waitLeaf && (match c.k1 with | some k => k.handle == h | none => false)

/-- JOURNAL_WRITE_DONE: the raised ceiling of a key is persisted and waiting commands take their leaves; or the write fails, a spare
block is tried, and without one the key is FROZEN (R155, R156). A generation that a COMMIT or a DESTROY retired goes on journalling for the
commands that resolved it (R30). -/
def execJournalWriteDone (h : Nat) (ok : Bool) (s : State) : Host.Outcome State Fault Refusal :=
  match s.raisingGen h with
  | none => .next s
  | some g =>
    if ok then
      let v := g.raising.getD g.ceil
      let s1 := s.modGen h g.uid (fun x => { x with ceil := v, raising := none, seqNo := x.seqNo + 1 })
      let s2 := { s1 with ks := { s1.ks with flash := mmod s1.ks.flash h (fun f => if f.obj.act.uid = g.uid then { f with ceil := v } else f) } }
      .next (s2.advanceAll (·.waitsLeaf h))
    else if 0 < s.ks.hbsSpare then
      let n := s.ks.hbsSpare - 1
      .next (({ s with ks := { s.ks with hbsSpare := n } }).wrF Reg.KST_HBS 23 16 n)
    else
      let s1 := s.modGen h g.uid (fun x => { x with raising := none, stuck := true })
      let s2 := match s.holder h g.uid with
        | some o => if o.frozen then s1 else
            ({ s1 with ks := { s1.ks with
              objs := mmod s1.ks.objs h (fun o => { o with frozen := true })
              flash := mmod s1.ks.flash h (fun f => { f with obj := { f.obj with frozen := true } }) } }).incF Reg.KST_HBS 15 5 1
        | none => s1
      .next ((s2.flt1 260 1).advanceAll (·.waitsLeaf h))

end Sys2Proof.Machine
end

