-- ==== Sys2Proof/Machine/Alg.lean ====
section
/-!
DEFINITION. The public-key operations (spec file 01): validation steps 3 to 10, what one run of a leg yields, and how the legs make
the command's result (R16 to R51, R255).
-/
namespace Sys2Proof.Machine
open Sys2Proof

/-- The operation without the test bit. -/
def Cmd.o (c : Cmd) : Nat := c.op % 128
def Cmd.fam (c : Cmd) : Nat := c.op / 256
def Cmd.test (c : Cmd) : Bool := decide (128 ≤ c.op % 256) && c.op / 256 < 0x12
def Cmd.usesPublic (c : Cmd) : Bool := c.h1 == PUBLIC_IN_AUX

/-! Sizes a command needs. -/

/-- Length of a signature of a simple family: none where the key or the signature decides (R40). -/
def sigLenOf (curve : Nat → Option CurveSpec) (fam par : Nat) : Option Nat :=
  match fam with
  | 0x02 | 0x03 | 0x04 => (sigLens fam par).map (fun x => x.2.2)
  | 0x09 => some (32 * par)
  | 0x0A => (curve par).map (fun c => 2 * ceilDiv c.nBits 8)
  | 0x0B => (edLens par).map (fun x => x.2.2)
  | _ => none

def hybSigLen (curve : Nat → Option CurveSpec) (par : Nat) : Nat :=
  match hybSig par with
  | some (pf, pp, tf, tp) => (sigLenOf curve pf pp).getD 0 + (sigLenOf curve tf tp).getD 0
  | none => 0

/-- Length of the shared secret of a leg. -/
def ssLenOf (curve : Nat → Option CurveSpec) (fam par : Nat) : Nat :=
  match fam with
  | 0x09 => (ffdhLen par).getD 0
  | 0x0A => match curve par with | some c => c.pLen | none => 0
  | 0x0B => match edLens par with | some (_, _, n) => n | none => 0
  | _ => match kemLens fam par with | some (_, _, _, n) => n | none => 0

/-- Length of the ciphertext part of a leg: for a classical leg the ephemeral public value, uncompressed (R49). -/
def ctLenOf (curve : Nat → Option CurveSpec) (fam par : Nat) : Nat :=
  match kemLens fam par with
  | some (_, _, n, _) => n
  | none => pubKeyLen curve fam par false []

/-- Ciphertext and shared secret of a KEM command. -/
def kemOut (curve : Nat → Option CurveSpec) (fam par comb : Nat) : Nat × Nat :=
  match hybLegs fam par with
  | some (pf, pp, tf, tp) =>
    (ctLenOf curve pf pp + ctLenOf curve tf tp, if comb = 1 then 32 else ssLenOf curve pf pp + ssLenOf curve tf tp)
  | none => (ctLenOf curve fam par, ssLenOf curve fam par)

/-- Public-key lengths that the auxiliary buffer may start with (R20, R40, R46): none where the buffer is too short or its type field
is not supported. -/
def pubLens (curve : Nat → Option CurveSpec) (fam par : Nat) (aux : List Byte) : List Nat :=
  match hybLegs fam par with
  | some (pf, pp, tf, tp) => [pubKeyLen curve pf pp false [] + pubKeyLen curve tf tp false []]
  | none =>
    match fam with
    | 0x05 =>
      let t := beAt aux 4 4
      if aux.length ≥ 8 then (match lmsCodeN t with | some n => [28 + n] | none => []) else []
    | 0x06 =>
      if aux.length ≥ 4 then (match xmssOidN par (beAt aux 0 4) with | some n => [4 + 2 * n] | none => []) else []
    | 0x0A => match curve par with | some c => [1 + 2 * c.pLen, 1 + c.pLen, 1] | none => []
    | _ => [pubKeyLen curve fam par false []]

/-- Largest OAEP message (R44), as an integer. -/
def oaepMax (k hash : Nat) : Int := 32 * (k : Int) - 2 * (hashLen hash : Int) - 2

/-- Key-grade bytes of the command. -/
def State.drawOf (s : State) (c : Cmd) : Nat :=
  cmdDraw c.fam c.o c.par (c.b 49) (match s.curveSpec c.par with | some x => x.nBits | none => 0)

/-- The output size (R21, R44). -/
def State.outSize (s : State) (c : Cmd) (k : KeyMat) : Nat :=
  let ko := kemOut s.curveSpec c.fam c.par (c.b 48)
  if c.o = 0x10 then ko.1 + ko.2
  else if c.o = 0x11 then ko.1
  else if c.o = 0x12 then ko.2
  else if c.o = 0x30 then ssLenOf s.curveSpec c.fam c.par
  else if c.o = 0x40 then 32 * c.par
  else if c.o = 0x41 then (oaepMax c.par (c.b 49)).toNat
  else if isSign c.o then
    (if c.fam = 0x11 then hybSigLen s.curveSpec c.par
     else if isStateful c.fam then (shapeOf c.fam c.par k.priv).sigLen
     else (sigLenOf s.curveSpec c.fam c.par).getD 0)
  else 0

/-- The input length is right (R21, R38, R44 to R47, R421). -/
def State.inLenOk (s : State) (c : Cmd) (n : Nat) : Bool :=
  if isEncaps c.o then n == 0
  else if isDecaps c.o then n == (kemOut s.curveSpec c.fam c.par 0).1
  else if isPh c.o then n == (if c.fam = 0x0B then 64 else hashLen (c.b 49))
  else if c.o = 0x23 ∨ c.o = 0x2A then n == 64
  else if isAgree c.o then
    (match c.fam with
     | 0x09 => n == (ffdhLen c.par).getD 0
     | 0x0A => match s.curveSpec c.par with | some x => x.ptLen n | none => false
     | _ => n == (match edLens c.par with | some (k, _, _) => k | none => 0))
  else if c.o = 0x40 then decide ((n : Int) ≤ oaepMax c.par (c.b 49))
  else if c.o = 0x41 then n == 32 * c.par
  else true

/-- The parts of the auxiliary buffer (R18, R21): public key, signature, context string or label, host randomness; none where the
length does not fit. -/
structure AuxParts where
  pub  : List Byte
  sig  : List Byte
  ctx  : List Byte
  rand : List Byte
deriving DecidableEq, Repr

/-- The auxiliary buffer taken apart. -/
def State.auxParts (s : State) (c : Cmd) (aux : List Byte) : Option AuxParts :=
  let n := aux.length
  let cl := if c.fam = 0x10 then 0 else c.b 48
  let pls := if c.usesPublic then pubLens s.curveSpec c.fam c.par aux else [0]
  let d := if c.test then s.drawOf c else 0
  let cut := fun (p g x r : Nat) =>
    some { pub := aux.take p, sig := slice aux p g, ctx := slice aux (p + g) x, rand := slice aux (p + g + x) r : AuxParts }
  if c.test ∧ c.fam = 0x03 then
    let r := n - cl
    if n ≥ cl ∧ r ≠ 0 ∧ r % 72 = 0 ∧ r ≤ 1152 then cut 0 0 cl r else none
  else if isVerify c.o then
    if isStateful c.fam then
      (if c.usesPublic then (match pls with | [p] => if n ≥ p then cut p (n - p) 0 0 else none | _ => none) else cut 0 n 0 0)
    else
      let g := if c.fam = 0x11 then hybSigLen s.curveSpec c.par else (sigLenOf s.curveSpec c.fam c.par).getD 0
      match pls.find? (fun p => n == p + g + cl) with
      | some p => cut p g cl 0
      | none => none
  else if c.o = 0x40 then
    (match pls with | [p] => if n ≥ p + d then cut p 0 (n - p - d) d else none | _ => none)
  else if c.o = 0x41 then cut 0 0 n 0
  else
    match pls.find? (fun p => n == p + cl + d) with
    | some p => cut p 0 cl d
    | none => none

/-! Step 10 (R25, R37 to R48, R255). -/

/-- The public key of the auxiliary buffer, leg by leg: the post-quantum leg's code decides (R257). -/
def State.checkPub (s : State) (fam par : Nat) (pub : List Byte) : Nat :=
  match hybLegs fam par with
  | some (pf, pp, tf, tp) =>
    let n := pubKeyLen s.curveSpec pf pp false []
    let a := checkPublic pf pp none (pub.take n)
    if a ≠ 0 then a else checkPublic tf tp (s.curveSpec tp) (pub.drop n)
  | none => checkPublic fam par (s.curveSpec par) pub

/-- A peer value of a key agreement. -/
def State.checkPeer (s : State) (fam par : Nat) (v : List Byte) : Nat :=
  match fam with
  | 0x09 => ffdhCheck par v
  | 0x0A => match s.curveSpec par with | some x => x.check v | none => 0
  | _ => xdhCheck par v

/-- An RSA ciphertext (R44). -/
def rsaCtCheck (k : KeyMat) (par : Nat) (v : List Byte) : Nat :=
  let n := beAt k.pub 0 (32 * par)
  let x := beNat v
  if x ≥ n then St.NON_CANONICAL else if x = 0 ∨ x = 1 ∨ x = n - 1 then St.INVALID_INPUT else 0

def State.content (s : State) (c : Cmd) (k : KeyMat) (inp pub : List Byte) : Nat :=
  let a := if c.usesPublic then s.checkPub c.fam c.par pub else 0
  if a ≠ 0 then a
  else if isAgree c.o then s.checkPeer c.fam c.par inp
  else if c.o = 0x41 then rsaCtCheck k c.par inp
  else if isDecaps c.o then
    (match hybLegs c.fam c.par with
     | some (pf, pp, tf, tp) => s.checkPeer tf tp (inp.drop (ctLenOf s.curveSpec pf pp))
     | none => 0)
  else 0

/-! Validation (R25). -/

/-- Steps 5 and 6 for the key or keys of a command (R26, R131, R134). -/
def State.algKeys (s : State) (c : Cmd) (blobs : List (Nat × List Byte)) : Except Done (KeyMat × Option KeyMat × Option KeyObj) :=
  match hybLegs c.fam c.par with
  | none => do
    let k ← s.findKey c.fn c.h1 blobs (· == c.fam)
    s.keyUse k (useBit c.o) c.par
    pure (k.1, none, k.2)
  | some (pf, pp, tf, tp) => do
    let k ← s.findKey c.fn c.h1 blobs (fun f => f == c.fam || f == pf)
    if k.1.fam = c.fam then
      need (c.h2 == 0) St.KEY_USAGE
      s.keyUse k (useBit c.o) c.par
      let l := s.splitKey k.1 pf pp tf tp
      pure (l.1, some l.2, k.2)
    else
      let bit := if c.fam = 0x10 then Use.AGREE else useBit c.o
      need (c.h2 != 0) St.KEY_USAGE
      let t ← s.findKey c.fn c.h2 blobs (· == tf)
      s.keyUse k (useBit c.o) pp
      s.keyUse t bit tp
      pure (k.1, some t.1, k.2)

/-- The engine class of a family (R33). -/
def engOf (fam : Nat) : Eng :=
  match fam with
  | 0x01 | 0x02 | 0x03 | 0x07 | 0x08 => .pvc
  | 0x04 | 0x05 | 0x06 => .hte
  | 0x09 | 0x0A | 0x0B => .bne
  | _ => .dge

/-- A leg before its first run. -/
def newLeg (e : Eng) : Leg := ⟨e, 2, [], [], none, [], []⟩

def legsOf (fam par : Nat) : List Leg :=
  match hybLegs fam par with
  | some (pf, _, tf, _) => [newLeg (engOf pf), newLeg (engOf tf)]
  | none => [newLeg (engOf fam)]

/-- Validation steps 3 to 10 of a public-key operation. -/
def State.algValidate (s : State) (c : Cmd) (h : HostRead) : Except Done Cmd := do
  -- step 3
  need (parOk c.fam c.o c.par s.curveSpec) St.BAD_FIELD
  need (byte48Ok c.fam c.o c.par (c.b 48) && byte49Ok c.fam c.o (c.b 49) && leAt c.desc 50 6 == 0) St.BAD_FIELD
  need (!c.usesPublic || takesPublic c.o) St.BAD_FIELD
  need (if (hybLegs c.fam c.par).isSome && !c.usesPublic then c.h2 != PUBLIC_IN_AUX else c.h2 == 0) St.BAD_FIELD
  need (!isCtxOp c.o || decide (c.ctx < (s.fn c.fn).ctx)) St.BAD_FIELD
  -- step 4
  need (!c.test || s.testState) St.STATE
  need (!isCtxOp c.o || (s.ctxVal c.fn c.ctx).isNone) St.STATE
  s.needBlob (if c.usesPublic then 0 else c.h1)
  s.needBlob (if c.usesPublic then 0 else c.h2)
  -- steps 5 and 6
  let dummy := publicMat c.fam c.par []
  let ks ← if c.usesPublic then pure (dummy, none, none) else s.algKeys c h.blobs
  -- step 7
  match ks.2.2 with
  | some o => need (!(isStateful c.fam && isSign c.o && (o.frozen || decide (o.act.next > o.act.last)))) St.KEY_EXHAUSTED
  | none => pure ()
  -- steps 8 and 9
  let c1 ← c.buffers h (s.inLenOk c) (fun n => (s.auxParts c (fixLen n h.aux)).isSome) (s.outSize c ks.1)
  let parts ← match s.auxParts c c1.aux with | some p => pure p | none => throw (lenFail c1.auxLen)
  -- step 10
  let st := s.content c ks.1 c1.inp parts.pub
  if st ≠ 0 then throw { Done.err st with timed := true }
  let km := if c.usesPublic then
      (match hybLegs c.fam c.par with
       | some (pf, pp, tf, tp) =>
         let n := pubKeyLen s.curveSpec pf pp false []
         (publicMat pf pp (parts.pub.take n), some (publicMat tf tp (parts.pub.drop n)))
       | none => (publicMat c.fam c.par parts.pub, none))
    else (ks.1, ks.2.1)
  pure { c1 with k1 := some km.1, k2 := km.2, legs := legsOf c.fam c.par,
                 rand := parts.rand, need := if c.test then 0 else s.drawOf c }

/-! Runs. -/

/-- A result with bytes to release and bytes to keep. -/
def RunResult.ok (out secret : List Byte) : RunResult := ⟨0, out, none, none, [], secret, 0, 0, true⟩

def RunResult.fails (status : Nat) : RunResult := ⟨status, [], none, none, [], [], 0, 0, true⟩

/-- The message a leg signs or verifies: m' for the legs of a hybrid (R51). -/
def Cmd.msg (c : Cmd) (ctx : List Byte) : List Byte :=
  if c.fam = 0x11 then ascii "EBLOS-HYBRID-SIG" ++ [BitVec.ofNat 8 c.par, BitVec.ofNat 8 (c.b 48)] ++ ctx ++ c.inp else c.inp

/-- Operation and hash of a leg: the legs of a hybrid sign as pure ML-DSA, and as their scheme signs a message (R51). -/
def Cmd.mode (c : Cmd) (leg : Nat) : Nat × Nat :=
  if c.fam = 0x11 then
    (match hybSig c.par with
     | some (_, _, tf, tp) => if leg = 0 ∨ tf = 0x0B then (c.o, 0) else (c.o, if tp = 0 then 2 else 3)
     | none => (c.o, 0))
  else (c.o, c.b 49)

/-- The randomness of a leg: the post-quantum leg's bytes come first. -/
def Cmd.legRand (c : Cmd) (leg : Nat) : List Byte :=
  match hybLegs c.fam c.par with
  | some (pf, pp, _, _) =>
    let n := if c.fam = 0x10 then opDraw pf 0x10 pp 0 0 else if c.o = 0x20 then 32 else 0
    if leg = 0 then c.rand.take n else c.rand.drop n
  | none => c.rand

/-- Family, index and key of a leg. -/
def Cmd.legKey (c : Cmd) (leg : Nat) : Nat × Nat × KeyMat :=
  let k := (if leg = 0 then c.k1 else c.k2).getD (publicMat 0 0 [])
  match hybLegs c.fam c.par with
  | some (pf, pp, tf, tp) => if leg = 0 then (pf, pp, k) else (tf, tp, k)
  | none => (c.fam, c.par, k)

/-- An agreement of a leg, with the all-zero secret of XDH refused (R48). -/
def State.agreeLeg (s : State) (fam par : Nat) (priv peer : List Byte) : RunResult :=
  let z := schemeAgree (s.curveSpec par) fam par priv peer
  if fam = 0x0B ∧ z.all (· == 0) then .fails St.INVALID_INPUT else .ok [] z

/-- One run of a leg of a KEM command (R21, R29, R49); none where the ephemeral scalar needs more bytes (R31). -/
def State.kemRun (s : State) (c : Cmd) (leg : Nat) (rand ct : List Byte) : Option RunResult :=
  let (fam, par, k) := c.legKey leg
  if isEncaps c.o then
    if leg = 0 then let e := kemEncaps fam par k.pub rand; some (.ok e.1 e.2)
    else
      (schemeGen (s.curveSpec par) fam par false (lmsShape 0 []) rand).map (fun e =>
        let a := s.agreeLeg fam par e k.pub
        { a with out := if a.status = 0 then schemePub (s.curveSpec par) fam par false e else [] })
  else if leg = 0 then some (.ok [] (kemDecaps fam par k.priv k.pub ct))
  else some (s.agreeLeg fam par k.priv ct)

/-- The bytes of the ciphertext that a leg decapsulates. -/
def State.legCt (s : State) (c : Cmd) (leg : Nat) : List Byte :=
  match hybLegs c.fam c.par with
  | some (pf, pp, _, _) =>
    let n := ctLenOf s.curveSpec pf pp
    if leg = 0 then c.inp.take n else c.inp.drop n
  | none => c.inp

/-- The signature of a leg in the auxiliary buffer. -/
def State.legSig (s : State) (c : Cmd) (leg : Nat) (sig : List Byte) : List Byte :=
  match hybLegs c.fam c.par with
  | some (pf, pp, _, _) =>
    let n := (sigLenOf s.curveSpec pf pp).getD 0
    if leg = 0 then sig.take n else sig.drop n
  | none => sig

/-- What one run of a leg yields (R21, R28, R29, R39 to R51): none where it needs more of the entropy stream (R31). A test variant of an
FN-DSA signature whose attempt blocks are used up ends with their number (R18). -/
def State.algRun (s : State) (c : Cmd) (leg : Nat) : Option RunResult :=
  let (fam, par, k) := c.legKey leg
  let x := s.curveSpec par
  let (o, h) := c.mode leg
  let parts := (s.auxParts c c.aux).getD ⟨[], [], [], []⟩
  let rand := c.legRand leg
  let ctx := if c.fam = 0x11 then [] else parts.ctx
  if isEncaps c.o ∨ isDecaps c.o then s.kemRun c leg rand (s.legCt c leg)
  else if isAgree c.o then
    let a := s.agreeLeg fam par k.priv c.inp
    some (if c.o = 0x30 then { a with out := a.secret, secret := [] } else a)
  else if c.o = 0x40 then some (.ok (oaepEnc c.par h k.pub c.inp parts.ctx rand) [])
  else if c.o = 0x41 then
    some (match oaepDec c.par h k.priv c.inp parts.ctx with
      | some m => .ok m []
      | none => .fails St.INVALID_INPUT)
  else if isSign c.o then
    match schemeSign x fam par o h k c.leaf (c.msg parts.ctx) ctx rand with
    | some g => some { RunResult.ok g.1 [] with leaf := c.leaf, attempts := g.2 }
    | none =>
      if c.test ∧ fam = 0x03 then some { RunResult.fails St.INVALID_INPUT with inline := natLE 2 (rand.length / 72) } else none
  else
    some { RunResult.ok [] [] with
      verdict := some (schemeVerify x fam par o h k.pub (c.msg parts.ctx) (s.legSig c leg parts.sig) ctx) }

/-- The run's check of its own result, for legs of the big-number engine (R253). -/
def State.ownOk (s : State) (c : Cmd) (leg : Nat) (r : RunResult) : Bool :=
  let (fam, par, m) := c.legKey leg
  if r.status ≠ 0 ∨ !([0x09, 0x0A, 0x0B].contains fam) then true
  else
    let hyb := (hybLegs c.fam c.par).isSome
    let parts := (s.auxParts c c.aux).getD ⟨[], [], [], []⟩
    let (o, h) := c.mode leg
    if hyb ∧ c.fam = 0x10 then ownCheck (s.curveSpec par) fam par Op.AGREE 0 m [] [] [] r.secret
    else ownCheck (s.curveSpec par) fam par o h m c.inp (c.msg parts.ctx) r.out r.secret

/-! The result of all legs. -/

/-- The shared secret of a hybrid KEM (R49). -/
def Cmd.combine (c : Cmd) (ssPq ssT ctT pkT : List Byte) : List Byte :=
  if c.b 48 = 1 then sha3_256 (ssPq ++ ssT ++ ctT ++ pkT ++ ascii "EBLOS-KEM" ++ [BitVec.ofNat 8 c.par]) else ssPq ++ ssT

/-- The shared secret and the ciphertext of a KEM command whose legs have decided. -/
def State.kemResult (s : State) (c : Cmd) (rs : List RunResult) : List Byte × List Byte :=
  match rs with
  | [r] => (r.out, r.secret)
  | [p, t] =>
    let ctT := if isEncaps c.o then t.out else s.legCt c 1
    (p.out ++ t.out, c.combine p.secret t.secret ctT (match c.k2 with | some k => k.pub | none => []))
  | _ => ([], [])

/-- Inline bytes of SUCCESS of a public-key operation: the leaf always, the attempt count on request (R39, R40, R101). -/
def Cmd.algInline (c : Cmd) (rs : List RunResult) : List Byte :=
  match rs with
  | [r] => match r.leaf with
    | some q => natLE 8 q
    | none => if c.flag 3 && isSign c.o && (c.fam == 0x02 || c.fam == 0x03) then natLE 2 r.attempts else []
  | _ => []

/-- The command's legs have all decided: the result is released in the order of R34, output or context first, then the
completion. -/
def State.algFinish (s : State) (id : Nat) (c : Cmd) (rs : List RunResult) : State :=
  match rs.find? (fun r => r.status != 0) with
  | some r => s.complete id ⟨r.status, 0, none, r.inline, true⟩
  | none =>
    let inl := c.algInline rs
    if isEncaps c.o ∨ isDecaps c.o then
      let k := s.kemResult c rs
      let out := if isCtxOp c.o then k.1 else k.1 ++ k.2
      let s1 := s.writeOut c 0 out true
      let s2 := if isCtxOp c.o then s1.setCtx c.fn c.ctx k.2 c.op else s1
      s2.complete id (.ok out.length inl)
    else if c.o = 0x31 then
      (s.setCtx c.fn c.ctx (rs.flatMap (·.secret)) c.op).complete id (.ok 0 inl)
    else if isVerify c.o then
      s.complete id ⟨St.SUCCESS, 0, some (rs.all (fun r => r.verdict == some true)), inl, true⟩
    else
      let out := rs.flatMap (·.out)
      (s.writeOut c 0 out true).complete id (.ok out.length inl)

/-! The rows. -/

/-- The row of an operation without the test bit. -/
def algRow (o id : Nat) (h : HostRead) (s : State) : Host.Outcome State Fault Refusal :=
  opRow id (fun c => algOpOk c.op && c.op % 256 == o) (fun c => s.validated id c (s.algValidate c h)) s

/-- ENCAPS: ciphertext and shared secret (R21). -/
def execEncaps (cmd : Nat) (host : HostRead) (s : State) : Host.Outcome State Fault Refusal := algRow 0x10 cmd host s

/-- ENCAPS_CTX: the shared secret stays in a context (R23). -/
def execEncapsCtx (cmd : Nat) (host : HostRead) (s : State) : Host.Outcome State Fault Refusal := algRow 0x11 cmd host s

/-- DECAPS: with implicit rejection (R29). -/
def execDecaps (cmd : Nat) (host : HostRead) (s : State) : Host.Outcome State Fault Refusal := algRow 0x12 cmd host s

/-- DECAPS_CTX (R23, R29). -/
def execDecapsCtx (cmd : Nat) (host : HostRead) (s : State) : Host.Outcome State Fault Refusal := algRow 0x13 cmd host s

/-- SIGN: randomised, or with a leaf of a stateful key (R21, R36). -/
def execSign (cmd : Nat) (host : HostRead) (s : State) : Host.Outcome State Fault Refusal := algRow 0x20 cmd host s

/-- SIGN_DET: deterministic (R21). -/
def execSignDet (cmd : Nat) (host : HostRead) (s : State) : Host.Outcome State Fault Refusal := algRow 0x21 cmd host s

/-- SIGN_PH: over a digest (R421). -/
def execSignPh (cmd : Nat) (host : HostRead) (s : State) : Host.Outcome State Fault Refusal := algRow 0x22 cmd host s

/-- SIGN_MU: over a host-supplied value of 64 bytes (R38). -/
def execSignMu (cmd : Nat) (host : HostRead) (s : State) : Host.Outcome State Fault Refusal := algRow 0x23 cmd host s

/-- SIGN_DET_PH (R421). -/
def execSignDetPh (cmd : Nat) (host : HostRead) (s : State) : Host.Outcome State Fault Refusal := algRow 0x24 cmd host s

/-- VERIFY: a verdict (R28). -/
def execVerify (cmd : Nat) (host : HostRead) (s : State) : Host.Outcome State Fault Refusal := algRow 0x28 cmd host s

/-- VERIFY_PH (R28, R421). -/
def execVerifyPh (cmd : Nat) (host : HostRead) (s : State) : Host.Outcome State Fault Refusal := algRow 0x29 cmd host s

/-- VERIFY_MU (R28, R38). -/
def execVerifyMu (cmd : Nat) (host : HostRead) (s : State) : Host.Outcome State Fault Refusal := algRow 0x2A cmd host s

/-- AGREE: key agreement (R45, R46, R48). -/
def execAgree (cmd : Nat) (host : HostRead) (s : State) : Host.Outcome State Fault Refusal := algRow 0x30 cmd host s

/-- AGREE_CTX: the secret stays in a context (R23). -/
def execAgreeCtx (cmd : Nat) (host : HostRead) (s : State) : Host.Outcome State Fault Refusal := algRow 0x31 cmd host s

/-- ENCRYPT_OAEP (R43, R44). -/
def execEncryptOaep (cmd : Nat) (host : HostRead) (s : State) : Host.Outcome State Fault Refusal := algRow 0x40 cmd host s

/-- DECRYPT_OAEP (R44). -/
def execDecryptOaep (cmd : Nat) (host : HostRead) (s : State) : Host.Outcome State Fault Refusal := algRow 0x41 cmd host s

/-- SIGN_PKCS1 (R43). -/
def execSignPkcs1 (cmd : Nat) (host : HostRead) (s : State) : Host.Outcome State Fault Refusal := algRow 0x44 cmd host s

/-- SIGN_PSS (R43). -/
def execSignPss (cmd : Nat) (host : HostRead) (s : State) : Host.Outcome State Fault Refusal := algRow 0x45 cmd host s

/-- VERIFY_PKCS1 (R28, R43). -/
def execVerifyPkcs1 (cmd : Nat) (host : HostRead) (s : State) : Host.Outcome State Fault Refusal := algRow 0x46 cmd host s

/-- VERIFY_PSS (R28, R43). -/
def execVerifyPss (cmd : Nat) (host : HostRead) (s : State) : Host.Outcome State Fault Refusal := algRow 0x47 cmd host s

/-- TEST_VARIANT: an operation with bit 7 set takes its randomness from the host (R17, R18). -/
def execTestVariant (cmd : Nat) (host : HostRead) (s : State) : Host.Outcome State Fault Refusal :=
  opRow cmd (fun c => algOpOk c.op && decide (128 ≤ c.op % 256)) (fun c => s.validated cmd c (s.algValidate c host)) s

end Sys2Proof.Machine
end

