-- ==== Sys2Proof/Machine/FabMsg.lean ====
section
/-!
DEFINITION. Ports, flits, routes and end-to-end messages of the Wolum fabric (spec file 17, R398, R399, R404).
-/
namespace Sys2Proof.Machine
open Sys2Proof

/-! FAB_PORTk.STATE. -/
namespace Ps
def DISABLED : Nat := 0
def TRAINING : Nat := 1
def HANDSHAKE : Nat := 2
def UP : Nat := 3
def REFUSED : Nat := 4
def DOWN : Nat := 5
end Ps

def State.portState (s : State) (k : Nat) : Nat := s.rdF (Reg.FAB_PORT k) 31 29
def State.upPorts (s : State) : List Nat := (List.range 16).filter (fun k => s.portState k == Ps.UP)

/-- A port with no link: 64 credits for each channel at link-up. -/
def WPort.fresh : WPort where
  sh := .idle
  txSeq := 0
  rxSeq := 0
  unacked := []
  waiting := []
  replays := 0
  fails := 0
  credits := [64, 64, 64]
  flits := 0
  keyedAt := 0

def State.wport (s : State) (k : Nat) : WPort := (mget s.fab.ports k).getD .fresh
def State.setWport (s : State) (k : Nat) (p : WPort) : State := { s with fab := { s.fab with ports := mput s.fab.ports k p } }

/-! Flits (R398, R399). -/

/-- One waiting flit goes out where its channel has a credit, no earlier flit of the channel waits, and the replay buffer of 128 flits has
room: the port, what still waits, what goes out. -/
def sendOne (x : WPort × List (Nat × PortMsg) × List LinkOut) (k : Nat) (m : Nat × PortMsg) : WPort × List (Nat × PortMsg) × List LinkOut :=
  let p := x.1
  let c := p.credits.getD m.1 0
  if 0 < c ∧ p.unacked.length < 128 ∧ !x.2.1.any (fun w => w.1 == m.1) then
    ({ p with credits := p.credits.set m.1 (c - 1), unacked := p.unacked ++ [(p.txSeq, m.1, m.2)], txSeq := (p.txSeq + 1) % 4096,
              flits := p.flits + 1 }, x.2.1, x.2.2 ++ [.wolum k p.txSeq m.1 m.2])
  else (p, x.2.1 ++ [m], x.2.2)

/-- What can go out over a port goes out. -/
def State.flush (s : State) (k : Nat) : State :=
  let p := s.wport k
  let r := p.waiting.foldl (fun x m => sendOne x k m) (p, [], [])
  r.2.2.foldl State.emit (s.setWport k { r.1 with waiting := r.2.1 })

/-- A message for a port that is up, on a virtual channel. -/
def State.sendPort (s : State) (k vc : Nat) (m : PortMsg) : State :=
  if s.portState k = Ps.UP then (s.setWport k { s.wport k with waiting := (s.wport k).waiting ++ [(vc, m)] }).flush k else s

/-- A message floods over every port that is up but one. -/
def State.flood (s : State) (but : Option Nat) (m : PortMsg) : State :=
  (s.upPorts.filter (fun k => some k != but)).foldl (fun (x : State) k => x.sendPort k 0 m) s

/-! Peers. -/

def State.peer (s : State) (id : List Byte) : Option Peer := s.fab.peers.find? (fun p => p.id == id)
def State.modPeer (s : State) (id : List Byte) (f : Peer → Peer) : State :=
  { s with fab := { s.fab with peers := s.fab.peers.map (fun (p : Peer) => if p.id = id then f p else p) } }
def State.peerAddr (s : State) (id : List Byte) : Option Nat := match s.peer id with | some p => p.addr | none => none

/-- The ports up with the addresses at their other ends. -/
def State.ownLinks (s : State) : List (Nat × Nat) := s.upPorts.filterMap (fun k => (s.peerAddr (s.wport k).sh.peerId).map (fun a => (k, a)))

/-! Routes (R404). -/

/-- Hops from a set of addresses to a destination over the link states; the addresses seen are not entered again. -/
def hopsFrom (st : List (Nat × List (Nat × Nat))) (dest : Nat) : Nat → List Nat → List Nat → Option Nat
  | 0, _, _ => none
  | n + 1, seen, front =>
    if front.isEmpty then none
    else if front.contains dest then some 0
    else
      let next := (front.flatMap (fun a => ((mget st a).getD []).map (·.2))).eraseDups.filter (fun a => !seen.contains a && !front.contains a)
      (hopsFrom st dest n (seen ++ front) next).map (· + 1)

/-- Hop count and up to four next-hop ports of equal cost. -/
def State.route (s : State) (dest : Nat) : Option (Nat × List Nat) :=
  let me := match s.fab.addr with | some a => [a] | none => []
  let c := s.ownLinks.filterMap (fun l => (hopsFrom s.fab.states dest 4096 me [l.2]).map (fun h => (h + 1, l.1)))
  match c.map (·.1) with
  | [] => none
  | h :: t =>
    let n := t.foldl Nat.min h
    some (n, ((c.filter (fun x => x.1 == n)).map (·.2)).take 4)

/-! End-to-end messages (R404). -/

/-- The message travels in an end-to-end session only (R401). -/
def FabMsg.secret : FabMsg → Bool
  | .key .. | .commitReq .. | .stage .. | .restoreAsk .. | .restoreNo .. | .restoreEnd .. | .relayCard .. | .relayApdu .. | .relayResp .. => true
  | _ => false

/-- Its virtual channel: 0 control, 1 key, 2 work. -/
def FabMsg.vc : FabMsg → Nat
  | .work .. | .workDone .. => 2
  | m => if m.secret then 1 else 0

/-- A message goes out on the route in force: the port by a hash that keeps a flow in order. -/
def State.transmit (s : State) (id : Nat) (m : E2e) : State :=
  let ready := !m.body.secret || (match s.peer m.dest with | some p => p.sh.stage == .done | none => false)
  match s.fab.addr, s.peerAddr m.dest with
  | some a, some d =>
    match s.route d with
    | some (_, k :: ks) =>
      if ready then
        let l := k :: ks
        (({ s with fab := { s.fab with e2e := mput s.fab.e2e id { m with sent := true } } })).sendPort
          (l.getD (Config.routeHash a d id % l.length) k) m.body.vc (.msg a d id m.body)
      else s
    | _ => s
  | _, _ => s

/-- A new end-to-end message; without a route or a session it waits. An acknowledgement is not itself acknowledged. -/
def State.sendMsg (s : State) (dest : List Byte) (body : FabMsg) : State :=
  let id := s.fab.nextMsg
  let m : E2e := { dest := dest, body := body, sent := false, tries := 0 }
  let s1 := { s with fab := { s.fab with nextMsg := id + 1, e2e := mput s.fab.e2e id m } }.transmit id m
  match body with
  | .ack _ => { s1 with fab := { s1.fab with e2e := mdel s1.fab.e2e id } }
  | _ => s1

/-- A message to every member of a group that one reaches; a device is no peer of its own. -/
def State.sendMembers (s : State) (gid : Nat) (body : FabMsg) : State :=
  match mget s.fab.groups gid with
  | some g => (g.members.filter (fun m => match s.peerAddr m with | some a => (s.route a).isSome | none => false)).foldl
      (fun (x : State) m => x.sendMsg m body) s
  | none => s

/-- The messages that wait go out where they now can. -/
def State.sendWaiting (s : State) : State :=
  (s.fab.e2e.filter (fun m => !m.2.sent)).foldl (fun (x : State) m => x.transmit m.1 m.2) s

end Sys2Proof.Machine
end

