-- ==== Sys2Proof/Machine/KeyOps.lean ====
section
/-!
DEFINITION. The key operations of family 0x0F (spec file 05, R131 to R157): validation, what a run yields, delivery of the result, objects
and their generations.
-/
namespace Sys2Proof.Machine
open Sys2Proof

/-! Objects. -/

/-- Last leaf of a new generation. -/
def lastLeaf (fam par : Nat) (priv : List Byte) : Nat := if isStateful fam then (shapeOf fam par priv).leaves - 1 else 0

/-- A generation with fresh counters on the curve loaded now (R259). -/
def State.genFor (s : State) (gen : Nat) (a priv pub : List Byte) : KeyGen :=
  (mkGen s.ks.uids gen (attrPar a) priv pub (if attrFam a = 0x0A then s.domOf (attrPar a) else 0) (lastLeaf (attrFam a) (attrPar a) priv)).at_
    (attrFam a) 0

/-- The object without what its record does not hold: of a stateful key, the trees but for the top part of the top level (R223). -/
def KeyObj.sealedObj (o : KeyObj) : KeyObj := if isStateful (attrFam o.attrs) then { o with act := o.act.sealedPart } else o

/-- Bytes that a handle holds in the flash code-key area (R140): the longer of its ACTIVE and staged public keys, for a COMMIT puts the one
in the other's place; of a record not yet unsealed, its key's. -/
def State.ckHeld (s : State) (h : Nat) : Nat :=
  match mget s.ks.objs h with
  | some o => Nat.max o.act.pub.length (match o.staged with | some g => g.pub.length | none => 0)
  | none => match mget s.ks.flash h with | some f => f.obj.act.pub.length | none => 0

/-- Bytes that the flash code-key area holds (R140). -/
def State.ckUsed (s : State) : Nat := s.ks.ckFlash.foldl (fun n h => n + s.ckHeld h) 0

/-- The flash code-key area has no room for a public key of that length, of a new object or in the place of one's own (R140; log entry
114). -/
def State.ckFull (s : State) (fam n : Nat) (own : Option Nat) : Bool :=
  let mine := match own with | some h => if s.ks.ckFlash.contains h then s.ckHeld h else 0 | none => 0
  fam == 0x07 && decide (s.ckUsed + (n - mine) > s.ks.ckMiB * 2 ^ 20)

/-- A new object with one ACTIVE generation (R151). -/
def State.freshObj (s : State) (a priv pub : List Byte) : KeyObj :=
  { attrs := a, act := s.genFor 1 a priv pub, staged := none, stAttrs := [], verified := false, frozen := false, retiring := [],
    unsealed := true, rebuild := false }

/-- The sealed record of an object (R137). The first one takes the store from EMPTY to NORMAL. While there is no sealing key none is
written. -/
def State.sealObj (s : State) (h : Nat) (o : KeyObj) : State :=
  match s.ks.dsk with
  | none => s
  | some k =>
    let r : FlashKey := { obj := o.sealedObj, dsk := k, damaged := false, ceil := o.act.ceil }
    let s1 := { s with ks := { s.ks with flash := mput s.ks.flash h r } }
    if s1.sealState = Seal.EMPTY then s1.wrF Reg.KST_STAT 5 4 Seal.NORMAL else s1

/-- The PERSISTENT objects without a record under the sealing key get theirs (R137). -/
def State.sealAll (s : State) : State :=
  s.ks.objs.foldl (fun (x : State) o =>
    if attrPersist o.2.attrs && o.2.unsealed && (match mget x.ks.flash o.1 with | some f => some f.dsk != x.ks.dsk | none => true) then x.sealObj o.1 o.2
    else x) s

/-- An object takes its place; a PERSISTENT one gets its sealed record (R137), a Classic McEliece one its place in the flash code-key
area (R140). -/
def State.storeObj (s : State) (h : Nat) (o : KeyObj) : State :=
  let s1 := ({ s with ks := { s.ks with uids := Nat.max s.ks.uids (o.act.uid + 1) } }).setObj h o
  let s2 := if attrFam o.attrs = 0x07 ∧ !s1.ks.ckFlash.contains h then { s1 with ks := { s1.ks with ckFlash := h :: s1.ks.ckFlash } } else s1
  if attrPersist o.attrs then s2.sealObj h o else s2

/-- A new object of a function within its quotas (R136), at the lowest free handle. -/
def State.newObj (s : State) (fn : Nat) (a priv pub : List Byte) : Except Done (State × Nat) :=
  let q := s.quotaHit fn (privBytes (attrFam a) (attrPar a) priv) true
  if q ≠ 0 then .error (.fail St.QUOTA [BitVec.ofNat 8 q])
  else if s.ckFull (attrFam a) pub.length none then .error (.fail St.QUOTA [2])
  else if attrPersist a ∧ s.ks.dsk.isNone then .error (.err St.STATE)
  else if s.sealState = Seal.LOST then .error (.err St.STATE)
  else match s.freeHandle fn with
    | none => .error (.fail St.QUOTA [1])
    | some h => .ok (s.storeObj h (s.freshObj a priv pub), h)

/-- A command in flight still uses a generation: as its key, or as the payload of a WRAP (R30). -/
def State.genInUse (s : State) (uid : Nat) : Bool :=
  let hit := fun (k : Option KeyMat) => match k with | some m => m.uid == uid | none => false
  s.cmds.any (fun c => hit c.2.k1 || hit c.2.k2 || c.2.uses.contains uid)

/-- A key's keyed-state slots are zeroised; where it is destroyed, the contexts bound to it become INVALID (R240, R241). -/
def Digest.unbind (d : Digest) (h : Nat) (destroyed : Bool) : Digest :=
  { d with
    ksc := d.ksc.filter (fun k => k.handle != h)
    ctxs := if destroyed then d.ctxs.map (fun c => (c.1, if c.2.state = .opened ∧ c.2.keyed = some h then c.2.wipe .invalid else c.2))
      else d.ctxs }

/-- An object leaves the store: the generations in use are zeroised once their users have ended (R154). -/
def State.dropObj (s : State) (h : Nat) : State :=
  match mget s.ks.objs h with
  | none => s
  | some o =>
    let left := (o.act :: o.retiring).filter (fun g => s.genInUse g.uid)
    let ks := { s.ks with
      objs := mdel s.ks.objs h
      dying := s.ks.dying ++ left.map (fun g => (h, g))
      flash := mdel s.ks.flash h
      ckFlash := s.ks.ckFlash.filter (· != h)
      codeKeys := s.ks.codeKeys.filter (fun k => k.handle != h) }
    let s1 := { s with ks := ks, dg := s.dg.unbind h true }
    if o.frozen then s1.wrF Reg.KST_HBS 15 5 (s1.rdF Reg.KST_HBS 15 5 - 1) else s1

/-- The state of a key seen by stage commands. -/
def KeyObj.stageable (o : KeyObj) : Bool := o.staged.isNone && !o.frozen

/-- A new generation is staged (R151). -/
def KeyObj.stage (o : KeyObj) (g : KeyGen) (a : List Byte) : KeyObj := { o with staged := some g, stAttrs := a, verified := false }

/-- The staged generation is discarded. -/
def KeyObj.discard (o : KeyObj) : KeyObj := { o with staged := none, stAttrs := [], verified := false }

/-- The flip of a COMMIT (R153): the old generation retires while commands use it. -/
def KeyObj.flip (o : KeyObj) (g : KeyGen) (inUse : Bool) : KeyObj :=
  { o with
    attrs := o.attrs.take 1 ++ slice o.stAttrs 1 1 ++ slice o.attrs 2 4 ++ slice o.stAttrs 6 2 ++ o.attrs.drop 8
    act := g, staged := none, stAttrs := [], verified := false
    retiring := if inUse then o.retiring ++ [o.act] else o.retiring }

/-- The commit of a verified generation, with the new record in flash (R153). -/
def State.commitGen (s : State) (h : Nat) (o : KeyObj) (g : KeyGen) : State :=
  let o1 := o.flip g (s.genInUse o.act.uid)
  let s1 := s.storeObj h o1
  { s1 with ks := { s1.ks with codeKeys := s1.ks.codeKeys.filter (fun k => k.handle != h) }, dg := s1.dg.unbind h false }

/-! Attribute records of payloads. -/

/-- The record without the fields the device fills. -/
def plainAttrs (a : List Byte) : List Byte :=
  a.take 5 ++ [BitVec.ofNat 8 (attrFlags a % 4)] ++ slice a 6 2 ++ zeros 16 ++ zeros 8

/-- A staged record keeps family, usage, policy, the PERSISTENT and QUORUM flags and the group (R151). -/
def stageRecOk (o : KeyObj) (a : List Byte) : Bool :=
  attrFam a == attrFam o.attrs && attrUse a == attrUse o.attrs && attrPolicy a == attrPolicy o.attrs &&
    attrFlags a % 4 == attrFlags o.attrs % 4 && (attrGroup a == 0 || attrGroup a == attrGroup o.attrs)

/-! Key generation (R31, R134, R146). -/

/-- The shape of a new stateful key (log entry 35). -/
def recShape (a : List Byte) : HbsShape := hbsShape (attrFam a) (attrPar a) (Config.hbsPick a)

/-- Length of the private key that a record describes. -/
def State.recPrivLen (s : State) (a : List Byte) : Nat :=
  if isStateful (attrFam a) then hbsHead + (recShape a).draw else privLenOf s.curveSpec (attrFam a) (attrPar a) (attrFfdh a)

/-- Bytes charged for it before its header (R136, R222). -/
def State.recBytes (s : State) (a : List Byte) : Nat := if isStateful (attrFam a) then (recShape a).stateLen else s.recPrivLen a

/-- Key-grade bytes of key generation of a simple family (R31; log entry 115 for curves, Edwards curves and FFDH). -/
def State.simpleDraw (s : State) (fam par : Nat) (a : List Byte) : Nat :=
  match fam with
  | 0x01 => 64
  | 0x02 => 32
  | 0x03 => 48
  | 0x04 => 3 * slhN par
  | 0x05 | 0x06 => (recShape a).draw
  | 0x07 => 32
  | 0x08 => 80
  | 0x09 => if attrFfdh a then (ffdhLen par).getD 0 else 32 * par
  | 0x0A => match s.curveSpec par with | some c => scalarDraw c.nBits | none => 0
  | 0x0B => match edLens par with | some (_, k, _) => k | none => 0
  | 0x0C | 0x0F => 16 * par
  | _ => 0

/-- Key-grade bytes of key generation. -/
def State.genDraw (s : State) (a : List Byte) : Nat :=
  match hybLegs (attrFam a) (attrPar a) with
  | some (pf, pp, tf, tp) => s.simpleDraw pf pp a + s.simpleDraw tf tp a
  | none => s.simpleDraw (attrFam a) (attrPar a) a

/-- One leg of a key generation: private and public key from its bytes; none where it needs more of the entropy stream (R31). -/
def State.genLeg (s : State) (fam par : Nat) (ffdh : Bool) (shape : HbsShape) (rand : List Byte) : Option RunResult :=
  (schemeGen (s.curveSpec par) fam par ffdh shape rand).map (fun p => .ok (schemePub (s.curveSpec par) fam par ffdh p) p)

/-- The attribute record of a generating command (its auxiliary buffer). -/
def Cmd.attrRec (c : Cmd) : List Byte := c.aux

/-- A run of a leg of GENERATE, GENERATE_BLOB or STAGE_GENERATE. Bytes beyond those of the legs and the nonce of a blob are drawn while the
runs proceed; of a composite key, one leg at most draws them. -/
def State.genRun (s : State) (c : Cmd) (leg : Nat) : Option RunResult :=
  let a := c.attrRec
  let x := recShape a
  let more := c.rand.drop (s.genDraw a + (if c.op = 0x0F02 then 32 else 0))
  match hybLegs (attrFam a) (attrPar a) with
  | some (pf, pp, tf, tp) =>
    let n := s.simpleDraw pf pp a
    if leg = 0 then s.genLeg pf pp false x (c.rand.take n ++ more) else s.genLeg tf tp false x (slice c.rand n (s.simpleDraw tf tp a) ++ more)
  | none => s.genLeg (attrFam a) (attrPar a) (attrFfdh a) x (c.rand.take (s.genDraw a) ++ more)

/-! Checks of imported material (R145, R37, R257). -/

/-- The checks of one leg (R37, R257); the public key is that of the private key. -/
def State.legKeyOk (s : State) (fam par : Nat) (ffdh : Bool) (priv : List Byte) : Bool :=
  let c := s.curveSpec par
  privateOk c fam par ffdh { publicMat fam par (schemePub c fam par ffdh priv) with priv := priv }

/-- All checks of imported material; a stateful key has the supported shape that it names. -/
def State.materialOk (s : State) (a priv : List Byte) : Bool :=
  let fam := attrFam a
  let par := attrPar a
  if isStateful fam then let x := shapeOf fam par priv; x.enc == priv.take hbsHead && priv.length == hbsHead + x.draw && x.supported fam par
  else decide (priv.length = s.recPrivLen a) &&
  (match hybLegs fam par with
   | some (pf, pp, tf, tp) =>
     let k := privKeyLen s.curveSpec pf pp false
     s.legKeyOk pf pp false (priv.take k) && s.legKeyOk tf tp false (priv.drop k)
   | none => s.legKeyOk fam par (attrFfdh a) priv)

/-- What keeps a key from entering the store by an escrow or through the fabric: QUOTA by the quotas and the caches (R136, R140),
INVALID_INPUT by its material (R145); 0 where nothing does. `own` is the handle of an object that it joins as a generation. -/
def State.arrives (s : State) (fn : Nat) (a priv pub : List Byte) (own : Option Nat) : Nat :=
  if s.quotaHit fn (privBytes (attrFam a) (attrPar a) priv) own.isNone ≠ 0 ∨ s.ckFull (attrFam a) pub.length own then St.QUOTA
  else if !s.materialOk a priv then St.INVALID_INPUT
  else 0

/-- The public key of imported material. -/
def State.pubFor (s : State) (a priv : List Byte) : List Byte :=
  pubOf s.curveSpec (attrFam a) (attrPar a) (attrFfdh a) priv

/-! Wrapped keys (R149, R150). -/

/-- The command seen as the encapsulation or decapsulation of its wrapping key (R149: the KDF combiner for a hybrid). -/
def Cmd.asKem (c : Cmd) (o fam par : Nat) (ct : List Byte) : Cmd :=
  { c with
    desc := natLE 2 (fam * 256 + o) ++ slice c.desc 2 1 ++ [BitVec.ofNat 8 par] ++ slice c.desc 4 44
      ++ [BitVec.ofNat 8 (b2n (fam == 0x10))] ++ zeros 15
    inp := ct }

/-- Family and index of the wrapping key of a command that has passed validation: its note. -/
def Cmd.kemFam (c : Cmd) : Nat := leAt c.note 0 1
def Cmd.kemPar (c : Cmd) : Nat := leAt c.note 1 1

/-- The header of a wrapped key: bytes 0 to 15. -/
def wrapHead (fam par kind ct p : Nat) : List Byte :=
  [0x45, 0x42, 0x57, 0x31] ++ [BitVec.ofNat 8 fam, BitVec.ofNat 8 par, BitVec.ofNat 8 kind, 0] ++ natLE 4 ct ++ natLE 4 p

/-- The KEM families (R149). -/
def kemFams : List Nat := [0x01, 0x07, 0x08, 0x10]

/-- Family of a public wrapping key: the one whose public key with the descriptor's index has the length of the auxiliary buffer. -/
def State.publicKem (s : State) (par n : Nat) : Option Nat :=
  kemFams.find? (fun f => parOk f 0x10 par s.curveSpec && (pubLens s.curveSpec f par []).contains n)

/-- The KEM command of a WRAP or UNWRAP in its runs. -/
def Cmd.kemCmd (c : Cmd) : Cmd :=
  if c.op = 0x0F20 then c.asKem 0x10 c.kemFam c.kemPar [] else c.asKem 0x12 c.kemFam c.kemPar (slice c.inp 16 (leAt c.inp 8 4))

/-! Validation. -/

/-- Bytes 48 to 55 and the handle fields that an operation does not use are zero (R143); PUBLIC_IN_AUX is WRAP's alone. -/
def Cmd.fields (c : Cmd) (key : Bool) : Except Done Unit :=
  Machine.need (leAt c.desc 48 8 == 0 && c.h2 == 0 && (key || c.h1 == 0) && c.h1 != PUBLIC_IN_AUX) St.BAD_FIELD

/-- Quotas of a new private key (R136). -/
def State.quota (s : State) (fn n : Nat) (newObj : Bool) : Except Done Unit :=
  let q := s.quotaHit fn n newObj
  if q = 0 then .ok () else .error (.fail St.QUOTA [BitVec.ofNat 8 q])

/-- Creators of objects and blobs are refused in SEALED-LOST (R159). -/
def State.canCreate (s : State) : Except Done Unit := need (s.sealState != Seal.LOST) St.STATE

/-- A key of any family, on the curve it was made on (R259). -/
def State.anyKey (s : State) (fn h : Nat) (host : HostRead) : Except Done (KeyMat × Option KeyObj) := do
  let k ← s.findKey fn h host.blobs (fun _ => true)
  need (s.curveHolds k.1) St.KEY_USAGE
  pure k

/-- A resident object; the handle of a sealed blob names none (R420). -/
def State.anyObj (s : State) (fn h : Nat) : Except Done KeyObj :=
  if s.noDsk ∧ handleClass h = 1 then .error (.err St.STATE)
  else match s.resolve fn h [] with
  | .absent => .error (.err St.KEY_ABSENT)
  | .wait => .error (.err waitUnsealMark)
  | .lost => .error (.fail St.DEVICE_FAULT [0xFF, 0xFF])
  | .key m (some o) => if s.curveHolds m then .ok o else .error (.err St.KEY_USAGE)
  | .key _ none => .error (.err St.KEY_ABSENT)

/-- The legs of a key of any family. -/
def genLegs (a : List Byte) : List Leg := legsOf (attrFam a) (attrPar a)

/-- The record in the auxiliary buffer: it is looked at where the buffer has its length. -/
def Cmd.recIn (_c : Cmd) (h : HostRead) : List Byte := fixLen 32 h.aux

/-- Length of the public key that a record describes. -/
def State.recPubLen (s : State) (a : List Byte) : Nat :=
  match hybLegs (attrFam a) (attrPar a) with
  | some (pf, pp, tf, tp) => pubKeyLen s.curveSpec pf pp false [] + pubKeyLen s.curveSpec tf tp false []
  | none => if isStateful (attrFam a) then (recShape a).pkLen
    else pubKeyLen s.curveSpec (attrFam a) (attrPar a) (attrFfdh a) []

/-- GENERATE and GENERATE_BLOB (R133, R146, R147). -/
def State.generateVal (s : State) (c : Cmd) (h : HostRead) : Except Done Cmd := do
  let blob := c.op == 0x0F02
  let a := c.recIn h
  let seen := c.auxLen == 32
  c.fields false
  need (!seen || (attrOk s.curveSpec a && !(attrFam a == 0x09 && !attrFfdh a && attrPar a < 8) && !(blob && isStateful (attrFam a)))) St.BAD_FIELD
  s.canCreate
  s.needDsk (blob || (seen && attrPersist a))
  let priv := s.recPrivLen a
  let pub := s.recPubLen a
  let c1 ← c.buffers h (· == 0) (· == 32) (if blob then 112 + priv + pub else pub)
  if blob then pure () else s.quota c.fn (s.recBytes a) true
  pure { c1 with legs := genLegs a, need := s.genDraw a + (if blob then 32 else 0) }

/-- IMPORT (R145): step 10 examines only the record. -/
def State.importVal (s : State) (c : Cmd) (h : HostRead) : Except Done Cmd := do
  let a := c.recIn h
  let good := attrOk s.curveSpec a
  let priv := s.recPrivLen a
  c.fields false
  need s.testState St.STATE
  s.canCreate
  s.needDsk (c.auxLen == 32 && attrPersist a)
  let c1 ← c.buffers h (fun n => !good || n == priv) (· == 32) 0
  s.quota c.fn (s.recBytes a) true
  if !good then throw { Done.err St.BAD_FIELD with timed := true }
  pure { c1 with legs := genLegs a }

/-- DERIVE (R144). -/
def State.deriveVal (s : State) (c : Cmd) (h : HostRead) : Except Done Cmd := do
  let n := c.b 49
  let how := c.b 52
  let dst := leAt c.desc 50 2
  let allot := (s.fn c.fn).ctx
  let o := how % 8
  need (c.b 48 ≤ 1 && 16 ≤ n && n ≤ 128 && (o == 1 || o == 2 || o == 4) && how < 16 && leAt c.desc 53 3 == 0 && c.h2 == 0 &&
    (o == 1 || dst == 0) && !(how ≥ 8 && c.h1 != 0) && c.h1 != PUBLIC_IN_AUX) St.BAD_FIELD
  need (c.h1 != 0 || c.ctx < allot) St.BAD_FIELD
  need (o != 1 || dst < allot) St.BAD_FIELD
  let aux := fixLen c.auxLen h.aux
  let a := aux.drop (c.auxLen - 32)
  let seen := o == 4 && decide (32 ≤ c.auxLen)
  need (!seen || (attrOk s.curveSpec a && (attrFam a == 0x0C || attrFam a == 0x0F) && 16 * attrPar a == n)) St.BAD_FIELD
  need (c.h1 != 0 || (s.ctxVal c.fn c.ctx).isSome) St.STATE
  need (o != 1 || (s.ctxVal c.fn dst).isNone) St.STATE
  need (o != 4 || s.sealState != Seal.LOST) St.STATE
  s.needDsk (seen && attrPersist a)
  s.needBlob c.h1
  let k ← if c.h1 = 0 then pure none else (s.anyKey c.fn c.h1 h).map some
  match k with
  | some (m, _) => do
    need ((attrUse m.attrs).testBit Use.DERIVE) St.KEY_USAGE
    need (o != 2 || attrPolicy m.attrs != 0) St.KEY_USAGE
  | none => pure ()
  let c1 ← c.buffers h (fun _ => true) (fun x => o != 4 || decide (32 ≤ x)) (if o = 2 then n else 0)
  if o = 4 then s.quota c.fn n true else pure ()
  let src := match k with | some (m, _) => m.priv | none => (match s.ctxVal c.fn c.ctx with | some v => v.value | none => [])
  pure { c1 with k1 := k.map (·.1), src := src, legs := [newLeg .dge] }

/-- WRAP (R143, R149, R135). -/
def State.wrapVal (s : State) (c : Cmd) (h : HostRead) : Except Done Cmd := do
  let kind := c.b 48
  need (kind ≤ 2 && leAt c.desc 49 7 == 0 && (if kind = 2 then c.h2 != PUBLIC_IN_AUX else c.h2 == 0)) St.BAD_FIELD
  need (kind != 1 || c.ctx < (s.fn c.fn).ctx) St.BAD_FIELD
  need (kind != 1 || (s.ctxVal c.fn c.ctx).isSome) St.STATE
  s.needBlob (if c.usesPublic then 0 else c.h1)
  s.needBlob (if kind = 2 then c.h2 else 0)
  let wk ← if c.usesPublic then pure none else (s.findKey c.fn c.h1 h.blobs kemFams.contains).map some
  let data ← if kind = 2 then (s.anyKey c.fn c.h2 h).map some else pure none
  match wk with
  | some k => s.keyUse k Use.WRAP k.1.par
  | none => pure ()
  match data with
  | some (m, _) => do
    need (attrPolicy m.attrs == 2 && !isStateful m.fam && !c.usesPublic && handleClass c.h1 == 0) St.KEY_USAGE
    need (!attrQuorum m.attrs || s.quorumOpen) St.QUORUM_REQUIRED
  | none => pure ()
  let src := match data with
    | some (m, o) => (match o with | some x => x.record | none => m.attrs) ++ m.priv
    | none => if kind = 1 then (match s.ctxVal c.fn c.ctx with | some v => v.value | none => []) else fixLen c.inLen h.input
  let fp := match wk with | some k => some (k.1.fam, k.1.par) | none => (s.publicKem c.par c.auxLen).map (fun f => (f, c.par))
  match fp with
  | none => throw (lenFail c.auxLen)
  | some (fam, par) => do
    let ct := (kemOut s.curveSpec fam par 1).1
    let auxWant := if c.usesPublic then c.auxLen else 0
    let c1 ← c.buffers h (fun n => if kind = 0 then 16 ≤ n && n ≤ 128 else n == 0) (· == auxWant) (48 + ct + src.length)
    let bad := if c.usesPublic then s.checkPub fam par c1.aux else 0
    if bad ≠ 0 then throw { Done.err bad with timed := true }
    let legs := match wk, hybLegs fam par with
      | some k, some (pf, pp, tf, tp) => let l := s.splitKey k.1 pf pp tf tp; (l.1, some l.2)
      | some k, none => (k.1, none)
      | none, some (pf, pp, tf, tp) =>
        let n := pubKeyLen s.curveSpec pf pp false []
        (publicMat pf pp (c1.aux.take n), some (publicMat tf tp (c1.aux.drop n)))
      | none, none => (publicMat fam par c1.aux, none)
    pure { c1 with k1 := some legs.1, k2 := legs.2, src := src, uses := (data.map (·.1.uid)).toList, legs := legsOf fam par, need := cmdDraw fam 0x10 par 0 0,
                   note := [BitVec.ofNat 8 fam, BitVec.ofNat 8 par] }

/-- The unwrapping part that UNWRAP and STAGE_UNWRAP share: the wrapped key is read and checked, the legs are the wrapping key's (R150). -/
def State.unwrapWith (s : State) (c : Cmd) (h : HostRead) (k : KeyMat × Option KeyObj) (stage : Bool) (outLen : Nat) : Except Done Cmd := do
  let fam := k.1.fam
  let par := k.1.par
  let ct := (kemOut s.curveSpec fam par 1).1
  let inp := fixLen c.inLen h.input
  let p := leAt inp 12 4
  let kind := leAt inp 6 1
  let c1 ← c.buffers h (fun n => decide (48 + ct ≤ n) && n == 48 + ct + p) (· == 0) outLen
  let bad : Nat :=
    if inp.take 16 ≠ wrapHead fam par kind ct p ∨ kind > 2 ∨ (stage ∧ kind ≠ 2) then St.INVALID_INPUT
    else if kind = 2 ∧ p < 32 ∨ kind ≠ 2 ∧ (p < 16 ∨ 128 < p) then St.INVALID_INPUT
    else s.content (c.asKem 0x12 fam par []) k.1 (slice inp 16 ct) []
  if bad ≠ 0 then throw { Done.err bad with timed := true }
  let legs := match hybLegs fam par with
    | some (pf, pp, tf, tp) => let l := s.splitKey k.1 pf pp tf tp; (l.1, some l.2)
    | none => (k.1, none)
  pure { c1 with k1 := some legs.1, k2 := legs.2, legs := legsOf fam par, note := [BitVec.ofNat 8 fam, BitVec.ofNat 8 par] }

/-- UNWRAP (R150): the kind stands in the wrapped key. -/
def State.unwrapVal (s : State) (c : Cmd) (h : HostRead) : Except Done Cmd := do
  let kind := leAt (fixLen c.inLen h.input) 6 1
  let dst := leAt c.desc 50 2
  need (leAt c.desc 48 2 == 0 && leAt c.desc 52 4 == 0 && c.h2 == 0 && !c.usesPublic && (kind == 1 || dst == 0)) St.BAD_FIELD
  need (kind != 1 || dst < (s.fn c.fn).ctx) St.BAD_FIELD
  need (kind != 1 || (s.ctxVal c.fn dst).isNone) St.STATE
  need (kind != 2 || s.sealState != Seal.LOST) St.STATE
  s.needBlob c.h1
  let k ← s.findKey c.fn c.h1 h.blobs kemFams.contains
  s.keyUse k Use.UNWRAP k.1.par
  s.unwrapWith c h k false (if kind = 0 then leAt (fixLen c.inLen h.input) 12 4 else 0)

/-- STAGE_UNWRAP (R151). -/
def State.stageUnwrapVal (s : State) (c : Cmd) (h : HostRead) : Except Done Cmd := do
  need (leAt c.desc 48 8 == 0 && !c.usesPublic && c.h2 != PUBLIC_IN_AUX) St.BAD_FIELD
  s.canCreate
  s.needBlob c.h2
  let o ← s.anyObj c.fn c.h1
  let k ← s.findKey c.fn c.h2 h.blobs kemFams.contains
  s.keyUse k Use.UNWRAP k.1.par
  need o.stageable St.STATE
  s.unwrapWith c h k true 0

/-- STAGE_GENERATE (R133, R151). -/
def State.stageGenerateVal (s : State) (c : Cmd) (h : HostRead) : Except Done Cmd := do
  let a := c.recIn h
  let seen := c.auxLen == 32
  c.fields true
  need (!seen || (attrOk s.curveSpec (plainAttrs a) && leAt a 8 16 == 0 && leAt a 28 4 == 0 && attrFlags a < 4 &&
    !(attrFam a == 0x09 && !attrFfdh a && attrPar a < 8))) St.BAD_FIELD
  s.canCreate
  let o ← s.anyObj c.fn c.h1
  need o.stageable St.STATE
  need (!seen || stageRecOk o a) St.BAD_FIELD
  let c1 ← c.buffers h (· == 0) (· == 32) (s.recPubLen a)
  s.quota c.fn (s.recBytes a) false
  pure { c1 with legs := genLegs a, need := s.genDraw a }

/-- STAGE_VERIFY (R152): the test runs on the staged generation. -/
def State.stageVerifyVal (s : State) (c : Cmd) (h : HostRead) : Except Done Cmd := do
  c.fields true
  let o ← s.anyObj c.fn c.h1
  match o.staged with
  | none => throw (.err St.STATE)
  | some g => do
    need (s.curveHolds (g.mat c.h1 o.stAttrs)) St.KEY_USAGE
    need (!o.verified) St.STATE
    let c1 ← c.buffers h (· == 0) (fun n => n == 0 || n == 32) 0
    pure { c1 with k1 := some (g.mat c.h1 o.stAttrs), legs := legsOf (attrFam o.attrs) g.par }

/-! Runs and results. -/

/-- The operations of this family that run on engines. -/
def keyEngineOps : List Nat := [0x0F01, 0x0F02, 0x0F08, 0x0F10, 0x0F20, 0x0F21, 0x0F30, 0x0F31, 0x0F32]

/-- The pairwise test of a leg of a staged key (R152). -/
def State.pairwiseLeg (s : State) (k : KeyMat) (leg : Nat) : Bool :=
  match hybLegs k.fam k.par with
  | some (pf, pp, tf, tp) =>
    let l := s.splitKey k pf pp tf tp
    if leg = 0 then pairwiseOk none pf pp false l.1 else pairwiseOk (s.curveSpec tp) tf tp false l.2
  | none => pairwiseOk (s.curveSpec k.par) k.fam k.par (attrFfdh k.attrs) k

/-- One run of a leg of a key operation. -/
def State.keyRun (s : State) (c : Cmd) (leg : Nat) : Option RunResult :=
  if c.op = 0x0F01 ∨ c.op = 0x0F02 ∨ c.op = 0x0F30 then s.genRun c leg
  else if c.op = 0x0F08 then some (if s.materialOk c.attrRec c.inp then .ok [] [] else .fails St.INVALID_INPUT)
  else if c.op = 0x0F10 then
    let data := if c.b 52 % 8 = 4 then c.aux.take (c.auxLen - 32) else c.aux
    some (.ok [] (if c.b 48 = 0 then kmac 136 c.src data (c.b 49) c.inp else hkdf kSha384 48 c.src data c.inp (c.b 49)))
  else if c.op = 0x0F32 then
    match c.k1 with
    | some k =>
      let ok := s.pairwiseLeg k leg && (c.auxLen == 0 || c.aux == sha3_256 k.pub)
      some { RunResult.ok [] [] with status := if ok then 0 else St.INVALID_INPUT }
    | none => some (.ok [] [])
  else
    let k := c.kemCmd
    let rand := k.legRand leg
    s.kemRun k leg rand (s.legCt k leg)

/-- The payload of a wrapped key, opened with the shared secret; none where the tag does not verify. -/
def State.openWrapped (s : State) (c : Cmd) (rs : List RunResult) : Option (List Byte) :=
  let ct := leAt c.inp 8 4
  let p := leAt c.inp 12 4
  openBytes (s.kemResult c.kemCmd rs).2 (c.inp.take (16 + ct)) (slice c.inp (16 + ct) p) (c.inp.drop (16 + ct + p)) "EBLOS-WRAP"

/-- INVALID_INPUT of a run. -/
def badRun : Done := { Done.err St.INVALID_INPUT with timed := true }

/-- The end of a command whose object or result could not be made. -/
def State.endWith (s : State) (id : Nat) (d : Done) : State := s.complete id { d with timed := true }

/-- A new object ends the command with its handle inline. -/
def State.deliverObj (s : State) (id : Nat) (c : Cmd) (a priv pub out : List Byte) : State :=
  match s.newObj c.fn a priv pub with
  | .error d => s.endWith id d
  | .ok (s1, h) => (s1.writeOut c 0 out true).complete id (.ok out.length (natLE 4 h))

/-- A staged generation is installed, and the public key is the output; `raw` is the record as it came, which is checked (R151). -/
def State.deliverStage (s : State) (id : Nat) (c : Cmd) (raw a priv pub : List Byte) : State :=
  match mget s.ks.objs c.h1 with
  | none => s.endWith id (.err St.KEY_ABSENT)
  | some o =>
    if !o.stageable then s.endWith id (.err St.STATE)
    else if !stageRecOk o raw then s.endWith id (.err St.BAD_FIELD)
    else
      let q := s.quotaHit c.fn (privBytes (attrFam a) (attrPar a) priv) false
      if q ≠ 0 then s.endWith id (.fail St.QUOTA [BitVec.ofNat 8 q])
      else if s.ckFull (attrFam a) pub.length (some c.h1) then s.endWith id (.fail St.QUOTA [2])
      else if c.cap < pub.length then s.endWith id (tooSmall pub.length)
      else ((({ s with ks := { s.ks with uids := s.ks.uids + 1 } }).setObj c.h1 (o.stage (s.genFor (o.act.gen + 1) a priv pub) a)).writeOut c 0 pub true).complete id (.ok pub.length [])

/-- The sealed blob of a new key (R147). -/
def State.sealedBlob (s : State) (c : Cmd) (a priv nonce : List Byte) : List Byte :=
  let hdr := [0x45, 0x42, 0x4B, 0x31] ++ natLE 2 c.fn ++ [1, 0] ++ a ++ natLE 4 ((mget s.ks.blobEpoch c.fn).getD 0)
    ++ natLE 4 priv.length ++ nonce
  let x := sealBytes (s.ks.dsk.getD []) hdr priv "EBLOS-BLOB"
  hdr ++ x.1 ++ x.2

/-- The legs of a key operation have decided: delivery in the order of R34. -/
def State.keyFinish (s : State) (id : Nat) (c : Cmd) (rs : List RunResult) : State :=
  let bad := rs.find? (fun r => r.status != 0)
  let priv := rs.flatMap (·.secret)
  let pub := rs.flatMap (·.out)
  let a := c.attrRec
  if c.op = 0x0F32 then
    match mget s.ks.objs c.h1 with
    | some o =>
      if (match o.staged, c.k1 with | some g, some k => g.uid != k.uid | _, _ => true) || o.verified then s.endWith id (.err St.STATE)
      else if bad.isSome then (s.setObj c.h1 o.discard).complete id badRun
      else (s.setObj c.h1 { o with verified := true }).complete id (.ok 0 [])
    | none => s.endWith id (.err St.KEY_ABSENT)
  else
    match bad with
    | some r => s.complete id ⟨r.status, 0, none, r.inline, true⟩
    | none =>
      if c.op = 0x0F01 then s.deliverObj id c a priv pub pub
      else if c.op = 0x0F02 then
        if s.ks.dsk.isNone ∨ s.sealState = Seal.LOST then s.endWith id (.err St.STATE)
        else
          let nonce := slice c.rand (s.genDraw a) 32
          let out := s.sealedBlob c a priv nonce ++ pub
          let s := if attrFam a = 0x0A ∧ 0x10 ≤ attrPar a then
              { s with ks := { s.ks with blobCurves := s.ks.blobCurves ++ [(nonce, s.domOf (attrPar a))] } }
            else s
          (s.writeOut c 0 out true).complete id (.ok out.length [])
      else if c.op = 0x0F08 then s.deliverObj id c a c.inp (s.pubFor a c.inp) []
      else if c.op = 0x0F30 then s.deliverStage id c a a priv pub
      else if c.op = 0x0F10 then
        let s0 := if c.b 52 ≥ 8 then s.clearCtx c.fn c.ctx else s
        match c.b 52 % 8 with
        | 1 => (s0.setCtx c.fn (leAt c.desc 50 2) priv c.op).complete id (.ok 0 [])
        | 2 => (s0.writeOut c 0 priv true).complete id (.ok priv.length [])
        | _ =>
          let r := c.aux.drop (c.auxLen - 32)
          match s.newObj c.fn r priv [] with
          | .error d => s.endWith id d
          | .ok (s1, h) =>
            let s2 := if c.b 52 ≥ 8 then s1.clearCtx c.fn c.ctx else s1
            s2.complete id (.ok 0 (natLE 4 h))
      else if c.op = 0x0F20 then
        let k := s.kemResult c.kemCmd rs
        let hdr := wrapHead c.kemFam c.kemPar (c.b 48) k.1.length c.src.length ++ k.1
        let x := sealBytes k.2 hdr c.src "EBLOS-WRAP"
        let out := hdr ++ x.1 ++ x.2
        (s.writeOut c 0 out true).complete id (.ok out.length [])
      else
        match s.openWrapped c rs with
        | none => s.complete id badRun
        | some p =>
          let kind := leAt c.inp 6 1
          if kind = 0 then (s.writeOut c 0 p true).complete id (.ok p.length [])
          else if kind = 1 then (s.setCtx c.fn (leAt c.desc 50 2) p c.op).complete id (.ok 0 [])
          else
            let r := plainAttrs (p.take 32)
            let key := p.drop 32
            if !attrOk s.curveSpec r || isStateful (attrFam r) || !s.materialOk r key then s.complete id badRun
            else if c.op = 0x0F21 then s.deliverObj id c r key (s.pubFor r key) []
            else s.deliverStage id c (p.take 32) r key (s.pubFor r key)

/-! Operations that need no engine. -/

/-- The outcome of an operation that ends at once. -/
def State.atOnce (s : State) (id : Nat) (c : Cmd) (r : Except Done (State × Done)) : State :=
  match r with
  | .ok (s1, d) => s1.complete id d
  | .error d => if d.status = waitUnsealMark then s.setCmd id { c with phase := .waitUnseal, since := s.now } else s.complete id d

/-- An operation with empty input, auxiliary data and output. -/
def Cmd.bare (c : Cmd) (h : HostRead) : Except Done Cmd := c.buffers h (· == 0) (· == 0) 0

/-- A replicated key whose COMMIT is under way in its group (R153, R408). -/
def State.committing (s : State) (h : Nat) : Bool :=
  s.fab.commits.any (fun r => match mget s.fab.groups r.group with | some g => mkHandle g.fn 2 r.idx == h | none => false)

/-- COMMIT (R152, R153): the generation it flips, and the state after. -/
def State.commitOp (s : State) (c : Cmd) (h : HostRead) : Except Done (State × Done) := do
  c.fields true
  let o ← s.anyObj c.fn c.h1
  match o.staged with
  | none => throw (.err St.STATE)
  | some g => do
    need (s.curveHolds (g.mat c.h1 o.stAttrs)) St.KEY_USAGE
    need (o.verified && !s.committing c.h1) St.STATE
    s.needDsk (attrPersist o.attrs)
    let _ ← c.bare h
    pure (s.commitGen c.h1 o g, .ok 0 (natLE 4 g.gen))

/-- DISCARD (R151). -/
def State.discardOp (s : State) (c : Cmd) (h : HostRead) : Except Done (State × Done) := do
  c.fields true
  let o ← s.anyObj c.fn c.h1
  need (o.staged.isSome && !s.committing c.h1) St.STATE
  let _ ← c.bare h
  pure (s.setObj c.h1 o.discard, .ok 0 [])

/-- DESTROY (R135, R154). -/
def State.destroyOp (s : State) (c : Cmd) (h : HostRead) : Except Done (State × Done) := do
  c.fields true
  let o ← s.anyObj c.fn c.h1
  need (!attrQuorum o.attrs || s.quorumOpen) St.QUORUM_REQUIRED
  let _ ← c.bare h
  pure (s.dropObj c.h1, .ok 0 [])

/-- BLOB_EPOCH (R148). -/
def State.blobEpochOp (s : State) (c : Cmd) (h : HostRead) : Except Done (State × Done) := do
  c.fields false
  let _ ← c.bare h
  let e := ((mget s.ks.blobEpoch c.fn).getD 0 + 1) % 2 ^ 32
  pure ({ s with ks := { s.ks with blobEpoch := mput s.ks.blobEpoch c.fn e } }, .ok 0 (natLE 4 e))

/-- CTX_CLEAR (R23, R141). -/
def State.ctxClearOp (s : State) (c : Cmd) (h : HostRead) : Except Done (State × Done) := do
  c.fields false
  need (c.ctx < (s.fn c.fn).ctx) St.BAD_FIELD
  let _ ← c.bare h
  pure (s.clearCtx c.fn c.ctx, .ok 0 [])

/-- An operation that returns bytes of a key. -/
def State.keyBytesOp (s : State) (c : Cmd) (h : HostRead) (ok : KeyMat → Bool) (f : KeyMat → Option KeyObj → List Byte) :
    Except Done (State × Done) := do
  c.fields true
  s.needBlob c.h1
  let k ← s.anyKey c.fn c.h1 h
  need (ok k.1) St.KEY_USAGE
  let out := f k.1 k.2
  let c1 ← c.buffers h (· == 0) (· == 0) out.length
  pure (s.writeOut c1 0 out true, .ok out.length [])

/-- BLOB_TABLE (R143, R147): the address stands where the input address does. -/
def State.blobTableOp (s : State) (c : Cmd) (h : HostRead) : Except Done (State × Done) := do
  let n := leAt c.desc 53 3
  need (leAt c.desc 48 5 == 0 && c.h1 == 0 && c.h2 == 0 && 1 ≤ n && n ≤ 262144 && c.inAddr % 4096 == 0 && c.inAddr < 2 ^ 63) St.BAD_FIELD
  let _ ← c.bare h
  pure (s.setFn c.fn { s.fn c.fn with blobAddr := c.inAddr, blobCount := n }, .ok 0 [])

/-! The rows. -/

/-- A row whose operation runs on engines. -/
def keyRow (op id : Nat) (f : Cmd → Except Done Cmd) (s : State) : Host.Outcome State Fault Refusal :=
  opRow id (fun c => c.op == op) (fun c => s.validated id c (f c)) s

/-- A row whose operation ends at once. -/
def keyRow0 (op id : Nat) (f : Cmd → Except Done (State × Done)) (s : State) : Host.Outcome State Fault Refusal :=
  opRow id (fun c => c.op == op) (fun c => s.atOnce id c (f c)) s

/-- GENERATE (R146). -/
def execGenerate (cmd : Nat) (host : HostRead) (s : State) : Host.Outcome State Fault Refusal :=
  keyRow 0x0F01 cmd (fun c => s.generateVal c host) s

/-- GENERATE_BLOB (R146, R147). -/
def execGenerateBlob (cmd : Nat) (host : HostRead) (s : State) : Host.Outcome State Fault Refusal :=
  keyRow 0x0F02 cmd (fun c => s.generateVal c host) s

/-- IMPORT (R145). -/
def execImport (cmd : Nat) (host : HostRead) (s : State) : Host.Outcome State Fault Refusal :=
  keyRow 0x0F08 cmd (fun c => s.importVal c host) s

/-- DERIVE (R144). -/
def execDerive (cmd : Nat) (host : HostRead) (s : State) : Host.Outcome State Fault Refusal :=
  keyRow 0x0F10 cmd (fun c => s.deriveVal c host) s

/-- WRAP (R149). -/
def execWrap (cmd : Nat) (host : HostRead) (s : State) : Host.Outcome State Fault Refusal :=
  keyRow 0x0F20 cmd (fun c => s.wrapVal c host) s

/-- UNWRAP (R150). -/
def execUnwrap (cmd : Nat) (host : HostRead) (s : State) : Host.Outcome State Fault Refusal :=
  keyRow 0x0F21 cmd (fun c => s.unwrapVal c host) s

/-- STAGE_GENERATE (R151). -/
def execStageGenerate (cmd : Nat) (host : HostRead) (s : State) : Host.Outcome State Fault Refusal :=
  keyRow 0x0F30 cmd (fun c => s.stageGenerateVal c host) s

/-- STAGE_UNWRAP (R151). -/
def execStageUnwrap (cmd : Nat) (host : HostRead) (s : State) : Host.Outcome State Fault Refusal :=
  keyRow 0x0F31 cmd (fun c => s.stageUnwrapVal c host) s

/-- STAGE_VERIFY (R152). -/
def execStageVerify (cmd : Nat) (host : HostRead) (s : State) : Host.Outcome State Fault Refusal :=
  keyRow 0x0F32 cmd (fun c => s.stageVerifyVal c host) s

/-- DISCARD (R151). -/
def execDiscard (cmd : Nat) (host : HostRead) (s : State) : Host.Outcome State Fault Refusal :=
  keyRow0 0x0F34 cmd (fun c => s.discardOp c host) s

/-- BLOB_EPOCH (R148). -/
def execBlobEpoch (cmd : Nat) (host : HostRead) (s : State) : Host.Outcome State Fault Refusal :=
  keyRow0 0x0F41 cmd (fun c => s.blobEpochOp c host) s

/-- CTX_CLEAR (R141). -/
def execCtxClear (cmd : Nat) (host : HostRead) (s : State) : Host.Outcome State Fault Refusal :=
  keyRow0 0x0F50 cmd (fun c => s.ctxClearOp c host) s

/-- PUBLIC_EXPORT (R143). -/
def execPublicExport (cmd : Nat) (host : HostRead) (s : State) : Host.Outcome State Fault Refusal :=
  keyRow0 0x0F60 cmd (fun c => s.keyBytesOp c host (fun k => k.fam != 0x0C && k.fam != 0x0F) (fun k _ => k.pub)) s

/-- ATTRIBUTES (R132). -/
def execAttributes (cmd : Nat) (host : HostRead) (s : State) : Host.Outcome State Fault Refusal :=
  keyRow0 0x0F61 cmd (fun c => s.keyBytesOp c host (fun _ => true)
    (fun k o => match o with | some x => x.record | none => k.attrs)) s

/-- BLOB_TABLE (R147). -/
def execBlobTable (cmd : Nat) (host : HostRead) (s : State) : Host.Outcome State Fault Refusal :=
  keyRow0 0x0F70 cmd (fun c => s.blobTableOp c host) s

/-- RETIRING_DRAIN_END: an old generation without users is zeroised (R30, R154). -/
def execRetiringDrainEnd (h gen : Nat) (s : State) : Host.Outcome State Fault Refusal :=
  .next { s with ks := { s.ks with
    objs := mmod s.ks.objs h (fun o => { o with retiring := o.retiring.filter (fun g => g.gen != gen || s.genInUse g.uid) })
    dying := s.ks.dying.filter (fun x => !(x.1 == h && x.2.gen == gen) || s.genInUse x.2.uid) } }

end Sys2Proof.Machine
end

