-- ==== Sys2Proof/Machine/KeyEvents.lean ====
section
/-!
DEFINITION. Events of the key store: boot unsealing (R138), loads of code keys (R139, R140).
-/
namespace Sys2Proof.Machine
open Sys2Proof

/-- One persistent record is unsealed: a damaged one, or one sealed under another key, leaves its handle absent (R138). A key
made since the boot needs none. -/
def State.unsealOne (s : State) (h : Nat) (f : FlashKey) : State :=
  let s1 := s.wrF Reg.KST_UNSEAL 15 0 (s.rdF Reg.KST_UNSEAL 15 0 + 1)
  match mget s1.ks.objs h with
  | none => s
  | some o =>
    if o.unsealed then s
    else if f.damaged ∨ s1.ks.dsk ≠ some f.dsk then { s1 with ks := { s1.ks with objs := mdel s1.ks.objs h } }.flt1 260 1
    else s1.setObj h { o with unsealed := true }

/-- Commands that wait for unsealing are validated again (R138). -/
def State.wakeUnseal (s : State) : State :=
  { s with cmds := s.cmds.map (fun (x : Nat × Cmd) => if x.2.phase = .waitUnseal then (x.1, { x.2 with phase := .started }) else x) }

/-! The code-key cache. -/

/-- The oldest command that waits for a load starts one, once the load buffer is free. -/
def State.nextLoad (s : State) : State :=
  if s.ks.codeKeys.any (fun k => k.loading) then s
  else match s.cmds.find? (fun c => c.2.phase == .waitLoad) with
    | some (id, _) => s.advance id
    | none => s

/-- The command waits for the load of a key. -/
def Cmd.waitsFor (c : Cmd) (h : Nat) : Bool := c.phase == .waitLoad && c.codeKey == some h

/-- A command still waits for the load of a key: before its runs, or with a core in a KLD (R139, R182). -/
def State.wantsLoad (s : State) (h id : Nat) : Bool :=
  (match mget s.cmds id with | some c => c.waitsFor h | none => false) ||
    s.pvcs.any (fun (x : Nat × Pvc) => x.2.cmd == id && (match x.2.stall with | some (.kld _ _ _ (some r)) => r.1 == h | _ => false))

/-- CODE_KEY_PORTION: a portion of at most four granules is checked and moved; after the last one the entry serves commands. A failed
check frees the entry's granules, and the command that caused the load ends with KEY_ABSENT (R139). -/
def execCodeKeyPortion (h : Nat) (ok : Bool) (s : State) : Host.Outcome State Fault Refusal :=
  match s.ks.codeKeys.find? (fun k => k.handle == h && k.loading) with
  | none => .next s
  | some k =>
    if ok then
      let n := k.loaded + Nat.min 4 (k.gran - k.loaded)
      let k1 : CodeKey := { k with loaded := n, loading := decide (n < k.gran) }
      let l := s.ks.codeKeys.map (fun (x : CodeKey) => if x.handle = h then k1 else x)
      let s1 := { s with ks := { s.ks with codeKeys := l } }
      if k1.loading then .next s1
      else .next (((s1.wrB Reg.KST_STAT 6 false).advanceAll (·.waitsFor h)).nextLoad)
    else
      let s1 := ({ s with ks := { s.ks with codeKeys := s.ks.codeKeys.filter (fun x => x.handle != h) } }.wrB Reg.KST_STAT 6 false).flt1 260 1
      .next (if s1.wantsLoad h k.cause then s1.complete k.cause (.late St.KEY_ABSENT) else s1).nextLoad

/-- CODE_KEY_ENTRY_FREED: an entry is no longer read, and a load that waited starts (R140). -/
def execCodeKeyEntryFreed (s : State) : Host.Outcome State Fault Refusal := .next s.nextLoad

end Sys2Proof.Machine
end

