-- ==== Sys2Proof/Machine/Place.lean ====
section
/-!
DEFINITION. Which units may take a run: engine classes, masks, dedicated clusters, exclusions between the runs of a command, and whose
turn it is at an engine class (spec files 01, R32, R33; 02, R69 to R74; 08, R224, R237, R243; 15, R366).
-/
namespace Sys2Proof.Machine
open Sys2Proof

/-! Units of an engine class. -/

/-- The units of a class (R359). -/
def unitsOf : Eng → List Nat
  | .pvc => List.range 96
  | .hte => (List.range 16).map (· + 108)
  | .bne => (List.range 8).map (· + 124)
  | .dge => (List.range 32).map (· + 132)
  | .chk => (List.range 66).map (· + 164)
  | .disp => []

/-- What two runs of one command may not share: cluster, group, unit, quad (R33). -/
def groupOf (e : Eng) (u : Nat) : Nat :=
  match e with
  | .pvc => u / 8
  | .dge => (u - 132) / 8
  | _ => u

/-- The expander that feeds a unit (R271, R277). -/
def expanderOf (u : Nat) : Option Nat :=
  if u < 96 then some (u / 8)
  else if 108 ≤ u ∧ u < 124 then some 20
  else if 124 ≤ u ∧ u < 132 then some (u - 124 + 12)
  else none

/-- Register that counts an expander's blocks. -/
def maskReg (e : Nat) : Nat := if e < 12 then Reg.CL_MASK e else if e < 20 then Reg.BNE_MASK (e - 12) else Reg.HTE_MASK

/-- An expander delivers mask blocks: its count saturates (06, CL_MASK; 08, HTE_MASK; 09, BNE_MASK). -/
def State.delivers (s : State) (e n : Nat) : State := s.wrF (maskReg e) 20 0 (Nat.min (s.rdF (maskReg e) 20 0 + n) (2 ^ 20))

/-- The expander is at its reseed limit (R277). -/
def State.atLimit (s : State) (e : Nat) : Bool := s.rdB Reg.NRG_EXP e

/-- The command uses masks: every one but verification, ENCAPS test variants, OAEP encryption, and an OPM_RUN on public operands alone
(R32, R252). An OAEP encryption that draws its seed waits for key-grade bytes and still uses none (DESIGN CHOICE, log entry 117). -/
def Cmd.usesMasks (c : Cmd) : Bool :=
  if c.kern then true
  else if algOpOk c.op then !(isVerify c.o || c.o == 0x40 || (isEncaps c.o && c.test))
  else if c.op = 0x0F80 then leAt c.note 0 1 == 1
  else !(c.op / 256 == 0x0D)

/-- A masked run on a tree group begins: each of the eight hash units gets a 256-bit seed, two blocks in all (R221; log entry 135). -/
def State.seedUnits (s : State) (c : Cmd) (u : Nat) : State := if 108 ≤ u ∧ u < 124 ∧ c.usesMasks then s.delivers 20 2 else s

/-- A run ends: the blocks its masks took, on a tree group those of the seeds after every 2^16 masked rounds, are counted (R221, R252; log
entry 135). A kernel's are counted as its instructions draw them (R168). -/
def State.maskedRun (s : State) (c : Cmd) (u : Nat) : State :=
  match expanderOf u with
  | some e => if c.usesMasks && !c.kern then s.delivers e (Config.maskBlocks c.op c.par u) else s
  | none => s

/-- The unit's expander serves the command (R32, R277). -/
def State.masksFor (s : State) (c : Cmd) (u : Nat) : Bool :=
  match expanderOf u with
  | some e => !c.usesMasks || (s.nrg.seeded.contains e && !s.atLimit e)
  | none => true

/-! Dedicated clusters (R71 to R74). -/

/-- Clusters dedicated to a function that hold a PVC in service. -/
def State.dedicatedUp (s : State) (fn : Nat) : Nat :=
  ((List.range 12).filter (fun cl => (s.cluster cl).owner == some fn && (List.range 8).any (fun p => (s.unit (8 * cl + p)).service))).length

/-- Functions with dedicated clusters, and those still marked. -/
def State.isoFns (s : State) : List Nat :=
  ((s.clusters.filterMap (fun c => c.2.owner)) ++ (s.fns.filter (fun f => f.2.isoDeg)).map (·.1)).eraseDups

/-- ISO_DEGRADED follows the dedicated clusters that hold a PVC in service; its class D event persists (R74). -/
def State.isoCheck (s : State) : State :=
  s.isoFns.foldl (fun (x : State) fn =>
    let ded := x.clusters.any (fun c => c.2.owner == some fn)
    let low := ded && decide (x.dedicatedUp fn < 3)
    let f := x.fn fn
    if low && !f.isoDeg then (x.setFn fn { f with isoDeg := true }).fault 285 1 true false false
    else if !low && f.isoDeg then
      let y := x.setFn fn { f with isoDeg := false }
      if y.fns.any (fun g => g.2.isoDeg) then y else y.fltActive 285 false
    else x) s

/-- A cluster takes run number n of a function's command (R72, R74). -/
def State.clusterFor (s : State) (fn n cl : Nat) : Bool :=
  let x := s.cluster cl
  let ded := (List.range 12).any (fun k => (s.cluster k).owner == some fn)
  x.draining.isNone &&
    (match x.owner with
     | some f => f == fn && (decide (3 ≤ s.dedicatedUp fn) || decide (n < s.dedicatedUp fn))
     | none => !ded || (decide (s.dedicatedUp fn < 3) && decide (s.dedicatedUp fn ≤ n)))

/-! Eligible units. -/

/-- The channel a command names. -/
def Cmd.chan (c : Cmd) : Nat := c.par % 64

/-- The channel a check runs on: its own unit, or the spare that stands in (R243). -/
def State.chkUnit (s : State) (n : Nat) : Nat := (mget s.dg.chkSpare n).getD (164 + n)

/-- The channel that a check command uses. -/
def State.chkTarget (s : State) (c : Cmd) : Nat := s.chkUnit (c.via.getD c.chan)

/-- The unit is not retired and may run the command by the rules on dedication and channels, at once or once it is in service. -/
def State.couldRun (s : State) (c : Cmd) (l : Leg) (u : Nat) : Bool :=
  (unitsOf l.cls).contains u && !(s.unit u).retired &&
    (match l.cls with
     | .pvc => s.clusterFor c.fn l.used.length (clusterOf u)
     | .chk => u == s.chkTarget c
     | _ => true)

/-- The unit is in service and may run the command. -/
def State.mayRun (s : State) (c : Cmd) (l : Leg) (u : Nat) : Bool := s.couldRun c l u && (s.unit u).service && s.masksFor c u

/-- The unit's group has run the command. -/
def Leg.usedGroup (l : Leg) (u : Nat) : Bool := l.used.any (fun v => groupOf l.cls v == groupOf l.cls u)

/-- Key generation of a stateful or stateless tree (R224). -/
def Cmd.isKeyGen (c : Cmd) : Bool := !c.kern && (c.op == 0x0F01 || c.op == 0x0F02 || c.op == 0x0F30)

/-- The unit could take a run at once: a tree group busy with key generation interleaves one run of another command with it (R224). -/
def State.isOpen (s : State) (u : Nat) : Bool :=
  let x := s.unit u
  x.service && !x.scrub && !x.tested &&
    (match x.busy with
     | none => true
     | some id => decide (108 ≤ u ∧ u < 124) && x.inter.isNone && (match mget s.cmds id with | some c => c.isKeyGen | none => false))

/-- The unit is free, and kept for no command. -/
def State.isFree (s : State) (u : Nat) : Bool := s.isOpen u && (s.unit u).kept.isNone

/-- The unit is free for a command: also the one kept for its third run (R366). -/
def State.freeFor (s : State) (id u : Nat) : Bool := s.isOpen u && ((s.unit u).kept.isNone || (s.unit u).kept == some id)

/-- No unit outside the groups that a leg used could ever take its third run or one of its replay (R366, R254). A unit that is not yet
admitted, is under test or has no masks for now could. -/
def State.exhausted (s : State) (c : Cmd) (l : Leg) : Bool := decide (3 ≤ l.want) && !(unitsOf l.cls).any (fun v => s.couldRun c l v && !l.usedGroup v)

/-- The unit may take the next run: one whose group has not run the command; for a third run or one of a replay, where there is none, one
that ran it and has passed its self-test, one that was not outvoted first (R366). A check has its one channel. -/
def State.eligible (s : State) (c : Cmd) (l : Leg) (u : Nat) : Bool :=
  s.mayRun c l u &&
    (l.cls == .chk || !l.usedGroup u ||
      (s.exhausted c l && l.passed.contains u &&
        ((s.unit u).outvotes.isEmpty || !l.passed.any (fun v => s.mayRun c l v && (s.unit v).outvotes.isEmpty))))

/-! The scheduler's choice. -/

/-- The entry of its list that an OPM_RUN is at (R263). -/
def Cmd.opmIdx (c : Cmd) : Nat := leAt c.note 4 2

/-- An OPM_RUN goes on with a further entry: it is the job that its first entry started (R69, R263). -/
def Cmd.goesOn (c : Cmd) : Bool := c.op == 0x0F80 && !c.kern && c.opmIdx != 0

/-- The command is a job of a class that a free unit can take. -/
def State.jobReady (s : State) (c : Cmd) (e : Eng) : Bool :=
  (c.phase == .ready || c.phase == .running) && !c.goesOn &&
    c.legs.any (fun l => l.cls == e && l.decided.isNone && l.runs.isEmpty && (unitsOf e).any (fun u => s.eligible c l u && s.isFree u))

/-- The functions with such a job. -/
def State.fnsReady (s : State) (e : Eng) : List Nat := ((s.cmds.filter (fun x => s.jobReady x.2 e)).map (fun x => x.2.fn)).eraseDups

/-- The place in the round of a digest command: the clock of its last turn, or of its first wait for one (R237). -/
def Cmd.turnStamp (c : Cmd) : Nat := leAt c.note 4 8

/-- Among its function's digest commands the turn is this one's (R237). -/
def State.dgFirst (s : State) (c : Cmd) : Bool :=
  c.op / 256 != 0x0C || !s.cmds.any (fun x => x.2.fn == c.fn && x.2.op / 256 == 0x0C && decide (x.2.turnStamp < c.turnStamp) && s.jobReady x.2 .dge)

/-- The scheduler of a class serves the function of a command next, and the command within it (R69, R237). -/
def State.itsTurn (s : State) (e : Eng) (c : Cmd) : Bool := (s.drrPick e (s.fnsReady e)).any (fun p => p.2 == c.fn) && s.dgFirst c

/-- The length that the cost of a job is estimated from: a turn is 64 blocks (R237). -/
def Cmd.jobLen (c : Cmd) : Nat := if c.op / 256 = 0x0C then 64 else c.inLen

/-- A job of a command starts on its class: its function is charged (R69). -/
def State.jobStarts (s : State) (e : Eng) (c : Cmd) : State :=
  let fns := s.fnsReady e
  s.charge e fns (match s.drrPick e fns with | some p => p.1 | none => 0) c.fn (Config.estimate c.op c.par c.jobLen)

/-! Rebuilds of stateful keys (R223). -/

/-- Keys being rebuilt, in the order in which the engine takes them: those that a SIGN waits for first, then by handle. -/
def State.rebuildOrder (s : State) : List Nat :=
  let l := ((s.ks.objs.filter (fun o => o.2.rebuild && o.2.unsealed)).map (·.1))
  let want := (s.cmds.filterMap (fun c => if c.2.phase = .waitLeaf then c.2.k1.map (·.handle) else none)).filter l.contains
  (want ++ l).eraseDups

/-- HTE_REBUILD_DONE: the private state of a stateful key is whole again, rebuilt for the leaf at its ceiling on one of the idle group
pairs, which take the keys in their order (R223). -/
def execHteRebuildDone (h : Nat) (s : State) : Host.Outcome State Fault Refusal :=
  match mget s.ks.objs h with
  | none => .next s
  | some o =>
    let pairs := ((unitsOf .hte).filter s.isFree).length / 2
    if (s.rebuildOrder.take pairs).contains h then
      .next ((s.setObj h { o with rebuild := false, act := o.act.at_ (attrFam o.attrs) o.act.next }).advanceAll (·.waitsLeaf h))
    else .next s

end Sys2Proof.Machine
end

