-- ==== Sys2Proof/Machine/Digest.lean ====
section
/-!
DEFINITION. The digest engine (spec file 08, R227 to R242): algorithms, digest contexts, resident slots and spills, turns, sealed blobs, the
keyed-state cache.
-/
namespace Sys2Proof.Machine
open Sys2Proof

/-! Algorithms (R229). -/

/-- What kind of algorithm an index names. -/
inductive DgKind where
  | hash | xof | hmac | kmac
deriving DecidableEq, Repr

def dgKind (alg : Nat) : Option DgKind :=
  if 1 ≤ alg ∧ alg ≤ 9 then some .hash
  else if 0x0A ≤ alg ∧ alg ≤ 0x0D then some .xof
  else if 0x11 ≤ alg ∧ alg ≤ 0x15 then some .hmac
  else if alg = 0x20 ∨ alg = 0x21 then some .kmac
  else none

def dgKeyed (alg : Nat) : Bool := dgKind alg == some .hmac || dgKind alg == some .kmac

/-- The algorithm takes a customisation string. -/
def dgCustom (alg : Nat) : Bool := alg == 0x0C || alg == 0x0D || alg == 0x20 || alg == 0x21

/-- Rate of the sponge of an index that is not a plain hash identifier. -/
def dgRate (alg : Nat) : Nat := if alg = 0x0C ∨ alg = 0x20 then 168 else 136

/-- The construction that absorbs the message. -/
def dgHash (alg : Nat) (custom : Bool) : HKind :=
  match dgKind alg with
  | some .hmac => match hashId (alg - 0x10) with | some (k, _) => k | none => kSha256
  | some .kmac => .keccak (dgRate alg) 0x04
  | _ => match hashId alg with
    | some (k, _) => k
    | none => .keccak (dgRate alg) (if custom then 0x04 else 0x1f)

/-- Digest length, or the default output length (R229). -/
def dgLen (alg : Nat) : Nat :=
  match dgKind alg with
  | some .hmac => hashLen (alg - 0x10)
  | some .kmac => if alg = 0x20 then 32 else 64
  | _ => if alg = 0x0C then 32 else if alg = 0x0D then 64 else hashLen alg

/-- The output length that bytes 48 and 49 ask for (R229, R231). -/
def dgOut (alg v : Nat) : Option Nat :=
  if v = 0 then some (dgLen alg)
  else match dgKind alg with
    | some .xof => some v
    | some .hmac => if 4 ≤ v ∧ v ≤ dgLen alg then some v else none
    | some .kmac => if 4 ≤ v then some v else none
    | _ => none

/-- A tag or an expected value may have this length (R231). -/
def dgTagOk (alg n : Nat) : Bool :=
  match dgKind alg with
  | some .hash => n == dgLen alg
  | some .xof => 1 ≤ n && n ≤ 65535
  | some .hmac => 4 ≤ n && n ≤ dgLen alg
  | some .kmac => 4 ≤ n && n ≤ 65535
  | none => false

/-- A computation in progress: chaining state, partial block, outer chaining value, bytes of the message absorbed. -/
structure DgRun where
  st    : List Byte
  part  : List Byte
  outer : List Byte
  count : Nat
deriving DecidableEq, Repr

/-- The start of a computation: key block and customisation absorbed. -/
def dgOpen (alg : Nat) (key s : List Byte) : DgRun :=
  let k := dgHash alg (!s.isEmpty)
  match dgKind alg with
  | some .hmac =>
    let k0 := hmacKey k (dgLen alg) key
    ⟨(k.absorbAll k.init (k0.map (· ^^^ 0x36))).1, [], (k.absorbAll k.init (k0.map (· ^^^ 0x5c))).1, 0⟩
  | some .kmac => ⟨(k.absorbAll k.init (kmacPrefix (dgRate alg) key s)).1, [], [], 0⟩
  | _ => ⟨(k.absorbAll k.init (if dgCustom alg then cshakePrefix (dgRate alg) [] s else [])).1, [], [], 0⟩

/-- A message part is absorbed. -/
def dgAbsorb (alg : Nat) (custom : Bool) (r : DgRun) (m : List Byte) : DgRun :=
  let x := (dgHash alg custom).absorbAll r.st (r.part ++ m)
  { r with st := x.1, part := x.2, count := r.count + m.length }

/-- The digest or tag of n bytes. -/
def dgFinish (alg : Nat) (custom : Bool) (r : DgRun) (n : Nat) : List Byte :=
  let k := dgHash alg custom
  match dgKind alg with
  | some .hmac =>
    let inner := k.finish r.st r.part (k.rate + r.count) (dgLen alg)
    let x := k.absorbAll r.outer inner
    (k.finish x.1 x.2 (k.rate + inner.length) (dgLen alg)).take n
  | some .kmac =>
    let x := k.absorbAll r.st (r.part ++ rightEncode (8 * n))
    k.finish x.1 x.2 0 n
  | _ => k.finish r.st r.part r.count n

/-! Contexts (R231, R233 to R235). -/

def dctxKey (fn i : Nat) : Nat := fn * 4096 + i
def State.dctx (s : State) (fn i : Nat) : Option Dctx := mget s.dg.ctxs (dctxKey fn i)
def State.setDctx (s : State) (fn i : Nat) (x : Dctx) : State := { s with dg := { s.dg with ctxs := mput s.dg.ctxs (dctxKey fn i) x } }

def State.dctxOpen (s : State) (fn i : Nat) : Option Dctx :=
  match s.dctx fn i with
  | some x => if x.state = .opened then some x else none
  | none => none

/-- A command names a digest context. -/
def Cmd.namesDctx (c : Cmd) : Bool := 0x0C10 ≤ c.op && c.op ≤ 0x0C1A

/-- A command on the same context that was fetched earlier has not ended (R235). -/
def State.dctxBusy (s : State) (id : Nat) (c : Cmd) : Bool :=
  s.cmds.any (fun x => decide (x.1 < id) && x.2.fn == c.fn && x.2.namesDctx && x.2.ctx == c.ctx && x.2.note != badCrc && x.2.phase != .waitCq)

/-- An OPEN context that no command in flight names is idle (R236). -/
def State.dctxIdle (s : State) (k : Nat) : Bool :=
  !s.cmds.any (fun x => x.2.namesDctx && dctxKey x.2.fn x.2.ctx == k && x.2.phase != .waitCq)

/-- Contexts a function may hold OPEN (R233, R420). -/
def State.dctxLimit (s : State) (fn : Nat) : Nat := if s.noDsk then 0 else 4 * (s.fn fn).spillLen

/-- The command opens a context, and has passed validation. -/
def Cmd.opensDctx (c : Cmd) : Bool :=
  (c.op == 0x0C10 || c.op == 0x0C19) && (c.phase == .waitSlot || c.phase == .ready || c.phase == .running)

/-- Contexts that a function holds OPEN, those being opened among them. -/
def State.dctxHeld (s : State) (fn : Nat) : Nat :=
  (s.dg.ctxs.filter (fun c => c.1 / 4096 == fn && c.2.state == .opened)).length +
    (s.cmds.filter (fun c => c.2.fn == fn && c.2.opensDctx)).length

/-- QUOTA of INIT and RESTORE (R233). -/
def State.dctxQuota (s : State) (fn : Nat) : Except Done Unit :=
  if s.dctxHeld fn < s.dctxLimit fn then .ok () else .error (.fail St.QUOTA [3])

/-- A command in its turns holds a slot of its own: one-shot commands, and those that open a context (R236). -/
def Cmd.ownSlot (c : Cmd) : Bool := c.op == 0x0C01 || c.op == 0x0C02 || c.op == 0x0C03 || c.op == 0x0C10 || c.op == 0x0C19

/-- Resident slots in use (R236). -/
def State.slotsUsed (s : State) : Nat :=
  (s.dg.ctxs.filter (fun c => c.2.state == .opened && c.2.resident)).length +
    (s.cmds.filter (fun c => (c.2.phase == .ready || c.2.phase == .running) && c.2.ownSlot)).length

/-! Sealed blobs (R238, R239). -/

/-- Bytes 0 to 75 of a blob. -/
def dgHead (kind fn i : Nat) (x : Dctx) (epoch nonce : List Byte) : List Byte :=
  [0x45, 0x42, 0x44, 0x31, BitVec.ofNat 8 kind, BitVec.ofNat 8 x.alg] ++ natLE 2 fn ++ natLE 2 i ++ zeros 2 ++ natLE 4 (x.keyed.getD 0) ++
    natLE 4 (if x.keyed.isSome then x.gen else 0) ++ epoch ++ natLE 8 x.count ++ natLE 8 (x.total.getD (2 ^ 64 - 1)) ++ nonce

/-- The state as it is sealed (log entry 26). -/
def dgPack (x : Dctx) : List Byte :=
  let f := fun (l : List Byte) => BitVec.ofNat 8 l.length :: fixLen 200 l
  fixLen 916 (BitVec.ofNat 8 (b2n x.custom) :: (f x.chainv ++ f x.part ++ f x.outer))

/-- The state read back from a blob. -/
def dgUnpack (h p : List Byte) : Dctx :=
  let g := fun (o : Nat) => slice p (o + 1) (leAt p o 1)
  let hd := leAt h 12 4
  let tot := leAt h 36 8
  { state := .opened, alg := leAt h 5 1, keyed := if hd = 0 then none else some hd, gen := leAt h 16 4, uid := 0,
    total := if tot = 2 ^ 64 - 1 then none else some tot, count := leAt h 28 8, chainv := g 1, part := g 202, outer := g 403,
    custom := leAt p 0 1 == 1, resident := true, spillAt := 0, used := 0 }

/-- The spill epoch of a function: the value of the boot, then the count (R239). -/
def State.spillEpoch (s : State) (fn : Nat) : List Byte := natLE 4 s.dg.bootEp ++ natLE 4 (((mget s.dg.spillEp fn).getD 0 + s.dg.spillAll) % 2 ^ 32)

/-- The save epoch field of a function. -/
def State.saveEpochOf (s : State) (fn : Nat) : List Byte := natLE 4 ((mget s.dg.saveEpoch fn).getD 0) ++ zeros 4

/-- A context sealed as a blob. -/
def State.sealDctx (s : State) (kind fn i : Nat) (x : Dctx) (nonce : List Byte) : List Byte :=
  let h := dgHead kind fn i x (if kind = 0 then s.spillEpoch fn else s.saveEpochOf fn) nonce
  let e := sealBytes (s.ks.dsk.getD []) h (dgPack x) "EBLOS-DGST"
  h ++ e.1 ++ e.2

/-- A blob opened in a function and a context of the kind (R239). -/
def State.openDctx (s : State) (kind fn i : Nat) (b : List Byte) : Option Dctx :=
  let h := b.take 76
  let ep := if kind = 0 then s.spillEpoch fn else s.saveEpochOf fn
  match s.ks.dsk with
  | none => none
  | some k =>
    if b.length = 1024 ∧ h.take 5 = [0x45, 0x42, 0x44, 0x31, BitVec.ofNat 8 kind] ∧ leAt h 6 2 = fn ∧ leAt h 8 2 = i ∧
        slice h 20 8 = ep then
      (openBytes k h (slice b 76 916) (b.drop 992) "EBLOS-DGST").map (dgUnpack h)
    else none

/-! Validation (R231, R232). -/

/-- A MAC key. -/
def State.macKey (s : State) (c : Cmd) (h : HostRead) : Except Done KeyMat := do
  let k ← s.findKey c.fn c.h1 h.blobs (· == 0x0C)
  need ((attrUse k.1.attrs).testBit Use.MAC) St.KEY_USAGE
  pure k.1

/-- DIGEST, MAC and MAC_VERIFY. -/
def State.oneShotVal (s : State) (c : Cmd) (h : HostRead) : Except Done Cmd := do
  let alg := c.par
  let keyed := c.op != 0x0C01
  let b50 := c.b 50
  let b51 := c.b 51
  let ver := c.op == 0x0C03
  need ((dgKind alg).isSome && dgKeyed alg == keyed) St.BAD_FIELD
  need (leAt c.desc 52 4 == 0 && c.h2 == 0 && b50 < 4 && b50 != 2) St.BAD_FIELD
  need (keyed || (b50 == 0 && c.h1 == 0)) St.BAD_FIELD
  need (c.h1 != PUBLIC_IN_AUX && (!keyed || (c.h1 != 0) != b50.testBit 0)) St.BAD_FIELD
  need (b51 == 0 || dgCustom alg) St.BAD_FIELD
  need (if b50.testBit 0 then decide (c.ctx < (s.fn c.fn).ctx) else c.ctx == 0) St.BAD_FIELD
  let n ← match (if ver then (if leAt c.desc 48 2 = 0 then some 0 else none) else dgOut alg (leAt c.desc 48 2)) with
    | some n => pure n
    | none => throw (.err St.BAD_FIELD)
  need (!b50.testBit 0 || (s.ctxVal c.fn c.ctx).isSome) St.STATE
  s.needBlob c.h1
  let k ← if c.h1 = 0 then pure none else (s.macKey c h).map some
  let c1 ← c.buffers h (fun _ => true) (fun x => decide (b51 ≤ x) && (if ver then dgTagOk alg (x - b51) else x == b51)) n
  let src := match k with
    | some m => m.priv
    | none => match s.ctxVal c.fn c.ctx with | some v => if b50.testBit 0 then v.value else [] | none => []
  pure { c1 with k1 := k, src := src }

/-- Byte 3 of an opcode on a context: 0, or what the context records (R231). -/
def State.dgByte3 (s : State) (c : Cmd) : Bool :=
  c.par == 0 || (match s.dctxOpen c.fn c.ctx with | some x => x.alg == c.par | none => false)

/-- Fields unused by an opcode without key: bytes 50 to 55, and 48 and 49 but for FINAL. -/
def Cmd.dgPlain (c : Cmd) : Bool :=
  c.h1 == 0 && c.h2 == 0 && leAt c.desc 50 6 == 0 && (c.op == 0x0C12 || leAt c.desc 48 2 == 0)

/-- INIT (R231, R233). -/
def State.initVal (s : State) (c : Cmd) (h : HostRead) : Except Done Cmd := do
  need (c.ctx < 4096 && (dgKind c.par).isSome && c.h2 == 0 && c.h1 != PUBLIC_IN_AUX && (c.h1 != 0) == dgKeyed c.par) St.BAD_FIELD
  need (s.dctxOpen c.fn c.ctx).isNone St.STATE
  s.needBlob c.h1
  let k ← if c.h1 = 0 then pure none else (s.macKey c h).map some
  let c1 ← c.buffers h (· == 0) (fun n => n == 0 || dgCustom c.par) 0
  s.dctxQuota c.fn
  pure { c1 with k1 := k, src := match k with | some m => m.priv | none => [] }

/-- UPDATE, FINAL, FINAL_VERIFY and SAVE (R231, R234). -/
def State.contVal (s : State) (c : Cmd) (h : HostRead) : Except Done Cmd := do
  need (c.ctx < 4096 && c.dgPlain && s.dgByte3 c) St.BAD_FIELD
  let x := s.dctxOpen c.fn c.ctx
  let n ← match x with
    | some x => if c.op = 0x0C12 then (match dgOut x.alg (leAt c.desc 48 2) with
        | some n => pure n
        | none => throw (.err St.BAD_FIELD)) else pure (if c.op = 0x0C18 then 1024 else 0)
    | none => pure 0
  match x with
  | none => throw (.err St.STATE)
  | some x => do
    s.needDsk (c.op == 0x0C18)
    let c1 ← c.buffers h (fun k => c.op != 0x0C18 || k == 0) (fun k => if c.op = 0x0C13 then dgTagOk x.alg k else k == 0) n
    pure { c1 with need := if c.op = 0x0C18 then 32 else 0, src := (mget h.blobs (2 ^ 20)).getD [] }

/-- A saved blob is bound to the generation given, as far as the device knows the blob (R241). -/
def State.savedUnder (s : State) (nonce : List Byte) (uid : Nat) : Bool :=
  match s.dg.saved.find? (fun x => x.1 == nonce) with | some x => x.2 == uid | none => true

/-- RESTORE (R231, R232, R239): the handle of a keyed blob is looked at at step 5, the blob opened at step 10. -/
def State.restoreVal (s : State) (c : Cmd) (h : HostRead) : Except Done Cmd := do
  need (c.ctx < 4096 && c.dgPlain && (c.par == 0 || (dgKind c.par).isSome)) St.BAD_FIELD
  need (s.dctxOpen c.fn c.ctx).isNone St.STATE
  s.needDsk true
  let b := fixLen c.inLen h.input
  let hd := leAt b 12 4
  if c.inLen = 1024 ∧ hd ≠ 0 then
    let k ← s.anyKey c.fn hd h
    need (k.1.gen == leAt b 16 4 && s.savedUnder (slice b 44 32) k.1.uid) St.KEY_ABSENT
  let c1 ← c.buffers h (· == 1024) (· == 0) 0
  s.dctxQuota c.fn
  match s.openDctx 1 c.fn c.ctx c1.inp with
  | some x => if c.par ≠ 0 ∧ c.par ≠ x.alg then throw { Done.err St.INVALID_INPUT with timed := true } else pure c1
  | none => throw { Done.err St.INVALID_INPUT with timed := true }

/-! The keyed-state cache (R240). -/

/-- The command's keyed state lies in the cache: it has a resident key, and no string stands before the key (log entry 118). -/
def Cmd.usesKsc (c : Cmd) : Bool := dgKeyed c.par && c.k1.isSome && (if c.op = 0x0C10 then c.aux.isEmpty else c.b 51 == 0)

/-- A slot serves a command. -/
def KscSlot.serves (x : KscSlot) (c : Cmd) : Bool := c.usesKsc && x.alg == c.par && (match c.k1 with | some k => x.uid == k.uid | none => false)

/-- A turn reads a slot. -/
def State.kscRead (s : State) (x : KscSlot) : Bool := s.cmds.any (fun c => c.2.phase == .running && (c.2.op == 0x0C02 || c.2.op == 0x0C03 || c.2.op == 0x0C10) && x.serves c.2)

/-- The slots with room for one more: the least recently used one that no turn reads leaves where all 256 are in use. -/
def State.kscRoom (s : State) : Option (List KscSlot) :=
  if s.dg.ksc.length < 256 then some s.dg.ksc
  else match s.dg.ksc.filter (fun x => !s.kscRead x) with
    | [] => none
    | x :: l =>
      let o := l.foldl (fun (a b : KscSlot) => if b.used < a.used then b else a) x
      some (s.dg.ksc.filter (fun y => y != o))

/-- A keyed command finds its entry, or computes and stores it (R240). -/
def State.useKsc (s : State) (c : Cmd) : State :=
  match c.k1 with
  | none => s
  | some k =>
    if !c.usesKsc then s
    else
      let t := s.dg.clock + 1
      if s.dg.ksc.any (fun x => x.serves c) then
        let l := s.dg.ksc.map (fun (x : KscSlot) => if x.serves c then { x with used := t } else x)
        ({ s with dg := { s.dg with ksc := l, clock := t } }).incF Reg.DGE_KSC_HIT 15 0 1
      else
        let r := dgOpen c.par k.priv []
        let l := match s.kscRoom with | some l => l ++ [⟨k.handle, k.uid, c.par, r.st, r.outer, t⟩] | none => s.dg.ksc
        ({ s with dg := { s.dg with ksc := l, clock := t } }).incF Reg.DGE_KSC_HIT 31 16 1

/-- The start of a command's computation: from its slot, or computed. -/
def State.dgStart (s : State) (c : Cmd) (str : List Byte) : DgRun :=
  match s.dg.ksc.find? (fun x => x.serves c) with
  | some x => ⟨x.st, [], x.outer, 0⟩
  | none => dgOpen c.par c.src str

/-! Slots (R236). -/

/-- The least recently used idle resident context. -/
def State.spillVictim (s : State) (skip : Nat → Bool) : Option Nat :=
  let l := s.dg.ctxs.filter (fun c => c.2.state == .opened && c.2.resident && s.dctxIdle c.1 && !skip c.1)
  match l with
  | [] => none
  | x :: t => some (t.foldl (fun (a b : Nat × Dctx) => if b.2.used < a.2.used then b else a) x).1

/-- A nonce is asked for, to spill an idle context; one at a time. -/
def State.askSpill (s : State) (skip : Nat → Bool) : State :=
  if s.nrg.queue.any (fun r => match r.who with | .spillNonce _ => true | _ => false) then s
  else match s.spillVictim skip with
    | some k => s.nrgAsk 2 21 (.spillNonce k) 32
    | none => s

/-- The slot of the spill area that a context takes: the lowest that no spilled context of the function holds. -/
def State.spillSlot (s : State) (fn : Nat) : Nat :=
  let used := (s.dg.ctxs.filter (fun c => c.1 / 4096 == fn && c.2.state == .opened && !c.2.resident)).map (fun c => c.2.spillAt)
  ((List.range 4097).find? (fun i => !used.contains i)).getD 0

/-- An idle context is sealed and written to its owner's spill area under PF0's routing ID (R236, R238). -/
def State.spill (s : State) (k : Nat) (nonce : List Byte) : State :=
  match mget s.dg.ctxs k with
  | none => s
  | some x =>
    if x.state = .opened ∧ x.resident ∧ s.dctxIdle k then
      let fn := k / 4096
      let at_ := s.spillSlot fn
      let b := s.sealDctx 0 fn (k % 4096) x nonce
      let y := { x with chainv := [], part := [], outer := [], resident := false, spillAt := at_ }
      ({ (s.memWrite 0 ((s.fn fn).spillAddr + 1024 * at_) b false) with
          dg := { s.dg with ctxs := mput s.dg.ctxs k y } }).incF Reg.DGE_SPILL 15 0 1
    else s

/-- A context becomes INVALID. -/
def State.spoil (s : State) (fn i : Nat) : State :=
  match s.dctx fn i with
  | some x => if x.state = .opened then s.setDctx fn i (x.wipe .invalid) else s
  | none => s

/-- The algorithm a command runs. -/
def State.dgAlg (s : State) (c : Cmd) : Nat :=
  if c.op ≤ 0x0C10 then c.par else match s.dctx c.fn c.ctx with | some x => x.alg | none => 0

/-- The work of the command is keyed: a MAC, or a command on a context opened with a key (R227). -/
def State.dgKeyedWork (s : State) (c : Cmd) : Bool :=
  if c.op = 0x0C19 then leAt c.inp 12 4 != 0 else dgKeyed (s.dgAlg c)

/-- A command is ready for its first turn, behind its function's others (R237); keyed work runs on two pipelines (R227). -/
def State.toTurns (s : State) (id : Nat) (c : Cmd) : State :=
  let t := s.dg.clock + 1
  ({ s with dg := { s.dg with clock := t } }).setCmd id
    { c with phase := .ready, note := zeros 4 ++ natLE 8 t, legs := [{ newLeg .dge with want := if s.dgKeyedWork c then 2 else 1 }] }

/-- A validated command goes to its turns, to a slot, or waits for one. -/
def State.dgNext (s : State) (id : Nat) : State :=
  match mget s.cmds id with
  | none => s
  | some c =>
    let go := fun (x : State) => x.toTurns id c
    let free := decide (s.slotsUsed < 1024)
    let wait := if s.nrgDown && (s.spillVictim (fun _ => false)).isSome then s.complete id (.late St.ENTROPY_FAULT)
      else (s.setCmd id { c with phase := .waitSlot, since := s.now }).askSpill (fun _ => false)
    if c.ownSlot then (if free then go s else wait)
    else match s.dctxOpen c.fn c.ctx with
      | none => s.complete id (.late St.STATE)
      | some x =>
        if x.resident then go s
        else if !free then wait
        else match s.openDctx 0 c.fn c.ctx c.src with
          | some y =>
            if y.alg = x.alg ∧ y.count = x.count ∧ y.keyed = x.keyed then
              go ((s.setDctx c.fn c.ctx { y with total := x.total, used := x.used, uid := x.uid }).incF Reg.DGE_SPILL 31 16 1)
            else ((s.spoil c.fn c.ctx).incF Reg.DGE_SPILL_ERR 31 16 1).complete id (.abortedLate 1)
          | none => ((s.spoil c.fn c.ctx).incF Reg.DGE_SPILL_ERR 31 16 1).complete id (.abortedLate 1)

/-- A command that passed validation: SAVE first draws its nonce. -/
def State.dgAdmit (s : State) (id : Nat) (c : Cmd) : State :=
  let s1 := (s.setCmd id c).useKsc c
  if c.need > 0 then s1.askRand id c else s1.dgNext id

/-- The outcome of validation. -/
def State.dgValidated (s : State) (id : Nat) (c : Cmd) (r : Except Done Cmd) : State :=
  match r with
  | .ok c1 => s.dgAdmit id c1
  | .error d => if d.status = waitUnsealMark then s.setCmd id { c with phase := .waitUnseal, since := s.now } else s.complete id d

/-! Turns (R237). -/

/-- Bytes of a turn: 64 blocks (R237). -/
def State.turnLen (s : State) (c : Cmd) : Nat := 64 * (dgHash (s.dgAlg c) false).rate

/-- Turns that a command takes. -/
def State.dgTurns (s : State) (c : Cmd) : Nat := Nat.max 1 (ceilDiv c.inp.length (s.turnLen c))

/-- The computation that a context holds. -/
def Dctx.run (x : Dctx) : DgRun := ⟨x.chainv, x.part, x.outer, x.count⟩

/-- Inline bytes of an output (R230). -/
def Cmd.dgInline (c : Cmd) (out : List Byte) : List Byte := if c.flag 3 then out.take 16 else []

/-- An OPEN context from a computation. -/
def State.putRun (s : State) (c : Cmd) (x : Dctx) (r : DgRun) : State :=
  let t := s.dg.clock + 1
  ({ s with dg := { s.dg with clock := t } }).setDctx c.fn c.ctx
    { x with chainv := r.st, part := r.part, outer := r.outer, count := r.count, used := t }

/-- The context a command opens. -/
def Cmd.newDctx (c : Cmd) : Dctx :=
  let tot := leAt c.desc 48 8
  { state := .opened, alg := c.par, keyed := c.k1.map (·.handle), gen := match c.k1 with | some k => k.gen | none => 0,
    uid := match c.k1 with | some k => k.uid | none => 0, total := if tot = 2 ^ 64 - 1 then none else some tot, count := 0, chainv := [], part := [], outer := [],
    custom := !c.aux.isEmpty, resident := true, spillAt := 0, used := 0 }

/-- The output or verdict of FINAL and FINAL_VERIFY; a declared total that differs makes the context INVALID (R234). -/
def State.finalEnd (s : State) (id : Nat) (c : Cmd) (x : Dctx) : State :=
  let r := dgAbsorb x.alg x.custom x.run c.inp
  if (match x.total with | some t => t != r.count | none => false) then
    (s.setDctx c.fn c.ctx (x.wipe .invalid)).complete id { (lenFail (r.count % 2 ^ 32)) with timed := true }
  else
    let s1 := s.setDctx c.fn c.ctx (x.wipe .final)
    if c.op = 0x0C13 then
      let n := if dgKind x.alg = some .hash then dgLen x.alg else c.aux.length
      s1.complete id ⟨St.SUCCESS, 0, some (dgFinish x.alg x.custom r n == c.aux), c.dgInline (dgFinish x.alg x.custom r n), true⟩
    else
      let out := dgFinish x.alg x.custom r ((dgOut x.alg (leAt c.desc 48 2)).getD 0)
      (s1.writeOut c 0 out true).complete id (.ok out.length (c.dgInline out))

/-- The state after a number of turns, which the two runs of keyed work are compared on (R227). -/
def State.dgState (s : State) (c : Cmd) (n : Nat) : DgRun :=
  let m := c.inp.take (n * s.turnLen c)
  if c.op ≤ 0x0C10 then
    let str := if c.op = 0x0C10 then c.aux else c.aux.take (c.b 51)
    dgAbsorb c.par (!str.isEmpty) (s.dgStart c str) m
  else match s.dctx c.fn c.ctx with
    | some x => dgAbsorb x.alg x.custom x.run m
    | none => ⟨[], [], [], 0⟩

/-- What a pipeline holds at the end of a turn. -/
def State.turnResult (s : State) (c : Cmd) : RunResult :=
  let r := s.dgState c (leAt c.note 0 4 + 1)
  { RunResult.ok [] [] with secret := r.st ++ r.part ++ r.outer }

/-- The last turn of a command has ended. -/
def State.dgEnd (s : State) (id : Nat) (c : Cmd) : State :=
  let cust := c.aux.take (c.b 51)
  if c.op ≤ 0x0C03 then
    let r := dgAbsorb c.par (!cust.isEmpty) (s.dgStart c cust) c.inp
    let s1 := if c.op ≠ 0x0C01 ∧ c.b 50 = 3 then s.clearCtx c.fn c.ctx else s
    if c.op = 0x0C03 then
      let tag := c.aux.drop (c.b 51)
      s1.complete id ⟨St.SUCCESS, 0, some (dgFinish c.par (!cust.isEmpty) r tag.length == tag), [], true⟩
    else
      let out := dgFinish c.par (!cust.isEmpty) r ((dgOut c.par (leAt c.desc 48 2)).getD 0)
      (s1.writeOut c 0 out true).complete id (.ok out.length (c.dgInline out))
  else if c.op = 0x0C10 then (s.putRun c c.newDctx (s.dgStart c c.aux)).complete id (.ok 0 [])
  else if c.op = 0x0C19 then
    match s.openDctx 1 c.fn c.ctx c.inp with
    | some x =>
      let u := match s.dg.saved.find? (fun y => y.1 == slice c.inp 44 32) with | some y => y.2 | none => 0
      (s.putRun c { x with uid := u } x.run).complete id (.ok 0 [])
    | none => s.complete id badRun
  else match s.dctxOpen c.fn c.ctx with
    | none => s.complete id (.late St.STATE)
    | some x =>
      if c.op = 0x0C11 then (s.putRun c x (dgAbsorb x.alg x.custom x.run c.inp)).complete id (.ok 0 [])
      else if c.op = 0x0C18 then
        let b := s.sealDctx 1 c.fn c.ctx x (c.rand.take 32)
        let s1 := if x.keyed.isSome then { s with dg := { s.dg with saved := s.dg.saved ++ [(c.rand.take 32, x.uid)] } } else s
        (s1.writeOut c 0 b true).complete id (.ok 1024 [])
      else s.finalEnd id c x

/-- A turn has been decided: the command takes its next one, behind its function's others, or ends (R237). -/
def State.turnOver (s : State) (id : Nat) (c : Cmd) : State :=
  let n := leAt c.note 0 4 + 1
  if s.dgTurns c ≤ n then s.dgEnd id c
  else
    let t := s.dg.clock + 1
    ({ s with dg := { s.dg with clock := t } }).setCmd id
      { c with phase := .ready, note := natLE 4 n ++ natLE 8 t,
               legs := c.legs.map (fun (l : Leg) => { newLeg .dge with want := if 2 ≤ l.want then 2 else 1 }) }

/-- DGE_SLOT_WAIT_END: a command that waits for a slot takes a free one, or a further idle context is spilled (R236). -/
def execDgeSlotWaitEnd (cmd : Nat) (s : State) : Host.Outcome State Fault Refusal :=
  match mget s.cmds cmd with
  | none => .next s
  | some c => if c.phase = .waitSlot then .next (s.dgNext cmd) else .next s

/-- SPILL_WRITE_FAIL: the write of the spill under way fails; the context stays resident, and the next idle one is tried (R242). -/
def execSpillWriteFail (s : State) : Host.Outcome State Fault Refusal :=
  match s.nrg.queue.find? (fun r => match r.who with | .spillNonce _ => true | _ => false) with
  | some ⟨_, _, .spillNonce k, _, _⟩ =>
    let q := s.nrg.queue.filter (fun r => r.who != .spillNonce k)
    let s1 := ({ s with nrg := { s.nrg with queue := q } }).incF Reg.DGE_SPILL_ERR 15 0 1
    .next ((s1.flt1 288 0).askSpill (· == k))
  | _ => .next s

/-! The rows. -/

/-- A row of the digest engine: commands that name a context wait for earlier ones on it (R235). -/
def dgRow (op id : Nat) (f : Cmd → Except Done Cmd) (s : State) : Host.Outcome State Fault Refusal :=
  opRow id (fun c => c.op == op && !(c.namesDctx && s.dctxBusy id c)) (fun c => s.dgValidated id c (f c)) s

/-- DIGEST (R230). -/
def execDigest (cmd : Nat) (host : HostRead) (s : State) : Host.Outcome State Fault Refusal :=
  dgRow 0x0C01 cmd (fun c => s.oneShotVal c host) s

/-- MAC (R230). -/
def execMac (cmd : Nat) (host : HostRead) (s : State) : Host.Outcome State Fault Refusal :=
  dgRow 0x0C02 cmd (fun c => s.oneShotVal c host) s

/-- MAC_VERIFY (R232). -/
def execMacVerify (cmd : Nat) (host : HostRead) (s : State) : Host.Outcome State Fault Refusal :=
  dgRow 0x0C03 cmd (fun c => s.oneShotVal c host) s

/-- INIT (R231). -/
def execInit (cmd : Nat) (host : HostRead) (s : State) : Host.Outcome State Fault Refusal :=
  dgRow 0x0C10 cmd (fun c => s.initVal c host) s

/-- UPDATE (R234). -/
def execUpdate (cmd : Nat) (host : HostRead) (s : State) : Host.Outcome State Fault Refusal :=
  dgRow 0x0C11 cmd (fun c => s.contVal c host) s

/-- FINAL (R234). -/
def execFinal (cmd : Nat) (host : HostRead) (s : State) : Host.Outcome State Fault Refusal :=
  dgRow 0x0C12 cmd (fun c => s.contVal c host) s

/-- FINAL_VERIFY (R231, R234). -/
def execFinalVerify (cmd : Nat) (host : HostRead) (s : State) : Host.Outcome State Fault Refusal :=
  dgRow 0x0C13 cmd (fun c => s.contVal c host) s

/-- SAVE (R238). -/
def execSave (cmd : Nat) (host : HostRead) (s : State) : Host.Outcome State Fault Refusal :=
  dgRow 0x0C18 cmd (fun c => s.contVal c host) s

/-- RESTORE (R239). -/
def execRestore (cmd : Nat) (host : HostRead) (s : State) : Host.Outcome State Fault Refusal :=
  dgRow 0x0C19 cmd (fun c => s.restoreVal c host) s

/-- RELEASE: the context is zeroised and FREE (R234). -/
def State.releaseOp (s : State) (c : Cmd) (h : HostRead) : Except Done (State × Done) := do
  need (c.ctx < 4096 && c.dgPlain && s.dgByte3 c) St.BAD_FIELD
  let _ ← c.bare h
  pure ({ s with dg := { s.dg with ctxs := mdel s.dg.ctxs (dctxKey c.fn c.ctx) } }, .ok 0 [])

/-- EPOCH_ADVANCE (R239). -/
def State.epochOp (s : State) (c : Cmd) (h : HostRead) : Except Done (State × Done) := do
  need (c.dgPlain && c.par == 0 && c.ctx == 0) St.BAD_FIELD
  let _ ← c.bare h
  let e := ((mget s.dg.saveEpoch c.fn).getD 0 + 1) % 2 ^ 32
  pure ({ s with dg := { s.dg with saveEpoch := mput s.dg.saveEpoch c.fn e } }, .ok 0 (natLE 4 e))

/-- RELEASE (R234, R235). -/
def execRelease (cmd : Nat) (host : HostRead) (s : State) : Host.Outcome State Fault Refusal :=
  opRow cmd (fun c => c.op == 0x0C1A && !s.dctxBusy cmd c) (fun c => s.atOnce cmd c (s.releaseOp c host)) s

/-- EPOCH_ADVANCE (R239). -/
def execEpochAdvance (cmd : Nat) (host : HostRead) (s : State) : Host.Outcome State Fault Refusal :=
  keyRow0 0x0C20 cmd (fun c => s.epochOp c host) s

end Sys2Proof.Machine
end

