-- ==== Sys2Proof/Machine/Check.lean ====
section
/-!
DEFINITION. The check-value units (spec file 08, R243 to R249): channels, polynomials, fold-in modes, the two opcodes.
-/
namespace Sys2Proof.Machine
open Sys2Proof

/-! Polynomials (R244). -/

/-- A polynomial in force on a channel. -/
structure CrcSpec where
  width  : Nat
  poly   : Nat
  init   : Nat
  refin  : Bool
  refout : Bool
  xorout : Nat
deriving DecidableEq, Repr

/-- The low w bits of a number in reverse order. -/
def reflect : Nat → Nat → Nat
  | 0, _ => 0
  | w + 1, v => (v % 2) * 2 ^ w + reflect w (v / 2)

/-- Eight shifts of the register: towards bit 0 where it is kept reflected, else towards its top. -/
def crcShift (c : CrcSpec) : Nat → Nat → Nat
  | 0, r => r
  | n + 1, r =>
    crcShift c n
      (if c.refin then (if r % 2 = 1 then (r / 2) ^^^ reflect c.width c.poly else r / 2)
       else (if r.testBit (c.width - 1) then (2 * r % 2 ^ c.width) ^^^ c.poly else 2 * r % 2 ^ c.width))

def crcByte (c : CrcSpec) (r : Nat) (b : Byte) : Nat :=
  crcShift c 8 (if c.refin then r ^^^ b.toNat else r ^^^ (b.toNat * 2 ^ (c.width - 8)))

/-- The check value of bytes with the register starting at a value. The initial value is loaded as the register stands, reflected with
REFIN; so a SEED command continues a check (R248; log entry 37). -/
def crcFrom (c : CrcSpec) (start : Nat) (l : List Byte) : Nat :=
  let r := l.foldl (crcByte c) start
  (if c.refin = c.refout then r else reflect c.width r) ^^^ c.xorout

/-- The polynomial of a channel: none for a reserved index. -/
def State.chkSpec (s : State) (n : Nat) : Option CrcSpec :=
  let cfg := s.rd 0 (Reg.CHK_CFG n)
  let v := fun (lo hi w : Nat) => (s.rdF lo 31 0 + 2 ^ 32 * s.rdF hi 31 0) % 2 ^ w
  let custom := fun (w : Nat) => some
    { width := w, poly := v (Reg.CHK_POLY_LO n) (Reg.CHK_POLY_HI n) w, init := v (Reg.CHK_INIT_LO n) (Reg.CHK_INIT_HI n) w,
      refin := bitAt cfg 10, refout := bitAt cfg 9, xorout := v (Reg.CHK_XOR_LO n) (Reg.CHK_XOR_HI n) w : CrcSpec }
  match fld cfg 18 16 with
  | 0 => some ⟨32, 0x1EDC6F41, 2 ^ 32 - 1, true, true, 2 ^ 32 - 1⟩
  | 1 => some ⟨64, 0xAD93D23594C93659, 2 ^ 64 - 1, true, true, 2 ^ 64 - 1⟩
  | 2 => some ⟨16, 0x8BB7, 0, false, false, 0⟩
  | 3 => some ⟨32, 0x04C11DB7, 2 ^ 32 - 1, true, true, 2 ^ 32 - 1⟩
  | 4 => custom 32
  | 5 => custom 64
  | _ => none

/-! Fold-in (R246). -/

/-- The values of an input under a fold-in mode with tag t and block size b; n counts blocks. -/
def chkBlocks (c : CrcSpec) (tagged : Bool) (t b : Nat) : Nat → Nat → List Byte → List Nat
  | 0, _, _ => []
  | n + 1, i, l =>
    let pre := if tagged then natLE 8 ((t + i) % 2 ^ 64) else []
    crcFrom c c.init (pre ++ l.take b) :: chkBlocks c tagged t b n (i + 1) (l.drop b)

def chkValues (c : CrcSpec) (fold t b : Nat) (m : List Byte) : List Nat :=
  match fold with
  | 0 => [crcFrom c c.init m]
  | 1 => [crcFrom c c.init (natLE 8 t ++ m)]
  | 2 => [crcFrom c (c.init ^^^ (t % 2 ^ c.width)) m]
  | 3 => chkBlocks c true t b (m.length / b) 0 m
  | _ => chkBlocks c false t b (m.length / b) 0 m

/-- The mode makes one value per block. -/
def chkBlock (fold : Nat) : Bool := fold == 3 || fold == 4

/-! Validation (R245 to R247). -/

/-- A channel serves a function: it is enabled, and its owner is the function or every function. -/
def State.chkServes (s : State) (fn n : Nat) : Bool :=
  let cfg := s.rd 0 (Reg.CHK_CFG n)
  bitAt cfg 31 && (fld cfg 30 19 == fn || fld cfg 30 19 == 0xFFF)

/-- CHECK and CHECK_VERIFY: the values are those of the channel's configuration at validation; they are kept with the width in bytes and
the byte order. -/
def State.checkVal (s : State) (c : Cmd) (h : HostRead) : Except Done Cmd := do
  let n := c.chan
  let cfg := s.rd 0 (Reg.CHK_CFG n)
  let fold := fld cfg 15 13
  let t := leAt c.desc 48 8
  let ver := c.op == 0x0D02
  let b := if bitAt cfg 12 then 4096 else 512
  let blk := chkBlock fold
  need (c.par < 64 && s.chkServes c.fn n && c.h2 == 0 && c.h1 != PUBLIC_IN_AUX) St.BAD_FIELD
  match s.chkSpec n with
  | none => throw (.err St.BAD_FIELD)
  | some p => do
    need (fold ≤ 4 && !((fold == 0 || fold == 4) && t != 0)) St.BAD_FIELD
    need (if ver then c.cap == 0 else blk || c.cap != 0 || c.flag 3) St.BAD_FIELD
    let w := p.width / 8
    let size := if blk then c.inLen / b * w else w
    let c1 ← c.buffers h (fun x => !blk || (x != 0 && x % b == 0)) (fun x => x == (if ver then size else 0))
      (if ver || (!blk && c.cap == 0) then 0 else size)
    let vs := chkValues p fold t b c1.inp
    pure { c1 with src := vs.flatMap (fun v => natLE w v), note := [BitVec.ofNat 8 w, BitVec.ofNat 8 (b2n (bitAt cfg 11)),
      BitVec.ofNat 8 (b2n blk)], legs := [{ newLeg .chk with want := 1 }] }

/-! The run. -/

/-- The values of a command. -/
def Cmd.chkVals (c : Cmd) : List Nat :=
  let w := leAt c.note 0 1
  (List.range (c.src.length / w)).map (fun i => leAt c.src (i * w) w)

/-- The values in output form. -/
def Cmd.chkOut (c : Cmd) : List Byte :=
  let w := leAt c.note 0 1
  c.chkVals.flatMap (fun v => if leAt c.note 1 1 = 1 then natBE w v else natLE w v)

/-- The last value, bytes 16 to 23. -/
def Cmd.chkLast (c : Cmd) : Nat := c.chkVals.foldl (fun _ v => v) 0

/-- The index of the first block that does not match. -/
def Cmd.chkBad (c : Cmd) : Nat :=
  let w := leAt c.note 0 1
  ((List.range c.chkVals.length).find? (fun i => slice c.chkOut (i * w) w != slice c.aux (i * w) w)).getD 0xFFFFFFFF

/-- What the run of a check yields (R247). -/
def Cmd.chkRun (c : Cmd) : RunResult :=
  let ver := c.op == 0x0D02
  let count := if ver then c.chkBad else if leAt c.note 2 1 = 1 then c.chkVals.length else 0
  { RunResult.ok (if ver then [] else c.chkOut) [] with
    verdict := if ver then some (c.chkOut == c.aux) else none
    inline := if c.flag 3 then natLE 8 c.chkLast ++ natLE 4 count else [] }

/-- The check ends: output, the channel's result registers, the completion (R247). -/
def State.chkFinish (s : State) (id : Nat) (c : Cmd) (r : RunResult) : State :=
  let n := c.chan
  let out := if c.cap = 0 then [] else r.out
  let s1 := s.writeOut c 0 out true
  let s2 := (s1.wr 0 (Reg.CHK_RESULT n) (BitVec.ofNat 32 c.chkLast)).wr 0 (Reg.CHK_RESULTH n) (BitVec.ofNat 32 (c.chkLast / 2 ^ 32))
  (s2.wr 0 (Reg.CHK_LAST n) (BitVec.ofNat 32 (c.fn * 65536 + c.tag))).complete id ⟨St.SUCCESS, out.length, r.verdict, r.inline, true⟩

/-- CHECK (R247). -/
def execCheck (cmd : Nat) (host : HostRead) (s : State) : Host.Outcome State Fault Refusal :=
  keyRow 0x0D01 cmd (fun c => s.checkVal c host) s

/-- CHECK_VERIFY (R247). -/
def execCheckVerify (cmd : Nat) (host : HostRead) (s : State) : Host.Outcome State Fault Refusal :=
  keyRow 0x0D02 cmd (fun c => s.checkVal c host) s

/-! Configuration (R245). -/

/-- The channel and the register of an offset in the channels' registers. -/
def chkReg (off : Nat) : Option (Nat × Nat) :=
  if 0x481000 ≤ off ∧ off < 0x482000 ∧ (off - 0x481000) % 0x40 ≤ 0x18 then some ((off - 0x481000) / 0x40, (off - 0x481000) % 0x40) else none

/-- CHK_CFG_WRITE: while the channel is enabled, nothing but the clearing of EN is taken. A custom polynomial needs its bit 0 (R245). -/
def execChkCfgWrite (off : Nat) (v : Word) (s : State) : Host.Outcome State Fault Refusal :=
  match chkReg off with
  | none => .next s
  | some (n, r) =>
    let cfg := s.rd 0 (Reg.CHK_CFG n)
    if bitAt cfg 31 then
      .next (if r = 0 ∧ !bitAt v 31 then s.wr 0 (Reg.CHK_CFG n) (setBit cfg 31 false) else s)
    else if r = 0 then
      let w := v &&& fieldMask 31 9
      let custom := fld w 18 16 = 4 ∨ fld w 18 16 = 5
      if bitAt w 31 ∧ custom ∧ !s.rdB (Reg.CHK_POLY_LO n) 0 then
        .next ((s.wr 0 (Reg.CHK_CFG n) (setBit w 31 false)).wrB Reg.CHK_STAT 8 true)
      else .next (s.wr 0 (Reg.CHK_CFG n) w)
    else .next (s.wr 0 off v)

end Sys2Proof.Machine
end

