-- ==== Sys2Proof/Machine/Random.lean ====
section
/-!
DEFINITION. The random commands of family 0x0E (spec file 10, R278, R279) and the validation of custom kernels (06, R190, R191).
-/
namespace Sys2Proof.Machine
open Sys2Proof

/-! RANDOM and RANDOM_CTX (R278). -/

/-- Fields that every random command leaves zero: input and auxiliary lengths, both handles. -/
def Cmd.randPlain (c : Cmd) : Bool := c.inLen == 0 && c.auxLen == 0 && c.h1 == 0 && c.h2 == 0

def State.randomVal (_s : State) (c : Cmd) (h : HostRead) : Except Done Cmd := do
  let n := leAt c.desc 48 4
  need (c.randPlain && c.par == 0 && leAt c.desc 52 4 == 0 && 1 ≤ n && n ≤ 1048576) St.BAD_FIELD
  let c1 ← c.buffers h (fun _ => true) (fun _ => true) n
  pure { c1 with need := n }

def State.randomCtxVal (s : State) (c : Cmd) : Except Done Cmd := do
  let n := leAt c.desc 48 4
  need (c.randPlain && c.par == 0 && leAt c.desc 52 4 == 0 && 16 ≤ n && n ≤ 128 && c.ctx < (s.fn c.fn).ctx) St.BAD_FIELD
  need (s.ctxVal c.fn c.ctx).isNone St.STATE
  pure { c with need := n }

/-- RANDOM (R278). -/
def execRandom (cmd : Nat) (host : HostRead) (s : State) : Host.Outcome State Fault Refusal :=
  keyRow 0x0E01 cmd (fun c => s.randomVal c host) s

/-- RANDOM_CTX (R278): nothing is read from host memory. -/
def execRandomCtx (cmd : Nat) (_host : HostRead) (s : State) : Host.Outcome State Fault Refusal :=
  keyRow 0x0E02 cmd (fun c => s.randomCtxVal c) s

/-- The bytes of a random command are drawn: they go to the output or to the context. -/
def State.randomEnd (s : State) (id : Nat) (c : Cmd) : State :=
  if c.op = 0x0E01 then (s.writeOut c 0 c.rand true).complete id (.ok c.rand.length [])
  else (s.setCtx c.fn c.ctx c.rand c.op).complete id (.ok 0 [])

/-! Custom kernels (R190, R191). -/

/-- The kernel a command resolved: its note holds the measurement. -/
def State.kernelOf (s : State) (c : Cmd) : Option Kernel := if !c.kern then none else s.kernels.find? (fun k => k.opcode == c.op && k.measure == c.note)

/-- A key of a kernel: the handle is 0 where the header asks for no usage. -/
def State.kernelKey (s : State) (c : Cmd) (h : HostRead) (k : Kernel) (handle use : Nat) : Except Done (Option (KeyMat × Option KeyObj)) :=
  if use = 0 then .ok none
  else do
    let m ← s.findKey c.fn handle h.blobs (fun f => k.famMask.testBit f)
    pure (some m)

/-- A test variant of an operation that a vendor kernel serves (R17). -/
def Cmd.kernTest (c : Cmd) : Bool := decide (128 ≤ c.op % 256) && decide (c.op < 0x1200) && drawsKey (c.op / 256) (c.op % 128)

/-- The host bytes of a test variant: those at the end of the auxiliary buffer, in the amount of the header's initial draw (log entry 134). -/
def Kernel.hostBytes (k : Kernel) (aux : List Byte) : List Byte := aux.drop (aux.length - k.entropy)

/-- Steps 2 to 9 of a kernel command; its validation phase is step 10 (R191). The header's initial entropy is drawn where bit 2 of the parameter
entry's flags is set (DESIGN CHOICE, log entry 157). -/
def State.kernelVal (s : State) (c : Cmd) (h : HostRead) : Except Done Cmd := do
  match s.kernelFor c.fn c.op with
  | none => throw (.err St.BAD_OPCODE)
  | some k => do
    let e ← match k.params.find? (fun p => p.index == c.par) with
      | some e => pure e
      | none => throw (.err St.BAD_FIELD)
    need ((k.use1 != 0 || c.h1 == 0) && (k.use2 != 0 || c.h2 == 0) && c.h1 != PUBLIC_IN_AUX && c.h2 != PUBLIC_IN_AUX) St.BAD_FIELD
    let rd := e.flags.testBit 3
    let wr := e.flags.testBit 4
    need (!(rd || wr) || c.ctx < (s.fn c.fn).ctx) St.BAD_FIELD
    let v := s.ctxVal c.fn c.ctx
    need (!c.kernTest || s.testState) St.STATE
    need ((!rd || v.isSome) && (!(wr && !rd) || v.isNone)) St.STATE
    s.needBlob (if k.use1 != 0 then c.h1 else 0)
    s.needBlob (if k.use2 != 0 then c.h2 else 0)
    let k1 ← s.kernelKey c h k c.h1 k.use1
    let k2 ← s.kernelKey c h k c.h2 k.use2
    let covers := fun (m : Option (KeyMat × Option KeyObj)) (u : Nat) => match m with
      | some x => attrUse x.1.attrs &&& u == u && s.curveHolds x.1
      | none => true
    need (covers k1 k.use1 && covers k2 k.use2) St.KEY_USAGE
    let c1 ← c.buffers h (fun n => if e.flags.testBit 0 then n == e.inLen else decide (n ≤ e.inLen))
      (fun n => if e.flags.testBit 1 then n == e.auxLen else decide (n ≤ e.auxLen)) e.out
    pure { c1 with k1 := k1.map (·.1), k2 := k2.map (·.1), src := if rd then (match v with | some x => x.value | none => []) else [],
                   need := if e.flags.testBit 2 && !c.kernTest then k.entropy else 0, kern := true, note := k.measure, legs := [newLeg .pvc] }

/-- KERNEL_COMMAND: a command of the custom range, or of an opcode that a loaded vendor kernel serves (R190, R191). -/
def execKernelCommand (cmd : Nat) (host : HostRead) (s : State) : Host.Outcome State Fault Refusal :=
  startRow cmd (fun c => (0x8000 ≤ c.op && c.op ≤ 0x8FFF) || s.vendorKernel c.op) (fun c => s.validated cmd c (s.kernelVal c host)) s

/-- A kernel command is released: output, context, completion (R142, R191). -/
def State.kernelFinish (s : State) (id : Nat) (c : Cmd) (r : RunResult) : State :=
  if r.trap ≠ 0 ∨ r.status ≠ 0 then s.complete id ⟨r.status, 0, none, if r.trap = 0 then zeros 16 else r.inline, true⟩
  else
    let s1 := s.writeOut c 0 r.out true
    let s2 := if r.secret.isEmpty then s1 else s1.setCtx c.fn c.ctx r.secret c.op
    s2.complete id ⟨St.SUCCESS, r.out.length, r.verdict, if c.flag 3 then r.inline else [], true⟩

end Sys2Proof.Machine
end

