-- ==== Sys2Proof/Machine/Opm.lean ====
section
/-!
DEFINITION. The operand memory (spec file 09, R260 to R266): formats, operation lists, secrecy marks, PF0's window.
-/
namespace Sys2Proof.Machine
open Sys2Proof

/-! Partitions and slots. -/

def State.opmPart (s : State) (fn : Nat) : OpmPart := (mget s.opm fn).getD ⟨0, 0, false, []⟩
def State.setOpm (s : State) (fn : Nat) (p : OpmPart) : State := { s with opm := mput s.opm fn p }

/-- Bytes of a function's partition (R260). -/
def State.opmSize (s : State) (fn : Nat) : Nat := (s.fn fn).opm4k * 4096

/-- Slots of a formatted partition (R262). -/
def State.opmCount (s : State) (fn : Nat) : Nat :=
  let p := s.opmPart fn
  if p.slotLen = 0 then 0 else Nat.min 1024 (s.opmSize fn / p.slotLen)

/-- An OPM command of the function that was fetched earlier has not ended (R262). -/
def State.opmBusy (s : State) (id : Nat) (c : Cmd) : Bool :=
  s.cmds.any (fun x => decide (x.1 < id) && x.2.fn == c.fn && (x.2.op == 0x0F80 || x.2.op == 0x0F88) && x.2.phase != .waitCq)

/-- OPM_FORMAT (R262). -/
def State.opmFormatOp (s : State) (c : Cmd) (h : HostRead) : Except Done (State × Done) := do
  let l := c.par % 64
  c.fields false
  need (1 ≤ l && l ≤ 32 && c.par / 64 % 2 == 0) St.BAD_FIELD
  need (s.opmSize c.fn != 0) St.STATE
  need (32 * l ≤ s.opmSize c.fn) St.BAD_FIELD
  let _ ← c.bare h
  pure (s.setOpm c.fn { s.opmPart c.fn with slotLen := 32 * l, sealed := decide (128 ≤ c.par), slots := [] }, .ok 0 [])

/-! Operation lists (R263). -/

/-- An entry of a list. -/
structure OpmEnt where
  code : Nat
  d    : Nat
  a    : Nat
  b    : Nat
  m    : Nat
  off  : Nat
deriving DecidableEq, Repr

def opmEnt (l : List Byte) : OpmEnt := ⟨leAt l 0 1, leAt l 2 2, leAt l 4 2, leAt l 6 2, leAt l 8 2, leAt l 12 4⟩

def opmList (l : List Byte) : List OpmEnt := (List.range (l.length / 16)).map (fun i => opmEnt (slice l (16 * i) 16))

def opmCodes : List Nat := [0x01, 0x02, 0x03, 0x04, 0x10, 0x11, 0x12, 0x13, 0x14, 0x20]

/-- The entry computes under a modulus. -/
def OpmEnt.modular (e : OpmEnt) : Bool := 0x10 ≤ e.code && e.code ≤ 0x14

/-- Slots an entry reads; a STORE reads d. -/
def OpmEnt.reads (e : OpmEnt) : List Nat :=
  match e.code with
  | 0x02 => [e.d]
  | 0x04 => [e.a]
  | 0x10 | 0x11 | 0x12 | 0x13 => [e.a, e.b, e.m]
  | 0x14 => [e.a, e.m]
  | _ => []

/-- All slot numbers of an entry. -/
def OpmEnt.slots (e : OpmEnt) : List Nat := e.d :: e.reads

/-- Step 3 over a list: zero fields, codes, offsets, key parts, and no modulus that an earlier entry computed (R264). -/
def opmForm (l : List Byte) : Bool :=
  let es := opmList l
  l.length % 16 == 0 && 16 ≤ l.length && l.length ≤ 4096 &&
  (List.range es.length).all (fun i =>
    let e := opmEnt (slice l (16 * i) 16)
    leAt l (16 * i + 1) 1 == 0 && leAt l (16 * i + 10) 2 == 0 && opmCodes.contains e.code &&
    (if e.code ≤ 2 then e.off % 8 == 0 else true) && (if e.code == 0x20 then 1 ≤ e.a && e.a ≤ 3 else true) &&
    (if e.modular then (es.take i).all (fun x => !(x.modular && x.d == e.m)) else true))

/-! A run of a list. -/

/-- Inverse by the extended Euclidean algorithm: 0 where none exists. -/
def egcd : Nat → Int → Int → Int → Int → Int × Int
  | 0, r, _, x, _ => (r, x)
  | n + 1, r, r', x, x' => if r' = 0 then (r, x) else egcd n r' (r % r') x' (x - r / r' * x')

def modInv (a m : Nat) : Nat :=
  let r := egcd (2 * bitLen m + 2) (a % m) m 1 0
  if r.1 = 1 then (r.2 % (m : Int)).toNat else 0

/-- The value of a modular operation (R263): operands are reduced first. -/
def opmArith (code a b m : Nat) : Nat :=
  match code with
  | 0x10 => (a % m + b % m) % m
  | 0x11 => (a % m + m - b % m) % m
  | 0x12 => a % m * (b % m) % m
  | 0x13 => if a % m = 0 then 0 else powMod a b m
  | _ => modInv a m

/-- A slot during a run: its state, whether a modular operation of the list computed it, its mark. -/
structure OpmVal where
  state    : Nat        -- 0 EMPTY, 1 VALID, 2 POISONED
  value    : Nat
  computed : Bool
  secret   : Bool
deriving DecidableEq, Repr

/-- What a run has done so far: slots, output ranges, whether a poisoned slot was stored. -/
structure OpmRun where
  slots  : List (Nat × OpmVal)
  out    : List (Nat × List Byte)
  poison : Bool
deriving DecidableEq, Repr

/-- The slots as a run finds them: a SEALED one starts EMPTY (R262). -/
def OpmPart.start (p : OpmPart) : OpmRun :=
  ⟨if p.sealed then [] else p.slots.map (fun x => (x.1, ⟨if x.2.poisoned then 2 else 1, x.2.value, false, x.2.secret⟩)), [], false⟩

def OpmRun.at_ (r : OpmRun) (i : Nat) : OpmVal := (mget r.slots i).getD ⟨0, 0, false, false⟩

/-- A part of an RSA key: n, e, d (R263, R419). -/
def rsaPart (k : KeyMat) (part : Nat) : List Byte :=
  match part with
  | 1 => k.pub.take (32 * k.par)
  | 2 => k.pub.drop (32 * k.par)
  | _ => slice k.priv (32 * k.par + 4) (32 * k.par)

/-- One entry (R263, R265). -/
def OpmRun.step (len : Nat) (aux : List Byte) (k : Option KeyMat) (r : OpmRun) (e : OpmEnt) : OpmRun :=
  let put := fun (v : OpmVal) => { r with slots := mput r.slots e.d v }
  let A := r.at_ e.a
  let B := r.at_ e.b
  let M := r.at_ e.m
  match e.code with
  | 0x01 => put ⟨1, beNat (slice aux e.off len), false, false⟩
  | 0x02 =>
    let D := r.at_ e.d
    { r with out := r.out ++ [(e.off, natBE len (if D.state = 1 then D.value else 0))], poison := r.poison || D.state == 2 }
  | 0x03 => put ⟨1, 0, false, false⟩
  | 0x04 => put A
  | 0x20 => match k with
    | some m => put ⟨1, beNat (rsaPart m e.a), false, e.a == 3⟩
    | none => r
  | _ =>
    let sec := if e.code = 0x13 then A.secret || M.secret else A.secret || M.secret || (e.code != 0x14 && B.secret)
    put ⟨1, opmArith e.code A.value B.value M.value % 2 ^ (8 * len), true, sec⟩

/-- The checks of step 4 that follow the list: input slots VALID at their use, and no secret part in an OPEN partition (R264). A slot number
beyond the slot count is step 9's. -/
def opmUse (sealed : Bool) (count len : Nat) (aux : List Byte) (k : Option KeyMat) : OpmRun → List OpmEnt → Bool
  | _, [] => true
  | r, e :: t =>
    e.reads.all (fun i => decide (count ≤ i) || (r.at_ i).state == 1 || (e.code == 0x02 && (r.at_ i).state == 2)) && (sealed || e.code != 0x20 || e.a != 3) &&
      opmUse sealed count len aux k (if e.code = 0x20 && k.isNone then { r with slots := mput r.slots e.d ⟨1, 0, false, e.a == 3⟩ } else r.step len aux k e) t

/-- A STORE of a secret slot (R264). -/
def opmLeaks (len : Nat) (aux : List Byte) (k : Option KeyMat) : OpmRun → List OpmEnt → Bool
  | _, [] => false
  | r, e :: t => (e.code == 0x02 && (r.at_ e.d).secret) || opmLeaks len aux k (r.step len aux k e) t

/-- Step 10: public moduli, then operands known before the run (R264). 0 passes. -/
def opmContent (len : Nat) (aux : List Byte) (k : Option KeyMat) : OpmRun → List OpmEnt → Nat × Nat
  | _, [] => (0, 0)
  | r, e :: t =>
    let rest := opmContent len aux k (r.step len aux k e) t
    if e.modular then
      let M := r.at_ e.m
      let big := fun (i : Nat) => let v := r.at_ i; !v.computed && !v.secret && decide (v.value ≥ M.value)
      let ops := if e.code ≤ 0x12 then [e.a, e.b] else [e.a]
      let bad := !M.secret && (M.value % 2 == 0 || M.value < 3)
      (if bad then 1 else rest.1, if !M.secret && ops.any big then 1 else rest.2)
    else rest

/-- The value of a slot as an entry finds it. -/
def OpmPart.val (p : OpmPart) (i : Nat) : OpmVal :=
  match mget p.slots i with
  | some x => ⟨if x.poisoned then 2 else 1, x.value, false, x.secret⟩
  | none => ⟨0, 0, false, false⟩

/-- A slot's value in a note: state, mark, bytes. -/
def OpmVal.enc (len : Nat) (v : OpmVal) : List Byte := [BitVec.ofNat 8 v.state, BitVec.ofNat 8 (b2n v.secret)] ++ natBE len v.value
def opmDec (len : Nat) (l : List Byte) : OpmVal := ⟨leAt l 0 1, beAt l 2 len, false, leAt l 1 1 == 1⟩

/-- What a run of the list keeps between its entries, in the command's note: whether it uses masks, whether it stored a poisoned slot, the
slot length, the entry, and the operands as both runs of the entry take them (R33). -/
def opmNote (mask poison : Bool) (p : OpmPart) (len i : Nat) (e : OpmEnt) : List Byte :=
  [BitVec.ofNat 8 (b2n mask), BitVec.ofNat 8 (b2n poison)] ++ natLE 2 len ++ natLE 2 i ++
    [e.d, e.a, e.b, e.m].flatMap (fun x => (p.val x).enc len)

/-- Validation of OPM_RUN (R264). -/
def State.opmRunVal (s : State) (c : Cmd) (h : HostRead) : Except Done Cmd := do
  let l := fixLen c.inLen h.input
  let aux := fixLen c.auxLen h.aux
  let es := opmList l
  let p := s.opmPart c.fn
  let len := p.slotLen
  let loads := es.filter (fun e => e.code == 0x20)
  need (leAt c.desc 48 8 == 0 && c.h2 == 0 && c.par == 0 && c.h1 != PUBLIC_IN_AUX && decide (c.inLen ≤ 4096) && opmForm l) St.BAD_FIELD
  need (len != 0) St.STATE
  need (opmUse p.sealed (s.opmCount c.fn) len aux none p.start es) St.STATE
  s.needBlob (if loads.isEmpty then 0 else c.h1)
  let k ← if loads.isEmpty then pure none else (s.findKey c.fn c.h1 h.blobs (· == 0x09)).map some
  match k with
  | some (m, _) => do
    need (!attrFfdh m.attrs && decide (8 ≤ m.par)) St.KEY_ABSENT
    need ((attrUse m.attrs).testBit Use.SIGN) St.KEY_USAGE
  | none => pure ()
  let km := k.map (·.1)
  need (!opmLeaks len aux km p.start es) St.KEY_USAGE
  let size := es.foldl (fun n e => if e.code = 0x02 then Nat.max n (e.off + len) else n) 0
  let c1 ← c.buffers h (fun _ => true) (fun n => es.all (fun e => e.code != 0x01 || decide (e.off + len ≤ n))) size
  if es.any (fun e => e.slots.any (fun i => decide (i ≥ s.opmCount c.fn))) then throw (.fail St.QUOTA [4])
  need (loads.all (fun e => match km with | some m => decide ((rsaPart m e.a).length ≤ len) | none => true)) St.BAD_FIELD
  let q := opmContent len aux km p.start es
  -- range before structure (R255)
  if q.2 ≠ 0 then throw { Done.err St.NON_CANONICAL with timed := true }
  if q.1 ≠ 0 then throw { Done.err St.INVALID_INPUT with timed := true }
  pure { c1 with k1 := km, src := [], legs := [newLeg .bne],
                 note := opmNote p.sealed false (if p.sealed then { p with slots := [] } else p) len 0 (opmEnt l) }

/-! The runs of an entry, and the release. -/

/-- The entry that the command is at. -/
def Cmd.opmEntry (c : Cmd) : OpmEnt := opmEnt (slice c.inp (16 * c.opmIdx) 16)

/-- The result of an entry's run: of a STORE its bytes, of another entry its slot with state and mark (R263, R265). -/
def opmResult (c : Cmd) : RunResult :=
  let len := leAt c.note 2 2
  let e := c.opmEntry
  let at_ := fun (k : Nat) => opmDec len (slice c.note (6 + k * (len + 2)) (len + 2))
  let slots := [(e.d, 0), (e.a, 1), (e.b, 2), (e.m, 3)].foldl (fun m (x : Nat × Nat) => mput m x.1 (at_ x.2)) []
  let r := (OpmRun.mk slots [] false).step len c.aux c.k1 e
  { RunResult.ok (r.out.flatMap (·.2)) (if e.code = 0x02 then [] else (r.at_ e.d).enc len) with inline := [BitVec.ofNat 8 (b2n r.poison)] }

/-- The list is done: its output ranges are written in list order, a SEALED partition is zeroised, and the command ends (R34, R262). -/
def State.opmRelease (s : State) (id : Nat) (c : Cmd) (len : Nat) (poison : Bool) : State :=
  let p := s.opmPart c.fn
  let es := opmList c.inp
  let s1 := if p.sealed then s.setOpm c.fn { p with slots := [] } else s
  let st := es.filter (fun e => e.code == 0x02)
  let s2 := (List.range st.length).foldl (fun (x : State) i =>
    match st[i]? with
    | some e => x.writeOut c e.off (slice c.src (i * len) len) true
    | none => x) s1
  let size := st.foldl (fun n e => Nat.max n (e.off + len)) 0
  s2.complete id (.ok size (if c.flag 3 then natLE 2 es.length ++ [BitVec.ofNat 8 (b2n poison)] else []))

/-- The runs of an entry agree: its slot is written, and the next entry is due (R263). A partition resized meanwhile takes no slot. -/
def State.opmFinish (s : State) (id : Nat) (c : Cmd) (r : RunResult) : State :=
  let len := leAt c.note 2 2
  let e := c.opmEntry
  let p := s.opmPart c.fn
  let v := opmDec len r.secret
  let s1 := if e.code = 0x02 ∨ p.slotLen ≠ len then s else s.setOpm c.fn { p with slots := mput p.slots e.d ⟨v.state == 2, v.value, v.secret⟩ }
  let poison := leAt c.note 1 1 == 1 || leAt r.inline 0 1 == 1
  let c1 := { c with src := c.src ++ r.out }
  let i := c.opmIdx + 1
  if (opmList c.inp).length ≤ i then s1.opmRelease id c1 len poison
  else
    s1.setCmd id { c1 with
      legs := [newLeg .bne]
      note := opmNote (leAt c.note 0 1 == 1) poison (s1.opmPart c.fn) len i (opmEnt (slice c.inp (16 * i) 16)) }

/-! The rows. -/

/-- OPM_FORMAT (R262). -/
def execOpmFormat (cmd : Nat) (host : HostRead) (s : State) : Host.Outcome State Fault Refusal :=
  opRow cmd (fun c => c.op == 0x0F88 && !s.opmBusy cmd c) (fun c => s.atOnce cmd c (s.opmFormatOp c host)) s

/-- An OPM_RUN that passes its checks starts; a SEALED partition has every slot EMPTY from then on (R262). -/
def State.opmStart (s : State) (id : Nat) (c : Cmd) (h : HostRead) : State :=
  let p := s.opmPart c.fn
  let v := s.opmRunVal c h
  match v with
  | .ok _ => (if p.sealed then s.setOpm c.fn { p with slots := [] } else s).validated id c v
  | .error _ => s.validated id c v

/-- OPM_RUN (R263). -/
def execOpmRun (cmd : Nat) (host : HostRead) (s : State) : Host.Outcome State Fault Refusal :=
  opRow cmd (fun c => c.op == 0x0F80 && !s.opmBusy cmd c) (fun c => (s.opmStart cmd c host)) s

/-! PF0's window (R262, R266). -/

/-- The slot of PF0's partition and the byte in it that an offset of BAR0 names. -/
def State.opmAt (s : State) (off : Nat) : Option (Nat × Nat) :=
  let p := s.opmPart 0
  let start := 0x700000 + p.base * 4096
  if start ≤ off ∧ off < start + s.opmSize 0 ∧ p.slotLen ≠ 0 ∧ (off - start) / p.slotLen < s.opmCount 0 then
    some ((off - start) / p.slotLen, (off - start) % p.slotLen)
  else none

/-- OPM_WINDOW_WRITE: four bytes of a slot of the OPEN partition; the slot becomes VALID (R266). -/
def execOpmWindowWrite (off : Nat) (v : Word) (s : State) : Host.Outcome State Fault Refusal :=
  let p := s.opmPart 0
  match s.opmAt off with
  | none => .next s
  | some (i, j) =>
    if p.sealed ∨ off % 4 ≠ 0 then .next s
    else
      let old := match mget p.slots i with | some x => if x.poisoned then 0 else x.value | none => 0
      let bytes := natBE p.slotLen old
      let new := bytes.take j ++ natLE 4 v.toNat ++ bytes.drop (j + 4)
      .next (s.setOpm 0 { p with slots := mput p.slots i ⟨false, beNat new, false⟩ })

/-- A read in the window: zeros outside the partition and in a SEALED one; a POISONED slot sets OPM_STAT.POISON (R262, R266). -/
def State.opmLook (s : State) (off : Nat) : State × Word :=
  let p := s.opmPart 0
  match s.opmAt off with
  | none => (s, 0)
  | some (i, j) =>
    match mget p.slots i with
    | none => (s, 0)
    | some x =>
      if p.sealed then (s, 0)
      else if x.poisoned then (s.wrB Reg.OPM_STAT 0 true, 0)
      else (s, BitVec.ofNat 32 (leNat (slice (natBE p.slotLen x.value) j 4)))

/-- OPM_WINDOW_READ. -/
def execOpmWindowRead (off : Nat) (s : State) : Host.Outcome State Fault Refusal :=
  .next ((s.opmLook off).1.emit (.readData 0 off (s.opmLook off).2))

end Sys2Proof.Machine
end

