-- ==== Sys2Proof/Machine/Runs.lean ====
section
/-!
DEFINITION. Duplicated runs: their placement, their ends, the comparator and the vote (spec files 01, R33 to R36; 06, R169, R192; 15, R366 to
R368; 02, R71 to R74; 09, R254; 08, R243).
-/
namespace Sys2Proof.Machine
open Sys2Proof

/-! Start and end of runs on units. -/

/-- A resident Classic McEliece key, whose public part the code-key cache holds (R41): its handle and parameter set. -/
def KeyMat.codeRef (m : KeyMat) : Option (Nat × Nat) := if m.fam = 0x07 ∧ handleClass m.handle ≠ 1 then some (m.handle, m.par) else none

/-- A core at the entry of a kernel (R169, R176). -/
def kernelEntry (id leg : Nat) (c : Cmd) (k : Kernel) (e : KParam) : Pvc :=
  let sregs := [0, c.inLen, c.auxLen, c.cap, c.op + 65536 * c.par, leAt c.desc 48 4, leAt c.desc 52 4, c.src.length]
  let m1 := writeBytes [] k.input.base (c.inp.take k.input.size)
  let m2 := writeBytes m1 k.aux.base (c.aux.take k.aux.size)
  let qs := (List.range 4).map (fun i => k.qm.getD i 0)
  { cmd := id, leg := leg, kern := k, par := e, inLen := c.inLen, auxLen := c.auxLen, cap := c.cap, inl := c.flag 3,
    k1 := c.k1.map (fun m => (m.priv, m.pub)), k2 := c.k2.map (fun m => (m.priv, m.pub)), c1 := c.k1.bind KeyMat.codeRef,
    c2 := c.k2.bind KeyMat.codeRef, src := c.src, test := c.kernTest, alloc := true,
    ent := if c.kernTest then k.hostBytes c.aux else c.rand,
    s := Vector.ofFn (fun i => ⟨BitVec.ofNat 32 (sregs.getD i.val 0), none⟩)
    w := Vector.replicate 32 ⟨0, none⟩
    p := Vector.replicate 8 ⟨0, false⟩
    len := 0, epr := 0, resume := false
    qm := Vector.ofFn (fun i => qs.getD i.val 0)
    gfp := k.gfp, fpsr := 0, pc := BitVec.ofNat 32 k.entry, tpc := 0, tcause := 0, taddr := 0, handler := false, valid := true
    mem := writeBytes m2 k.work.base k.data
    shares := [], sram := [], inSeg := (0, Nat.min c.inLen k.input.size), auxSeg := (0, Nat.min c.auxLen k.aux.size)
    sp := Vector.replicate 2 none, ctxOut := none, masks := 0, stall := none }

/-- A kernel starts on a core, its code in the instruction memory (R189); it waits where its shared-SRAM allotment is not free (R165). -/
def State.startKernel (s : State) (id leg u : Nat) (c : Cmd) : State :=
  match s.kernelOf c with
  | none => s
  | some k =>
    match k.params.find? (fun p => p.index == c.par) with
    | none => s
    | some e =>
      let p := kernelEntry id leg c k e
      let cl := clusterOf u
      let x := s.cluster cl
      let s1 := s.setUnit u { s.unit u with code := k.code }
      if k.sram = 0 ∨ (x.sramQueue.isEmpty ∧ k.sram / 4096 ≤ s.sramFree cl) then s1.setPvc u p
      else (s1.setPvc u { p with stall := some .sram, alloc := false }).setCluster cl { x with sramQueue := x.sramQueue ++ [u] }

/-- A core's instruction memory holds the code of the kernel a command resolved. -/
def State.holdsCode (s : State) (c : Cmd) (u : Nat) : Bool := (s.kernelOf c).any (fun k => (s.unit u).code == k.code)

/-- In its cluster the core is preferred for a kernel's run: it holds the code, or no free core of the cluster does (R192). -/
def State.preferred (s : State) (c : Cmd) (l : Leg) (u : Nat) : Bool :=
  !c.kern || s.holdsCode c u ||
    !(unitsOf .pvc).any (fun v => clusterOf v == clusterOf u && s.holdsCode c v && s.eligible c l v && s.isFree v)

/-- A run takes a unit: its function and opcode show there (08, HTE_GRP); a core's data memory starts afresh (R176, R193), and code that is
no loaded kernel's fills its instruction memory. -/
def State.occupy (s : State) (u id : Nat) (c : Cmd) : State :=
  let x := s.unit u
  let y := { (if x.busy.isNone then { x with busy := some id } else { x with inter := some id }) with kept := none }
  if u < 96 then
    { (s.setUnit u { y with fn := c.fn, opcode := c.shownOp, code := if c.kern then y.code else [] }) with
      test := { s.test with views := mdel s.test.views u } }
  else (s.setUnit u { y with fn := c.fn, opcode := c.shownOp }).seedUnits c u

/-- A run is placed on a unit. -/
def State.placeOne (s : State) (id leg u : Nat) : State :=
  match mget s.cmds id with
  | none => s
  | some c =>
    let c1 := { c with phase := .running, legs := c.legs.modify leg (fun l =>
      { l with runs := l.runs ++ [⟨u, s.nextRun, none, none⟩], used := l.used ++ [u] }) }
    -- the runs of one leg count together as one job of the scheduler (R69)
    let s0 := match c.legs[leg]? with
      | some l => if l.runs.isEmpty ∧ !c.goesOn then (s.jobStarts l.cls c).setCmd id c1 |>.settle else s.setCmd id c1
      | none => s.setCmd id c1
    let s1 := { s0 with nextRun := s.nextRun + 1 }.occupy u id c
    if c.kern then s1.startKernel id leg u c else s1

/-- A unit is free after a run of a command: a PVC goes to scrub first (R193). A tree group whose interleaved run ends shows the key
generation that goes on (08, HTE_GRP). -/
def State.freeUnit (s : State) (u id : Nat) : State :=
  let x := s.unit u
  s.setUnit u (if u < 96 then { x with scrub := true }
    else if x.inter = some id then s.interEnds x
    else { x with busy := x.inter, inter := none })

/-- A run still going is taken off its unit; it starts again as a new job, and the completion carries the replayed flag (R366, R73, R277). -/
def State.pullRun (s : State) (id leg u : Nat) : State :=
  let s1 := s.modCmd id (fun c => { c with replayed := true, legs := c.legs.modify leg (fun l =>
    { l with runs := l.runs.filter (fun r => !(r.unit == u && r.res.isNone)), used := l.used.filter (· != u) }) })
  let cl := clusterOf u
  let x := s1.cluster cl
  let s2 := if u < 96 ∧ (x.spQueue.contains u ∨ x.sramQueue.contains u) then
      s1.setCluster cl { x with spQueue := x.spQueue.filter (· != u), sramQueue := x.sramQueue.filter (· != u) }
    else s1
  let gone := s2.pvcs.map (fun (p : Nat × Pvc) => if p.1 = u then (p.1, { p.2 with stall := some .ended, sp := Vector.replicate 2 none }) else p)
  { s2 with pvcs := gone }.freeUnit u id

/-- Every run still going on a unit, as command, leg and start order. -/
def State.runsOn (s : State) (u : Nat) : List (Nat × Nat × Nat) :=
  s.cmds.flatMap (fun c => (List.range c.2.legs.length).flatMap (fun i =>
    match c.2.legs[i]? with
    | some l => (l.runs.filter (fun r => r.unit == u && r.res.isNone)).map (fun r => (c.1, i, r.start))
    | none => []))

/-- The runs going on a unit are taken off it. -/
def State.pullUnit (s : State) (u : Nat) : State := (s.runsOn u).foldl (fun (x : State) r => x.pullRun r.1 r.2.1 u) s

/-- The units that ran a leg go to self-test where no other unit could ever take its next run (R366, R254); they run no command work
meanwhile (R368). -/
def State.retest (s : State) (id leg : Nat) : State :=
  match mget s.cmds id with
  | none => s
  | some c => match c.legs[leg]? with
    | none => s
    | some l =>
      let us := l.used.eraseDups.filter (fun u => (s.unit u).service || (s.unit u).selftest)
      if l.cls ≠ .chk ∧ l.retest.isEmpty ∧ l.passed.isEmpty ∧ s.exhausted c l ∧ l.runs.all (fun r => r.res.isSome) then
        us.foldl (fun (x : State) u => (x.pullUnit u).setUnit u { (x.pullUnit u).unit u with service := false, selftest := true })
          (s.setCmd id { c with legs := c.legs.set leg { l with retest := us } })
      else s

/-- The run that started most recently on a unit of a class that may take the third run (R366). -/
def State.lastRun (s : State) (c : Cmd) (l : Leg) : Option (Nat × Nat) :=
  let l := ((unitsOf l.cls).filter (s.eligible c l)).flatMap (fun u => (s.runsOn u).map (fun r => (u, r.2.2)))
  match l with
  | [] => none
  | x :: t => some (t.foldl (fun (a b : Nat × Nat) => if b.2 > a.2 then b else a) x)

/-- The leg can never run. Before its first two runs have ended: fewer than two units of its class are left that have passed their tests or
have them still before them (R254, R301), or the channel of a check is retired (R249). From its third run on: no other unit could ever take
it, and of those that ran it none is under self-test or has passed (R366). -/
def State.noUnits (s : State) (c : Cmd) (l : Leg) : Bool :=
  if l.want < 3 then
    decide (((unitsOf l.cls).filter (fun u => !(s.unit u).retired)).length < 2) || (l.cls == .chk && (s.unit (s.chkTarget c)).retired)
  else
    s.exhausted c l && !l.used.any (fun u => !(s.unit u).retired && (l.passed.contains u || (s.unit u).selftest || l.retest.isEmpty))

/-- DEVICE_FAULT with the source of the lower-numbered unit of the first pair of runs (R367). -/
def Leg.faultDone (l : Leg) : Done :=
  let src := match l.used with
    | a :: b :: _ => Nat.min a b
    | [a] => a
    | [] => 0xFFFF
  { Done.fail St.DEVICE_FAULT (natLE 2 src) with timed := true }

/-- The units are placed one after the other; none where one of them may not take a run. -/
def State.placeAll (s : State) (id leg : Nat) : List Nat → Option State
  | [] => some s
  | u :: t =>
    match mget s.cmds id with
    | none => none
    | some c =>
      match c.legs[leg]? with
      | none => none
      | some l =>
        if l.runs.length ≥ l.want then none
        else if s.eligible c l u && s.freeFor id u && s.preferred c l u && (!l.runs.isEmpty || c.goesOn || s.itsTurn l.cls c) then
          (s.placeOne id leg u).placeAll id leg t
        else if 3 ≤ l.want ∧ s.eligible c l u ∧ (s.lastRun c l).map (·.1) = some u ∧
            !(unitsOf l.cls).any (fun v => s.eligible c l v && s.freeFor id v) ∧
            ((unitsOf l.cls).filter (fun v => (s.unit v).kept == some id)).length + l.runs.length < l.want then
          -- the run that started most recently gives its unit to the third run; a PVC is scrubbed first, and kept for it
          if u < 96 then ((s.pullUnit u).setUnit u { (s.pullUnit u).unit u with kept := some id }).placeAll id leg t
          else ((s.pullUnit u).placeOne id leg u).placeAll id leg t
        else none

/-- Checks of a function on one channel run in fetch order (R249). -/
def State.chkTurn (s : State) (id : Nat) (c : Cmd) : Bool :=
  !s.cmds.any (fun x => decide (x.1 < id) && x.2.op / 256 == 0x0D && x.2.chan == c.chan && x.2.fn == c.fn && x.2.phase != .waitCq)

/-- Every unit in service of a class is fed by an expander at its limit: a command that uses masks cannot run (R277). -/
def State.maskless (s : State) (c : Cmd) (e : Eng) : Bool :=
  let up := (unitsOf e).filter (fun u => (s.unit u).service)
  c.usesMasks && !up.isEmpty && up.all (fun u => match expanderOf u with | some x => s.atLimit x | none => false)

/-- A command that may be spilled to a peer: no stateful key, context, key operation, batch or custom kernel, and no secret key but of a
group the peer belongs to (R410). -/
def State.spillable (s : State) (c : Cmd) (p : Peer) : Bool :=
  let keyOk := fun (k : Option KeyMat) => match k with
    | none => true
    | some m => handleClass m.handle == 2 && !isStateful m.fam &&
        (match mget s.fab.groups (attrGroup m.attrs) with | some g => g.members.contains p.id | none => false)
  let ctxOp := !([0x0C, 0x0D, 0x0E, 0x0F].contains c.fam) && [Op.ENCAPS_CTX, Op.DECAPS_CTX, Op.AGREE_CTX].contains c.o
  (s.fn c.fn).spillPeer && p.accept && p.addr.isSome && s.fab.addr.isSome && keyOk c.k1 && keyOk c.k2 && c.member.isNone && !ctxOp &&
  !c.kern && c.op / 256 != 0x0F

/-- Dispatch sends a command to the peer with the given place in the list of peers (R410). -/
def State.spillTo (s : State) (cmd : Nat) (c : Cmd) (cls : Eng) (i : Nat) : State :=
  match s.fab.peers[i]? with
  | some p =>
    if c.phase = .ready ∧ s.spillable c p ∧ p.idle.contains cls.num then
      let s1 := (s.setCmd cmd { c with phase := .remote }).incF Reg.FAB_SPILL 15 0 1
      ({ s1 with fab := { s1.fab with spilled := mput s1.fab.spilled cmd p.id } }).sendMsg p.id (.work cmd cls.num)
    else s
  | none => s

/-- RUN_PLACE: runs of a leg are placed on the units named, the first one as the scheduler of its class has it (R33, R69, R192, R366). A
command whose class can never run it ends with DEVICE_FAULT, for the BNE with a class D fault (R254, R366; log entry 116). With no units
named, one that waits for masks while every expander of its class is at its limit ends with ENTROPY_FAULT (R277), and one that no other
unit could ever run has its own units self-tested (R366). A unit from 1000 on names a peer to which dispatch spills the command (R410). -/
def execRunPlace (cmd leg : Nat) (units : List Nat) (s : State) : Host.Outcome State Fault Refusal :=
  match mget s.cmds cmd with
  | none => .next s
  | some c =>
    match c.legs[leg]? with
    | none => .next s
    | some l =>
      if (c.phase = .ready ∨ c.phase = .running) ∧ l.decided = none ∧ (l.cls ≠ .chk ∨ s.chkTurn cmd c) then
        if s.noUnits c l then .next ((if l.cls = .bne then s.flt1 124 1 else s).complete cmd l.faultDone)
        else if units.isEmpty then .next (if s.maskless c l.cls then s.complete cmd (.late St.ENTROPY_FAULT) else s.retest cmd leg)
        else if 1000 ≤ units.headD 0 then .next (s.spillTo cmd c l.cls (units.headD 0 - 1000))
        else match s.placeAll cmd leg units with
          | some s1 => .next s1
          | none => .next s
      else .next s

/-! Ends of runs. -/

/-- One flipped bit of a result: of its output, its secret, or its verdict (R417). -/
def RunResult.flip (r : RunResult) (i : Nat) : RunResult :=
  let n := r.out.length
  let m := r.secret.length
  if i < 8 * n then { r with out := flipBit r.out i }
  else if i < 8 * (n + m) then { r with secret := flipBit r.secret (i - 8 * n) }
  else match r.verdict with
    | some v => { r with verdict := some (!v) }
    | none => { r with inline := flipBit (fixLen 16 r.inline) (i % 128) }

/-- The result of a leg of a command, the kernel's excepted. -/
def State.legResult (s : State) (c : Cmd) (leg : Nat) : Option RunResult :=
  if c.op / 256 = 0x0C then some (s.turnResult c)
  else if c.op / 256 = 0x0D then some c.chkRun
  else if c.op = 0x0F80 then some (opmResult c)
  else if c.op / 256 = 0x0F then s.keyRun c leg
  else s.algRun c leg

/-- The run's check of its own result (R253): of an operation of the big-number engine, or of the wrapping key's agreement. -/
def State.ownGood (s : State) (c : Cmd) (leg : Nat) (r : RunResult) : Bool :=
  if c.kern then true
  else if c.op / 256 < 0x12 ∧ c.op / 256 ≠ 0x0F then s.ownOk c leg r
  else if c.op = 0x0F20 ∨ c.op = 0x0F21 ∨ c.op = 0x0F31 then s.ownOk c.kemCmd leg r
  else true

/-- A run that reads beyond the entropy stream of its command (R31, R183): the trap ENT_LIMIT. -/
def entLimit : RunResult :=
  { RunResult.fails St.KERNEL_FAULT with inline := zeros 16, secret := zeros 10, trap := 0x07 }

/-- Results that a comparison of the runs finds equal: the first value shared by two of them. -/
def agreed : List RunResult → Option RunResult
  | [] => none
  | r :: t => if t.contains r then some r else agreed t

/-- Runs of a unit are counted (06, CL_RUNS; 08, HTE_RUNS; 09, BNE_RUNS). A kernel's are counted at its exit. -/
def State.countRun (s : State) (u : Nat) (kernel : Bool) : State :=
  if u < 96 then (if kernel then s else s.incF (Reg.CL_RUNS (clusterOf u)) 31 0 1)
  else if 108 ≤ u ∧ u < 124 then s.incF Reg.HTE_RUNS 31 0 1
  else if 124 ≤ u ∧ u < 132 then s.incF Reg.BNE_RUNS 31 0 1
  else s

/-- An outvoted unit goes to self-test, where it runs no command work: another command's run on it starts again elsewhere (R368). A unit
retired meanwhile stays so. -/
def State.outvote (s : State) (u : Nat) : State :=
  if (s.unit u).retired then s
  else
    let s1 := s.pullUnit u
    let x := s1.unit u
    (s1.setUnit u { x with service := false, selftest := true, kept := none, outvotes := x.outvotes ++ [s.now] }).isoCheck

/-- The trap that ended a command is recorded in the cluster of its run (06, CL_TRAP), of the lowest-numbered unit of those that agree
(DESIGN CHOICE, log entry 157). -/
def State.noteTrap (s : State) (c : Cmd) (l : Leg) (r : RunResult) : State :=
  if r.trap = 0 then s
  else
    let u := ((l.runs.filter (fun x => x.res == some r)).map (·.unit)).foldl Nat.min 95
    let cl := clusterOf u
    let w := r.trap * 2 ^ 24 + u % 8 * 2 ^ 21 + c.op
    let s1 := s.wr 0 (Reg.CL_TRAP cl) (BitVec.ofNat 32 w)
    if 0x10 ≤ r.trap then s1.incF (Reg.CL_TRAP_CNT cl) 31 16 1 else s1.incF (Reg.CL_TRAP_CNT cl) 15 0 1

/-- Every leg of a command has decided: the family's release (R34). -/
def State.finish (s : State) (id : Nat) : State :=
  match mget s.cmds id with
  | none => s
  | some c =>
    if c.legs.all (fun l => l.decided.isSome) then
      let rs := c.legs.filterMap (·.decided)
      let first := rs.headD (.ok [] [])
      if c.kern then s.kernelFinish id c first
      else if c.op / 256 = 0x0C then s.turnOver id c
      else if c.op / 256 = 0x0D then s.chkFinish id c first
      else if c.op = 0x0F80 then s.opmFinish id c first
      else if c.op / 256 = 0x0F then s.keyFinish id c rs
      else s.algFinish id c rs
    else s

/-- The vote over the finished runs of a leg (R35, R366, R367). -/
def State.vote (s : State) (id leg : Nat) : State :=
  match mget s.cmds id with
  | none => s
  | some c =>
    match c.legs[leg]? with
    | none => s
    | some l =>
      let res := l.runs.filterMap (·.res)
      let good := res.filter (·.own)
      if l.decided.isSome ∨ res.length < l.want then s
      else match (if l.want = 1 then good.head? else agreed good) with
        | some r =>
          let bad := (l.runs.filter (fun x => x.res != some r)).map (·.unit)
          let s1 := s.setCmd id { c with replayed := c.replayed || decide (2 < l.want), legs := c.legs.set leg { l with decided := some r } }
          ((bad.foldl State.outvote s1).noteTrap c l r).finish id
        | none =>
          if l.want = 2 then (s.setCmd id { c with legs := c.legs.set leg { l with want := 3 } }).retest id leg
          else if l.want = 3 then
            (s.setCmd id { c with legs := c.legs.set leg { l with want := 5, retest := [], passed := [] } }).retest id leg
          else ((l.runs.map (·.unit)).foldl State.outvote s).complete id l.faultDone

/-- Two channels have the same configuration, POLY, INIT and XOR registers included. -/
def State.sameChan (s : State) (n k : Nat) : Bool :=
  [Reg.CHK_CFG, Reg.CHK_POLY_LO, Reg.CHK_POLY_HI, Reg.CHK_INIT_LO, Reg.CHK_INIT_HI, Reg.CHK_XOR_LO, Reg.CHK_XOR_HI].all
    (fun f => s.rd 0 (f n) == s.rd 0 (f k))

/-- A lane mismatch on a check channel: the channel is self-tested and the run starts again on a spare; without one, on another enabled
channel of the same configuration or on the channel once it has passed (R243, R249). The fifth mismatch ends the command (R367). -/
def State.chkMismatch (s : State) (id leg u : Nat) (c : Cmd) : State :=
  let n := c.via.getD c.chan
  let s1 := ((s.pullRun id leg u).outvote u).fault u 0 false false true
  let s2 := s1.modCmd id (fun c => { c with legs := c.legs.modify leg (fun l => { l with used := l.used ++ [u] }) })
  let free := [228, 229].find? (fun v => !(s.dg.chkSpare.any (fun x => x.2 == v)) && (s.unit v).service && v != u)
  let same := (List.range 64).find? (fun k => k != n && s.rdB (Reg.CHK_CFG k) 31 && s.sameChan n k && (s.unit (s.chkUnit k)).service)
  if (c.legs.any (fun l => decide (4 ≤ l.used.length))) then
    s2.complete id (match c.legs[leg]? with | some l => l.faultDone | none => .late St.DEVICE_FAULT)
  else match free, same with
  | some v, _ => { s2 with dg := { s2.dg with chkSpare := mput s2.dg.chkSpare n v } }
  | none, some k => s2.modCmd id (fun c => { c with via := some k })
  | none, none => s2

/-- An armed corruption has struck (R417). -/
def State.corrupted (s : State) (u : Nat) : State :=
  ({ (s.setUnit u { s.unit u with corrupt := none }) with test := { s.test with pending := none } }.wrF Reg.SRD_INJ_STAT 31 27 8).incF
    Reg.SRD_INJ_STAT 15 0 1

/-- The run ends with a result, which goes to the comparator after its own check; an armed corruption flips a bit on the way (R33, R253,
R417). -/
def State.endRunWith (s : State) (cmd leg unit : Nat) (c : Cmd) (l : Leg) (r : RunResult) : State :=
  let x := s.unit unit
  let r1 := { r with own := s.ownGood c leg r }
  let r2 := match x.corrupt with | some i => r1.flip i | none => r1
  let s1 := (s.countRun unit c.kern).maskedRun c unit
  let s2 := if x.corrupt.isSome then s1.corrupted unit else s1
  let runs := l.runs.map (fun (y : Run) => if y.unit = unit ∧ y.res.isNone then { y with res := some r2 } else y)
  let s3 := s2.setCmd cmd { c with legs := c.legs.set leg { l with runs := runs } }
  (if c.kern then s3 else s3.freeUnit unit cmd).vote cmd leg

/-- RUN_FINISH: a run ends with its result, one bit of which a fault may have flipped (R33); not while its unit's expander has no masks for
it (R277, R280). One that needs more of the entropy stream asks
for it and goes on; at the stream's end it traps (R31, R183). On a check channel a wrong bit is a lane mismatch (R243). The comparator
looks once every run due has ended. -/
def execRunFinish (cmd leg unit : Nat) (flip : Option Nat) (s : State) : Host.Outcome State Fault Refusal :=
  match mget s.cmds cmd with
  | none => .next s
  | some c =>
    match c.legs[leg]? with
    | none => .next s
    | some l =>
      match l.runs.find? (fun r => r.unit == unit && r.res.isNone) with
      | none => .next s
      | some run =>
        if (c.kern ∧ run.kres = none) ∨ c.op / 256 = 0x0C ∨ (!c.kern ∧ !s.masksFor c unit) then .next s
        else if l.cls = .chk ∧ (flip.isSome ∨ (s.unit unit).corrupt.isSome) then
          .next ((if (s.unit unit).corrupt.isSome then s.corrupted unit else s).chkMismatch cmd leg unit c)
        else
          match (match run.kres with | some k => some k | none => s.legResult c leg) with
          | none =>
            if c.test ∨ 4096 ≤ c.stream then .next (s.endRunWith cmd leg unit c l entLimit) else .next (s.askChunk cmd c)
          | some r => .next (s.endRunWith cmd leg unit c l (match flip with | some i => r.flip i | none => r))

/-! Turns of the digest engine. -/

/-- DGE_TURN_END: a turn ends on a pipeline (R237). Where the two cores of the pipeline disagree, the block is repeated from the saved
chaining value on another pipeline, and this one goes to self-test; a bit that a fault flipped in the state is found by the comparison
with the second core, or with the second pipeline of keyed work (R227, R33, R35). -/
def execDgeTurnEnd (cmd : Nat) (turn : TurnEnd) (s : State) : Host.Outcome State Fault Refusal :=
  match mget s.cmds cmd with
  | none => .next s
  | some c =>
    match c.legs with
    | [] => .next s
    | l :: _ =>
      if c.op / 256 = 0x0C ∧ l.runs.any (fun r => r.unit == turn.pipe && r.res.isNone) then
        let pipe := turn.pipe
        let armed := (s.unit pipe).corrupt.isSome
        if turn.cores ∨ (l.want = 1 ∧ (turn.flip.isSome ∨ armed)) then
          .next ((((if armed then s.corrupted pipe else s).pullRun cmd 0 pipe).outvote pipe).fault pipe 0 false false true)
        else
          let r := s.turnResult c
          .next ((s.endRunWith cmd 0 pipe c l (match turn.flip with | some i => r.flip i | none => r)).settle)
      else .next s

end Sys2Proof.Machine
end

