-- ==== Sys2Proof/Machine/Batch.lean ====
section
/-!
DEFINITION. Batches and campaigns: their validation, the dispatch of members, and ABORT_BATCH (spec file 03, R105 to R108).
-/
namespace Sys2Proof.Machine
open Sys2Proof

/-- Bytes of a member record (R105, R106). -/
def recLen (campaign : Bool) : Nat := if campaign then 48 else 64

/-- An opcode lies in a range of the table of opcode ranges, 0xF0xx excluded (R94, R105). -/
def inRanges (op : Nat) : Bool := (0x0100 ≤ op && op ≤ 0x1FFF) || (0x8000 ≤ op && op ≤ 0x8FFF)

/-- The checks of a template beyond its CRC (R105). -/
def templateOk (t : List Byte) : Bool :=
  (leAt t 2 1).testBit 2 && inRanges (leAt t 0 2) && leAt t 16 32 == 0 && leAt t 56 4 == 0

/-- A command that names no key: bytes 12 to 15 are zero (R94), and the handle is not PUBLIC_IN_AUX (R20). -/
def Cmd.noKeys (c : Cmd) : Bool := c.h2 == 0 && c.h1 != PUBLIC_IN_AUX

/-- Validation of a batch or campaign (R105, R111; log entry 40 for the length of the auxiliary buffer): its record, and the command with its output mapped. A bad template CRC ends the command
with DESCRIPTOR_CRC (log entry 40). -/
def batchVal (c : Cmd) (h : HostRead) (campaign : Bool) : Except Done (Batch × Cmd) := do
  let n := c.inLen / recLen campaign
  let map := leAt c.desc 48 8
  need (c.inLen % recLen campaign == 0 && 1 ≤ n && n ≤ 2 ^ 20 && map % 8 == 0 && map < 2 ^ 63 && c.noKeys) St.BAD_FIELD
  let _ ← buffer c.inAddr c.inLen h.inList
  let _ ← buffer c.auxAddr c.auxLen h.auxList
  let o ← buffer c.outAddr c.cap h.outList
  if c.auxLen ≠ (if campaign then 64 else 0) then throw (lenFail c.auxLen)
  let t := fixLen c.auxLen h.aux
  if campaign && !crcOk t then throw (.fail St.DESCRIPTOR_CRC (natLE 2 c.slot ++ zeros 2 ++ natLE 4 (crc32c (t.take 60))))
  need (!campaign || templateOk t) St.BAD_FIELD
  if c.cap < 32 * n then throw (tooSmall (32 * n))
  let b : Batch :=
    { total := n, next := 0, done := [], campaign := campaign, template := t, bitmap := map, succ := 0, other := 0, rejected := 0,
      firstBad := none, aborted := false, tag := c.tag, chain := none, results := [] }
  pure (b, { c with outMap := o, phase := .batch })

/-- The tag that a member's results entry carries (R107). -/
def recTag (campaign : Bool) (r : List Byte) : Nat := if campaign then leAt r 40 2 else leAt r 4 2

/-! Members that are never dispatched. -/

/-- A member that is not dispatched gets a results entry with ABORTED (R108). -/
def State.cutMember (s : State) (bid reason : Nat) (x : Nat × Nat) : State := s.memberDone bid x.1 x.2 (.aborted reason) false 0

/-- Every member not yet dispatched gets its results entry; the tags come with them (R108). -/
def State.cutBatch (s : State) (bid : Nat) (b : Batch) (aborted : Bool) (reason : Nat) (tagOf : Nat → Nat) : State :=
  let s1 := { s with batches := mput s.batches bid { b with next := b.total, aborted := b.aborted || aborted } }
  ((List.range (b.total - b.next)).map (fun k => (b.next + k, tagOf k))).foldl (fun (x : State) m => x.cutMember bid reason m) s1

/-- A batch that ABORT_BATCH found before its validation carries this note (R108). -/
def abortMark : List Byte := [3]

/-- The start of a batch: every bitmap word is written as zero before the first member runs (R107). -/
def State.batchStart (s : State) (id : Nat) (c : Cmd) (h : HostRead) (campaign : Bool) : State :=
  match batchVal c h campaign with
  | .ok (b, c1) =>
    let s1 := ({ (s.setCmd id c1) with batches := mput s.batches id b }).memWrite c.fn b.bitmap (zeros (8 * ceilDiv b.total 64)) false
    let n := recLen campaign
    if c.note = abortMark then s1.cutBatch id b true 3 (fun k => recTag campaign (fixLen n (slice h.input (n * k) n))) else s1
  | .error d =>
    if d.status = St.DESCRIPTOR_CRC then (s.incF Reg.CMD_CRC_CNT 31 0 1).completeTag id 0xFFFF d else s.complete id d

/-- BATCH (R105). -/
def execBatch (cmd : Nat) (host : HostRead) (s : State) : Host.Outcome State Fault Refusal :=
  opRow cmd (fun c => c.op == 0xF001) (fun c => s.batchStart cmd c host false) s

/-- CAMPAIGN (R105). -/
def execCampaign (cmd : Nat) (host : HostRead) (s : State) : Host.Outcome State Fault Refusal :=
  opRow cmd (fun c => c.op == 0xF002) (fun c => s.batchStart cmd c host true) s

/-! Members. -/

/-- The descriptor of a campaign member (R106). -/
def campaignDesc (t r : List Byte) : List Byte :=
  let h := if (leAt r 42 1).testBit 0 then slice r 36 4 else slice t 8 4
  t.take 4 ++ slice r 40 2 ++ slice t 6 2 ++ h ++ slice t 12 4 ++ slice r 0 8 ++ slice r 24 8 ++ slice r 8 8 ++ slice r 16 8
    ++ slice t 48 8 ++ slice r 32 4 ++ slice t 60 4

/-- Reserved bits of a record are set (R106). -/
def recordBad (r : List Byte) : Bool := leAt r 42 1 / 2 != 0 || leAt r 43 5 != 0

/-- The next member is taken from its record: it holds an in-flight entry, and waits where its fence or its chain says so (R106). -/
def State.takeMember (s : State) (bid : Nat) (b : Batch) (c : Cmd) (rec : List Byte) : State :=
  let r := fixLen (recLen b.campaign) rec
  let desc := if b.campaign then campaignDesc b.template r else r
  let badC := !b.campaign && !crcOk desc
  let badR := b.campaign && recordBad r
  let i := b.next
  let id := s.nextCmd
  let flags := if badC then 0 else leAt desc 2 1
  let prev := b.chain.bind (fun j => (s.cmds.find? (fun x => x.2.member == some (bid, j))).map (·.1))
  let prevRes := b.chain.bind (fun j => (b.results.find? (fun x => x.1 == j)).map (fun x => x.2 == St.SUCCESS))
  let m := newCmd c.fn c.qp c.slot desc (some (bid, i)) (if prevRes.isSome then none else prev) prevRes (flags.testBit 0) badC s.now
  let m1 := if badR then { m with note := badRec } else m
  let s1 := { (s.chargeEntry c.fn) with batches := mput s.batches bid { b with next := i + 1, chain := if flags.testBit 4 then some i else none } }
  let s2 := s1.addCmd m1
  let s3 := if badC then s2.incF Reg.CMD_CRC_CNT 31 0 1 else s2
  if s3.isHeld id m1 then s3 else s3.start id

/-- BATCH_MEMBER_DISPATCH: members are dispatched in record order, each once an in-flight entry is free (R106). -/
def execBatchMemberDispatch (batch : Nat) (rec : List Byte) (s : State) : Host.Outcome State Fault Refusal :=
  match mget s.batches batch, mget s.cmds batch with
  | some b, some c =>
    if c.phase = .batch ∧ b.next < b.total ∧ s.qpOpen c.fn c.qp ∧ s.roomFor c.fn then .next (s.takeMember batch b c rec) else .next s
  | _, _ => .next s

/-- The read of the member records fails (03, table of batch edge behaviour). -/
def State.batchReadFail (s : State) (bid : Nat) (b : Batch) : State :=
  (s.cutBatch bid b false 1 (fun k => Config.unreadTag (s.free + k))).used (b.total - b.next)

/-- A descriptor of a batch or campaign of the same SQ that carries a tag. -/
def Cmd.batchLike (c y : Cmd) (tag : Nat) : Bool := y.fn == c.fn && y.qp == c.qp && y.tag == tag

/-- Batches of the same SQ that carry a tag and have no summary yet (R108). -/
def State.batchesOf (s : State) (c : Cmd) (tag : Nat) : List (Nat × Batch) :=
  s.batches.filter (fun x => match mget s.cmds x.1 with | some y => c.batchLike y tag && y.phase == .batch | none => false)

/-- Those that are fetched and not yet validated: held by a fence or a chain, or started (R108). -/
def State.batchesHeld (s : State) (c : Cmd) (tag : Nat) : List Nat :=
  (s.cmds.filter (fun x => c.batchLike x.2 tag && x.2.member.isNone && (x.2.op == 0xF001 || x.2.op == 0xF002) &&
    (x.2.phase == .held || x.2.phase == .started) && (x.2.note == [] || x.2.note == abortMark))).map (·.1)

/-- ABORT_BATCH (R108). The tags of members not yet dispatched stand in their records, given by batch in the command's host data. A batch
not yet validated has no results array yet: its members are cut once it is. -/
def State.abortBatch (s : State) (id : Nat) (c : Cmd) (h : HostRead) : State :=
  if c.flag 0 || c.flag 4 || leAt c.desc 50 6 != 0 || !c.noKeys then s.complete id (.err St.BAD_FIELD)
  else match c.buffers h (· == 0) (· == 0) 0 with
    | .error d => s.complete id d
    | .ok _ =>
      let l := s.batchesOf c (leAt c.desc 48 2)
      let w := s.batchesHeld c (leAt c.desc 48 2)
      if l.isEmpty && w.isEmpty then s.complete id (.err St.STATE)
      else
        let s1 := l.foldl (fun (x : State) b =>
          let recs := (mget h.blobs b.1).getD []
          let n := recLen b.2.campaign
          x.cutBatch b.1 b.2 true 3 (fun k => recTag b.2.campaign (fixLen n (slice recs (n * k) n)))) s
        (w.foldl (fun (x : State) b => x.modCmd b (fun y => { y with note := abortMark })) s1).complete id (.ok 0 (natLE 4 (l.length + w.length)))

/-- ABORT_BATCH (R108). -/
def execAbortBatch (cmd : Nat) (host : HostRead) (s : State) : Host.Outcome State Fault Refusal :=
  opRow cmd (fun c => c.op == 0xF010) (fun c => s.abortBatch cmd c host) s

end Sys2Proof.Machine
end

