-- ==== Sys2Proof/Machine/MbxCore.lean ====
section
/-!
DEFINITION. What a mailbox request is and how it ends (spec file 04, R113 to R121), and the card command among the requests (16, R373 to
R383): both end where the noise random generator has nothing to give.
-/
namespace Sys2Proof.Machine
open Sys2Proof

/-! Channels. -/

/-- Offset of a channel's registers in its function's BAR0 (R113). -/
def mbxBase (fn ch : Nat) : Nat := if fn = 0 then 0x80000 + ch * 0x1000 else 0x8000

/-- The channel exists: four on PF0, one on a VF (R113). -/
def mbxChan (fn ch : Nat) : Bool := decide (ch < (if fn = 0 then 4 else 1))

def mbxKey (fn ch : Nat) : Nat := fn * 4 + ch

def State.mrd (s : State) (fn ch off : Nat) : Word := s.rd fn (mbxBase fn ch + off)
def State.mwr (s : State) (fn ch off : Nat) (v : Word) : State := s.wr fn (mbxBase fn ch + off) v

/-- MBX_STAT, its bits by number: 0 READY, 1 BUSY, 2 DONE, 3 EARLY, 4 OVERRUN, 5 FAILOVER, 6 HOLD. -/
def State.mstat (s : State) (fn ch i : Nat) : Bool := bitAt (s.mrd fn ch 0x00C) i
def State.setMstat (s : State) (fn ch i : Nat) (b : Bool) : State := s.mwr fn ch 0x00C (setBit (s.mrd fn ch 0x00C) i b)

/-- The management firmware, or Kindling on PF0's channel 0, serves the channel, in HOLD PF0's only (R113, R300, R304, R353). -/
def State.served (s : State) (fn ch : Nat) : Bool :=
  mbxChan fn ch && s.fnActive fn && (!s.boot.hold || fn == 0) &&
    (if s.boot.stage = .ready then s.lcc != Lc.LOCKED_INVALID || (fn == 0 && ch == 0)
     else s.boot.stage == .kindlingMbx && fn == 0 && ch == 0)

/-! The command set (R121). -/

/-- A row of the table of management commands. -/
structure MbxCode where
  code : Nat
  vf   : Bool     -- a VF may use it
  hold : Bool     -- accepted in HOLD
  excl : Bool     -- exclusive
  canc : Bool     -- cancellable
deriving DecidableEq, Repr

def mbxCodes : List MbxCode :=
  [⟨0x0100, true, true, false, false⟩, ⟨0x0101, false, true, false, false⟩, ⟨0x0102, false, true, true, false⟩,
   ⟨0x0103, true, true, false, false⟩, ⟨0x0200, true, false, false, false⟩, ⟨0x0201, false, false, false, false⟩,
   ⟨0x0300, true, false, false, false⟩, ⟨0x0301, true, false, false, false⟩, ⟨0x0302, false, false, false, false⟩,
   ⟨0x0400, false, false, false, false⟩, ⟨0x0401, false, false, false, false⟩, ⟨0x0402, false, false, false, false⟩,
   ⟨0x0403, true, false, false, false⟩, ⟨0x0500, true, true, false, false⟩, ⟨0x0501, true, true, false, false⟩,
   ⟨0x0502, true, true, false, false⟩, ⟨0x0600, false, true, true, false⟩, ⟨0x0601, false, true, false, false⟩,
   ⟨0x0602, false, true, false, false⟩, ⟨0x0700, false, false, true, false⟩, ⟨0x0701, false, false, true, false⟩,
   ⟨0x0702, false, true, false, false⟩, ⟨0x0800, false, false, false, false⟩, ⟨0x0801, false, false, false, false⟩,
   ⟨0x0802, false, false, false, true⟩, ⟨0x0900, false, false, false, true⟩, ⟨0x0901, false, false, false, false⟩,
   ⟨0x0902, false, false, false, true⟩, ⟨0x0903, false, true, false, true⟩, ⟨0x0A00, false, true, true, true⟩,
   ⟨0x0A01, false, true, true, false⟩, ⟨0x0A02, false, true, true, false⟩, ⟨0x0A03, false, false, true, false⟩,
   ⟨0x0A04, false, false, true, false⟩, ⟨0x0A05, false, true, false, false⟩]

def mbxCode (code : Nat) : Option MbxCode := mbxCodes.find? (fun c => c.code == code)

def isExcl (code : Nat) : Bool := match mbxCode code with | some c => c.excl | none => false

/-- KINDLING_LOAD (R300). -/
def kindlingLoad : Nat := 0x0A10

/-! Requests. -/

def MbxReq.word (r : MbxReq) (i : Nat) : Nat := (r.words.getD i 0).toNat
def MbxReq.code (r : MbxReq) : Nat := r.word 0 % 65536
def MbxReq.seq (r : MbxReq) : Nat := r.word 0 / 65536
def MbxReq.ext (r : MbxReq) : Bool := (r.word 1).testBit 16
def MbxReq.rext (r : MbxReq) : Bool := (r.word 1).testBit 17
/-- The inline payload. -/
def MbxReq.inl (r : MbxReq) : List Byte := ((r.words.drop 2).flatMap (fun w => natLE 4 w.toNat)).take (r.word 1 % 256)
/-- The payload: the request buffer with EXT set, else the inline bytes (R115). -/
def MbxReq.payload (r : MbxReq) (buf : List Byte) : List Byte := if r.ext then fixLen r.reqLen buf else r.inl

/-- What the channel's registers hold at GO (R118). -/
def State.mbxCopy (s : State) (fn ch : Nat) : MbxReq :=
  let q := fun (o : Nat) => (s.mrd fn ch o).toNat
  { words := (List.range 16).map (fun i => s.mrd fn ch (0x100 + 4 * i))
    reqAddr := q 0x018 * 2 ^ 32 + q 0x014
    reqLen := q 0x024 % 2 ^ 25
    respAddr := q 0x020 * 2 ^ 32 + q 0x01C
    respCap := q 0x028 % 2 ^ 25
    started := false
    commit := false
    noBuf := false
    rand := [] }

/-! Responses. -/

/-- A response: status, inline payload, bytes for the response buffer, word 2 where nothing is written there, and whether the command
passed its commit point (R119). -/
structure Reply where
  status : Nat
  inline : List Byte
  buf    : List Byte
  word2  : Nat
  commit : Bool
deriving DecidableEq, Repr

def Reply.err (status : Nat) : Reply := ⟨status, [], [], 0, false⟩
def Reply.ok (inline : List Byte) : Reply := ⟨St.SUCCESS, inline, [], 0, false⟩
/-- SUCCESS of a command that passed its commit point. -/
def Reply.okC (inline : List Byte) : Reply := ⟨St.SUCCESS, inline, [], 0, true⟩
/-- Data of a command: inline where it fits, else in the response buffer (R118). -/
def Reply.data (l : List Byte) : Reply := if l.length ≤ 52 then .ok l else ⟨St.SUCCESS, [], l, 0, false⟩
/-- ABORTED with its reason in word 3. -/
def Reply.aborted (reason : Nat) : Reply := ⟨St.ABORTED, natLE 4 reason, [], 0, false⟩

/-- Mailbox-only status codes (R116). -/
def AUTH_FAILED : Nat := 0x80
def ROLLBACK : Nat := 0x81

/-- The response buffer takes the response (R118). -/
def Reply.fits (p : Reply) (r : MbxReq) : Bool := p.buf.isEmpty || (r.rext && decide (p.buf.length ≤ r.respCap))

/-- The outcome record of a command (R120). -/
def State.outcome (s : State) (fn code : Nat) (o : Outcome) : State := { s with outcomes := mput s.outcomes (fn * 65536 + code) o }

/-- The 16 response words (R115); a response buffer that could not be written leaves EXT_USED 0 (R118). -/
def Reply.wordsOf (p : Reply) (r : MbxReq) : List Word :=
  let used := !p.buf.isEmpty && !r.noBuf
  let w1 := p.status + p.inline.length * 256 + b2n used * 65536
  let w2 := if used then p.buf.length else p.word2
  let t := fixLen 52 p.inline
  [BitVec.ofNat 32 (r.code + 65536 * r.seq), BitVec.ofNat 32 w1, BitVec.ofNat 32 w2] ++
    (List.range 13).map (fun i => BitVec.ofNat 32 (leAt t (4 * i) 4))

/-- The response reaches its channel: the buffer first, then the words, BUSY and DONE as one step, then the message (R118). -/
def State.deliver (s : State) (fn ch : Nat) (r : MbxReq) (p : Reply) : State :=
  let s1 := if r.noBuf then s else s.memWrite fn r.respAddr p.buf false
  let ws := p.wordsOf r
  let s2 := (List.range 16).foldl (fun (x : State) i => x.mwr fn ch (0x200 + 4 * i) (ws.getD i 0)) s1
  let s3 := ((s2.setMstat fn ch 1 false).setMstat fn ch 2 true).setMstat fn ch 3 false
  let c := s3.mrd fn ch 0x004
  let s4 := if bitAt c 6 && decide (fld c 5 0 < s3.vecs fn) then s3.msix fn (fld c 5 0) else s3
  { s4 with mbx := mdel s4.mbx (mbxKey fn ch) }

/-- A request ends: its outcome is recorded where it is the last of its code to have passed its commit point, and the response is delivered
unless its function was reset meanwhile (R119, R120). -/
def State.mbxEnd (s : State) (key : Nat) (p : Reply) : State :=
  match mget s.mbx key with
  | none => s
  | some r =>
    let k := key % 65536
    let fn := k / 4
    let ch := k % 4
    let s0 := s.dropWho (.mailbox key)
    let last := match mget s.outcomes (fn * 65536 + r.code) with | some o => o.owner == some key | none => false
    let s1 := if (r.commit && last) || (p.commit && !r.commit) then
        s0.outcome fn r.code ⟨r.seq, 2, p.status, p.inline.take 40, p.buf.length, none⟩
      else s0
    if key < 65536 then s1.deliver fn ch r p else { s1 with mbx := mdel s1.mbx key }

/-- A request passes its commit point while it runs on (R119, R120). -/
def State.mbxCommit (s : State) (key : Nat) : State :=
  match mget s.mbx key with
  | none => s
  | some r => { s.outcome (key % 65536 / 4) r.code ⟨r.seq, 1, 0, [], 0, some key⟩ with mbx := mput s.mbx key { r with commit := true } }

/-- A request that turns out not to be processed has passed no commit point (R118, R120). -/
def State.unCommit (s : State) (key : Nat) : State :=
  { s with
    mbx := mmod s.mbx key (fun r => { r with commit := false })
    outcomes := s.outcomes.filter (fun (o : Nat × Outcome) => o.2.owner != some key) }

/-! Card ports. -/

namespace Sc
def EMPTY : Nat := 0
def ACTIVATING : Nat := 1
def READY : Nat := 2
def BUSY : Nat := 3
def ERROR : Nat := 4
def REMOVED : Nat := 5
def FAULT : Nat := 6
def REJECTED : Nat := 7
end Sc

namespace Mc
def EMPTY : Nat := 0
def READY : Nat := 2
def BUSY : Nat := 3
def SLEEP : Nat := 4
def REMOVED : Nat := 5
def FAULT : Nat := 6
def LOCKED : Nat := 7
def REJECTED : Nat := 8
end Mc

/-- A port on which nothing is under way. -/
def ScPort.idle : ScPort where
  step := .none
  out := []
  retries := 0
  resp := []
  ident := []
  challenge := []
  seed := []
  share := 0
  pps := none
  noPps := false
  drawing := false
  mode := .default
  nr := 0
  ins := 0

/-- An APDU to the card is outstanding. -/
def ScPort.asked (x : ScPort) : Bool := x.step != .none && !x.drawing

def State.scPort (s : State) (p : Nat) : ScPort := (mget s.cards.ports p).getD .idle
def State.setSc (s : State) (p : Nat) (x : ScPort) : State := { s with cards := { s.cards with ports := mput s.cards.ports p x } }
/-- State of a port: 0 and 1 are the device's own, those from 2 on stand for cards in peers' ports (R411) and have no register. -/
def State.scState (s : State) (p : Nat) : Nat :=
  if p < 2 then s.rdF (Reg.CRD_SC_STAT p) 31 28
  else match mget s.cards.ports p with
    | some x => if x.step = .none then Sc.READY else Sc.BUSY
    | none => Sc.EMPTY
def State.scField (s : State) (p hi lo v : Nat) : State := if p < 2 then s.wrF (Reg.CRD_SC_STAT p) hi lo v else s
def State.setScState (s : State) (p v : Nat) : State := s.scField p 31 28 v
/-- A failed step is counted (R379). -/
def State.countReject (s : State) (p : Nat) : State := if p < 2 then s.incF (Reg.CRD_SC_STAT p) 15 8 1 else s
/-- Every port with a card that a session may use. -/
def State.cardPorts (s : State) : List Nat := [0, 1] ++ s.fab.remote.map (·.1)
def State.mcState (s : State) : Nat := s.rdF Reg.CRD_MC_STAT 31 28
def State.setMcState (s : State) (v : Nat) : State := s.wrF Reg.CRD_MC_STAT 31 28 v

/-- MC0_VDD is on: a card has been found and neither removed nor switched off for a fault (R384, R390). -/
def State.mc0On (s : State) : Bool := ! [Mc.EMPTY, Mc.REMOVED, Mc.FAULT].contains s.mcState

/-! Commands that wait for cards. -/

/-- The request of the card command that runs: its key. -/
def State.cardCmd (s : State) : Option (Nat × MbxReq) :=
  s.mbx.find? (fun x => x.2.started && [0x0900, 0x0902, 0x0903].contains x.2.code)

/-- All steps with cards end; the cards stay in their ports. -/
def State.endSteps (s : State) : State :=
  s.cardPorts.foldl (fun (x : State) p =>
    let y := if (x.scPort p).step = .relay then x else { x with cards := { x.cards with ports := mmod x.cards.ports p (fun q =>
      { q with step := .none, out := [], resp := [], ident := [], challenge := [], seed := [], share := 0, drawing := false }) } }
    let z := y.dropWho (.card p)
    if z.scState p = Sc.BUSY ∧ (z.scPort p).step ≠ .relay then z.setScState p Sc.READY else z) s

/-- The card command ends with a status: a session in the making goes with it, and the ceremony's key and shares are zeroised. -/
def State.endCardCmd (s : State) (p : Reply) : State :=
  let q := match s.cards.quorum with
    | some q => if q.inForce then some q else none
    | none => none
  let s1 := { s with cards := { s.cards with quorum := q, ceremony := none } }.endSteps
  match s.cardCmd with
  | some r => s1.mbxEnd r.1 p
  | none => s1

/-- ERASE ends a restore that runs: it completes with STATE (R333). -/
def State.endRestores (s : State) : State :=
  let s1 := match s.cardCmd with | some r => if r.2.code = 0x0903 then s.endCardCmd (.err St.STATE) else s | none => s
  match s1.fab.restore with
  | some r => { s1 with fab := { s1.fab with restore := none } }.mbxEnd r.chan (.err St.STATE)
  | none => s1

/-- A removal or card error with an APDU outstanding: the session is cancelled, and the waiting command ends (R383). -/
def State.cancelSession (s : State) : State :=
  { s with cards := { s.cards with quorum := none } }.endCardCmd (.err St.CARD_REMOVED)

end Sys2Proof.Machine
end

