-- ==== Sys2Proof/Machine/Nrg.lean ====
section
/-!
DEFINITION. The noise random generator (spec file 10, R267 to R280): health tests by window, blocks and pools, start-up and faults, the
order of grants, expanders, raw capture.
-/
namespace Sys2Proof.Machine
open Sys2Proof

/-! Groups. -/

/-- NRG_STAT.STATE: 0 STARTUP, 1 RUN, 2 FAULT, 3 OFF. -/
def State.nrgSt (s : State) : Nat := s.rdF Reg.NRG_STAT 1 0

namespace Grp
def IN_SERVICE : Nat := 0
def ISOLATED : Nat := 1
def RETIRED : Nat := 2
def RAW : Nat := 3
end Grp

/-- NRG_GRPn.STATE. -/
def State.grpSt (s : State) (g : Nat) : Nat := s.rdF (Reg.NRG_GRP g) 31 30

/-- A group in service: started, and neither isolated, retired nor captured. -/
def State.grpUp (s : State) (g : Nat) : Bool := s.nrgSt != 3 && s.grpSt g == Grp.IN_SERVICE && (mget s.nrg.retries g).isNone

def State.grpsUp (s : State) : List Nat := (List.range 16).filter s.grpUp

/-! Cells: trim codes and tests (R267, R272). -/

/-- A sample of a cell: sample i is bit i mod 8 of byte ⌊i / 8⌋. -/
def sampleAt (l : List Byte) (i : Nat) : Bool := (l.getD (i / 8) 0).getLsbD (i % 8)

/-- Samples as bytes hold them. -/
def samplesOf (l : List Byte) : List Bool := l.flatMap (fun b => (List.range 8).map b.getLsbD)

/-- The longest run of identical samples. -/
def longestRun (l : List Bool) : Nat :=
  (l.foldl (fun (a : Bool × Nat × Nat) b =>
    let n := if b = a.1 then a.2.1 + 1 else 1
    (b, n, Nat.max a.2.2 n)) (false, 0, 0)).2.2

/-- How often the value of the first sample occurs. -/
def firstCount : List Bool → Nat
  | [] => 0
  | b :: t => 1 + t.count b

/-- Sample pairs in which two cells agree. -/
def agreeing (a b : List Bool) : Nat := (List.zipWith (fun x y => x == y) a b).count true

/-- One step of a trim code after 256 samples, between the end stops (R267). Which way a count of ones moves it is left open (log entry
138). -/
def fbStep (fb : Nat) (l : List Bool) : Nat := if Config.trimUp (l.count true) then Nat.min 63 (fb + 1) else fb - 1

/-- The trim codes in force over n stretches of 256 samples, and the code after them. -/
def fbWalk : Nat → Nat → List Bool → List Nat
  | 0, fb, _ => [fb]
  | n + 1, fb, l => fb :: fbWalk n (fbStep fb (l.take 256)) (l.drop 256)

/-- A trim code that stays at an end stop. -/
def pinned (l : List Nat) : Bool := l.all (· == 0) || l.all (· == 63)

/-- A cell's trim code, by group × 32 + cell. -/
def State.fbOf (s : State) (x : Nat) : Nat := (mget s.nrg.fb x).getD 32

def State.setFb (s : State) (x v : Nat) : State :=
  { s with nrg := { s.nrg with fb := if v = 32 then mdel s.nrg.fb x else mput s.nrg.fb x v } }

/-- The tests that a group's cells fail in a window, as test and cell, in the order of the table: samples of cells come by group × 32 +
cell, and a cell of which none come passes (R272; log entry 138). -/
def State.windowTests (s : State) (obs : List (Nat × List Byte)) (g : Nat) : List (Nat × Nat) :=
  let of := fun (c : Nat) => (mget obs (32 * g + c)).map samplesOf
  let each := fun (test : Nat) (f : Nat → List Bool → Bool) => (List.range 32).filterMap (fun c => match of c with
    | some l => if f c l then some (test, c) else none
    | none => none)
  each 1 (fun _ l => decide (68 ≤ longestRun l)) ++ each 2 (fun _ l => decide (781 ≤ firstCount l)) ++
    each 3 (fun c l => pinned ((fbWalk 4 (s.fbOf (32 * g + c)) l).take 4)) ++
    (List.range 32).filterMap (fun c => match of c, of ((c + 1) % 32) with
      | some a, some b => if agreeing a b < 400 ∨ 624 < agreeing a b then some (4, Nat.min c ((c + 1) % 32)) else none
      | _, _ => none)

/-- A group's failing window in its register (NRG_GRPn): the count, the last failed test and its cell. -/
def State.grpFail (s : State) (g : Nat) (f : Nat × Nat) : State :=
  ((s.incF (Reg.NRG_GRP g) 27 16 1).wrF (Reg.NRG_GRP g) 10 8 f.1).wrF (Reg.NRG_GRP g) 4 0 f.2

/-- The trim codes after a window (R267). -/
def State.trimWindow (s : State) (obs : List (Nat × List Byte)) : State :=
  obs.foldl (fun (x : State) o => x.setFb o.1 ((fbWalk 4 (x.fbOf o.1) (samplesOf o.2)).getLastD 32)) s

/-- A raw capture of the group is under way (R279). -/
def State.captured (s : State) (g : Nat) : Bool :=
  s.cmds.any (fun c => c.2.op == 0x0E20 && c.2.phase == .running && c.2.par == g)

/-! Requests that end without a grant. -/

/-- The commands that a request serves: a spill's are those that have waited for a slot since it was queued. -/
def State.servedBy (s : State) (r : NrgReq) : List Nat :=
  match r.who with
  | .cmd id => [id]
  | .chunk id => [id]
  | .spillNonce _ => (s.cmds.filter (fun c => c.2.phase == .waitSlot && decide (c.2.since ≤ r.since))).map (·.1)
  | _ => []

/-- What else ends with a status where a request ends: the management or card command that draws. A handshake goes no further (log entry
139). Expanders and draws of the management keep waiting (log entry 41). -/
def State.nrgRefuse (s : State) (st : Nat) (r : NrgReq) : State :=
  match r.who with
  | .mailbox key => s.mbxEnd key (.err st)
  | .card _ => s.endCardCmd (.err st)
  | .port k => s.setWport k { s.wport k with sh := (s.wport k).sh.stop }
  | .peer id => s.modPeer id (fun p => { p with sh := p.sh.stop })
  | _ => s

/-- Requests end with a status, out of the queue already: commands in the order in which they were fetched (R102). -/
def State.refuseAll (s : State) (st : Nat) (q : List NrgReq) : State :=
  let ids := ((q.flatMap s.servedBy).eraseDups).mergeSort (fun (a b : Nat) => decide (a ≤ b))
  q.foldl (fun (x : State) r => x.nrgRefuse st r) (ids.foldl (fun (x : State) id => x.complete id (.late st)) s)

/-! FAULT. -/

/-- The NRG enters FAULT (R274): pools are zeroised, waiting requests end, and the condition behind source 246 persists. -/
def State.nrgFail (s : State) : State :=
  let keep := fun (r : NrgReq) => match r.who with | .management _ => true | _ => false
  let q := s.nrg.queue
  let s1 := { (s.wrF Reg.NRG_STAT 1 0 2) with nrg := { s.nrg with ready := [], pend := [], queue := q.filter keep, retries := [] } }
  s1.refuseAll St.ENTROPY_FAULT (q.filter (fun r => !keep r))

/-- FAULT with its class F event. -/
def State.nrgFault (s : State) : State := if s.nrgSt = 2 then s else s.nrgFail.fault 246 clsF true false false

/-- The conditioner's lanes disagree with no spare left (R274): both events are recorded, and the reset that F_RESET asks for comes with the
second. -/
def State.lanesLost (s : State) : State :=
  let f := s.rdB Reg.FLT_CTRL 7
  (((s.wrB Reg.FLT_CTRL 7 false).flt1 247 clsF).wrB Reg.FLT_CTRL 7 f).nrgFault

/-- Fewer than four groups in service (R270). -/
def State.nrgLow (s : State) : Bool := s.nrgSt != 3 && decide (s.grpsUp.length < 4)

/-- After a change of the groups, once start-up tests are over: no group in service is FAULT; the event of LOW persists while it lasts
(R270, R274). -/
def State.nrgRecheck (s : State) : State :=
  if s.nrgSt = 1 ∨ (s.nrgSt = 0 ∧ s.nrg.retries.isEmpty) then
    if s.grpsUp.isEmpty then s.nrgFault
    else if s.nrgLow ∧ !(s.fltSrc 246).active then s.fault 246 1 true false false
    else if !s.nrgLow ∧ (s.fltSrc 246).active then s.fltActive 246 false
    else s
  else s

/-! Pools. -/

/-- Blocks in the ready pool, those reserved for chunks among them: 512 fill it. -/
def State.readyBlocks (s : State) : Nat := s.cmds.foldl (fun n c => n + c.2.chunk.length) s.nrg.ready.length

/-- Blocks whose windows have all passed move on while there is room (R269). -/
def moveBlocks : Nat → List (List Nat × List Byte) → List (List Byte) × List (List Nat × List Byte)
  | _, [] => ([], [])
  | room, b :: t =>
    if b.1.isEmpty ∧ 0 < room then let r := moveBlocks (room - 1) t; (b.2 :: r.1, r.2)
    else let r := moveBlocks room t; (r.1, b :: r.2)

/-- The ready pool is filled, in LOW with nothing; its first blocks make the state RUN (R270, R273). -/
def State.fillReady (s : State) : State :=
  if s.nrgSt < 2 ∧ !s.nrgLow then
    let r := moveBlocks (512 - s.readyBlocks) s.nrg.pend
    let s1 := { s with nrg := { s.nrg with ready := s.nrg.ready ++ r.1, pend := r.2 } }
    if s.nrgSt = 0 ∧ !r.1.isEmpty then s1.wrF Reg.NRG_STAT 1 0 1 else s1
  else s

/-- The cells of groups in the order in which the conditioner takes from them (log entry 138). -/
def turnOrder (up : List Nat) : List Nat := up.flatMap (fun g => (List.range 32).map (fun c => 32 * g + c))

/-- The 72 bytes of a block's 576 samples: sample i is the next of cell i of the order, which is gone round (R268; log entry 138). -/
def blockSamples (cells : List (Nat × List Byte)) (order : List Nat) : List Byte :=
  let n := order.length
  let bit := fun (i : Nat) => sampleAt ((mget cells (order.getD (i % n) 0)).getD []) (i / n)
  (List.range 72).map (fun j => BitVec.ofNat 8 ((List.range 8).foldl (fun v k => v + b2n (bit (8 * j + k)) * 2 ^ k) 0))

/-- NRG_BLOCK: two lanes compute a block from the cells of the groups in service (R268, R269). A mismatch discards it and takes the failing
lane out; without a spare lane it is FAULT. The first blocks of a start-up are discarded (R273). -/
def execNrgBlock (take : NrgTake) (s : State) : Host.Outcome State Fault Refusal :=
  let up := s.grpsUp
  if s.nrgSt < 2 ∧ !up.isEmpty then
    if take.agree then
      if 0 < s.nrg.discard then .next { s with nrg := { s.nrg with discard := s.nrg.discard - 1 } }
      else if s.nrg.pend.length < 1024 then
        .next { s with nrg := { s.nrg with pend := s.nrg.pend ++ [(up, sha3_256 (blockSamples take.cells (turnOrder up)))] } }
      else .next s
    else if s.nrg.lanes = 3 then .next ({ s with nrg := { s.nrg with lanes := 2 } }.fault 247 0 false false true)
    else .next s.lanesLost
  else .next s

/-! Windows. -/

/-- The blocks with samples of a group that did not pass their window are discarded (R274). -/
def State.dropBlocks (s : State) (g : Nat) : State :=
  { s with nrg := { s.nrg with pend := s.nrg.pend.filter (fun b => !b.1.contains g) } }

/-- A group in service leaves it ISOLATED (R274). -/
def State.isolate (s : State) (g : Nat) : State :=
  ((s.dropBlocks g).wrF (Reg.NRG_GRP g) 31 30 Grp.ISOLATED).wrF (Reg.NRG_GRP g) 29 28 0

/-- A failing window of a group by its state: in service it is ISOLATED; ISOLATED it counts towards RETIRED; one whose rerun ends with this
window tests anew. During start-up tests and a capture the windows count there (R274, R279). -/
def State.windowFail (s : State) (g : Nat) (f : Nat × Nat) : State :=
  let st := s.grpSt g
  if st = Grp.RETIRED ∨ (mget s.nrg.retries g).isSome ∨ s.captured g then s
  else
    let s1 := s.grpFail g f
    if st = Grp.ISOLATED then
      let n := s1.rdF (Reg.NRG_GRP g) 29 28 + 1
      let s2 := { (s1.wrF (Reg.NRG_GRP g) 29 28 n) with nrg := { s1.nrg with passes := mdel s1.nrg.passes g } }
      if n < 3 then s2 else ((s2.wrF (Reg.NRG_GRP g) 31 30 Grp.RETIRED).flt1 (230 + g) 1).fltEnd (230 + g)
    else if st = Grp.RAW then { s1 with nrg := { s1.nrg with retries := mput s1.nrg.retries g 0 } }
    else (s1.isolate g).fault (230 + g) 0 false false true

/-- A passing window of an ISOLATED group, or of one whose rerun it ends (R274, R279). -/
def State.windowPass (s : State) (g : Nat) : State :=
  if s.grpSt g = Grp.ISOLATED then
    let n := (mget s.nrg.passes g).getD 0 + 1
    let s1 := s.wrF (Reg.NRG_GRP g) 29 28 0
    if n < 4 then { s1 with nrg := { s1.nrg with passes := mput s1.nrg.passes g n } }
    else { ((s1.wrF (Reg.NRG_GRP g) 31 30 Grp.IN_SERVICE).fltEnd (230 + g)) with nrg := { s1.nrg with passes := mdel s1.nrg.passes g } }
  else if s.grpSt g = Grp.RAW ∧ (mget s.nrg.retries g).isNone ∧ !s.captured g ∧ s.nrg.discard = 0 then
    s.wrF (Reg.NRG_GRP g) 31 30 Grp.IN_SERVICE
  else s

/-- NRG_WINDOW_END: a window period ends for every group, with the samples of its cells (R269, R272, R274). -/
def execNrgWindowEnd (obs : List (Nat × List Byte)) (s : State) : Host.Outcome State Fault Refusal :=
  if s.nrgSt < 2 then
    let up := s.grpsUp
    let fails := ((List.range 16).filter (fun g => !s.captured g)).map (fun g => (g, s.windowTests obs g))
    let bad := fails.filterMap (fun x => x.2.getLast?.map (fun f => (x.1, f)))
    let lost := up.filter (fun g => bad.any (fun f => f.1 == g))
    let s1 := (bad.foldl (fun (x : State) f => (x.dropBlocks f.1).windowFail f.1 f.2) s).trimWindow obs
    let s2 := ((List.range 16).filter (fun g => !bad.any (fun f => f.1 == g))).foldl State.windowPass s1
    let pass := fun (b : List Nat × List Byte) => (b.1.filter s.captured, b.2)
    let s3 := { s2 with nrg := { s2.nrg with pend := s2.nrg.pend.map pass } }
    let n := if lost.isEmpty then 0 else s.rdF Reg.NRG_STAT 15 14 + 1
    if 3 ≤ n then .next s3.nrgFault
    else .next ((s3.wrF Reg.NRG_STAT 15 14 n).fillReady.nrgRecheck)
  else .next s

/-! Start-up. -/

/-- A seed is asked for an expander, once (R271). -/
def State.askSeed (s : State) (e cls : Nat) : State :=
  if s.nrg.queue.any (fun r => r.who == .expander e) then s else s.nrgAsk cls e (.expander e) 32

def State.maskCount (s : State) (e : Nat) : Nat := s.rdF (maskReg e) 20 0

/-- Expanders without a seed, and those past their interval, ask (R273, R277). -/
def State.askSeeds (s : State) : State :=
  expanders.foldl (fun (x : State) e =>
    if !x.nrg.seeded.contains e || decide (2 ^ 16 ≤ x.maskCount e) then x.askSeed e 1
    else if 2 ^ 12 ≤ x.maskCount e then x.askSeed e 3
    else x) s

/-- Start-up of every group that is neither RETIRED nor captured (R273, R275). -/
def State.nrgStart (s : State) : State :=
  let gs := (List.range 16).filter (fun g => s.grpSt g != Grp.RETIRED && !s.captured g)
  let s1 := gs.foldl (fun (x : State) g => ((x.wrF (Reg.NRG_GRP g) 31 30 Grp.IN_SERVICE).wrF (Reg.NRG_GRP g) 29 28 0).fltEnd (230 + g)) s
  let s2 := ((s1.wrF Reg.NRG_STAT 1 0 0).wrF Reg.NRG_STAT 15 14 0).fltActive 246 false
  { s2 with nrg := { s2.nrg with ready := [], pend := [], discard := 16, passes := [], retries := gs.map (fun g => (g, 0)) } }.askSeeds

/-- NRG_STARTUP_DONE: the bias loops of a group have settled at the codes given, and its start-up tests end, over the samples given. It
enters service, is retried up to three times, or is RETIRED; after a raw capture it still waits for its first window (R273, R279). -/
def execNrgStartupDone (g : Nat) (fb : List (Nat × Nat)) (obs : List (Nat × List Byte)) (s : State) : Host.Outcome State Fault Refusal :=
  match mget s.nrg.retries g with
  | none => .next s
  | some n =>
    if 2 ≤ s.nrgSt then .next s
    else
      let s0 := (fb.filter (fun x => x.1 / 32 == g)).foldl (fun (x : State) c => x.setFb c.1 (c.2 % 64)) s
      let out := mdel s.nrg.retries g
      match (s0.windowTests obs g).getLast? with
      | none =>
        if s.grpSt g = Grp.RAW then .next { s0 with nrg := { s0.nrg with retries := out, discard := 16 } }
        else .next { (s0.wrF (Reg.NRG_GRP g) 31 30 Grp.IN_SERVICE) with nrg := { s0.nrg with retries := out } }.nrgRecheck
      | some f =>
        let s1 := s0.grpFail g (5, f.2)
        if n < 3 then .next { s1 with nrg := { s1.nrg with retries := mput s1.nrg.retries g (n + 1) } }
        else
          let s2 := { (s1.wrF (Reg.NRG_GRP g) 31 30 Grp.RETIRED) with nrg := { s1.nrg with retries := out } }
          .next ((s2.flt1 (230 + g) 1).nrgRecheck)

/-- A write of NRG_CTRL.RESTART (R275): ignored outside FAULT. -/
def State.nrgRestart (s : State) : State := if s.nrgSt = 2 then s.nrgStart else s

/-- NRG_RESTART (R275). -/
def execNrgRestart (s : State) : Host.Outcome State Fault Refusal := .next s.nrgRestart

/-! Grants. -/

/-- A request comes before another: class, then arrival, then requester number (R271). -/
def NrgReq.before (a b : NrgReq) : Bool :=
  decide (a.cls < b.cls) || (a.cls == b.cls && (decide (a.since < b.since) || (a.since == b.since && decide (a.reqr < b.reqr))))

/-- The request served next; among equals the one queued first. -/
def nextReq : List NrgReq → Option NrgReq
  | [] => none
  | r :: t => some (t.foldl (fun a b => if b.before a then b else a) r)

/-- Bytes granted to a command: it draws on, or goes on (R271, R278). -/
def State.grantCmd (s : State) (id : Nat) (bytes : List Byte) : State :=
  match mget s.cmds id with
  | none => s
  | some c =>
    let c1 := { c with rand := c.rand ++ bytes, need := c.need - bytes.length }
    let s1 := s.setCmd id c1
    if 0 < c1.need then s1.askRand id c1
    else if c.op = 0x0E01 ∨ c.op = 0x0E02 then s1.randomEnd id c1
    else if c.op = 0x0C18 then s1.dgNext id
    else s1.setCmd id { c1 with phase := .ready }

/-- NRG_WAIT_LIMIT: a request had no grant for NRG_WAIT.LIMIT_100US; it ends, and a spill that other commands still wait for is asked for
anew (R274, R276). -/
def execNrgWaitLimit (who : NrgWho) (s : State) : Host.Outcome State Fault Refusal :=
  match s.nrg.queue.find? (fun r => r.who == who) with
  | none => .next s
  | some r =>
    match who with
    | .expander _ => .next s
    | .management _ => .next s
    | _ =>
      let t := (s.dropWho who).refuseAll St.ENTROPY_UNAVAILABLE [r]
      .next (if t.cmds.any (fun c => c.2.phase == .waitSlot) then t.askSpill (fun _ => false) else t)

/-! Expanders (R277). -/

/-- A seed is absorbed: its 32 bytes are added to the front of the sponge, which is then permuted (log entry 140). -/
def absorbSeed (st seed : List Byte) : List Byte := spongeBlock st seed

/-- The sponge after n further permutations: the state behind n mask blocks. -/
def squeezed : Nat → List Byte → List Byte
  | 0, st => st
  | n + 1, st => squeezed n (keccakF st)

/-- The running state of an expander: as its last seed left it, behind the blocks delivered since. -/
def State.expState (s : State) (e : Nat) : List Byte := squeezed (s.maskCount e) ((mget s.nrg.exps e).getD (zeros 200))

/-- The next mask block of an expander: 136 bytes. -/
def State.maskBlock (s : State) (e : Nat) : List Byte := (s.expState e).take 136

/-- A new seed in an expander: absorbed into the running state. -/
def State.seed (s : State) (e : Nat) (bytes : List Byte) : State :=
  let s1 := { s with nrg := { s.nrg with exps := mput s.nrg.exps e (absorbSeed (s.expState e) bytes) } }
  let s2 := (s1.wrF (maskReg e) 20 0 0).wrB Reg.NRG_EXP e false
  if e < 12 then s2.setCluster e { s2.cluster e with maskStall := false } else s2

/-- The count of an expander reaches at least n. -/
def State.maskTo (s : State) (e n : Nat) : State := s.wrF (maskReg e) 20 0 (Nat.max (s.maskCount e) n)

/-- EXPANDER_RESEED_REQUEST: at 2^12 blocks a reseed is asked for; in FAULT none is (R274, R277). -/
def execExpanderReseedRequest (e : Nat) (s : State) : Host.Outcome State Fault Refusal :=
  if e < 21 ∧ s.nrg.seeded.contains e then
    let s1 := s.maskTo e (2 ^ 12)
    .next (if s.nrgSt = 2 then s1 else s1.askSeed e 3)
  else .next s

/-- EXPANDER_URGENT: at 2^16 blocks the request becomes class 1 (R277). -/
def execExpanderUrgent (e : Nat) (s : State) : Host.Outcome State Fault Refusal :=
  if e < 21 ∧ s.nrg.seeded.contains e then
    let s1 := s.maskTo e (2 ^ 16)
    if s.nrgSt = 2 then .next s1
    else
      let q := s1.nrg.queue.map (fun (r : NrgReq) => if r.who = .expander e then { r with cls := 1 } else r)
      .next ({ s1 with nrg := { s1.nrg with queue := q } }.askSeed e 1)
  else .next s

/-- A run whose expander stops: it moves where a unit of its class has masks, else its command ends (R277; 06, coinciding events). -/
def State.moveRun (s : State) (u : Nat) (r : Nat × Nat × Nat) : State :=
  match mget s.cmds r.1 with
  | none => s
  | some c =>
    if c.usesMasks then
      match c.legs[r.2.1]? with
      | none => s
      | some l =>
        if l.cls != .hte && (unitsOf l.cls).any (fun v => (s.unit v).service && s.masksFor c v) then s.pullRun r.1 r.2.1 u
        else s.complete r.1 (.late St.ENTROPY_FAULT)
    else s

/-- Units fed by an expander. -/
def unitsFed (e : Nat) : List Nat := (List.range 132).filter (fun u => expanderOf u == some e)

/-- EXPANDER_HARD_LIMIT: at 2^20 blocks the expander stops, NRG_EXP records it, and runs move or end, those of the command fetched first
before others (R102, R277). -/
def execExpanderHardLimit (e : Nat) (s : State) : Host.Outcome State Fault Refusal :=
  if e < 21 ∧ s.nrg.seeded.contains e then
    let s1 := (s.maskTo e (2 ^ 20)).wrB Reg.NRG_EXP e true
    let s2 := if e < 12 then s1.setCluster e { s1.cluster e with maskStall := true } else s1
    let runs := (unitsFed e).flatMap (fun u => (s2.runsOn u).map (fun r => (u, r)))
    .next ((runs.mergeSort (fun (a b : Nat × Nat × Nat × Nat) => decide (a.2.1 ≤ b.2.1))).foldl (fun (x : State) r => x.moveRun r.1 r.2) s2)
  else .next s

/-! Raw capture (R278, R279). -/

/-- Checks of RAW_CAPTURE. -/
def State.rawVal (s : State) (c : Cmd) (h : HostRead) : Except Done Cmd := do
  let cell := leAt c.desc 48 2
  let n := leAt c.desc 52 4
  need (c.randPlain && c.par < 16 && (cell < 32 || cell == 0xFFFF) && c.b 50 < 2 && c.b 51 == 0 && n % 8 == 0 &&
    1024 ≤ n && n ≤ 8388608) St.BAD_FIELD
  need ((s.testState || s.lcc == Lc.ANALYSIS) && s.grpsUp.any (· != c.par)) St.STATE
  c.buffers h (fun _ => true) (fun _ => true) (n / 8)

/-- The number of windows of the capture that fail, and the trim codes after it: the windows of captured cells are judged by their samples,
those of the group's other cells by the operand. -/
def State.rawWindows (s : State) (g cell n : Nat) (samples : List Byte) (fails : List (Nat × Nat × Nat)) : List (Nat × Nat × Nat) :=
  let all := cell = 0xFFFF
  let per := if all then n / 32 else n
  let of := fun (c : Nat) => (List.range per).map (fun i => sampleAt samples (if all then 32 * i + c else i))
  let cells := if all then List.range 32 else [cell]
  let own := (List.range (per / 1024)).flatMap (fun w =>
    let bytes := fun (c : Nat) =>
      let l := ((of c).drop (1024 * w)).take 1024
      (List.range 128).map (fun j => BitVec.ofNat 8 ((List.range 8).foldl (fun v k => v + b2n (l.getD (8 * j + k) false) * 2 ^ k) 0))
    (s.windowTests (cells.map (fun c => (32 * g + c, bytes c))) g).map (fun f => (w, f)))
  own ++ fails

/-- A captured cell's trim code after the capture: one step after every 256 samples, or none with FREEZE. -/
def State.rawTrim (s : State) (g c stride off n : Nat) (samples : List Byte) (freeze : Bool) : Nat :=
  let l := (List.range n).map (fun i => sampleAt samples (stride * i + off))
  if freeze then s.fbOf (32 * g + c) else (fbWalk (n / 256) (s.fbOf (32 * g + c)) l).getLastD 32

/-- RAW_CAPTURE starts: the group leaves service and reads RAW; what is behind its ISOLATED state ends (R274, R279). -/
def State.rawStart (s : State) (id : Nat) (c : Cmd) : State :=
  let g := c.par
  let gone := s.grpSt g == Grp.RETIRED
  let x := (s.wrF (Reg.NRG_GRP g) 31 30 Grp.RAW).fltEnd (230 + g)
  let y := { x with nrg := { x.nrg with retries := mdel x.nrg.retries g, passes := mdel x.nrg.passes g } }
  (y.setCmd id { c with phase := .running, note := if gone then [1] else [] }).nrgRecheck

/-- RAW_CAPTURE ends: the samples go to the output, failing windows are counted, blocks that wait for the window in which the capture began
are judged by it, and the group reruns its start-up (R278, R279). -/
def State.rawEnd (s : State) (id : Nat) (c : Cmd) (samples : List Byte) (fails : List (Nat × Nat × Nat)) (fb : List (Nat × Nat)) : State :=
  let g := c.par
  let cell := leAt c.desc 48 2
  let n := leAt c.desc 52 4
  let freeze := (c.b 50).testBit 0
  let bad := s.rawWindows g cell n samples fails
  let count := ((bad.map (·.1)).eraseDups).length
  let all := cell == 0xFFFF
  let trims := (if all then List.range 32 else [cell]).map (fun k =>
    (k, s.rawTrim g k (if all then 32 else 1) (if all then k else 0) (if all then n / 32 else n) samples freeze))
  let others := if freeze then [] else (fb.filter (fun x => decide (x.1 < 32) && !trims.any (fun y => y.1 == x.1))).map (fun x => (x.1, x.2 % 64))
  let s1 := (trims ++ others).foldl (fun (x : State) y => x.setFb (32 * g + y.1) y.2) s
  let s2 := match bad.getLast? with
    | some f => ((s1.incF (Reg.NRG_GRP g) 27 16 count).wrF (Reg.NRG_GRP g) 10 8 f.2.1).wrF (Reg.NRG_GRP g) 4 0 f.2.2
    | none => s1
  let s3 := if bad.any (fun f => f.1 == 0) then s2.dropBlocks g
    else { s2 with nrg := { s2.nrg with pend := s2.nrg.pend.map (fun (b : List Nat × List Byte) => (b.1.filter (· != g), b.2)) } }
  let code := s3.fbOf (32 * g + (if all then 0 else cell))
  ((s3.writeOut c 0 (fixLen (n / 8) samples) true).complete id (.ok (n / 8) (natLE 4 count ++ [BitVec.ofNat 8 code]))).fillReady

/-- RAW_CAPTURE: the first such row starts the capture, where no other one holds the group; the second ends it with what the cells gave:
the samples, the failing windows of the group's other cells as window, test and cell, and the trim codes of those cells. -/
def execRawCapture (cmd : Nat) (host : HostRead) (samples : List Byte) (fails : List (Nat × Nat × Nat)) (fb : List (Nat × Nat)) (s : State) :
    Host.Outcome State Fault Refusal :=
  match mget s.cmds cmd with
  | none => .next s
  | some c =>
    if c.op = 0x0E20 ∧ c.phase = .running then .next (s.rawEnd cmd c samples fails fb)
    else
      opRow cmd (fun c => c.op == 0x0E20) (fun c =>
        match s.rawVal c host with
        | .error d => s.complete cmd d
        | .ok c1 => if s.captured c.par then s else s.rawStart cmd c1) s

end Sys2Proof.Machine
end

