-- ==== Sys2Proof/Machine/Mailbox.lean ====
section
/-!
DEFINITION. The mailbox protocol (spec file 04, R113 to R121): acceptance with the checks that belong to no single command, responses,
release, outcome records; and the form that every management command's row has.
-/
namespace Sys2Proof.Machine
open Sys2Proof

/-! Acceptance. -/

/-- Commands that LOCKED_INVALID and SCRAP leave (R353, R358). -/
def lcOnly (lcc code : Nat) : Bool :=
  if lcc = Lc.LOCKED_INVALID then [0x0100, 0x0A05, 0x0601, 0x0600].contains code
  else if lcc = Lc.SCRAP then [0x0100, 0x0A05, 0x0601, 0x0602].contains code
  else true

/-- An exclusive command runs on some channel (R121). -/
def State.exclBusy (s : State) : Bool := s.mbx.any (fun r => isExcl r.2.code)

/-- The subcommands, in the first inline byte, of the commands that have some (R135, R140, R156, R159, R190, R406, R407, R411). -/
def subOk (code sub : Nat) : Bool :=
  match code with
  | 0x0302 => 1 ≤ sub && sub ≤ 4
  | 0x0402 => [0x01, 0x02, 0x10, 0x11].contains sub
  | 0x0800 => 1 ≤ sub && sub ≤ 3
  | 0x0801 => 1 ≤ sub && sub ≤ 5
  | _ => true

/-- The checks before a command starts; 0 passes (R115, R117, R118, R121, R300). A request length above 16 MiB is BAD_FIELD, a response
capacity above it stands as it is (DESIGN CHOICE, log entry 156). -/
def State.mbxCheck (s : State) (fn : Nat) (r : MbxReq) : Nat :=
  let w1 := r.word 1
  let bad := w1 / 2 ^ 18 != 0 || w1 / 256 % 256 != 0 || decide (56 < w1 % 256) || (r.ext && (r.reqLen == 0 || decide (2 ^ 24 < r.reqLen)))
  if s.boot.stage = .kindlingMbx then
    (if ! [0x0100, 0x0A05, kindlingLoad].contains r.code then St.BAD_OPCODE else if bad then St.BAD_FIELD else 0)
  else
    match mbxCode r.code with
    | none => St.BAD_OPCODE
    | some m =>
      if fn ≠ 0 ∧ !m.vf then St.BAD_OPCODE
      else if bad then St.BAD_FIELD
      else if !lcOnly s.lcc r.code then St.STATE
      else if s.boot.hold && !m.hold then St.STATE
      else if s.boot.hold && r.code == 0x0903 && s.sealState != Seal.LOST then St.STATE
      else if m.excl && s.exclBusy then St.STATE
      else if !subOk r.code (leAt r.inl 0 1) then St.BAD_FIELD
      else 0

/-- MBX_GO (R118): on a channel that nothing serves it is ignored (log entry 42); while BUSY or DONE it only sets OVERRUN. Any command but
FW_STAGE ends a staging (R123). -/
def State.mbxGo (s : State) (fn ch : Nat) : State :=
  if s.served fn ch then
    if s.mstat fn ch 1 || s.mstat fn ch 2 then s.setMstat fn ch 4 true
    else
      let r := s.mbxCopy fn ch
      let st := s.mbxCheck fn r
      let s1 := { (s.setMstat fn ch 1 true) with mbx := mput s.mbx (mbxKey fn ch) r }
      let s2 := if r.code = 0x0A00 then s1 else { s1 with boot := { s1.boot with staging := false } }
      if st = 0 then s2 else s2.mbxEnd (mbxKey fn ch) (.err st)
  else s

/-- MBX_ACK (R118): the response is released. -/
def State.mbxAck (s : State) (fn ch : Nat) : State :=
  if mbxChan fn ch && s.mstat fn ch 2 then
    let s1 := (List.range 16).foldl (fun (x : State) i => x.mwr fn ch (0x200 + 4 * i) 0) s
    (s1.setMstat fn ch 2 false).setMstat fn ch 3 true
  else s

/-- MBX_GO. -/
def execMbxGo (fn ch : Nat) (s : State) : Host.Outcome State Fault Refusal := .next (s.mbxGo fn ch)

/-- MBX_ACK. -/
def execMbxAck (fn ch : Nat) (s : State) : Host.Outcome State Fault Refusal := .next (s.mbxAck fn ch)

/-! Rows of commands. -/

/-- What a command does: its end, or the state in which it runs on. -/
inductive Course where
  | fail (p : Reply)              -- ends without any effect
  | done (s : State) (p : Reply)  -- ends with its effects
  | runs (s : State)              -- runs on; other rows end it
  | wait                          -- not yet: what it needs is still being unsealed (R138)
  | ask (n : Nat)                 -- not yet: it needs n key-grade bytes (R271)
deriving DecidableEq, Repr

def Course.bad (status : Nat) : Course := .fail (.err status)

/-- The command of a request draws key-grade bytes, once; in FAULT it ends (R271, R274). Its row goes on when it is sent again behind the
grant. -/
def State.mbxAsk (s : State) (key n : Nat) : State :=
  if s.nrgDown then s.mbxEnd key (.err St.ENTROPY_FAULT)
  else if s.nrg.queue.any (fun r => r.who == .mailbox key) then s
  else s.nrgAsk 2 21 (.mailbox key) n

/-- The row of a command: it applies to an accepted request with its code that has not started. A response that the buffer does not take
leaves the command unprocessed (R118). -/
def mbxRow (ok : MbxReq → Bool) (fn ch : Nat) (f : MbxReq → Course) (s : State) : Host.Outcome State Fault Refusal :=
  match mget s.mbx (mbxKey fn ch) with
  | none => .next s
  | some r =>
    if ok r && !r.started then
      match f r with
      | .wait => .next s
      | .ask n => .next (s.mbxAsk (mbxKey fn ch) n)
      | .fail p => .next (s.mbxEnd (mbxKey fn ch) p)
      | .done t p =>
        if p.fits r then .next (t.mbxEnd (mbxKey fn ch) p)
        else .next (s.mbxEnd (mbxKey fn ch) { Reply.err St.OUTPUT_TOO_SMALL with word2 := p.buf.length })
      | .runs t => .next { t with mbx := mmod t.mbx (mbxKey fn ch) (fun x => { x with started := true }) }
    else .next s

/-- The row of a command with a code of its own. -/
def mbxRow1 (code fn ch : Nat) (f : MbxReq → Course) (s : State) : Host.Outcome State Fault Refusal :=
  mbxRow (fun r => r.code == code) fn ch f s

/-- The row of a subcommand that stands in the first inline byte. -/
def mbxRow2 (code sub fn ch : Nat) (f : MbxReq → Course) (s : State) : Host.Outcome State Fault Refusal :=
  mbxRow (fun r => r.code == code && leAt r.inl 0 1 == sub) fn ch f s

/-- A started request with a code: its key. -/
def State.running (s : State) (code : Nat) : Option (Nat × MbxReq) := s.mbx.find? (fun x => x.2.started && x.2.code == code)

end Sys2Proof.Machine
end

