-- ==== Sys2Proof/Machine/Vfm.lean ====
section
/-!
DEFINITION. The VF manager (spec file 02): staging and applying allotments (R67, R68), dedicated clusters (R71 to R73), function-level reset
and quiesce (R75 to R80), SR-IOV (R55).
-/
namespace Sys2Proof.Machine
open Sys2Proof

/-! Pools (R63, R64). -/

/-- Sum over functions 1 to 2,047 of an allotment. -/
def State.sumVfs (s : State) (f : Fn → Nat) : Nat :=
  let l := s.fns.filter (fun x => x.1 != 0)
  l.foldl (fun n x => n + f x.2) 0 + (2047 - l.length) * f s.boot.template

/-- Sum over every function. -/
def State.sumAll (s : State) (f : Fn → Nat) : Nat := s.sumVfs f + f (s.fn 0)

def State.qpFree (s : State) : Nat := 4096 - s.sumVfs (·.qps)
def State.vecFree (s : State) : Nat := 4096 - s.sumVfs (·.vecs)
def State.ctxFree (s : State) : Nat := 65536 - s.sumAll (·.ctx)
def State.keyFree (s : State) : Nat := 12288 - s.sumAll (·.key4k)
def State.objFree (s : State) : Nat := 32768 - s.sumAll (·.keyObj)
def State.opmFree (s : State) : Nat := 256 - s.sumAll (·.opm4k)

/-! VFM_SEL. -/

/-- Clusters dedicated to a function as a bitmap; a change in progress counts already. -/
def State.clustersOf (s : State) (fn : Nat) : Nat :=
  (List.range 12).foldl (fun n c => if (s.cluster c).owner = some fn then n + 2 ^ c else n) 0

/-- The words of the staging registers that show a function's current values (R67). -/
def State.stagingOf (s : State) (n : Nat) : List (Nat × Word) :=
  let f := s.fn n
  [(Reg.VFM_ST_ALLOT, f.weight * 65536 + (if n = 0 then 0 else f.vecs * 16 + f.qps)), (Reg.VFM_ST_CTX, f.ctx), (Reg.VFM_ST_INFLIGHT, f.cap),
   (Reg.VFM_ST_KEY, f.keyObj * 65536 + f.key4k), (Reg.VFM_ST_CLUSTERS, s.clustersOf n), (Reg.VFM_ST_OPM, f.opm4k),
   (Reg.VFM_ST_SPILL_LO, f.spillAddr % 2 ^ 32), (Reg.VFM_ST_SPILL_HI, f.spillAddr / 2 ^ 32), (Reg.VFM_ST_SPILL_LEN, f.spillLen)].map
    (fun (r : Nat × Nat) => (r.1, BitVec.ofNat 32 r.2))

/-- A write of VFM_SEL loads the staging registers (R67); what it loads is their reset value from then on. -/
def State.vfmSel (s : State) (v : Word) : State :=
  let n := fld v 11 0
  if n < 2048 then
    let s1 := s.wr 0 Reg.VFM_SEL (BitVec.ofNat 32 n)
    (s.stagingOf n).foldl (fun (x : State) r => x.wr 0 r.1 r.2) { s1 with link := { s1.link with stLoaded := s.stagingOf n } }
  else s

/-- VFM_SEL (R67). -/
def execVfmSel (v : Word) (s : State) : Host.Outcome State Fault Refusal := .next (s.vfmSel v)

/-! Checks of an apply (R68): 0 passes, 1 POOL_SHORT, 2 IN_USE, 4 BAD_VALUE. -/

namespace Ap
def POOL_SHORT : Nat := 1
def IN_USE : Nat := 2
def BUSY : Nat := 3
def BAD_VALUE : Nat := 4
end Ap

/-- Pairs that a function has created. -/
def State.created (s : State) (fn : Nat) : List (Nat × QPair) :=
  (s.qps.filter (fun x => x.1 / 16 == fn && x.2.state != .off)).map (fun x => (x.1 % 16, x.2))

def State.checkAllot (s : State) (fn : Nat) : Nat :=
  let w := s.rd 0 Reg.VFM_ST_ALLOT
  let q := fld w 3 0
  let v := fld w 8 4
  let f := s.fn fn
  if fld w 23 16 = 0 ∨ q > 8 ∨ v > 16 ∨ (fn = 0 ∧ (q ≠ 0 ∨ v ≠ 0)) then Ap.BAD_VALUE
  else if fn = 0 then 0
  else if q > f.qps + s.qpFree ∨ v > f.vecs + s.vecFree then Ap.POOL_SHORT
  else if (s.created fn).any (fun x => decide (q ≤ x.1) || decide (v ≤ fld x.2.cfg 13 8)) then Ap.IN_USE
  else 0

def State.checkCtx (s : State) (fn : Nat) : Nat :=
  let n := s.rdF Reg.VFM_ST_CTX 16 0
  if n > 65536 then Ap.BAD_VALUE
  else if n > (s.fn fn).ctx + s.ctxFree then Ap.POOL_SHORT
  else if s.ks.ctxs.any (fun c => c.1 / 65536 == fn && decide (n ≤ c.1 % 65536)) then Ap.IN_USE
  else 0

def State.checkInflight (s : State) : Nat :=
  let n := s.rdF Reg.VFM_ST_INFLIGHT 14 0
  if n = 0 ∨ n > 16384 then Ap.BAD_VALUE else 0

def State.checkKey (s : State) (fn : Nat) : Nat :=
  let w := s.rd 0 Reg.VFM_ST_KEY
  let k := fld w 13 0
  let o := fld w 31 16
  if k > 12288 ∨ o > 32768 then Ap.BAD_VALUE
  else if k > (s.fn fn).key4k + s.keyFree ∨ o > (s.fn fn).keyObj + s.objFree then Ap.POOL_SHORT
  else 0

/-- Bits of a bitmap of clusters. -/
def bitsOf (m : Nat) : List Nat := (List.range 12).filter (fun c => m.testBit c)

/-- The dedication rules (R71). -/
def State.checkClusters (s : State) (fn : Nat) : Nat :=
  let m := bitsOf (s.rdF Reg.VFM_ST_CLUSTERS 11 0)
  let other := (List.range 12).filter (fun c => match (s.cluster c).owner with | some f => f != fn | none => false)
  if (m.length ≠ 0 ∧ m.length < 3) ∨ m.any other.contains ∨ m.length + other.length > 9 then Ap.BAD_VALUE else 0

/-! Places of the operand-memory partitions (R260). -/

/-- A function has an OPM command in flight. -/
def State.opmInFlight (s : State) (fn : Nat) : Bool := s.cmds.any (fun c => c.2.fn == fn && (c.2.op == 0x0F80 || c.2.op == 0x0F88))

/-- The lowest base at which a partition fits beside those placed. -/
def fitBase (placed : List (Nat × Nat)) (n : Nat) : Option Nat :=
  (List.range (257 - n)).find? (fun b => placed.all (fun p => decide (b + n ≤ p.1) || decide (p.1 + p.2 ≤ b)))

/-- Partitions are placed in turn, each as low as it fits. -/
def placeParts : List (Nat × Nat) → List (Nat × Nat) → Option (List (Nat × Nat))
  | _, [] => some []
  | placed, (fn, n) :: t =>
    match fitBase placed n with
    | none => none
    | some b => (placeParts ((b, n) :: placed) t).map (fun r => (fn, b) :: r)

/-- The bases after function fn's partition has n units: its own where it still fits there, else the lowest range left free; only where there
is none do the partitions without an OPM command in flight move (R260; log entry 43). -/
def State.opmPlan (s : State) (fn n : Nat) : Option (List (Nat × Nat)) :=
  let all := ((0, s.fn 0) :: s.fns.filter (fun x => x.1 != 0 && x.1 != fn)).filter (fun x => x.1 != fn && x.2.opm4k != 0)
  let fixed := all.filter (fun x => s.opmInFlight x.1)
  let free := all.filter (fun x => !s.opmInFlight x.1)
  let kept := fixed.map (fun x => ((s.opmPart x.1).base, x.2.opm4k))
  let movable := (free.map (fun x => (x.1, x.2.opm4k)))
  let others := all.map (fun x => ((s.opmPart x.1).base, x.2.opm4k))
  let own := (s.opmPart fn).base
  let fits := fun (b : Nat) => others.all (fun p => decide (b + n ≤ p.1) || decide (p.1 + p.2 ≤ b)) && decide (b + n ≤ 256)
  if n = 0 then some []
  else if (s.fn fn).opm4k ≠ 0 ∧ fits own then some [(fn, own)]
  else if !s.opmInFlight fn ∧ (fitBase others n).isSome then (fitBase others n).map (fun b => [(fn, b)])
  else if s.opmInFlight fn then
    let b := (s.opmPart fn).base
    if kept.all (fun p => decide (b + n ≤ p.1) || decide (p.1 + p.2 ≤ b)) ∧ b + n ≤ 256 then placeParts ((b, n) :: kept) movable else none
  else placeParts kept (movable ++ [(fn, n)])

/-- Bytes that the slots in use span. -/
def OpmPart.span (p : OpmPart) : Nat := p.slotLen * p.slots.foldl (fun n x => Nat.max n (x.1 + 1)) 0

def State.checkOpm (s : State) (fn : Nat) : Nat :=
  let n := s.rdF Reg.VFM_ST_OPM 8 0
  if n > 256 then Ap.BAD_VALUE
  else if n > (s.fn fn).opm4k + s.opmFree then Ap.POOL_SHORT
  else if (s.opmPlan fn n).isNone then Ap.POOL_SHORT
  else if n * 4096 < (s.opmPart fn).span then Ap.IN_USE
  else 0

/-- Address and length of the staged spill area. -/
def State.stSpill (s : State) : Nat × Nat :=
  ((s.rd 0 Reg.VFM_ST_SPILL_HI).toNat * 2 ^ 32 + s.rdF Reg.VFM_ST_SPILL_LO 31 12 * 4096, s.rdF Reg.VFM_ST_SPILL_LEN 15 0)

/-- A digest context of the function is spilled. -/
def State.hasSpilled (s : State) (fn : Nat) : Bool := s.dg.ctxs.any (fun c => c.1 / 4096 == fn && c.2.state == .opened && !c.2.resident)

def State.checkSpill (s : State) (fn : Nat) : Nat :=
  let f := s.fn fn
  if s.stSpill ≠ (f.spillAddr, f.spillLen) ∧ s.hasSpilled fn then Ap.IN_USE else 0

/-- The check of group number i (R68). -/
def State.checkGroup (s : State) (fn : Nat) : Nat → Nat
  | 1 => s.checkAllot fn
  | 2 => s.checkCtx fn
  | 3 => s.checkInflight
  | 4 => s.checkKey fn
  | 5 => s.checkClusters fn
  | 6 => s.checkOpm fn
  | _ => s.checkSpill fn

/-! Applying. -/

/-- A change of the dedication begins (R73): clusters that join are drained of other functions' runs, those that leave of the function's own.
A cluster that joins is the function's from now on, so that no other apply takes it. -/
def State.dedicate (s : State) (fn : Nat) : State :=
  let m := bitsOf (s.rdF Reg.VFM_ST_CLUSTERS 11 0)
  (List.range 12).foldl (fun (x : State) c =>
    let y := x.cluster c
    if m.contains c then (if y.owner = some fn then x else x.setCluster c { y with owner := some fn, draining := some fn })
    else if y.owner = some fn then x.setCluster c { y with draining := some 2048 }
    else x) s

/-- A group takes effect. -/
def State.applyGroup (s : State) (fn : Nat) (i : Nat) : State :=
  let f := s.fn fn
  match i with
  | 1 =>
    let w := s.rd 0 Reg.VFM_ST_ALLOT
    s.setFn fn { f with weight := fld w 23 16, qps := if fn = 0 then f.qps else fld w 3 0, vecs := if fn = 0 then f.vecs else fld w 8 4 }
  | 2 => s.setFn fn { f with ctx := s.rdF Reg.VFM_ST_CTX 16 0 }
  | 3 => s.setFn fn { f with cap := s.rdF Reg.VFM_ST_INFLIGHT 14 0 }
  | 4 => s.setFn fn { f with key4k := s.rdF Reg.VFM_ST_KEY 13 0, keyObj := s.rdF Reg.VFM_ST_KEY 31 16 }
  | 5 => s.dedicate fn
  | 6 =>
    let n := s.rdF Reg.VFM_ST_OPM 8 0
    let s1 := ((s.opmPlan fn n).getD []).foldl (fun (x : State) p => x.setOpm p.1 { x.opmPart p.1 with base := p.2 }) s
    -- a partition of another size is unformatted (R262)
    let s2 := if n = 0 then { s1 with opm := mdel s1.opm fn }
      else if n = f.opm4k then s1
      else s1.setOpm fn { s1.opmPart fn with slotLen := 0, sealed := false, slots := [] }
    s2.setFn fn { f with opm4k := n }
  | _ => s.setFn fn { f with spillAddr := s.stSpill.1, spillLen := s.stSpill.2 }

/-- VFM_APPLY_STAT: result and the group that failed. -/
def State.applyStat (s : State) (busy : Bool) (result failed : Nat) : State :=
  s.wr 0 Reg.VFM_APPLY_STAT (BitVec.ofNat 32 (failed * 65536 + result * 256 + b2n busy))

/-- A write of VFM_APPLY (R67, R68): all the groups whose bits are set, or none. -/
def State.vfmApply (s : State) (v : Word) : State :=
  if !bitAt v 0 || s.rdB Reg.VFM_APPLY_STAT 0 then s
  else
    let fn := s.rdF Reg.VFM_SEL 11 0
    let gs := [1, 2, 3, 4, 5, 6, 7].filter (fun i => bitAt v i)
    if (s.fn fn).quiescing then s.applyStat false Ap.BUSY 0
    else match gs.find? (fun i => s.checkGroup fn i != 0) with
      | some i => s.applyStat false (s.checkGroup fn i) i
      | none =>
        let s1 := gs.foldl (fun (x : State) i => x.applyGroup fn i) s
        s1.applyStat (s1.clusters.any (fun c => c.2.draining.isSome)) 0 0

/-- APPLY_ALLOT: a VFM_APPLY word with that group (R68). -/
def execApplyAllot (v : Word) (s : State) : Host.Outcome State Fault Refusal := .next (s.vfmApply (setBit v 1 true))
/-- APPLY_CTX (R68). -/
def execApplyCtx (v : Word) (s : State) : Host.Outcome State Fault Refusal := .next (s.vfmApply (setBit v 2 true))
/-- APPLY_INFLIGHT (R68). -/
def execApplyInflight (v : Word) (s : State) : Host.Outcome State Fault Refusal := .next (s.vfmApply (setBit v 3 true))
/-- APPLY_KEY (R68). -/
def execApplyKey (v : Word) (s : State) : Host.Outcome State Fault Refusal := .next (s.vfmApply (setBit v 4 true))
/-- APPLY_CLUSTERS (R71). -/
def execApplyClusters (v : Word) (s : State) : Host.Outcome State Fault Refusal := .next (s.vfmApply (setBit v 5 true))
/-- APPLY_OPM (R260). -/
def execApplyOpm (v : Word) (s : State) : Host.Outcome State Fault Refusal := .next (s.vfmApply (setBit v 6 true))
/-- APPLY_SPILL (R68). -/
def execApplySpill (v : Word) (s : State) : Host.Outcome State Fault Refusal := .next (s.vfmApply (setBit v 7 true))

/-! The end of a dedication change (R73). -/

/-- A run of a function other than f goes on in a cluster, or its core is not yet scrubbed. -/
def State.foreignRuns (s : State) (cl f : Nat) : Bool :=
  (List.range 8).any (fun p =>
    let u := s.unit (8 * cl + p)
    (u.busy.isSome || u.scrub) && u.fn != f)

/-- A run of any function goes on in a cluster, or a core is not yet scrubbed. -/
def State.anyRuns (s : State) (cl : Nat) : Bool :=
  (List.range 8).any (fun p => let u := s.unit (8 * cl + p); u.busy.isSome || u.scrub)

/-- A cluster is drained: of other functions' runs where it joins, of the function's own where it leaves. -/
def State.drained (s : State) (cl : Nat) : Bool :=
  match (s.cluster cl).draining with
  | none => true
  | some f => if f < 2048 then !s.foreignRuns cl f else !s.anyRuns cl

/-- The dedication changes end; the data memories of the clusters concerned are scrubbed. -/
def State.dedicateEnd (s : State) : State :=
  let stays := fun (v : Nat × Memory) => (s.cluster (clusterOf v.1)).draining.isNone
  let s1 := (List.range 12).foldl (fun (x : State) c =>
    let y := x.cluster c
    match y.draining with
    | none => x
    | some f => x.setCluster c { y with draining := none, owner := if f < 2048 then some f else none }) s
  ({ s1 with test := { s1.test with views := s.test.views.filter stays } }.applyStat false 0 0).isoCheck

/-- DEDICATION_DRAIN_TIMEOUT: 1 ms after the write, runs of other functions in a cluster that joins are aborted and start again elsewhere
(R73). -/
def State.drainNow (s : State) : State :=
  (List.range 96).foldl (fun (x : State) u =>
    match (x.cluster (clusterOf u)).draining with
    | some f => if f < 2048 ∧ (x.unit u).busy.isSome ∧ (x.unit u).fn ≠ f then x.pullUnit u else x
    | none => x) s

/-- DEDICATION_DRAIN_TIMEOUT. -/
def execDedicationDrainTimeout (s : State) : Host.Outcome State Fault Refusal := .next s.drainNow

/-! Function-level reset and quiesce. -/

/-- Steps 2 to 7 of the reset table (R75, R76): the function is fenced, its commands end with no completion, its contexts, digest contexts,
keyed-state slots, operand partition, check results and staged generations are gone, and its mailbox is cleared. -/
def State.fnClear (s : State) (fn : Nat) : State :=
  let s1 := s.setFn fn { s.fn fn with quiescing := true, quiesced := false }
  let s2 := s1.dropCmds (fun c => c.fn == fn)
  let fence := fun (p : QPair) => if p.state = .off then p else
    { p with state := .deleting, waiting := [], pendCnt := 0, chain := none, chainRes := none, firstFail := none }
  let chk := (List.range 64).filter (fun n => s2.rdF (Reg.CHK_LAST n) 27 16 == fn)
  let s3 := chk.foldl (fun (x : State) n => ((x.wr 0 (Reg.CHK_RESULT n) 0).wr 0 (Reg.CHK_RESULTH n) 0).wr 0 (Reg.CHK_LAST n) 0) s2
  let mbxRegs := fun (k : Nat) => if fn = 0 then decide (0x80000 ≤ k ∧ k < 0x84000) else decide (fn * 2 ^ 28 ≤ k ∧ k < (fn + 1) * 2 ^ 28)
  -- a COMMIT for the group that this device leads has not passed its commit point and is dropped, here and at the members that hold its
  -- generation staged; one that another member leads may have, and keeps its staged generation for the flip (R76; log entry 143)
  let ours : RCommit → Bool := fun r => match mget s3.fab.groups r.group with | some g => g.fn == fn | none => false
  let lost : RCommit → Bool := fun r => ours r && r.cmd.isSome && r.leader.isNone
  let commits := (s3.fab.commits.filter (fun r => !lost r)).map
    (fun (r : RCommit) => if ours r then { r with cmd := none } else r)
  let held := fun (h : Nat) => commits.any (fun r => ours r && mkHandle fn 2 r.idx == h)
  let s4 := { s3 with
      fab := { s3.fab with commits := commits }
      qps := s3.qps.map (fun (x : Nat × QPair) => if x.1 / 16 = fn then (x.1, fence x.2) else x)
      ks := { s3.ks with
        ctxs := s3.ks.ctxs.filter (fun c => c.1 / 65536 != fn)
        objs := s3.ks.objs.map (fun (o : Nat × KeyObj) => if handleFn o.1 = fn ∧ !held o.1 then (o.1, o.2.discard) else o) }
      dg := { s3.dg with
        ctxs := s3.dg.ctxs.filter (fun c => c.1 / 4096 != fn)
        ksc := s3.dg.ksc.filter (fun k => handleFn k.handle != fn)
        spillEp := mput s3.dg.spillEp fn ((mget s3.dg.spillEp fn).getD 0 + 1) }
      nrg := { s3.nrg with queue := s3.nrg.queue.filter (fun r => match r.who with | .spillNonce k => k / 4096 != fn | _ => true) }
      opm := mmod s3.opm fn (fun p => { p with slotLen := 0, sealed := false, slots := [] })
      regs := s3.regs.filter (fun r => !mbxRegs r.1 || (match regSpec (r.1 / 2 ^ 28) (r.1 % 2 ^ 28) with | some x => x.survive == Survive.every | none => false))
      sched := s3.sched.filter (fun x => x.1 % 4096 != fn) }
  ((s3.fab.commits.filter lost).foldl (fun (x : State) (r : RCommit) => x.sendMembers r.group (.unstage r.group r.idx r.gen)) (s4.keepReqs (fun f => f == fn))).orphans

/-- VFM_QUIESCE_STAT at the start and at the end of a quiesce or reset. -/
def State.quiesceStat (s : State) (fn : Nat) (done : Bool) : State :=
  let el := if done then (Config.engineTime s.free).toNat % 4096 else s.rdF Reg.VFM_QUIESCE_STAT 27 16
  (if done then s.fresh else s).wr 0 Reg.VFM_QUIESCE_STAT (BitVec.ofNat 32 (el * 65536 + b2n done * 8192 + b2n (!done) * 4096 + fn))

/-- A bit of VFM_FLR_DONE becomes set, with its message (R75). -/
def State.flrBit (s : State) (fn : Nat) : State :=
  let off := Reg.VFM_FLR_DONE (fn / 32)
  if fn = 0 ∨ s.rdB off (fn % 32) then s
  else
    let s1 := s.wrB off (fn % 32) true
    if s1.rdB Reg.VFM_EVT_VEC 6 then s1.msix 0 (s1.rdF Reg.VFM_EVT_VEC 5 0) else s1

/-- Step 8 of the reset table: every pair of the function is deleted, and it is ACTIVE again where it is enabled. -/
def State.fnStep8 (s : State) (fn : Nat) : State :=
  { (s.setFn fn { s.fn fn with quiescing := false, quiesced := false, flr := false }) with qps := s.qps.filter (fun x => x.1 / 16 != fn) }

/-- The function's configuration space is reset: its MSI-X table, Enable Relaxed Ordering, its AER log. -/
def State.fnConf (s : State) (fn : Nat) : State :=
  let mine := fun (k : Nat) => k / 65536 == fn
  { s with link := { s.link with
      relaxed := s.link.relaxed.filter (· != fn), msix := s.link.msix.filter (fun m => !mine m.1),
      pba := s.link.pba.filter (fun k => !mine k), aer := mdel s.link.aer fn } }

/-- The end of a function's reset: step 8, with its configuration space reset. -/
def State.flrEnd (s : State) (fn : Nat) : State := (s.fnStep8 fn).fnConf fn

/-- An apply that changes the function's dedication is in progress. -/
def State.applying (s : State) (fn : Nat) : Bool :=
  s.clusters.any (fun c => c.2.draining == some fn || (c.2.owner == some fn && c.2.draining.isSome))

/-- A reset of a function starts (R75, R80): one that meets an apply in progress waits for its end; a quiesce in progress serves the reset as
well; for a QUIESCED function only step 8 is left; a second reset is ignored. -/
def State.flrStart (s : State) (fn : Nat) : State :=
  let f := s.fn fn
  if f.flr then s
  else if s.applying fn then { s with link := { s.link with flrAfter := s.link.flrAfter.filter (· != fn) ++ [fn] } }
  else if f.quiescing ∨ f.quiesced then (s.setFn fn { f with quiescing := true, quiesced := false, flr := true }).quiesceStat fn false
  else
    let s1 := s.fnClear fn
    (s1.setFn fn { s1.fn fn with flr := true }).quiesceStat fn false

/-- The resets that waited for an apply start. -/
def State.flrWaiting (s : State) : State :=
  s.link.flrAfter.foldl State.flrStart { s with link := { s.link with flrAfter := [] } }

/-- APPLY_CLUSTERS_DONE: the clusters are drained and scrubbed, and the change ends (R73). -/
def execApplyClustersDone (s : State) : Host.Outcome State Fault Refusal :=
  if s.clusters.any (fun c => c.2.draining.isSome) && (List.range 12).all s.drained then .next s.dedicateEnd.flrWaiting else .next s

/-- FLR: an Initiate Function Level Reset write to an enabled VF (R75). -/
def execFlr (fn : Nat) (s : State) : Host.Outcome State Fault Refusal :=
  if 1 ≤ fn ∧ fn ≤ 2047 ∧ s.enabled fn then .next (s.flrStart fn) else .next s

/-- READ_DRAIN_TIMEOUT: reads unanswered after 16 ms are abandoned and late answers discarded; the commands that made them are gone (R75). -/
def execReadDrainTimeout (fn : Nat) (s : State) : Host.Outcome State Fault Refusal :=
  .next (s.dropCmds (fun c => c.fn == fn && (s.fn fn).quiescing))

/-- Functions with a record or enabled, from 1 on. -/
def State.vfList (s : State) : List Nat := (List.range s.link.numVfs).map (· + 1)

/-- Mailbox requests that quiesced a function are answered (R78). -/
def State.answerQuiesce (s : State) (fn : Nat) : State :=
  ((s.mbx.filter (fun m => m.2.started && m.2.code == 0x0201 && leAt m.2.inl 0 2 == fn)).map (·.1)).foldl
    (fun (x : State) k => x.mbxEnd k (.ok [])) s

/-- FLR_DONE: step 8 of a reset (R75). PF0's clears VF Enable and NumVFs and returns every allotment to the template (R66, R79); it ends
after those of the VFs that wait for an apply. -/
def execFlrDone (fn : Nat) (s : State) : Host.Outcome State Fault Refusal :=
  if (s.fn fn).flr && (fn != 0 || s.link.flrAfter.isEmpty) then
    if fn = 0 then
      let s1 := ((s.fns.filter (fun f => f.1 != 0 && f.2.flr)).map (·.1)).foldl (fun (x : State) f => ((x.flrEnd f).flrBit f).answerQuiesce f) s
      let s2 := s1.flrEnd 0
      .next ({ s2 with
        fns := []
        boot := { s2.boot with template := s2.boot.templateNext }
        opm := []
        clusters := s2.clusters.map (fun (c : Nat × Cluster) => (c.1, { c.2 with owner := none, draining := none }))
        link := { s2.link with vfEnable := false, numVfs := 0 } }.wrB Reg.VFM_APPLY_STAT 0 false |>.quiesceStat 0 true)
    else .next ((((s.flrEnd fn).quiesceStat fn true).flrBit fn).answerQuiesce fn)
  else .next s

/-- The registers of the manager's block that a reset of PF0 returns to their reset values; the status of an apply in progress stands until
it ends (R15, R80; log entry 128). -/
def State.vfmReset (s : State) : List Nat :=
  (if s.rdB Reg.VFM_APPLY_STAT 0 then [] else [Reg.VFM_APPLY_STAT]) ++
    [Reg.VFM_SEL, Reg.VFM_QUIESCE_STAT, Reg.VFM_EVT_VEC] ++ (List.range 64).map Reg.VFM_FLR_DONE

/-- PF0_FLR: PF0 and every VF pass through the reset (R79). -/
def execPf0Flr (s : State) : Host.Outcome State Fault Refusal :=
  let vfs := if s.link.vfEnable then s.vfList else []
  .next ((vfs ++ [0]).foldl State.flrStart
    (s.vfmReset.foldl (fun (x : State) r => x.wr 0 r (regReset 0 r)) s).loadStaging)

/-- VF_ENABLE_CLEAR: every VF passes through the reset; allotments stay (R79). -/
def execVfEnableClear (s : State) : Host.Outcome State Fault Refusal :=
  if s.link.vfEnable then
    let s1 := s.vfList.foldl State.flrStart s
    .next { s1 with link := { s1.link with vfEnable := false } }
  else .next s

/-- VF_ENABLE_SET (R55). -/
def execVfEnableSet (s : State) : Host.Outcome State Fault Refusal := .next { s with link := { s.link with vfEnable := true } }

/-- NUMVFS_WRITE: writable only while VF Enable is clear (R55). -/
def execNumvfsWrite (n : Nat) (s : State) : Host.Outcome State Fault Refusal :=
  if s.link.vfEnable ∨ 2047 < n then .next s else .next { s with link := { s.link with numVfs := n } }

/-! Quiesce (R78). -/

/-- A VF that VFM_QUIESCE may name. -/
def State.quiesceable (s : State) (fn : Nat) : Bool := decide (1 ≤ fn ∧ fn ≤ 2047) && s.enabled fn

/-- START: steps 2 to 7; a quiesce or reset in progress is merged with it. -/
def State.quiesceStart (s : State) (fn : Nat) : State :=
  if !s.quiesceable fn || (s.fn fn).quiescing || (s.fn fn).quiesced then s else (s.fnClear fn).quiesceStat fn false

/-- RELEASE of a QUIESCED function: step 8 at once, its VFM_FLR_DONE bit and message included. -/
def State.quiesceRelease (s : State) (fn : Nat) : State :=
  if s.quiesceable fn && (s.fn fn).quiesced then (s.fnStep8 fn).flrBit fn else s

/-- A write of VFM_QUIESCE: one of START and RELEASE acts. -/
def State.vfmQuiesce (s : State) (v : Word) : State :=
  if bitAt v 31 && !bitAt v 30 then s.quiesceStart (fld v 11 0)
  else if bitAt v 30 && !bitAt v 31 then s.quiesceRelease (fld v 11 0)
  else s

/-- QUIESCE_START (R78). -/
def execQuiesceStart (v : Word) (s : State) : Host.Outcome State Fault Refusal := .next (s.vfmQuiesce (setBit v 31 true))

/-- QUIESCE_RELEASE (R78). -/
def execQuiesceRelease (v : Word) (s : State) : Host.Outcome State Fault Refusal := .next (s.vfmQuiesce (setBit v 30 true))

/-- FN_QUIESCE through the mailbox (R78): the function number stands in inline bytes 0 and 1 (log entry 22); the response waits for the end. -/
def execFnQuiesce (fn ch : Nat) (s : State) : Host.Outcome State Fault Refusal :=
  mbxRow1 0x0201 fn ch (fun r =>
    let n := leAt r.inl 0 2
    if r.inl.length < 2 ∨ !s.quiesceable n then .bad St.BAD_FIELD
    else if (s.fn n).quiesced then .done s (.ok [])
    else .runs (s.quiesceStart n)) s

/-- QUIESCE_DONE: the function is QUIESCED; a mailbox request that asked for it is answered (R78). -/
def execQuiesceDone (fn : Nat) (s : State) : Host.Outcome State Fault Refusal :=
  let f := s.fn fn
  if f.quiescing ∧ !f.flr then
    .next ((((s.setFn fn { f with quiescing := false, quiesced := true }).quiesceStat fn true).flrBit fn).answerQuiesce fn)
  else .next s

end Sys2Proof.Machine
end

