-- ==== Sys2Proof/Machine/KeyMgmt.lean ====
section
/-!
DEFINITION. Key administration through the mailbox, the Sillage log, identity and alias keys, attestation (spec file 05, R128, R133,
R148, R156, R159, R162 to R164).
-/
namespace Sys2Proof.Machine
open Sys2Proof

/-- The function a request names: PF0 names one in its first two bytes, a VF acts on itself (R121; log entry 22). -/
def MbxReq.target (r : MbxReq) (fn : Nat) : Nat := if fn = 0 then leAt r.inl 0 2 else fn

/-! KEY_LIST and KEY_DESTROY_FN. -/

/-- KEY_LIST: handles and attribute records of a function, 128 a page; the page stands in bytes 2 and 3 (log entry 22). -/
def execKeyList (fn ch : Nat) (s : State) : Host.Outcome State Fault Refusal :=
  mbxRow1 0x0300 fn ch (fun r =>
    let f := r.target fn
    if f ≥ 2048 then .bad St.BAD_FIELD
    else
      let page := ((s.objsOf f).drop (128 * leAt r.inl 2 2)).take 128
      .done s (.data (page.flatMap (fun o => natLE 4 o.1 ++ o.2.record)))) s

/-- Every key, context and staged generation of a function goes, and its epochs advance (R77, R148, R239). -/
def State.destroyFn (s : State) (f : Nat) : State :=
  let s1 := ((s.objsOf f).map (·.1)).foldl State.dropObj s
  { s1 with
    ks := { s1.ks with
      ctxs := s1.ks.ctxs.filter (fun c => c.1 / 65536 != f)
      blobEpoch := mput s1.ks.blobEpoch f (((mget s1.ks.blobEpoch f).getD 0 + 1) % 2 ^ 32) }
    dg := { s1.dg with saveEpoch := mput s1.dg.saveEpoch f (((mget s1.dg.saveEpoch f).getD 0 + 1) % 2 ^ 32) } }

/-- KEY_DESTROY_FN (R77, R135). -/
def execKeyDestroyFn (fn ch : Nat) (s : State) : Host.Outcome State Fault Refusal :=
  mbxRow1 0x0301 fn ch (fun r =>
    let f := r.target fn
    if f ≥ 2048 ∨ (fn = 0 ∧ r.inl.length < 2) then .bad St.BAD_FIELD
    else if (s.objsOf f).any (fun o => attrQuorum o.2.attrs) && !s.quorumOpen then .bad St.QUORUM_REQUIRED
    else .done (s.destroyFn f) (.okC [])) s

/-! KEY_ADMIN: the handle stands in bytes 4 to 7, other fields from byte 8 on (log entry 22). -/

/-- The attributes of an object change, in its persistent record too. -/
def State.setAttrs (s : State) (h : Nat) (o : KeyObj) (a : List Byte) : State :=
  let o1 := { o with attrs := a }
  let s1 := s.setObj h o1
  { s1 with ks := { s1.ks with flash := mmod s1.ks.flash h (fun f => { f with obj := o1.sealedObj }) } }

/-- An object of PF0 by handle. -/
def State.pfObj (s : State) (h : Nat) : Option KeyObj :=
  if handleFn h = 0 ∧ s.sealState ≠ Seal.LOST then mget s.ks.objs h else none

/-- SET_POLICY: the policy may only move towards NEVER, and QUORUM may only be set; the record stays one that R133 allows (log entry 44). -/
def execSetPolicy (fn ch : Nat) (s : State) : Host.Outcome State Fault Refusal :=
  mbxRow2 0x0302 1 fn ch (fun r =>
    let h := leAt r.inl 4 4
    let p := leAt r.inl 8 1
    let q := leAt r.inl 9 1
    if r.inl.length < 10 ∨ p > 2 ∨ q > 1 then .bad St.BAD_FIELD
    else match s.pfObj h with
      | none => .bad St.KEY_ABSENT
      | some o =>
        if !o.unsealed then .wait
        else if p > attrPolicy o.attrs ∨ (attrQuorum o.attrs ∧ q = 0) ∨ (q = 1 ∧ p = 0) ∨ (isStateful (attrFam o.attrs) ∧ p = 1) then .bad St.KEY_USAGE
        else
          let a := o.attrs.take 4 ++ [BitVec.ofNat 8 p, BitVec.ofNat 8 (attrFlags o.attrs % 2 + 2 * q)] ++ o.attrs.drop 6
          .done (s.setAttrs h o a) (if attrPersist o.attrs then .okC [] else .ok [])) s

/-- SET_LEAF_BLOCK: handle 0 names the device default (R156). -/
def execSetLeafBlock (fn ch : Nat) (s : State) : Host.Outcome State Fault Refusal :=
  mbxRow2 0x0302 2 fn ch (fun r =>
    let h := leAt r.inl 4 4
    let n := leAt r.inl 8 1
    if r.inl.length < 9 ∨ n < 6 ∨ n > 16 then .bad St.BAD_FIELD
    else if h = 0 then .done (s.wrF Reg.KST_HBS 4 0 n) (.ok [])
    else match s.pfObj h with
      | none => .bad St.KEY_ABSENT
      | some o =>
        if !o.unsealed then .wait
        else if !isStateful (attrFam o.attrs) then .bad St.KEY_USAGE
        else .done (s.setAttrs h o (o.attrs.take 6 ++ natLE 2 n ++ o.attrs.drop 8)) (.okC [])) s

/-- SEALED-LOST ends: the old records are erased, and those written under the present sealing key stay (R159). Without a record the store is
EMPTY, else NORMAL (log entry 144). -/
def State.endLost (s : State) : State :=
  let flash := s.ks.flash.filter (fun f => some f.2.dsk == s.ks.dsk)
  { (s.wrF Reg.KST_STAT 5 4 (if flash.isEmpty then Seal.EMPTY else Seal.NORMAL)) with ks := { s.ks with
      inLost := false
      flash := flash
      ckFlash := s.ks.ckFlash.filter (fun h => (mget s.ks.objs h).isSome) } }

/-- ACK_LOST (R159); while the erase line is held the store stays in SEALED-LOST (R333). -/
def execAckLost (fn ch : Nat) (s : State) : Host.Outcome State Fault Refusal :=
  mbxRow2 0x0302 3 fn ch (fun _ => if s.sealState = Seal.LOST ∧ !s.rdB Reg.TMP_STAT 1 then .done s.endLost (.okC []) else .bad St.STATE) s

/-- CK_AREA: only while the flash code-key area is empty (R140). -/
def execCkArea (fn ch : Nat) (s : State) : Host.Outcome State Fault Refusal :=
  mbxRow2 0x0302 4 fn ch (fun r =>
    let n := leAt r.inl 8 2
    if r.inl.length < 10 ∨ n < 16 ∨ n > 256 then .bad St.BAD_FIELD
    else if !s.ks.ckFlash.isEmpty then .bad St.STATE
    else .done { s with ks := { s.ks with ckMiB := n } } (.ok [])) s

/-! The Sillage log (R162). -/

/-- A measurement enters the log, and the running value follows. -/
def State.measure (s : State) (kind svn op : Nat) (hash : List Byte) : State :=
  let e := natLE 2 s.boot.sillage.length ++ [BitVec.ofNat 8 kind, BitVec.ofNat 8 svn] ++ natLE 2 op ++ zeros 2 ++ fixLen 48 hash
    ++ natLE 8 s.peat.secs
  { s with boot := { s.boot with sillage := s.boot.sillage ++ [e], running := sha3_384 (s.boot.running ++ e) } }

/-- SILLAGE_READ: the first index stands in bytes 0 and 1, the count in bytes 2 and 3 (log entry 22). -/
def execSillageRead (fn ch : Nat) (s : State) : Host.Outcome State Fault Refusal :=
  mbxRow1 0x0501 fn ch (fun r =>
    let i := leAt r.inl 0 2
    let n := leAt r.inl 2 2
    if r.inl.length < 4 ∨ n = 0 ∨ i + n > s.boot.sillage.length then .bad St.BAD_FIELD
    else .done s (.data ((s.boot.sillage.drop i).take n).flatten)) s

/-! Identity and alias keys (R128). -/

/-- ML-DSA-87 and P-384 keys. -/
def p384 : CurveSpec := curve1
def dsaPriv (xi : List Byte) : List Byte := (diGen 2 xi).1
def dsaPub (xi : List Byte) : List Byte := (diGen 2 xi).2
def ecPriv (b : List Byte) : List Byte := natBE 48 (beNat b % (p384.n - 1) + 1)
def ecPub (d : List Byte) : List Byte := ecPubOf p384 d

/-- The device identity seed; unblown fuses read as zeros. -/
def State.didSeed (s : State) : List Byte := s.lc.did.getD (zeros 32)

/-- The identity public keys, ML-DSA-87 then P-384. -/
def State.identityPub (s : State) : List Byte :=
  dsaPub (kmac256 s.didSeed [] 32 "identity-mldsa") ++ ecPub (ecPriv (kmac256 s.didSeed [] 56 "identity-p384"))

/-- The device's identity: attestation claim 2. -/
def State.deviceId (s : State) : List Byte := sha3_256 s.identityPub

/-- The alias private keys: the ML-DSA-87 seed and the P-384 scalar. -/
def State.alias (s : State) : List Byte × List Byte :=
  let a := kmac256 s.didSeed (s.boot.fw ++ [BitVec.ofNat 8 s.lcc]) 64 "alias"
  (a.take 32, ecPriv (kmac256 (a.drop 32) [] 56 "alias-p384"))

def State.aliasPub (s : State) : List Byte := dsaPub s.alias.1 ++ ecPub s.alias.2

/-- CERT_READ (R163): the certificates are the vendor's and the identity keys' (log entry 25). -/
def execCertRead (fn ch : Nat) (s : State) : Host.Outcome State Fault Refusal :=
  mbxRow1 0x0502 fn ch (fun _ => .done s (.data (Config.certificates s.identityPub s.aliasPub s.boot.fw s.lcc))) s

/-! CBOR (RFC 8949, deterministic encoding). -/

def cborHead (major n : Nat) : List Byte :=
  if n < 24 then [BitVec.ofNat 8 (major * 32 + n)]
  else if n < 2 ^ 8 then BitVec.ofNat 8 (major * 32 + 24) :: natBE 1 n
  else if n < 2 ^ 16 then BitVec.ofNat 8 (major * 32 + 25) :: natBE 2 n
  else if n < 2 ^ 32 then BitVec.ofNat 8 (major * 32 + 26) :: natBE 4 n
  else BitVec.ofNat 8 (major * 32 + 27) :: natBE 8 n

def cborU (n : Nat) : List Byte := cborHead 0 n
/-- The negative number −n − 1. -/
def cborN (n : Nat) : List Byte := cborHead 1 n
def cborB (b : List Byte) : List Byte := cborHead 2 b.length ++ b
def cborT (t : String) : List Byte := cborHead 3 (ascii t).length ++ ascii t
def cborA (l : List (List Byte)) : List Byte := cborHead 4 l.length ++ l.flatten
def cborM (l : List (List Byte × List Byte)) : List Byte := cborHead 5 l.length ++ l.flatMap (fun p => p.1 ++ p.2)
def cborBool (b : Bool) : List Byte := [if b then 0xF5 else 0xF4]

/-! ATTEST (R163, R164). -/

/-- A function may use a kernel. -/
def Kernel.granted (k : Kernel) (fn : Nat) : Bool := k.kind == 0 || (match k.grants with | none => true | some l => l.contains fn)

/-- The claims map. -/
def State.claims (s : State) (nonce : List Byte) (fn : Nat) (key : Option (Nat × List Byte × List Byte)) : List Byte :=
  let k := (s.kernels.filter (fun k => k.current)).map (fun k => cborA [cborU k.opcode, cborB k.measure, cborBool (k.granted fn)])
  let base :=
    [(1, cborB nonce), (2, cborB s.deviceId), (3, cborU s.lcc),
     (4, cborA [cborU s.boot.bank, cborU (s.rd 0 Reg.GLB_VERSION).toNat, cborU s.boot.svn, cborB s.boot.fw]),
     (5, cborA [cborU s.boot.sillage.length, cborB s.boot.running]), (6, cborU fn),
     (7, cborA [cborU (s.clustersOf fn), cborBool (s.fn fn).isoDeg]), (8, cborA k),
     (9, cborA [cborU s.sealState, cborU s.ks.lost, cborU (s.peat.counters.getD 3 0)]), (10, cborU (s.rd 0 Reg.RST_CAUSE).toNat),
     (11, cborU s.peat.secs)]
  let named := match key with
    | some (h, a, p) => [(12, cborA [cborU h, cborB a, cborB (sha3_256 p)])]
    | none => []
  cborM ((base ++ named).map (fun c => (cborU c.1, c.2)))

/-- A hedged signature by a key of the device's own. -/
def vendorSign (c : Option CurveSpec) (fam par h : Nat) (priv m rand : List Byte) : List Byte :=
  match schemeSign c fam par Op.SIGN h { publicMat fam par [] with priv := priv } none m [] rand with | some x => x.1 | none => []

/-- One COSE signature: the protected header with algorithm and key identifier, and the signature over the Sig_structure (RFC 9052). -/
def coseSig (alg : Nat) (pub : List Byte) (prot payload : List Byte) (sign : List Byte → List Byte) : List Byte :=
  let hdr := cborM [(cborU 1, cborN (alg - 1)), (cborU 4, cborB ((sha3_256 pub).take 16))]
  let tbs := cborA [cborT "Signature", cborB prot, cborB hdr, cborB [], cborB payload]
  cborA [cborB hdr, cborM [], cborB (sign tbs)]

/-- The statement: COSE_Sign over the claims with both alias keys, hedged with 32 and 56 key-grade bytes (R31). -/
def State.statement (s : State) (rand payload : List Byte) : List Byte :=
  let prot := cborM [(cborU 3, cborT "application/cbor")]
  let r1 := rand.take 32
  let r2 := slice rand 32 56
  let xi := s.alias.1
  let d := s.alias.2
  let a := coseSig 50 (dsaPub xi) prot payload (fun m => vendorSign none 2 2 0 (dsaPriv xi) m r1)
  let b := coseSig 35 (ecPub d) prot payload (fun m => vendorSign (some p384) 0x0A 1 3 d m r2)
  cborA [cborB prot, cborM [], cborB payload, cborA [a, b]]

/-- ATTEST: the nonce inline; with EXT the request buffer holds the function (0–1), whether a handle is named (byte 2), the handle (4–7)
and the nonce from byte 8 on (log entry 22). The blob of a class 0b01 handle is read from the caller's blob table (R147, R164). -/
def execAttest (fn ch : Nat) (req : HostRead) (s : State) : Host.Outcome State Fault Refusal :=
  mbxRow1 0x0500 fn ch (fun r =>
    let p := r.payload req.input
    let nonce := if r.ext then p.drop 8 else p
    let f := if r.ext && fn == 0 then leAt p 0 2 else fn
    let h := leAt p 4 4
    if nonce.length < 8 ∨ nonce.length > 64 ∨ f ≥ 2048 then .bad St.BAD_FIELD
    else if r.ext && leAt p 2 1 == 1 then
      if s.noDsk ∧ handleClass h = 1 then .bad St.STATE
      else match s.resolve fn h req.blobs with
      | .absent => .bad St.KEY_ABSENT
      | .wait => .wait
      | .lost => .bad St.DEVICE_FAULT
      | .key m o =>
        if !s.curveHolds m then .bad St.KEY_USAGE else
        let a := match o with | some x => x.record | none => m.attrs
        if r.rand.length < 88 then .ask 88
        else .done s (.data (s.statement r.rand (s.claims nonce f (some (h, a, m.pub)))))
    else if r.rand.length < 88 then .ask 88
    else .done s (.data (s.statement r.rand (s.claims nonce f none)))) s

end Sys2Proof.Machine
end

