-- ==== Sys2Proof/Machine/Kernels.lean ====
section
/-!
DEFINITION. Kernel images, their loading and unloading, grants and signers (spec file 06, R176, R187 to R190).
-/
namespace Sys2Proof.Machine
open Sys2Proof

/-! Images. -/

/-- A window of the header: base, then size. -/
def winAt (b : List Byte) (off : Nat) : Window := ⟨leAt b off 4, leAt b (off + 4) 4⟩

/-- A window is aligned and lies in data memory; one of no bytes lies nowhere (R176; log entry 45). -/
def Window.good (w : Window) : Bool :=
  w.base % 32 == 0 && w.size % 32 == 0 && (w.size == 0 || (decide (0x10000 ≤ w.base) && decide (w.base + w.size ≤ 0x40000)))

def Window.apart (a b : Window) : Bool :=
  a.size == 0 || b.size == 0 || decide (a.base + a.size ≤ b.base) || decide (b.base + b.size ≤ a.base)

/-- No two windows of a list overlap. -/
def allApart : List Window → Bool
  | [] => true
  | w :: t => t.all w.apart && allApart t

/-- A parameter entry. -/
def paramAt (b : List Byte) : KParam := ⟨leAt b 0 1, leAt b 1 1, leAt b 4 4, leAt b 8 4, leAt b 12 4⟩

/-- The body's parameter entries. -/
def imageParams (b : List Byte) : List KParam := (List.range (leAt b 37 1)).map (fun i => paramAt (slice b (128 + 16 * i) 16))

/-- Length of the body. -/
def imageBody (b : List Byte) : Nat := 128 + 16 * leAt b 37 1 + 4096 * leAt b 38 1 + leAt b 12 4 + leAt b 116 4

/-- Numbers that occur once. -/
def distinct : List Nat → Bool
  | [] => true
  | a :: t => !t.contains a && distinct t

/-- The opcodes a kernel may serve. -/
def kernelOpOk (kind op : Nat) : Bool :=
  op / 4096 == 8 || (kind == 0 && [0x01, 0x02, 0x03, 0x04, 0x05, 0x06, 0x07, 0x08, 0x0F, 0x10, 0x11].contains (op / 256))

/-- The header obeys its table, which sets no check on the initial values of QM and GFP (DESIGN CHOICE, log entry 157). -/
def headerOk (b : List Byte) : Bool :=
  let q := fun (o : Nat) => leAt b o 4
  let c := q 12
  decide (128 ≤ b.length) && b.take 4 == ascii "EBKN" && leAt b 4 1 == 1 && leAt b 5 1 ≤ 1 && kernelOpOk (leAt b 5 1) (leAt b 6 2) &&
  q 8 == b.length && c % 4 == 0 && 4 ≤ c && c ≤ 65536 && q 16 % 4 == 0 && q 16 < c &&
  (q 20 == 0xFFFFFFFF || (q 20 % 4 == 0 && q 20 < c)) && q 24 < 16 && q 28 % 2 == 0 && q 28 < 2 ^ 18 && leAt b 36 1 ≤ 63 &&
  1 ≤ leAt b 37 1 && leAt b 37 1 ≤ 16 && leAt b 38 1 ≤ 8 && leAt b 39 1 == 0 && q 40 ≤ 4096 && 1 ≤ q 44 && q 44 ≤ 100000 &&
  1 ≤ q 48 && q 48 ≤ 2 ^ 20 && q 52 % 4096 == 0 && q 52 ≤ 393216 && q 116 % 32 == 0 && q 116 ≤ q 76 && leAt b 120 8 == 0

/-- The windows, in the header's order: INPUT, AUX, WORK, SECRET, OUTPUT. -/
def imageWindows (b : List Byte) : List Window := [56, 64, 72, 80, 88].map (winAt b)

/-- The windows obey R176 and R188. -/
def windowsOk (b : List Byte) : Bool :=
  let w := imageWindows b
  let secret := (winAt b 80).size
  w.all Window.good && allApart w &&
  (secret != 0 || (leAt b 28 4 == 0 && !(leAt b 24 4).testBit 1 && !(leAt b 24 4).testBit 2))

/-- The parameter table obeys its own. -/
def paramsOk (b : List Byte) : Bool :=
  let ps := imageParams b
  distinct (ps.map (·.index)) &&
  ps.all (fun p => p.flags < 32 && p.inLen ≤ 2 ^ 30 && p.auxLen ≤ 2 ^ 30 && p.out ≤ (winAt b 88).size) &&
  (List.range (leAt b 37 1)).all (fun i => leAt b (128 + 16 * i + 2) 2 == 0)

/-- The trailer obeys its table, and the image length agrees with the parts. -/
def trailerOk (b : List Byte) : Bool :=
  let n := imageBody b
  let sig := leAt b (n + 24) 4
  decide (n + 28 ≤ b.length) && slice b n 4 == ascii "EBKS" && leAt b (n + 4) 1 == 2 - leAt b 5 1 && leAt b (n + 5) 3 == 0 &&
  b.length == n + 28 + sig && (if leAt b 5 1 = 1 then sig == 4627 else decide (4627 < sig))

def imageOk (b : List Byte) : Bool := headerOk b && windowsOk b && paramsOk b && trailerOk b

/-- The key identifier of a key. -/
def keyIdent (pub : List Byte) : List Byte := (sha3_256 pub).take 16

/-- A pure ML-DSA-87 signature verifies. -/
def mldsaOk (pub msg sig : List Byte) (ctx : String) : Bool := mldsaVerify 2 pub msg sig ctx

/-- Public keys of the registered owner signers (R190). -/
def State.signerKeys (s : State) : List (List Byte) :=
  s.signers.filterMap (fun x => (mget s.ks.objs x.2).map (fun o => o.act.pub))

/-- The signatures verify (R187). -/
def State.imageSigned (s : State) (b : List Byte) : Bool :=
  let n := imageBody b
  let body := b.take n
  let kid := slice b (n + 8) 16
  let sig := b.drop (n + 28)
  if leAt b 5 1 = 1 then s.signerKeys.any (fun k => keyIdent k == kid && mldsaOk k body sig "EBLOS-KERNEL")
  else
    let k := fixLen 2592 Config.vendorKernelKey
    keyIdent k == kid && mldsaOk k body (sig.take 4627) "EBLOS-KERNEL" &&
      hssVerify 0 Config.vendorKernelHss body (sig.drop 4627)

/-- The kernel an image holds. -/
def kernelOfImage (b : List Byte) (persist : Bool) (grants : Option (List Nat)) (slots : List Nat) : Kernel :=
  let q := fun (o : Nat) => leAt b o 4
  let p := leAt b 37 1
  let t := 4096 * leAt b 38 1
  let at0 := 128 + 16 * p
  { kind := leAt b 5 1, opcode := leAt b 6 2, codeLen := q 12, entry := q 16, handler := if q 20 = 0xFFFFFFFF then none else some (q 20)
    caps := q 24, famMask := q 28, use1 := leAt b 32 2, use2 := leAt b 34 2, svn := leAt b 36 1, tables := leAt b 38 1, entropy := q 40
    valTime := q 44, cycles := q 48, sram := q 52, input := winAt b 56, aux := winAt b 64, work := winAt b 72, secret := winAt b 80
    output := winAt b 88, qm := [96, 100, 104, 108].map q, gfp := q 112, params := imageParams b, twiddles := slice b at0 t
    code := slice b (at0 + t) (q 12), data := slice b (at0 + t + q 12) (q 116), measure := sha3_384 (b.take (imageBody b))
    signer := slice b (imageBody b + 8) 16, persist := persist, grants := grants, slots := slots, current := true }

/-! Space (R189). -/

/-- Bytes of the kernel cache that a kernel takes. -/
def Kernel.cached (k : Kernel) : Nat := 128 + 16 * k.params.length + k.codeLen + k.data.length

/-- A command in flight resolved the kernel. -/
def State.kernelUsed (s : State) (k : Kernel) : Bool := s.cmds.any (fun c => c.2.kern && c.2.op == k.opcode && c.2.note == k.measure)

/-- Kernels that hold space when one for an opcode arrives: the one it replaces leaves once its last run ends (log entry 45). -/
def State.resident (s : State) (op : Nat) : List Kernel := s.kernels.filter (fun k => (k.current && k.opcode != op) || s.kernelUsed k)

/-- The twiddle slots for a kernel of a kind, where enough are free. -/
def State.freeTwiddles (s : State) (op kind t : Nat) : Option (List Nat) :=
  let used := (s.resident op).flatMap (fun k => k.slots)
  let base := if kind = 0 then 0 else 8
  let l := ((List.range 8).map (· + base)).filter (fun x => !used.contains x)
  if l.length < t then none else some (l.take t)

/-- The cache takes n more bytes of a kind. -/
def State.cacheTakes (s : State) (op kind n : Nat) : Bool :=
  let used := ((s.resident op).filter (fun k => k.kind == kind)).foldl (fun a k => a + k.cached) 0
  decide (used + n ≤ (if kind = 0 then 160 else 96) * 1024)

/-! Commands. -/

/-- The kernel is installed; a persistent one takes the place of another persistent one (R190). -/
def State.install (s : State) (k : Kernel) : State :=
  let old := s.kernels.map (fun (x : Kernel) =>
    if x.opcode = k.opcode then { x with current := false, persist := x.persist && !k.persist } else x)
  { s with kernels := old ++ [k] }

/-- KERNEL_LOAD (R190). -/
def execKernelLoad (fn ch : Nat) (req : List Byte) (s : State) : Host.Outcome State Fault Refusal :=
  mbxRow1 0x0400 fn ch (fun r =>
    let b := r.payload req
    let op := leAt b 6 2
    let kind := leAt b 5 1
    if !r.ext || !imageOk b then .bad St.BAD_FIELD
    else if !s.imageSigned b then .bad AUTH_FAILED
    else if s.kernels.any (fun k => k.opcode == op && (k.current || k.persist) && decide (leAt b 36 1 < k.svn)) then .bad ROLLBACK
    else match s.freeTwiddles op kind (leAt b 38 1) with
      | none => .bad St.QUOTA
      | some slots =>
        let grants := match s.kernels.find? (fun k => k.opcode == op && k.current && k.kind == 1) with | some k => k.grants | none => some []
        let k := kernelOfImage b ((leAt r.inl 0 1).testBit 0) grants slots
        if !s.cacheTakes op kind k.cached then .bad St.QUOTA
        else if s.boot.sillage.length ≥ 4096 then .bad St.STATE
        else .done ((s.measure (3 + kind) k.svn op k.measure).install k)
          (.okC (natLE 2 op ++ [BitVec.ofNat 8 k.svn, 0] ++ k.measure))) s

/-- The loaded owner kernel of an opcode. -/
def State.ownerKernel (s : State) (op : Nat) : Option Kernel := s.kernels.find? (fun k => k.opcode == op && k.current && k.kind == 1)

/-- A kernel of the opcode is kept in flash. -/
def State.persisted (s : State) (op : Nat) : Bool := s.kernels.any (fun k => k.opcode == op && k.persist)

/-- KERNEL_UNLOAD: later commands find no kernel; it ends at KERNEL_UNLOAD_DONE (R190). Taking a persisted kernel out of flash is its
commit point (R119). -/
def execKernelUnload (fn ch : Nat) (s : State) : Host.Outcome State Fault Refusal :=
  mbxRow1 0x0401 fn ch (fun r =>
    let op := leAt r.inl 0 2
    let s1 := if s.persisted op then s.mbxCommit (mbxKey fn ch) else s
    if r.inl.length < 2 ∨ (s.ownerKernel op).isNone then .bad St.BAD_FIELD
    else .runs { s1 with kernels := s.kernels.map (fun (k : Kernel) =>
      if k.opcode = op then { k with current := false, persist := false } else k) }) s

/-- KERNEL_UNLOAD_DONE: the last run of the kernel has ended 10 ms ago. -/
def execKernelUnloadDone (op : Nat) (s : State) : Host.Outcome State Fault Refusal :=
  match s.mbx.find? (fun x => x.2.started && x.2.code == 0x0401 && leAt x.2.inl 0 2 == op) with
  | none => .next s
  | some (key, _) =>
    if s.kernels.any (fun k => k.opcode == op && !k.current && s.kernelUsed k) then .next s
    else .next ({ s with kernels := s.kernels.filter (fun k => k.opcode != op || k.current || k.persist) }.mbxEnd key (.ok []))

/-- The grants after a change for one function, or for all with 0xFFFF. -/
def grantTo (g : Option (List Nat)) (f : Nat) (on : Bool) : Option (List Nat) :=
  if f = 0xFFFF then (if on then none else some [])
  else match g with
    | none => if on then none else some ((List.range 2048).filter (· != f))
    | some l => some (if on then (if l.contains f then l else l ++ [f]) else l.filter (· != f))

/-- A change of the grants of an opcode; those of a persisted kernel change in flash. -/
def State.grantRow (s : State) (r : MbxReq) (on : Bool) : Course :=
  let op := leAt r.inl 2 2
  let f := leAt r.inl 4 2
  if r.inl.length < 6 ∨ (s.ownerKernel op).isNone ∨ (f ≥ 2048 ∧ f ≠ 0xFFFF) then .bad St.BAD_FIELD
  else .done { s with kernels := s.kernels.map (fun (k : Kernel) => if k.opcode = op then { k with grants := grantTo k.grants f on } else k) }
    (if s.persisted op then .okC [] else .ok [])

/-- GRANT. -/
def execGrant (fn ch : Nat) (s : State) : Host.Outcome State Fault Refusal := mbxRow2 0x0402 1 fn ch (fun r => s.grantRow r true) s

/-- REVOKE. -/
def execRevoke (fn ch : Nat) (s : State) : Host.Outcome State Fault Refusal := mbxRow2 0x0402 2 fn ch (fun r => s.grantRow r false) s

/-- The signer of a slot goes, with its key object. -/
def State.clearSigner (s : State) (slot : Nat) : State :=
  match mget s.signers slot with
  | none => s
  | some h => { (s.dropObj h) with signers := mdel s.signers slot }

/-- A change of signers needs a quorum session in DEPLOYED (R190, R381). -/
def State.signerQuorum (s : State) : Bool := s.lcc != Lc.DEPLOYED || s.quorumFor 4

/-- Attribute record of a signer: ML-DSA-87, VERIFY, persistent. -/
def signerAttrs : List Byte := [2, 2, 2, 0, 0, 1] ++ zeros 26

/-- SIGNER_SET: the key becomes a key object of PF0 (R190). -/
def execSignerSet (fn ch : Nat) (req : List Byte) (s : State) : Host.Outcome State Fault Refusal :=
  mbxRow2 0x0402 0x10 fn ch (fun r =>
    let slot := leAt r.inl 1 1
    if r.inl.length < 2 ∨ slot > 3 ∨ !r.ext ∨ r.reqLen ≠ 2592 then .bad St.BAD_FIELD
    else if !s.signerQuorum then .bad St.QUORUM_REQUIRED
    else match (s.clearSigner slot).newObj 0 signerAttrs [] (r.payload req) with
      | .error d => .bad d.status
      | .ok (t, h) => .done { t with signers := mput t.signers slot h } (.okC [])) s

/-- SIGNER_CLEAR: loaded kernels stay loaded. -/
def execSignerClear (fn ch : Nat) (s : State) : Host.Outcome State Fault Refusal :=
  mbxRow2 0x0402 0x11 fn ch (fun r =>
    let slot := leAt r.inl 1 1
    if r.inl.length < 2 ∨ slot > 3 then .bad St.BAD_FIELD
    else if !s.signerQuorum then .bad St.QUORUM_REQUIRED
    else .done (s.clearSigner slot) (if (mget s.signers slot).isSome then .okC [] else .ok [])) s

/-- An entry of KERNEL_LIST. -/
def Kernel.entry64 (k : Kernel) : List Byte :=
  let g := match k.grants with | some l => if k.kind = 0 then 2 ^ 32 - 1 else l.length | none => 2 ^ 32 - 1
  natLE 2 k.opcode ++ [BitVec.ofNat 8 k.kind, BitVec.ofNat 8 k.svn, BitVec.ofNat 8 (b2n k.persist), 0, 0, 0] ++ natLE 4 k.codeLen ++ natLE 4 g
    ++ k.measure

/-- KERNEL_LIST. -/
def execKernelList (fn ch : Nat) (s : State) : Host.Outcome State Fault Refusal :=
  mbxRow1 0x0403 fn ch (fun _ =>
    let l := s.kernels.filter (fun k => k.current)
    .done s ⟨St.SUCCESS, natLE 4 l.length, l.flatMap Kernel.entry64, 0, false⟩) s

end Sys2Proof.Machine
end

