-- ==== Sys2Proof/Machine/Firmware.lean ====
section
/-!
DEFINITION. Firmware banks and their update (spec file 04, R122 to R124), a host-pushed image (R300), Hearth's failover and the watchdogs
(R125 to R127).
-/
namespace Sys2Proof.Machine
open Sys2Proof

/-! Banks. -/

def State.bank (s : State) (i : Nat) : FwBank := s.boot.banks.getD i .blank
def State.setBank (s : State) (i : Nat) (b : FwBank) : State := { s with boot := { s.boot with banks := s.boot.banks.set i b } }

/-- The bank that is not running. -/
def State.otherBank (s : State) : Nat := 1 - s.boot.bank

/-- The bytes of a bank. -/
def FwBank.bytes (b : FwBank) : List Byte := readBytes b.image 0 b.len

/-- Checks of an image: 0 passes (R123, R299). -/
def State.fwCheck (s : State) (img : List Byte) : Nat :=
  if !Config.fwSigned img then AUTH_FAILED
  else if (Config.fwSvn img).toNat < s.lc.minSvn then ROLLBACK
  else 0

/-- FW_STAGE: the first one after any other command erases the bank (R123). A chunk that would pass the bank's end is BAD_FIELD (DESIGN CHOICE,
log entry 156). -/
def execFwStage (fn ch : Nat) (req : List Byte) (s : State) : Host.Outcome State Fault Refusal :=
  mbxRow1 0x0A00 fn ch (fun r =>
    let off := leAt r.inl 0 4
    if !r.ext ∨ r.inl.length < 4 ∨ off + r.reqLen > 32 * 2 ^ 20 then .bad St.BAD_FIELD
    else
      let i := s.otherBank
      let b := if s.boot.staging then s.bank i else .blank
      let b1 : FwBank := { state := .invalid, image := writeBytes b.image off (r.payload req), len := Nat.max b.len (off + r.reqLen), failed := false }
      let t := s.setBank i b1
      .done { t with boot := { t.boot with staging := true } } (.ok [])) s

/-- FW_VERIFY. -/
def execFwVerify (fn ch : Nat) (s : State) : Host.Outcome State Fault Refusal :=
  mbxRow1 0x0A01 fn ch (fun _ =>
    let b := s.bank s.otherBank
    let e := s.fwCheck b.bytes
    if e ≠ 0 then .bad e else .done (s.setBank s.otherBank { b with state := .staged }) (.ok [])) s

/-- FW_ACTIVATE: the staged bank becomes the trial of the next boot. -/
def execFwActivate (fn ch : Nat) (s : State) : Host.Outcome State Fault Refusal :=
  mbxRow1 0x0A02 fn ch (fun _ =>
    let b := s.bank s.otherBank
    if b.state = .staged then .done (s.setBank s.otherBank { b with state := .trial }) (.okC []) else .bad St.STATE) s

/-- FW_CONFIRM: the running trial becomes the preferred bank. -/
def execFwConfirm (fn ch : Nat) (s : State) : Host.Outcome State Fault Refusal :=
  mbxRow1 0x0A03 fn ch (fun _ =>
    let b := s.bank s.boot.bank
    if s.boot.trial && b.state == .trial then
      let t := s.setBank s.boot.bank { b with state := .confirmed, failed := false }
      .done { t with boot := { t.boot with trial := false, prefer := s.boot.bank } } (.okC [])
    else .bad St.STATE) s

/-- FW_COMMIT_SVN: only on a confirmed bank. -/
def execFwCommitSvn (fn ch : Nat) (s : State) : Host.Outcome State Fault Refusal :=
  mbxRow1 0x0A04 fn ch (fun _ =>
    if (s.bank s.boot.bank).state = .confirmed ∧ !s.boot.pushed then
      .done { s with lc := { s.lc with minSvn := Nat.max s.lc.minSvn s.boot.svn } } (.okC [])
    else .bad St.STATE) s

/-- The code of a bank in FW_STATUS: TRIAL_FAILED until the next FW_STAGE (R124). -/
def FwState.code : FwState → Nat
  | .invalid => 0
  | .staged => 1
  | .trial => 2
  | .confirmed => 3
  | .trialFailed => 4

/-- FW_STATUS. The bytes staged are those up to the highest end of a chunk (DESIGN CHOICE, log entry 156). -/
def execFwStatus (fn ch : Nat) (s : State) : Host.Outcome State Fault Refusal :=
  mbxRow1 0x0A05 fn ch (fun _ =>
    let b := s.bank s.otherBank
    let svn := if b.state = .invalid then 0xFF else (Config.fwSvn b.bytes).toNat
    .done s (.ok ([s.boot.bank, if b.failed then 4 else b.state.code, s.lc.minSvn, s.boot.svn, svn].map (BitVec.ofNat 8) ++ zeros 3 ++ natLE 4 b.len))) s

/-! Boot of an image (R299, step 5). -/

/-- A verified image starts: its measurement is Sillage entry 1, and GLB_VERSION is reloaded. -/
def State.startImage (s : State) (img : List Byte) : State :=
  let fw := sha3_384 img
  let svn := (Config.fwSvn img).toNat
  let s1 := s.measure 1 svn 0 fw
  let s2 := s1.wr 0 Reg.GLB_VERSION (setBits (Config.fwVersion img) 0 0 s.boot.bank)
  { s2 with boot := { s2.boot with stage := .firmware, fw := fw, svn := svn, iface := (Config.fwInterface img).toNat, since := s.now } }

/-- KINDLING_LOAD: a host-pushed image is checked and started; a failed one leaves Kindling ready for another (R300). -/
def execKindlingLoad (fn ch : Nat) (req : List Byte) (s : State) : Host.Outcome State Fault Refusal :=
  mbxRow1 kindlingLoad fn ch (fun r =>
    let img := r.payload req
    let e := s.fwCheck img
    if !r.ext then .bad St.BAD_FIELD
    else if e ≠ 0 then .bad e
    else .done ({ s with boot := { s.boot with pushed := true } }.startImage img) (.ok [])) s

/-! Trials (R124). -/

/-- The running trial is abandoned: the next boot runs the previous bank. -/
def State.failTrial (s : State) : State :=
  if s.boot.trial ∧ (s.bank s.boot.bank).state = .trial then s.setBank s.boot.bank { s.bank s.boot.bank with state := .trialFailed, failed := true } else s

/-- TRIAL_READY_TIMEOUT: 2 s after the trial boot READY is not set. -/
def execTrialReadyTimeout (s : State) : Host.Outcome State Fault Refusal :=
  .next (if s.boot.stage = .firmware then s.failTrial else s)

/-! Hearth (R125 to R127). -/

/-! HRT_STAT.STANDBY. -/
namespace Sb
def SYNC : Nat := 0
def RESYNC : Nat := 1
def RETIRED : Nat := 2
end Sb

def State.standby (s : State) : Nat := s.rdF Reg.HRT_STAT 3 2

/-- Firmware runs on a Hearth pair. -/
def State.hearthRuns (s : State) : Bool := s.boot.stage == .kindling || s.boot.stage == .kindlingMbx || s.boot.stage == .firmware || s.boot.stage == .ready

/-- The low-speed ports act: with VIN and VIO, outside a full reset (R318, R319). -/
def State.lowPorts (s : State) : Bool := s.pwr.vin && s.pwr.vioOk && s.hearthRuns

/-- A reset with cause Hearth watchdog; a trial not yet confirmed is abandoned (R124, R127). -/
def State.hearthReset (s : State) : State := s.failTrial.fullReset [3]

/-- The management role moves to the standby, and the channels that hold a request show it; what becomes of the failed pair comes with it
(R125). -/
def State.failover (s : State) (next : Nat) : State :=
  let s1 := ((s.wrF Reg.HRT_STAT 0 0 (1 - s.rdF Reg.HRT_STAT 0 0)).wrF Reg.HRT_STAT 3 2 next).incF Reg.HRT_STAT 23 16 1
  (s1.mbx.filter (fun m => decide (m.1 < 65536))).foldl (fun (x : State) m => x.setMstat (m.1 / 4) (m.1 % 4) 5 true) s1

/-- LOCKSTEP_MISMATCH: the standby takes over, or a full reset follows where none is in service. -/
def execLockstepMismatch (s : State) : Host.Outcome State Fault Refusal :=
  if s.hearthRuns then
    let a := s.rdF Reg.HRT_STAT 0 0
    if s.standby = Sb.SYNC then .next ((s.fault (248 + a) 0 false false true).failover Sb.RESYNC)
    else .next ((s.failTrial.flt1 (248 + a) 0).flt1 250 clsF).hearthReset
  else .next s

/-- PAIR_SELFTEST_DONE: the pair returns as standby or is retired; the standby's first synchronisation after a boot ends the same way. -/
def execPairSelftestDone (pass : Bool) (s : State) : Host.Outcome State Fault Refusal :=
  if s.standby = Sb.RESYNC then
    let p := 249 - s.rdF Reg.HRT_STAT 0 0
    let s1 := s.fltEnd p
    .next (if pass then s1.wrF Reg.HRT_STAT 3 2 Sb.SYNC else (s1.wrF Reg.HRT_STAT 3 2 Sb.RETIRED).flt1 p 1)
  else .next s

/-- DISPATCH_WATCHDOG: the core is retired and the spare replays its jobs; a second expiry within 10 s resets the device (R126). Which
jobs a core held comes with the event. -/
def execDispatchWatchdog (core : Nat) (jobs : List Nat) (s : State) : Host.Outcome State Fault Refusal :=
  if core < 8 ∧ s.hearthRuns then
    let again := match s.boot.dispExp with | some t => decide (s.now - t ≤ 10 ^ 9) | none => false
    let s1 := s.wrF Reg.HRT_STAT 15 8 (s.rdF Reg.HRT_STAT 15 8 ||| 2 ^ core)
    let s2 := (jobs.foldl (fun (x : State) j => x.modCmd j (fun c => { c with replayed := true })) s1).flt1 (251 + core) 1
    let s3 := { s2 with boot := { s2.boot with dispExp := some s.now } }
    .next (if again then s3.fullReset [4] else s3)
  else .next s

/-- HEARTH_WATCHDOG (R127). -/
def execHearthWatchdog (s : State) : Host.Outcome State Fault Refusal := .next (if s.hearthRuns then s.hearthReset else s)

end Sys2Proof.Machine
end

