-- ==== Sys2Proof/Machine/Tamper.lean ====
section
/-!
DEFINITION. Tamper sources, their filter and responses, the lock, the built-in test of a channel, and the peat domain's scanner, clock and
log (spec file 13, R328 to R346).
-/
namespace Sys2Proof.Machine
open Sys2Proof

/-! Sources (R328, R336). -/

/-- The source numbers of the table. -/
def tmpSources : List Nat := (List.range 15) ++ (List.range 16).map (· + 16) ++ [32, 33, 34, 36, 37, 38, 40, 41] ++ (List.range 8).map (· + 44) ++ [53]

/-- Hard-erase sources. -/
def tmpHard (i : Nat) : Bool := i ≤ 13

/-- N and W of the source are fixed. -/
def tmpFixed (i : Nat) : Bool := i == 13 || i == 53

def tmpN (w : Word) : Nat := fld w 11 4
/-- W in 10 ns units. -/
def tmpW (w : Word) : Nat := fld w 15 12 * 10 ^ fld w 18 16 * 100

/-- A value that R336 lets a source take. -/
def tmpOk (lcc i : Nat) (w : Word) : Bool :=
  tmpSources.contains i && (tmpFixed i ||
    (1 ≤ tmpN w && 1 ≤ fld w 15 12 && tmpW w ≤ 6 * 10 ^ 9 &&
      (!(tmpHard i && lcc == Lc.DEPLOYED) || (tmpN w ≤ 4 && tmpW w ≤ 10 ^ 6))))

/-- The value a source runs with: its register's, in HOLD its default with the FAIL bits of its channels (R334). -/
def State.tmpReg (s : State) (i : Nat) : Word :=
  let w := s.rd 0 (Reg.TMP_SRC i)
  if s.boot.hold then setBits (tmpDefault i) 21 20 (fld w 21 20) else w

/-- A source takes a value: HARD and the FAIL bits stay, and a hard-erase source keeps EN, LOG and ERASE. -/
def State.setTmpSrc (s : State) (i : Nat) (v : Word) : State :=
  let old := s.rd 0 (Reg.TMP_SRC i)
  let w1 := setBits old 31 31 (b2n (bitAt v 31 || tmpHard i))
  let w2 := if tmpFixed i then w1 else setBits w1 18 4 (fld v 18 4)
  s.wr 0 (Reg.TMP_SRC i) (setBits w2 3 0 (fld v 3 0 ||| (if tmpHard i then 9 else 1)))

def State.tmpLocked (s : State) : Bool := s.rdB Reg.TMP_STAT 0

def TmpSrc.quiet : TmpSrc := ⟨[], none, true, false, 0⟩
def State.tmpSrc (s : State) (i : Nat) : TmpSrc := (mget s.tmp i).getD .quiet

/-- The source has had no event for a time. -/
def State.tmpQuietFor (s : State) (i t : Nat) : Bool := match (s.tmpSrc i).last with | some l => decide (l + t ≤ s.now) | none => true

/-! Responses (R331 to R333). -/

def State.tmpSticky (s : State) (i : Nat) : Bool := s.rdB (Reg.TMP_STICKY (i / 32)) (i % 32)

/-- ALERT_N is driven low: some source with ALERT has its sticky bit set. -/
def State.alertLow (s : State) : Bool := tmpSources.any (fun i => s.tmpSticky i && bitAt (s.tmpReg i) 1)

/-- LOG: the sticky bit, the peat log entry, and the first-alarm record where it is empty. -/
def State.tmpLog (s : State) (i resp chans : Nat) : State :=
  let s1 := (s.wrB (Reg.TMP_STICKY (i / 32)) (i % 32) true).peatLog 0x01 i resp chans
  if s1.rdB Reg.TMP_FIRST 31 then s1
  else s1.wr 0 Reg.TMP_FIRST (BitVec.ofNat 32 (2 ^ 31 + resp * 2 ^ 24 + i * 2 ^ 16 + s1.peat.counters.getD 0 0 % 65536))

/-- ERASE: the erase line is asserted and held, and no SLS is drawn meanwhile. -/
def State.tmpErase (s : State) : State :=
  let s1 := s.eraseKeys.endRestores.wrB Reg.TMP_STAT 1 true
  { s1 with nrg := { s1.nrg with queue := s1.nrg.queue.filter (fun r => r.who != .management 1) } }

/-- The device is in Kindling, which an erase does not restart (R307). -/
def State.inKindling (s : State) : Bool := s.boot.stage == .kindling || s.boot.stage == .kindlingMbx

/-- Alarms that arrive together, with their channels in the order of their sources: the union of their responses in the order ERASE, RESET,
ALERT, LOG, and the clears of R242 and R280, whatever the responses (R331, R332; log entry 151). A source whose RESET is spent causes none
(R333), nor does an erase in Kindling (R307). -/
def State.alarms (s : State) (l : List (Nat × Nat)) : State :=
  let resp := fun (i : Nat) => fld (s.tmpReg i) 3 0
  let erase := l.any (fun x => (resp x.1).testBit 3)
  let reset := fun (i : Nat) => (resp i).testBit 2 && !(s.tmpSrc i).reset && !(erase && s.inKindling)
  let s1 := (if erase then s.tmpErase else s).dgeClear.nrgClear
  let mark := fun (x : State) (a : Nat × Nat) => if reset a.1 then { x with tmp := mput x.tmp a.1 { x.tmpSrc a.1 with reset := true } } else x
  let s2 := l.foldl mark s1
  let s3 := if l.any (fun x => reset x.1) then s2.fullReset [5] else s2
  let s4 := if l.any (fun x => (resp x.1).testBit 1) && s3.rdB Reg.TMP_CTRL 6 && s3.hearthRuns then s3.msix 0 (s3.rdF Reg.TMP_CTRL 5 0) else s3
  l.foldl (fun (x : State) a => x.tmpLog a.1 (if (resp a.1).testBit 2 && !reset a.1 then resp a.1 - 4 else resp a.1) a.2) s4

/-- A source free of events for 1 s may cause a RESET again (R333). -/
def State.tmpFree (s : State) (i : Nat) : State :=
  if s.tmpQuietFor i (10 ^ 8) then { s with tmp := mmod s.tmp i (fun (r : TmpSrc) => { r with reset := false }) } else s

/-- An event of an enabled source in the filter (R330): it is counted, and the source alarms when N events lie within W. -/
def State.tmpCount (s : State) (i : Nat) : State × Bool :=
  let w := s.tmpReg i
  let r := (s.tmpFree i).tmpSrc i
  let n := if tmpFixed i then 1 else tmpN w
  let win := tmpW w
  let r1 : TmpSrc :=
    { r with
      events := (r.events.filter (fun t => decide (s.now < t + win))) ++ [s.now]
      last := some s.now
      armed := r.armed || s.tmpQuietFor i win }
  if !bitAt w 31 then (s, false)
  else if r1.armed && n ≤ r1.events.length then ({ s with tmp := mput s.tmp i { r1 with armed := false, events := [] } }, true)
  else ({ s with tmp := mput s.tmp i r1 }, false)

/-- Events of one sample, by source and channels: counted in the order of the sources; the sources that alarm do so together (R329, R332). -/
def State.tmpEvents (s : State) (l : List (Nat × Nat)) : State :=
  let chans := fun (i : Nat) => (l.filter (fun x => x.1 == i)).foldl (fun n x => n ||| x.2) 0
  let r := (tmpSources.filter (fun i => chans i != 0)).foldl (fun (x : State × List (Nat × Nat)) i =>
    let y := x.1.tmpCount i
    (y.1, if y.2 then x.2 ++ [(i, chans i)] else x.2)) (s, [])
  if r.2.isEmpty then r.1 else r.1.alarms r.2

/-- An event of one source. -/
def State.tmpEvent (s : State) (i chans : Nat) : State := s.tmpEvents [(i, chans)]

/-- The channels of a source that reach the filter: one under test does not, nor one that failed its test (R338). -/
def State.tmpChans (s : State) (i chans : Nat) : Nat :=
  let w := s.tmpReg i
  let test := match s.tmpTest with | some t => if t.source = i ∧ !t.inj then 2 ^ t.ch else 0 | none => 0
  let out := test ||| (fld w 21 20 &&& (3 - (s.tmpSrc i).injFail))
  (if chans.testBit 0 && !out.testBit 0 then 1 else 0) + (if chans.testBit 1 && !out.testBit 1 then 2 else 0)

/-- TAMPER_EVENT: while VIN is present, the sources and channels that report an event in one sample (R329, R330, R332). Source 13 senses VBAT
without VIN. -/
def execTamperEvent (srcs chans : List Nat) (s : State) : Host.Outcome State Fault Refusal :=
  if s.pwr.vin then .next (s.tmpEvents (((srcs.zip chans).filter (fun x => x.1 != 13)).map (fun x => (x.1, s.tmpChans x.1 x.2)))) else .next s

/-- Every enabled source whose response includes ERASE has been free of events for 10 ms (R333). -/
def State.erasersQuiet (s : State) : Bool :=
  tmpSources.all (fun i => !(bitAt (s.tmpReg i) 31 && bitAt (s.tmpReg i) 3) || s.tmpQuietFor i (10 ^ 6))

/-- ERASE_LINE_RELEASE: the line releases, and a new SLS is drawn (R130, R333). -/
def execEraseLineRelease (s : State) : Host.Outcome State Fault Refusal :=
  if s.rdB Reg.TMP_STAT 1 && s.erasersQuiet then
    let s1 := s.wrB Reg.TMP_STAT 1 false
    .next (if s1.peat.slsValid then s1 else s1.askSls)
  else .next s

/-! Configuration and the lock (R334 to R337). -/

/-- The pairs of TMP_CONFIG. -/
def tmpPairs : Nat → List Byte → List (Nat × Word)
  | 0, _ => []
  | n + 1, l => (leAt l 0 4, BitVec.ofNat 32 (leAt l 4 4)) :: tmpPairs n (l.drop 8)

/-- TMP_CONFIG: every pair at once, or none. -/
def execTmpConfig (fn ch : Nat) (req : List Byte) (s : State) : Host.Outcome State Fault Refusal :=
  mbxRow1 0x0700 fn ch (fun r =>
    let b := r.payload req
    let ps := tmpPairs (b.length / 8) b
    if s.tmpLocked then .bad St.STATE
    else if !r.ext ∨ b.length % 8 ≠ 0 ∨ b.length < 8 ∨ b.length > 512 ∨ !ps.all (fun p => tmpOk s.lcc p.1 p.2) then .bad St.BAD_FIELD
    else .done (ps.foldl (fun (x : State) p => x.setTmpSrc p.1 p.2) s) (.ok [])) s

/-- The lock is set, with its log entry. -/
def State.tmpLock (s : State) : State := (s.wrB Reg.TMP_STAT 0 true).peatLog 0x04 0 0 0

/-- TMP_LOCK. -/
def execTmpLock (fn ch : Nat) (s : State) : Host.Outcome State Fault Refusal :=
  mbxRow1 0x0701 fn ch (fun _ => if s.tmpLocked then .bad St.STATE else .done s.tmpLock (.ok [])) s

/-! Built-in test (R338). -/

/-- The next waiting test starts: PF0's and injected ones first, then the series of the firmware over every channel of every enabled
source. -/
def State.nextTmpTest (s : State) : State :=
  if s.tmpTest.isSome then s
  else match s.tmpNext with
  | t :: rest => { s with tmpTest := some t, tmpNext := rest }
  | [] =>
    match s.tmpSeries with
    | none => s
    | some k =>
      match ((tmpSources.filter (fun i => bitAt (s.tmpReg i) 31)).flatMap (fun i => [2 * i, 2 * i + 1])).find? (fun x => decide (k ≤ x)) with
      | some x => { s with tmpTest := some ⟨x / 2, x % 2, false, false⟩, tmpSeries := some x }
      | none => { s with tmpSeries := none }

/-- A test is asked for: it takes the place of one of the firmware's series, which comes again; behind another it waits. -/
def State.askTmpTest (s : State) (t : TmpTest) : State :=
  match s.tmpTest with
  | none => { s with tmpTest := some t }
  | some c => if c.byPf || c.inj then { s with tmpNext := s.tmpNext ++ [t] } else { s with tmpTest := some t }

/-- The firmware's series of tests starts, where none is under way. -/
def State.startSeries (s : State) : State :=
  if s.tmpSeries.isSome then s else { s with tmpSeries := some 0 }.nextTmpTest

/-- TMP_TEST_GO: a write to TMP_TEST; GO starts a test of PF0's unless one runs (BUSY). -/
def execTmpTestGo (v : Word) (s : State) : Host.Outcome State Fault Refusal :=
  let s1 := (s.wrF Reg.TMP_TEST 16 16 (fld v 16 16)).wrF Reg.TMP_TEST 13 8 (fld v 13 8)
  if bitAt v 31 && !s.rdB Reg.TMP_TEST 0 && tmpSources.contains (fld v 13 8) then
    .next (((s1.wrF Reg.TMP_TEST 2 1 0).wrB Reg.TMP_TEST 0 true).askTmpTest ⟨fld v 13 8, fld v 16 16, true, false⟩)
  else .next s1

/-- A channel fails its test: class D at source 286; with both channels gone a hard-erase source alarms, another applies LOG. -/
def State.tmpFail (s : State) (i ch : Nat) : State :=
  let s1 := (s.wrB (Reg.TMP_SRC i) (20 + ch) true).flt1 286 1
  if bitAt (s1.tmpReg i) 20 && bitAt (s1.tmpReg i) 21 then
    (if tmpHard i then (s1.tmpFree i).alarms [(i, 0)] else (s1.tmpLog i 1 0).flt1 286 1)
  else s1

/-- TMP_CHANNEL_TEST_DONE: the test ends; the next one starts. -/
def execTmpChannelTestDone (pass : Bool) (s : State) : Host.Outcome State Fault Refusal :=
  match s.tmpTest with
  | none => .next s
  | some t =>
    let s1 := { s with tmpTest := none, tmpSeries := if t.byPf || t.inj then s.tmpSeries else some (2 * t.source + t.ch + 1) }
    let s2 := if t.byPf then (s1.wrB Reg.TMP_TEST 0 false).wrF Reg.TMP_TEST 2 1 (if pass then 1 else 2) else s1
    let r := s2.tmpSrc t.source
    let s3 := if pass then s2
      else if t.inj then
        { s2.wrB (Reg.TMP_SRC t.source) (20 + t.ch) true with
          tmp := mput s2.tmp t.source { r with injFail := r.injFail ||| (2 ^ t.ch * b2n (!bitAt (s2.tmpReg t.source) (20 + t.ch))) } }
      else { s2 with tmp := mput s2.tmp t.source { r with injFail := r.injFail &&& (3 - 2 ^ t.ch) } }.tmpFail t.source t.ch
    .next s3.nextTmpTest

/-! The peat domain (R340 to R346). -/

/-- The domain has power. -/
def State.peatOn (s : State) : Bool := s.pwr.vin || s.peat.vbat

/-- 10 ns pass on the real-time clock, where the domain has power and the crystal runs (R340, R341). -/
def Peat.tick (p : Peat) (power : Bool) : Peat :=
  if power && p.xtal then
    (if p.frac + 1 < 100000000 then { p with frac := p.frac + 1 } else { p with frac := 0, secs := (p.secs + 1) % 2 ^ 40 })
  else p

/-- The bit period of the tamper loops, in 10 ns (TMP_TL.RATE). -/
def State.loopPeriod (s : State) : Nat := ([100000, 10000, 1000, 400, 200, 100] : List Nat).getD (s.rdF Reg.TMP_TL 2 0) 1000

/-- Without VIO every bit of every enabled loop is an event (R318, R339). -/
def State.loopsCut (s : State) : State :=
  if s.pwr.vin && !s.pwr.vioOk && s.now % s.loopPeriod == 0 then s.tmpEvents ((List.range 16).map (fun n => (16 + n, s.tmpChans (16 + n) 3))) else s

/-- With no command waiting, 10 ns pass: the timestamp counts (R361, R396), with it the real-time clock (R345; log entry 3) and the bits of the
tamper loops. -/
def State.tick (s : State) : State := { s with now := s.now + 1, peat := s.peat.tick s.peatOn }.loopsCut

/-- An alarm while VIN is absent: only ERASE and LOG apply (R346). -/
def State.backupAlarm (s : State) (i chans : Nat) : State :=
  ({ s with peat := { s.peat with sls := none } }.peatLog 0x01 i 0x89 chans).peatCount 1

/-- One source of a scan on VBAT: two failing scans in a row alarm, once; the crystal and the temperature are only logged (R341). -/
def State.scanOne (fails : List (Nat × Nat)) (s : State) (i : Nat) : State :=
  match mget fails i with
  | none => { s with peat := { s.peat with fails := mdel s.peat.fails i } }
  | some chans =>
    let n := (mget s.peat.fails i).getD 0 + 1
    let s1 := { s with peat := { s.peat with fails := mput s.peat.fails i n } }
    if i ≤ 12 ∧ n = 2 then s1.backupAlarm i chans
    else if (i = 38 ∨ i = 40) ∧ n = 1 then s1.peatLog 0x01 i 0x81 chans
    else s1

/-- PEAT_SCAN: the failing sources of a scan with their channels; the scanner decides alone only on VBAT (R340, R341). -/
def execPeatScan (fails : List (Nat × Nat)) (s : State) : Host.Outcome State Fault Refusal :=
  if s.peatOn then
    let s1 := { s with peat := { s.peat with xtal := (mget fails 38).isNone } }
    .next (if s.pwr.vin then s1 else (List.range 13 ++ [38, 40]).foldl (State.scanOne fails) s1)
  else .next s

/-- What a loss of all power does to the peat domain (R342). -/
def Peat.lose (p : Peat) : Peat :=
  { p with vbat := false, sls := none, log := [], lostCnt := 0, counters := List.replicate 8 0, cold := true, secs := 0, frac := 0, stagedHi := 0,
           fails := [], wake := none }

/-- VBAT_BACKUP_ALARM: source 13; where the cell is gone the domain then loses everything. -/
def execVbatBackupAlarm (gone : Bool) (s : State) : Host.Outcome State Fault Refusal :=
  if !s.pwr.vin && s.peat.vbat then
    let s1 := s.backupAlarm 13 3
    .next (if gone then { s1 with peat := s1.peat.lose } else s1)
  else .next s

/-- PEAT_RTC_HI_WRITE: the high seconds are staged. -/
def execPeatRtcHiWrite (v : Word) (s : State) : Host.Outcome State Fault Refusal :=
  .next { s with peat := { s.peat with stagedHi := fld v 7 0 } }

/-- PEAT_RTC_LO_WRITE: the clock is set and the change logged; in DEPLOYED it moves back by at most 60 s (R345). -/
def execPeatRtcLoWrite (v : Word) (s : State) : Host.Outcome State Fault Refusal :=
  let t := s.peat.stagedHi * 2 ^ 32 + v.toNat
  if s.lcc = Lc.DEPLOYED ∧ t + 60 < s.peat.secs then .next s
  else .next ({ s with peat := { s.peat with secs := t } }.peatLog 0x03 0 0 0)

/-- PEAT_CNT_INC: a keyed write advances one of counters 4 to 7 (R344). -/
def execPeatCntInc (v : Word) (s : State) : Host.Outcome State Fault Refusal :=
  if fld v 31 16 = 0x7144 ∧ 4 ≤ fld v 2 0 then .next (s.peatCount (fld v 2 0)) else .next s

/-- PEAT_LOG_READ: the entries still held from a sequence number on (R343). -/
def execPeatLogRead (fn ch : Nat) (s : State) : Host.Outcome State Fault Refusal :=
  mbxRow1 0x0702 fn ch (fun r =>
    let a := leAt r.inl 0 4
    let n := leAt r.inl 4 1
    if r.inl.length < 5 ∨ n = 0 ∨ n > 64 then .bad St.BAD_FIELD
    else
      let l := s.peat.log.filter (fun e => decide (a ≤ leAt e 12 4) && decide (leAt e 12 4 < a + n))
      .done s ⟨St.SUCCESS, [BitVec.ofNat 8 l.length], l.flatten, 0, false⟩) s

end Sys2Proof.Machine
end

