-- ==== Sys2Proof/Machine/FabCore.lean ====
section
/-!
DEFINITION. The fabric's configuration (R405), port states and FAB_STAT (spec file 17).
-/
namespace Sys2Proof.Machine
open Sys2Proof

/-! Section 0x0005 in force. -/

def Fabric.fabId (f : Fabric) : List Byte := f.cfg.take 16
def Fabric.portEn (f : Fabric) (k : Nat) : Bool := (leAt f.cfg 16 2).testBit k
def Fabric.fixedAddr (f : Fabric) : Option Nat := if leAt f.cfg 18 1 = 1 then some (leAt f.cfg 20 2) else none
def Fabric.minPeerSvn (f : Fabric) : Nat := leAt f.cfg 19 1
def Fabric.flag (f : Fabric) (i : Nat) : Bool := (leAt f.cfg 22 1).testBit i
def Fabric.allow (f : Fabric) : List (List Byte) := (List.range (leAt f.cfg 24 2)).map (fun i => slice f.cfg (32 + 32 * i) 32)

/-- The fabric is configured and the device is not in HOLD (R402). -/
def State.fabOn (s : State) : Bool := !s.boot.hold && s.fab.fabId.any (· != 0)

/-- FAB_STAT follows: OFF, ISOLATED without a port up, JOINED with an address, else DISCOVERING (R402). -/
def State.fabStat (s : State) : State :=
  let n := s.upPorts.length
  let st := if !s.fabOn then 0 else if n = 0 then 3 else if s.fab.addr.isSome then 2 else 1
  (s.wrF Reg.FAB_STAT 1 0 st).wrF Reg.FAB_STAT 12 8 n

/-- An event ends the running loopback where it is on the interface (R418). -/
def State.lbEnd (s : State) (i : Nat) : State :=
  match s.test.loop with
  | some l => if l.1 = i then { s with test := { s.test with loop := none } }.wrF Reg.SRD_LB_STAT 31 26 (2 * 8 + 4) else s
  | none => s

/-- A port changes its state; that ends a loopback on it. -/
def State.setPort (s : State) (k st : Nat) : State :=
  let up := s.portState k == Ps.UP
  let s1 := ((s.lbEnd (k + 1)).wrF (Reg.FAB_PORT k) 31 29 st).fabStat
  let s0 := if st = Ps.UP ∨ st = Ps.HANDSHAKE then s1 else s1.dropWho (.port k)
  let s2 := if st = Ps.UP ∨ st = Ps.DOWN then s0 else s0.fltActive (264 + k) false
  if up && st != Ps.UP then s2.setWport k { WPort.fresh with fails := (s2.wport k).fails } else s2

/-! The handshake of R400, for links and for end-to-end sessions (R401). -/

/-- The device's own statement over a nonce; without alias keys, in LOCKED_INVALID, it has none that verifies (R353). -/
def State.ownStmt (s : State) (nonce : List Byte) : PeerStmt where
  genuine := s.lcc != Lc.LOCKED_INVALID
  identity := s.deviceId
  lcs := s.lcc
  svn := s.boot.svn
  fabric := s.fab.fabId
  nonce := nonce
  lost := s.sealState == Seal.LOST

/-- Why a peer's statement is refused, as FAB_PORTk.REFUSE numbers it; 0 where it passes (step 5). -/
def State.refusal (s : State) (x : Shaker) (st : PeerStmt) (nonce : List Byte) : Nat :=
  if !st.genuine || st.identity != x.peerId || st.nonce != nonce then 1
  else if st.lcs ≠ s.lcc then 2
  else if st.svn < s.fab.minPeerSvn then 3
  else if st.fabric ≠ s.fab.fabId then 4
  else if !s.fab.allow.isEmpty && !s.fab.allow.contains st.identity then 5
  else 0

/-- The public key of hybrid combination 0 from its seed: ML-KEM-768, then X25519 (R49). -/
def ephPq (seed : List Byte) : List Byte := kyGen 1 (seed.take 64)
def ephT (seed : List Byte) : List Byte := fixLen 32 (seed.drop 64)
def ephPub (seed : List Byte) : List Byte := schemePub none 1 1 false (ephPq seed) ++ xdhPub 8 (ephT seed)

/-- The KDF combiner of R49 with parameter index 0. -/
def combine0 (ssPq ssT ctT pkT : List Byte) : List Byte := sha3_256 (ssPq ++ ssT ++ ctT ++ pkT ++ ascii "EBLOS-KEM" ++ [0])

/-- Ciphertext and shared secret for a public key, from fresh bytes. -/
def ephEnc (pub rand : List Byte) : List Byte × List Byte :=
  let pq := pub.take 1184
  let t := pub.drop 1184
  let r := rand.drop 32
  let ctT := xdhPub 8 r
  let k := kyEncaps 1 pq (rand.take 32)
  (k.1 ++ ctT, combine0 k.2 (xdh 8 r t) ctT t)

/-- The shared secret of a ciphertext. -/
def ephDec (seed ct : List Byte) : List Byte :=
  combine0 (kyDecaps 1 (ephPq seed) (ct.take 1088)) (xdh 8 (ephT seed) (ct.drop 1088)) (ct.drop 1088) ((ephPub seed).drop 1184)

/-- Identities compare as 256-bit big-endian integers (R400). -/
def State.higher (s : State) (id : List Byte) : Bool := decide (beNat id < beNat s.deviceId)

/-- The keys of step 6. -/
def State.shakeKeys (s : State) (id ss : List Byte) (custom : String) : List Byte :=
  kmac256 ss (if s.higher id then id ++ s.deviceId else s.deviceId ++ id) 96 custom

/-- Step 1 at this end, with the nonce that was drawn. -/
def State.shakeOpen (s : State) (x : Shaker) (nonce : List Byte) : Shaker × ShakeMsg :=
  ({ x with stage := .identity, myNonce := nonce }, .identity s.deviceId nonce)

/-- Key-grade bytes that this end draws to answer a message (R400): the seed of its key pair, or those of the encapsulation. -/
def State.shakeNeed (s : State) (x : Shaker) (m : ShakeMsg) : Nat :=
  match m with
  | .identity id _ => if x.stage = .identity ∧ s.higher id then 96 else 0
  | .offer pub st =>
    if x.stage = .identity ∧ x.peerId ≠ [] ∧ !s.higher x.peerId ∧ s.refusal x st (x.myNonce ++ sha3_256 pub) = 0 then 64 else 0
  | .answer _ _ => 0

/-- A message of the handshake with the bytes drawn for it: this end, the answer to send, and the reason of a refusal (0 none). -/
def State.shakeStep (s : State) (x : Shaker) (custom : String) (m : ShakeMsg) (rand : List Byte) : Shaker × Option ShakeMsg × Nat :=
  match m with
  | .identity id n =>
    let y := { x with peerId := id, peerNonce := n }
    if x.stage = .identity ∧ s.higher id then
      let pub := ephPub rand
      ({ y with stage := .offered, seed := rand }, some (.offer pub (s.ownStmt (n ++ sha3_256 pub))), 0)
    else (y, none, 0)
  | .offer pub st =>
    if x.stage = .identity ∧ x.peerId ≠ [] ∧ !s.higher x.peerId then
      let r := s.refusal x st (x.myNonce ++ sha3_256 pub)
      if r ≠ 0 then (x, none, r)
      else
        let e := ephEnc pub rand
        ({ x with stage := .done, keys := s.shakeKeys x.peerId e.2 custom }, some (.answer e.1 (s.ownStmt (x.peerNonce ++ sha3_256 e.1))), 0)
    else (x, none, 0)
  | .answer ct st =>
    if x.stage = .offered then
      let r := s.refusal x st (x.myNonce ++ sha3_256 ct)
      if r ≠ 0 then ({ x with seed := [] }, none, r)
      else ({ x with stage := .done, seed := [], keys := s.shakeKeys x.peerId (ephDec x.seed ct) custom }, none, 0)
    else (x, none, 0)

/-- The handshake waits for bytes of its own. -/
def Shaker.waits (x : Shaker) : Bool := x.stage == .opening || x.held.isSome

/-- The exchange starts on a port: its nonce is asked for, and what is up carries on meanwhile (R271, R400). In FAULT it goes no further (log
entry 139). -/
def State.startShake (s : State) (k : Nat) : State :=
  let x := s.wport k
  if s.nrgDown then s.setWport k { x with sh := x.sh.stop }
  else ((s.setWport k { x with sh := { Shaker.idle with stage := .opening, keys := x.sh.keys } }).dropWho (.port k)).nrgAsk 2 22 (.port k) 32

/-- The handshake of an end-to-end session starts: its nonce is asked for (R271, R401). -/
def State.openPeer (s : State) (dest : List Byte) : State :=
  if s.nrgDown then s
  else ((s.modPeer dest (fun q => { q with sh := { Shaker.idle with stage := .opening } })).dropWho (.peer dest)).nrgAsk 2 22 (.peer dest) 32

/-- A message that travels in a session only: without a session it waits, and the session is opened (R401). -/
def State.sendSecret (s : State) (dest : List Byte) (body : FabMsg) : State :=
  match s.peer dest with
  | some p =>
    let s1 := s.sendMsg dest body
    if p.sh.stage = .none then s1.openPeer dest else s1
  | none => s.sendMsg dest body

/-! Power domains (R281, R282). -/

/-- The fabric port of class 1: the first that the image enables, else port 0. -/
def State.firstPort (s : State) : Nat := ((List.range 16).find? s.fab.portEn).getD 0

/-- The class a domain queues in. -/
def State.domainClass (s : State) (d : Nat) : Nat :=
  if d = 164 ∨ d = 154 then 0
  else if 156 ≤ d ∨ d = 137 ∨ d = 138 + s.firstPort then 1
  else if 138 ≤ d ∧ d < 154 then 3
  else 2

def State.queued (s : State) (d : Nat) : Bool := s.pwr.queues.any (fun q => q.contains d)

/-- A domain is neither powered nor on its way. -/
def State.gated (s : State) (d : Nat) : Bool := !s.pwr.powered.contains d && !s.pwr.ramping.contains d && !s.queued d

/-- A domain's place among those of its class. -/
def State.domainRank (s : State) (d : Nat) : Nat := ((queuesWith s.firstPort).getD (s.domainClass d) []).findIdx (· == d)

/-- A gated domain joins its class's queue at its place in the order of the class. While a thermal trip is in force none does (R296). -/
def State.enqueue (s : State) (d : Nat) : State :=
  if s.gated d && !s.pwr.thermal then
    let c := s.domainClass d
    let q := s.pwr.queues.getD c []
    let before := fun (x : Nat) => decide (s.domainRank x < s.domainRank d)
    { s with pwr := { s.pwr with queues := s.pwr.queues.set c (q.filter before ++ [d] ++ q.filter (fun x => !before x)) } }
  else s

/-- A domain leaves the queues. -/
def State.dequeue (s : State) (d : Nat) : State :=
  { s with pwr := { s.pwr with queues := s.pwr.queues.map (fun q => q.filter (· != d)) } }

/-- The port's domain has power. -/
def State.portPower (s : State) (k : Nat) : Bool := s.pwr.powered.contains (138 + k)

/-- The port bitmap is applied: an enabled port with power trains, or its domain queues in the class it now has; another is disabled, and its
domain is gated (R281, R283, R405). -/
def State.applyPorts (s : State) : State :=
  (List.range 16).foldl (fun (x : State) k =>
    if x.fab.portEn k && !x.boot.hold then
      let x1 := (if x.queued (138 + k) then x.dequeue (138 + k) else x).enqueue (138 + k)
      if x1.portState k = Ps.DISABLED ∧ x1.portPower k then x1.setPort k Ps.TRAINING else x1
    else
      let x1 := (if x.portState k = Ps.DISABLED then x else (x.setPort k Ps.DISABLED)).dequeue (138 + k)
      let off := fun (l : List Nat) => l.filter (· != 138 + k)
      { x1 with
        fab := { x1.fab with ports := mdel x1.fab.ports k }
        pwr := { x1.pwr with powered := off x1.pwr.powered, ramping := off x1.pwr.ramping } }) s

/-- Every link is negotiated anew (R405). -/
def State.relink (s : State) : State :=
  (List.range 16).foldl (fun (x : State) k =>
    if x.portState k = Ps.UP ∨ x.portState k = Ps.REFUSED ∨ x.portState k = Ps.HANDSHAKE then
      (x.setPort k Ps.HANDSHAKE).startShake k
    else x) s

/-- A fabric section comes into force: ports and flags at once, and a change of anything else renegotiates every link. -/
def State.applyFabric (s : State) (sec : List Byte) : State :=
  let key := fun (c : List Byte) => c.take 16 ++ slice c 18 4 ++ c.drop 24
  let s1 := { s with fab := { s.fab with cfg := sec } }
  let s2 := if key s.fab.cfg = key sec then s1 else { s1 with fab := { s1.fab with addr := none } }.relink
  s2.applyPorts.fabStat

end Sys2Proof.Machine
end

