-- ==== Sys2Proof/Machine/CfgImage.lean ====
section
/-!
DEFINITION. The configuration image: its parts, the checks of a bank, what each section sets, CONFIG_READ and CONFIG_PUSH (spec file 11,
R302 to R305), and the installation of loaded curves (spec file 09, R258, R259).
-/
namespace Sys2Proof.Machine
open Sys2Proof

/-! Parts of an image. -/

/-- Length of the body: header and sections. -/
def imgBodyLen (b : List Byte) : Nat := leAt b 12 4

/-- Sections from an offset on: type and body. -/
def imgSections : Nat → List Byte → Option (List (Nat × List Byte))
  | 0, l => if l.isEmpty then some [] else none
  | n + 1, l =>
    let len := leAt l 4 4
    let pad := (8 - len % 8) % 8
    if l.length < 8 ∨ leAt l 2 2 ≠ 0 ∨ l.length < 8 + len + pad ∨ (slice l (8 + len) pad).any (· != 0) then none
    else match imgSections n (l.drop (8 + len + pad)) with
      | some t => some ((leAt l 0 2, slice l 8 len) :: t)
      | none => none

def imgParts (b : List Byte) : Option (List (Nat × List Byte)) := imgSections (leAt b 5 1) (slice b 64 (imgBodyLen b - 64))

/-- The body of the section of a type. -/
def imgSection (b : List Byte) (ty : Nat) : Option (List Byte) :=
  match imgParts b with
  | some l => (l.find? (fun x => x.1 == ty)).map (·.2)
  | none => none

/-- The signer's public key, and the signature. -/
def imgSigner (b : List Byte) : List Byte := slice b (imgBodyLen b) 2592
def imgSig (b : List Byte) : List Byte := slice b (imgBodyLen b + 2592) 4627
/-- Body and trailer. -/
def imgWhole (b : List Byte) : Nat := imgBodyLen b + 7219
def imgSvn (b : List Byte) : Nat := leAt b 6 1
def imgSeq (b : List Byte) : Nat := leAt b 8 4

/-! Sections. -/

/-- A template from its section. -/
def templateOf (b : List Byte) : Fn :=
  { defaultTemplate with qps := leAt b 0 1, vecs := leAt b 1 1, weight := leAt b 2 1, ctx := leAt b 4 4, cap := leAt b 8 2, key4k := leAt b 10 2,
                         keyObj := leAt b 12 2, opm4k := leAt b 14 2 }

/-- The template is within the ranges of R63 and the pools of R64. -/
def vfTemplateOk (b : List Byte) : Bool :=
  let f := templateOf b
  b.length == 16 && leAt b 3 1 == 0 && f.qps ≤ 8 && f.vecs ≤ 16 && 1 ≤ f.weight && 1 ≤ f.cap && f.cap ≤ 16384 &&
  2047 * f.qps ≤ 4096 && 2047 * f.vecs ≤ 4096 && 2047 * f.ctx + 1024 ≤ 65536 && 2047 * f.key4k + 1024 ≤ 12288 &&
  2047 * f.keyObj + 2048 ≤ 32768 && 2047 * f.opm4k + 16 ≤ 256

def generalOk (b : List Byte) : Bool := b.length == 16 && leAt b 4 1 ≤ 1 && leAt b 10 6 == 0

def chkOk (b : List Byte) : Bool := b.length == 2048 && (List.range 64).all (fun i => leAt b (32 * i + 28) 4 == 0)

def curvesOk (b : List Byte) : Bool := b.length % 512 == 0 && b.length ≤ 8192

def fabricOk (b : List Byte) : Bool :=
  let n := leAt b 24 2
  b.length == 32 + 32 * n && n ≤ 4096 && leAt b 18 1 ≤ 1 && leAt b 19 1 ≤ 63 && leAt b 20 2 < 4096 && leAt b 22 1 < 8 && leAt b 23 1 == 0 &&
  leAt b 26 6 == 0

/-- The tamper section (R335, R336): sources that do not exist are zero. -/
def tamperOk (lcc : Nat) (b : List Byte) : Bool :=
  b.length == 264 && leAt b 256 1 ≤ 5 && leAt b 257 1 ≤ 1 && leAt b 259 5 == 0 &&
  (List.range 64).all (fun i =>
    let w := leAt b (4 * i) 4
    if tmpSources.contains i then tmpOk lcc i (BitVec.ofNat 32 w) else w == 0)

def gpioFns : List Nat := [0, 1, 2, 3, 0x10, 0x11, 0x12, 0x13]

/-- The low-speed section (R325). -/
def lowOk (b : List Byte) : Bool :=
  b.length == 144 && (List.range 32).all (fun n => gpioFns.contains (leAt b (4 * n) 1) && leAt b (4 * n + 1) 1 ≤ 3 && leAt b (4 * n + 2) 2 == 0) &&
  leAt b 130 1 ≤ 2 && leAt b 131 1 ≤ 2 && leAt b 136 8 == 0

/-- A section obeys its table. -/
def sectionOk (lcc : Nat) (x : Nat × List Byte) : Bool :=
  match x.1 with
  | 1 => generalOk x.2
  | 2 => vfTemplateOk x.2
  | 3 => chkOk x.2
  | 4 => curvesOk x.2
  | 5 => fabricOk x.2
  | 6 => tamperOk lcc x.2
  | 7 => lowOk x.2
  | _ => false

/-- Header and sections obey their tables. -/
def imgFormOk (lcc : Nat) (b : List Byte) : Bool :=
  let n := leAt b 5 1
  b.take 4 == ascii "EBCF" && leAt b 4 1 == 1 && 1 ≤ n && n ≤ 16 && leAt b 7 1 == 0 && 1 ≤ imgSeq b && 64 ≤ imgBodyLen b &&
  imgBodyLen b ≤ 2 ^ 22 && imgWhole b ≤ b.length && (slice b 48 16).all (· == 0) &&
  (match imgParts b with | some l => l.all (sectionOk lcc) | none => false)

/-- The commit block of an image. -/
def commitOf (b : List Byte) : List Byte := ascii "EBCC" ++ natLE 4 (imgSeq b) ++ zeros 4 ++ (sha3_256 (b.take (imgWhole b))).take 20

def State.targetOk (s : State) (b : List Byte) : Bool := (slice b 16 32).all (· == 0) || slice b 16 32 == s.deviceId
def imgSigned (b : List Byte) : Bool := mldsaOk (imgSigner b) (b.take (imgBodyLen b)) (imgSig b) "EBLOS-CONFIG"

/-! Banks (R302, R303). -/

/-- A bank is valid. -/
def State.cfgValid (s : State) (c : CfgBank) : Bool :=
  let b := c.image
  imgFormOk s.lcc b && b.length == imgWhole b && s.targetOk b && imgSigned b &&
  (match s.boot.signer with | some k => sha3_256 (imgSigner b) == k | none => true) &&
  s.boot.cfgMin ≤ imgSvn b && c.commit == commitOf b

def State.cfgBank (s : State) (i : Nat) : CfgBank := s.boot.cfgBanks.getD i ⟨[], []⟩

/-- The bank the device loads: of the valid ones the higher sequence number, A of two equal. -/
def State.cfgPick (s : State) : Option Nat :=
  let v := fun (i : Nat) => s.cfgValid (s.cfgBank i)
  let q := fun (i : Nat) => imgSeq (s.cfgBank i).image
  if v 0 && v 1 then some (if q 0 < q 1 then 1 else 0)
  else if v 0 then some 0
  else if v 1 then some 1
  else none

/-! What the sections set. -/

/-- The wake settings are mirrored into the peat domain. -/
def State.mirrorWake (s : State) : State := { s with peat := { s.peat with wake := some (s.rd 0 Reg.PWR_INRUSH, s.rd 0 Reg.PWR_WAKE) } }

/-- A field of PWR_INRUSH or PWR_WAKE: a value out of range is ignored. -/
def State.setWake (s : State) (off hi lo v min max : Nat) : State := if min ≤ v ∧ v ≤ max then s.wrF off hi lo v else s

/-- The general section, apart from the subsystem IDs; fields that the lock freezes keep their values (R337). -/
def State.applyGeneral (s : State) (b : List Byte) : State :=
  let s1 := s.wrF Reg.PWR_IDLE 15 0 (leAt b 8 2)
  if s1.tmpLocked then s1
  else
    let s2 := s1.wrF Reg.RST_CFG 0 0 (leAt b 4 1)
    let s3 := s2.setWake Reg.PWR_INRUSH 5 0 (leAt b 5 1) 1 32
    let s4 := s3.setWake Reg.PWR_WAKE 5 0 (leAt b 6 1) 1 32
    (s4.setWake Reg.PWR_WAKE 23 16 (leAt b 7 1) 10 200).mirrorWake

/-- A channel loaded as enabled with a custom polynomial whose bit 0 is clear stays disabled, and CFG_ERR says so (R245). -/
def State.chkGuard (s : State) (n : Nat) : State :=
  let cfg := s.rd 0 (Reg.CHK_CFG n)
  if bitAt cfg 31 ∧ (fld cfg 18 16 = 4 ∨ fld cfg 18 16 = 5) ∧ !s.rdB (Reg.CHK_POLY_LO n) 0 then
    (s.wr 0 (Reg.CHK_CFG n) (setBit cfg 31 false)).wrB Reg.CHK_STAT 8 true
  else s

/-- The check channels: CHK_CFGn and the six custom values. -/
def State.applyChk (s : State) (b : List Byte) : State :=
  (List.range 64).foldl (fun (x : State) n =>
    (List.range 7).foldl (fun (y : State) j =>
      let w := leAt b (32 * n + 4 * j) 4
      y.wr 0 (Reg.CHK_CFG n + 4 * j) (BitVec.ofNat 32 (if j = 0 then w / 512 * 512 else w))) x |>.chkGuard n) s

/-- The tamper section, unless the lock is set. -/
def State.applyTamper (s : State) (b : List Byte) : State :=
  if s.tmpLocked then s
  else
    let s1 := tmpSources.foldl (fun (x : State) i => x.setTmpSrc i (BitVec.ofNat 32 (leAt b (4 * i) 4))) s
    let s2 := (s1.wrF Reg.TMP_TL 2 0 (leAt b 256 1)).wrF Reg.TMP_CTRL 15 8 (leAt b 258 1)
    if leAt b 257 1 = 1 then s2.tmpLock else s2

/-- Function of GPIO n. -/
def State.gpioFn (s : State) (n : Nat) : Nat := leAt s.boot.lowSpeed (4 * n) 1
def State.gpioFlag (s : State) (n i : Nat) : Bool := (leAt s.boot.lowSpeed (4 * n + 1) 1).testBit i

/-- The low-speed section: outputs start at their initial level. -/
def State.applyLow (s : State) (b : List Byte) : State :=
  let v := (List.range 32).foldl (fun n i => if (leAt b (4 * i) 1 == 2 || leAt b (4 * i) 1 == 3) && (leAt b (4 * i + 1) 1).testBit 0 then n + 2 ^ i else n) 0
  { s with boot := { s.boot with lowSpeed := b } }.wr 0 Reg.GLB_GPIO_OUT (BitVec.ofNat 32 v)

/-! Curves. -/

/-- The curve identity of a record. -/
def curveIdent (r : List Byte) : List Byte := slice r 5 491

/-- The parts of a record that carry no value are as they must be (R258, code 1). -/
def curveForm (r : List Byte) : Bool := r.take 4 == ascii "EBC1" && leAt r 10 6 == 0 && leAt r 496 16 == 0

/-- The records to install where they differ from what is loaded: none for an index that the image leaves out. -/
def State.applyCurves (s : State) (b : List Byte) : State :=
  let rs := (List.range (b.length / 512)).map (fun i => slice b (512 * i) 512)
  let new := (List.range 16).filterMap (fun i =>
    match rs.find? (fun r => leAt r 4 1 == i), mget s.curves i with
    | some r, some c => if beNat (sha3_256 (curveIdent r)) = c.ident ∧ curveForm r then none else some (i, r)
    | some r, none => some (i, r)
    | none, some _ => some (i, [])
    | none, none => none)
  let s1 := ((s.wrF Reg.BNE_CURVE 31 16 0).wr 0 (Reg.BNE_CURVE_ERR 0) 0).wr 0 (Reg.BNE_CURVE_ERR 1) 0
  { s1 with boot := { s1.boot with curveNew := new } }

/-- A record's curve. -/
def curveOf (r : List Byte) : Curve :=
  let q := fun (i : Nat) => beAt r (16 + 80 * i) 80
  { p := q 0, a := q 1, b := q 2, gx := q 3, gy := q 4, n := q 5, h := leAt r 5 1, ident := beNat (sha3_256 (curveIdent r)) }

def Curve.spec (c : Curve) : CurveSpec := ⟨c.p, c.a, c.b, c.gx, c.gy, c.n, c.h, ceilDiv (bitLen c.p) 8, bitLen c.n, c.ident⟩

/-- The distance of two numbers. -/
def absDiff (a b : Nat) : Nat := (a - b) + (b - a)

/-- The checks of R258 in their order: the code of the first that fails, 0 where all pass. -/
def curveCheck (r : List Byte) : Nat :=
  let c := curveOf r
  let seed := sha3_256 (curveIdent r)
  let d := absDiff (c.p + 1) (c.h * c.n)
  if !curveForm r ∨ leAt r 6 2 ≠ bitLen c.p ∨ leAt r 8 2 ≠ bitLen c.n then 1
  else if c.p % 2 = 0 ∨ c.p ≤ 3 ∨ !probablePrime seed c.p then 2
  else if c.a ≥ c.p ∨ c.b ≥ c.p ∨ c.gx ≥ c.p ∨ c.gy ≥ c.p then 3
  else if (4 * c.a ^ 3 + 27 * c.b ^ 2) % c.p = 0 then 4
  else if c.n ≤ 2 ^ 159 ∨ !probablePrime seed c.n then 5
  else if c.h < 1 ∨ 8 < c.h then 6
  else if c.n = c.p then 7
  else if (List.range 20).any (fun k => powMod c.p (k + 1) c.n == 1) then 8
  else if d * d > 4 * c.p then 9
  else if !c.spec.onCurve c.gx c.gy ∨ c.spec.mul c.n (some (c.gx, c.gy)) ≠ none then 10
  else 0

/-- A command validated against the curve at an index: as its own, its key's, that of a new key, or of the key that a WRAP carries (R259). -/
def Cmd.onCurveIdx (c : Cmd) (i : Nat) : Bool :=
  let key := fun (k : Option KeyMat) => match k with | some m => m.fam == 0x0A && m.par == 0x10 + i | none => false
  let names := fun (a : List Byte) => attrFam a == 0x0A && attrPar a == 0x10 + i
  c.phase != .held && c.phase != .started && c.phase != .waitUnseal &&
    (c.op / 256 == 0x0A && c.par == 0x10 + i || key c.k1 || key c.k2 ||
      ([0x0F01, 0x0F02, 0x0F08, 0x0F30].contains c.op && names c.aux) || (c.op == 0x0F20 && c.b 48 == 2 && names c.src))

/-- The new record of an index is checked and takes the place of the old curve; BNE_CURVE and its error code follow. -/
def State.switchCurve (s : State) (i : Nat) (r : List Byte) : State :=
  let code := if r.isEmpty then 0 else curveCheck r
  let s1 := { s with
    curves := if r.isEmpty || code != 0 then mdel s.curves i else mput s.curves i (curveOf r)
    boot := { s.boot with curveNew := mdel s.boot.curveNew i } }
  let s2 := (s1.wrB Reg.BNE_CURVE (16 + i) (code != 0)).wrB Reg.BNE_CURVE i (mget s1.curves i).isSome
  s2.wrF (Reg.BNE_CURVE_ERR (i / 8)) (4 * (i % 8) + 3) (4 * (i % 8)) code

/-! Loading. -/

/-- Sections that apply at once, at a load and at a push outside HOLD. -/
def State.applyNow (s : State) (b : List Byte) : State :=
  let ap := fun (x : State) (ty : Nat) (f : State → List Byte → State) => match imgSection b ty with | some c => f x c | none => x
  let s1 := ap s 1 State.applyGeneral
  let s2 := s1.applyCurves ((imgSection b 4).getD [])
  let s3 := ap s2 5 State.applyFabric
  ap (ap s3 6 State.applyTamper) 7 State.applyLow

/-- An image that ends HOLD makes its template the allotments, as a load at boot does: what an apply gave in HOLD returns to it (R64, R66; log
entry 146). -/
def State.allotAnew (s : State) : State :=
  { s with
    fns := s.fns.map (fun (f : Nat × Fn) =>
      let t := if f.1 = 0 then s.boot.pf0 else s.boot.template
      (f.1, { t with isoDeg := f.2.isoDeg, quiescing := f.2.quiescing, quiesced := f.2.quiesced, flr := f.2.flr, blobAddr := f.2.blobAddr,
                     blobCount := f.2.blobCount, spillPeer := f.2.spillPeer }))
    opm := []
    clusters := s.clusters.map (fun (c : Nat × Cluster) => (c.1, { c.2 with owner := none, draining := none })) }

/-- A bank is loaded: its signer is bound, the minimum rises, every section takes effect (R302, R303). An image without a fabric section
enables no port, and their domains are gated (R283). -/
def State.loadImage (s : State) (i : Nat) : State :=
  let b := (s.cfgBank i).image
  let s1 := { s with boot := { s.boot with
    cfgLoaded := some i
    hold := false
    cfgMin := Nat.max s.boot.cfgMin (imgSvn b)
    signer := some (sha3_256 (imgSigner b)) } }
  let s2 := match imgSection b 2 with
    | some c =>
      let t := { s1 with boot := { s1.boot with template := templateOf c, templateNext := templateOf c } }
      if s.boot.hold then t.allotAnew else t
    | none => s1
  let s3 := match imgSection b 1 with
    | some c => { s2 with boot := { s2.boot with subsys := BitVec.ofNat 32 (leAt c 0 4), subsysNext := BitVec.ofNat 32 (leAt c 0 4) } }
    | none => s2
  let s4 := match imgSection b 3 with | some c => s3.applyChk c | none => s3
  let s5 := s4.applyNow b
  if (imgSection b 5).isNone then s5.applyPorts.fabStat else s5

/-- CONFIG_READ (R305). -/
def execConfigRead (fn ch : Nat) (s : State) : Host.Outcome State Fault Refusal :=
  mbxRow1 0x0101 fn ch (fun r =>
    let seq := fun (i : Nat) => if s.cfgValid (s.cfgBank i) then imgSeq (s.cfgBank i).image else 0
    let head := [(match s.boot.cfgLoaded with | some i => i | none => 0xFF), b2n (s.cfgValid (s.cfgBank 0)), b2n (s.cfgValid (s.cfgBank 1)), s.boot.cfgMin]
    let signer := match s.boot.signer with | some k => k.take 16 | none => zeros 16
    let inl := head.map (BitVec.ofNat 8) ++ natLE 4 (seq 0) ++ natLE 4 (seq 1) ++ signer ++ zeros 4
    let buf := match s.boot.cfgLoaded with | some i => if r.rext then (s.cfgBank i).image ++ (s.cfgBank i).commit else [] | none => []
    .done s ⟨St.SUCCESS, inl, buf, 0, false⟩) s

/-- Why a push is refused; 0 where it is taken (R303, R305). -/
def State.pushCheck (s : State) (b : List Byte) : Nat :=
  let differs := match s.boot.signer with | some k => sha3_256 (imgSigner b) != k | none => false
  let seq := match s.boot.cfgLoaded with | some i => imgSeq (s.cfgBank i).image | none => 0
  if !imgFormOk s.lcc b || b.length != imgWhole b + 32 || b.drop (imgWhole b) != commitOf b then St.BAD_FIELD
  else if !s.targetOk b || !imgSigned b then AUTH_FAILED
  else if imgSvn b < s.boot.cfgMin then ROLLBACK
  else if differs && s.lcc == Lc.DEPLOYED && !s.quorumFor 4 then St.QUORUM_REQUIRED
  else if imgSeq b ≤ seq then St.STATE
  else 0

/-- A pushed image is in its bank: in HOLD it is loaded and HOLD ends, else its sections apply as their table says (R305). -/
def State.afterPush (s : State) (i : Nat) (b : List Byte) : State :=
  let s1 := { s with boot := { s.boot with cfgBanks := s.boot.cfgBanks.set i ⟨b.take (imgWhole b), b.drop (imgWhole b)⟩,
                                           signer := some (sha3_256 (imgSigner b)) } }
  if s.boot.hold then s1.loadImage i
  else
    let s2 := match imgSection b 2 with | some c => { s1 with boot := { s1.boot with templateNext := templateOf c } } | none => s1
    let s3 := match imgSection b 1 with
      | some c => { s2 with boot := { s2.boot with subsysNext := BitVec.ofNat 32 (leAt c 0 4) } }
      | none => s2
    s3.applyNow b

/-- CONFIG_PUSH: the target is the bank not loaded, or B where none is. -/
def execConfigPush (fn ch : Nat) (req : List Byte) (s : State) : Host.Outcome State Fault Refusal :=
  mbxRow1 0x0102 fn ch (fun r =>
    let b := r.payload req
    let e := s.pushCheck b
    if !r.ext then .bad St.BAD_FIELD
    else if e ≠ 0 then .bad e
    else .done (s.afterPush (match s.boot.cfgLoaded with | some i => 1 - i | none => 1) b) (.okC [])) s

end Sys2Proof.Machine
end

