-- ==== Sys2Proof/Machine/Faults.lean ====
section
/-!
DEFINITION. Events of the fault collector and what each source's service does on them; flue channels; self-tests of units (spec file 15,
R359 to R369).
-/
namespace Sys2Proof.Machine
open Sys2Proof

/-! Retirement. -/

/-- A unit leaves service until the next full reset; the runs on it start again elsewhere (R35, R368). A retired channel's checks go to
a spare where one is left (R243). -/
def State.retireOne (s : State) (u : Nat) : State :=
  let s1 := s.pullUnit u
  let x := s1.unit u
  let s2 := s1.setUnit u { x with service := false, retired := true, selftest := false, tested := false }
  if 164 ≤ u ∧ u < 230 then
    let n := (List.range 64).find? (fun k => s.chkUnit k == u)
    let free := [228, 229].find? (fun v => !(s2.dg.chkSpare.any (fun y => y.2 == v)) && !(s2.unit v).retired && (s2.unit v).service)
    match n, free with
    | some k, some v =>
      { s2 with dg := { s2.dg with chkSpare := mput s2.dg.chkSpare k v } }
    | _, _ => s2
  else s2

/-- Retirement of a unit; a cluster-shared domain takes its eight PVCs with it. -/
def State.retire (s : State) (u : Nat) : State :=
  let s1 := if 96 ≤ u ∧ u < 108 then (List.range 8).foldl (fun (x : State) p => x.retireOne (8 * (u - 96) + p)) s else s
  (s1.retireOne u).isoCheck

/-! Events (R359, R361). -/

/-- The classes a source can report: bit 0 C, 1 D, 2 F. -/
def fltClasses (src : Nat) : Nat :=
  if src ≤ 245 then 3
  else if src = 246 then 6
  else if src = 247 then 5
  else if src ≤ 249 then 3
  else if src = 250 then 4
  else if src ≤ 258 then 2
  else if src = 259 then 7
  else if src = 260 then 3
  else if src = 261 then 4
  else if src = 262 then 3
  else if src = 263 then 5
  else if src ≤ 280 then 3
  else if src ≤ 283 then 2
  else if src = 284 then 1
  else if src ≤ 286 then 2
  else if src ≤ 288 then 1
  else if src = 289 then 2
  else if src ≤ 313 then 3
  else if src = 314 then 1
  else 0

/-- The active Hearth pair fails over, or nothing is left to fail over to. -/
def State.hearthEvent (s : State) (pair cls : Nat) : State :=
  let act := s.rdF Reg.HRT_STAT 0 0
  if pair = act then
    if s.standby = Sb.SYNC then s.failover (if cls = 1 then Sb.RETIRED else Sb.RESYNC)
    else s.hearthReset
  else if cls = 1 then s.wrF Reg.HRT_STAT 3 2 Sb.RETIRED
  else s

/-- A code key's entry is gone from the code-key cache; a load of it starts anew when it is wanted. -/
def State.dropCode (s : State) (h : Nat) : State :=
  let loading := s.ks.codeKeys.any (fun k => k.handle == h && k.loading)
  let s1 := { s with ks := { s.ks with codeKeys := s.ks.codeKeys.filter (fun k => k.handle != h) } }
  if loading then s1.wrB Reg.KST_STAT 6 false else s1

/-- An object as boot finds it in its record: leaves skip to the ceiling, and a stateful key's private state is rebuilt (R155, R223); a
FROZEN key stays so (R151). -/
def FlashKey.boot (f : FlashKey) : KeyObj :=
  { f.obj with
    act := { f.obj.act with next := f.ceil, ceil := f.ceil, raising := none }
    staged := none
    stAttrs := []
    verified := false
    retiring := []
    unsealed := false
    rebuild := isStateful (attrFam f.obj.attrs) }

/-- A line of the stacked die is lost: a persistent object comes back from its record, and until UNSEAL_DONE what names it waits (R138);
another object, a context or a code-key entry is gone (R365). -/
def State.loseLine (s : State) (arg : Nat) : State :=
  if arg < 2 ^ 32 then
    match mget s.ks.objs arg with
    | some _ =>
      match mget s.ks.flash arg with
      | some f => s.setObj arg f.boot
      | none => s.dropObj arg
    | none => s
  else if arg < 2 ^ 48 then s.clearCtx (arg / 2 ^ 32 - 1) (arg % 65536)
  else s.dropCode (arg % 2 ^ 32)

/-- What the service behind a source does on an event, beside the record: retirement, isolation, failover, a stop. `arg` names what the
event hit: a bank, an object (its handle), a context (function + 1 in the upper half), a code-key entry (its handle from bit 48 on marked), or an in-flight entry. -/
def State.fltRespond (s : State) (src cls arg : Nat) : State :=
  if src < 230 then (if cls = 1 then s.retire src else s)
  else if src < 246 then
    let g := src - 230
    (if cls = 1 then (s.dropBlocks g).wrF (Reg.NRG_GRP g) 31 30 Grp.RETIRED else if s.grpUp g then s.isolate g else s).nrgRecheck
  else if src = 246 then s
  else if src = 247 then (if cls = 2 then s.nrgFault else { s with nrg := { s.nrg with lanes := Nat.min s.nrg.lanes 2 } })
  else if src < 250 then s.hearthEvent (src - 248) cls
  else if src = 250 then s.hearthReset
  else if src < 259 then s.wrF Reg.HRT_STAT 15 8 (s.rdF Reg.HRT_STAT 15 8 ||| 2 ^ (src - 251))
  else if src = 259 then
    (if cls = 1 then { s with pwr := { s.pwr with banksLost := if s.pwr.banksLost.contains arg then s.pwr.banksLost else arg :: s.pwr.banksLost } }
     else if cls = 2 then s.loseLine arg else s)
  else if src = 261 then s.tmpEvent 53 3
  else if src = 263 then (if cls = 2 then s.complete arg (.fail St.DEVICE_FAULT [0xFF, 0xFF]) else s)
  else if 264 ≤ src ∧ src < 280 then (if cls = 1 then s.setPort (src - 264) Ps.DOWN else s)
  else s

/-- An event with its response; a port down goes on asserting. -/
def State.fltEvent (s : State) (src cls arg : Nat) (rail : Bool) : State :=
  if (fltClasses src).testBit cls then
    let lasts := (264 ≤ src && src < 280 && cls == 1) || (src == 246)
    let respond := cls == 0 && (src == 247 || (230 ≤ src && src < 246 && s.grpUp (src - 230)) ||
      ((src == 248 || src == 249) && src - 248 == s.rdF Reg.HRT_STAT 0 0 && s.standby == Sb.SYNC))
    let s0 := if src = 246 ∧ cls = 2 ∧ s.nrgSt ≠ 2 then s.nrgFail else if src = 250 then s.failTrial else s
    (s0.fault src cls lasts rail respond).fltRespond src cls arg
  else s

/-- FLT_EVENT (R361). -/
def execFltEvent (src cls arg : Nat) (s : State) : Host.Outcome State Fault Refusal := .next (s.fltEvent src cls arg false)

/-- FLT_RAIL_BREAK: the source counts as reporting the class that the broken pair carries (R360). -/
def execFltRailBreak (src cls : Nat) (s : State) : Host.Outcome State Fault Refusal := .next (s.fltEvent src cls 0 true)

/-- TMP_BIST_INTERVAL: the pairs are driven through both states, a failing one being recorded under source 314 too, and the series of
tamper channel tests starts (R338, R360). -/
def execTmpBistInterval (rails : List (Nat × Nat)) (s : State) : Host.Outcome State Fault Refusal :=
  if s.rdF Reg.TMP_CTRL 15 8 ≠ 0 ∧ s.boot.stage = .ready then
    let s1 := rails.foldl (fun (x : State) r => (x.fltEvent r.1 r.2 0 true).flt1 314 0) s
    .next s1.startSeries
  else .next s

/-! Flue channels (R364). -/

/-- A repeat on a flue channel of a region; the third within 1 ms isolates the island at its far end, and its channels carry nothing more
until the next full reset (log entry 152). -/
def State.flueRepeat (s : State) (region chan : Nat) : State :=
  if region < 24 ∧ !s.pwr.islands.contains region then
    let k := region * 65536 + chan
    let l := (((mget s.pwr.flue k).getD []).filter (fun t => decide (s.now - t ≤ 10 ^ 5))) ++ [s.now]
    let s1 := s.flt1 (290 + region) 0
    if 3 ≤ l.length then
      { s1 with pwr := { s1.pwr with flue := s1.pwr.flue.filter (fun f => f.1 / 65536 != region), islands := region :: s1.pwr.islands } }.flt1
        (290 + region) 1
    else { s1 with pwr := { s1.pwr with flue := mput s1.pwr.flue k l } }
  else s

/-- FLUE_TRANSFER_ERROR. -/
def execFlueTransferError (region chan : Nat) (s : State) : Host.Outcome State Fault Refusal := .next (s.flueRepeat region chan)

/-- FLUE_HANDSHAKE_TIMEOUT. -/
def execFlueHandshakeTimeout (region chan : Nat) (s : State) : Host.Outcome State Fault Refusal := .next (s.flueRepeat region chan)

/-! Self-tests (R368, R416). -/

/-- A unit test by SRD_UNIT_TEST ends: RESULT, and a failing unit is retired. -/
def State.endUnitTest (s : State) (u : Nat) (pass : Bool) : State :=
  let s1 := { (s.setUnit u { s.unit u with tested := false }) with test := { s.test with unit := none } }
  let s2 := (s1.wrB Reg.SRD_UNIT_TEST 0 false).wrF Reg.SRD_UNIT_TEST 7 6 (if pass then 1 else 2)
  if pass then s2 else (s2.flt1 u 1).retire u

/-- A unit that ran a command and was tested for its next run has passed (R366). -/
def State.passedFor (s : State) (u : Nat) : State :=
  { s with cmds := s.cmds.map (fun (c : Nat × Cmd) => (c.1, { c.2 with legs := c.2.legs.map (fun l =>
      if l.retest.contains u then { l with retest := l.retest.filter (· != u), passed := l.passed ++ [u] } else l) })) }

/-- A check channel that passes takes its number back from the spare (R243). -/
def State.spareBack (s : State) (u : Nat) : State :=
  if 164 ≤ u ∧ u < 228 then { s with dg := { s.dg with chkSpare := mdel s.dg.chkSpare (u - 164) } } else s

/-- A self-test ends: of an outvoted unit, or of one that is to run a command again. -/
def State.endSelftest (s : State) (u : Nat) (pass : Bool) : State :=
  let x := s.unit u
  let win := s.rdF Reg.FLT_RETIRE 31 16 * 6 * 10 ^ 9
  let n := (x.outvotes.filter (fun t => decide (s.now - t ≤ win))).length
  if !pass || decide (s.rdF Reg.FLT_RETIRE 3 0 ≤ n) then ((s.fltEnd u).flt1 u 1).retire u
  else
    let s1 := (((s.fltEnd u).setUnit u { x with service := true, selftest := false }).flt1 u 0).isoCheck
    (s1.passedFor u).spareBack u

/-- UNIT_SELFTEST_DONE: of an outvoted unit, of one under a unit test, or (247) of a conditioner lane. -/
def execUnitSelftestDone (u : Nat) (pass : Bool) (s : State) : Host.Outcome State Fault Refusal :=
  if u = 247 then .next (if s.nrg.lanes < 3 then (if pass then { s with nrg := { s.nrg with lanes := 3 } } else s).fltEnd 247 else s)
  else if s.test.unit = some u then .next (s.endUnitTest u pass)
  else if (s.unit u).selftest then .next (s.endSelftest u pass)
  else .next s

end Sys2Proof.Machine
end

