-- ==== Sys2Proof/Machine/LifeCycle.lean ====
section
/-!
DEFINITION. Life-cycle transitions, challenges and debug sessions (spec file 14, R347 to R358).
-/
namespace Sys2Proof.Machine
open Sys2Proof

/-! Blocks (R354). -/

/-- The device identity as blocks and challenges carry it: zeros in BLANK. -/
def State.lcIdentity (s : State) (from_ : Nat) : List Byte := if from_ = Lc.BLANK then zeros 32 else s.deviceId

/-- SHA3-256 of the public key that a block's byte 7 names. -/
def State.lcKey (s : State) (k : Nat) : Option (List Byte) :=
  match k with
  | 0 => some Config.vendorLcKey
  | 1 => some Config.vendorDebugKey
  | 2 => s.lc.owner
  | _ => none

/-- A block's signature over bytes 0 to 111 under the enclosed key, which is the one named. -/
def State.blockSigned (s : State) (b : List Byte) : Bool :=
  let pk := slice b 112 1952
  (match s.lcKey (leAt b 7 1) with | some h => sha3_256 pk == h | none => false) &&
    mldsaVerify 1 pk (b.take 112) (slice b 2064 3309) "EBLOS-LC"

/-- Length of a transition block. -/
def lcBlockLen (from_ to_ key : Nat) : Nat :=
  if key = 3 then 112 else if from_ = Lc.BLANK ∧ to_ = Lc.TEST then 5757 else 5373

/-- The binding bytes of a transition block. -/
def lcBinding (from_ to_ : Nat) (b : List Byte) : Bool :=
  let v := slice b 80 32
  if from_ = Lc.BLANK ∧ to_ = Lc.TEST then v == sha3_256 (slice b 5373 384)
  else if from_ = Lc.FACTORY ∧ to_ = Lc.DEPLOYED then true
  else v == zeros 32

/-- A transition block obeys R354, but for its nonce and its present state. -/
def State.transBlockOk (s : State) (b : List Byte) : Bool :=
  let key := leAt b 7 1
  let from_ := leAt b 5 1
  b.take 4 == ascii "EBLA" && leAt b 4 1 == 1 && (key == 0 || key == 3) &&
  b.length == lcBlockLen from_ (leAt b 6 1) key &&
  leAt b 8 8 == 0 && slice b 16 32 == s.lcIdentity from_ && lcBinding from_ (leAt b 6 1) b && (key == 3 || s.blockSigned b)

/-- The nonce is the outstanding one, not older than 10 minutes (R355). -/
def State.nonceOk (s : State) (n : Option Nonce) (v : List Byte) : Bool :=
  match n with | some x => x.value == v && decide (s.peat.secs - x.at_ ≤ 600) | none => false

/-- A block names the outstanding nonce. -/
def namesNonce (n : Option Nonce) (v : List Byte) : Bool := match n with | some x => x.value == v | none => false

/-- A nonce is consumed by the first block that names it, whichever command brings the block (R355). -/
def State.useNonce (s : State) (b : List Byte) : State :=
  let left := fun (n : Option Nonce) => if namesNonce n (slice b 48 32) then none else n
  { s with lc := { s.lc with nonceDbg := left s.lc.nonceDbg, nonceLc := left s.lc.nonceLc } }

/-! Transitions (R350 to R353). -/

/-- The permitted transitions but for LOCKED_INVALID's interrupted target. -/
def lcPermitted (from_ to_ : Nat) : Bool :=
  (from_ == Lc.BLANK && to_ == Lc.TEST) || (from_ == Lc.TEST && to_ == Lc.FACTORY) || (from_ == Lc.FACTORY && to_ == Lc.DEPLOYED) ||
  (to_ == Lc.ANALYSIS && [Lc.TEST, Lc.FACTORY, Lc.DEPLOYED, Lc.LOCKED_INVALID].contains from_) ||
  (to_ == Lc.SCRAP && [Lc.BLANK, Lc.TEST, Lc.FACTORY, Lc.ANALYSIS, Lc.DEPLOYED].contains from_)

/-- A transition that needs an open quorum session: DEPLOYED to ANALYSIS, and DEPLOYED to SCRAP on a quorum alone. -/
def lcNeedsQuorum (from_ to_ key : Nat) : Bool := from_ == Lc.DEPLOYED && (to_ == Lc.ANALYSIS || key == 3)

/-- The record and the block are kept, and a full reset is asked for (R352). -/
def State.acceptTrans (s : State) (to_ : Nat) (b : List Byte) : State :=
  { s with lc := { s.lc with record := some ⟨to_, sha3_256 b⟩, block := b }, pwr := { s.pwr with swReset := some 8, swAt := s.now } }

/-- A transition block presented in a decoded state. -/
def State.lcNormal (s : State) (b : List Byte) : Course :=
  let from_ := leAt b 5 1
  let to_ := leAt b 6 1
  let key := leAt b 7 1
  let t := s.useNonce b
  if !s.transBlockOk b || from_ != s.lcc || !s.nonceOk s.lc.nonceLc (slice b 48 32) then .done t (.err AUTH_FAILED)
  else if !lcPermitted from_ to_ then .done t (.err St.STATE)
  else if key = 3 ∧ !(from_ = Lc.DEPLOYED ∧ to_ = Lc.SCRAP) then .done t (.err AUTH_FAILED)
  else if lcNeedsQuorum from_ to_ key && !s.quorumFor 5 then .done t (.err St.QUORUM_REQUIRED)
  else .done (t.acceptTrans to_ b) (.okC [])

/-- The block of the interrupted transition, presented again (R353). -/
def State.lcResumes (s : State) (b : List Byte) : Bool :=
  match s.lc.record with
  | some r => r.target == leAt b 6 1 && r.hash == sha3_256 b && s.transBlockOk b
  | none => false

/-- A token presentation (R351): the marker is blown before anything is compared. -/
def State.lcToken (s : State) (b : List Byte) : Course :=
  let i := leAt b 10 2
  if s.lcc = Lc.TEST_OPEN then .bad St.STATE
  else if b.length ≠ 112 ∨ b.take 4 ≠ ascii "EBLA" ∨ leAt b 5 1 ≠ s.lcc ∨ leAt b 6 4 ≠ 0 ∨ leAt b 12 4 ≠ 0 ∨ i ≥ 24 ∨
      slice b 16 32 ≠ s.lcIdentity s.lcc ∨ slice b 80 32 ≠ zeros 32 then .bad AUTH_FAILED
  else if s.lcc ≠ Lc.TEST then .bad St.STATE
  else if s.lc.markers.getD i 0 ≠ 0 then .bad AUTH_FAILED
  else
    let t := { s with lc := { s.lc with markers := s.lc.markers.set i 15 } }
    if (sha3_256 (slice b 48 32)).take 16 = s.lc.hashes.getD i [] then
      let u := t.acceptTrans Lc.TEST_OPEN b
      .done { u with lc := { u.lc with openFlag := true } } (.okC [])
    else .done t ⟨AUTH_FAILED, [], [], 0, true⟩

/-- LC_TRANSITION (R352). -/
def execLcTransition (fn ch : Nat) (req : List Byte) (s : State) : Host.Outcome State Fault Refusal :=
  mbxRow1 0x0600 fn ch (fun r =>
    let b := r.payload req
    if !r.ext ∨ b.length < 112 then .bad St.BAD_FIELD
    else if !s.lc.block.isEmpty then .bad St.STATE
    else if leAt b 4 1 = 2 then s.lcToken b
    else if s.lcc = Lc.LOCKED_INVALID ∧ s.lcResumes b then .done (s.acceptTrans (leAt b 6 1) b) (.okC [])
    else s.lcNormal b) s

/-! What Kindling does for a transition (R349, R350, R352). -/

/-- The slot of a state code. -/
def slotOf (code : Nat) : Option Nat := slotCodes.findIdx? (· == code)

/-- What every transition destroys, and the flash user region where asked: there the configuration banks and the persisted kernels are
held (log entry 48). -/
def State.lcDestroy (s : State) (user : Bool) : State :=
  let ks := { s.ks with objs := [], dying := [], ctxs := [], codeKeys := [], flash := [], ckFlash := [], dsk := none, lost := 0,
                           blobCurves := [], inLost := false }
  let s1 := { s with
    ks := ks
    signers := []
    peat := { s.peat with sls := none }
    cards := { s.cards with roster := [], mq := 0 }
    fab := { s.fab with groups := [], destroyed := [] }
    boot := { s.boot with signer := none }
    kernels := if user then [] else s.kernels }
  let s2 := if user then { s1 with boot := { s1.boot with cfgBanks := [⟨[], []⟩, ⟨[], []⟩] } } else s1
  (s2.wrF Reg.KST_STAT 5 4 Seal.UNSEALING).wr 0 Reg.KST_LOST 0

/-- Fuses of a transition: root-kill first, then the target slot with the fuses of `dud` left unblown, then what the transition adds. -/
def State.blowFuses (s : State) (to_ dud : Nat) : State :=
  let b := s.lc.block
  let kill := to_ == Lc.ANALYSIS || to_ == Lc.SCRAP
  let lc1 := if kill then { s.lc with rootKill := 255 } else s.lc
  match slotOf to_ with
  | none => s
  | some k =>
    let v := lc1.slots.getD k 0 ||| ((2 ^ 32 - 1) ^^^ (dud % 2 ^ 32))
    let lc2 := { lc1 with slots := lc1.slots.set k v }
    if !slotFull v then { s with lc := lc2 }
    else if leAt b 5 1 = Lc.BLANK ∧ to_ = Lc.TEST then
      { s with lc := { lc2 with hashes := (List.range 24).map (fun i => slice b (5373 + 16 * i) 16) } }
    else if to_ = Lc.DEPLOYED then
      { s with lc := { lc2 with owner := if slice b 80 32 = zeros 32 then none else some (slice b 80 32) } }
    else { s with lc := lc2 }

/-- DRS and DID of a device that has reached TEST without them: 64 key-grade bytes are asked for, and blown when they come (R350; log entry
141). -/
def State.askRoot (s : State) : State :=
  if s.lc.drs.isSome ∨ !slotFull (s.lc.slots.getD 0 0) ∨ s.nrg.queue.any (fun r => r.who == .management 4) then s
  else s.nrgAsk 2 21 (.management 4) 64

/-- The transition that Kindling finds: it blows the fuses while the block is at hand, and finishes where the target state is reached. The
record goes once the new SLS is stored (R352). -/
def State.lcFuses (s : State) (dud : Nat) : State :=
  let s0 := if s.lc.leftOpen then { (s.lcDestroy false) with lc := { s.lc with leftOpen := false }, boot := { (s.lcDestroy false).boot with newState := true } } else s
  match s0.lc.record with
  | none => { s0 with lc := { s0.lc with openFlag := false, block := [] } }
  | some r =>
    let s1 := if s0.lc.block.isEmpty then s0 else s0.blowFuses r.target dud
    let done := r.target == Lc.TEST_OPEN || (match slotOf r.target with | some k => slotFull (s1.lc.slots.getD k 0) | none => false)
    if done then
      let user := r.target == Lc.ANALYSIS || r.target == Lc.SCRAP
      let s2 := s1.lcDestroy user
      { s2 with
        lc := { s2.lc with block := [], testOpen := s1.lc.openFlag, openFlag := false }
        boot := { s2.boot with newState := true } }
    else { s1 with lc := { s1.lc with block := [], openFlag := false } }

/-- The life cycle at a boot. -/
def State.lcBoot (s : State) (dud : Nat) : State := (s.lcFuses dud).askRoot

/-! Challenges (R355). -/

/-- DEBUG_CHALLENGE. -/
def execDebugChallenge (fn ch : Nat) (s : State) : Host.Outcome State Fault Refusal :=
  mbxRow1 0x0601 fn ch (fun r =>
    let p := leAt r.inl 0 1
    if r.inl.length < 1 ∨ p > 1 then .bad St.BAD_FIELD
    else if p = 0 ∧ (s.lcc = Lc.LOCKED_INVALID ∨ s.lcc = Lc.TEST_OPEN ∨ s.lcc = Lc.BLANK) then .bad St.STATE
    else
      if r.rand.length < 32 then .ask 32 else
      let v := r.rand.take 32
      let n : Nonce := ⟨v, s.peat.secs⟩
      let t := { s with lc := if p = 0 then { s.lc with nonceDbg := some n } else { s.lc with nonceLc := some n } }
      .done t (.ok (v ++ [BitVec.ofNat 8 s.lcc, 0, 0, 0] ++ (s.lcIdentity s.lcc).take 16))) s

/-- NONCE_EXPIRY: the nonce of a purpose is void. -/
def execNonceExpiry (purpose : Nat) (s : State) : Host.Outcome State Fault Refusal :=
  .next { s with lc := if purpose = 0 then { s.lc with nonceDbg := none } else if purpose = 1 then { s.lc with nonceLc := none } else s.lc }

/-! Debug sessions (R356, R357). -/

/-! Scope bits. -/
namespace Scope
def BSCAN : Nat := 0
def UART1 : Nat := 1
def PVC_VIEW : Nat := 2
def INJECT : Nat := 3
def HEARTH : Nat := 4
def SCAN : Nat := 5
end Scope

/-- Scopes that a key can grant. -/
def State.grantable (s : State) (key : Nat) : Nat :=
  let c := s.lcc
  if key = 1 then
    (if c = Lc.TEST ∨ c = Lc.ANALYSIS then 0x3F else if c = Lc.FACTORY then 0x0F else if c = Lc.DEPLOYED ∨ c = Lc.SCRAP then 1 else 0)
  else if key = 2 ∧ c = Lc.DEPLOYED ∧ s.lc.owner.isSome then 0x0F
  else 0

/-- The session's scopes include one. -/
def State.scope (s : State) (i : Nat) : Bool := match s.lc.session with | some d => d.scopes.testBit i | none => false

/-- BLANK and TEST_OPEN, where every path is open. -/
def State.openState (s : State) : Bool := s.lcc == Lc.BLANK || s.lcc == Lc.TEST_OPEN

/-- ERASE as a session applies it (R331, R357): no alarm, so no line is held. -/
def State.sessionErase (s : State) : State :=
  s.eraseKeys.endRestores.dgeClear.nrgClear.askSls

/-- DEBUG_RESPONSE. -/
def execDebugResponse (fn ch : Nat) (req : List Byte) (s : State) : Host.Outcome State Fault Refusal :=
  mbxRow1 0x0602 fn ch (fun r =>
    let b := r.payload req
    let key := leAt b 7 1
    let sc := leAt b 6 1
    let mins := leAt b 8 2
    let t := s.useNonce b
    let ok := b.take 4 == ascii "EBLA" && leAt b 4 1 == 0 && leAt b 5 1 == s.lcc && (key == 1 || key == 2) && 1 ≤ mins && mins ≤ 1440 &&
      leAt b 10 6 == 0 && b.length == 5373 && slice b 16 32 == s.lcIdentity s.lcc && slice b 80 32 == zeros 32 &&
      s.nonceOk s.lc.nonceDbg (slice b 48 32) && s.blockSigned b && sc &&& (255 - s.grantable key) == 0 &&
      (s.lcc != Lc.SCRAP || sc == 1)
    if !r.ext ∨ b.length < 112 then .bad St.BAD_FIELD
    else if !ok then .done t (.err AUTH_FAILED)
    else
      let deep := (sc.testBit Scope.HEARTH || sc.testBit Scope.SCAN) && !s.openState
      let d : DebugSession := ⟨sc, key == 2, s.now + mins * 6 * 10 ^ 9, deep⟩
      let t1 := if deep then t.sessionErase else t
      .done ({ t1 with lc := { t1.lc with session := some d } }.deriveDsk.flt1 287 0) (.ok [])) s

/-- The debug session ends; a run corruption still pending is discarded (R418). -/
def State.endSession (s : State) : State :=
  match s.lc.session with
  | none => s
  | some _ =>
    let s1 := { s with lc := { s.lc with session := none } }.deriveDsk
    match s1.test.pending with
    | some u => { (s1.setUnit u { s1.unit u with corrupt := none }) with test := { s1.test with pending := none } }.wrF Reg.SRD_INJ_STAT 31 27 0
    | none => s1

/-- LCS_DBG_END: a keyed write ends the session at once. -/
def execLcsDbgEnd (v : Word) (s : State) : Host.Outcome State Fault Refusal :=
  .next (if fld v 31 16 = 0x7144 ∧ bitAt v 0 then s.endSession else s)

/-- DEBUG_SESSION_EXPIRY: its minutes have run out. -/
def execDebugSessionExpiry (s : State) : Host.Outcome State Fault Refusal := .next s.endSession

end Sys2Proof.Machine
end

