-- ==== Sys2Proof/Machine/Boot.lean ====
section
/-!
DEFINITION. Kindling and the firmware's start (spec file 11, R299 to R301, R306; 05, R128, R130, R138, R159), the admission of units (R285)
and the switch of loaded curves (09, R258, R259).
-/
namespace Sys2Proof.Machine
open Sys2Proof

/-! Full throughput (R306). -/

/-- Two units of a class are in service. -/
def State.classUp (s : State) (e : Eng) : Bool := decide (2 ≤ ((unitsOf e).filter (fun u => (s.unit u).service)).length)

/-- Milliseconds of the present wake. -/
def State.wakeMs (s : State) : Nat := Nat.min ((s.now - s.pwr.vinAt) / 100000) 65535

/-- RST_TIME.FULL_MS is noted once every class has passed its tests, every curve is installed and the keys are unsealed. -/
def State.noteFull (s : State) : State :=
  if s.boot.stage = .ready ∧ !s.boot.fullDone ∧ [Eng.pvc, .hte, .bne, .dge, .chk].all s.classUp ∧ s.boot.curveNew.isEmpty ∧
      (s.sealState = Seal.NORMAL ∨ s.sealState = Seal.EMPTY) then
    { s.wrF Reg.RST_TIME 31 16 s.wakeMs with boot := { s.boot with fullDone := true } }
  else s

/-! Curves. -/

/-- The check of a record may take a pair of free units: records check in parallel, in the order of their indices (R258); an index that is
emptied needs none. -/
def State.curveTurn (s : State) (i : Nat) (r : List Byte) : Bool :=
  r.isEmpty || ((((s.boot.curveNew.filter (fun c => !c.2.isEmpty)).map (·.1)).take (((unitsOf .bne).filter s.isFree).length / 2)).contains i)

/-- CURVE_RECORD_CHECKED: an index that held no curve takes the record at once; another waits for CURVE_SWITCH. -/
def execCurveRecordChecked (i : Nat) (s : State) : Host.Outcome State Fault Refusal :=
  match mget s.boot.curveNew i with
  | none => .next s
  | some r => if s.curveTurn i r ∧ (mget s.curves i).isNone then .next (s.switchCurve i r).noteFull else .next s

/-- CURVE_SWITCH: the change takes effect once no command validated against the old curve is in flight (R259). -/
def execCurveSwitch (i : Nat) (s : State) : Host.Outcome State Fault Refusal :=
  match mget s.boot.curveNew i with
  | none => .next s
  | some r => if !s.curveTurn i r ∨ s.cmds.any (fun c => c.2.onCurveIdx i) then .next s else .next (s.switchCurve i r).noteFull

/-! Kindling (R299). -/

/-- When the SLS was lost: the last erase on VBAT in the log, else now (R346). -/
def State.lostStamp (s : State) : Nat :=
  match s.peat.log.reverse.find? (fun e => (leAt e 9 1).testBit 7 && (leAt e 9 1).testBit 3) with
  | some e => if !s.peat.slsValid then leAt e 0 5 else s.peat.secs
  | none => s.peat.secs

/-- Sealed records exist, and the SLS that sealed them is gone (R159). -/
def State.recordsLost (s : State) : Bool :=
  !s.noDskState && !s.ks.flash.isEmpty && (!s.peat.slsValid || s.ks.flash.all (fun f => some f.2.dsk != s.ks.dsk))

/-- Step 2: the sealing key, a new SLS where none is valid, and SEALED-LOST, which holds over resets until it ends (R159). -/
def State.bootSeal (s : State) : State :=
  let s1 := s.deriveDsk
  let s2 := if s1.ks.inLost then (s1.wrF Reg.KST_STAT 5 4 Seal.LOST).wr 0 Reg.KST_LOST (BitVec.ofNat 32 s1.ks.lost)
    else if s1.recordsLost then
      let t := s1.enterLost
      { t with ks := { t.ks with lost := s1.lostStamp } }.wr 0 Reg.KST_LOST (BitVec.ofNat 32 s1.lostStamp)
    else s1
  if !s2.peat.slsValid && !s2.rdB Reg.TMP_STAT 1 then s2.askSls else s2

/-- Step 3: the banks in the order in which they are tried. -/
def State.bootOrder (s : State) : List Nat :=
  let l := [s.boot.prefer, 1 - s.boot.prefer]
  ((List.range 2).filter (fun i => (s.bank i).state == .trial)) ++ l.filter (fun i => !(s.bank i).failed) ++ l.filter (fun i => (s.bank i).failed)

/-- Kindling serves channel 0 itself (R300). -/
def State.hostPushed (s : State) (code : Nat) : State :=
  { s.wrF Reg.RST_STRAP 17 16 code with boot := { s.boot with stage := .kindlingMbx, bank := s.boot.prefer, since := s.now } }

/-- KINDLING_START: the steps of R299, with those of an accepted transition before them (R352). `dud` are the fuses of a target slot
that stay unblown. The log's first entry has security version 0xFF: none applies to the ROM (DEDUCED, log entry 136). -/
def execKindlingStart (dud : Nat) (s : State) : Host.Outcome State Fault Refusal :=
  if s.pwr.vin ∧ s.boot.stage = .kindling ∧ s.pwr.powered.contains 164 then
    let s1 := s.lcBoot dud
    let s2 := { s1 with peat := { s1.peat with flashCnt := s1.peat.counters } }.measure 0 0xFF 0 Config.romHash
    let s3 := s2.bootSeal
    if s3.rdB Reg.RST_STRAP 11 then .next (s3.hostPushed 2)
    else match s3.bootOrder.find? (fun i => (s3.bank i).state != .invalid && s3.fwCheck (s3.bank i).bytes == 0) with
      | some i =>
        let s4 := { s3 with boot := { s3.boot with bank := i, trial := (s3.bank i).state == FwState.trial } }
        .next ((s4.wrF Reg.RST_STRAP 17 16 i).startImage (s3.bank i).bytes)
      | none => .next (s3.hostPushed 3)
  else .next s

/-! The firmware's start (R301). -/

/-- Unsealing starts (R138); without a sealing key no record is ever unsealed (R353, R420). -/
def State.startUnseal (s : State) : State :=
  if s.sealState = Seal.LOST ∨ s.noDskState then s
  else
    let objs := s.ks.flash.map (fun (f : Nat × FlashKey) => (f.1, f.2.boot))
    ({ s with ks := { s.ks with objs := objs } }.wrF Reg.KST_STAT 5 4 Seal.UNSEALING).wr 0 Reg.KST_UNSEAL
      (BitVec.ofNat 32 (objs.length * 65536))

/-- A persisted kernel is loaded into slots that are free and measured; an owner's needs its signer registered (R189, R190). One that finds
no space is reported as one whose signer is gone (DESIGN CHOICE, log entry 134). -/
def State.bootKernel (s : State) (k : Kernel) : State :=
  match s.freeTwiddles k.opcode k.kind k.tables with
  | none => s.flt1 260 1
  | some slots =>
    if (k.kind = 0 ∨ s.signerKeys.any (fun x => keyIdent x == k.signer)) ∧ s.cacheTakes k.opcode k.kind k.cached then
      { s with kernels := s.kernels.map (fun (x : Kernel) =>
        if x.persist ∧ x.measure = k.measure then { x with current := true, slots := slots } else x) }.measure (3 + k.kind) k.svn k.opcode k.measure
    else s.flt1 260 1

/-- Step 2: the configuration image, or HOLD (R304). -/
def State.bootConfig (s : State) : State :=
  match s.cfgPick with
  | some i => (s.loadImage i).measure 2 (imgSvn (s.cfgBank i).image) 0 (sha3_384 (s.cfgBank i).image)
  | none => ({ s with boot := { s.boot with hold := true } }.wrF Reg.RST_CFG 0 0 0).fabStat

/-- Engine domains are gated in SCRAP (R358). -/
def State.scrapGate (s : State) : State :=
  if s.lcc = Lc.SCRAP then
    { s with
      pwr := { s.pwr with powered := s.pwr.powered.filter (fun d => decide (137 ≤ d)), ramping := s.pwr.ramping.filter (fun d => decide (137 ≤ d)),
                          queues := s.pwr.queues.map (fun q => q.filter (fun d => decide (137 ≤ d))) }
      units := s.units.map (fun (u : Nat × EUnit) => (u.1, { u.2 with service := false })) }
  else s

/-- Records of the key area that are damaged (R138). -/
def State.damage (s : State) (hs : List Nat) : State :=
  { s with ks := { s.ks with flash := s.ks.flash.map (fun (r : Nat × FlashKey) => (r.1, { r.2 with damaged := r.2.damaged || hs.contains r.1 })) } }

/-- The domain of an engine unit (R281). -/
def feedOf (u : Nat) : Nat := if u < 132 then u else if u < 164 then 132 + (u - 132) / 8 else 136

/-- No unit whose domain has power still waits for its tests (R301). -/
def State.testsDone (s : State) : Bool :=
  (List.range 230).all (fun u => !s.pwr.powered.contains (feedOf u) || (s.unit u).service || (s.unit u).retired || (s.unit u).selftest)

/-- Step 6: MBX_STAT.READY, once the firmware's own steps and the tests of the admitted units are done. -/
def State.tryReady (s : State) : State :=
  if s.boot.stage = .firmware ∧ s.boot.steps ∧ (s.testsDone ∨ s.lcc = Lc.SCRAP) then
    { s.wrF Reg.RST_TIME 15 0 s.wakeMs with boot := { s.boot with stage := .ready } }.noteFull
  else s.noteFull

/-- FIRMWARE_START: the firmware's steps to MBX_STAT.READY, with the tamper channels of enabled sources that fail their boot test (R338),
the damaged key records (R138) and the failing collector pairs (R360); the tests of units end by ADMISSION_TEST_DONE, and READY follows those of the admitted ones. The first boot of a life-cycle state waits for the new SLS (R130). -/
def execFirmwareStart (found : BootFind) (s : State) : Host.Outcome State Fault Refusal :=
  if s.boot.stage = .firmware ∧ !s.boot.newState ∧ !s.boot.steps then
    let s0 := found.pairs.foldl (fun (x : State) r => (x.fltEvent r.1 r.2 0 true).flt1 314 0) (s.damage found.records)
    let s1 := s0.bootConfig.startUnseal
    let ks := (s1.kernels.filter (fun k => k.persist && k.kind == 0)) ++ (s1.kernels.filter (fun k => k.persist && k.kind == 1))
    let s2 := ks.foldl State.bootKernel s1
    let s3 := (s2.nrgAsk 2 21 (.management 2) 4).nrgAsk 2 21 (.management 3) 32
    let s4 := (found.channels.filter (fun f => tmpSources.contains f.1 && decide (f.2 ≤ 1) && bitAt (s3.tmpReg f.1) 31)).foldl (fun (x : State) f => x.tmpFail f.1 f.2) s3.scrapGate
    .next { s4 with boot := { s4.boot with steps := s4.boot.stage == Stage.firmware } }.tryReady
  else .next s

/-- Objects whose lines were lost come back from their records (R365). -/
def State.reload (s : State) : State :=
  let s1 := s.ks.flash.foldl (fun (x : State) r => x.unsealOne r.1 r.2) s
  (s1.wr 0 Reg.KST_UNSEAL (s.rd 0 Reg.KST_UNSEAL)).wakeUnseal

/-- UNSEAL_DONE: every record is unsealed, and the store is NORMAL, or EMPTY without records (R138); in NORMAL, the objects that are reloaded
(R365). -/
def execUnsealDone (s : State) : Host.Outcome State Fault Refusal :=
  if s.sealState = Seal.UNSEALING ∧ (s.boot.stage = .firmware ∨ s.boot.stage = .ready) ∧ !(s.noDskState && !s.ks.flash.isEmpty) then
    let s1 := s.ks.flash.foldl (fun (x : State) r => x.unsealOne r.1 r.2) s
    .next ((s1.wrF Reg.KST_STAT 5 4 (if s1.ks.flash.isEmpty then Seal.EMPTY else Seal.NORMAL)).wakeUnseal).noteFull
  else if s.sealState = Seal.NORMAL ∧ s.ks.objs.any (fun o => !o.2.unsealed) then .next s.reload
  else .next s

/-! Admission of units (R285, R301, R414, R415). -/

/-- Units of a domain. -/
def unitsIn (d : Nat) : List Nat :=
  if d < 132 then [d] else if d < 136 then (List.range 8).map (· + (132 + 8 * (d - 132))) else if d = 136 then (List.range 66).map (· + 164) else []

/-- ADMISSION_TEST_DONE: a unit's memory and per-unit tests end; it enters service or is retired. -/
def execAdmissionTestDone (unit : Nat) (pass : Bool) (s : State) : Host.Outcome State Fault Refusal :=
  let x := s.unit unit
  if unit < 230 ∧ s.pwr.powered.contains (feedOf unit) ∧ (s.boot.stage = .firmware ∨ s.boot.stage = .ready) ∧ !x.service ∧ !x.retired ∧
      !x.selftest ∧ s.lcc ≠ Lc.SCRAP then
    if pass then .next ((s.setUnit unit { x with service := true, booted := true }).isoCheck).tryReady
    else .next (((s.flt1 289 1).flt1 unit 1).retire unit).tryReady
  else .next s

end Sys2Proof.Machine
end

