-- ==== Sys2Proof/Machine/PowerUp.lean ====
section
/-!
DEFINITION. Power domains, Bellows, the wake permit, the supplies, and what starts and ends resets (spec files 11, R281 to R298; 12, R316
to R318; 13, R340 to R344).
-/
namespace Sys2Proof.Machine
open Sys2Proof

/-! Domains (R281). -/

/-- Inrush at VIN 12 V, in mA. -/
def inrush (d : Nat) : Nat :=
  if d < 96 then 250
  else if d < 108 then 500
  else if d < 124 then 200
  else if d < 132 then 300
  else if d < 136 then 600
  else if d = 136 then 400
  else if d = 137 then 200
  else if d < 154 then 300
  else if d = 154 then 1000
  else if d = 155 then 100
  else if d < 164 then 300
  else 1200

/-- Budgeted load, in mW. -/
def loadMw (d : Nat) : Nat :=
  if d < 96 then 750
  else if d < 108 then 1000
  else if d < 124 then 600
  else if d < 132 then 1000
  else if d < 136 then 2000
  else if d = 136 then 1500
  else if d = 137 then 800
  else if d < 154 then 600
  else if d = 154 then 4000
  else if d = 155 then 300
  else if d < 164 then 400
  else 3000

/-- Load admitted, the always-on core counted. -/
def State.admitted (s : State) : Nat := (s.pwr.powered ++ s.pwr.ramping).foldl (fun n d => n + loadMw d) 500

/-- min(150 W, 15 A × VIN), in mW. -/
def loadLimit (mv : Nat) : Nat := Nat.min 150000 (15 * mv)

/-! The wake permit (R288 to R290). -/

/-! PWR_STAT.PERMIT. -/
namespace Pm
def WAITING : Nat := 0
def HELD : Nat := 1
def PASSED : Nat := 2
def TIMEOUT : Nat := 3
end Pm

def State.permit (s : State) : Nat := s.rdF Reg.PWR_STAT 5 4
def State.setPermit (s : State) (v : Nat) : State := s.wrF Reg.PWR_STAT 5 4 v

/-- The strap has put the device at a position other than 0 (R288). -/
def State.follows (s : State) : Bool := match s.pwr.strap with | some p => p != 0 | none => false

/-- The permit is taken. -/
def State.takePermit (s : State) : State := { s.setPermit Pm.HELD with pwr := { s.pwr with heldAt := some s.now } }

/-- WAKE_PERMIT_OUT is released. -/
def State.releaseOut (s : State) : State :=
  if s.pwr.permitOut then s else { s with pwr := { s.pwr with permitOut := true } }

/-- Classes 0 to 2 are all admitted: the initial wake ends, and a permit held is passed. -/
def State.wakeEnd (s : State) : State :=
  let left := (s.pwr.queues.take 3).any (fun q => !q.isEmpty) || s.pwr.ramping.any (fun d => s.domainClass d != 3)
  if s.pwr.waking && !left then
    let s1 := { s with pwr := { s.pwr with waking := false } }
    let s2 := if s1.permit = Pm.HELD then s1.setPermit Pm.PASSED else s1
    s2.releaseOut
  else s

/-- WAKE_PERMIT_FOUND. -/
def execWakePermitFound (s : State) : Host.Outcome State Fault Refusal :=
  if s.pwr.vin && s.pwr.vioOk && s.pwr.waking && s.follows && s.permit == Pm.WAITING then .next s.takePermit else .next s

/-- PERMIT_HOLD_TIMEOUT: the permit is passed whatever remains queued; after a permit timeout only the output is released (R289, R290). -/
def execPermitHoldTimeout (s : State) : Host.Outcome State Fault Refusal :=
  if s.permit = Pm.HELD then .next (s.setPermit Pm.PASSED).releaseOut
  else if s.permit = Pm.TIMEOUT then .next s.releaseOut
  else .next s

/-- PERMIT_WAIT_TIMEOUT. -/
def execPermitWaitTimeout (s : State) : Host.Outcome State Fault Refusal :=
  if s.pwr.vin && s.pwr.waking && s.follows && s.permit == Pm.WAITING then .next ((s.setPermit Pm.TIMEOUT).flt1 284 0) else .next s

/-! Bellows (R284 to R287). -/

/-- Scaled inrush in mA. -/
def scaled (ma mv : Nat) : Rat := (ma * 12000 : Nat) / (mv : Nat)

/-- Gated engine domains of a class, a shared domain before its PVCs. -/
def engDomains : Eng → List Nat
  | .pvc => (List.range 12).flatMap (fun c => (96 + c) :: (List.range 8).map (fun p => 8 * c + p))
  | .hte => (List.range 16).map (· + 108)
  | .bne => (List.range 8).map (· + 124)
  | .dge => (List.range 4).map (· + 132)
  | .chk => [136]
  | .disp => []

/-- The commands whose next run finds no unit call gated domains of their class back (R286). -/
def State.recall (s : State) : State :=
  s.cmds.foldl (fun (x : State) c =>
    if c.2.phase = .ready ∨ c.2.phase = .running then
      c.2.legs.foldl (fun (y : State) l =>
        if l.decided.isNone && decide (l.runs.length < l.want) && !(unitsOf l.cls).any (fun u => y.eligible c.2 l u && y.isFree u) &&
            !(engDomains l.cls).any (fun d => y.queued d || y.pwr.ramping.contains d) then
          match (engDomains l.cls).find? (fun d => y.gated d && !(unitsIn d).all (fun u => (y.unit u).retired)) with
          | some d => (if d < 96 && y.gated (96 + d / 8) then y.enqueue (96 + d / 8) else y).enqueue d
          | none => y
        else y) x
    else x) s

/-- A PVC's domain waits for its cluster's shared one (R282). -/
def State.sharedUp (s : State) (d : Nat) : Bool := if d < 96 then s.pwr.powered.contains (96 + d / 8) || s.pwr.ramping.contains (96 + d / 8) else true

/-- What one decision does with the classes from c on: the domain to start, if any, and whether the load limit held a class. A permit waited
for holds classes 0 to 2, never class 3 (R289; log entry 147). -/
def State.pick (s : State) (mv budget : Nat) (w : Rat) : List Nat → Option Nat × Bool
  | [] => (none, false)
  | c :: t =>
    let q := s.pwr.queues.getD c []
    if q.isEmpty then s.pick mv budget w t
    else if s.pwr.waking ∧ c ≤ 2 ∧ s.permit = Pm.WAITING then s.pick mv budget w t
    else match q.find? (fun d => decide (loadMw d + s.admitted ≤ loadLimit mv) && s.sharedUp d) with
      | none => let r := s.pick mv budget w t; (r.1, true)
      | some d => if w > 0 ∧ w + scaled (inrush d) mv > budget then (none, false) else (some d, false)

/-- A card port or MC0 has power, or a session or ceremony wants cards. -/
def State.cardsBusy (s : State) : Bool :=
  [0, 1].any (fun p => [Sc.ACTIVATING, Sc.READY, Sc.BUSY].contains (s.scState p)) || s.mc0On || s.cardCmd.isSome || s.cards.ceremony.isSome ||
    s.cards.quorum.isSome

/-- No run, scrub or test is going on in a domain, and a shared domain's PVCs are gated (R286); the card ports' domain is idle while no card
has power and no session or ceremony is under way (R287). -/
def State.idleDomain (s : State) (d : Nat) : Bool :=
  (unitsIn d).all (fun u => (s.unit u).busy.isNone && (s.unit u).inter.isNone && !(s.unit u).scrub && !(s.unit u).selftest && !(s.unit u).tested) &&
    (if 96 ≤ d ∧ d < 108 then (List.range 8).all (fun p => s.gated (8 * (d - 96) + p)) else true) && (d != 155 || !s.cardsBusy)

/-- A domain loses its power, and its units leave service. -/
def State.gate (s : State) (d : Nat) : State :=
  let s1 := { s with pwr := { s.pwr with powered := s.pwr.powered.filter (· != d) } }
  ((unitsIn d).foldl (fun (x : State) u => x.setUnit u { x.unit u with service := false }) s1).isoCheck.tryReady

/-- Idle domains of class 3, then of class 2 in reverse leading order, are gated until the load fits. -/
def State.gateUntil (s : State) (mv : Nat) : List Nat → State
  | [] => s
  | d :: t =>
    if s.admitted ≤ loadLimit mv then s
    else (if s.pwr.powered.contains d && s.idleDomain d then (if 138 ≤ d ∧ d < 154 then (s.setPort (d - 138) Ps.DISABLED).gate d else s.gate d)
      else s).gateUntil mv t

/-- What R287 does at a VIN: admitting stops by the load limit, DERATED is set, and domains are gated. -/
def State.derate (s : State) (mv : Nat) : State :=
  ((s.wrB Reg.PWR_STAT 7 true).wrF Reg.PWR_VIN 15 0 mv).gateUntil mv
    (((queuesWith s.firstPort).getD 3 []).filter (fun d => s.portState (d - 138) != Ps.UP) ++ (wakeQueues.getD 2 []).reverse)

/-- The ramp of a domain starts. -/
def State.startRamp (s : State) (d mv : Nat) : State :=
  { s with pwr := { s.pwr with
    queues := s.pwr.queues.map (fun q => q.filter (· != d))
    ramping := s.pwr.ramping ++ [d]
    starts := s.pwr.starts ++ [(s.now, inrush d, mv)] } }

/-- BELLOWS_DECISION with VIN in mV averaged over 2 µs and over 50 µs (R284). Where the load exceeds the limit while the device runs, idle
domains are gated first, those among them whose run has ended since (R287). -/
def execBellowsDecision (v v50 : Nat) (s : State) : Host.Outcome State Fault Refusal :=
  if s.pwr.vin && decide (0 < v) && s.boot.stage != .heldOff then
    let s0 := if s.hearthRuns && decide (loadLimit v < s.admitted) then s.derate v else s
    let s1 := s0.recall
    let some_ := s1.pwr.queues.any (fun q => !q.isEmpty)
    let s2 := s1.wrF Reg.PWR_VIN 15 0 v
    let s3 := if !s.pwr.burst && some_ then s2.wrF Reg.PWR_VIN 31 16 v50 else s2
    let vref := s3.rdF Reg.PWR_VIN 31 16
    let sag := decide (100 * v < 92 * vref)
    let s4 := if sag then (if s3.pwr.pause ≤ s.now then s3.incF Reg.PWR_PAUSES 15 0 1 else s3) else s3
    let s5 := { s4 with pwr := { s4.pwr with burst := some_, pause := if sag then s.now + 10000 else s4.pwr.pause,
                                             starts := s4.pwr.starts.filter (fun x => decide (s.now < x.1 + 1000)) } }
    let s6 := (s5.wrF Reg.PWR_LOAD 31 16 (loadLimit v / 100)).wrF Reg.PWR_LOAD 15 0 (s5.admitted / 100)
    if s.now < s6.pwr.pause then .next s6
    else
      let post := s6.pwr.waking && (s6.permit == Pm.PASSED || s6.permit == Pm.TIMEOUT)
      let budget := 250 * (if post then s6.rdF Reg.PWR_WAKE 5 0 else s6.rdF Reg.PWR_INRUSH 5 0)
      let w := s6.pwr.starts.foldl (fun (a : Rat) x => a + scaled x.2.1 x.2.2) 0
      let r := s6.pick v budget w [0, 1, 2, 3]
      let s7 := (s6.wrB Reg.PWR_STAT 7 (r.2 || decide (loadLimit v < s6.admitted)))
      let s8 := if r.2 then s7.incF Reg.PWR_PAUSES 31 16 1 else s7
      let s9 := if s8.admitted ≤ loadLimit v then s8.fltActive 282 false else s8
      match r.1 with
      | some d => .next (s9.startRamp d v)
      | none => .next s9
  else .next s

/-- DOMAIN_RAMP_DONE: the domain is powered; the NRG starts up (R273), an enabled port trains, an engine's units have their tests before
them. -/
def execDomainRampDone (d : Nat) (s : State) : Host.Outcome State Fault Refusal :=
  if s.pwr.ramping.contains d then
    let s1 := { s with pwr := { s.pwr with ramping := s.pwr.ramping.filter (· != d), powered := s.pwr.powered ++ [d] } }
    let s2 := if d = 137 then s1.nrgStart else if 138 ≤ d ∧ d < 154 ∧ s1.boot.cfgLoaded.isSome then s1.applyPorts else s1
    .next s2.wakeEnd
  else .next s

/-- IDLE_GATE. -/
def execIdleGate (d : Nat) (s : State) : Host.Outcome State Fault Refusal :=
  if s.rdF Reg.PWR_IDLE 15 0 ≠ 0 ∧ d < 137 ∧ s.boot.stage = .ready ∧ s.pwr.powered.contains d ∧ s.idleDomain d then .next (s.gate d) else .next s

/-- VIN_DERATE. -/
def execVinDerate (v : Nat) (s : State) : Host.Outcome State Fault Refusal :=
  if s.pwr.vin ∧ loadLimit v < s.admitted then .next (s.derate v) else .next s

/-- INPUT_CURRENT_LIMIT: class D, asserting until the load fits, and domains are gated (R316). -/
def execInputCurrentLimit (v : Nat) (s : State) : Host.Outcome State Fault Refusal :=
  if s.pwr.vin then .next ((s.fault 282 1 true false false).derate v) else .next s

/-! The strap (R298). -/

/-- The median of three readings. -/
def median3 (a b c : Nat) : Nat := Nat.max (Nat.min a b) (Nat.min (Nat.max a b) c)

/-- The strap is sampled: the position takes effect, and position 0 holds the permit of the wake from then on (R288, R298). -/
def State.sampleStrap (s : State) (a b c : Nat) : State :=
  let m := median3 a b c % 64
  let s1 := (s.wrF Reg.RST_STRAP 5 0 m).wrF Reg.RST_STRAP 11 8 (m / 4)
  let s2 := { s1 with pwr := { s1.pwr with strap := some (m / 4 % 8), strapped := true } }
  if s2.pwr.waking && m / 4 % 8 == 0 && s2.permit == Pm.WAITING then s2.takePermit else s2

/-! VIN (R291, R317, R340). -/

/-- An initial wake begins: every domain queues, while a thermal trip is in force Hearth alone; RESET_N and WAKE_PERMIT_OUT are driven low
(R284, R288, R293, R296). -/
def State.beginWake (s : State) (causes : List Nat) : State :=
  let b := s.boot
  let p := s.pwr
  let q := if p.thermal then [[164], [], [], []] else wakeQueues
  let p1 := { p with queues := q, ramping := [], powered := [], starts := [], burst := false, pause := 0, waking := true }
  let p2 := { p1 with heldAt := none, permitOut := false, drive := some s.now, vinAt := s.now, strapped := false }
  { s with pwr := p2, boot := { b with stage := .inReset, reason := causes, since := s.now } }.setPermit Pm.WAITING

/-- VIN_VALID with the three strap readings: a power-on reset; lost peat counters come back from flash, the wake settings from the
peat domain (R284, R291, R344). -/
def execVinValid (a b c : Nat) (s : State) : Host.Outcome State Fault Refusal :=
  if s.pwr.vin then .next s
  else
    let counters := if s.peat.cold then s.peat.flashCnt else s.peat.counters
    let s1 := { s with now := 0, pwr := { s.pwr with vin := true }, peat := { s.peat with counters := counters, fails := [] } }
    let s2 := match s1.peat.wake with
      | some w => (s1.wr 0 Reg.PWR_INRUSH w.1).wr 0 Reg.PWR_WAKE w.2
      | none => s1
    let s3 := ((s2.noteReset [0]).beginWake [0]).sampleStrap a b c
    .next (if s3.pwr.vioOk then s3 else s3.fault 283 1 true false false)

/-- What is left when VIN goes: fuses, flash, the peat domain on its cell, and what stands outside the device (R297, R340, R342). -/
def State.vinLoss (s : State) (cell : Bool) : State :=
  let z := State.reset
  let peat := if cell then { s.peat with vbat := true, cold := false } else s.peat.lose
  let sealed := if s.sealState = Seal.LOST then Seal.LOST else Seal.UNSEALING
  let banks := if s.boot.staging then s.boot.banks.set s.otherBank { s.bank s.otherBank with state := .invalid } else s.boot.banks
  let b1 := { z.boot with stage := .off, banks := banks, prefer := s.boot.prefer, cfgBanks := s.boot.cfgBanks, cfgMin := s.boot.cfgMin }
  let p1 := { z.pwr with vin := false, vioOk := s.pwr.vioOk, resetN := true, perstN := s.pwr.perstN, queues := [[], [], [], []], waking := false,
                         drive := none }
  let k1 := { z.ks with flash := s.ks.flash, ckFlash := s.ks.ckFlash.filter (fun h => (mget s.ks.flash h).isSome), ckMiB := s.ks.ckMiB, blobEpoch := s.ks.blobEpoch, hbsSpare := s.ks.hbsSpare, uids := s.ks.uids }
  let l1 := { s.lc with testOpen := false, openFlag := false, leftOpen := s.lc.leftOpen || s.lc.testOpen, block := [] }
  let f1 := { z.fab with groups := s.fab.groups, destroyed := s.fab.destroyed, lastAddr := s.fab.lastAddr }
  let c1 := { z.cards with roster := s.cards.roster, mq := s.cards.mq, volume := s.cards.volume, mc0Pass := s.cards.mc0Pass }
  let t := { z with pending := s.pending, free := s.free, tx := s.tx, nextCmd := s.nextCmd, nextRun := s.nextRun }
  let t1 := { t with
    regs := (s.keepRegs (fun k => match k with | .every => true | _ => false)).regs
    ks := { k1 with lost := s.ks.lost, inLost := s.ks.inLost, useClock := s.ks.useClock }
    dg := { z.dg with saveEpoch := s.dg.saveEpoch, saved := s.dg.saved }
    kernels := (s.kernels.filter (fun (k : Kernel) => k.persist)).map (fun (k : Kernel) => { k with current := false })
    signers := s.signers
    boot := { b1 with signer := s.boot.signer }
    pwr := p1
    peat := peat
    lc := { l1 with nonceDbg := none, nonceLc := none, session := none }
    cards := c1
    fab := f1 }
  t1.wrF Reg.KST_STAT 5 4 sealed

/-- VIN_LOSS: `cell` says whether VBAT carries the peat domain on. -/
def execVinLoss (cell : Bool) (s : State) : Host.Outcome State Fault Refusal := .next (if s.pwr.vin then s.vinLoss cell else s)

/-- VIN_OVERVOLTAGE: as loss of VIN (R317). -/
def execVinOvervoltage (cell : Bool) (s : State) : Host.Outcome State Fault Refusal := .next (if s.pwr.vin then s.vinLoss cell else s)

/-! RESET_N (R292, R293). -/

/-- RESET_N_ASSERT: a full reset, or the extension of the one in progress. While VIO is low RESET_N reads high (R318). -/
def execResetNAssert (s : State) : Host.Outcome State Fault Refusal :=
  if s.pwr.vin && s.pwr.vioOk then
    let s1 := s.fullReset [1]
    .next { s1 with pwr := { s1.pwr with resetN := false } }
  else .next s

/-- The reset in progress is one of a wake: the times of R306 count from VIN valid or from the rise of RESET_N (R293). -/
def State.wakeReset (s : State) : Bool := s.pwr.strapped || s.boot.reason.contains 0

/-- RESET_EXIT with the three strap readings, taken where the strap has not been sampled since the reset began: the device's drive has ended
and RESET_N has been high for 100 µs. -/
def execResetExit (a b c : Nat) (s : State) : Host.Outcome State Fault Refusal :=
  if s.boot.stage = .inReset then
    let s1 := if s.pwr.strapped then s else s.sampleStrap a b c
    let s2 := if s.wakeReset then s1 else { s1 with pwr := { s1.pwr with vinAt := s.now } }
    let s3 := { s2 with pwr := { s2.pwr with resetN := true, drive := none }, boot := { s2.boot with stage := .kindling, since := s.now } }
    .next (if !s.wakeReset ∧ s3.pwr.powered.contains 137 then s3.nrgStart else s3)
  else .next s

/-- HELD_OFF: the own drive of RESET_N has ended, WAKE_PERMIT_OUT is driven low, and every switched domain and Hearth are gated (R293). -/
def execHeldOff (s : State) : Host.Outcome State Fault Refusal :=
  if s.boot.stage = .inReset ∧ !s.pwr.resetN then
    let p := { s.pwr with queues := [[], [], [], []], ramping := [], powered := [], waking := false, permitOut := false, drive := none }
    .next ({ s with nrg := .off, pwr := p, boot := { s.boot with stage := .heldOff } }.wrB Reg.RST_CAUSE 1 true)
  else .next s

/-- HELD_OFF_RELEASE: an initial wake from the strap on. -/
def execHeldOffRelease (a b c : Nat) (s : State) : Host.Outcome State Fault Refusal :=
  if s.boot.stage = .heldOff then .next ({ s.beginWake [1] with pwr := { (s.beginWake [1]).pwr with resetN := true } }.sampleStrap a b c) else .next s

/-! PERST_N and the host link (R59, R294, R306). -/

/-- Kindling starts again from its first step (R307). -/
def State.kindlingAgain (s : State) : State :=
  let s1 := (s.wrB Reg.RST_CAUSE 2 true).wrF Reg.RST_LAST 3 0 2
  { s1 with boot := { s1.boot with stage := .kindling, sillage := [], running := zeros 48 }, mbx := [] }

/-- PERST_N_FALL: the link goes into reset; once Kindling has started the edge acts under PERST_MODE, which is 0 in HOLD. While VIO is low
PERST_N reads high; without VIN only the level is what changes. -/
def execPerstNFall (s : State) : Host.Outcome State Fault Refusal :=
  if !s.pwr.vin then .next { s with pwr := { s.pwr with perstN := false } }
  else if s.pwr.vioOk && s.pwr.perstN then
    let s1 := { s with pwr := { s.pwr with perstN := false }, link := { s.link with up := false } }
    let full := s1.boot.hold || !s1.rdB Reg.RST_CFG 0
    if s1.boot.stage = .kindlingMbx then .next (if full then s1.kindlingAgain else (s1.wrB Reg.RST_CAUSE 2 true).wrF Reg.RST_LAST 3 0 2)
    else if s1.boot.stage = .firmware ∨ s1.boot.stage = .ready then .next (if full then s1.fullReset [2] else s1.hioReset [2])
    else .next s1
  else .next s

/-- PERST_N_RISE. -/
def execPerstNRise (s : State) : Host.Outcome State Fault Refusal := .next { s with pwr := { s.pwr with perstN := true } }

/-- PCIE_LINK_UP: the link reaches L0; its domain is powered, PERST_N high and the boot past its reset. -/
def execPcieLinkUp (s : State) : Host.Outcome State Fault Refusal :=
  if s.pwr.perstN ∧ s.pwr.vin ∧ s.pwr.powered.contains 154 ∧ s.hearthRuns then .next { s with link := { s.link with up := true } } else .next s

/-- The link goes down with the scope of a host-interface-only reset (R59, R291). -/
def State.linkReset (s : State) (cause : Nat) : State :=
  if s.link.up then
    let s1 := s.hioReset [cause]
    { s1 with link := { s1.link with up := false } }
  else s

/-- LINK_DOWN: data link down without PERST_N. -/
def execLinkDown (s : State) : Host.Outcome State Fault Refusal := .next (s.linkReset 10)

/-- HOT_RESET: a hot reset received on the link. -/
def execHotReset (s : State) : Host.Outcome State Fault Refusal := .next (s.linkReset 11)

/-! Thermal trip (R296, R307). -/

/-- THERMAL_TRIP: a full reset with every switched domain gated; during the initial wake the permit is passed at once. -/
def execThermalTrip (s : State) : Host.Outcome State Fault Refusal :=
  if s.pwr.vin then
    let s1 := s.fullReset [9]
    let p := s1.pwr
    let own := fun (l : List Nat) => l.filter (· == 164)
    let p1 := { p with thermal := true, queues := p.queues.map own, ramping := own p.ramping, powered := own p.powered, waking := false }
    let s2 := { s1 with nrg := .off, pwr := p1 }
    .next (if s.pwr.waking then (s2.setPermit Pm.PASSED).releaseOut else s2)
  else .next s

/-- THERMAL_RECOVER: the switched domains queue again, in held off at its release (R293), in SCRAP without the engines (R358). -/
def execThermalRecover (s : State) : Host.Outcome State Fault Refusal :=
  if s.pwr.thermal then
    let s1 := { s with pwr := { s.pwr with thermal := false } }
    let ds := (queuesWith s.firstPort).flatten.filter (fun d => d != 164 && !(decide (d < 137) && s.lcc == Lc.SCRAP && s.boot.stage == .ready))
    .next (if s.boot.stage = .heldOff then s1 else ds.foldl State.enqueue s1)
  else .next s

/-! VIO (R318). -/

/-- VIO_RESTORED. -/
def execVioRestored (s : State) : Host.Outcome State Fault Refusal :=
  if s.pwr.vioOk then .next s else .next ({ s with pwr := { s.pwr with vioOk := true } }.fltActive 283 false)

/-! Software resets (R291, R295). -/

/-- A keyed write of RST_CTRL: FULL prevails over HIO. -/
def State.rstCtrl (s : State) (v : Word) : State :=
  if fld v 31 16 = 0x7144 ∧ s.hearthRuns then
    if bitAt v 0 then { s with pwr := { s.pwr with swReset := some (s.pwr.swReset.getD 7), swAt := if s.pwr.swReset.isSome then s.pwr.swAt else s.now } }
    else if bitAt v 1 then s.hioReset [7]
    else s
  else s

/-- RST_CTRL_FULL: the reset waits for commands past their commit point. -/
def execRstCtrlFull (v : Word) (s : State) : Host.Outcome State Fault Refusal := .next (s.rstCtrl v)

/-- RST_CTRL_HIO. -/
def execRstCtrlHio (v : Word) (s : State) : Host.Outcome State Fault Refusal := .next (s.rstCtrl v)

/-- SOFTWARE_RESET_START: the requested reset starts once every mailbox command past its commit point has finished, or 2 s after the
request. -/
def execSoftwareResetStart (s : State) : Host.Outcome State Fault Refusal :=
  match s.pwr.swReset with
  | some c => if s.mbx.any (fun r => r.2.commit) ∧ s.now < s.pwr.swAt + 2 * 10 ^ 8 then .next s else .next (s.fullReset [c])
  | none => .next s

end Sys2Proof.Machine
end

