-- ==== Sys2Proof/Machine/Cards.lean ====
section
/-!
DEFINITION. The card ports (spec file 16, R373 to R394): activation and negotiation of smart cards, card errors, operator cards, quorum
sessions, MC0, the escrow volume, and the ceremonies over them.
-/
namespace Sys2Proof.Machine
open Sys2Proof

/-- The ports run: with their domain and VIO, once an image is loaded (R304, R318; log entry 153). -/
def State.cardsOn (s : State) : Bool := s.lowPorts && s.boot.cfgLoaded.isSome && !s.boot.hold && s.pwr.powered.contains 155

/-- A card found while its domain is gated brings the domain back (R287; log entry 153). -/
def State.wakeCards (s : State) : State := if s.lowPorts && s.boot.cfgLoaded.isSome && !s.boot.hold then s.enqueue 155 else s

/-- VCC of the class on, and the port starts anew (R374): class 1 A, 2 B, 3 C. The contacts follow (State.pad). -/
def State.activate (s : State) (p cls : Nat) (noPps : Bool) : State :=
  let w := setBits (setBits (setBits (s.rd 0 (Reg.CRD_SC_STAT p)) 31 16 0x1011) 27 26 cls) 7 0 0xFF
  (s.wr 0 (Reg.CRD_SC_STAT p) w).setSc p { ScPort.idle with noPps := noPps }

/-- The deactivation of R378, and the state that the port enters; the contacts follow (State.pad). A port that serves quorum relay tells its peers that the card is gone. -/
def State.deactivate (s : State) (p v : Nat) : State :=
  let w := setBits (setBits (s.rd 0 (Reg.CRD_SC_STAT p)) 31 16 (v * 4096 + 0x11)) 7 0 0xFF
  let s1 := (s.dropWho (.card p)).wr 0 (Reg.CRD_SC_STAT p) w
  let s2 := { s1 with
    cards := { s1.cards with ports := mdel s1.cards.ports p }
    fab := { s1.fab with relays := mdel s1.fab.relays p } }
  if s.fab.flag 1 ∧ (s.scState p = Sc.READY ∨ s.scState p = Sc.BUSY) then
    s2.fab.peers.foldl (fun (x : State) q => x.sendSecret q.id (.relayCard p false)) s2
  else s2

/-- No answer in a class: the next lower one, and REJECTED after class A (R374). -/
def State.nextClass (s : State) (p : Nat) : State :=
  let c := s.rdF (Reg.CRD_SC_STAT p) 27 26
  if c ≤ 1 then s.deactivate p Sc.REJECTED else (s.deactivate p Sc.ACTIVATING).activate p (c - 1) false

/-! APDUs (R378, R379). -/

/-- A command APDU: chained in parts of 255 bytes, the last with the expected length where a response is due. -/
def apdus : Nat → List Byte → List Byte → Bool → List (List Byte)
  | 0, _, _, _ => []
  | n + 1, h, d, le =>
    if d.length ≤ 255 then [h ++ (if d.isEmpty then [] else [BitVec.ofNat 8 d.length] ++ d) ++ (if le then [0] else [])]
    else (((h.take 1).map (· ||| 0x10)) ++ h.drop 1 ++ [255] ++ d.take 255) :: apdus n h (d.drop 255) le

/-- An APDU goes to a card, to one in a peer's port through the session with the peer (R411). -/
def State.sendApdu (s : State) (p : Nat) (a : List Byte) : State :=
  if p < 2 then (s.setSc p { s.scPort p with ins := a.getD 1 0 }).emit (.apdu p a)
  else match mget s.fab.remote p with
    | some r => s.sendSecret r.1 (.relayApdu r.2 a)
    | none => s

/-- A step starts with its first APDU. The first APDU is the commit point, in ESCROW_WRITE the first PUT SHARE (R119, R393). -/
def State.sendStep (s : State) (p : Nat) (x : ScPort) (step : CardStep) (h d : List Byte) (le : Bool) : State :=
  match apdus (d.length / 255 + 1) h d le with
  | [] => s
  | a :: rest =>
    let s1 := ((s.setSc p { x with step := step, out := rest, resp := [], retries := 0, drawing := false }).setScState p Sc.BUSY).sendApdu p a
    match s1.cardCmd with
    | some r => if !r.2.commit && (r.2.code != 0x0902 || step == .putShare) then s1.mbxCommit r.1 else s1
    | none => s1

/-- The next step of a card session draws key-grade bytes; in FAULT the card command ends (R271, R274). -/
def State.cardDraw (s : State) (p : Nat) (x : ScPort) (n : Nat) : State :=
  if s.nrgDown then s.endCardCmd (.err St.ENTROPY_FAULT)
  else (((s.setSc p { x with drawing := true }).setScState p Sc.BUSY).dropWho (.card p)).nrgAsk 2 21 (.card p) n

/-- A card session opens: SELECT. -/
def State.selectCard (s : State) (p : Nat) : State :=
  s.sendStep p { s.scPort p with ident := [], challenge := [], seed := [], share := 0 } .select [0x00, 0xA4, 0x04, 0x00]
    [0xF0, 0x45, 0x42, 0x4F, 0x50, 0x31] false

/-- The card command wants operator cards now. -/
def State.wantsCards (s : State) : Bool :=
  s.cardCmd.isSome && (match s.cards.ceremony with
    | some c => c.phase == 1
    | none => match s.cards.quorum with
      | some q => !q.inForce
      | none => false)

/-- Ready cards are taken up. -/
def State.pollCards (s : State) : State :=
  s.cardPorts.foldl (fun (x : State) p =>
    if x.wantsCards && x.scState p == Sc.READY && (decide (p < 2) || x.cards.ceremony.isNone) then x.selectCard p else x) s

/-- An operator's identifier: both keys bound together. -/
def operatorId (ident : List Byte) : List Byte := (sha3_256 ident).take 16

/-- Roster index of an operator; 0xFF for none. -/
def State.rosterIdx (s : State) (id : List Byte) : Nat :=
  match s.cards.roster.findIdx? (· == id) with | some i => i | none => 0xFF

/-! Activation (R373 to R377). -/

/-- The interface of a port is looped: the loopback ends, and presence counts from its end (R418). -/
def State.looped (s : State) (i : Nat) : Bool := match s.test.loop with | some l => l.1 == i | none => false

/-- SC_PRESENCE: DET_N low for 50 ms. -/
def execScPresence (port : Nat) (s : State) : Host.Outcome State Fault Refusal :=
  if s.looped (17 + port) then .next (s.lbEnd (17 + port))
  else if port < 2 ∧ s.cardsOn ∧ (s.scState port = Sc.EMPTY ∨ s.scState port = Sc.REMOVED) then .next (s.activate port 3 false)
  else .next (if port < 2 then s.wakeCards else s)

/-- SC_ATR_TIMEOUT. -/
def execScAtrTimeout (port : Nat) (s : State) : Host.Outcome State Fault Refusal :=
  if port < 2 ∧ s.scState port = Sc.ACTIVATING ∧ (s.scPort port).pps = none then .next (s.nextClass port) else .next s

/-- What the port takes from an ATR: TA1, TC1, TA2, TC2, the protocols in order, the class indicator, and of the first group for T=1 its TA,
TB and TC (ISO/IEC 7816-3). -/
structure Atr where
  ta1    : Option Nat
  tc1    : Option Nat
  ta2    : Option Nat
  tc2    : Option Nat
  protos : List Nat
  cls    : Option Nat
  t1     : Option (Option Nat × Option Nat × Option Nat)
deriving DecidableEq, Repr

/-- Interface bytes group by group (ISO/IEC 7816-3): group number, the protocol of the TD before it, which bytes follow. -/
def atrGroups : Nat → Nat → Nat → Nat → List Byte → Atr → Atr
  | 0, _, _, _, _, a => a
  | n + 1, i, t, y, l, a =>
    let byte := fun (b k : Nat) => if y.testBit b then (l[k]?).map (fun (x : Byte) => x.toNat) else none
    let ka := b2n (y.testBit 0)
    let kb := ka + b2n (y.testBit 1)
    let ta := byte 0 0
    let tc := byte 2 kb
    let k := kb + b2n (y.testBit 2)
    let a1 := if i = 1 then { a with ta1 := ta, tc1 := tc } else if i = 2 then { a with ta2 := ta, tc2 := tc }
      else if t = 15 ∧ a.cls = none then { a with cls := ta }
      else if t = 1 ∧ a.t1 = none then { a with t1 := some (ta, byte 1 ka, tc) } else a
    if y.testBit 3 then
      match l.drop k with
      | [] => a1
      | td :: rest =>
        let u := td.toNat % 16
        atrGroups n (i + 1) u (td.toNat / 16) rest (if u = 15 then a1 else { a1 with protos := a1.protos ++ [u] })
    else a1

/-- The parts of an ATR; without TD1 the card offers T=0. -/
def parseAtr (l : List Byte) : Atr :=
  let a := atrGroups 8 1 0 (leAt l 1 1 / 16) (l.drop 2)
    { ta1 := none, tc1 := none, ta2 := none, tc2 := none, protos := [], cls := none, t1 := none }
  if a.protos.isEmpty then { a with protos := [0] } else a

/-- Fi and Di of a TA1 (ISO/IEC 7816-3); 0 where reserved. -/
def fiOf (n : Nat) : Nat := ([372, 372, 558, 744, 1116, 1488, 1860, 0, 0, 512, 768, 1024, 1536, 2048] : List Nat).getD n 0
def diOf (n : Nat) : Nat := ([0, 1, 2, 4, 8, 16, 32, 64, 12, 20] : List Nat).getD n 0
/-- Fi/Di is at least 16. -/
def fiDiOk (ta1 : Nat) : Bool :=
  let f := fiOf (ta1 / 16)
  let d := diOf (ta1 % 16)
  f != 0 && d != 0 && decide (16 * d ≤ f)

/-- The exchange parameters that an ATR gives at a Fi and Di (R376, R377; ISO/IEC 7816-3): extra guard time from TC1, the T=0 waiting time
from TC2, IFSC, BWT and CWT, and the block check of T=1 from TA3, TB3 and TC3, each with its default. -/
def Atr.mode (a : Atr) (ta1 : Nat) : CardMode :=
  let t := a.t1.getD (none, none, none)
  let b := t.2.1.getD 0x4D
  { fi := fiOf (ta1 / 16), di := diOf (ta1 % 16), guard := a.tc1.getD 0, wi := a.tc2.getD 10, ifsc := t.1.getD 32, bwi := b / 16, cwi := b % 16,
    crc := (t.2.2.getD 0).testBit 0 }

/-- The T=0 waiting time in clock cycles: 960 × WI × Fi (ISO/IEC 7816-3). -/
def CardMode.workCycles (m : CardMode) : Nat := 960 * m.wi * m.fi

/-- CWT in elementary time units, and BWT in clock cycles beyond its 11 units (ISO/IEC 7816-3). -/
def CardMode.cwtUnits (m : CardMode) : Nat := 11 + 2 ^ m.cwi
def CardMode.bwtCycles (m : CardMode) : Nat := 2 ^ m.bwi * 960 * 372

/-- The CRC of T=1: that of ISO/IEC 13239, sent high byte first. -/
def blockCrc (l : List Byte) : Nat :=
  0xFFFF - l.foldl (fun c (b : Byte) => (List.range 8).foldl (fun v _ => if v % 2 = 1 then (v / 2) ^^^ 0x8408 else v / 2) (c ^^^ b.toNat)) 0xFFFF

/-- A T=1 block of the port's own: node address, control byte and information with the check bytes that TC3 selects. -/
def CardMode.block (m : CardMode) (pcb : Byte) (inf : List Byte) : List Byte :=
  let b := [0, pcb, BitVec.ofNat 8 inf.length] ++ inf
  b ++ (if m.crc then [BitVec.ofNat 8 (blockCrc b / 256), BitVec.ofNat 8 (blockCrc b)] else [b.foldl (· ^^^ ·) 0])

/-- The card runs: protocol, whether a PPS was accepted, TA1 in effect, exchange parameters. In T=1 the port requests IFSD 254 once (R377). -/
def State.cardReady (s : State) (p proto : Nat) (pps : Bool) (ta1 : Nat) (m : CardMode) : State :=
  let w := setBits (setBit (setBit (setBits (s.rd 0 (Reg.CRD_SC_STAT p)) 31 28 Sc.READY) 25 (proto == 1)) 24 pps) 23 16 ta1
  let s1 := (s.wr 0 (Reg.CRD_SC_STAT p) w).setSc p { ScPort.idle with mode := m }
  let s2 := if proto = 1 then s1.emit (.card p (m.block 0xC1 [0xFE])) else s1
  let s3 := if s2.fab.flag 1 then s2.fab.peers.foldl (fun (x : State) q => x.sendSecret q.id (.relayCard p true)) s2 else s2
  s3.pollCards

/-- The class before the failed PPS starts again without one (R375). -/
def State.ppsFailed (s : State) (p : Nat) : State :=
  let c := s.rdF (Reg.CRD_SC_STAT p) 27 26
  (s.deactivate p Sc.ACTIVATING).activate p c true

/-- SC_ATR: the ATR, and the card's PPS response where it has come. -/
def execScAtr (port : Nat) (atr pps : List Byte) (s : State) : Host.Outcome State Fault Refusal :=
  let x := s.scPort port
  if port < 2 ∧ s.scState port = Sc.ACTIVATING ∧ x.pps = none then
    let a := parseAtr atr
    let cls := s.rdF (Reg.CRD_SC_STAT port) 27 26
    let t1 := a.ta1.getD 0x11
    let proto := if a.protos.contains 1 then 1 else 0
    if (match a.cls with | some c => !c.testBit (cls - 1) | none => false) then .next (s.nextClass port)
    else if !a.protos.contains 0 && !a.protos.contains 1 then .next (s.deactivate port Sc.REJECTED)
    else match a.ta2 with
      | some m =>
        if m % 16 ≤ 1 ∧ !m.testBit 4 ∧ fiDiOk t1 then .next (s.cardReady port (m % 16) false t1 (a.mode t1)) else .next (s.deactivate port Sc.REJECTED)
      | none =>
        if x.noPps then .next (s.cardReady port proto false 0x11 (a.mode 0x11))
        else
          let v := if fiDiOk t1 then t1 else 0x11
          let b : List Byte := [0xFF, BitVec.ofNat 8 (16 + proto), BitVec.ofNat 8 v]
          let req := b ++ [b.foldl (· ^^^ ·) 0]
          let s1 := s.emit (.card port req)
          if pps.isEmpty then .next (s1.setSc port { x with pps := some req })
          else if pps = req then .next (s1.cardReady port proto true v (a.mode v))
          else .next (s1.ppsFailed port)
  else .next s

/-- A card error (R376, R377): the port deactivates, and with an APDU outstanding the session is cancelled (R378, R383). -/
def State.cardError (s : State) (p : Nat) : State :=
  let busy := (s.scPort p).asked && (s.scPort p).step != .relay
  let s1 := s.deactivate p Sc.ERROR
  if busy then s1.cancelSession else s1

/-- SC_APDU_TIMEOUT. -/
def execScApduTimeout (port : Nat) (s : State) : Host.Outcome State Fault Refusal :=
  if port < 2 ∧ (s.scPort port).asked then .next (s.cardError port) else .next s

/-- The port runs T=1. -/
def State.blockProto (s : State) (p : Nat) : Bool := s.rdB (Reg.CRD_SC_STAT p) 25

/-- A block error in T=1: up to three R-blocks, then up to three S(RESYNCH) requests, and a card error after that (R377). -/
def State.recoverBlock (s : State) (p : Nat) : State :=
  let x := s.scPort p
  if x.retries < 3 then (s.setSc p { x with retries := x.retries + 1 }).emit (.card p (x.mode.block (BitVec.ofNat 8 (0x82 + 16 * x.nr)) []))
  else if x.retries < 6 then (s.setSc p { x with retries := x.retries + 1, nr := 0 }).emit (.card p (x.mode.block 0xC0 []))
  else s.cardError p

/-- SC_WAITING_TIME_EXPIRY: of a PPS, of a T=1 block with its recovery, of a T=0 character (R375 to R377). -/
def execScWaitingTimeExpiry (port : Nat) (s : State) : Host.Outcome State Fault Refusal :=
  let x := s.scPort port
  if port < 2 then
    if s.scState port = Sc.ACTIVATING ∧ x.pps ≠ none then .next (s.ppsFailed port)
    else if !x.asked then .next s
    else .next (if s.blockProto port then s.recoverBlock port else s.cardError port)
  else .next s

/-- A card leaves a smart-card port (R378, R383). -/
def State.scRemove (s : State) (p v : Nat) : State :=
  if s.scState p = Sc.EMPTY ∨ s.scState p = Sc.REMOVED then s
  else
    let busy := (s.scPort p).asked && (s.scPort p).step != .relay
    let s1 := s.deactivate p v
    if busy then s1.cancelSession else s1

/-- SC_REMOVAL. -/
def execScRemoval (port : Nat) (s : State) : Host.Outcome State Fault Refusal :=
  .next (if port < 2 then s.scRemove port Sc.REMOVED else s)

/-! Quorum sessions (R381 to R383). -/

/-- The operators of a roster that have approved. -/
def Quorum.votes (q : Quorum) (roster : List (List Byte)) : Nat := (q.counted.filter (fun i => roster.contains i)).length

def Quorum.roster (q : Quorum) : Bool := q.purposes.testBit 6

/-- The approvals reach what the session needs. -/
def State.quorumMet (s : State) (q : Quorum) : Bool :=
  if q.roster then decide (q.newMq ≤ q.votes q.newRoster) && (!q.needOld || decide (s.cards.mq ≤ q.votes s.cards.roster))
  else decide (s.cards.mq ≤ q.votes s.cards.roster)

/-- An operator's approval may count. -/
def State.mayCount (s : State) (q : Quorum) (id : List Byte) : Bool :=
  !q.counted.contains id && ((q.roster && q.newRoster.contains id) || ((!q.roster || q.needOld) && s.cards.roster.contains id))

/-- An approval counts; the last one puts the session in force, and with ROSTER the new roster in place. -/
def State.approve (s : State) (q : Quorum) (id : List Byte) : State :=
  let q1 := { q with counted := q.counted ++ [id] }
  if s.quorumMet q1 then
    match s.cardCmd with
    | some r =>
      let p : Reply := ⟨St.SUCCESS, [], q1.counted.flatten, 0, false⟩
      if p.fits r.2 then
        let c := { s.cards with quorum := some { q1 with inForce := true, since := s.now } }
        let c1 := if q1.roster then { c with roster := q1.newRoster, mq := q1.newMq } else c
        { s with cards := c1 }.endCardCmd p
      else s.endCardCmd { Reply.err St.OUTPUT_TOO_SMALL with word2 := p.buf.length }
    | none => s
  else { s with cards := { s.cards with quorum := some q1 } }

/-- QUORUM_OPEN. -/
def execQuorumOpen (fn ch : Nat) (req : List Byte) (s : State) : Host.Outcome State Fault Refusal :=
  match mbxRow1 0x0900 fn ch (fun r =>
    let i := r.inl
    let p := leAt i 0 1
    let b := fixLen r.reqLen req
    let n := leAt b 1 1
    let mq := leAt b 0 1
    let old := s.cards.roster
    let isR := p.testBit 6
    if s.cardCmd.isSome ∨ s.cards.quorum.isSome then .bad St.STATE
    else if i.length < 8 ∨ p ≥ 128 ∨ leAt i 1 1 ≠ 0 ∨ leAt i 6 2 ≠ 0 ∨ leAt i 2 2 < 1 ∨ 60 < leAt i 2 2 ∨ leAt i 4 2 < 10 ∨ 3600 < leAt i 4 2 then
      .bad St.BAD_FIELD
    else if isR ∧ (!r.ext ∨ n < 1 ∨ 16 < n ∨ mq < 1 ∨ n < mq ∨ b.length ≠ 2 + 16 * n) then .bad St.BAD_FIELD
    else if old.isEmpty ∧ !isR then .bad St.QUORUM_REQUIRED
    else
      let k := if isR then mq else s.cards.mq
      if !r.rext ∨ r.respCap < 16 * k then .fail { Reply.err St.OUTPUT_TOO_SMALL with word2 := 16 * k }
      else
        let q : Quorum := { inForce := false, purposes := p, lifetime := leAt i 2 2, waitSec := leAt i 4 2, counted := [],
                            needOld := isR && !old.isEmpty, newRoster := if isR then (List.range n).map (fun j => slice b (2 + 16 * j) 16) else [],
                            newMq := if isR then mq else 0, nonce := r.rand.take 32, since := s.now }
        if r.rand.length < 32 then .ask 32 else
        .runs { s with cards := { s.cards with quorum := some q } }) s with
  | .next t => if s.cards.quorum.isNone && t.cards.quorum.isSome then .next t.pollCards else .next t
  | o => o

/-- QUORUM_CLOSE: the session in force ends. -/
def execQuorumClose (fn ch : Nat) (s : State) : Host.Outcome State Fault Refusal :=
  mbxRow1 0x0901 fn ch (fun _ =>
    match s.cards.quorum with
    | some q => if q.inForce then .done { s with cards := { s.cards with quorum := none } } (.ok []) else .bad St.STATE
    | none => .bad St.STATE) s

/-- QUORUM_WAIT_TIMEOUT. -/
def execQuorumWaitTimeout (s : State) : Host.Outcome State Fault Refusal :=
  match s.cards.quorum with
  | some q => if q.inForce then .next s else .next (s.endCardCmd (.err St.QUORUM_REQUIRED))
  | none => .next s

/-- QUORUM_LIFETIME_EXPIRY: a command that has checked the session keeps its authority. -/
def execQuorumLifetimeExpiry (s : State) : Host.Outcome State Fault Refusal :=
  match s.cards.quorum with
  | some q => if q.inForce then .next { s with cards := { s.cards with quorum := none } } else .next s
  | none => .next s

/-! MC0 (R384 to R390). -/

/-- The mode and whether signalling is at 1.8 V: the highest that the card offers under the cap and whose switch verifies. -/
def mcMode (c : McCard) (cap : Nat) : Nat × Bool :=
  let best := fun (l : List Nat) (low : Nat) =>
    match l.find? (fun m => decide (m ≤ cap) && c.offers.contains m) with
    | some m => if c.verifies.contains m then m else if m = 5 ∧ c.offers.contains 4 ∧ c.verifies.contains 4 then 4 else low
    | none => low
  if c.kind ≠ 3 ∧ 2 ≤ cap ∧ c.s18 ∧ c.switchOk then (best [5, 4, 3, 2] 2, true) else (best [1] 0, false)

/-- The commands of power-up, identification, selection, width and speed, by number (R384): after a failed voltage switch the card is
identified again (R385); SDR 104 is tuned with CMD19. -/
def mcIdent (c : McCard) (cap : Nat) (wide : Bool) : List Nat :=
  if c.kind = 3 then [0, 1, 2, 3, 9, 7, 13, 8] ++ (if wide then [6, 19, 14] else []) ++ (if 1 ≤ cap ∧ c.offers.contains 1 then [6] else [])
  else
    let up := [0, 8, 55, 41]
    let low := decide (2 ≤ cap) && c.s18
    (if low && !c.switchOk then up ++ [11] else []) ++ up ++ (if low && c.switchOk then [11] else []) ++ [2, 3, 9, 7, 13, 55, 51] ++
      (if wide then [55, 6] else []) ++ [6, 6] ++ (if low && c.switchOk && decide (5 ≤ cap) && c.offers.contains 5 then [19] else [])

/-- MC0_INSERT: the card that is found. -/
def execMc0Insert (card : McCard) (s : State) : Host.Outcome State Fault Refusal :=
  if s.looped 19 then .next (s.lbEnd 19)
  else if s.cardsOn ∧ (s.mcState = Mc.EMPTY ∨ s.mcState = Mc.REMOVED) then
    if card.kind < 1 ∨ 3 < card.kind then .next (s.wr 0 Reg.CRD_MC_STAT (BitVec.ofNat 32 (Mc.REJECTED * 2 ^ 28)))
    else
      let m := mcMode card (s.rdF Reg.CRD_MC_CFG 31 29)
      let w4 := card.width4 && s.rdB Reg.CRD_MC_CFG 28
      let st := if card.locked then Mc.LOCKED else Mc.READY
      let w := st * 2 ^ 28 + card.kind * 2 ^ 26 + m.1 * 2 ^ 23 + b2n w4 * 2 ^ 22 + b2n m.2 * 2 ^ 21
      let s2 := (mcIdent card (s.rdF Reg.CRD_MC_CFG 31 29) (s.rdB Reg.CRD_MC_CFG 28)).foldl (fun (x : State) c => x.emit (.mc0Cmd c)) s
      .next { (s2.wr 0 Reg.CRD_MC_STAT (BitVec.ofNat 32 w)) with
        cards := { s2.cards with volume := card.blocks.foldl (fun v b => mput v b.1 (fixLen 512 b.2)) [], mc0Pass := card.password, mc0Busy := false } }
  else .next s.wakeCards

/-- MC0 goes off: commands pending on it end with CARD_REMOVED (R390). -/
def State.mcOff (s : State) (st : Nat) : State :=
  if s.mcState = Mc.EMPTY ∨ s.mcState = Mc.REMOVED then s
  else
    let s1 := s.wr 0 Reg.CRD_MC_STAT (BitVec.ofNat 32 (st * 2 ^ 28))
    let s2 := { s1 with cards := { s1.cards with volume := [], mc0Pass := [], mc0Busy := false } }
    if s2.cards.ceremony.isSome then s2.endCardCmd (.err St.CARD_REMOVED) else s2

/-- MC0_REMOVE. -/
def execMc0Remove (s : State) : Host.Outcome State Fault Refusal := .next (s.mcOff Mc.REMOVED)

/-- MC0_IDLE_SLEEP. -/
def execMc0IdleSleep (s : State) : Host.Outcome State Fault Refusal :=
  if s.mcState = Mc.READY ∧ s.rdF Reg.CRD_MC_CFG 15 0 ≠ 0 ∧ s.cards.ceremony = none then
    let s1 := (s.setMcState Mc.SLEEP).emit (.mc0Cmd 7)
    .next (if s.rdF Reg.CRD_MC_STAT 27 26 = 3 then s1.emit (.mc0Cmd 5) else s1)
  else .next s

/-- A sleeping card wakes before the next command. -/
def State.mcWake (s : State) : State :=
  if s.mcState = Mc.SLEEP then
    let s1 := s.setMcState Mc.READY
    (if s.rdF Reg.CRD_MC_STAT 27 26 = 3 then s1.emit (.mc0Cmd 5) else s1).emit (.mc0Cmd 7)
  else s

/-- CARD_OVERCURRENT: ports 0 and 1, and 2 for MC0 (R322). -/
def execCardOvercurrent (port : Nat) (s : State) : Host.Outcome State Fault Refusal :=
  if port < 2 ∧ [Sc.ACTIVATING, Sc.READY, Sc.BUSY].contains (s.scState port) then .next ((s.scRemove port Sc.FAULT).flt1 281 1)
  else if port = 2 ∧ s.mc0On then .next ((s.mcOff Mc.FAULT).flt1 281 1)
  else .next s

/-- VIO_LOW: with VIN present, source 283, and for the card ports as removal; RESET_N and PERST_N read high from now on (R318). -/
def execVioLow (s : State) : Host.Outcome State Fault Refusal :=
  let p := { s.pwr with vioOk := false, resetN := true, perstN := true }
  if s.pwr.vin && s.pwr.vioOk then
    let s1 := { s with pwr := p }.fault 283 1 true false false
    .next (((s1.scRemove 0 Sc.REMOVED).scRemove 1 Sc.REMOVED).mcOff Mc.REMOVED)
  else .next { s with pwr := p }

/-! The volume (R391, R392). -/

abbrev Blocks := List (Nat × List Byte)

def blockAt (v : Blocks) (a : Nat) : List Byte := (mget v a).getD (zeros 512)

/-- Blocks a to a + n - 1 in one run of bytes. -/
def blocksFrom (v : Blocks) (a n : Nat) : List Byte := (List.range n).flatMap (fun i => blockAt v (a + i))

/-- Block 0 is a volume header. -/
def volOk (v : Blocks) : Bool :=
  let b := blockAt v 0
  b.take 8 == [0x45, 0x42, 0x45, 0x56, 1, 0, 0, 0] && b.drop 24 == zeros 488

def volId (v : Blocks) : List Byte := slice (blockAt v 0) 8 16

/-- A record header block of this volume stands at a. -/
def headOk (v : Blocks) (a : Nat) : Bool :=
  let b := blockAt v a
  b.take 8 == [0x45, 0x42, 0x52, 0x48, 1, 0, 0, 0] && slice b 76 16 == volId v && b.drop 92 == zeros 420

def rcdLen (v : Blocks) (a : Nat) : Nat := leAt (blockAt v a) 32 4

/-- The commit block that a record at a has to have. -/
def commitBlock (v : Blocks) (a : Nat) : List Byte :=
  let h := blockAt v a
  [0x45, 0x42, 0x52, 0x43] ++ slice h 8 16 ++ slice h 24 8 ++ natLE 4 a ++ sha3_256 (blocksFrom v a (rcdLen v a + 1)) ++ zeros 448

def recOk (v : Blocks) (a : Nat) : Bool := headOk v a && blockAt v (a + rcdLen v a + 1) == commitBlock v a

/-- The walk: addresses of the header blocks, and the append point. -/
def walkFrom (v : Blocks) : Nat → Nat → List Nat × Nat
  | 0, a => ([], a)
  | n + 1, a =>
    if headOk v a then
      let r := walkFrom v n (a + rcdLen v a + 2)
      (a :: r.1, r.2)
    else ([], a)

/-- The walk from block 8: every header block is listed, so there are at most as many steps as blocks listed. -/
def walk (v : Blocks) : List Nat × Nat := walkFrom v (v.length + 1) 8

def recSeq (v : Blocks) (a : Nat) : Nat := leAt (blockAt v a) 24 8

/-- The valid record with a bundle ID, or the one with the highest sequence. -/
def pickRecord (v : Blocks) (id : List Byte) : Option Nat :=
  let l := (walk v).1.filter (recOk v)
  if id = zeros 16 then l.foldl (fun (b : Option Nat) a => match b with
      | some c => if recSeq v c < recSeq v a then some a else b
      | none => some a) none
  else l.find? (fun a => slice (blockAt v a) 8 16 == id)

/-- The data of a record, their hash checked. -/
def recData (v : Blocks) (a : Nat) : Option (List Byte) :=
  let n := leAt (blockAt v a) 36 8
  let d := (blocksFrom v (a + 1) (rcdLen v a)).take n
  if d.length = n ∧ sha3_256 d = slice (blockAt v a) 44 32 then some d else none

/-! Shamir sharing (R160). -/

/-- Product in GF(2^8) with x^8 + x^4 + x^3 + x + 1. -/
def shareMul (a b : Byte) : Byte :=
  ((List.range 8).foldl (fun (r : Byte × Byte) i =>
    (if b.getLsbD i then r.1 ^^^ r.2 else r.1, (r.2 <<< 1) ^^^ (if r.2.getLsbD 7 then 0x1B else 0))) (0, a)).1

/-- Inverse: the 254th power. -/
def gfInv (a : Byte) : Byte := (List.range 253).foldl (fun r _ => shareMul r a) a

/-- Value at x of the polynomials whose coefficients, after the constant ones, stand in groups of 32 bytes. -/
def shareAt (bk coef : List Byte) (m x : Nat) : List Byte :=
  (List.range 32).map (fun j =>
    ((List.range (m - 1)).foldl (fun (r : Byte × Byte) k =>
      let p := shareMul r.2 (BitVec.ofNat 8 x)
      (r.1 ^^^ shareMul (coef.getD (32 * k + j) 0) p, p)) (bk.getD j 0, 1)).1)

/-- The value at 0 through the shares. -/
def recombine (shares : List (Nat × List Byte)) : List Byte :=
  let basis := fun (i : Nat) => (shares.filter (fun s => s.1 != i)).foldl (fun (r : Byte) s =>
    shareMul r (shareMul (BitVec.ofNat 8 s.1) (gfInv (BitVec.ofNat 8 s.1 ^^^ BitVec.ofNat 8 i)))) 1
  (List.range 32).map (fun j => shares.foldl (fun (r : Byte) s => r ^^^ shareMul (s.2.getD j 0) (basis s.1)) 0)

/-! The sealed share (R380): KEM ML-KEM-768. -/

def shareHdr (id : List Byte) (i : Nat) : List Byte := id ++ [BitVec.ofNat 8 i]

/-- KEM ciphertext and sealed share for an encapsulation key, with fresh bytes. -/
def sealShare (ek rand id : List Byte) (i : Nat) (share : List Byte) : List Byte :=
  let k := kyEncaps 1 ek rand
  let x := sealBytes k.2 (shareHdr id i) share "EBLOS-SHARE"
  k.1 ++ x.1 ++ x.2

/-- The share in a GET SHARE response. -/
def openShare (dk id resp : List Byte) : Option (Nat × List Byte) :=
  let i := leAt resp 0 1
  if resp.length = 1153 then
    (openBytes (kyDecaps 1 dk (slice resp 1 1088)) (shareHdr id i) (slice resp 1089 32) (slice resp 1121 32) "EBLOS-SHARE").map
      (fun v => (i, v))
  else none

/-! The bundle (R160, R161). -/

/-- Body entry of a key. -/
def bundleEntry (h : Nat) (o : KeyObj) (split : Nat) : List Byte :=
  natLE 4 h ++ fixLen 32 o.record ++ natLE 4 o.act.priv.length ++ o.act.priv ++
    (if isStateful (attrFam o.attrs) then natLE 8 split ++ natLE 8 o.act.last else [])

/-- Header of a bundle. -/
def State.bundleHead (s : State) (m n keys body : Nat) : List Byte :=
  [0x45, 0x42, 0x45, 0x31, BitVec.ofNat 8 m, BitVec.ofNat 8 n] ++ natLE 2 keys ++ natLE 8 s.peat.secs ++ s.deviceId ++ natLE 8 body ++ zeros 8

/-- An entry read back: handle, record, private key, split and last leaf. -/
structure Escrowed where
  handle : Nat
  attrs  : List Byte
  priv   : List Byte
  split  : Nat
  last   : Nat
deriving DecidableEq, Repr

def readEntries : Nat → List Byte → List Escrowed
  | 0, _ => []
  | n + 1, l =>
    let k := leAt l 36 4
    let st := isStateful (attrFam (slice l 4 32))
    ⟨leAt l 0 4, slice l 4 32, slice l 40 k, if st then leAt l (40 + k) 8 else 0, if st then leAt l (48 + k) 8 else 0⟩ ::
      readEntries n (l.drop (40 + k + if st then 16 else 0))

/-- A key comes back at its recorded handle with generation 1 (R159); a stateful one with the leaves from S on (R157). -/
def State.restoreKey (s : State) (e : Escrowed) : State :=
  let a := e.attrs.take 5 ++ [BitVec.ofNat 8 (attrFlags e.attrs % 4)] ++ slice e.attrs 6 2 ++ zeros 16 ++ slice e.attrs 24 4 ++ zeros 4
  let o := s.freshObj a e.priv (s.pubFor a e.priv)
  let o1 := if isStateful (attrFam a) then { o with act := { ({ o.act with last := e.last }.at_ (attrFam a) e.split) with ceil := e.split } } else o
  s.storeObj e.handle o1

/-- The keys of a bundle return; those whose handle is occupied are skipped and listed, and so are those that the quotas or the checks of
their material keep out (R136, R145; log entry 123). -/
def State.restoreAll (s : State) (es : List Escrowed) : State × List Nat × List Nat :=
  es.foldl (fun (x : State × List Nat × List Nat) e =>
    if (mget x.1.ks.objs e.handle).isSome ∨ x.1.arrives (handleFn e.handle) e.attrs e.priv (x.1.pubFor e.attrs e.priv) none ≠ 0 then
      (x.1, x.2.1, x.2.2 ++ [e.handle])
    else (x.1.restoreKey e, x.2.1 ++ [e.handle], x.2.2)) (s, [], [])

/-- A restore is complete: SEALED-LOST ends (R159), counter 3 advances and the log gets its entry (R343, R344). -/
def State.restoreDone (s : State) : State :=
  let s1 := if s.sealState = Seal.LOST then s.endLost else s
  (s1.peatCount 3).peatLog 0x06 0 0 0

/-! Ceremonies (R393, R394). -/

def State.modCer (s : State) (f : Ceremony → Ceremony) : State := { s with cards := { s.cards with ceremony := s.cards.ceremony.map f } }

/-- CRD_CER.NEXT: the roster index of the first entry still without its share. -/
def State.cerNext (s : State) : State :=
  match s.cards.ceremony with
  | some c =>
    let i := if c.write then (List.range c.opIds.length).find? (fun i => !c.placed.contains (i + 1)) else none
    s.wrF Reg.CRD_CER 7 0 (match i with | some j => s.rosterIdx (c.opIds.getD j []) | none => 0xFF)
  | none => s

/-- A write to MC0 starts; MC0_BUSY_END or MC0_BUSY_TIMEOUT ends it. -/
def State.mcWrite (s : State) (cmds : List Nat) (bs : Blocks) : State :=
  let s1 := bs.foldl (fun (x : State) b => x.emit (.mc0 b.1 b.2)) (cmds.foldl (fun (x : State) c => x.emit (.mc0Cmd c)) (s.mcWake.setMcState Mc.BUSY))
  { s1 with cards := { s1.cards with mc0Busy := true, volume := bs.foldl (fun v b => mput v b.1 b.2) s1.cards.volume } }

/-- The multi-block write of the card's type (R384). -/
def State.mcStream (s : State) (n : Nat) : List Nat := if s.rdF Reg.CRD_MC_STAT 27 26 = 3 then [23, 25] else if n ≤ 1 then [24] else [55, 23, 25, 12]

/-- Header and data blocks go to the append point. -/
def State.writeRecord (s : State) (c : Ceremony) : State :=
  let v := s.cards.volume
  let a := (walk v).2
  let d := ceilDiv c.bundle.length 512
  let data := fixLen (512 * d) c.bundle
  let h : List Byte := [0x45, 0x42, 0x52, 0x48, 1, 0, 0, 0] ++ c.id ++ natLE 8 c.seq ++ natLE 4 d ++ natLE 8 c.bundle.length ++ sha3_256 c.bundle ++ volId v ++ zeros 420
  let bs := (a, h) :: (List.range d).map (fun i => (a + 1 + i, slice data (512 * i) 512))
  (s.modCer (fun x => { x with address := a, phase := 2 })).mcWrite (s.mcStream bs.length) bs

/-- All shares confirmed: the record is written. -/
def State.shareConfirmed (s : State) (i : Nat) : State :=
  let s1 := (s.modCer (fun c => { c with placed := i :: c.placed })).cerNext
  let s2 := s1.incF Reg.CRD_CER 28 24 1
  match s2.cards.ceremony with
  | some c => if c.placed.length = c.opIds.length then (s2.modCer (fun x => { x with bk := [], shares := [] })).writeRecord c else s2
  | none => s2

/-- The next share for the card in a port, where its operator has one to come: 32 bytes are drawn for its seal. -/
def State.putShare (s : State) (p : Nat) (x : ScPort) (c : Ceremony) : Option State :=
  let id := operatorId x.ident
  match (List.range c.opIds.length).find? (fun i => !c.placed.contains (i + 1) && c.opIds.getD i [] == id) with
  | some j => some (s.cardDraw p { x with step := .putShare, share := j + 1 } 32)
  | none => none

/-- M shares are collected: the bundle is opened and restored. -/
def State.restoreBundle (s : State) (c : Ceremony) : State :=
  let n := c.bundle.length
  let hdr := c.bundle.take 64
  match openBytes (recombine c.shares) hdr (slice c.bundle 64 (n - 96)) (c.bundle.drop (n - 32)) "EBLOS-ESCROW" with
  | none => s.endCardCmd (.err St.INVALID_INPUT)
  | some body =>
    let t := s.restoreAll (readEntries (leAt hdr 6 2) body)
    let p : Reply := ⟨St.SUCCESS, natLE 4 t.2.1.length ++ natLE 4 t.2.2.length, t.2.2.flatMap (natLE 4), 0, true⟩
    match s.cardCmd with
    | some r =>
      if p.fits r.2 then t.1.restoreDone.endCardCmd p
      else s.endCardCmd { Reply.err St.OUTPUT_TOO_SMALL with word2 := p.buf.length }
    | none => s

/-- The challenge of an AUTHENTICATE (R382). -/
def State.challengeFor (s : State) (rand : List Byte) : List Byte :=
  let q := match s.cards.quorum with | some q => BitVec.ofNat 8 q.purposes :: q.nonce | none => []
  rand ++ sha3_256 (s.deviceId ++ q)

/-- The bytes that a step of a card session drew: AUTHENTICATE with its challenge, PUT SHARE with the sealed share, GET SHARE with an
ephemeral key (R380, R382). -/
def State.cardGrant (s : State) (p : Nat) (bytes : List Byte) : State :=
  let x := s.scPort p
  if !x.drawing then s
  else match x.step with
  | .authenticate =>
    let c := s.challengeFor bytes
    s.sendStep p { x with challenge := c } .authenticate [0x80, 0x20, 0x00, 0x00] c true
  | .putShare =>
    match s.cards.ceremony with
    | some c =>
      let m := sealShare (x.ident.drop 1952) bytes c.id x.share ((mget c.shares x.share).getD [])
      s.sendStep p x .putShare [0x80, 0x30, BitVec.ofNat 8 x.share, 0x00] (c.id ++ m) true
    | none => s
  | .getShare =>
    match s.cards.ceremony with
    | some c =>
      let ek := schemePub none 1 1 false (kyGen 1 bytes)
      s.sendStep p { x with seed := bytes } .getShare [0x80, 0x32, 0x00, 0x00] (c.id ++ ek) true
    | none => s
  | _ => s

/-- A step of a card session has its response. -/
def State.stepDone (s : State) (p : Nat) (x : ScPort) (d : List Byte) : State :=
  let rest := (s.setSc p { x with step := .none, out := [], resp := [] }).setScState p Sc.READY
  let y := { x with step := .none, resp := [] }
  match x.step with
  | .none | .relay => s
  | .select => s.sendStep p y .identity [0x80, 0x10, 0x00, 0x00] [] true
  | .identity =>
    if d.length ≠ 3136 then rest
    else
      let id := operatorId d
      let t := s.scField p 7 0 (s.rosterIdx id)
      let r := rest.scField p 7 0 (s.rosterIdx id)
      match s.cards.ceremony with
      | some c => if c.write then (t.putShare p { y with ident := d } c).getD r else t.cardDraw p { y with ident := d, step := .authenticate } 32
      | none => match s.cards.quorum with
        | some q => if !q.inForce && s.mayCount q id then t.cardDraw p { y with ident := d, step := .authenticate } 32 else r
        | none => r
  | .authenticate =>
    if d.length = 3309 ∧ mldsaVerify 1 (x.ident.take 1952) x.challenge d "EBLOS-OPERATOR" then
      match s.cards.ceremony with
      | some _ =>
        s.cardDraw p { y with step := .getShare } 64
      | none => match s.cards.quorum with
        | some q => if q.inForce then rest else rest.approve q (operatorId x.ident)
        | none => rest
    else rest
  | .putShare =>
    match s.cards.ceremony with
    | some c =>
      if d = sha3_256 (c.id ++ [BitVec.ofNat 8 x.share] ++ (mget c.shares x.share).getD []) then
        let t := rest.shareConfirmed x.share
        match t.cards.ceremony with
        | some c1 => if c1.phase = 1 then (t.putShare p y c1).getD t else t
        | none => t
      else rest
    | none => rest
  | .getShare =>
    match s.cards.ceremony with
    | some c =>
      match openShare (kyGen 1 x.seed) c.id d with
      | some (i, v) =>
        if i = 0 ∨ (mget c.shares i).isSome then rest.setSc p { y with seed := [] }
        else
          let c1 := { c with shares := mput c.shares i v }
          let t := ((rest.setSc p { y with seed := [] }).modCer (fun _ => c1)).incF Reg.CRD_CER 28 24 1
          if c1.shares.length = c.m then t.restoreBundle c1 else t
      | none => rest.setSc p { y with seed := [] }
    | none => rest

/-- A card's answer (R378, R379): its data and status word. -/
def State.apduResponse (s : State) (port : Nat) (resp : List Byte) : State :=
  let x := s.scPort port
  let sw := beAt resp (resp.length - 2) 2
  let d := x.resp ++ resp.take (resp.length - 2)
  let failed := ((s.setSc port { x with step := .none, out := [], resp := [] }).setScState port Sc.READY).countReject port
  match x.out with
  | a :: rest => if sw = 0x9000 then (s.setSc port { x with out := rest, retries := 0 }).sendApdu port a else failed
  | [] =>
    if sw / 256 = 0x61 then (s.setSc port { x with resp := d, retries := 0 }).sendApdu port [0x00, 0xC0, 0x00, 0x00, 0x00]
    else if sw = 0x9000 then s.stepDone port x d
    else failed

/-- The answer is a card error in T=0: a fifth error on a character, or a byte that is no procedure byte of ISO/IEC 7816-3, neither NULL nor an
acknowledgement of the instruction, nor a status (R376, R377; log entry 154). -/
def CardAnswer.bad0 (r : CardAnswer) (ins : Byte) : Bool :=
  let sw1 := r.resp.getD (r.resp.length - 2) 0
  r.errors.any (fun n => decide (5 ≤ n)) || r.procs.any (fun b => b != 0x60 && b != ins && b != ins ^^^ 0xFF) ||
    (sw1.toNat / 16 != 6 && sw1.toNat / 16 != 9) || sw1 == 0x60

/-- A good answer takes its effect: one for a peer's session goes back to the peer (R411). -/
def State.answered (s : State) (port : Nat) (resp : List Byte) : State :=
  let x := s.scPort port
  if x.step = .relay then
    let s1 := (s.setSc port { x with step := .none }).setScState port Sc.READY
    match mget s.fab.relays port with
    | some id => s1.sendSecret id (.relayResp port resp)
    | none => s1
  else s.apduResponse port resp

/-- SC_APDU_RESPONSE: what the exchange met with comes first, errors with their recovery and S(WTX) requests, which are granted (R376, R377). -/
def execScApduResponse (port : Nat) (r : CardAnswer) (s : State) : Host.Outcome State Fault Refusal :=
  if port < 2 ∧ (s.scPort port).asked ∧ 2 ≤ r.resp.length then
    if s.blockProto port then
      let s1 := r.wtx.foldl (fun (y : State) m => y.emit (.card port ((y.scPort port).mode.block 0xE3 [m]))) s
      let s2 := (List.range (Nat.min r.bad 7)).foldl (fun (y : State) _ => y.recoverBlock port) s1
      if (s2.scPort port).asked then
        let x := s2.scPort port
        .next ((s2.setSc port { x with nr := (x.nr + ceilDiv r.resp.length 254) % 2 }).answered port r.resp)
      else .next s2
    else .next (if r.bad0 (s.scPort port).ins then s.cardError port else s.answered port r.resp)
  else .next s

/-! The commands. -/

/-- MC0 holds a card to work with; a locked one is unlocked with the password or, where asked, erased by force; a password may be set
(R388). The status that stops the command comes first. -/
def State.mcReady (s : State) (erase setPwd : Bool) (pw : List Byte) : Nat × State :=
  if ! [Mc.READY, Mc.SLEEP, Mc.LOCKED].contains s.mcState then (St.CARD_REMOVED, s)
  else
    let s1 := s.mcWake
    let r : Nat × State :=
      if s1.mcState = Mc.LOCKED then
        let t := ((s1.emit (.mc0Cmd 16)).emit (.mc0Cmd 42)).setMcState Mc.READY
        if erase then (0, { t with cards := { t.cards with volume := [], mc0Pass := [] } })
        else if s1.cards.mc0Pass = pw then (0, t)
        else (AUTH_FAILED, (s1.emit (.mc0Cmd 16)).emit (.mc0Cmd 42))
      else (0, s1)
    if r.1 = 0 ∧ setPwd then (0, { ((r.2.emit (.mc0Cmd 16)).emit (.mc0Cmd 42)) with cards := { r.2.cards with mc0Pass := pw } }) else r

/-- The lists of an ESCROW_WRITE request: operators, functions, handles with split leaves. -/
def escrowLists (b : List Byte) : List (List Byte) × List Nat × List (Nat × Nat) :=
  let n := leAt b 1 1
  let f := leAt b 20 2
  let o1 := 24 + 16 * n
  let o2 := o1 + 2 * f
  ((List.range n).map (fun i => slice b (24 + 16 * i) 16), (List.range f).map (fun i => leAt b (o1 + 2 * i) 2),
   (List.range (leAt b 22 2)).map (fun i => (leAt b (o2 + 12 * i) 4, leAt b (o2 + 12 * i + 4) 8)))

/-- The ESCROWABLE keys of the named functions. -/
def State.escrowKeys (s : State) (fns : List Nat) : List (Nat × KeyObj) :=
  s.ks.objs.filter (fun o => fns.contains (handleFn o.1) && attrPolicy o.2.attrs == 2)

/-- The fields of an ESCROW_WRITE request are good: among them one split leaf for each stateful key (R157; log entry 142). -/
def State.escrowOk (s : State) (b : List Byte) : Bool :=
  let m := leAt b 0 1
  let n := leAt b 1 1
  let f := leAt b 20 2
  let k := leAt b 22 2
  let x := escrowLists b
  let st := (s.escrowKeys x.2.1).filter (fun o => isStateful (attrFam o.2.attrs))
  decide (2 ≤ m ∧ m ≤ n ∧ n ≤ 16) && decide (leAt b 2 1 < 8) && decide (leAt b 3 1 ≤ 16) && decide (1 ≤ f ∧ f ≤ 2048) && decide (k ≤ 4096) &&
  b.length == 24 + 16 * n + 2 * f + 12 * k && x.1.all (fun i => s.cards.roster.contains i) && x.2.1.all (fun g => decide (g < 2048)) &&
  st.all (fun o => x.2.2.any (fun e => e.1 == o.1)) && (x.2.2.map (·.1)).eraseDups.length == k &&
  x.2.2.all (fun e => match mget st e.1 with
    | some o => decide (o.act.ceil ≤ e.2 ∧ e.2 ≤ o.act.last)
    | none => false)

/-- The live key's last leaf goes below the split (R157); with a split at leaf 0 no leaf is left to it: it stands past its last one. -/
def State.splitLeaves (s : State) (e : Nat × Nat) : State :=
  match mget s.ks.objs e.1 with
  | some o =>
    let g := if e.2 = 0 then { o.act with last := 0, next := 1, ceil := 1, raising := none } else { o.act with last := e.2 - 1 }
    let o1 := { o with act := g }
    let s1 := s.setObj e.1 o1
    { s1 with ks := { s1.ks with flash := mmod s1.ks.flash e.1 (fun f => { f with obj := o1.sealedObj, ceil := if e.2 = 0 then 1 else f.ceil }) } }
  | none => s

/-- Key-grade bytes of an ESCROW_WRITE: BK, the coefficients of its shares (R160), and with FORMAT a volume ID (R391). -/
def writeDraw (b : List Byte) : Nat := 32 * leAt b 0 1 + (if (leAt b 2 1).testBit 0 then 16 else 0)

/-- The ceremony starts: on a formatted card at once, else behind the new volume header. -/
def State.startWrite (s : State) (b rand : List Byte) : State :=
  let x := escrowLists b
  let m := leAt b 0 1
  let n := leAt b 1 1
  let keys := s.escrowKeys x.2.1
  let body := keys.flatMap (fun o => bundleEntry o.1 o.2 ((mget x.2.2 o.1).getD 0))
  let hdr := s.bundleHead m n keys.length body.length
  let bk := rand.take 32
  let coef := slice rand 32 (32 * (m - 1))
  let sealed := sealBytes bk hdr body "EBLOS-ESCROW"
  let format := (leAt b 2 1).testBit 0
  let s1 := x.2.2.foldl State.splitLeaves s
  let vid := slice rand (32 * m) 16
  let c : Ceremony :=
    { write := true, m := m, opIds := x.1, bk := bk, shares := (List.range n).map (fun i => (i + 1, shareAt bk coef m (i + 1))), placed := [],
      bundle := hdr ++ sealed.1 ++ sealed.2, id := (sha3_256 sealed.2).take 16,
      seq := if format then 1 else 1 + (walk s.cards.volume).1.foldl (fun k a => Nat.max k (recSeq s.cards.volume a)) 0,
      address := 0, phase := if format then 0 else 1, rewrite := false, keys := keys.length }
  let s2 := (s1.wr 0 Reg.CRD_CER (BitVec.ofNat 32 (2 ^ 30 + 0xFF)))
  let s3 := ({ s2 with cards := { s2.cards with ceremony := some c } }).cerNext
  if format then
    s3.mcWrite [24] [(0, [0x45, 0x42, 0x45, 0x56, 1, 0, 0, 0] ++ vid ++ zeros 488)]
  else s3

/-- ESCROW_WRITE. -/
def execEscrowWrite (fn ch : Nat) (req : List Byte) (s : State) : Host.Outcome State Fault Refusal :=
  match mbxRow1 0x0902 fn ch (fun r =>
    let b := fixLen r.reqLen req
    let keys := s.escrowKeys (escrowLists b).2.1
    let m := s.mcReady ((leAt b 2 1).testBit 1) ((leAt b 2 1).testBit 2) (slice b 4 (leAt b 3 1))
    if s.cardCmd.isSome ∨ s.noDsk then .bad St.STATE
    else if s.dskPending then .wait
    else if !s.quorumFor 0 then .bad St.QUORUM_REQUIRED
    else if !r.ext ∨ !s.escrowOk b then .bad St.BAD_FIELD
    else if keys.any (fun o => attrQuorum o.2.attrs) ∧ !s.quorumOpen then .bad St.QUORUM_REQUIRED
    else if keys.any (fun o => !o.2.unsealed) then .wait
    else if m.1 ≠ 0 then .done m.2 (.err m.1)
    else if !(leAt b 2 1).testBit 0 ∧ !volOk m.2.cards.volume then .done m.2.fresh (.err (Config.openStatus s.free).toNat)
    else if r.rand.length < writeDraw b then .ask (writeDraw b)
    else .runs (m.2.startWrite b r.rand)) s with
  | .next t => if s.cards.ceremony.isNone && t.cards.ceremony.isSome then .next t.pollCards else .next t
  | o => o

/-- ESCROW_RESTORE. -/
def execEscrowRestore (fn ch : Nat) (s : State) : Host.Outcome State Fault Refusal :=
  match mbxRow1 0x0903 fn ch (fun r =>
    let i := r.inl
    if s.cardCmd.isSome ∨ s.lcc ≠ Lc.DEPLOYED ∨ s.noDsk ∨ s.rdB Reg.TMP_STAT 1 then .bad St.STATE
    else if s.dskPending then .wait
    else if !s.quorumFor 1 then .bad St.QUORUM_REQUIRED
    else if i.length < 33 ∨ 16 < leAt i 16 1 then .bad St.BAD_FIELD
    else
      let m := s.mcReady false false (slice i 17 (leAt i 16 1))
      if m.1 ≠ 0 then .done m.2 (.err m.1)
      else
        let v := m.2.cards.volume
        match if volOk v then pickRecord v (i.take 16) else none with
        | none => .done m.2.fresh (.err (Config.openStatus s.free).toNat)
        | some a =>
          match recData v a with
          | none => .done m.2 (.err St.INVALID_INPUT)
          | some d =>
            let good := d.take 4 == [0x45, 0x42, 0x45, 0x31] && decide (96 ≤ d.length) && leAt d 48 8 == d.length - 96
            if !good then .done m.2 (.err St.INVALID_INPUT)
            else if slice d 16 32 ≠ s.deviceId ∧ !s.quorumFor 2 then .done m.2 (.err AUTH_FAILED)
            else
              let c : Ceremony := { write := false, m := leAt d 4 1, opIds := [], bk := [], shares := [], placed := [], bundle := d,
                                    id := slice (blockAt v a) 8 16, seq := recSeq v a, address := a, phase := 1, rewrite := false, keys := leAt d 6 2 }
              let s2 := m.2.wr 0 Reg.CRD_CER (BitVec.ofNat 32 (2 * 2 ^ 30 + 0xFF))
              .runs { s2 with cards := { s2.cards with ceremony := some c } }) s with
  | .next t => if s.cards.ceremony.isNone && t.cards.ceremony.isSome then .next t.pollCards else .next t
  | o => o

/-! The end of a write on MC0 (R387, R393). -/

/-- Read-back of a record: whole and with the hashes that were written. -/
def Ceremony.whole (c : Ceremony) (v : Blocks) : Bool := recOk v c.address && recData v c.address == some c.bundle

/-- The write under way has ended well; `back` are blocks that read back otherwise than they were written. -/
def State.mcNext (s : State) (c : Ceremony) (back : Blocks) : State :=
  match c.phase with
  | 0 => (s.modCer (fun x => { x with phase := 1 })).pollCards
  | 2 => (s.modCer (fun x => { x with phase := 3 })).mcWrite [24]
      [(c.address + rcdLen s.cards.volume c.address + 1, commitBlock s.cards.volume c.address)]
  | _ =>
    let s1 := s.wrB Reg.CRD_CER 29 true
    let v := back.foldl (fun v b => mput v b.1 (fixLen 512 b.2)) s1.cards.volume
    let s2 := { s1 with cards := { s1.cards with volume := v } }
    if c.whole v then
      s2.endCardCmd (.okC (c.id ++ natLE 4 c.address ++ natLE 4 (ceilDiv c.bundle.length 512) ++ natLE 2 c.keys))
    else if c.rewrite then s2.endCardCmd (.aborted 5)
    else (s2.modCer (fun x => { x with rewrite := true, seq := x.seq + 1 })).writeRecord { c with rewrite := true, seq := c.seq + 1 }

/-- A media error ends the command; the spec gives it no status. -/
def State.mediaError (s : State) : State := s.fresh.endCardCmd (.err (Config.openStatus s.free).toNat)

/-- MC0_BUSY_END: whether CMD13 is answered in time, whether it shows READY_FOR_DATA without an error, and blocks that the read-back after
the commit block finds otherwise than they were written. -/
def execMc0BusyEnd (answered good : Bool) (back : List (Nat × List Byte)) (s : State) : Host.Outcome State Fault Refusal :=
  if s.cards.mc0Busy then
    if !answered then .next (s.mcOff Mc.REMOVED)
    else
      let s1 := { (s.setMcState Mc.READY) with cards := { s.cards with mc0Busy := false } }
      if !good then .next s1.mediaError
      else match s1.cards.ceremony with
        | some c => .next (s1.mcNext c back)
        | none => .next s1
  else .next s

/-- MC0_BUSY_TIMEOUT: a media error. -/
def execMc0BusyTimeout (s : State) : Host.Outcome State Fault Refusal :=
  if s.cards.mc0Busy then .next { (s.setMcState Mc.READY) with cards := { s.cards with mc0Busy := false } }.mediaError else .next s

end Sys2Proof.Machine
end

