-- ==== Sys2Proof/Machine/Fabric.lean ====
section
/-!
DEFINITION. The Wolum fabric at work (spec file 17): links and flits, discovery and addresses, end-to-end messages, replication groups,
restore from peers, work spill, quorum relay, time; COMMIT and DESTROY, which a group carries out for its keys.
-/
namespace Sys2Proof.Machine
open Sys2Proof

/-! Discovery and addresses (R402, R403). -/

/-- The lowest identity among the devices reachable. -/
def State.rootId (s : State) : List Byte :=
  s.fab.peers.foldl (fun r p => if beNat p.id < beNat r then p.id else r) s.deviceId

def State.isRoot (s : State) : Bool := s.rootId == s.deviceId

/-- Addresses that are held or configured. -/
def State.taken (s : State) : List Nat :=
  (match s.fab.addr with | some a => [a] | none => []) ++ s.fab.peers.filterMap (fun p => if p.conf.isSome then p.conf else p.addr)

def lowestFree (taken : List Nat) : Option Nat := (List.range 4096).find? (fun a => !taken.contains a)

/-- The link state of this device floods (R404). -/
def State.floodLinks (s : State) : State :=
  match s.fab.addr with
  | some a => s.flood none (.linkState a s.ownLinks)
  | none => s

/-- The device takes an address; it persists in flash. -/
def State.setAddr (s : State) (a : Nat) : State :=
  ({ s with fab := { s.fab with addr := some a, lastAddr := some a } }.fabStat).floodLinks

/-- The configured address is held by a lower identity. -/
def State.conflict (s : State) : Bool :=
  match s.fab.fixedAddr with
  | some a => s.fab.peers.any (fun p => p.conf == some a && !(decide (beNat s.deviceId < beNat p.id)))
  | none => false

/-- The device's own address: the configured one, or as root the one last held or the lowest free. -/
def State.ownAddr (s : State) : State :=
  match s.fab.fixedAddr with
  | some a => if s.conflict then (if s.fab.addr.isSome then { s with fab := { s.fab with addr := none } }.fabStat else s)
      else if s.fab.addr = some a then s else s.setAddr a
  | none =>
    if s.fab.addr.isSome ∨ !s.isRoot then s
    else match s.fab.lastAddr with
      | some a => if s.taken.contains a then (match lowestFree s.taken with | some b => s.setAddr b | none => s) else s.setAddr a
      | none => match lowestFree s.taken with | some b => s.setAddr b | none => s

/-- Peers without a configured address that hold none, in order of identity. -/
def State.toAssign (s : State) : List Peer :=
  (s.fab.peers.filter (fun p => p.conf.isNone && p.addr.isNone)).foldl
    (fun (l : List Peer) p => (l.takeWhile (fun q => decide (beNat q.id < beNat p.id))) ++ [p] ++ (l.dropWhile (fun q => decide (beNat q.id < beNat p.id)))) []

def State.give (s : State) (p : Peer) (a : Nat) : State := (s.modPeer p.id (fun q => { q with addr := some a })).sendMsg p.id (.assign a)

/-- The root gives addresses: those last held first, then the lowest free ones. -/
def State.assignAll (s : State) : State :=
  if s.isRoot ∧ s.fabOn then
    let s1 := s.toAssign.foldl (fun (x : State) p => match p.last with
      | some a => if x.taken.contains a then x else x.give p a
      | none => x) s
    s1.toAssign.foldl (fun (x : State) p => match lowestFree x.taken with
      | some a => x.give p a
      | none => x) s1
  else s

/-- FAB_PORTk.PEER follows the addresses known. -/
def State.portPeers (s : State) : State :=
  s.upPorts.foldl (fun (x : State) k => match x.peerAddr (x.wport k).sh.peerId with
    | some a => x.wrF (Reg.FAB_PORT k) 11 0 a
    | none => x) s

/-- The election and the addresses after a change of the devices known. -/
def State.elect (s : State) : State :=
  if s.fabOn then
    let s1 := (s.ownAddr.assignAll).portPeers
    (s1.wrB Reg.FAB_STAT 3 s1.isRoot).wrB Reg.FAB_STAT 4 s1.conflict
  else s

/-- The device's hello. -/
def State.hello (s : State) : Hello where
  id := s.deviceId
  fabric := s.fab.fabId
  conf := s.fab.fixedAddr
  last := s.fab.lastAddr
  disc := s.fab.addr.isNone

/-! Groups (R406 to R408). -/

/-- The group exists: every member has sent JOIN with the same list. -/
def Group.whole (g : Group) : Bool := g.members.all (fun m => g.joined.contains m)

/-- Keys of a group here: index and object. -/
def State.groupKeys (s : State) (gid : Nat) : List (Nat × KeyObj) :=
  (s.ks.objs.filter (fun o => handleClass o.1 == 2 && attrGroup o.2.attrs == gid)).map (fun o => (handleIdx o.1, o.2))

def State.groupHandle (s : State) (gid idx : Nat) : Nat := match mget s.fab.groups gid with | some g => mkHandle g.fn 2 idx | none => 0

/-- The other members that messages reach. -/
def State.reachable (s : State) (gid : Nat) : List (List Byte) :=
  match mget s.fab.groups gid with
  | some g => g.members.filter (fun m => m != s.deviceId && (match s.peerAddr m with | some a => (s.route a).isSome | none => false))
  | none => []

/-- The group's leader: the lowest identity in service (R408). -/
def State.leader (s : State) (gid : Nat) : List Byte :=
  (s.reachable gid).foldl (fun r m => if beNat m < beNat r then m else r) s.deviceId

def markKey (gid idx : Nat) : Nat := gid * 2 ^ 18 + idx
/-- A destroyed mark covers a generation. -/
def State.marked (s : State) (gid idx gen : Nat) : Bool := match mget s.fab.destroyed (markKey gid idx) with | some m => decide (gen ≤ m) | none => false

/-- The record of a group's key. -/
def groupAttrs (a : List Byte) (gid : Nat) : List Byte :=
  a.take 5 ++ [BitVec.ofNat 8 (attrFlags a % 4)] ++ slice a 6 2 ++ zeros 16 ++ natLE 4 gid ++ zeros 4

/-- A member stores a key of a group in a generation: 0 stored, else the status it answers, QUOTA or that of a check of the material
(R136, R145), or QUOTA where the index is held by a key of another group on the same function (log entry 155). -/
def State.storeShared (s : State) (gid idx gen : Nat) (attrs priv : List Byte) : Nat × State :=
  let h := s.groupHandle gid idx
  let a := groupAttrs attrs gid
  if s.marked gid idx gen then (0, s)
  else match mget s.ks.objs h with
    | some o =>
      if attrGroup o.attrs ≠ gid then (St.QUOTA, s)
      else if gen ≤ o.act.gen then (0, s)
      else
        let e := s.arrives (handleFn h) a priv (s.pubFor a priv) (some h)
        if e ≠ 0 then (e, s)
        else
          let t := s.commitGen h { o with stAttrs := a } (s.genFor gen a priv (s.pubFor a priv))
          -- a generation above it stays staged; what was staged at or below it is superseded
          if (match o.staged with | some x => decide (gen < x.gen) | none => false) then
            (0, { t with ks := { t.ks with objs := mmod t.ks.objs h (fun y => { y with staged := o.staged, stAttrs := o.stAttrs, verified := o.verified }) } })
          else (0, { t with fab := { t.fab with commits := t.fab.commits.filter (fun r =>
            !(r.group == gid && r.idx == idx && r.cmd.isNone && r.leader.isSome)) } })
    | none =>
      let e := s.arrives (handleFn h) a priv (s.pubFor a priv) none
      if e ≠ 0 then (e, s)
      else
        let o := s.freshObj a priv (s.pubFor a priv)
        (0, s.storeObj h { o with act := { o.act with gen := gen } })

/-- A group's key goes to a member. -/
def State.sendKey (s : State) (dest : List Byte) (gid : Nat) (k : Nat × KeyObj) : State :=
  s.sendSecret dest (.key gid k.1 k.2.act.gen (fixLen 32 k.2.record) k.2.act.priv)

/-- A member that comes back receives the group's keys and destroyed marks from the leader (R407, R408). -/
def State.catchUp (s : State) (id : List Byte) : State :=
  s.fab.groups.foldl (fun (x : State) g =>
    if g.2.members.contains id ∧ g.2.whole ∧ (x.leader g.1 = x.deviceId ∨ (x.leader g.1 = id ∧ (x.reachable g.1).all (fun m => m == id || beNat x.deviceId < beNat m))) then
      let y := (x.groupKeys g.1).foldl (fun (z : State) k => z.sendKey id g.1 k) x
      (x.fab.destroyed.filter (fun d => d.1 / 2 ^ 18 == g.1)).foldl (fun (z : State) d => z.sendMsg id (.destroyed g.1 (d.1 % 2 ^ 18) d.2)) y
    else x) s

/-! ADD_KEY (R407). -/

/-- Every reachable member has answered: the handle is returned. -/
def State.addEnd (s : State) : State :=
  match s.fab.adding with
  | some a =>
    if a.waiting.isEmpty then
      { s with fab := { s.fab with adding := none } }.mbxEnd a.chan (if (match mget s.ks.objs (s.groupHandle a.group a.idx) with | some o => attrPersist o.attrs | none => false)
        then .okC (natLE 4 (s.groupHandle a.group a.idx)) else .ok (natLE 4 (s.groupHandle a.group a.idx)))
    else s
  | none => s

/-- A member's answer to an ADD_KEY: QUOTA, or another refusal to store the key, ends it (R407; log entry 123). -/
def State.addAnswer (s : State) (src : List Byte) (status : Nat) : State :=
  match s.fab.adding with
  | some a =>
    if status = 0 then
      ({ s with fab := { s.fab with adding := some { a with waiting := a.waiting.filter (· != src), stored := src :: a.stored } } }).addEnd
    else
      let s1 := (a.waiting ++ a.stored).foldl (fun (x : State) m => x.sendMsg m (.discard a.group a.idx)) (s.dropObj (s.groupHandle a.group a.idx))
      { s1 with fab := { s1.fab with adding := none } }.mbxEnd a.chan (.err status)
  | none => s

/-- A member counts as unreachable. -/
def State.addSkip (s : State) (m : List Byte) : State :=
  match s.fab.adding with
  | some a => ({ s with fab := { s.fab with adding := some { a with waiting := a.waiting.filter (· != m) } } }).addEnd
  | none => s

/-! COMMIT in a group (R408). -/

def State.dropCommit (s : State) (gid idx : Nat) : State :=
  { s with fab := { s.fab with commits := s.fab.commits.filter (fun r => !(r.group == gid && r.idx == idx)) } }

/-- A generation held staged for a COMMIT that is dropped goes; at the member that sent the COMMIT the command is ABORTED and its generation
stays staged (R76; log entry 143). -/
def State.unstage (s : State) (gid idx gen : Nat) : State :=
  let h := s.groupHandle gid idx
  match s.fab.commits.find? (fun r => r.group == gid && r.idx == idx && r.gen == gen && r.leader.isSome) with
  | none => s
  | some r =>
    let s1 := s.dropCommit gid idx
    match r.cmd with
    | some id => s1.complete id (.aborted 1)
    | none => match mget s1.ks.objs h with
      | some o => if (match o.staged with | some g => g.gen == gen | none => false) then s1.setObj h o.discard else s1
      | none => s1

/-- The generation becomes active here; a COMMIT of this device that waits for it completes. -/
def State.flipHere (s : State) (r : RCommit) : State :=
  let h := s.groupHandle r.group r.idx
  let s1 := match mget s.ks.objs h with
    | some o => match o.staged with
      | some g => if g.gen = r.gen then s.commitGen h o g else s
      | none => s
    | none => s
  let s2 := s1.dropCommit r.group r.idx
  match r.cmd with
  | some id => s2.complete id (.ok 0 (natLE 4 r.gen))
  | none => s2

/-- Steps 2 and 3 at the leader, once every reachable member has written its record. -/
def State.leaderCommit (s : State) (r : RCommit) : State :=
  if r.waiting.isEmpty then
    (s.reachable r.group).foldl (fun (x : State) m => x.sendMsg m (.flip r.group r.idx r.gen)) (s.flipHere r)
  else s

/-- A generation of a group's key is held staged and verified: 0, else the status the member answers (R136, R145). -/
def State.stageShared (s : State) (gid idx gen : Nat) (attrs priv : List Byte) : Nat × State :=
  let h := s.groupHandle gid idx
  match mget s.ks.objs h with
  | some o =>
    let a := groupAttrs attrs gid
    let e := s.arrives (handleFn h) a priv (s.pubFor a priv) (some h)
    if e ≠ 0 then (e, s)
    else
      let g := s.genFor gen a priv (s.pubFor a priv)
      (0, ({ s with ks := { s.ks with uids := s.ks.uids + 1 } }).setObj h { o with staged := some g, stAttrs := a, verified := true })
  | none => (0, s)

/-- Step 1 at the leader. -/
def State.leaderStart (s : State) (r : RCommit) (but : List Byte) : State :=
  let ms := (s.reachable r.group).filter (· != but)
  let r1 := { r with waiting := ms }
  let s1 := { s with fab := { s.fab with commits := s.fab.commits ++ [r1] } }
  (ms.foldl (fun (x : State) m => x.sendSecret m (.stage r.group r.idx r.gen r.attrs r.priv)) s1).leaderCommit r1

/-- A member has written its record, or counts as unreachable. -/
def State.commitAnswer (s : State) (gid idx : Nat) (src : List Byte) : State :=
  match s.fab.commits.find? (fun r => r.group == gid && r.idx == idx && r.leader.isNone) with
  | some r =>
    let r1 := { r with waiting := r.waiting.filter (· != src) }
    (({ s with fab := { s.fab with commits := s.fab.commits.map (fun (x : RCommit) => if x = r then r1 else x) } })).leaderCommit r1
  | none => s

/-- The group of a replicated key with members in reach. -/
def State.groupOf (s : State) (h : Nat) : Option Nat :=
  match mget s.ks.objs h with
  | some o => if handleClass h = 2 ∧ attrGroup o.attrs ≠ 0 ∧ !(s.reachable (attrGroup o.attrs)).isEmpty then some (attrGroup o.attrs) else none
  | none => none

/-- A COMMIT that its checks let pass goes to the group: at once at the leader, forwarded elsewhere. -/
def State.commitGroup (s : State) (id : Nat) (c : Cmd) (gid : Nat) : State :=
  match mget s.ks.objs c.h1 with
  | some o => match o.staged with
    | some g =>
      let s1 := s.setCmd id { c with phase := .waitGroup, since := s.now }
      let r : RCommit := { cmd := some id, group := gid, idx := handleIdx c.h1, gen := g.gen, attrs := fixLen 32 o.stAttrs, priv := g.priv, waiting := [], leader := none }
      let l := s.leader gid
      if l = s.deviceId then s1.leaderStart r []
      else { s1 with fab := { s1.fab with commits := s1.fab.commits ++ [{ r with leader := some l }] } }.sendSecret l
        (.commitReq gid r.idx r.gen r.attrs r.priv)
    | none => s
  | none => s

/-- COMMIT (R153); of a replicated key through its group (R408). -/
def execCommit (cmd : Nat) (host : HostRead) (s : State) : Host.Outcome State Fault Refusal :=
  opRow cmd (fun c => c.op == 0x0F33) (fun c =>
    match s.commitOp c host, s.groupOf c.h1 with
    | .ok _, some g => s.commitGroup cmd c g
    | r, _ => s.atOnce cmd c r) s

/-- A destroyed mark, which covers the highest generation it was set on, and takes the key here with it (R408). -/
def State.setMark (s : State) (gid idx gen : Nat) : State :=
  let top := Nat.max gen ((mget s.fab.destroyed (markKey gid idx)).getD 0)
  let s1 := { s with fab := { s.fab with destroyed := mput s.fab.destroyed (markKey gid idx) top } }
  let h := s1.groupHandle gid idx
  match mget s1.ks.objs h with
  | some o => if attrGroup o.attrs = gid ∧ o.act.gen ≤ top then s1.dropObj h else s1
  | none => s1

/-- The mark of a destroyed key spreads from the leader (R408). -/
def State.spreadMark (s : State) (gid idx gen : Nat) : State :=
  let s1 := s.setMark gid idx gen
  let l := s1.leader gid
  if l = s1.deviceId then (s1.reachable gid).foldl (fun (x : State) m => x.sendMsg m (.destroyed gid idx gen)) s1
  else s1.sendMsg l (.destroyReq gid idx gen)

/-- DESTROY (R135, R154); it waits for a COMMIT under way (R153), and a replicated key goes on every member (R408). -/
def execDestroy (cmd : Nat) (host : HostRead) (s : State) : Host.Outcome State Fault Refusal :=
  opRow cmd (fun c => c.op == 0x0F40) (fun c =>
    match s.destroyOp c host, mget s.ks.objs c.h1 with
    | .ok (t, d), some o =>
      if s.committing c.h1 then s
      else if handleClass c.h1 = 2 ∧ attrGroup o.attrs ≠ 0 then (t.spreadMark (attrGroup o.attrs) (handleIdx c.h1) o.act.gen).complete cmd d
      else s.atOnce cmd c (.ok (t, d))
    | r, _ => s.atOnce cmd c r) s

/-! FAB_RESTORE (R409). -/

/-- The next member is asked for the first group left; with no group left the restore is complete, and its response lists the handles
skipped (R159). -/
def State.restoreNext (s : State) : State :=
  match s.fab.restore with
  | none => s
  | some r =>
    match r.groups with
    | [] =>
      let p : Reply := ⟨St.SUCCESS, natLE 4 r.kept.length ++ natLE 4 r.skipped.length, r.skipped.flatMap (natLE 4), 0, true⟩
      let s1 := { s with fab := { s.fab with restore := none } }
      if (match mget s.mbx r.chan with | some x => p.fits x || decide (65536 ≤ r.chan) | none => true) then s1.restoreDone.mbxEnd r.chan p
      else
        -- not processed: the keys it stored go again, with its record, and SEALED-LOST stays (R118; log entry 145)
        ((r.kept.foldl State.dropObj s1).unCommit r.chan).mbxEnd r.chan { Reply.err St.OUTPUT_TOO_SMALL with word2 := p.buf.length }
    | g :: _ =>
      if r.asking.isSome then s
      else match (s.reachable g).find? (fun m => !r.declined.contains m) with
        | some m =>
          ({ s with fab := { s.fab with restore := some { r with asking := some m } } }).sendSecret m (.restoreAsk g (s.ownStmt []))
        | none => s

def State.modRestore (s : State) (f : FabRestore → FabRestore) : State := { s with fab := { s.fab with restore := s.fab.restore.map f } }

/-- A running request passes its commit point, once (R119). -/
def State.passCommit (s : State) (key : Nat) : State :=
  match mget s.mbx key with | some r => if r.commit then s else s.mbxCommit key | none => s

/-- A key of the group being restored, at its recorded handle with generation 1 (R159); one that the quotas or the checks of its material
keep out is skipped (log entry 123). The first persistent one is the commit point of the restore (R119). -/
def State.restoreShared (s : State) (gid idx : Nat) (attrs priv : List Byte) : State :=
  let h := s.groupHandle gid idx
  let a := groupAttrs attrs gid
  let pub := s.pubFor a priv
  if (mget s.ks.objs h).isSome ∨ s.arrives (handleFn h) a priv pub none ≠ 0 then
    s.modRestore (fun r => if r.kept.contains h then r else { r with skipped := r.skipped ++ [h] })
  else
    let s1 := (s.storeObj h (s.freshObj a priv pub)).modRestore (fun r => { r with kept := r.kept ++ [h] })
    if attrPersist a then (match s.fab.restore with | some r => s1.passCommit r.chan | none => s1) else s1

/-- A member asked streams every key of the group, or declines. -/
def State.serveRestore (s : State) (src : List Byte) (gid : Nat) (st : PeerStmt) : State :=
  let ok := s.fab.flag 2 && s.sealState == Seal.NORMAL && st.genuine && st.lost && st.identity == src &&
    (match mget s.fab.groups gid with | some g => g.members.contains src | none => false)
  if ok then ((s.groupKeys gid).foldl (fun (x : State) k => x.sendKey src gid k) s).sendSecret src (.restoreEnd gid)
  else s.sendSecret src (.restoreNo gid)

/-- A member declines or goes dark: another one is asked; keys already stored stand. -/
def State.restoreDecline (s : State) (src : List Byte) : State :=
  match s.fab.restore with
  | some r => if r.asking = some src then (s.modRestore (fun x => { x with asking := none, declined := src :: x.declined })).restoreNext else s
  | none => s

/-! Spill (R410). -/

/-- The command runs here after all. -/
def State.runHere (s : State) (cmd : Nat) : State :=
  if (mget s.fab.spilled cmd).isSome then
    { (s.modCmd cmd (fun c => if c.phase = .remote then { c with phase := .ready } else c)) with fab := { s.fab with spilled := mdel s.fab.spilled cmd } }
  else s

/-- A peer has run the command: outputs and completion follow here (R34). Bytes beyond the command's own are the peer's draw (log entry 124). -/
def State.workDone (s : State) (cmd : Nat) : State :=
  match mget s.cmds cmd with
  | some c =>
    let more := { c with rand := c.rand ++ (List.range 4096).map (fun i => Config.peerByte (s.free + i)) }
    let res := fun (i : Nat) => match s.legResult c i with | some r => r | none => (s.legResult more i).getD entLimit
    let legs := (List.range c.legs.length).filterMap (fun i => (c.legs[i]?).map (fun (l : Leg) => { l with decided := some (res i) }))
    ({ ((s.used 4096).setCmd cmd { c with legs := legs, phase := .running }) with fab := { s.fab with spilled := mdel s.fab.spilled cmd } }).finish cmd
  | none => { s with fab := { s.fab with spilled := mdel s.fab.spilled cmd } }

/-- SPILL_PEER_TIMEOUT. -/
def execSpillPeerTimeout (cmd : Nat) (s : State) : Host.Outcome State Fault Refusal := .next (s.runHere cmd)

/-! Quorum relay (R411). -/

/-- A card in a peer's port comes to the session or leaves it. -/
def State.relayCard (s : State) (src : List Byte) (q : Nat) (present : Bool) : State :=
  match s.fab.remote.find? (fun r => r.2.1 == src && r.2.2 == q) with
  | some r =>
    if present then s
    else
      let busy := (s.scPort r.1).asked
      let s1 := { s with
        fab := { s.fab with remote := mdel s.fab.remote r.1 }
        cards := { s.cards with ports := mdel s.cards.ports r.1 } }
      if busy then s1.cancelSession else s1
  | none =>
    if present then
      match mfree s.fab.remote 2 64 with
      | some p => (({ s with fab := { s.fab with remote := mput s.fab.remote p (src, q) } }).setSc p .idle).pollCards
      | none => s
    else s

/-- An APDU of a peer's session goes to a card here. -/
def State.relayApdu (s : State) (src : List Byte) (q : Nat) (apdu : List Byte) : State :=
  if q < 2 ∧ s.fab.flag 1 ∧ s.scState q = Sc.READY then
    let s1 := ((s.setSc q { s.scPort q with step := .relay }).setScState q Sc.BUSY).emit (.apdu q apdu)
    { s1 with fab := { s1.fab with relays := mput s1.fab.relays q src } }
  else s.sendSecret src (.relayCard q false)

/-! Messages. -/

/-- A message of the handshake of an end-to-end session is answered. -/
def State.peerStep (s : State) (src : List Byte) (q : Peer) (m : ShakeMsg) (rand : List Byte) : State :=
  let r := s.shakeStep q.sh "EBLOS-E2E" m rand
  let s1 := s.modPeer src (fun y => { y with sh := if r.2.2 = 0 then r.1 else .idle })
  let s2 := match r.2.1 with | some a => s1.sendMsg src (.shake a) | none => s1
  if r.1.stage = .done then s2.sendWaiting else s2

/-- The handshake of an end-to-end session (R401), held like that of a link while it draws. -/
def State.e2eShake (s : State) (src : List Byte) (m : ShakeMsg) : State :=
  match s.peer src with
  | none => s
  | some p =>
    let fresh : Bool := match m with
      | .identity .. => p.sh.stage == Shake.none || p.sh.stage == Shake.done
      | _ => false
    let s0 := if fresh then s.openPeer src else s
    match s0.peer src with
    | none => s0
    | some q =>
      let n := s0.shakeNeed q.sh m
      if q.sh.waits then s0.modPeer src (fun y => { y with sh := { y.sh with inbox := y.sh.inbox ++ [m] } })
      else if n = 0 then s0.peerStep src q m []
      else if s0.nrgDown then s0.modPeer src (fun y => { y with sh := y.sh.stop })
      else (s0.modPeer src (fun y => { y with sh := { y.sh with held := some m } })).nrgAsk 2 22 (.peer src) n

/-- The bytes that the handshake with a peer waited for. -/
def State.peerGrant (s : State) (src : List Byte) (bytes : List Byte) : State :=
  match s.peer src with
  | none => s
  | some p =>
    let x := { p.sh with held := none, inbox := [] }
    if p.sh.stage = .opening then
      let o := s.shakeOpen x bytes
      p.sh.inbox.foldl (fun (y : State) m => y.e2eShake src m) ((s.modPeer src (fun q => { q with sh := o.1 })).sendMsg src (.shake o.2))
    else match p.sh.held with
      | some m =>
        p.sh.inbox.foldl (fun (y : State) m => y.e2eShake src m) ((s.modPeer src (fun q => { q with sh := x })).peerStep src { p with sh := x } m bytes)
      | none => s

/-- A JOIN of a member (R406). -/
def State.joinSeen (s : State) (src : List Byte) (gid : Nat) (ms : List (List Byte)) (creator : Bool) : State :=
  match mget s.fab.groups gid with
  | some g =>
    if g.members = ms ∧ ms.contains src ∧ !g.joined.contains src then
      { s with fab := { s.fab with groups := mput s.fab.groups gid { g with joined := src :: g.joined } } }
    else s
  | none => { s with fab := { s.fab with invites := s.fab.invites ++ [⟨gid, src, ms, creator⟩] } }

/-- A member's message about a key of a group both belong to. -/
def State.fromMember (s : State) (src : List Byte) (gid : Nat) : Bool :=
  match mget s.fab.groups gid with | some g => g.members.contains src | none => false

/-- An end-to-end message of a peer. -/
def State.fabBody (s : State) (src : List Byte) (body : FabMsg) : State :=
  match body with
  | .ack n => match mget s.fab.e2e n with
    | some m => if m.dest = src then { s with fab := { s.fab with e2e := mdel s.fab.e2e n } } else s
    | none => s
  | .shake m => s.e2eShake src m
  | .assign a => if src = s.rootId ∧ s.fab.addr.isNone ∧ s.fab.fixedAddr.isNone ∧ a < 4096 then s.setAddr a else s
  | .join gid ms c => s.joinSeen src gid ms c
  | .key gid idx gen a p =>
    if !s.fromMember src gid then s
    else if (match s.fab.restore with | some r => r.asking == some src && r.groups.head? == some gid | none => false) then s.restoreShared gid idx a p
    else if s.sealState = Seal.LOST then s.sendMsg src (.stored gid idx gen St.STATE)
    else
      let r := s.storeShared gid idx gen a p
      r.2.sendMsg src (.stored gid idx gen r.1)
  | .stored gid idx _ st =>
    if (match s.fab.adding with | some a => a.group == gid && a.idx == idx && a.waiting.contains src | none => false) then
      (if st = St.STATE then s.addSkip src else s.addAnswer src st)
    else s.commitAnswer gid idx src
  | .discard gid idx => if s.fromMember src gid then s.dropObj (s.groupHandle gid idx) else s
  | .commitReq gid idx gen a p =>
    if s.fromMember src gid then
      (s.stageShared gid idx gen a p).2.leaderStart { cmd := none, group := gid, idx := idx, gen := gen, attrs := a, priv := p, waiting := [], leader := none } src
    else s
  | .stage gid idx gen a p =>
    if s.fromMember src gid then
      let r := s.stageShared gid idx gen a p
      let held : RCommit := { cmd := none, group := gid, idx := idx, gen := gen, attrs := a, priv := p, waiting := [], leader := some src }
      let r2 := if r.1 = 0 then { r.2 with fab := { r.2.fab with commits := r.2.fab.commits.filter (fun x =>
          !(x.group == gid && x.idx == idx && x.cmd.isNone && x.leader.isSome)) ++ [held] } } else r.2
      r2.sendMsg src (.stored gid idx gen r.1)
    else s
  | .unstage gid idx gen => if s.fromMember src gid then s.unstage gid idx gen else s
  | .flip gid idx gen =>
    if s.fromMember src gid then
      match s.fab.commits.find? (fun r => r.group == gid && r.idx == idx && r.gen == gen) with
      | some r => s.flipHere r
      | none => s.flipHere { cmd := none, group := gid, idx := idx, gen := gen, attrs := [], priv := [], waiting := [], leader := none }
    else s
  | .destroyReq gid idx gen => if s.fromMember src gid then s.spreadMark gid idx gen else s
  | .destroyed gid idx gen => if s.fromMember src gid then s.setMark gid idx gen else s
  | .restoreAsk gid st => s.serveRestore src gid st
  | .restoreNo _ => s.restoreDecline src
  | .restoreEnd gid =>
    match s.fab.restore with
    | some r =>
      if r.asking = some src ∧ r.groups.head? = some gid then
        (s.modRestore (fun x => { x with groups := x.groups.drop 1, asking := none, declined := [] })).restoreNext
      else s
    | none => s
  | .work cmd _ => if s.fab.flag 0 then (s.incF Reg.FAB_SPILL 31 16 1).sendMsg src (.workDone cmd) else s
  | .workDone cmd => if mget s.fab.spilled cmd = some src then s.workDone cmd else s
  | .idle acc l => s.modPeer src (fun p => { p with accept := acc, idle := l })
  | .pulse ts => { s with fab := { s.fab with syncNext := some ts, synced := true } }
  | .relayCard q on => s.relayCard src q on
  | .relayApdu q a => s.relayApdu src q a
  | .relayResp q resp =>
    match s.fab.remote.find? (fun r => r.2.1 == src && r.2.2 == q) with
    | some r => if (s.scPort r.1).asked ∧ 2 ≤ resp.length then s.apduResponse r.1 resp else s
    | none => s

/-- FABRIC_MESSAGE: a message from the peer with the given identity, acknowledged unless it is itself an acknowledgement; what travels in a
session only is not taken without one. -/
def execFabricMessage (src : List Byte) (id : Nat) (body : FabMsg) (s : State) : Host.Outcome State Fault Refusal :=
  match s.peer src with
  | none => .next s
  | some p =>
    if !s.fabOn ∨ (body.secret ∧ p.sh.stage ≠ .done) then .next s
    else
      let s1 := match body with
        | .ack _ => s
        | _ => s.sendMsg src (.ack id)
      .next (s1.fabBody src body)

/-- What a message's failure means to its service (R404 and the table of edge behaviour). -/
def State.serviceFail (s : State) (m : E2e) : State :=
  match m.body with
  | .key .. => s.addSkip m.dest
  | .stage gid idx .. => s.commitAnswer gid idx m.dest
  | .commitReq gid idx .. =>
    match s.fab.commits.find? (fun r => r.group == gid && r.idx == idx) with
    | some r =>
      let s1 := s.dropCommit gid idx
      match r.cmd with
      | some id => s1.complete id (.aborted 1)
      | none => match mget s1.ks.objs (s1.groupHandle gid idx) with
        | some o => s1.setObj (s1.groupHandle gid idx) o.discard
        | none => s1
    | none => s
  | .work cmd _ => s.runHere cmd
  | .restoreAsk .. => s.restoreDecline m.dest
  | .relayApdu q _ => s.relayCard m.dest q false
  | .shake _ => s.modPeer m.dest (fun p => { p with sh := .idle })
  | _ => s

/-- E2E_RESEND_TIMEOUT: up to four resends on the route then in force. -/
def execE2eResendTimeout (msg : Nat) (s : State) : Host.Outcome State Fault Refusal :=
  match mget s.fab.e2e msg with
  | none => .next s
  | some m =>
    if m.tries < 4 then
      let m1 := { m with tries := m.tries + 1 }
      .next (({ s with fab := { s.fab with e2e := mput s.fab.e2e msg m1 } }).transmit msg m1)
    else .next (({ s with fab := { s.fab with e2e := mdel s.fab.e2e msg } }).serviceFail m)

/-! Links (R398 to R400). -/

/-- A port comes up: its counters and credits start, hellos and the link state flood. -/
def State.portUp (s : State) (k : Nat) : State :=
  let s1 := s.setPort k Ps.UP
  let s2 := s1.setWport k { WPort.fresh with sh := (s.wport k).sh, keyedAt := s.now }
  let s3 := if s2.fab.addr.isNone ∧ s2.fab.fixedAddr.isSome then s2.elect else s2
  ((s3.flood none (.hello s3.hello)).floodLinks).sendWaiting

/-- A COMMIT that another member leads ends with that member's going: the command is ABORTED, as where its message fails, and the generation
stays staged (log entry 143). -/
def State.leadersGone (s : State) (gone : List (List Byte)) : State :=
  let hit := fun (r : RCommit) => match r.leader with | some l => gone.contains l | none => false
  (s.fab.commits.filterMap (fun r => if hit r then r.cmd else none)).foldl (fun (x : State) id => x.complete id (.aborted 1))
    { s with fab := { s.fab with commits := s.fab.commits.filter (fun r => !hit r) } }

/-- What ran with a peer that is gone: its session's draws, its spilled commands, which run here, the keys and generations it had to store, a
restore it streamed, cards in its ports (R383, R410 and the table of edge behaviour). -/
def State.peerGone (s : State) (id : List Byte) : State :=
  let s1 := (s.fab.spilled.filter (fun c => c.2 == id)).foldl (fun (x : State) c => x.runHere c.1) (s.dropWho (.peer id))
  let s2 := (s1.addSkip id).restoreDecline id
  let s3 := (s2.fab.commits.filter (fun r => r.waiting.contains id)).foldl (fun (x : State) r => x.commitAnswer r.group r.idx id) s2
  (s3.fab.remote.filter (fun r => r.2.1 == id)).foldl (fun (x : State) r => x.relayCard id r.2.2 false) s3

/-- Peers are gone, and what ran with them ends. -/
def State.losePeers (s : State) (keep : Peer → Bool) : State :=
  let gone := (s.fab.peers.filter (fun p => !keep p)).map (·.id)
  let s1 := { s with fab := { s.fab with peers := s.fab.peers.filter keep } }
  (gone.foldl State.peerGone s1).leadersGone gone

/-- Peers without a route are gone with the link that went down. -/
def State.prunePeers (s : State) : State :=
  (s.losePeers (fun p => s.upPorts.any (fun k => (s.wport k).sh.peerId == p.id) ||
    (match p.addr with | some a => (s.route a).isSome | none => false))).elect.floodLinks

/-- A port retrains (R399). -/
def State.retrain (s : State) (k : Nat) : State :=
  ((((s.setPort k Ps.TRAINING).incF (Reg.FAB_PORT k) 23 16 1).emit (.wolum k 0 0 .retrain)).flt1 (264 + k) 0).prunePeers

/-- A port goes down, with class D. -/
def State.portDown (s : State) (k : Nat) : State :=
  (((s.setPort k Ps.DOWN).wrF (Reg.FAB_PORT k) 25 24 0).fault (264 + k) 1 true false false).prunePeers

/-- WOLUM_TRAINING_DONE: on four, two or one lanes; no lane is a failed training, and the third in a row takes the port down. -/
def execWolumTrainingDone (k lanes : Nat) (s : State) : Host.Outcome State Fault Refusal :=
  if k < 16 ∧ s.portPower k ∧ s.fab.portEn k ∧ !s.boot.hold ∧ [Ps.TRAINING, Ps.DOWN, Ps.REFUSED].contains (s.portState k) then
    if lanes = 0 then
      let f := (s.wport k).fails + 1
      if 3 ≤ f then .next ((s.setWport k .fresh).portDown k) else .next (s.setWport k { s.wport k with fails := f })
    else
      let code := if lanes = 4 then 3 else if lanes = 2 then 2 else 1
      let s1 := ((s.setPort k Ps.HANDSHAKE).wrF (Reg.FAB_PORT k) 25 24 code).wrF (Reg.FAB_PORT k) 28 26 0
      .next ((s1.setWport k .fresh).startShake k)
  else .next s

/-- A message of the handshake on a port is answered, with the bytes drawn for the answer. -/
def State.linkStep (s : State) (k : Nat) (m : ShakeMsg) (rand : List Byte) : State :=
  let x := (s.wport k).sh
  let r := s.shakeStep x "EBLOS-LINK" m rand
  let s1 := s.setWport k { s.wport k with sh := r.1 }
  if r.2.2 ≠ 0 then (s1.setPort k Ps.REFUSED).wrF (Reg.FAB_PORT k) 28 26 r.2.2
  else
    let s2 := match r.2.1 with | some a => s1.emit (.wolum k 0 0 (.shake a)) | none => s1
    if r.1.stage = .done ∧ x.stage ≠ .done then
      if s2.portState k = Ps.UP then s2.setWport k { s2.wport k with flits := 0, keyedAt := s2.now } else s2.portUp k
    else s2

/-- A message of the handshake on a port; one whose answer draws key-grade bytes is held until they come, and others wait behind it. -/
def State.linkMsg (s : State) (k : Nat) (m : ShakeMsg) : State :=
  if k < 16 ∧ (s.portState k = Ps.HANDSHAKE ∨ s.portState k = Ps.UP) then
    let s0 := match m with
      | .identity .. => if (s.wport k).sh.stage = Shake.none ∨ (s.wport k).sh.stage = Shake.done then s.startShake k else s
      | _ => s
    let p := s0.wport k
    let n := s0.shakeNeed p.sh m
    if p.sh.waits then s0.setWport k { p with sh := { p.sh with inbox := p.sh.inbox ++ [m] } }
    else if n = 0 then s0.linkStep k m []
    else if s0.nrgDown then s0.setWport k { p with sh := p.sh.stop }
    else (s0.setWport k { p with sh := { p.sh with held := some m } }).nrgAsk 2 22 (.port k) n
  else s

/-- The bytes that the handshake on a port waited for: the exchange opens, or the message held is answered; then those behind it. -/
def State.linkGrant (s : State) (k : Nat) (bytes : List Byte) : State :=
  let p := s.wport k
  let x := { p.sh with held := none, inbox := [] }
  if p.sh.stage = .opening then
    let o := s.shakeOpen x bytes
    p.sh.inbox.foldl (fun (y : State) m => y.linkMsg k m) ((s.setWport k { p with sh := o.1 }).emit (.wolum k 0 0 (.shake o.2)))
  else match p.sh.held with
    | some m => p.sh.inbox.foldl (fun (y : State) m => y.linkMsg k m) ((s.setWport k { p with sh := x }).linkStep k m bytes)
    | none => s

/-- LINK_HANDSHAKE_MESSAGE: also the exchange of a rekey, which the other end may start. -/
def execLinkHandshakeMessage (k : Nat) (m : ShakeMsg) (s : State) : Host.Outcome State Fault Refusal := .next (s.linkMsg k m)

/-- LINK_REKEY_TIMER: traffic does not stop. -/
def execLinkRekeyTimer (k : Nat) (s : State) : Host.Outcome State Fault Refusal :=
  .next (if k < 16 ∧ s.portState k = Ps.UP then s.startShake k else s)

/-- WOLUM_PORT_DOWN. -/
def execWolumPortDown (k : Nat) (s : State) : Host.Outcome State Fault Refusal :=
  .next (if k < 16 ∧ [Ps.TRAINING, Ps.HANDSHAKE, Ps.UP, Ps.REFUSED].contains (s.portState k) then s.portDown k else s)

/-- Key and salt of the flits that arrive (R400). -/
def State.rxKey (s : State) (x : Shaker) : List Byte × List Byte :=
  if s.higher x.peerId then (x.keys.take 32, slice x.keys 64 12) else (slice x.keys 32 32, slice x.keys 76 12)

/-- An acknowledgement frees the flits up to it. -/
def WPort.acked (p : WPort) (seq : Nat) : WPort :=
  if p.unacked.any (fun u => u.1 == seq) then { p with unacked := (p.unacked.dropWhile (fun u => u.1 != seq)).drop 1, replays := 0 } else p

/-- A NAK replays the flits kept; the sixteenth replay without an acknowledgement retrains. -/
def State.replay (s : State) (k : Nat) : State :=
  let p := s.wport k
  if 16 ≤ p.replays + 1 then s.retrain k
  else p.unacked.foldl (fun (x : State) u => x.emit (.wolum k u.1 u.2.1 u.2.2)) (s.setWport k { p with replays := p.replays + 1 })

/-- WOLUM_FLIT_RECEIVE: the flit after parity correction and the symbols corrected; more than 8 cannot be. -/
def execWolumFlitReceive (k errs : Nat) (flit : List Byte) (s : State) : Host.Outcome State Fault Refusal :=
  if k < 16 ∧ s.portState k = Ps.UP ∧ flit.length = 256 then
    let p := s.wport k
    let key := s.rxKey p.sh
    let s1 := if 0 < errs ∧ errs ≤ 8 then s.incF (Reg.FAB_REPLAY k) 15 0 1 else s
    if 8 < errs ∨ !Config.flitOk key.1 key.2 flit then .next (s1.emit (.wolum k 0 0 (.nak p.rxSeq)))
    else
      let seq := leAt flit 0 2 % 4096
      let w := leAt flit 2 2
      let c := (List.range 3).map (fun i => Nat.min 64 (p.credits.getD i 0 + leAt flit (5 + i) 1))
      let q := { (p.acked (w % 4096)) with credits := c }
      let q1 := if seq = p.rxSeq then { q with rxSeq := (seq + 1) % 4096 } else q
      let s2 := s1.setWport k q1
      let s3 := if seq = p.rxSeq then s2.emit (.wolum k 0 0 (.ack seq)) else s2
      if w.testBit 12 then .next ((s3.incF (Reg.FAB_REPLAY k) 31 16 1).replay k) else .next (s3.flush k)
  else .next s

/-! Hellos and link states. -/

/-- HELLO_TIMER: the hello floods, a device that accepts spilled work advertises its idle classes (R402, R410), and a restore that waits for a
suitable member asks again (R409; log entry 155). -/
def execHelloTimer (s : State) : Host.Outcome State Fault Refusal :=
  if s.fabOn then
    let s0 := match s.fab.restore with
      | some r => if r.asking.isNone then (s.modRestore (fun x => { x with declined := [] })).restoreNext else s
      | none => s
    let s1 := s0.flood none (.hello s0.hello)
    let free := fun (e : Eng) => (unitsOf e).any s1.isFree
    let l := ([Eng.pvc, .hte, .bne, .dge, .chk].filter free).map Eng.num
    .next (if s1.fab.flag 0 then s1.fab.peers.foldl (fun (x : State) p => x.sendMsg p.id (.idle true l)) s1 else s1)
  else .next s

/-- HELLO_RECEIVE. -/
def execHelloReceive (k : Nat) (h : Hello) (s : State) : Host.Outcome State Fault Refusal :=
  if k < 16 ∧ s.portState k = Ps.UP ∧ s.fabOn ∧ h.fabric = s.fab.fabId ∧ h.id ≠ s.deviceId then
    let old := s.peer h.id
    let held := if h.disc then (match old with | some p => if h.conf.isSome then none else p.addr | none => none)
      else if h.conf.isSome then h.conf else h.last
    let p : Peer := { id := h.id, conf := h.conf, last := h.last, disc := h.disc, addr := held,
                      sh := (old.map (·.sh)).getD .idle, accept := (old.map (·.accept)).getD false, idle := (old.map (·.idle)).getD [] }
    if old = some p then .next s
    else
      let s1 := { s with fab := { s.fab with peers := (s.fab.peers.filter (fun (q : Peer) => q.id != h.id)) ++ [p] } }
      let s2 := ((s1.flood (some k) (.hello h)).elect).floodLinks
      let new := (match old with | some (q : Peer) => q.addr.isNone | none => true) && (s2.peerAddr h.id).isSome
      .next (if new then ((s2.sendWaiting).catchUp h.id).restoreNext else s2)
  else .next s

/-- LINK_STATE_RECEIVE: an address and its ports up with the addresses at their other ends. -/
def execLinkStateReceive (k addr : Nat) (ports : List (Nat × Nat)) (s : State) : Host.Outcome State Fault Refusal :=
  if k < 16 ∧ s.portState k = Ps.UP ∧ s.fabOn ∧ addr < 4096 ∧ s.fab.addr ≠ some addr ∧ mget s.fab.states addr ≠ some ports then
    let s1 := { s with fab := { s.fab with states := mput s.fab.states addr ports } }
    .next (((s1.flood (some k) (.linkState addr ports)).sendWaiting).restoreNext)
  else .next s

/-! Time (R396, R397). -/

/-- SYNC_PULSE_OUT: at position 0, with the timestamp of the next pulse announced over the links. -/
def execSyncPulseOut (s : State) : Host.Outcome State Fault Refusal :=
  if s.rdF Reg.RST_STRAP 10 8 = 0 ∧ s.lowPorts ∧ !s.boot.hold then
    let s1 := (s.emit (.pin .syncOut true)).emit (.pin .syncOut false)
    .next (s1.fab.peers.foldl (fun (x : State) p => x.sendMsg p.id (.pulse (s.now + 100000))) s1)
  else .next s

/-- The counter takes a value, and FAB_SYNC the correction in ns. -/
def State.syncTo (s : State) (ts : Nat) : State :=
  { s.wr 0 Reg.FAB_SYNC (BitVec.ofInt 32 (((ts : Int) - (s.now : Int)) * 10)) with now := ts }

/-- SYNC_IN_PULSE: the announced value is loaded. -/
def execSyncInPulse (s : State) : Host.Outcome State Fault Refusal :=
  match s.fab.syncNext with
  | some ts => if s.rdF Reg.RST_STRAP 10 8 ≠ 0 ∧ s.lowPorts then .next { (s.syncTo ts) with fab := { s.fab with syncNext := none } } else .next s
  | none => .next s

/-- FABRIC_TIME_SYNC: the root's counter as the exchange finds it; the root itself stays, and a device that SYNC serves follows SYNC. -/
def execFabricTimeSync (ts : Nat) (s : State) : Host.Outcome State Fault Refusal :=
  if s.fabOn ∧ s.fab.addr.isSome ∧ !s.isRoot ∧ !s.fab.synced then .next (s.syncTo ts) else .next s

/-! Commands. -/

/-- A fabric command: STATE while the fabric is OFF. -/
def State.fabCmd (s : State) (c : Course) : Course := if s.fabOn then c else .bad St.STATE

/-- SPILL_FN. -/
def execSpillFn (fn ch : Nat) (s : State) : Host.Outcome State Fault Refusal :=
  mbxRow2 0x0800 1 fn ch (fun r =>
    let f := leAt r.inl 4 2
    s.fabCmd (if r.inl.length < 7 ∨ f ≥ 2048 ∨ leAt r.inl 6 1 > 1 then .bad St.BAD_FIELD
      else .done (s.setFn f { s.fn f with spillPeer := (leAt r.inl 6 1).testBit 0 }) (.ok []))) s

/-- REKEY. -/
def execRekey (fn ch : Nat) (s : State) : Host.Outcome State Fault Refusal :=
  mbxRow2 0x0800 2 fn ch (fun _ => s.fabCmd (.done (s.upPorts.foldl State.startShake s) (.ok []))) s

/-- REJOIN: the device leaves the fabric and discovers again. -/
def execRejoin (fn ch : Nat) (s : State) : Host.Outcome State Fault Refusal :=
  mbxRow2 0x0800 3 fn ch (fun _ =>
    let s0 := s.losePeers (fun _ => false)
    let s1 := { s0 with fab := { s0.fab with addr := none, states := [] } }.fabStat
    s.fabCmd (.done (s1.flood none (.hello s1.hello)) (.ok []))) s

/-- CREATE and JOIN: the record, and the JOIN to every other member; JOINs seen before count. -/
def State.joinGroup (s : State) (r : MbxReq) (req : List Byte) (creator : Bool) : Course :=
  let gid := leAt r.inl 4 4
  let f := leAt r.inl 8 2
  let b := fixLen r.reqLen req
  let n := b.length / 32
  let ms := (List.range n).map (fun i => slice b (32 * i) 32)
  let seen := s.fab.invites.filter (fun i => i.group == gid)
  if r.inl.length < 10 ∨ gid = 0 ∨ f ≥ 2048 ∨ !r.ext ∨ b.length ≠ 32 * n ∨ n < 2 ∨ 16 < n ∨ !ms.contains s.deviceId then .bad St.BAD_FIELD
  else if (mget s.fab.groups gid).isSome then .bad St.STATE
  else if !creator ∧ seen.any (fun i => i.creator && i.members != ms) then .bad St.BAD_FIELD
  else if 64 ≤ s.fab.groups.length then .bad St.QUOTA
  else
    let same := (seen.filter (fun i => i.members == ms && ms.contains i.sender)).map (·.sender)
    let g : Group := { members := ms, fn := f, joined := s.deviceId :: same }
    let s1 := { s with fab := { s.fab with groups := mput s.fab.groups gid g, invites := s.fab.invites.filter (fun i => i.group != gid) } }
    .done ((ms.filter (· != s.deviceId)).foldl (fun (x : State) m => x.sendMsg m (.join gid ms creator)) s1) (.okC [])

/-- CREATE. -/
def execCreate (fn ch : Nat) (req : List Byte) (s : State) : Host.Outcome State Fault Refusal :=
  mbxRow2 0x0801 1 fn ch (fun r => s.fabCmd (s.joinGroup r req true)) s

/-- JOIN. -/
def execJoin (fn ch : Nat) (req : List Byte) (s : State) : Host.Outcome State Fault Refusal :=
  mbxRow2 0x0801 2 fn ch (fun r => s.fabCmd (s.joinGroup r req false)) s

/-- The start of an ADD_KEY: the copy of class 0b10 here, and the key to every reachable member. Storing a persistent key is its commit
point (R119). -/
def State.addKey (s : State) (key gid h : Nat) (o : KeyObj) (idx : Nat) : State :=
  let a := groupAttrs o.attrs gid
  let n := s.freshObj a o.act.priv o.act.pub
  let s0 := s.storeObj h n
  let s1 := if attrPersist a then s0.mbxCommit key else s0
  let ms := s1.reachable gid
  let s2 := { s1 with fab := { s1.fab with adding := some { chan := key, group := gid, idx := idx, waiting := ms, stored := [] } } }
  ms.foldl (fun (x : State) m => x.sendKey m gid (idx, n)) s2

/-- ADD_KEY: the lowest index that is free here and bears no mark (R408; log entry 155); a key with the QUORUM flag leaves the device only in a quorum session (R135). -/
def execAddKey (fn ch : Nat) (s : State) : Host.Outcome State Fault Refusal :=
  match mbxRow2 0x0801 3 fn ch (fun r =>
    let gid := leAt r.inl 4 4
    let h := leAt r.inl 8 4
    s.fabCmd (match mget s.fab.groups gid with
      | none => .bad St.BAD_FIELD
      | some g =>
        if r.inl.length < 12 ∨ handleClass h ≠ 0 ∨ handleFn h ≠ g.fn then .bad St.BAD_FIELD
        else if !g.whole ∨ s.sealState = Seal.LOST then .bad St.STATE
        else if s.fab.adding.isSome then .wait
        else match mget s.ks.objs h with
          | none => .bad St.KEY_ABSENT
          | some o =>
            if !o.unsealed then .wait
            else if attrPolicy o.attrs = 0 ∨ isStateful (attrFam o.attrs) then .bad St.KEY_USAGE
            else if attrQuorum o.attrs ∧ !s.quorumOpen then .bad St.QUORUM_REQUIRED
            else if s.arrives g.fn o.attrs o.act.priv o.act.pub none ≠ 0 then .bad St.QUOTA
            else if attrPersist o.attrs ∧ s.noDsk then .bad St.STATE
            else if attrPersist o.attrs ∧ s.dskPending then .wait
            else match (List.range 32768).find? (fun i => (mget s.ks.objs (mkHandle g.fn 2 i)).isNone && !s.marked gid i 1) with
              | none => .bad St.QUOTA
              | some i => .runs (s.addKey (mbxKey fn ch) gid (mkHandle g.fn 2 i) o i))) s with
  | .next t => if s.fab.adding.isNone then .next t.addEnd else .next t
  | o => o

/-- LEAVE: the local copies go. -/
def execLeave (fn ch : Nat) (s : State) : Host.Outcome State Fault Refusal :=
  mbxRow2 0x0801 4 fn ch (fun r =>
    let gid := leAt r.inl 4 4
    s.fabCmd (if (mget s.fab.groups gid).isNone ∨ r.inl.length < 8 then .bad St.BAD_FIELD
      else
        let s1 := ((s.groupKeys gid).map (fun k => s.groupHandle gid k.1)).foldl State.dropObj s
        .done { s1 with fab := { s1.fab with groups := mdel s1.fab.groups gid } } (.okC []))) s

/-- STATUS: key count and member count, then for each member its identity, address and whether it is reachable (log entry 22). -/
def execStatus (fn ch : Nat) (s : State) : Host.Outcome State Fault Refusal :=
  mbxRow2 0x0801 5 fn ch (fun r =>
    let gid := leAt r.inl 4 4
    s.fabCmd (match mget s.fab.groups gid with
      | none => .bad St.BAD_FIELD
      | some g =>
        let row := fun (m : List Byte) =>
          let me := m == s.deviceId
          m ++ natLE 2 ((if me then s.fab.addr else s.peerAddr m).getD 0) ++ natLE 2 (b2n (me || (s.reachable gid).contains m))
        .done s ⟨St.SUCCESS, [], natLE 4 (s.groupKeys gid).length ++ natLE 4 g.members.length ++ g.members.flatMap row, 0, false⟩)) s

/-- FAB_RESTORE. -/
def execFabRestore (fn ch : Nat) (s : State) : Host.Outcome State Fault Refusal :=
  match mbxRow1 0x0802 fn ch (fun r =>
    let gid := leAt r.inl 4 4
    let gs := if gid = 0 then s.fab.groups.map (·.1) else [gid]
    s.fabCmd (if s.sealState ≠ Seal.LOST ∨ s.rdB Reg.TMP_STAT 1 ∨ s.noDsk ∨ s.fab.restore.isSome then .bad St.STATE
      else if r.inl.length < 8 ∨ gs.any (fun g => (mget s.fab.groups g).isNone) then .bad St.BAD_FIELD
      else if s.dskPending then .wait
      else
        let x : FabRestore := { chan := mbxKey fn ch, groups := gs, asking := none, declined := [], kept := [], skipped := [] }
        .runs { s with fab := { s.fab with restore := some x } })) s with
  | .next t => if s.fab.restore.isNone then .next t.restoreNext else .next t
  | o => o

end Sys2Proof.Machine
end

