-- ==== Sys2Proof/Machine/Flags.lean ====
section
/-!
DEFINITION. IEEE 754 binary64 arithmetic, round to nearest with ties to even, with the flags that FPSR accumulates
(R170, R208). A result is a pair of bits and flags; flags are NV, DZ, OF, UF, NX from bit 4 to bit 0.
-/
namespace Sys2Proof.Machine
open Sys2Proof

/-- A binary64 value taken apart; a finite value is m × 2^e. -/
inductive FNum where
  | nan (signalling : Bool)
  | inf (neg : Bool)
  | fin (neg : Bool) (m : Nat) (e : Int)
deriving DecidableEq, Repr

/-- Flags of one operation. -/
def fNV : BitVec 5 := 0x10
def fDZ : BitVec 5 := 0x08
def fOF : BitVec 5 := 0x04
def fUF : BitVec 5 := 0x02
def fNX : BitVec 5 := 0x01

/-- The canonical quiet NaN (R208). -/
def fNaN : DWord := 0x7FF8000000000000#64

/-- Infinity of a sign. -/
def fInf (neg : Bool) : DWord := BitVec.ofNat 64 (b2n neg * 2 ^ 63 + 0x7FF * 2 ^ 52)

/-- Zero of a sign. -/
def fZero (neg : Bool) : DWord := BitVec.ofNat 64 (b2n neg * 2 ^ 63)

/-- Sign, exponent and fraction of a binary64 value. -/
def fUnpack (x : DWord) : FNum :=
  let n : Nat := x.toNat
  let neg := x.getLsbD 63
  let ex : Nat := n / 2 ^ 52 % 2048
  let fr : Nat := n % 2 ^ 52
  if ex = 2047 then (if fr = 0 then .inf neg else .nan (fr < 2 ^ 51))
  else if ex = 0 then .fin neg fr (-1074)
  else .fin neg (fr + 2 ^ 52) ((ex : Int) - 1075)

/-- m / 2^k rounded to nearest, ties to even, with the information whether anything was lost; `more` says that the exact
value lies a little above m. -/
def roundShift (m k : Nat) (more : Bool) : Nat × Bool :=
  if k = 0 then (m, more)
  else
    let q := m / 2 ^ k
    let r := m % 2 ^ k
    let half := 2 ^ (k - 1)
    let up := decide (r > half) || (decide (r = half) && (more || q % 2 == 1))
    (q + b2n up, decide (r ≠ 0) || more)

/-- Bits and flags of the value (m plus a little where `more`) × 2^e. -/
def fRound (neg : Bool) (m : Nat) (e : Int) (more : Bool) : DWord × BitVec 5 :=
  if m = 0 then (fZero neg, 0)
  else
    let top : Int := e + bitLen m - 1
    let qe : Int := max (top - 52) (-1074)
    let r : Nat × Bool := if qe ≤ e then (m * 2 ^ (e - qe).toNat, false) else roundShift m (qe - e).toNat more
    let bits : Nat := if r.1 < 2 ^ 52 then r.1 else (qe + 1074).toNat * 2 ^ 52 + r.1
    -- with an unbounded exponent the same value would round up to the least normal number
    let unb := roundShift m (top - 52 - e).toNat more
    let tiny := decide (top < -1022) &&
      (Config.tinyBefore || !(decide (top = -1023) && decide (top - 52 > e) && decide (unb.1 = 2 ^ 53)))
    if bits ≥ 0x7FF * 2 ^ 52 then (fInf neg, fOF ||| fNX)
    else (BitVec.ofNat 64 (b2n neg * 2 ^ 63 + bits),
      (if r.2 then fNX else 0) ||| (if r.2 && tiny then fUF else 0))

/-- The invalid flag of operands: a signalling NaN among them. -/
def fSig (l : List FNum) : BitVec 5 :=
  if l.any (fun x => match x with | .nan s => s | _ => false) then fNV else 0

def FNum.isNan : FNum → Bool
  | .nan _ => true
  | _ => false

/-- Exact signed sum of two finite values at their lower exponent. -/
def fSumFin (n1 : Bool) (m1 : Nat) (e1 : Int) (n2 : Bool) (m2 : Nat) (e2 : Int) : DWord × BitVec 5 :=
  let e := min e1 e2
  let a : Int := (m1 * 2 ^ (e1 - e).toNat : Nat)
  let b : Int := (m2 * 2 ^ (e2 - e).toNat : Nat)
  let v := (if n1 then -a else a) + (if n2 then -b else b)
  if v = 0 then (fZero (n1 && n2), 0) else fRound (decide (v < 0)) v.natAbs e false

/-- Sum. -/
def fAdd (x y : DWord) : DWord × BitVec 5 :=
  match fUnpack x, fUnpack y with
  | .fin n1 m1 e1, .fin n2 m2 e2 => fSumFin n1 m1 e1 n2 m2 e2
  | .inf n1, .inf n2 => if n1 = n2 then (fInf n1, 0) else (fNaN, fNV)
  | .inf n, .fin _ _ _ => (fInf n, 0)
  | .fin _ _ _, .inf n => (fInf n, 0)
  | a, b => (fNaN, fSig [a, b])

/-- The sign turned. -/
def fNeg (x : DWord) : DWord := x ^^^ 0x8000000000000000#64
/-- The sign cleared. -/
def fAbs (x : DWord) : DWord := x &&& 0x7FFFFFFFFFFFFFFF#64

/-- Difference: a NaN keeps its kind when its sign turns. -/
def fSub (x y : DWord) : DWord × BitVec 5 := fAdd x (fNeg y)

/-- Product. -/
def fMul (x y : DWord) : DWord × BitVec 5 :=
  match fUnpack x, fUnpack y with
  | .fin n1 m1 e1, .fin n2 m2 e2 => fRound (n1 != n2) (m1 * m2) (e1 + e2) false
  | .inf n1, .inf n2 => (fInf (n1 != n2), 0)
  | .inf n1, .fin n2 m _ => if m = 0 then (fNaN, fNV) else (fInf (n1 != n2), 0)
  | .fin n1 m _, .inf n2 => if m = 0 then (fNaN, fNV) else (fInf (n1 != n2), 0)
  | a, b => (fNaN, fSig [a, b])

/-- Quotient. -/
def fDiv (x y : DWord) : DWord × BitVec 5 :=
  match fUnpack x, fUnpack y with
  | .fin n1 m1 e1, .fin n2 m2 e2 =>
    if m2 = 0 then (if m1 = 0 then (fNaN, fNV) else (fInf (n1 != n2), fDZ))
    else
      let a := m1 * 2 ^ 120
      fRound (n1 != n2) (a / m2) (e1 - e2 - 120) (decide (a % m2 ≠ 0))
  | .inf _, .inf _ => (fNaN, fNV)
  | .inf n1, .fin n2 _ _ => (fInf (n1 != n2), 0)
  | .fin n1 _ _, .inf n2 => (fZero (n1 != n2), 0)
  | a, b => (fNaN, fSig [a, b])

/-- The greatest number whose square is at most n, found bit by bit from bit b - 1 down. -/
def isqrt (n : Nat) : Nat → Nat → Nat
  | 0, acc => acc
  | b + 1, acc => isqrt n b (if (acc + 2 ^ b) * (acc + 2 ^ b) ≤ n then acc + 2 ^ b else acc)

/-- Square root. -/
def fSqrt (x : DWord) : DWord × BitVec 5 :=
  match fUnpack x with
  | .nan s => (fNaN, fSig [.nan s])
  | .inf n => if n then (fNaN, fNV) else (fInf false, 0)
  | .fin n m e =>
    if m = 0 then (fZero n, 0)
    else if n then (fNaN, fNV)
    else
      -- an even exponent, and enough bits for the rounding
      let k : Nat := if e % 2 = 0 then 128 else 129
      let a := m * 2 ^ k
      let r := isqrt a 96 0
      fRound false r ((e - k) / 2) (decide (r * r ≠ a))

/-- x × y + z with one rounding. -/
def fFma (x y z : DWord) : DWord × BitVec 5 :=
  match fUnpack x, fUnpack y, fUnpack z with
  | .fin n1 m1 e1, .fin n2 m2 e2, .fin n3 m3 e3 => fSumFin (n1 != n2) (m1 * m2) (e1 + e2) n3 m3 e3
  | .fin _ _ _, .fin _ _ _, .inf n => (fInf n, 0)
  | a, b, c =>
    let zeroInf := match a, b with
      | .inf _, .fin _ m _ => decide (m = 0)
      | .fin _ m _, .inf _ => decide (m = 0)
      | _, _ => false
    if a.isNan || b.isNan then (fNaN, fSig [a, b, c])
    else if c.isNan then (fNaN, fSig [c] ||| (if zeroInf && Config.fmaNanInvalid then fNV else 0))
    else if zeroInf then (fNaN, fNV)
    else
      let n := (match a with | .inf n => n | .fin n _ _ => n | .nan _ => false) !=
        (match b with | .inf n => n | .fin n _ _ => n | .nan _ => false)
      match c with
      | .inf n3 => if n3 = n then (fInf n, 0) else (fNaN, fNV)
      | _ => (fInf n, 0)

/-- Rounded to an integral value, ties to even. -/
def fRint (x : DWord) : DWord × BitVec 5 :=
  match fUnpack x with
  | .nan s => (fNaN, fSig [.nan s])
  | .inf n => (fInf n, 0)
  | .fin n m e => if e ≥ 0 then (x, 0) else ((fRound n (roundShift m (-e).toNat false).1 0 false).1, 0)

/-- Rounded to an integral value towards minus infinity. -/
def fFloor (x : DWord) : DWord × BitVec 5 :=
  match fUnpack x with
  | .nan s => (fNaN, fSig [.nan s])
  | .inf n => (fInf n, 0)
  | .fin n m e =>
    if e ≥ 0 then (x, 0)
    else
      let k := (-e).toNat
      ((fRound n (m / 2 ^ k + b2n (n && decide (m % 2 ^ k ≠ 0))) 0 false).1, 0)

/-- A signed word as binary64: always exact. -/
def fOfInt (x : Word) : DWord × BitVec 5 := fRound (decide (x.toInt < 0)) x.toInt.natAbs 0 false

/-- Binary64 to a signed word: ties to even, saturating, 0 for a NaN (R208); an inexact result raises NX, which FRINT and FFLOOR do not
(DESIGN CHOICE, log entry 157). -/
def fToInt (x : DWord) : Word × BitVec 5 :=
  match fUnpack x with
  | .nan _ => (0, fNV)
  | .inf n => (if n then 0x80000000#32 else 0x7FFFFFFF#32, fNV)
  | .fin n m e =>
    let r := if e ≥ 0 then (m * 2 ^ e.toNat, false) else roundShift m (-e).toNat false
    if n then (if r.1 > 2 ^ 31 then (0x80000000#32, fNV) else (BitVec.ofInt 32 (-(r.1 : Int)), if r.2 then fNX else 0))
    else (if r.1 > 2 ^ 31 - 1 then (0x7FFFFFFF#32, fNV) else (BitVec.ofNat 32 r.1, if r.2 then fNX else 0))

/-- Order of two values that are not NaN: x < y. -/
def fLess (x y : FNum) : Bool :=
  match x, y with
  | .inf n1, .inf n2 => n1 && !n2
  | .inf n1, _ => n1
  | _, .inf n2 => !n2
  | .fin n1 m1 e1, .fin n2 m2 e2 =>
    let e := min e1 e2
    let a : Int := (m1 * 2 ^ (e1 - e).toNat : Nat)
    let b : Int := (m2 * 2 ^ (e2 - e).toNat : Nat)
    decide ((if n1 then -a else a) < (if n2 then -b else b))
  | _, _ => false

/-- Less than: false with a NaN, which is invalid. -/
def fLt (x y : DWord) : Word × BitVec 5 :=
  let a := fUnpack x
  let b := fUnpack y
  if a.isNan || b.isNan then (0, fNV) else (BitVec.ofNat 32 (b2n (fLess a b)), 0)

/-- Equality: false with a NaN; only a signalling NaN is invalid. -/
def fEq (x y : DWord) : Word × BitVec 5 :=
  let a := fUnpack x
  let b := fUnpack y
  if a.isNan || b.isNan then (0, fSig [a, b]) else (BitVec.ofNat 32 (b2n (!fLess a b && !fLess b a)), 0)

end Sys2Proof.Machine
end

