-- ==== Sys2Proof/Machine/Operands.lean ====
section
/-!
DEFINITION. The operand forms of the vector instruction set: registers with their tags, lanes and spans, predicates,
share types and mask draws, the local address space with its loads and stores (spec files 06 and 07).
-/
namespace Sys2Proof.Machine
open Sys2Proof

/-! Trap causes (R185; FLOW causes in the order of the table of R179, log entry 29). -/

def tcIllegal : Nat := 0x01
def tcAccess : Nat := 0x02
def tcMiss : Nat := 0x03
def tcSpan : Nat := 0x04
def tcCap : Nat := 0x05
def tcKeyRange : Nat := 0x06
def tcEntLimit : Nat := 0x07
def tcWatchdog : Nat := 0x08
def tcSponge : Nat := 0x09
def tcValidation : Nat := 0x0A
def tcExit : Nat := 0x0B
def tcDouble : Nat := 0x0F
def tcBranch : Nat := 0x10
def tcAddress : Nat := 0x11
def tcControl : Nat := 0x12
def tcStore : Nat := 0x13
def tcDeclassify : Nat := 0x14

/-- What one instruction does to a run: it completes (or stalls), it traps, or it ends the run. -/
inductive PRes where
  | ok (p : Pvc)
  | trap (cause epr taddr : Nat) (p : Pvc)
  | jumpFault (target : Word) (p : Pvc)      -- R195: TPC is the target
  | done (r : RunResult) (p : Pvc)
deriving DecidableEq, Repr

/-- A trap of an instruction that is not element-wise: nothing has changed and EPR is 0 (R185). -/
def PRes.fault (cause : Nat) (p : Pvc) : PRes := .trap cause 0 0 p

/-! Registers. -/

/-- S0 reads as zero (06, table of the core state). -/
def Pvc.getS (p : Pvc) (r : R5) : SReg := if r = 0 then ⟨0, none⟩ else p.s[r.toNat]'r.isLt

/-- A write to S0 is discarded. -/
def Pvc.setS (p : Pvc) (r : R5) (v : Word) (t : Tag) : Pvc :=
  if r = 0 then p else { p with s := p.s.set r.toNat ⟨v, t⟩ r.isLt }

def Pvc.getW (p : Pvc) (r : R5) : WReg := p.w[r.toNat]'r.isLt

def Pvc.setW (p : Pvc) (r : R5) (v : BitVec 256) (t : Tag) : Pvc := { p with w := p.w.set r.toNat ⟨v, t⟩ r.isLt }

/-- P0 reads as all ones. -/
def Pvc.getP (p : Pvc) (r : P3) : PReg := if r = 0 then ⟨BitVec.allOnes 256, false⟩ else p.p[r.toNat]'r.isLt

/-- Writes to P0 are ignored. -/
def Pvc.setP (p : Pvc) (r : P3) (v : BitVec 256) (t : Bool) : Pvc :=
  if r = 0 then p else { p with p := p.p.set r.toNat ⟨v, t⟩ r.isLt }

/-- The instruction completes: the next word follows, and EPR returns to 0 outside the handler (R185, R186). -/
def Pvc.next (p : Pvc) : Pvc := { p with pc := p.pc + 4, epr := if p.handler then p.epr else 0, resume := false }

/-- Element an element-wise instruction starts at (R185, R186). -/
def Pvc.first (p : Pvc) : Nat := if p.resume then p.epr else 0

/-- n more mask bytes are drawn (R168, R181). -/
def Pvc.draw (p : Pvc) (n : Nat) : Pvc := { p with masks := p.masks + n }

/-! Tags (R178) and share types (R180, R207). -/

/-- The tag of a result whose sources carry these tags. -/
def mergeTag (ts : List Tag) (out : Share) : Tag := if ts.any (·.isSome) then some out else none

/-- The number of tagged operands that need a conversion to a share type (R181). -/
def conversions (ts : List Tag) (need : Share) : Nat :=
  (ts.filter (fun t => t.isSome && t != some need)).length

/-- The share type of the first tagged one. -/
def firstType (ts : List Tag) : Share := ((ts.filterMap id).head?).getD .bool

/-- QM register m names a modulus; 0 while unset (R169). -/
def Pvc.q (p : Pvc) (m : BitVec 2) : Nat := p.qm[m.toNat]'m.isLt

/-- A modular instruction of width w may use QM register m (R169, R201). -/
def Pvc.qOk (p : Pvc) (m : BitVec 2) (w : Nat) : Bool := decide (p.q m ≠ 0) && !(w == 16 && decide (p.q m ≥ 2 ^ 16))

/-- What the shares of bytes recombine to: under ARITHQ each lane is a residue below q. A lane has 16 bits where q fits them, else 32 (R180,
R210; log entry 133). -/
def Pvc.residues (p : Pvc) (t : Tag) (l : List Byte) : List Byte :=
  match t with
  | some (.arithq m) =>
    let q := p.q m
    let w := if q < 2 ^ 16 then 2 else 4
    if q = 0 then l else (List.range (l.length / w)).flatMap (fun i => natLE w (leAt l (w * i) w % q))
  | _ => l

/-- A register's value for an instruction that needs another share type, its w bits taken as the shares recombine (R206, R207). -/
def Pvc.asType {w : Nat} (p : Pvc) (t : Tag) (need : Share) (v : BitVec w) : BitVec w :=
  match t with
  | some (.arithq m) => if need = .arithq m then v else BitVec.ofNat w (leNat (p.residues t (natLE (w / 8) v.toNat)))
  | _ => v

/-! Scalar forms (R199). -/

/-- Mask bytes of a scalar instruction on 32 bits: one bit per bit of the width for each converted operand and for a gadget
(R181). -/
def sMasks (need : Option Share) (nonlin : Bool) (ts : List Tag) : Nat :=
  (match need with
    | some sh => 4 * conversions ts sh
    | none => 0) + (if nonlin && ts.any (·.isSome) then 4 else 0)

/-- d = f a b on S registers: `need` is the share type of the operands, `ty` that of the result; `nonlin` operations run in
gadgets when an operand is tagged (R181, R199, R207). -/
def sOp (f : Word → Word → Word) (need : Option Share) (ty : Share) (nonlin : Bool) (d a b : R5) (p : Pvc) : PRes :=
  let x := p.getS a
  let y := p.getS b
  let ts := [x.t, y.t]
  let sh := need.getD ty
  .ok ((p.setS d (f (p.asType x.t sh x.v) (p.asType y.t sh y.v)) (mergeTag ts ty)).draw (sMasks need nonlin ts)).next

/-- d = f a, with an immediate inside f. -/
def sImm (f : Word → Word) (need : Option Share) (ty : Share) (nonlin : Bool) (d a : R5) (p : Pvc) : PRes :=
  let x := p.getS a
  .ok ((p.setS d (f (p.asType x.t (need.getD ty) x.v)) (mergeTag [x.t] ty)).draw (sMasks need nonlin [x.t])).next

/-- An instruction some field of which its row does not allow (R197). -/
def legal (ok : Bool) (k : Pvc → PRes) (p : Pvc) : PRes := if ok then k p else .fault tcIllegal p

/-! Lanes and spans (R172, R174, R198). -/

/-- Element i of width w in a register. -/
def lane (x : BitVec 256) (w i : Nat) : Nat := (x.toNat >>> (w * i)) % 2 ^ w

/-- The register value whose elements, lowest first, are given. -/
def packLanes (w : Nat) (l : List Nat) : BitVec 256 :=
  BitVec.ofNat 256 (l.foldr (fun x acc => x % 2 ^ w + 2 ^ w * acc) 0)

/-- The signed value of an element. -/
def sgn (w x : Nat) : Int := if x < 2 ^ (w - 1) then (x : Int) else (x : Int) - 2 ^ w

/-- The low w bits of an integer. -/
def wrap (w : Nat) (v : Int) : Nat := (v % 2 ^ w).toNat

/-- The element width that E selects (R198). -/
def eWidth (e : Bool) : Nat := if e then 32 else 16

/-- Elements an instruction acts on: LEN of them, or all lanes of a short one (R174, R198). -/
def Pvc.count (p : Pvc) (l e : Bool) : Nat := if l then p.len else 256 / eWidth e

/-- Registers of its spans (R198). -/
def Pvc.regs (p : Pvc) (l e : Bool) : Nat := if l then ceilDiv (p.len * eWidth e) 256 else 1

/-- The power of two at or above n, for spans of up to 16 registers. -/
def pow2ge (n : Nat) : Nat := if n ≤ 1 then 1 else if n ≤ 2 then 2 else if n ≤ 4 then 4 else if n ≤ 8 then 8 else 16

/-- R172: a long instruction whose LEN is too large or whose span of n registers is misaligned. -/
def Pvc.spanBad (p : Pvc) (l e : Bool) (n : Nat) (bases : List R5) : Bool :=
  l && decide (p.len ≠ 0) &&
    (decide (p.len > 4096 / eWidth e) || bases.any (fun b => b.toNat % pow2ge n != 0))

/-- Two spans of n1 and n2 registers share a register. -/
def overlap (b1 : R5) (n1 : Nat) (b2 : R5) (n2 : Nat) : Bool :=
  decide (b1.toNat < b2.toNat + n2) && decide (b2.toNat < b1.toNat + n1)

/-- Register r of a span. -/
def spanReg (b : R5) (r : Nat) : R5 := b + BitVec.ofNat 5 r

/-- Element i of the span at b. -/
def Pvc.elem (p : Pvc) (b : R5) (w i : Nat) : Nat :=
  let k := 256 / w
  lane (p.getW (spanReg b (i / k))).v w (i % k)

/-- Element i of the span at b for an instruction that needs a share type (R207). -/
def Pvc.elemAs (p : Pvc) (need : Share) (b : R5) (w i : Nat) : Nat :=
  let k := 256 / w
  let x := p.getW (spanReg b (i / k))
  lane (p.asType x.t need x.v) w (i % k)

/-- The bytes of the span of n registers at b for an instruction that needs a share type. -/
def Pvc.spanBytes (p : Pvc) (need : Share) (b : R5) (n : Nat) : List Byte :=
  (List.range n).flatMap (fun r => let x := p.getW (spanReg b r); natLE 32 (p.asType x.t need x.v).toNat)

/-- The tag of an operand span: that of its first tagged register (log entry 30). -/
def Pvc.spanTag (p : Pvc) (b : R5) (n : Nat) : Tag :=
  ((List.range n).filterMap (fun r => (p.getW (spanReg b r)).t)).head?

/-- Predicate bit of element i (R175). -/
def Pvc.pbit (p : Pvc) (pr : P3) (w i : Nat) : Bool := (p.getP pr).v.getLsbD (if w = 32 then 2 * i else i)

/-- The tag of a predicate operand. -/
def Pvc.pTag (p : Pvc) (pr : P3) : Tag := if (p.getP pr).t then some .bool else none

/-- One register of a destination span: elements with a new value written, the others kept; the tag of R178, where a
partial write takes in the old tag. -/
def Pvc.putReg (p : Pvc) (r : R5) (w : Nat) (pred : Bool) (t : Tag) (g : Nat → Option Nat) : Pvc :=
  let old := p.getW r
  let js := List.range (256 / w)
  let part := pred || js.any (fun j => (g j).isNone)
  p.setW r (packLanes w (js.map (fun j => (g j).getD (lane old.v w j))))
    (if t.isSome then t else if part then old.t else none)

/-- The span of n registers at b with new elements g i. -/
def Pvc.putSpan (p : Pvc) (b : R5) (n w : Nat) (pred : Bool) (t : Nat → Tag) (g : Nat → Option Nat) : Pvc :=
  let k := 256 / w
  (List.range n).foldl (fun q r => q.putReg (spanReg b r) w pred (t r) (fun j => g (r * k + j))) p

/-- The common form of a vector instruction (R172 to R178): element i of the span at d becomes f of element i of the source
spans, where the predicate allows; `extra` are tags of further sources, `need` the share type the sources must have, `out` the
type the result has, `gad` the mask bytes drawn per register when a source is tagged (R217). -/
def vecOp (f : Nat → Nat → List Nat → Nat) (need out : Option Share) (gad : Nat) (extra : List Tag)
    (l e : Bool) (pr : P3) (d : R5) (srcs : List R5) (p : Pvc) : PRes :=
  let w := eWidth e
  let n := p.regs l e
  let cnt := p.count l e
  if p.spanBad l e n (d :: srcs) then .fault tcSpan p
  else
    let sts := srcs.map (fun b => p.spanTag b n) ++ extra
    let ts := p.pTag pr :: sts
    let ty := out.getD (firstType sts)
    let t := mergeTag ts ty
    let cv := match need with
      | some sh => 32 * n * conversions (srcs.map (fun b => p.spanTag b n)) sh
      | none => 0
    let dr := cv + (if t.isSome then gad * n else 0)
    .ok ((p.putSpan d n w (pr != 0) (fun _ => t) (fun i =>
      if i < cnt && p.pbit pr w i then
        some (f w i (srcs.map (fun b => match need.orElse (fun _ => out) with | some sh => p.elemAs sh b w i | none => p.elem b w i)))
      else none)).draw dr).next

/-- First and second of the source elements. -/
def el0 (l : List Nat) : Nat := l.getD 0 0
def el1 (l : List Nat) : Nat := l.getD 1 0

/-! The local address space (R176, R177). -/

/-- n bytes at an address lie in a window. -/
def Window.has (x : Window) (a n : Nat) : Bool := decide (x.base ≤ a) && decide (a + n ≤ x.base + x.size)

/-- The share type of the SECRET line at an address. -/
def Pvc.lineType (p : Pvc) (a : Nat) : Share := (mget p.shares (a / 32)).getD .bool

/-- What a load of n bytes finds: the bytes and their tag, or a trap cause. -/
inductive LoadRes where
  | bytes (l : List Byte) (t : Tag)
  | cause (c : Nat)
deriving DecidableEq, Repr

/-- A load from an aperture: only its resident segment, held in a window, can be read (R177). -/
def Pvc.aperture (p : Pvc) (win : Window) (seg : Nat × Nat) (declared k n : Nat) : LoadRes :=
  if k + n > declared then .cause tcAccess
  else if decide (seg.1 ≤ k) && decide (k + n ≤ seg.1 + seg.2) then .bytes (readBytes p.mem (win.base + (k - seg.1)) n) none
  else .cause tcMiss

/-- A load of n bytes (06, local address map). -/
def Pvc.load (p : Pvc) (a n : Nat) : LoadRes :=
  let k := p.kern
  if k.input.has a n || k.aux.has a n || k.work.has a n || k.output.has a n then .bytes (readBytes p.mem a n) none
  else if k.secret.has a n then .bytes (readBytes p.mem a n) (some (p.lineType a))
  else if 0x80000 ≤ a && a + n ≤ 0x80000 + 0x1000 * k.tables then .bytes (fixLen n (slice k.twiddles (a - 0x80000) n)) none
  else if 0x100000 ≤ a && a + n ≤ 0x100000 + k.sram then .bytes (readBytes p.sram (a - 0x100000) n) none
  else if 0x80000000 ≤ a && a < 0xC0000000 then p.aperture k.input p.inSeg p.inLen (a - 0x80000000) n
  else if 0xC0000000 ≤ a && a < 0x100000000 then p.aperture k.aux p.auxSeg p.auxLen (a - 0xC0000000) n
  else .cause tcAccess

/-- The trap of a store of n bytes with a tag at an address, if any (R176, R179). -/
def Pvc.storeCause (p : Pvc) (a n : Nat) (tagged : Bool) : Option Nat :=
  let k := p.kern
  if k.secret.has a n then none
  else if k.input.has a n || k.aux.has a n || k.work.has a n || k.output.has a n ||
      (0x100000 ≤ a && a + n ≤ 0x100000 + k.sram) then (if tagged then some tcStore else none)
  else some tcAccess

/-- The bytes written at an address that storeCause lets pass; a tagged value gives its SECRET line its share type. -/
def Pvc.store (p : Pvc) (a : Nat) (l : List Byte) (t : Tag) : Pvc :=
  if 0x100000 ≤ a then { p with sram := writeBytes p.sram (a - 0x100000) l }
  else
    let sh := match t with
      | none => p.shares
      | some .bool => mdel p.shares (a / 32)
      | some x => mput p.shares (a / 32) x
    { p with mem := writeBytes p.mem a l, shares := if p.kern.secret.has a l.length then sh else p.shares }

/-- Address of a scalar access: S[a] + sext(imm16) (R199). -/
def Pvc.addr (p : Pvc) (a : R5) (imm : BitVec 16) : Nat := ((p.getS a).v + imm.signExtend 32).toNat

/-- A scalar load of n bytes, naturally aligned (R199); `k` places the bytes. -/
def sLoad (n : Nat) (k : List Byte → Tag → Pvc → Pvc) (a : R5) (imm : BitVec 16) (p : Pvc) : PRes :=
  let ad := p.addr a imm
  if (p.getS a).t.isSome then .fault tcAddress p
  else if ad % n ≠ 0 then .trap tcAccess 0 ad p
  else match p.load ad n with
    | .cause c => .trap c 0 ad p
    | .bytes l t => .ok (k l t p).next

/-- A scalar store of bytes with a tag, naturally aligned. -/
def sStore (l : List Byte) (t : Tag) (a : R5) (imm : BitVec 16) (p : Pvc) : PRes :=
  let ad := p.addr a imm
  if (p.getS a).t.isSome then .fault tcAddress p
  else if ad % l.length ≠ 0 then .trap tcAccess 0 ad p
  else match p.storeCause ad l.length t.isSome with
    | some c => if c = tcStore then .fault c p else .trap c 0 ad p
    | none => .ok (p.store ad l t).next

/-! Element-wise vector memory (R185, R212, R213). -/

/-- Elements read in ascending order, up to the first that faults. -/
def Pvc.gather (p : Pvc) (w : Nat) (addr : Nat → Nat) : List Nat → List (Nat × Nat × Tag) × Option (Nat × Nat × Nat)
  | [] => ([], none)
  | i :: t =>
    let a := addr i
    if a % (w / 8) ≠ 0 then ([], some (i, tcAccess, a))
    else match p.load a (w / 8) with
      | .cause c => ([], some (i, c, a))
      | .bytes l tg =>
        let r := p.gather w addr t
        ((i, leNat l, tg) :: r.1, r.2)

/-- The elements that an instruction still has to process. -/
def Pvc.active (p : Pvc) (pr : P3) (w cnt : Nat) : List Nat :=
  (List.range cnt).filter (fun i => decide (p.first ≤ i) && p.pbit pr w i)

/-- The tag of the line at an address. -/
def Pvc.lineTag (p : Pvc) (a n : Nat) : Tag := if p.kern.secret.has a n then some (p.lineType a) else none

/-- A long-vector or short load into the span at d from the addresses of its elements: each register's tag is that of the lines that its
elements came from, those before a fault of the same instruction included (R212, R185). -/
def vLoad (addr : Nat → Nat) (l e : Bool) (pr : P3) (d : R5) (p : Pvc) : PRes :=
  let w := eWidth e
  let n := p.regs l e
  let k := 256 / w
  let r := p.gather w addr (p.active pr w (p.count l e))
  let pt := p.pTag pr
  let old := ((List.range p.first).filter (fun i => i / k == p.first / k && p.pbit pr w i)).map (fun i => (i, p.elem d w i, p.lineTag (addr i) (w / 8)))
  let all := old ++ r.1
  let tags := fun j => (all.filter (fun x => x.1 / k == j)).map (·.2.2)
  let tagOf := fun j => mergeTag (pt :: tags j) (firstType (tags j))
  let g := fun i => (mget all i).map (·.1)
  match r.2 with
  | some (i, c, a) => .trap c i a (p.putSpan d (ceilDiv i k) w (pr != 0) tagOf g)
  | none => .ok (p.putSpan d n w (pr != 0) tagOf g).next

/-- Elements written in ascending order, up to the first that faults. -/
def Pvc.scatter (w : Nat) (addr data : Nat → Nat) (tag : Nat → Tag) (p : Pvc) : List Nat → Pvc × Option (Nat × Nat × Nat)
  | [] => (p, none)
  | i :: t =>
    let a := addr i
    if a % (w / 8) ≠ 0 then (p, some (i, tcAccess, a))
    else match p.storeCause a (w / 8) (tag i).isSome with
      | some c => (p, some (i, c, a))
      | none => Pvc.scatter w addr data tag (p.store a (natLE (w / 8) (data i)) (tag i)) t

/-- A vector store from the span at d: the FLOW check precedes every element (R213). -/
def vStore (addr : Nat → Nat) (l e : Bool) (pr : P3) (d : R5) (p : Pvc) : PRes :=
  let w := eWidth e
  let k := 256 / w
  let is := p.active pr w (p.count l e)
  let tag := fun i => (p.getW (spanReg d (i / k))).t
  if is.any (fun i => p.storeCause (addr i) (w / 8) (tag i).isSome == some tcStore) then .fault tcStore p
  else
    let r := p.scatter w addr (p.elem d w) tag is
    match r.2 with
    | some (i, c, a) => .trap c i a r.1
    | none => .ok r.1.next

end Sys2Proof.Machine
end

