-- ==== Sys2Proof/Machine/PvcCore.lean ====
section
/-!
DEFINITION. One instruction on one core: fetch bound, traps and the handler, the end of a run, mask accounting (R185, R186,
R191 to R193, R195). The command names the core and the instruction (log entry 21).
-/
namespace Sys2Proof.Machine
open Sys2Proof

/-- The result of a run that ended in a trap: KERNEL_FAULT or SECRET_FLOW with EPR, TPC and TADDR inline (R101, R186). -/
def trapResult (cause epr : Nat) (tpc taddr : Word) : RunResult where
  status := if 0x10 ≤ cause then St.SECRET_FLOW else St.KERNEL_FAULT
  out := []
  verdict := none
  leaf := none
  inline :=
    if 0x10 ≤ cause then zeros 4 ++ natLE 4 tpc.toNat ++ zeros 8
    else natLE 2 epr ++ zeros 2 ++ natLE 4 tpc.toNat ++ natLE 4 taddr.toNat ++ zeros 4
  secret := natLE 2 epr ++ natLE 4 tpc.toNat ++ natLE 4 taddr.toNat
  attempts := 0
  trap := cause

/-- The result goes to the run of the command's leg; the comparator takes it when the run finishes (R192). -/
def setRunKres (unit : Nat) (r : RunResult) (l : Leg) : Leg :=
  { l with runs := l.runs.map (fun x => if x.unit = unit then { x with kres := some r } else x) }

/-- A run ends: its result is kept for the comparison, its sponge units are free, its PVC goes to scrub (R191, R193). -/
def endRun (c : Nat) (p : Pvc) (r : RunResult) (s : State) : State :=
  let s1 := s.modCmd p.cmd (fun x => { x with legs := x.legs.modify p.leg (setRunKres c r) })
  let s2 := s1.setPvc c { p with stall := some .ended, sp := Vector.replicate 2 none }
  let x := s2.cluster (clusterOf c)
  let s2 := if x.spQueue.contains c || x.sramQueue.contains c then
      s2.setCluster (clusterOf c) { x with spQueue := x.spQueue.filter (· != c), sramQueue := x.sramQueue.filter (· != c) }
    else s2
  let s3 := s2.setUnit c { s2.unit c with scrub := true }
  s3.incF (Reg.CL_RUNS (clusterOf c)) 31 0 1

/-- Taking a trap (R185, R186): EPR, TPC and TADDR are set; a handled cause enters the kernel's handler; any other, a kernel
without a handler, or a trap inside the handler ends the run. -/
def takeTrap (c : Nat) (p : Pvc) (cause epr : Nat) (tpc taddr : Word) (s : State) : State :=
  if p.handler then endRun c p (trapResult tcDouble epr tpc taddr) s
  else match p.kern.handler with
    | some h =>
      if cause = tcAccess ∨ cause = tcMiss then
        s.setPvc c { p with handler := true, epr := epr, tpc := tpc, tcause := cause, taddr := taddr, pc := BitVec.ofNat 32 h,
                            resume := false }
      else endRun c p (trapResult cause epr tpc taddr) s
    | none => endRun c p (trapResult cause epr tpc taddr) s

/-- Mask bytes drawn by a core of a cluster: whole blocks of 136 bytes are counted in CL_MASK (R168, R193). -/
def drawMasks (cl n : Nat) (s : State) : State :=
  if n = 0 then s
  else
    let x := s.cluster cl
    let tot := x.maskPart + n
    let s1 := s.setCluster cl { x with maskPart := tot % 136 }
    let blocks := Nat.min (s1.rdF (Reg.CL_MASK cl) 20 0 + tot / 136) (2 ^ 20)
    s1.wrF (Reg.CL_MASK cl) 20 0 blocks

/-- What a stall that an instruction ran into asks for: a place in the cluster's queue of claims (R166), or the next entropy
chunk of the command, drawn once for all its runs (R183). -/
def afterStall (c : Nat) (p : Pvc) (s : State) : State :=
  match p.stall with
  | some (.sponge _ _) =>
    let x := s.cluster (clusterOf c)
    s.setCluster (clusterOf c) { x with spQueue := x.spQueue ++ [c] }
  | some (.ent _ _) =>
    match mget s.cmds p.cmd with
    | some x => s.askChunk p.cmd x
    | none => s
  | _ => s

/-- The outcome of an instruction is put into the state. -/
def pvcPut (c : Nat) (p : Pvc) (r : PRes) (s : State) : State :=
  match r with
  | .ok q =>
    let d := q.masks - p.masks
    if (s.cluster (clusterOf c)).maskStall && decide (0 < d) then s.setPvc c { p with stall := some .mask }
    else drawMasks (clusterOf c) d (afterStall c q (s.setPvc c q))
  | .trap cause epr ta q => takeTrap c q cause epr p.pc (BitVec.ofNat 32 ta) s
  | .jumpFault t q => takeTrap c q tcAccess 0 t 0 s
  | .done r q => endRun c q r s

/-- The instruction word at the pc of a run; beyond the image's code bytes it is zero, a NOP. -/
def Pvc.word (p : Pvc) : Word := BitVec.ofNat 32 (leAt p.kern.code p.pc.toNat 4)

/-- The chapter defines the major opcode and func of the word at the pc (R197). -/
def Pvc.defined (p : Pvc) : Bool := (decodePvc 0 p.word).isSome

/-- One instruction on core c. Where the core runs nothing or its run is stalled, no instruction issues and nothing changes;
a fetch at or above the code length traps ACCESS (R195), a word that the chapter does not define ILLEGAL (R197). -/
def pvcStep (c : Nat) (f : Pvc → PRes) (s : State) : Host.Outcome State Fault Refusal :=
  match mget s.pvcs c with
  | none => .next s
  | some p =>
    if p.stall.isSome then .next s
    else if p.pc.toNat ≥ p.kern.codeLen then .next (takeTrap c p tcAccess 0 p.pc 0 s)
    else if !p.defined then .next (takeTrap c p tcIllegal 0 p.pc 0 s)
    else .next (pvcPut c p (f p) s)

end Sys2Proof.Machine
end

