-- ==== Sys2Proof/Machine/Float.lean ====
section
/-!
DEFINITION. Floating-point instructions of the vector instruction set (spec file 07, R170, R208).
-/
namespace Sys2Proof.Machine
open Sys2Proof

/-- Fn: bits 63:0 of Wn. -/
def Pvc.getF (p : Pvc) (r : R5) : DWord := (p.getW r).v.truncate 64

/-- Fn as an operand, which needs BOOL shares (R207). -/
def Pvc.inF (p : Pvc) (r : R5) : DWord := (p.asType (p.getW r).t .bool (p.getW r).v).truncate 64

/-- S[n] as an operand of a floating-point instruction. -/
def Pvc.inS (p : Pvc) (r : R5) : Word := p.asType (p.getS r).t .bool (p.getS r).v

/-- FPSR takes in the flags of an instruction whose operands are untagged (R170). -/
def Pvc.raise (p : Pvc) (fl : BitVec 5) (ts : List Tag) : Pvc :=
  if ts.any (·.isSome) then p else { p with fpsr := p.fpsr ||| fl }

/-- Mask bytes of a floating-point instruction: 64 masks for each gadget operation, and one for each bit of a converted operand, which has
wb bytes (R181, R208). -/
def fMasks (ops wb : Nat) (ts : List Tag) : Nat := wb * conversions ts .bool + (if ts.any (·.isSome) then 8 * ops else 0)

/-- A write to Fd leaves bits 255:64 of Wd and takes in its old tag (R170, R178). -/
def Pvc.setF (p : Pvc) (d : R5) (v : DWord) (t : Tag) : Pvc :=
  let old := p.getW d
  p.setW d (((old.v >>> 64) <<< 64) ||| v.zeroExtend 256) (if t.isSome then t else old.t)

/-- An F result with its flags, from operands of wb bytes with tags ts, in a number of gadget operations. -/
def fOut (d : R5) (r : DWord × BitVec 5) (ops wb : Nat) (ts : List Tag) (p : Pvc) : PRes :=
  .ok (((p.setF d r.1 (mergeTag ts .bool)).raise r.2 ts).draw (fMasks ops wb ts)).next

/-- An S result with its flags. -/
def fOutS (d : R5) (r : Word × BitVec 5) (ops : Nat) (ts : List Tag) (p : Pvc) : PRes :=
  .ok (((p.setS d r.1 (mergeTag ts .bool)).raise r.2 ts).draw (fMasks ops 8 ts)).next

/-- Fd = Fa op Fb. -/
def fOp2 (f : DWord → DWord → DWord × BitVec 5) (ops : Nat) (d a b : R5) (p : Pvc) : PRes :=
  fOut d (f (p.inF a) (p.inF b)) ops 8 [(p.getW a).t, (p.getW b).t] p

/-- Fd = op Fa; field b is 0. -/
def fOp1 (f : DWord → DWord × BitVec 5) (ops : Nat) (d a b : R5) (p : Pvc) : PRes :=
  legal (b == 0) (fun p => fOut d (f (p.inF a)) ops 8 [(p.getW a).t] p) p

/-- FLD: Fd = the 8 bytes at S[a] + sext(imm16), with the share type of their line (R207). -/
def execFld (c : Nat) (d a : R5) (imm : BitVec 16) (s : State) : Host.Outcome State Fault Refusal :=
  pvcStep c (sLoad 8 (fun l t p => p.setF d (BitVec.ofNat 64 (leNat l)) t) a imm) s

/-- FST: the 8 bytes at S[a] + sext(imm16) = Fd. -/
def execFst (c : Nat) (d a : R5) (imm : BitVec 16) (s : State) : Host.Outcome State Fault Refusal :=
  pvcStep c (fun p => sStore (natLE 8 (p.getF d).toNat) (p.getW d).t a imm p) s

/-- FADD: a fixed sequence of 1 gadget operation on tagged operands (R208). -/
def execFadd (c : Nat) (d a b : R5) (s : State) : Host.Outcome State Fault Refusal :=
  pvcStep c (fOp2 fAdd 1 d a b) s

/-- FSUB: a fixed sequence of 1 gadget operation on tagged operands (R208). -/
def execFsub (c : Nat) (d a b : R5) (s : State) : Host.Outcome State Fault Refusal :=
  pvcStep c (fOp2 fSub 1 d a b) s

/-- FMUL: a fixed sequence of 1 gadget operation on tagged operands (R208). -/
def execFmul (c : Nat) (d a b : R5) (s : State) : Host.Outcome State Fault Refusal :=
  pvcStep c (fOp2 fMul 1 d a b) s

/-- FDIV: a fixed sequence of 6 gadget operations on tagged operands (R208). -/
def execFdiv (c : Nat) (d a b : R5) (s : State) : Host.Outcome State Fault Refusal :=
  pvcStep c (fOp2 fDiv 6 d a b) s

/-- FSQRT: seven gadget operations on a tagged operand (R208). -/
def execFsqrt (c : Nat) (d a b : R5) (s : State) : Host.Outcome State Fault Refusal :=
  pvcStep c (fOp1 fSqrt 7 d a b) s

/-- FMADD: Fd = Fa × Fb + Fd with one rounding (R208). -/
def execFmadd (c : Nat) (d a b : R5) (s : State) : Host.Outcome State Fault Refusal :=
  pvcStep c (fun p => fOut d (fFma (p.inF a) (p.inF b) (p.inF d)) 1 8 [(p.getW a).t, (p.getW b).t, (p.getW d).t] p) s

/-- FNEG: the sign inverted, share-wise (R208). -/
def execFneg (c : Nat) (d a b : R5) (s : State) : Host.Outcome State Fault Refusal :=
  pvcStep c (fOp1 (fun x => (fNeg x, 0)) 0 d a b) s

/-- FABS: the sign cleared, share-wise (R208). -/
def execFabs (c : Nat) (d a b : R5) (s : State) : Host.Outcome State Fault Refusal :=
  pvcStep c (fOp1 (fun x => (fAbs x, 0)) 0 d a b) s

/-- FRINT: integral, ties to even (R208). -/
def execFrint (c : Nat) (d a b : R5) (s : State) : Host.Outcome State Fault Refusal :=
  pvcStep c (fOp1 fRint 1 d a b) s

/-- FFLOOR: integral, towards minus infinity (R208). -/
def execFfloor (c : Nat) (d a b : R5) (s : State) : Host.Outcome State Fault Refusal :=
  pvcStep c (fOp1 fFloor 1 d a b) s

/-- FCVT.F.S: Fd = signed S[a] (R208). -/
def execFcvtFS (c : Nat) (d a b : R5) (s : State) : Host.Outcome State Fault Refusal :=
  pvcStep c (legal (b == 0) (fun p => fOut d (fOfInt (p.inS a)) 1 4 [(p.getS a).t] p)) s

/-- FCVT.S.F: S[d] = Fa as a signed integer, 0 for a NaN, saturating (R208). -/
def execFcvtSF (c : Nat) (d a b : R5) (s : State) : Host.Outcome State Fault Refusal :=
  pvcStep c (legal (b == 0) (fun p => fOutS d (fToInt (p.inF a)) 1 [(p.getW a).t] p)) s

/-- FLT: a comparison into S[d] (R208). -/
def execFlt (c : Nat) (d a b : R5) (s : State) : Host.Outcome State Fault Refusal :=
  pvcStep c (fun p => fOutS d (fLt (p.inF a) (p.inF b)) 1 [(p.getW a).t, (p.getW b).t] p) s

/-- FEQ: a comparison into S[d] (R208). -/
def execFeq (c : Nat) (d a b : R5) (s : State) : Host.Outcome State Fault Refusal :=
  pvcStep c (fun p => fOutS d (fEq (p.inF a) (p.inF b)) 1 [(p.getW a).t, (p.getW b).t] p) s

/-- FMV.S.LO: S[d] = bits 31:0 of Fa (R208). -/
def execFmvSLo (c : Nat) (d a b : R5) (s : State) : Host.Outcome State Fault Refusal :=
  pvcStep c (legal (b == 0) (fun p => fOutS d ((p.inF a).truncate 32, 0) 0 [(p.getW a).t] p)) s

/-- FMV.S.HI: S[d] = bits 63:32 of Fa (R208). -/
def execFmvSHi (c : Nat) (d a b : R5) (s : State) : Host.Outcome State Fault Refusal :=
  pvcStep c (legal (b == 0) (fun p => fOutS d (((p.inF a) >>> 32).truncate 32, 0) 0 [(p.getW a).t] p)) s

/-- FMV.F: Fd = S[b] above S[a] (R208). -/
def execFmvF (c : Nat) (d a b : R5) (s : State) : Host.Outcome State Fault Refusal :=
  pvcStep c (fun p => fOut d (p.inS b ++ p.inS a, 0) 0 4 [(p.getS a).t, (p.getS b).t] p) s

end Sys2Proof.Machine
end

