-- ==== Sys2Proof/Machine/SysIns.lean ====
section
/-!
DEFINITION. System instructions of the vector instruction set and those that cross the secrecy boundary (spec files 06 and 07,
R173, R177, R182 to R184, R191, R209 to R211).
-/
namespace Sys2Proof.Machine
open Sys2Proof

/-- A capability bit of the kernel header: 0 RELEASE, 1 ENT, 2 CTX_WRITE, 3 SPONGE_PAIR. -/
def Pvc.capBit (p : Pvc) (i : Nat) : Bool := p.kern.caps.testBit i

/-- The parameter entry reads (bit 3) or writes (bit 4) the named context. -/
def Pvc.parBit (p : Pvc) (i : Nat) : Bool := p.par.flags.testBit i

/-- An instruction that ends the validation phase (R191). -/
def Pvc.endVal (p : Pvc) : Pvc := { p with valid := false }

/-- The result of a run that exits, as it is compared (R191, R192): status, verdict, the first n bytes of OUTPUT, the low 16 bytes of W30 where
the descriptor asks for an inline result, and what CTXST wrote. -/
def exitResult (p : Pvc) (n code : Nat) : RunResult where
  status := if code ≤ 2 then St.SUCCESS else code
  out := readBytes p.mem p.kern.output.base n
  verdict := if code = 1 then some false else if code = 2 then some true else none
  leaf := none
  inline := if p.inl then natLE 16 (p.getW 30).v.toNat else zeros 16
  secret := (p.ctxOut).getD []
  attempts := 0
  trap := 0

/-- EXIT (R179, R191): a tagged count, code or inline result traps FLOW_CONTROL; a code or count outside the rule traps EXIT; an
input exit after the validation phase traps VALIDATION. -/
def exitOp (a b : R5) (p : Pvc) : PRes :=
  let n := (p.getS a).v.toNat
  let code := (p.getS b).v.toNat
  if (p.getS a).t.isSome || (p.getS b).t.isSome || (p.inl && (p.getW 30).t.isSome) then .fault tcControl p
  else if !(code ≤ 2 || code == 0x20 || code == 0x21) || decide (n > p.par.out) || decide (n > p.cap) then .fault tcExit p
  else if code ≥ 0x20 && !p.valid then .fault tcValidation p
  else .done (exitResult p n code) p

/-- SETLEN with a maximum (R173). -/
def setLen (mx : Nat) (d a b : R5) (p : Pvc) : PRes :=
  legal (b == 0) (fun p =>
    let x := p.getS a
    if x.t.isSome then .fault tcControl p
    else
      let n := Nat.min x.v.toNat mx
      .ok (({ p with len := n }).setS d (BitVec.ofNat 32 n) none).next) p

/-- The word MFC reads under a control code (R209): TPC, TCAUSE and TADDR read as 0 outside the handler. -/
def Pvc.control (p : Pvc) (code : Nat) : Option Word :=
  match code with
  | 0 => some (BitVec.ofNat 32 p.len)
  | 1 => some (BitVec.ofNat 32 p.epr)
  | 2 => some (p.fpsr.zeroExtend 32)
  | 3 => some (if p.handler then p.tpc else 0)
  | 4 => some (if p.handler then BitVec.ofNat 32 p.tcause else 0)
  | 5 => some (if p.handler then p.taddr else 0)
  | 8 => some (BitVec.ofNat 32 (p.q 0))
  | 9 => some (BitVec.ofNat 32 (p.q 1))
  | 10 => some (BitVec.ofNat 32 (p.q 2))
  | 11 => some (BitVec.ofNat 32 (p.q 3))
  | 12 => some (BitVec.ofNat 32 p.gfp)
  | _ => none

/-- A value for a QM register (R209). -/
def qmLegal (v : Nat) : Bool := v % 2 == 1 && decide (3 ≤ v) && decide (v < 2 ^ 31)

/-- A value for GFP (R209): the top bit is bit m for 2 ≤ m ≤ 16. -/
def gfpLegal (v : Nat) : Bool := decide (4 ≤ v) && decide (v < 2 ^ 17)

/-- A tag that names QM register m. -/
def tagOfQ (t : Tag) (m : BitVec 2) : Bool := t == some (.arithq m)

/-- Registers and lines whose shares are held modulo QM register m, after m has changed: what the shares recombine to is open
(log entry 28). -/
def Pvc.reshare (p : Pvc) (m : BitVec 2) (q : Nat) : Pvc :=
  { p with
    w := p.w.map (fun r => if tagOfQ r.t m then { r with v := Config.reshared r.v (p.q m) q } else r)
    s := p.s.map (fun r => if tagOfQ r.t m then { r with v := (Config.reshared (r.v.zeroExtend 256) (p.q m) q).truncate 32 } else r)
    mem := p.shares.foldl (fun mem ls =>
      if tagOfQ (some ls.2) m then
        writeBytes mem (ls.1 * 32)
          (natLE 32 (Config.reshared (BitVec.ofNat 256 (leNat (readBytes mem (ls.1 * 32) 32))) (p.q m) q).toNat)
      else mem) p.mem }

/-- MTC (R179, R209). A tagged value to FPSR, which carries no tag, traps as one to LEN does (log entry 32). Fields that
a row of the system group does not name are zero, or the word is ILLEGAL (DESIGN CHOICE, log entry 157). -/
def mtcOp (d a b : R5) (p : Pvc) : PRes :=
  legal (d == 0) (fun p =>
    let x := p.getS a
    let v := x.v.toNat
    let code := b.toNat
    if !(code == 0 || code == 2 || (8 ≤ code && code ≤ 12)) then .fault tcIllegal p
    else if x.t.isSome then .fault tcControl p
    else if code = 0 then (if v ≤ 256 then .ok { p with len := v }.next else .fault tcIllegal p)
    else if code = 2 then (if v < 32 then .ok { p with fpsr := BitVec.ofNat 5 v }.next else .fault tcIllegal p)
    else if code = 12 then (if gfpLegal v then .ok { p with gfp := v }.next else .fault tcIllegal p)
    else if qmLegal v then
      let m := BitVec.ofNat 2 (code - 8)
      let p' := if v = p.q m then p else p.reshare m v
      .ok { p' with qm := p'.qm.set m.toNat v m.isLt }.next
    else .fault tcIllegal p) p

/-- The bytes of a KLD: key part or context, with its tag, or the trap cause (R182, R210). The parts that exist: 0 the first
key's private part, 1 its public part, 2 and 3 those of the second key, 4 the named context. -/
def kldPart (p : Pvc) (part : Nat) : Option (List Byte) :=
  match part with
  | 0 => p.k1.map (·.1)
  | 1 => p.k1.map (·.2)
  | 2 => p.k2.map (·.1)
  | 3 => p.k2.map (·.2)
  | _ => if p.capBit 0 && p.parBit 3 then some p.src else none

/-- KLD (R182, R210): the range is checked against the part, the destination against its windows; the bytes arrive later, those of a
resident Classic McEliece key from the code-key cache. -/
def kldOp (part : Nat) (d a b : R5) (p : Pvc) : PRes :=
  let dst := (p.getS d).v.toNat
  let off := (p.getS a).v.toNat
  let n := (p.getS b).v.toNat
  let sec := part != 1 && part != 3
  let code := if part = 1 then p.c1 else if part = 3 then p.c2 else none
  if (p.getS d).t.isSome || (p.getS a).t.isSome || (p.getS b).t.isSome then .fault tcAddress p
  else match kldPart p part with
    | none => .fault tcCap p
    | some l =>
      if off + n > l.length then .fault tcKeyRange p
      else if !(if sec then p.kern.secret.has dst n else p.kern.work.has dst n || p.kern.input.has dst n) then
        .trap tcAccess 0 dst p
      else
        let p' := if sec then p.endVal else p
        .ok { p' with stall := some (.kld dst (slice l off n) sec code) }

/-- Lines that a write of n bytes at an address touches carry BOOL shares from then on (R180). -/
def Pvc.boolLines (p : Pvc) (a n : Nat) : Pvc :=
  { p with shares := p.shares.filter (fun x => decide (x.1 < a / 32) || decide (a + n ≤ x.1 * 32)) }

/-- The bytes of a KLD are there (R182). -/
def Pvc.kldDone (p : Pvc) (dst : Nat) (l : List Byte) : Pvc :=
  { (p.boolLines dst l.length) with mem := writeBytes p.mem dst l, stall := none }.next

/-- ENT's bytes go to Wd, tagged, BOOL (R183). -/
def Pvc.entDone (p : Pvc) (d : R5) (off : Nat) : Pvc :=
  { (p.setW d (BitVec.ofNat 256 (leNat (slice p.ent off 32))) (some .bool)) with stall := none }.next

/-- ENT (R182, R183, R210). -/
def entOp (d a b : R5) (p : Pvc) : PRes :=
  legal (b == 0) (fun p =>
    let off := (p.getS a).v.toNat
    if (p.getS a).t.isSome then .fault tcAddress p
    else if !p.capBit 1 then .fault tcCap p
    else if off % 32 ≠ 0 then .fault tcIllegal p
    else if off + 32 > (if p.test then p.ent.length else 4096) then .fault tcEntLimit p
    else if off + 32 > p.ent.length then .ok { p.endVal with stall := some (.ent d off) }
    else .ok (p.endVal.entDone d off)) p

/-- n recombined bytes of SECRET lines, each line by its own share type. -/
def Pvc.recombined (p : Pvc) (a n : Nat) : List Byte :=
  let first := a / 32
  let lines := (List.range ((a + n - 1) / 32 + 1 - first)).flatMap (fun i =>
    p.residues (some (p.lineType (32 * (first + i)))) (readBytes p.mem (32 * (first + i)) 32))
  slice lines (a % 32) n

/-- Recombined bytes to the OUTPUT window (R184). -/
def Pvc.dcl (p : Pvc) (dst : Nat) (l : List Byte) : PRes :=
  if p.capBit 0 && p.kern.output.has dst l.length then .ok { p.endVal with mem := writeBytes p.mem dst l }.next
  else .fault tcDeclassify p

/-- SLIDE (R177): aperture 0 is the input's, 1 the auxiliary one's; the window is refilled later. -/
def slideOp (d a b : R5) (p : Pvc) : PRes :=
  legal (d == 0 && (b == 0 || b == 1)) (fun p =>
    let off := (p.getS a).v.toNat
    if (p.getS a).t.isSome then .fault tcAddress p
    else if off % 32 ≠ 0 then .trap tcAccess 0 off p
    else .ok { p with stall := some (.slide (b == 1) off) }) p

/-- The refill of a SLIDE arrives (R177): the window holds as many bytes as it and the declared length allow, then zeros. -/
def Pvc.slideDone (p : Pvc) (aux : Bool) (off : Nat) (l : List Byte) : Pvc :=
  let win := if aux then p.kern.aux else p.kern.input
  let declared := if aux then p.auxLen else p.inLen
  let n := Nat.min win.size (declared - off)
  let p' := { p with mem := writeBytes p.mem win.base (fixLen win.size (fixLen n l)), stall := none }
  (if aux then { p' with auxSeg := (off, n) } else { p' with inSeg := (off, n) }).next

/-- NOP: the next instruction follows (R197: the all-zero word; a field that is not 0 is ILLEGAL). -/
def execNop (c : Nat) (d a b : R5) (s : State) : Host.Outcome State Fault Refusal :=
  pvcStep c (legal (d == 0 && a == 0 && b == 0) (fun p => .ok p.next)) s

/-- EXIT with byte count S[a] and code S[b] (R191). -/
def execExit (c : Nat) (d a b : R5) (s : State) : Host.Outcome State Fault Refusal :=
  pvcStep c (legal (d == 0) (exitOp a b)) s

/-- ERET: leave the handler and resume at TPC, element EPR; outside the handler ILLEGAL (R186, R211). At an
unaligned TPC the next instruction runs there (DESIGN CHOICE, log entry 157). -/
def execEret (c : Nat) (d a b : R5) (s : State) : Host.Outcome State Fault Refusal :=
  pvcStep c (legal (d == 0 && a == 0 && b == 0) (fun p =>
    if p.handler then .ok { p with pc := p.tpc, handler := false, resume := true } else .fault tcIllegal p)) s

/-- VALEND: the validation phase ends (R191). -/
def execValend (c : Nat) (d a b : R5) (s : State) : Host.Outcome State Fault Refusal :=
  pvcStep c (legal (d == 0 && a == 0 && b == 0) (fun p => .ok p.endVal.next)) s

/-- SETLEN.H: LEN and S[d] are the lesser of S[a] and 256 (R173). -/
def execSetlenH (c : Nat) (d a b : R5) (s : State) : Host.Outcome State Fault Refusal :=
  pvcStep c (setLen 256 d a b) s

/-- SETLEN.W: LEN and S[d] are the lesser of S[a] and 128 (R173). -/
def execSetlenW (c : Nat) (d a b : R5) (s : State) : Host.Outcome State Fault Refusal :=
  pvcStep c (setLen 128 d a b) s

/-- MFC: S[d] = the control register of code b; any other code is ILLEGAL (R209). -/
def execMfc (c : Nat) (d a b : R5) (s : State) : Host.Outcome State Fault Refusal :=
  pvcStep c (legal (a == 0) (fun p =>
    match p.control b.toNat with
    | some v => .ok (p.setS d v none).next
    | none => .fault tcIllegal p)) s

/-- MTC: the control register of code b = S[a] (R209). -/
def execMtc (c : Nat) (d a b : R5) (s : State) : Host.Outcome State Fault Refusal :=
  pvcStep c (mtcOp d a b) s

/-- SLIDE: refill the INPUT or AUX window from offset S[a] (R177). -/
def execSlide (c : Nat) (d a b : R5) (s : State) : Host.Outcome State Fault Refusal :=
  pvcStep c (slideOp d a b) s

/-- KLD.P1: bytes S[a] to S[a] + S[b] - 1 of the part go to address S[d] (R182, R210). -/
def execKldP1 (c : Nat) (d a b : R5) (s : State) : Host.Outcome State Fault Refusal :=
  pvcStep c (kldOp 0 d a b) s

/-- KLD.U1: bytes S[a] to S[a] + S[b] - 1 of the part go to address S[d] (R182, R210). -/
def execKldU1 (c : Nat) (d a b : R5) (s : State) : Host.Outcome State Fault Refusal :=
  pvcStep c (kldOp 1 d a b) s

/-- KLD.P2: bytes S[a] to S[a] + S[b] - 1 of the part go to address S[d] (R182, R210). -/
def execKldP2 (c : Nat) (d a b : R5) (s : State) : Host.Outcome State Fault Refusal :=
  pvcStep c (kldOp 2 d a b) s

/-- KLD.U2: bytes S[a] to S[a] + S[b] - 1 of the part go to address S[d] (R182, R210). -/
def execKldU2 (c : Nat) (d a b : R5) (s : State) : Host.Outcome State Fault Refusal :=
  pvcStep c (kldOp 3 d a b) s

/-- KLD.C: bytes S[a] to S[a] + S[b] - 1 of the part go to address S[d] (R182, R210). -/
def execKldC (c : Nat) (d a b : R5) (s : State) : Host.Outcome State Fault Refusal :=
  pvcStep c (kldOp 4 d a b) s

/-- ENT: Wd = 32 bytes of the entropy stream from offset S[a] (R183, R210). -/
def execEnt (c : Nat) (d a b : R5) (s : State) : Host.Outcome State Fault Refusal :=
  pvcStep c (entOp d a b) s

/-- DCL.W: the recombined Wb to the 32 OUTPUT bytes at S[a] (R184, R210). A tagged S[a] traps as the address of a store
does (DESIGN CHOICE, log entry 157). -/
def execDclW (c : Nat) (d a b : R5) (s : State) : Host.Outcome State Fault Refusal :=
  pvcStep c (legal (d == 0) (fun p =>
    if (p.getS a).t.isSome then .fault tcAddress p else p.dcl (p.getS a).v.toNat (p.residues (p.getW b).t (natLE 32 (p.getW b).v.toNat)))) s

/-- DCL.M: 32 × (b + 1) SECRET bytes from S[a], recombined, to OUTPUT at S[d] (R184, R210). -/
def execDclM (c : Nat) (d a b : R5) (s : State) : Host.Outcome State Fault Refusal :=
  pvcStep c (fun p =>
    let n := 32 * (b.toNat + 1)
    let src := (p.getS a).v.toNat
    if (p.getS d).t.isSome || (p.getS a).t.isSome then .fault tcAddress p
    else if !p.capBit 0 || !p.kern.output.has (p.getS d).v.toNat n then .fault tcDeclassify p
    else if !p.kern.secret.has src n then .trap tcAccess 0 src p
    else p.dcl (p.getS d).v.toNat (p.recombined src n)) s

/-- CTXST: 16 × (b + 1) SECRET bytes from S[a] to the named context (06, secret sources; R210). -/
def execCtxst (c : Nat) (d a b : R5) (s : State) : Host.Outcome State Fault Refusal :=
  pvcStep c (legal (d == 0 && decide (b.toNat ≤ 7)) (fun p =>
    let n := 16 * (b.toNat + 1)
    let src := (p.getS a).v.toNat
    if (p.getS a).t.isSome then .fault tcAddress p
    else if !p.capBit 2 || !p.parBit 4 then .fault tcCap p
    else if !p.kern.secret.has src n then .trap tcAccess 0 src p
    else .ok { p.endVal with ctxOut := some (p.recombined src n) }.next)) s

end Sys2Proof.Machine
end

