-- ==== Sys2Proof/Machine/Scalar.lean ====
section
/-!
DEFINITION. Scalar and control-flow instructions of the vector instruction set (spec file 07, R195, R199, R201, R216).
-/
namespace Sys2Proof.Machine
open Sys2Proof

/-- A word for a truth value. -/
def wBool (b : Bool) : Word := if b then 1 else 0

/-- The inverse of 2^w modulo an odd q: ((q + 1) / 2)^w. -/
def invPow2 (w q : Nat) : Nat := (((q + 1) / 2) ^ w) % q

/-- The high word of the product of two integers. -/
def hiWord (v : Int) : Word := BitVec.ofInt 32 (v >>> 32)

/-- ADD: d = a + b (R199). -/
def execAdd (c : Nat) (d a b : R5) (s : State) : Host.Outcome State Fault Refusal :=
  pvcStep c (sOp (fun x y => x + y) (some .arith) .arith false d a b) s

/-- SUB: d = a - b (R199). -/
def execSub (c : Nat) (d a b : R5) (s : State) : Host.Outcome State Fault Refusal :=
  pvcStep c (sOp (fun x y => x - y) (some .arith) .arith false d a b) s

/-- AND: d = a AND b (R199). -/
def execAnd (c : Nat) (d a b : R5) (s : State) : Host.Outcome State Fault Refusal :=
  pvcStep c (sOp (fun x y => x &&& y) (some .bool) .bool true d a b) s

/-- OR: d = a OR b (R199). -/
def execOr (c : Nat) (d a b : R5) (s : State) : Host.Outcome State Fault Refusal :=
  pvcStep c (sOp (fun x y => x ||| y) (some .bool) .bool true d a b) s

/-- XOR: d = a XOR b (R199). -/
def execXor (c : Nat) (d a b : R5) (s : State) : Host.Outcome State Fault Refusal :=
  pvcStep c (sOp (fun x y => x ^^^ y) (some .bool) .bool false d a b) s

/-- SLL: d = a shifted by the low 5 bits of b; a gadget where b is tagged (R199). -/
def execSll (c : Nat) (d a b : R5) (s : State) : Host.Outcome State Fault Refusal :=
  pvcStep c (fun p => sOp (fun x y => x <<< (y.toNat % 32)) (some .bool) .bool (p.getS b).t.isSome d a b p) s

/-- SRL: d = a shifted by the low 5 bits of b; a gadget where b is tagged (R199). -/
def execSrl (c : Nat) (d a b : R5) (s : State) : Host.Outcome State Fault Refusal :=
  pvcStep c (fun p => sOp (fun x y => x >>> (y.toNat % 32)) (some .bool) .bool (p.getS b).t.isSome d a b p) s

/-- SRA: d = a shifted by the low 5 bits of b; a gadget where b is tagged (R199). -/
def execSra (c : Nat) (d a b : R5) (s : State) : Host.Outcome State Fault Refusal :=
  pvcStep c (fun p => sOp (fun x y => x.sshiftRight (y.toNat % 32)) (some .bool) .bool (p.getS b).t.isSome d a b p) s

/-- SLT: d = 1 where a < b, signed (R199). -/
def execSlt (c : Nat) (d a b : R5) (s : State) : Host.Outcome State Fault Refusal :=
  pvcStep c (sOp (fun x y => wBool (x.slt y)) (some .bool) .bool true d a b) s

/-- SLTU: d = 1 where a < b, unsigned (R199). -/
def execSltu (c : Nat) (d a b : R5) (s : State) : Host.Outcome State Fault Refusal :=
  pvcStep c (sOp (fun x y => wBool (x.ult y)) (some .bool) .bool true d a b) s

/-- MUL: the low word of the product; a gadget where both operands are tagged (R181, R199). -/
def execMul (c : Nat) (d a b : R5) (s : State) : Host.Outcome State Fault Refusal :=
  pvcStep c (fun p => sOp (fun x y => x * y) (some .arith) .arith ((p.getS a).t.isSome && (p.getS b).t.isSome) d a b p) s

/-- MULH: the high word of the product; a gadget where both operands are tagged (R181, R199). -/
def execMulh (c : Nat) (d a b : R5) (s : State) : Host.Outcome State Fault Refusal :=
  pvcStep c (fun p => sOp (fun x y => hiWord (x.toInt * y.toInt)) (some .arith) .arith ((p.getS a).t.isSome && (p.getS b).t.isSome) d a b p) s

/-- MULHU: the high word of the product; a gadget where both operands are tagged (R181, R199). -/
def execMulhu (c : Nat) (d a b : R5) (s : State) : Host.Outcome State Fault Refusal :=
  pvcStep c (fun p => sOp (fun x y => hiWord ((x.toNat : Int) * y.toNat)) (some .arith) .arith ((p.getS a).t.isSome && (p.getS b).t.isSome) d a b p) s

/-- MIN: the lesser of a and b (R199). -/
def execMin (c : Nat) (d a b : R5) (s : State) : Host.Outcome State Fault Refusal :=
  pvcStep c (sOp (fun x y => (if x.slt y then x else y)) none .arith true d a b) s

/-- MAX: the greater of a and b (R199). -/
def execMax (c : Nat) (d a b : R5) (s : State) : Host.Outcome State Fault Refusal :=
  pvcStep c (sOp (fun x y => (if x.slt y then y else x)) none .arith true d a b) s

/-- MINU: the lesser of a and b (R199). -/
def execMinu (c : Nat) (d a b : R5) (s : State) : Host.Outcome State Fault Refusal :=
  pvcStep c (sOp (fun x y => (if x.ult y then x else y)) none .arith true d a b) s

/-- MAXU: the greater of a and b (R199). -/
def execMaxu (c : Nat) (d a b : R5) (s : State) : Host.Outcome State Fault Refusal :=
  pvcStep c (sOp (fun x y => (if x.ult y then y else x)) none .arith true d a b) s

/-- SLLI: d = a shifted by the number in field b (R199). -/
def execSlli (c : Nat) (d a b : R5) (s : State) : Host.Outcome State Fault Refusal :=
  pvcStep c (sImm (fun x => x <<< b.toNat) (some .bool) .bool false d a) s

/-- SRLI: d = a shifted by the number in field b (R199). -/
def execSrli (c : Nat) (d a b : R5) (s : State) : Host.Outcome State Fault Refusal :=
  pvcStep c (sImm (fun x => x >>> b.toNat) (some .bool) .bool false d a) s

/-- SRAI: d = a shifted by the number in field b (R199). -/
def execSrai (c : Nat) (d a b : R5) (s : State) : Host.Outcome State Fault Refusal :=
  pvcStep c (sImm (fun x => x.sshiftRight b.toNat) (some .bool) .bool false d a) s

/-- JR: pc = S[a]; a tagged target traps FLOW_BRANCH, a target that is no multiple of 4 ACCESS with TPC the target (R179, R195). -/
def execJr (c : Nat) (d a b : R5) (s : State) : Host.Outcome State Fault Refusal :=
  pvcStep c (legal (d == 0 && b == 0) (fun p =>
    let x := p.getS a
    if x.t.isSome then .fault tcBranch p
    else if x.v.toNat % 4 ≠ 0 then .jumpFault x.v p
    else .ok { p.next with pc := x.v })) s

/-- The scalar modular form (R201): both operands need ARITHQ of the register named, and so is the result. -/
def sMod (f : Nat → Nat → Nat → Nat → Nat) (one nonlin : Bool) (e : Bool) (m : BitVec 2) (d a b : R5) (p : Pvc) : PRes :=
  let w := eWidth e
  if !p.qOk m w then .fault tcIllegal p
  else
    let q := p.q m
    let g := fun (x y : Word) => BitVec.ofNat 32 (f w q (x.toNat % 2 ^ w) (y.toNat % 2 ^ w))
    if one then sImm (fun x => g x 0) (some (.arithq m)) (.arithq m) nonlin d a p
    else sOp g (some (.arithq m)) (.arithq m) nonlin d a b p

/-- ADDM of width 16 or 32 under QM register m (R201). -/
def execAddm (c : Nat) (e : Bool) (m : BitVec 2) (d a b : R5) (s : State) : Host.Outcome State Fault Refusal :=
  pvcStep c (sMod (fun _w q x y => (x + y) % q) false false e m d a b) s

/-- SUBM of width 16 or 32 under QM register m (R201). -/
def execSubm (c : Nat) (e : Bool) (m : BitVec 2) (d a b : R5) (s : State) : Host.Outcome State Fault Refusal :=
  pvcStep c (sMod (fun _w q x y => (x + (q - y % q)) % q) false false e m d a b) s

/-- MULM of width 16 or 32 under QM register m (R201). -/
def execMulm (c : Nat) (e : Bool) (m : BitVec 2) (d a b : R5) (s : State) : Host.Outcome State Fault Refusal :=
  pvcStep c (sMod (fun w q x y => (x * y * invPow2 w q) % q) false true e m d a b) s

/-- MULB of width 16 or 32 under QM register m (R201). -/
def execMulb (c : Nat) (e : Bool) (m : BitVec 2) (d a b : R5) (s : State) : Host.Outcome State Fault Refusal :=
  pvcStep c (sMod (fun _w q x y => (x * y) % q) false true e m d a b) s

/-- REDB: d = u(a) mod q; b is 0 (R201). -/
def execRedb (c : Nat) (e : Bool) (m : BitVec 2) (d a b : R5) (s : State) : Host.Outcome State Fault Refusal :=
  pvcStep c (legal (b == 0) (sMod (fun _w q x _y => x % q) true true e m d a b)) s

/-- ADDI: d = a + sext(imm16) (R199). -/
def execAddi (c : Nat) (d a : R5) (imm : BitVec 16) (s : State) : Host.Outcome State Fault Refusal :=
  pvcStep c (sImm (fun x => x + imm.signExtend 32) (some .arith) .arith false d a) s

/-- ANDI: d = a AND imm16 (R199). -/
def execAndi (c : Nat) (d a : R5) (imm : BitVec 16) (s : State) : Host.Outcome State Fault Refusal :=
  pvcStep c (sImm (fun x => x &&& imm.zeroExtend 32) (some .bool) .bool true d a) s

/-- ORI: d = a OR imm16 (R199). -/
def execOri (c : Nat) (d a : R5) (imm : BitVec 16) (s : State) : Host.Outcome State Fault Refusal :=
  pvcStep c (sImm (fun x => x ||| imm.zeroExtend 32) (some .bool) .bool true d a) s

/-- XORI: d = a XOR imm16 (R199). -/
def execXori (c : Nat) (d a : R5) (imm : BitVec 16) (s : State) : Host.Outcome State Fault Refusal :=
  pvcStep c (sImm (fun x => x ^^^ imm.zeroExtend 32) (some .bool) .bool false d a) s

/-- LUI: d = imm16 << 16; a is 0 (R199). -/
def execLui (c : Nat) (d a : R5) (imm : BitVec 16) (s : State) : Host.Outcome State Fault Refusal :=
  pvcStep c (legal (a == 0) (fun p => .ok (p.setS d (imm.zeroExtend 32 <<< 16) none).next)) s

/-- SLTI: d = 1 where a < sext(imm16), signed (R199). -/
def execSlti (c : Nat) (d a : R5) (imm : BitVec 16) (s : State) : Host.Outcome State Fault Refusal :=
  pvcStep c (sImm (fun x => wBool (x.slt (imm.signExtend 32))) (some .bool) .bool true d a) s

/-- LW: d = the 4 bytes at S[a] + sext(imm16), zero-extended; a tagged line tags d (R199). -/
def execLw (c : Nat) (d a : R5) (imm : BitVec 16) (s : State) : Host.Outcome State Fault Refusal :=
  pvcStep c (sLoad 4 (fun l t p => p.setS d (BitVec.ofNat 32 (leNat l)) t) a imm) s

/-- LH: d = the 2 bytes at S[a] + sext(imm16), sign-extended; a tagged line tags d (R199). -/
def execLh (c : Nat) (d a : R5) (imm : BitVec 16) (s : State) : Host.Outcome State Fault Refusal :=
  pvcStep c (sLoad 2 (fun l t p => p.setS d ((BitVec.ofNat 16 (leNat l)).signExtend 32) t) a imm) s

/-- LHU: d = the 2 bytes at S[a] + sext(imm16), zero-extended; a tagged line tags d (R199). -/
def execLhu (c : Nat) (d a : R5) (imm : BitVec 16) (s : State) : Host.Outcome State Fault Refusal :=
  pvcStep c (sLoad 2 (fun l t p => p.setS d (BitVec.ofNat 32 (leNat l)) t) a imm) s

/-- LBU: d = the 1 bytes at S[a] + sext(imm16), zero-extended; a tagged line tags d (R199). -/
def execLbu (c : Nat) (d a : R5) (imm : BitVec 16) (s : State) : Host.Outcome State Fault Refusal :=
  pvcStep c (sLoad 1 (fun l t p => p.setS d (BitVec.ofNat 32 (leNat l)) t) a imm) s

/-- SW: the low 4 bytes of S[d] to S[a] + sext(imm16) (R199, R179). -/
def execSw (c : Nat) (d a : R5) (imm : BitVec 16) (s : State) : Host.Outcome State Fault Refusal :=
  pvcStep c (fun p => sStore (natLE 4 (p.getS d).v.toNat) (p.getS d).t a imm p) s

/-- SH: the low 2 bytes of S[d] to S[a] + sext(imm16) (R199, R179). -/
def execSh (c : Nat) (d a : R5) (imm : BitVec 16) (s : State) : Host.Outcome State Fault Refusal :=
  pvcStep c (fun p => sStore (natLE 2 (p.getS d).v.toNat) (p.getS d).t a imm p) s

/-- SB: the low 1 bytes of S[d] to S[a] + sext(imm16) (R199, R179). -/
def execSb (c : Nat) (d a : R5) (imm : BitVec 16) (s : State) : Host.Outcome State Fault Refusal :=
  pvcStep c (fun p => sStore (natLE 1 (p.getS d).v.toNat) (p.getS d).t a imm p) s

/-- pc plus a signed number of words. -/
def Pvc.rel (p : Pvc) (off : Word) : Pvc := { p.next with pc := p.pc + off * 4 }

/-- A conditional branch: a tagged operand traps FLOW_BRANCH (R179, R216). -/
def branch (f : Word → Word → Bool) (a b : R5) (off : BitVec 16) (p : Pvc) : PRes :=
  let x := p.getS a
  let y := p.getS b
  if x.t.isSome || y.t.isSome then .fault tcBranch p
  else if f x.v y.v then .ok (p.rel (off.signExtend 32))
  else .ok p.next

/-- BEQ (R216). -/
def execBeq (c : Nat) (a b : R5) (off : BitVec 16) (s : State) : Host.Outcome State Fault Refusal :=
  pvcStep c (branch (fun x y => x == y) a b off) s

/-- BNE (R216). -/
def execBne (c : Nat) (a b : R5) (off : BitVec 16) (s : State) : Host.Outcome State Fault Refusal :=
  pvcStep c (branch (fun x y => x != y) a b off) s

/-- BLT (R216). -/
def execBlt (c : Nat) (a b : R5) (off : BitVec 16) (s : State) : Host.Outcome State Fault Refusal :=
  pvcStep c (branch (fun x y => x.slt y) a b off) s

/-- BGE (R216). -/
def execBge (c : Nat) (a b : R5) (off : BitVec 16) (s : State) : Host.Outcome State Fault Refusal :=
  pvcStep c (branch (fun x y => !x.slt y) a b off) s

/-- BLTU (R216). -/
def execBltu (c : Nat) (a b : R5) (off : BitVec 16) (s : State) : Host.Outcome State Fault Refusal :=
  pvcStep c (branch (fun x y => x.ult y) a b off) s

/-- BGEU (R216). -/
def execBgeu (c : Nat) (a b : R5) (off : BitVec 16) (s : State) : Host.Outcome State Fault Refusal :=
  pvcStep c (branch (fun x y => !x.ult y) a b off) s

/-- J: pc = pc + 4 × off26 (R216). -/
def execJ (c : Nat) (off : BitVec 26) (s : State) : Host.Outcome State Fault Refusal :=
  pvcStep c (fun p => .ok (p.rel (off.signExtend 32))) s

/-- JAL: S31 = pc + 4; pc = pc + 4 × off26 (R216). -/
def execJal (c : Nat) (off : BitVec 26) (s : State) : Host.Outcome State Fault Refusal :=
  pvcStep c (fun p => .ok ((p.setS 31 (p.pc + 4) none).rel (off.signExtend 32))) s

end Sys2Proof.Machine
end

