-- ==== Sys2Proof/Machine/VectorIns.lean ====
section
/-!
DEFINITION. Vector arithmetic, butterflies, compression, packing, comparisons and predicates (spec file 07, R198, R200 to R207;
R175).
-/
namespace Sys2Proof.Machine
open Sys2Proof

/-! Element operations (R200). -/

/-- sat_s and sat_u. -/
def satS (w : Nat) (v : Int) : Nat := wrap w (min (max v (-(2 ^ (w - 1)))) (2 ^ (w - 1) - 1))
def satU (w : Nat) (v : Int) : Nat := wrap w (min (max v 0) (2 ^ w - 1))

/-- The rounding shifts: k is the shift amount. -/
def vshrr (w x k : Nat) : Nat := if k = 0 then x else wrap w ((sgn w x + 2 ^ (k - 1)) >>> k)
def vshrru (w x k : Nat) : Nat := if k = 0 then x else ((x + 2 ^ (k - 1)) >>> k) % 2 ^ w
def vmulhr (w x y : Nat) : Nat := wrap w ((sgn w x * sgn w y + 2 ^ (w - 1)) >>> w)
def vqdmulhr (w x y : Nat) : Nat := satS w ((2 * sgn w x * sgn w y + 2 ^ (w - 1)) >>> w)
def vsra (w x k : Nat) : Nat := wrap w (sgn w x >>> k)

/-- The carry-less product of two numbers; fuel counts the bits of b. -/
def clmul (a b : Nat) : Nat → Nat
  | 0 => 0
  | n + 1 => (if b.testBit n then a <<< n else 0) ^^^ clmul a b n

/-- A polynomial reduced modulo g of degree m; fuel counts the degrees above. -/
def polyMod (g m : Nat) : Nat → Nat → Nat
  | 0, x => x
  | n + 1, x => polyMod g m n (if x.testBit (m + n) then x ^^^ (g <<< n) else x)

/-- The degree of GFP. -/
def gfpDeg (g : Nat) : Nat := g.log2

/-- vgfmul (R205). -/
def gfMul (g x y : Nat) : Nat :=
  let m := gfpDeg g
  polyMod g m 17 (clmul (x % 2 ^ m) (y % 2 ^ m) 16)

/-! Modular element operations (R201). -/
def modAdd (_w q x y : Nat) : Nat := (x + y) % q
def modSub (_w q x y : Nat) : Nat := (x + (q - y % q)) % q
def modNeg (_w q x _y : Nat) : Nat := (q - x % q) % q
def modMulm (w q x y : Nat) : Nat := (x * y * invPow2 w q) % q
def modMulb (_w q x y : Nat) : Nat := (x * y) % q
def modRedb (_w q x _y : Nat) : Nat := x % q
def modRedm (w q x _y : Nat) : Nat := (x * invPow2 w q) % q
def modReds (w q x _y : Nat) : Nat := (sgn w x % (q : Int)).toNat
/-- The signed centred residue; shares modulo q hold the residue itself (R180, R210). -/
def modCent (tagged : Bool) (w q x _y : Nat) : Nat :=
  let c := x % q
  if !tagged && decide (c > (q - 1) / 2) then wrap w ((c : Int) - q) else c

/-- A modular vector instruction (R201, R207); `gad` gives the mask bytes per register from the operands' tags. -/
def vMod (f : Bool → Nat → Nat → Nat → Nat → Nat) (unary : Bool) (gad : Tag → Tag → Nat) (m : BitVec 2) (d a b : R5) (pr : P3) (l e : Bool)
    (p : Pvc) : PRes :=
  let w := eWidth e
  if (unary && b != 0) || !p.qOk m w then .fault tcIllegal p
  else
    let n := p.regs l e
    let ta := p.spanTag a n
    let tb := if unary then none else p.spanTag b n
    let tagged := (p.pTag pr).isSome || ta.isSome || tb.isSome
    let q := p.q m
    let g := fun w (_ : Nat) xs => f tagged w q (el0 xs) (el1 xs)
    vecOp g (some (.arithq m)) (some (.arithq m)) (gad ta tb) [] l e pr d (if unary then [a] else [a, b]) p

/-- Mask bytes per register of a gadget, and of a product that needs one only with two tagged operands (R217). -/
def gadAll (_ _ : Tag) : Nat := 32
def gadNone (_ _ : Tag) : Nat := 0
def gadBoth (ta tb : Tag) : Nat := if ta.isSome && tb.isSome then 32 else 0

/-- Twiddle element i of width w from a local address (R202). -/
def Pvc.twiddle (p : Pvc) (w ad i : Nat) : Nat := leAt p.kern.twiddles (ad + i * (w / 8) - 0x80000) (w / 8)

/-- The butterflies (R202; TADDR of a bad twiddle range is its start, DESIGN CHOICE, log entry 157): f gives the new x and y from the old ones and the twiddle. -/
def butterfly (f : Nat → Nat → Nat → Nat → Nat → Nat × Nat) (m : BitVec 2) (d a b : R5) (pr : P3) (l e : Bool) (p : Pvc) : PRes :=
  let w := eWidth e
  let n := p.regs l e
  let ad := (p.getS b).v.toNat
  if !l || !p.qOk m w || overlap d n a n then .fault tcIllegal p
  else if p.spanBad l e n [d, a] then .fault tcSpan p
  else if (p.getS b).t.isSome then .fault tcAddress p
  else if p.len ≠ 0 ∧ (ad % (w / 8) ≠ 0 ∨ ad < 0x80000 ∨ ad + p.len * (w / 8) > 0x80000 + 0x1000 * p.kern.tables) then
    .trap tcAccess 0 ad p
  else
    let q := p.q m
    let tx := p.spanTag d n
    let ty := p.spanTag a n
    let t := mergeTag [p.pTag pr, tx, ty] (.arithq m)
    let r := fun i => f w q (p.elemAs (.arithq m) d w i) (p.elemAs (.arithq m) a w i) (p.twiddle w ad i)
    let on := fun i => i < p.len && p.pbit pr w i
    let p1 := p.putSpan d n w (pr != 0) (fun _ => t) (fun i => if on i then some (r i).1 else none)
    let p2 := p1.putSpan a n w (pr != 0) (fun _ => t) (fun i => if on i then some (r i).2 else none)
    .ok (p2.draw (32 * n * conversions [tx, ty] (.arithq m))).next

/-- Cooley-Tukey and Gentleman-Sande steps (R202). -/
def bfctStep (w q x y z : Nat) : Nat × Nat :=
  let t := (y * z * invPow2 w q) % q
  (modAdd w q x t, modSub w q x t)
def bfgsStep (w q x y z : Nat) : Nat × Nat := (modAdd w q x y, (modSub w q x y * z * invPow2 w q) % q)

/-- vcompr and vdecompr (R203). -/
def vcompr (q c x : Nat) : Nat := (x * 2 ^ c + (q - 1) / 2) / q % 2 ^ c
def vdecompr (q c x : Nat) : Nat := (q * (x % 2 ^ c) + 2 ^ (c - 1)) >>> c

/-- Compression: c outside 1 to w - 1 is ILLEGAL. -/
def comprOp (comp : Bool) (m : BitVec 2) (d a : R5) (pr : P3) (l e : Bool) (imm : BitVec 8) (p : Pvc) : PRes :=
  let w := eWidth e
  let c := imm.toNat
  let q := p.q m
  if c = 0 ∨ c ≥ w ∨ p.qOk m w = false then .fault tcIllegal p
  else if comp then vecOp (fun _ _ xs => vcompr q c (el0 xs)) (some (.arithq m)) (some .bool) 32 [] l e pr d [a] p
  else
    let tagged := (p.pTag pr).isSome || (p.spanTag a (p.regs l e)).isSome
    vecOp (fun _ _ xs => let v := vdecompr q c (el0 xs); if tagged then v % q else v) (some .bool) (some (.arithq m)) 32 [] l e pr d [a] p

/-- The bit string of c bits per element (R204). -/
def packBits (c : Nat) (l : List Nat) : Nat := l.foldr (fun x acc => x % 2 ^ c + 2 ^ c * acc) 0

/-- VPACK and VUNPACK (R204). -/
def packOp (pack : Bool) (d a : R5) (pr : P3) (l e : Bool) (imm : BitVec 8) (p : Pvc) : PRes :=
  let w := eWidth e
  let c := imm.toNat
  let n := p.regs l e
  let k := ceilDiv (p.len * c) 256
  let nd := if pack then k else n
  let na := if pack then n else k
  if !l || pr != 0 || decide (c = 0) || decide (c > w) || overlap d nd a na then .fault tcIllegal p
  else if p.spanBad l e nd [d] || p.spanBad l e na [a] then .fault tcSpan p
  else
    let ta := p.spanTag a na
    let t := mergeTag [ta] .bool
    let dr := 32 * n * conversions [ta] .bool
    if pack then
      let v := packBits c ((List.range p.len).map (p.elemAs .bool a w))
      .ok ((p.putSpan d nd 8 false (fun _ => t) (fun j => if j < ceilDiv (p.len * c) 8 then some ((v >>> (8 * j)) % 256) else none)).draw dr).next
    else
      let v := leNat (p.spanBytes .bool a na)
      .ok ((p.putSpan d nd w false (fun _ => t) (fun i => if i < p.len then some ((v >>> (i * c)) % 2 ^ c) else none)).draw dr).next

/-- A comparison writes the predicate bits of the elements it acts on; a 32-bit one writes both bits of an element (R175). A long one with
LEN at 0 writes nothing (R172). -/
def cmpOp (f : Nat → Nat → Nat → Bool) (d a b : R5) (pr : P3) (l e : Bool) (p : Pvc) : PRes :=
  let w := eWidth e
  let n := p.regs l e
  let cnt := p.count l e
  if d.toNat ≥ 8 then .fault tcIllegal p
  else if l && p.len == 0 then .ok p.next
  else if p.spanBad l e n [a, b] then .fault tcSpan p
  else
    let pd : P3 := d.truncate 3
    let old := p.getP pd
    let ts := [p.spanTag a n, p.spanTag b n]
    let per := w / 16
    let bits := (List.range 256).map (fun j =>
      let i := j / per
      if i < cnt && p.pbit pr w i then f w (p.elemAs .bool a w i) (p.elemAs .bool b w i) else old.v.getLsbD j)
    let v := BitVec.ofNat 256 (packBits 1 (bits.map b2n))
    let part := pr != 0 || decide (cnt * per < 256)
    let tg := (p.getP pr).t || ts.any (·.isSome) || (part && old.t)
    .ok ((p.setP pd v tg).draw (32 * n * conversions ts .bool + (if ts.any (·.isSome) || (p.getP pr).t then 32 * n else 0))).next

/-- Predicate logic on all 256 bits: fields name predicate registers. -/
def predOp (f : BitVec 256 → BitVec 256 → BitVec 256) (d a b : R5) (p : Pvc) : PRes :=
  if d.toNat ≥ 8 ∨ a.toNat ≥ 8 ∨ b.toNat ≥ 8 then .fault tcIllegal p
  else
    let x := p.getP (a.truncate 3)
    let y := p.getP (b.truncate 3)
    .ok (p.setP (d.truncate 3) (f x.v y.v) (x.t || y.t)).next

/-- VADD: wrapping add. -/
def execVadd (c : Nat) (d a b : R5) (p : P3) (l e : Bool) (s : State) : Host.Outcome State Fault Refusal :=
  pvcStep c (vecOp (fun _ _ xs => el0 xs + el1 xs) (some .arith) (some .arith) 0 [] l e p d [a, b]) s

/-- VSUB: wrapping subtract. -/
def execVsub (c : Nat) (d a b : R5) (p : P3) (l e : Bool) (s : State) : Host.Outcome State Fault Refusal :=
  pvcStep c (vecOp (fun w _ xs => el0 xs + (2 ^ w - el1 xs)) (some .arith) (some .arith) 0 [] l e p d [a, b]) s

/-- VSADD (R200). -/
def execVsadd (c : Nat) (d a b : R5) (p : P3) (l e : Bool) (s : State) : Host.Outcome State Fault Refusal :=
  pvcStep c (vecOp (fun w _ xs => satS w (sgn w (el0 xs) + sgn w (el1 xs))) none (some .arith) 32 [] l e p d [a, b]) s

/-- VSSUB (R200). -/
def execVssub (c : Nat) (d a b : R5) (p : P3) (l e : Bool) (s : State) : Host.Outcome State Fault Refusal :=
  pvcStep c (vecOp (fun w _ xs => satS w (sgn w (el0 xs) - sgn w (el1 xs))) none (some .arith) 32 [] l e p d [a, b]) s

/-- VSADDU (R200). -/
def execVsaddu (c : Nat) (d a b : R5) (p : P3) (l e : Bool) (s : State) : Host.Outcome State Fault Refusal :=
  pvcStep c (vecOp (fun w _ xs => satU w ((el0 xs : Int) + el1 xs)) none (some .arith) 32 [] l e p d [a, b]) s

/-- VSSUBU (R200). -/
def execVssubu (c : Nat) (d a b : R5) (p : P3) (l e : Bool) (s : State) : Host.Outcome State Fault Refusal :=
  pvcStep c (vecOp (fun w _ xs => satU w ((el0 xs : Int) - el1 xs)) none (some .arith) 32 [] l e p d [a, b]) s

/-- VMUL: the low w bits of the product. -/
def execVmul (c : Nat) (d a b : R5) (p : P3) (l e : Bool) (s : State) : Host.Outcome State Fault Refusal :=
  pvcStep c (fun q => vecOp (fun _ _ xs => el0 xs * el1 xs) (some .arith) (some .arith) (gadBoth (q.spanTag a (q.regs l e)) (q.spanTag b (q.regs l e))) [] l e p d [a, b] q) s

/-- VMULH (R200). -/
def execVmulh (c : Nat) (d a b : R5) (p : P3) (l e : Bool) (s : State) : Host.Outcome State Fault Refusal :=
  pvcStep c (vecOp (fun w _ xs => wrap w ((sgn w (el0 xs) * sgn w (el1 xs)) >>> w)) (some .arith) (some .arith) 32 [] l e p d [a, b]) s

/-- VMULHU (R200). -/
def execVmulhu (c : Nat) (d a b : R5) (p : P3) (l e : Bool) (s : State) : Host.Outcome State Fault Refusal :=
  pvcStep c (vecOp (fun w _ xs => (el0 xs * el1 xs) >>> w) (some .arith) (some .arith) 32 [] l e p d [a, b]) s

/-- VMULHR (R200). -/
def execVmulhr (c : Nat) (d a b : R5) (p : P3) (l e : Bool) (s : State) : Host.Outcome State Fault Refusal :=
  pvcStep c (vecOp (fun w _ xs => vmulhr w (el0 xs) (el1 xs)) none (some .arith) 32 [] l e p d [a, b]) s

/-- VQDMULHR (R200). -/
def execVqdmulhr (c : Nat) (d a b : R5) (p : P3) (l e : Bool) (s : State) : Host.Outcome State Fault Refusal :=
  pvcStep c (vecOp (fun w _ xs => vqdmulhr w (el0 xs) (el1 xs)) none (some .arith) 32 [] l e p d [a, b]) s

/-- VAND. -/
def execVand (c : Nat) (d a b : R5) (p : P3) (l e : Bool) (s : State) : Host.Outcome State Fault Refusal :=
  pvcStep c (vecOp (fun _ _ xs => el0 xs &&& el1 xs) (some .bool) (some .bool) 32 [] l e p d [a, b]) s

/-- VOR. -/
def execVor (c : Nat) (d a b : R5) (p : P3) (l e : Bool) (s : State) : Host.Outcome State Fault Refusal :=
  pvcStep c (vecOp (fun _ _ xs => el0 xs ||| el1 xs) (some .bool) (some .bool) 32 [] l e p d [a, b]) s

/-- VXOR. -/
def execVxor (c : Nat) (d a b : R5) (p : P3) (l e : Bool) (s : State) : Host.Outcome State Fault Refusal :=
  pvcStep c (vecOp (fun _ _ xs => el0 xs ^^^ el1 xs) (some .bool) (some .bool) 0 [] l e p d [a, b]) s

/-- VANDN: a AND NOT b. -/
def execVandn (c : Nat) (d a b : R5) (p : P3) (l e : Bool) (s : State) : Host.Outcome State Fault Refusal :=
  pvcStep c (vecOp (fun w _ xs => el0 xs &&& (el1 xs ^^^ (2 ^ w - 1))) (some .bool) (some .bool) 32 [] l e p d [a, b]) s

/-- VSHL: a shifted by u(b) mod w; a gadget where b is tagged. -/
def execVshl (c : Nat) (d a b : R5) (p : P3) (l e : Bool) (s : State) : Host.Outcome State Fault Refusal :=
  pvcStep c (fun q => vecOp (fun w _ xs => el0 xs <<< (el1 xs % w)) (some .bool) (some .bool) (if (q.spanTag b (q.regs l e)).isSome then 32 else 0) [] l e p d [a, b] q) s

/-- VSHR: a shifted by u(b) mod w; a gadget where b is tagged. -/
def execVshr (c : Nat) (d a b : R5) (p : P3) (l e : Bool) (s : State) : Host.Outcome State Fault Refusal :=
  pvcStep c (fun q => vecOp (fun w _ xs => el0 xs >>> (el1 xs % w)) (some .bool) (some .bool) (if (q.spanTag b (q.regs l e)).isSome then 32 else 0) [] l e p d [a, b] q) s

/-- VSRA: a shifted by u(b) mod w; a gadget where b is tagged. -/
def execVsra (c : Nat) (d a b : R5) (p : P3) (l e : Bool) (s : State) : Host.Outcome State Fault Refusal :=
  pvcStep c (fun q => vecOp (fun w _ xs => vsra w (el0 xs) (el1 xs % w)) (some .bool) (some .bool) (if (q.spanTag b (q.regs l e)).isSome then 32 else 0) [] l e p d [a, b] q) s

/-- VSHRR: k is u(b) mod w (R200). -/
def execVshrr (c : Nat) (d a b : R5) (p : P3) (l e : Bool) (s : State) : Host.Outcome State Fault Refusal :=
  pvcStep c (vecOp (fun w _ xs => vshrr w (el0 xs) (el1 xs % w)) none (some .arith) 32 [] l e p d [a, b]) s

/-- VSHRRU: k is u(b) mod w (R200). -/
def execVshrru (c : Nat) (d a b : R5) (p : P3) (l e : Bool) (s : State) : Host.Outcome State Fault Refusal :=
  pvcStep c (vecOp (fun w _ xs => vshrru w (el0 xs) (el1 xs % w)) none (some .arith) 32 [] l e p d [a, b]) s

/-- VMIN, signed. -/
def execVmin (c : Nat) (d a b : R5) (p : P3) (l e : Bool) (s : State) : Host.Outcome State Fault Refusal :=
  pvcStep c (vecOp (fun w _ xs => if sgn w (el0 xs) ≤ sgn w (el1 xs) then el0 xs else el1 xs) none (some .arith) 32 [] l e p d [a, b]) s

/-- VMAX, signed. -/
def execVmax (c : Nat) (d a b : R5) (p : P3) (l e : Bool) (s : State) : Host.Outcome State Fault Refusal :=
  pvcStep c (vecOp (fun w _ xs => if sgn w (el0 xs) ≤ sgn w (el1 xs) then el1 xs else el0 xs) none (some .arith) 32 [] l e p d [a, b]) s

/-- VMINU. -/
def execVminu (c : Nat) (d a b : R5) (p : P3) (l e : Bool) (s : State) : Host.Outcome State Fault Refusal :=
  pvcStep c (vecOp (fun _ _ xs => Nat.min (el0 xs) (el1 xs)) none (some .arith) 32 [] l e p d [a, b]) s

/-- VMAXU. -/
def execVmaxu (c : Nat) (d a b : R5) (p : P3) (l e : Bool) (s : State) : Host.Outcome State Fault Refusal :=
  pvcStep c (vecOp (fun _ _ xs => Nat.max (el0 xs) (el1 xs)) none (some .arith) 32 [] l e p d [a, b]) s

/-- VSEL's element: a where the predicate bit is set, else b, converted to the share type of a (R207). -/
def selElem (q : Pvc) (ta tb : Tag) (x y : Nat) (on : Bool) : Nat :=
  if on then x
  else match ta with
    | some (.arithq m) => if tb.isSome && tb != ta && decide (q.q m ≠ 0) then y % q.q m else y
    | _ => y

/-- VSEL: d = p ? a : b for all elements; the predicate selects and does not mask (R175, R207). -/
def execVsel (c : Nat) (d a b : R5) (p : P3) (l e : Bool) (s : State) : Host.Outcome State Fault Refusal :=
  pvcStep c (fun q =>
    let n := q.regs l e
    let ta := q.spanTag a n
    let tb := q.spanTag b n
    vecOp (fun w i xs => selElem q ta tb (el0 xs) (el1 xs) (q.pbit p w i)) ta none 0 [q.pTag p] l e 0 d [a, b] q) s

/-- VMOV: d = a; b is 0. -/
def execVmov (c : Nat) (d a b : R5) (p : P3) (l e : Bool) (s : State) : Host.Outcome State Fault Refusal :=
  pvcStep c (legal (b == 0) (vecOp (fun _ _ xs => el0 xs) none none 0 [] l e p d [a])) s

/-- VSPLAT: every element is the low w bits of S[a]; b is 0. -/
def execVsplat (c : Nat) (d a b : R5) (p : P3) (l e : Bool) (s : State) : Host.Outcome State Fault Refusal :=
  pvcStep c (legal (b == 0) (fun q =>
    vecOp (fun _ _ _ => (q.getS a).v.toNat) none none 0 [(q.getS a).t] l e p d [] q)) s

/-- VEXT: S[d] = u(lane b of Wa); short-only. A lane the register does not have gives a free value (log entry 27). No element of a
vector is written, so the predicate has nothing to keep; its tag joins the result's (R178). -/
def execVext (c : Nat) (d a b : R5) (p : P3) (l e : Bool) (s : State) : Host.Outcome State Fault Refusal :=
  pvcStep c (legal (!l) (fun q =>
    let w := eWidth e
    let x := q.getW a
    let v := if b.toNat < 256 / w then BitVec.ofNat 32 (lane x.v w b.toNat) else Config.laneBeyond x.v w b.toNat
    .ok (q.setS d v (mergeTag [x.t, q.pTag p] (firstType [x.t]))).next)) s

/-- VINS: lane b of Wd = the low w bits of S[a], where the predicate allows; short-only (log entry 27 for a lane beyond). -/
def execVins (c : Nat) (d a b : R5) (p : P3) (l e : Bool) (s : State) : Host.Outcome State Fault Refusal :=
  pvcStep c (legal (!l) (fun q =>
    let w := eWidth e
    let x := q.getS a
    let t := mergeTag [x.t, q.pTag p] (firstType [x.t])
    if b.toNat < 256 / w then
      .ok (q.putReg d w true t (fun j => if j = b.toNat && q.pbit p w j then some (x.v.toNat % 2 ^ w) else none)).next
    else
      let old := q.getW d
      .ok (q.setW d (Config.insBeyond old.v w b.toNat x.v) (if t.isSome then t else old.t)).next)) s

/-- VCLMUL: E = 1 (R205). -/
def execVclmul (c : Nat) (d a b : R5) (p : P3) (l e : Bool) (s : State) : Host.Outcome State Fault Refusal :=
  pvcStep c (legal (e) (vecOp (fun _ _ xs => clmul (el0 xs % 2 ^ 16) (el1 xs % 2 ^ 16) 16) (some .bool) (some .bool) 32 [] l e p d [a, b])) s

/-- VGFMUL: E = 0; GFP must be set (R169, R205). -/
def execVgfmul (c : Nat) (d a b : R5) (p : P3) (l e : Bool) (s : State) : Host.Outcome State Fault Refusal :=
  pvcStep c (fun q => legal (!e && decide (q.gfp ≠ 0))
    (vecOp (fun _ _ xs => gfMul q.gfp (el0 xs) (el1 xs)) (some .bool) (some .bool) 32 [] l e p d [a, b]) q) s

/-- VA2B: the value unchanged, BOOL shares; b is 0 (R206). -/
def execVa2b (c : Nat) (d a b : R5) (p : P3) (l e : Bool) (s : State) : Host.Outcome State Fault Refusal :=
  pvcStep c (legal (b == 0) (vecOp (fun _ _ xs => el0 xs) none (some .bool) 32 [] l e p d [a])) s

/-- VB2A: the value unchanged, ARITH shares; b is 0 (R206). -/
def execVb2a (c : Nat) (d a b : R5) (p : P3) (l e : Bool) (s : State) : Host.Outcome State Fault Refusal :=
  pvcStep c (legal (b == 0) (vecOp (fun _ _ xs => el0 xs) none (some .arith) 32 [] l e p d [a])) s

/-- VB2AQ: u(a) mod q, shares modulo the QM register named; b is 0 (R206). -/
def execVb2aq (c : Nat) (m : BitVec 2) (d a b : R5) (p : P3) (l e : Bool) (s : State) : Host.Outcome State Fault Refusal :=
  pvcStep c (fun q => legal (b == 0 && q.qOk m (eWidth e))
    (vecOp (fun _ _ xs => el0 xs % q.q m) none (some (.arithq m)) 32 [] l e p d [a]) q) s

/-- VADDI: a + sext(imm8). -/
def execVaddi (c : Nat) (d a : R5) (p : P3) (l e : Bool) (imm : BitVec 8) (s : State) : Host.Outcome State Fault Refusal :=
  pvcStep c (vecOp (fun w _ xs => wrap w ((el0 xs : Int) + imm.toInt)) (some .arith) (some .arith) 0 [] l e p d [a]) s

/-- VSHLI: a shifted left by imm8 mod w. -/
def execVshli (c : Nat) (d a : R5) (p : P3) (l e : Bool) (imm : BitVec 8) (s : State) : Host.Outcome State Fault Refusal :=
  pvcStep c (vecOp (fun w _ xs => el0 xs <<< (imm.toNat % w)) (some .bool) (some .bool) 0 [] l e p d [a]) s

/-- VSHRI: a shifted right by imm8 mod w. -/
def execVshri (c : Nat) (d a : R5) (p : P3) (l e : Bool) (imm : BitVec 8) (s : State) : Host.Outcome State Fault Refusal :=
  pvcStep c (vecOp (fun w _ xs => el0 xs >>> (imm.toNat % w)) (some .bool) (some .bool) 0 [] l e p d [a]) s

/-- VSRAI: a shifted right arithmetically by imm8 mod w. -/
def execVsrai (c : Nat) (d a : R5) (p : P3) (l e : Bool) (imm : BitVec 8) (s : State) : Host.Outcome State Fault Refusal :=
  pvcStep c (vecOp (fun w _ xs => vsra w (el0 xs) (imm.toNat % w)) (some .bool) (some .bool) 0 [] l e p d [a]) s

/-- VSHRRI (R200). -/
def execVshrri (c : Nat) (d a : R5) (p : P3) (l e : Bool) (imm : BitVec 8) (s : State) : Host.Outcome State Fault Refusal :=
  pvcStep c (vecOp (fun w _ xs => vshrr w (el0 xs) (imm.toNat % w)) none (some .arith) 32 [] l e p d [a]) s

/-- VSHRRUI (R200). -/
def execVshrrui (c : Nat) (d a : R5) (p : P3) (l e : Bool) (imm : BitVec 8) (s : State) : Host.Outcome State Fault Refusal :=
  pvcStep c (vecOp (fun w _ xs => vshrru w (el0 xs) (imm.toNat % w)) none (some .arith) 32 [] l e p d [a]) s

/-- VSPLATI: every element is sext(imm8); a is 0. -/
def execVsplati (c : Nat) (d a : R5) (p : P3) (l e : Bool) (imm : BitVec 8) (s : State) : Host.Outcome State Fault Refusal :=
  pvcStep c (legal (a == 0) (vecOp (fun w _ _ => wrap w imm.toInt) none none 0 [] l e p d [])) s

/-- VANDI: a AND imm8. -/
def execVandi (c : Nat) (d a : R5) (p : P3) (l e : Bool) (imm : BitVec 8) (s : State) : Host.Outcome State Fault Refusal :=
  pvcStep c (vecOp (fun _ _ xs => el0 xs &&& imm.toNat) (some .bool) (some .bool) 32 [] l e p d [a]) s

/-- VCMP.EQ (R175). -/
def execVcmpEq (c : Nat) (d a b : R5) (p : P3) (l e : Bool) (s : State) : Host.Outcome State Fault Refusal :=
  pvcStep c (cmpOp (fun _ x y => x == y) d a b p l e) s

/-- VCMP.NE (R175). -/
def execVcmpNe (c : Nat) (d a b : R5) (p : P3) (l e : Bool) (s : State) : Host.Outcome State Fault Refusal :=
  pvcStep c (cmpOp (fun _ x y => x != y) d a b p l e) s

/-- VCMP.LT (R175). -/
def execVcmpLt (c : Nat) (d a b : R5) (p : P3) (l e : Bool) (s : State) : Host.Outcome State Fault Refusal :=
  pvcStep c (cmpOp (fun w x y => decide (sgn w x < sgn w y)) d a b p l e) s

/-- VCMP.GE (R175). -/
def execVcmpGe (c : Nat) (d a b : R5) (p : P3) (l e : Bool) (s : State) : Host.Outcome State Fault Refusal :=
  pvcStep c (cmpOp (fun w x y => decide (sgn w y ≤ sgn w x)) d a b p l e) s

/-- VCMP.LTU (R175). -/
def execVcmpLtu (c : Nat) (d a b : R5) (p : P3) (l e : Bool) (s : State) : Host.Outcome State Fault Refusal :=
  pvcStep c (cmpOp (fun _ x y => decide (x < y)) d a b p l e) s

/-- VCMP.GEU (R175). -/
def execVcmpGeu (c : Nat) (d a b : R5) (p : P3) (l e : Bool) (s : State) : Host.Outcome State Fault Refusal :=
  pvcStep c (cmpOp (fun _ x y => decide (y ≤ x)) d a b p l e) s

/-- VADDM under QM register m (R201). -/
def execVaddm (c : Nat) (m : BitVec 2) (d a b : R5) (p : P3) (l e : Bool) (s : State) : Host.Outcome State Fault Refusal :=
  pvcStep c (vMod (fun _ => modAdd) false gadNone m d a b p l e) s

/-- VSUBM under QM register m (R201). -/
def execVsubm (c : Nat) (m : BitVec 2) (d a b : R5) (p : P3) (l e : Bool) (s : State) : Host.Outcome State Fault Refusal :=
  pvcStep c (vMod (fun _ => modSub) false gadNone m d a b p l e) s

/-- VNEGM under QM register m (R201). -/
def execVnegm (c : Nat) (m : BitVec 2) (d a b : R5) (p : P3) (l e : Bool) (s : State) : Host.Outcome State Fault Refusal :=
  pvcStep c (vMod (fun _ => modNeg) true gadNone m d a b p l e) s

/-- VMULM under QM register m (R201). -/
def execVmulm (c : Nat) (m : BitVec 2) (d a b : R5) (p : P3) (l e : Bool) (s : State) : Host.Outcome State Fault Refusal :=
  pvcStep c (vMod (fun _ => modMulm) false gadBoth m d a b p l e) s

/-- VMULB under QM register m (R201). -/
def execVmulb (c : Nat) (m : BitVec 2) (d a b : R5) (p : P3) (l e : Bool) (s : State) : Host.Outcome State Fault Refusal :=
  pvcStep c (vMod (fun _ => modMulb) false gadAll m d a b p l e) s

/-- VREDB under QM register m (R201). -/
def execVredb (c : Nat) (m : BitVec 2) (d a b : R5) (p : P3) (l e : Bool) (s : State) : Host.Outcome State Fault Refusal :=
  pvcStep c (vMod (fun _ => modRedb) true gadAll m d a b p l e) s

/-- VREDM under QM register m (R201). -/
def execVredm (c : Nat) (m : BitVec 2) (d a b : R5) (p : P3) (l e : Bool) (s : State) : Host.Outcome State Fault Refusal :=
  pvcStep c (vMod (fun _ => modRedm) true gadAll m d a b p l e) s

/-- VREDS under QM register m (R201). -/
def execVreds (c : Nat) (m : BitVec 2) (d a b : R5) (p : P3) (l e : Bool) (s : State) : Host.Outcome State Fault Refusal :=
  pvcStep c (vMod (fun _ => modReds) true gadAll m d a b p l e) s

/-- VCENT under QM register m (R201). -/
def execVcent (c : Nat) (m : BitVec 2) (d a b : R5) (p : P3) (l e : Bool) (s : State) : Host.Outcome State Fault Refusal :=
  pvcStep c (vMod modCent true gadAll m d a b p l e) s

/-- BFCT: the Cooley-Tukey butterfly (R202). -/
def execBfct (c : Nat) (m : BitVec 2) (d a b : R5) (p : P3) (l e : Bool) (s : State) : Host.Outcome State Fault Refusal :=
  pvcStep c (butterfly bfctStep m d a b p l e) s

/-- BFGS: the Gentleman-Sande butterfly (R202). -/
def execBfgs (c : Nat) (m : BitVec 2) (d a b : R5) (p : P3) (l e : Bool) (s : State) : Host.Outcome State Fault Refusal :=
  pvcStep c (butterfly bfgsStep m d a b p l e) s

/-- VCOMPR (R203). -/
def execVcompr (c : Nat) (m : BitVec 2) (d a : R5) (p : P3) (l e : Bool) (imm : BitVec 8) (s : State) : Host.Outcome State Fault Refusal :=
  pvcStep c (comprOp true m d a p l e imm) s

/-- VDECOMPR (R203). -/
def execVdecompr (c : Nat) (m : BitVec 2) (d a : R5) (p : P3) (l e : Bool) (imm : BitVec 8) (s : State) : Host.Outcome State Fault Refusal :=
  pvcStep c (comprOp false m d a p l e imm) s

/-- VPACK (R204). -/
def execVpack (c : Nat) (d a : R5) (p : P3) (l e : Bool) (imm : BitVec 8) (s : State) : Host.Outcome State Fault Refusal :=
  pvcStep c (packOp true d a p l e imm) s

/-- VUNPACK (R204). -/
def execVunpack (c : Nat) (d a : R5) (p : P3) (l e : Bool) (imm : BitVec 8) (s : State) : Host.Outcome State Fault Refusal :=
  pvcStep c (packOp false d a p l e imm) s

/-- PAND on all 256 bits; the fields p, L and E select nothing. -/
def execPand (c : Nat) (d a b : R5) (_p : P3) (_l _e : Bool) (s : State) : Host.Outcome State Fault Refusal :=
  pvcStep c (predOp (fun x y => x &&& y) d a b) s

/-- POR on all 256 bits; the fields p, L and E select nothing. -/
def execPor (c : Nat) (d a b : R5) (_p : P3) (_l _e : Bool) (s : State) : Host.Outcome State Fault Refusal :=
  pvcStep c (predOp (fun x y => x ||| y) d a b) s

/-- PXOR on all 256 bits; the fields p, L and E select nothing. -/
def execPxor (c : Nat) (d a b : R5) (_p : P3) (_l _e : Bool) (s : State) : Host.Outcome State Fault Refusal :=
  pvcStep c (predOp (fun x y => x ^^^ y) d a b) s

/-- PANDN on all 256 bits; the fields p, L and E select nothing. -/
def execPandn (c : Nat) (d a b : R5) (_p : P3) (_l _e : Bool) (s : State) : Host.Outcome State Fault Refusal :=
  pvcStep c (predOp (fun x y => x &&& ~~~ y) d a b) s

/-- PLEN: Pd = the bits of elements below LEN, under E; a and b are 0. -/
def execPlen (c : Nat) (d a b : R5) (_p : P3) (_l e : Bool) (s : State) : Host.Outcome State Fault Refusal :=
  pvcStep c (legal (a == 0 && b == 0 && decide (d.toNat < 8)) (fun q =>
    .ok (q.setP (d.truncate 3) (BitVec.ofNat 256 (2 ^ (q.len * (eWidth e / 16)) - 1)) false).next)) s

/-- PCNT: S[d] = set elements of Pa below LEN, or among all lanes when short; b is 0. -/
def execPcnt (c : Nat) (d a b : R5) (_p : P3) (l e : Bool) (s : State) : Host.Outcome State Fault Refusal :=
  pvcStep c (legal (b == 0 && decide (a.toNat < 8)) (fun q =>
    let pa : P3 := a.truncate 3
    if q.spanBad l e 0 [] then .fault tcSpan q
    else
      let n := ((List.range (q.count l e)).filter (fun i => q.pbit pa (eWidth e) i)).length
      .ok (q.setS d (BitVec.ofNat 32 n) (q.pTag pa)).next)) s

end Sys2Proof.Machine
end

