-- ==== Sys2Proof/Machine/VecMem.lean ====
section
/-!
DEFINITION. Vector memory, sponge units and rejection sampling (spec file 07, R212 to R215; 06, R166, R167).
-/
namespace Sys2Proof.Machine
open Sys2Proof

/-! Addresses (R212): all modulo 2^32. -/

/-- VLD and VST: S[a] + 32 × off11, stepping by w/8. -/
def contigAddr (base : Nat) (off : BitVec 11) (w i : Nat) : Nat :=
  (BitVec.ofNat 32 base + off.signExtend 32 * 32 + BitVec.ofNat 32 (i * (w / 8))).toNat

/-- VLDB and VSTB: blocks of h elements, 2h apart. -/
def blockAddr (base h w i : Nat) : Nat := (base + w / 8 * (i / h * (2 * h) + i % h)) % 2 ^ 32

/-- VGATH and VSCAT. -/
def indexAddr (base w idx : Nat) : Nat := (base + w / 8 * idx) % 2 ^ 32

/-- h is a power of two from 1 to 128. -/
def hLegal (h : Nat) : Bool := [1, 2, 4, 8, 16, 32, 64, 128].contains h

/-- The checks before the first element: SPAN, tagged addresses, a tagged predicate of a store, gather or scatter (R172, R179). -/
def vmemGuard (l e : Bool) (bases : List R5) (addrTags : List Tag) (predStore : Bool) (k : Pvc → PRes) (p : Pvc) : PRes :=
  if p.spanBad l e (p.regs l e) bases then .fault tcSpan p
  else if addrTags.any (·.isSome) then .fault tcAddress p
  else if predStore then .fault tcStore p
  else k p

/-- VLD: the LEN elements at S[a] + 32 × off11 on (R212). -/
def execVld (c : Nat) (d a : R5) (p : P3) (l e : Bool) (off : BitVec 11) (s : State) : Host.Outcome State Fault Refusal :=
  pvcStep c (fun q => vmemGuard l e [d] [(q.getS a).t] false
    (vLoad (contigAddr (q.getS a).v.toNat off (eWidth e)) l e p d) q) s

/-- VST (R213). -/
def execVst (c : Nat) (d a : R5) (p : P3) (l e : Bool) (off : BitVec 11) (s : State) : Host.Outcome State Fault Refusal :=
  pvcStep c (fun q => vmemGuard l e [d] [(q.getS a).t] (q.getP p).t
    (vStore (contigAddr (q.getS a).v.toNat off (eWidth e)) l e p d) q) s

/-- VLDB: h = u(S[b]) outside the powers of two to 128 is ILLEGAL (R212). -/
def execVldb (c : Nat) (d a b : R5) (p : P3) (l e : Bool) (s : State) : Host.Outcome State Fault Refusal :=
  pvcStep c (fun q => vmemGuard l e [d] [(q.getS a).t, (q.getS b).t] false
    (legal (hLegal (q.getS b).v.toNat) (vLoad (blockAddr (q.getS a).v.toNat (q.getS b).v.toNat (eWidth e)) l e p d)) q) s

/-- VSTB. -/
def execVstb (c : Nat) (d a b : R5) (p : P3) (l e : Bool) (s : State) : Host.Outcome State Fault Refusal :=
  pvcStep c (fun q => vmemGuard l e [d] [(q.getS a).t, (q.getS b).t] (q.getP p).t
    (legal (hLegal (q.getS b).v.toNat) (vStore (blockAddr (q.getS a).v.toNat (q.getS b).v.toNat (eWidth e)) l e p d)) q) s

/-- VGATH: an index span that overlaps the data span is ILLEGAL (R212). -/
def execVgath (c : Nat) (d a b : R5) (p : P3) (l e : Bool) (s : State) : Host.Outcome State Fault Refusal :=
  pvcStep c (fun q =>
    let n := q.regs l e
    let w := eWidth e
    legal (!overlap d n b n) (vmemGuard l e [d, b] [(q.getS a).t, q.spanTag b n] (q.getP p).t
      (vLoad (fun i => indexAddr (q.getS a).v.toNat w (q.elem b w i)) l e p d)) q) s

/-- VSCAT: elements in ascending order, so that the higher index prevails at one address (R213). -/
def execVscat (c : Nat) (d a b : R5) (p : P3) (l e : Bool) (s : State) : Host.Outcome State Fault Refusal :=
  pvcStep c (fun q =>
    let n := q.regs l e
    let w := eWidth e
    legal (!overlap d n b n) (vmemGuard l e [d, b] [(q.getS a).t, q.spanTag b n] (q.getP p).t
      (vStore (fun i => indexAddr (q.getS a).v.toNat w (q.elem b w i)) l e p d)) q) s

/-! Sponge units (R166, R167, R214). -/

/-- The rate of a rate code and the byte of a domain code. -/
def rateOf : Nat → Option Nat
  | 0 => some 168
  | 1 => some 136
  | 2 => some 144
  | 3 => some 104
  | 4 => some 72
  | _ => none
def domainOf : Nat → Option Byte
  | 0 => some 0x06
  | 1 => some 0x1F
  | 2 => some 0x04
  | _ => none

/-- A unit just claimed: zero state. -/
def Sponge.fresh (rate : Nat) : Sponge := { rate := rate, pos := 0, squeeze := false, st := zeros 200, tagged := false }

/-- Unit u of a run. -/
def Pvc.unit (p : Pvc) (u : Bool) : Option Sponge := p.sp[(b2n u)]'(by cases u <;> decide)
def Pvc.setUnit (p : Pvc) (u : Bool) (x : Option Sponge) : Pvc := { p with sp := p.sp.set (b2n u) x (by cases u <;> decide) }

/-- The permutation. -/
def Sponge.perm (x : Sponge) : Sponge := { x with st := keccakF x.st }

/-- One byte absorbed: the state is permuted when the position reaches the rate. -/
def Sponge.absorb1 (x : Sponge) (b : Byte) : Sponge :=
  let y := { x with st := x.st.modify x.pos (· ^^^ b), pos := x.pos + 1 }
  if y.pos = y.rate then { y.perm with pos := 0 } else y

def Sponge.absorb (x : Sponge) (l : List Byte) : Sponge := l.foldl Sponge.absorb1 x

/-- SFIN: the domain byte at the position, 0x80 at the end of the rate, one permutation. -/
def Sponge.finish (x : Sponge) (dom : Byte) : Sponge :=
  let st := (x.st.modify x.pos (· ^^^ dom)).modify (x.rate - 1) (· ^^^ 0x80)
  { ({ x with st := st } : Sponge).perm with pos := 0, squeeze := true }

/-- n squeezed bytes: the state is permuted before bytes are taken at the rate. -/
def Sponge.take (x : Sponge) : Nat → List Byte × Sponge
  | 0 => ([], x)
  | n + 1 =>
    let y := if x.pos = x.rate then { x.perm with pos := 0 } else x
    let r := Sponge.take { y with pos := y.pos + 1 } n
    (y.st.getD y.pos 0 :: r.1, r.2)

/-- Field d names unit 0 or 1; unit 1 needs SPONGE_PAIR (R214). -/
def unitField (d : R5) (k : Bool → Pvc → PRes) (p : Pvc) : PRes :=
  if d.toNat ≥ 2 then .fault tcIllegal p
  else if d == 1 && !p.kern.caps.testBit 3 then .fault tcCap p
  else k (d == 1) p

/-- A claim of units (R166, R214): granted at once where the cluster has them free and no earlier claim waits, else it waits. A run
that holds a unit may not claim another (log entry 33). -/
def claimOp (avail : Nat) (us : List Bool) (b : R5) (p : Pvc) : PRes :=
  match rateOf b.toNat with
  | none => .fault tcIllegal p
  | some rate =>
    if (p.unit false).isSome || (p.unit true).isSome then .fault tcIllegal p
    else if us.length ≤ avail then .ok (us.foldl (fun (q : Pvc) u => q.setUnit u (some (Sponge.fresh rate))) p).next
    else .ok { p with stall := some (.sponge (us.map b2n) rate) }

/-- Sponge units that the runs of a cluster hold. -/
def State.spongesHeld (s : State) (cl : Nat) : Nat :=
  (s.pvcs.filter (fun x => clusterOf x.1 == cl)).foldl
    (fun n x => n + b2n (x.2.unit false).isSome + b2n (x.2.unit true).isSome) 0

/-- Units that a new claim may take at once: none while an earlier claim waits (R166). -/
def State.spongesFree (s : State) (cl : Nat) : Nat :=
  if (s.cluster cl).spQueue.isEmpty then 4 - s.spongesHeld cl else 0

/-- SCLAIM (R214). -/
def execSclaim (c : Nat) (d _a b : R5) (_p : P3) (_l _e : Bool) (s : State) : Host.Outcome State Fault Refusal :=
  pvcStep c (unitField d (fun u => claimOp (s.spongesFree (clusterOf c)) [u] b)) s

/-- SCLAIM2: both units in one instruction; needs SPONGE_PAIR (R166, R214). -/
def execSclaim2 (c : Nat) (_d _a b : R5) (_p : P3) (_l _e : Bool) (s : State) : Host.Outcome State Fault Refusal :=
  pvcStep c (fun q => if !q.kern.caps.testBit 3 then .fault tcCap q else claimOp (s.spongesFree (clusterOf c)) [false, true] b q) s

/-- A claimed unit that absorbs (or squeezes), else the trap SPONGE. -/
def withUnit (squeeze : Bool) (u : Bool) (k : Sponge → Pvc → PRes) (p : Pvc) : PRes :=
  match p.unit u with
  | none => .fault tcSponge p
  | some x => if x.squeeze != squeeze then .fault tcSponge p else k x p

/-- SABS: the first LEN × w/8 bytes of the span at a are absorbed; long-only, no predicate (R214). -/
def execSabs (c : Nat) (d a _b : R5) (p : P3) (l e : Bool) (s : State) : Host.Outcome State Fault Refusal :=
  pvcStep c (legal (l && p == 0) (unitField d (fun u => withUnit false u (fun x q =>
    let n := q.regs l e
    if q.spanBad l e n [a] then .fault tcSpan q
    else
      let bytes := (List.range (q.len * (eWidth e / 8))).map (fun j => BitVec.ofNat 8 (q.elem a 8 j))
      .ok (q.setUnit u (some { x.absorb bytes with tagged := x.tagged || (q.spanTag a n).isSome })).next)))) s

/-- SABSB: the low byte of S[a] is absorbed (R214). -/
def execSabsb (c : Nat) (d a _b : R5) (_p : P3) (_l _e : Bool) (s : State) : Host.Outcome State Fault Refusal :=
  pvcStep c (unitField d (fun u => withUnit false u (fun x q =>
    let y := q.getS a
    .ok (q.setUnit u (some { x.absorb1 (y.v.truncate 8) with tagged := x.tagged || y.t.isSome })).next))) s

/-- SFIN with domain code b (R214). -/
def execSfin (c : Nat) (d _a b : R5) (_p : P3) (_l _e : Bool) (s : State) : Host.Outcome State Fault Refusal :=
  pvcStep c (unitField d (fun u q =>
    match domainOf b.toNat with
    | none => .fault tcIllegal q
    | some dom => withUnit false u (fun x q => .ok (q.setUnit u (some (x.finish dom))).next) q)) s

/-- SSQZ: LEN × w/8 squeezed bytes into the span at a; long-only, no predicate (R214). -/
def execSsqz (c : Nat) (d a _b : R5) (p : P3) (l e : Bool) (s : State) : Host.Outcome State Fault Refusal :=
  pvcStep c (legal (l && p == 0) (unitField d (fun u => withUnit true u (fun x q =>
    let n := q.regs l e
    if q.spanBad l e n [a] then .fault tcSpan q
    else
      let cnt := q.len * (eWidth e / 8)
      let r := x.take cnt
      let t : Tag := if x.tagged then some .bool else none
      .ok ((q.putSpan a n 8 false (fun _ => t) (fun j => if j < cnt then some (r.1.getD j 0).toNat else none)).setUnit u (some r.2)).next)))) s

/-- SREL: the unit's state is zeroised and the unit released; an unclaimed unit traps SPONGE (R166, R214). -/
def execSrel (c : Nat) (d _a _b : R5) (_p : P3) (_l _e : Bool) (s : State) : Host.Outcome State Fault Refusal :=
  pvcStep c (unitField d (fun u q =>
    match q.unit u with
    | none => .fault tcSponge q
    | some _ => .ok (q.setUnit u none).next)) s

/-! Rejection sampling (R167, R215). -/

/-- The candidates of one block, in order: modes 0, 1 and 2. -/
def candidates (mode : Nat) : List Byte → List Nat
  | b0 :: b1 :: b2 :: t =>
    if mode = 0 then (b0.toNat + 256 * (b1.toNat % 16)) :: (b1.toNat / 16 + 16 * b2.toNat) :: candidates mode t
    else if mode = 1 then (b0.toNat + 256 * b1.toNat + 65536 * (b2.toNat % 128)) :: candidates mode t
    else (b0.toNat + 256 * b1.toNat) :: candidates mode (b2 :: t)
  | b0 :: b1 :: [] => if mode = 2 then [b0.toNat + 256 * b1.toNat] else []
  | _ => []
termination_by structural l => l

/-- The next block: what is left of a block in use is dropped; the position ends at the rate. -/
def Sponge.nextBlock (x : Sponge) : List Byte × Sponge :=
  let y := if x.pos = 0 then x else x.perm
  (y.st.take y.rate, { y with pos := y.rate })

/-- Accepted candidates of up to n blocks; `want` stops the sampling once so many are there. -/
def sample (mode q : Nat) (want : Option Nat) : Nat → Sponge → List Nat × Sponge
  | 0, x => ([], x)
  | n + 1, x =>
    let r := x.nextBlock
    let got := (candidates mode r.1).filter (· < q)
    match want with
    | none =>
      let t := sample mode q none n r.2
      (got ++ t.1, t.2)
    | some k =>
      if k ≤ got.length then (got.take k, r.2)
      else
        let t := sample mode q (some (k - got.length)) n r.2
        (got ++ t.1, t.2)

/-- The rest of a block in use is discarded (R215). -/
def Sponge.atBlock (x : Sponge) : Sponge := if x.pos = 0 then x else { x with pos := x.rate }

/-- VREJ (R215). With a tagged unit or a tagged count it consumes exactly S[b] blocks (log entry 34); on an untagged state the position is
left at the rate. -/
def vrejOp (mode : Nat) (u : Bool) (m : BitVec 2) (d a b : R5) (e : Bool) (p : Pvc) : PRes :=
  withUnit true u (fun x p =>
    let w := eWidth e
    let n := p.regs true e
    let cnt := p.getS a
    let lim := p.getS b
    if p.spanBad true e n [d] then .fault tcSpan p
    else if lim.t.isSome then .fault tcControl p
    else
      let start := cnt.v.toNat
      let tagged := x.tagged || cnt.t.isSome
      if cnt.t.isNone && decide (start ≥ p.len) then .ok p.next
      else
        let r := sample mode (p.q m) (if tagged then none else some (p.len - start)) lim.v.toNat x.atBlock
        let y := if tagged then r.2 else { r.2 with pos := r.2.rate }
        let got := r.1.take (p.len - start)
        let t : Tag := if tagged then some .bool else none
        -- registers wholly below the first element written keep their tag where the count is public
        let tr := fun r => if cnt.t.isSome || decide ((r + 1) * (256 / w) > start) then t else none
        let p1 := p.putSpan d n w false tr (fun i => if start ≤ i then got[i - start]? else none)
        .ok ((p1.setS a (BitVec.ofNat 32 (start + got.length)) t).setUnit u (some y)).next) p

/-- VREJ: long-only, no predicate; func bit 2 must be 0 and mode 3 is reserved (R215). -/
def execVrej (c : Nat) (mode : BitVec 2) (unit z : Bool) (m : BitVec 2) (d a b : R5) (p : P3) (l e : Bool) (s : State) :
    Host.Outcome State Fault Refusal :=
  pvcStep c (fun q => legal (l && p == 0 && !z && mode != 3 && q.qOk m (eWidth e))
    (unitField (if unit then 1 else 0) (fun u => vrejOp mode.toNat u m d a b e)) q) s

end Sys2Proof.Machine
end

