-- ==== Sys2Proof/Machine/PvcEvents.lean ====
section
/-!
DEFINITION. Events of the clusters beside the instructions: grants, resumptions, arrivals, time limits and scrubs (spec file 06,
R165 to R168, R177, R182, R183, R185, R191, R193).
-/
namespace Sys2Proof.Machine
open Sys2Proof

/-- A waiting sponge claim that is granted: its units with zero state, and the claim completes (R166). -/
def Pvc.granted (p : Pvc) (which : List Nat) (rate : Nat) : Pvc :=
  { (which.foldl (fun (q : Pvc) u => q.setUnit (u == 1) (some (Sponge.fresh rate))) p) with stall := none }.next

/-- SPONGE_CLAIM_GRANT: the oldest waiting claim of a cluster is served once its units are free (R166). -/
def execSpongeClaimGrant (cl : Nat) (s : State) : Host.Outcome State Fault Refusal :=
  let x := s.cluster cl
  match x.spQueue with
  | [] => .next s
  | c :: t =>
    match mget s.pvcs c with
    | none => .next (s.setCluster cl { x with spQueue := t })
    | some p =>
      match p.stall with
      | some (.sponge us rate) =>
        if us.length ≤ 4 - s.spongesHeld cl then .next ((s.setPvc c (p.granted us rate)).setCluster cl { x with spQueue := t })
        else .next s
      | _ => .next s

/-- SRAM_ALLOT_GRANT: the run that has waited longest starts once its allotment is free (R165). -/
def execSramAllotGrant (cl : Nat) (s : State) : Host.Outcome State Fault Refusal :=
  let x := s.cluster cl
  match x.sramQueue with
  | [] => .next s
  | c :: t =>
    match mget s.pvcs c with
    | none => .next (s.setCluster cl { x with sramQueue := t })
    | some p =>
      if p.kern.sram / 4096 ≤ s.sramFree cl then .next ((s.setPvc c { p with stall := none, alloc := true }).setCluster cl { x with sramQueue := t })
      else .next s

/-- MASK_STREAM_RESUME: a core that waited for masks goes on once its expander delivers them (R168). -/
def execMaskStreamResume (c : Nat) (s : State) : Host.Outcome State Fault Refusal :=
  match mget s.pvcs c with
  | none => .next s
  | some p =>
    if p.stall = some .mask ∧ (s.cluster (clusterOf c)).maskStall = false then .next (s.setPvc c { p with stall := none }) else .next s

/-- A run sees the bytes drawn so far; an ENT that waited for them completes, or waits for the next chunk (R183). -/
def Pvc.chunked (p : Pvc) (ent : List Byte) : Pvc :=
  let q := { p with ent := ent }
  match p.stall with
  | some (.ent d off) => if off + 32 ≤ ent.length then q.entDone d off else q
  | _ => q

/-- ENT_CHUNK_ARRIVAL: the blocks reserved for the granted chunk leave the generator, their bytes join the stream of the command up to its
limit, and every run of it sees them (R31, R183). -/
def execEntChunkArrival (cmd : Nat) (s : State) : Host.Outcome State Fault Refusal :=
  match mget s.cmds cmd with
  | none => .next s
  | some x =>
    if x.chunk.isEmpty then .next s
    else
      let x1 := { x with chunk := [], rand := x.rand ++ x.chunk.flatten.take (Nat.min 64 (4096 - x.stream)) }
      let s1 := (s.setCmd cmd x1).incF Reg.NRG_OUT 31 0 x.chunk.length
      let ps := s1.pvcs.map (fun y => if y.2.cmd = cmd then (y.1, y.2.chunked x1.rand) else y)
      let s2 := { s1 with pvcs := ps }
      let more := ps.any (fun y => y.2.cmd == cmd && (match y.2.stall with | some (.ent _ _) => true | _ => false))
      .next (if more then s2.askChunk cmd x1 else s2)

/-- SLIDE_REFILL_DONE: the bytes of a SLIDE arrive and it completes (R177). -/
def execSlideRefillDone (c : Nat) (data : List Byte) (s : State) : Host.Outcome State Fault Refusal :=
  match mget s.pvcs c with
  | none => .next s
  | some p =>
    match p.stall with
    | some (.slide aux off) => .next (s.setPvc c (p.slideDone aux off data))
    | _ => .next s

/-- The code-key cache holds a key whole. -/
def State.codeLoaded (s : State) (h : Nat) : Bool := s.ks.codeKeys.any (fun k => k.handle == h && !k.loading)

/-- A KLD of the public part of a Classic McEliece key: its entry serves it, or its load starts where none is under way (R41, R182). -/
def State.kldCode (s : State) (c : Nat) (p : Pvc) (dst : Nat) (l : List Byte) (h par : Nat) : State :=
  if s.codeLoaded h then (s.touchCode h).setPvc c (p.kldDone dst l)
  else if s.ks.codeKeys.any (fun k => k.handle == h) then s
  else s.startLoad h par p.cmd

/-- KLD_DELIVERED: key bytes arrive and the KLD completes (R182). -/
def execKldDelivered (c : Nat) (s : State) : Host.Outcome State Fault Refusal :=
  match mget s.pvcs c with
  | none => .next s
  | some p =>
    match p.stall with
    | some (.kld dst l _ none) => .next (s.setPvc c (p.kldDone dst l))
    | some (.kld dst l _ (some (h, par))) => .next (s.kldCode c p dst l h par)
    | _ => .next s

/-- The run has not ended. -/
def Pvc.live (p : Pvc) : Bool := p.stall != some .ended

/-- VALIDATION_PHASE_TIMEOUT: a phase still running at its declared time traps VALIDATION (R191). -/
def execValidationPhaseTimeout (c : Nat) (s : State) : Host.Outcome State Fault Refusal :=
  match mget s.pvcs c with
  | none => .next s
  | some p => if p.live && p.valid then .next (takeTrap c p tcValidation 0 p.pc 0 s) else .next s

/-- KERNEL_WATCHDOG: a run beyond its header's cycle limit traps WATCHDOG (R185). -/
def execKernelWatchdog (c : Nat) (s : State) : Host.Outcome State Fault Refusal :=
  match mget s.pvcs c with
  | none => .next s
  | some p => if p.live then .next (takeTrap c p tcWatchdog 0 p.pc 0 s) else .next s

/-- PVC_SCRUB_DONE: every register, memory, unit and allotment of the ended run is gone and its PVC is free; its instruction memory keeps
the code (R193). -/
def execPvcScrubDone (c : Nat) (s : State) : Host.Outcome State Fault Refusal :=
  let u := s.unit c
  if u.scrub then .next (({ s with pvcs := mdel s.pvcs c, test := { s.test with views := mdel s.test.views c } }).setUnit c { u with scrub := false, busy := none }) else .next s

end Sys2Proof.Machine
end

