-- ==== Sys2Proof/Machine/Grant.lean ====
section
/-!
DEFINITION. Grants of the noise random generator (spec file 10, R271): what each requester does with its bytes.
-/
namespace Sys2Proof.Machine
open Sys2Proof

/-- What a draw of the management gives: the new SLS, behind which a transition's record is deleted (R130, R352); the boot's part of the
spill epochs (R239); the seed of the loop generators (R339); DRS and DID (R350). -/
def State.grantMgmt (s : State) (tag : Nat) (bytes : List Byte) : State :=
  match tag with
  | 1 =>
    let s1 := { s with peat := s.peat.store bytes }.deriveDsk.sealAll.wakeUnseal
    if s1.boot.newState then { s1 with lc := { s1.lc with record := none }, boot := { s1.boot with newState := false } } else s1
  | 2 => { s with dg := { s.dg with bootEp := leNat bytes } }
  | 3 => { s with tlSeed := bytes }
  | 4 => { s with lc := { s.lc with drs := some (bytes.take 32), did := some (bytes.drop 32) } }.deriveDsk
  | _ => s

/-- A spill's nonce: the context is sealed and written, and a command that waits for a slot takes it (R236). -/
def State.grantSpill (s : State) (k : Nat) (bytes : List Byte) : State :=
  let s1 := s.spill k bytes
  match s1.cmds.find? (fun c => c.2.phase == .waitSlot) with
  | some (id, _) => s1.dgNext id
  | none => s1

/-- What a grant gives its requester: whole blocks, of which a chunk stays reserved until it arrives. -/
def State.grant (s : State) (r : NrgReq) (blocks : List (List Byte)) : State :=
  let bytes := blocks.flatten.take r.left
  match r.who with
  | .cmd id => s.grantCmd id bytes
  | .chunk id => s.modCmd id (fun c => { c with chunk := blocks })
  | .expander e => s.seed e bytes
  | .spillNonce k => s.grantSpill k bytes
  | .management tag => s.grantMgmt tag bytes
  | .mailbox key => { s with mbx := mmod s.mbx key (fun m => { m with rand := bytes }) }
  | .port k => s.linkGrant k bytes
  | .peer id => s.peerGrant id bytes
  | .card p => s.cardGrant p bytes

/-- KEY_GRADE_GRANT: the request at the head is granted once the ready pool holds all of it, in whole blocks: none goes to two consumers
(R268, R271). NRG_OUT counts the blocks that leave the generator. -/
def execKeyGradeGrant (s : State) : Host.Outcome State Fault Refusal :=
  match nextReq s.nrg.queue with
  | none => .next s
  | some r =>
    let n := ceilDiv r.left 32
    if n ≤ s.nrg.ready.length then
      let s1 := { s with nrg := { s.nrg with ready := s.nrg.ready.drop n, queue := s.nrg.queue.erase r } }
      let s2 := match r.who with | .chunk _ => s1 | _ => s1.incF Reg.NRG_OUT 31 0 n
      .next ((s2.grant r (s.nrg.ready.take n)).fillReady)
    else .next s

end Sys2Proof.Machine
end

