-- ==== Sys2Proof/Machine/TestPaths.lean ====
section
/-!
DEFINITION. Loopbacks, unit tests, injection and the diagnostic view (spec file 18, R412 to R418; R194).
-/
namespace Sys2Proof.Machine
open Sys2Proof

/-! Loopbacks (R412, R413). -/

/-- PCIE_REMOTE_LOOPBACK: the link partner puts the device into the follower's mode, or takes it out. -/
def execPcieRemoteLoopback (enter : Bool) (s : State) : Host.Outcome State Fault Refusal :=
  .next { s with link := { s.link with follower := enter, up := s.link.up && !enter } }

/-- Why a loopback is refused, as SRD_LB_STAT.REASON numbers it; 0 where it starts. The pads of 20 to 22 are in service where none of their
pins, loops or ports is disabled. -/
def State.lbReason (s : State) (i depth : Nat) (jtag : Bool) : Nat :=
  if i = 0 then
    if depth ≠ 1 ∧ depth ≠ 2 then 3 else if !jtag ∨ !s.openState then 2 else if s.link.up then 1 else 0
  else if i ≤ 16 then
    if depth = 3 then (if s.portState (i - 1) = Ps.UP then 0 else 3)
    else if depth ≠ 1 ∧ depth ≠ 2 then 3
    else if s.portState (i - 1) = Ps.DISABLED then 0 else 1
  else if depth ≠ 2 ∨ 22 < i then 3
  else if i ≤ 18 then (if s.scState (i - 17) = Sc.EMPTY then 0 else 1)
  else if i = 19 then (if s.mcState = Mc.EMPTY then 0 else 1)
  else
    let free := if i = 20 then (List.range 32).any (fun n => s.gpioFn n == 0)
      else if i = 21 then (List.range 16).any (fun n => !bitAt (s.tmpReg (16 + n)) 31)
      else !(leAt s.boot.lowSpeed 128 1).testBit 7 || !(leAt s.boot.lowSpeed 129 1).testBit 7 || leAt s.boot.lowSpeed 132 4 == 0 || !s.scope Scope.UART1
    if free then 0 else 1

/-- The fields of SRD_LB_CTRL that a write keeps. -/
def State.lbCtrl (s : State) (v : Word) : State :=
  ((s.wrF Reg.SRD_LB_CTRL 23 16 (fld v 23 16)).wrF Reg.SRD_LB_CTRL 11 8 (fld v 11 8))

/-- A GO write. A running loopback goes on. -/
def State.lbGo (s : State) (v : Word) (jtag : Bool) : State :=
  let s1 := s.lbCtrl v
  if s.test.loop.isSome then s1
  else
    let r := s.lbReason (fld v 23 16) (fld v 11 10) jtag
    if r ≠ 0 then s1.wrF Reg.SRD_LB_STAT 31 26 (3 * 8 + r)
    else { s1.wrF Reg.SRD_LB_STAT 31 26 8 with test := { s1.test with loop := some (fld v 23 16, fld v 11 10) } }

/-- SRD_LB_GO: the value written, and whether the write comes over JTAG. -/
def execSrdLbGo (v : Word) (jtag : Bool) (s : State) : Host.Outcome State Fault Refusal := .next (s.lbGo (setBit v 31 true) jtag)

/-- SRD_LB_STOP: what the test has counted, errors and units of 2^20 bits, stands in the registers. -/
def execSrdLbStop (v : Word) (errs bits : Nat) (s : State) : Host.Outcome State Fault Refusal :=
  let s1 := s.lbCtrl v
  match s.test.loop with
  | some _ =>
    let s2 := { s1 with test := { s1.test with loop := none } }.wrF Reg.SRD_LB_STAT 31 26 (2 * 8)
    .next ((s2.incF Reg.SRD_LB_STAT 23 0 errs).incF Reg.SRD_LB_BITS 31 0 bits)
  | none => .next s1

/-! Unit tests (R416). -/

/-- Fault source of a unit named by class and number. -/
def testUnit (cls n : Nat) : Option Nat :=
  match cls with
  | 0 => if n < 96 then some n else none
  | 1 => if n < 16 then some (108 + n) else none
  | 2 => if n < 8 then some (124 + n) else none
  | 3 => if n < 32 then some (132 + n) else none
  | 4 => if n < 64 then some (164 + n) else none
  | _ => none

/-- Units of the class of a unit. -/
def classOf (u : Nat) : List Nat :=
  if u < 96 then unitsOf .pvc else if u < 124 then unitsOf .hte else if u < 132 then unitsOf .bne else if u < 164 then unitsOf .dge else unitsOf .chk

/-- SRD_UNIT_TEST_GO. -/
def State.unitTestGo (s : State) (v : Word) : State :=
  let s1 := (s.wrF Reg.SRD_UNIT_TEST 27 24 (fld v 27 24)).wrF Reg.SRD_UNIT_TEST 14 8 (fld v 14 8)
  if s.rdB Reg.SRD_UNIT_TEST 0 then s
  else match testUnit (fld v 27 24) (fld v 14 8) with
    | none => s1.wrF Reg.SRD_UNIT_TEST 7 6 3
    | some u =>
      let left := (classOf u).filter (fun x => x != u && (s.unit x).service)
      if (s.unit u).retired ∨ left.length < 3 then s1.wrF Reg.SRD_UNIT_TEST 7 6 3
      else
        let s2 := (s1.wrF Reg.SRD_UNIT_TEST 7 6 0).wrB Reg.SRD_UNIT_TEST 0 true
        { (s2.setUnit u { s2.unit u with tested := true }) with test := { s2.test with unit := some u } }

def execSrdUnitTestGo (v : Word) (s : State) : Host.Outcome State Fault Refusal := .next (s.unitTestGo (setBit v 31 true))

/-! Injection (R417). -/

/-- TEST, TEST_OPEN and ANALYSIS. -/
def State.labState (s : State) : Bool := s.lcc == Lc.TEST || s.lcc == Lc.TEST_OPEN || s.lcc == Lc.ANALYSIS

/-- Why an injection is refused, as SRD_INJ_STAT.REASON numbers it; 0 where it is carried out. -/
def State.injReason (s : State) (v : Word) : Nat :=
  let k := fld v 30 28
  let c := fld v 27 26
  let t := fld v 17 9
  if 4 ≤ k ∨ (k = 0 ∧ c = 0) then 4
  else if !(s.scope Scope.INJECT || s.openState) then 1
  else if k = 0 then (if fltClasses t = 0 then 3 else if c = 3 ∧ !s.labState then 2 else 0)
  else if k = 1 then (if t < 230 ∧ !(96 ≤ t ∧ t < 108) then 0 else 3)
  else if !tmpSources.contains t then 3
  else if k = 3 ∧ bitAt (s.tmpReg t) 3 ∧ !s.labState then 2
  else 0

/-- What an injection does. The flipped bit of a run corruption is open. -/
def State.injectNow (s : State) (v : Word) : State :=
  let k := fld v 30 28
  let c := fld v 27 26
  let t := fld v 17 9
  if k = 0 then
    let s1 := (s.fault t (c - 1) false false false).fltRespond t (c - 1) (2 ^ 44)
    if c = 2 ∧ t < 230 then s1.retire t else s1
  else if k = 1 then { (s.fresh.setUnit t { s.unit t with corrupt := some (Config.engineTime s.free).toNat }) with test := { s.test with pending := some t } }
  else if k = 2 then s.askTmpTest ⟨t, fld v 25 25, false, true⟩
  else s.tmpEvent t 3

/-- A GO write. A pending run corruption counts when it is carried out. -/
def State.inject (s : State) (v : Word) : State :=
  let s1 := s.wrF Reg.SRD_INJ_CTRL 30 9 (fld v 30 9)
  let s2 := s1.wrF Reg.SRD_INJ_CTRL 24 18 0
  let r := s.injReason v
  if r ≠ 0 then s2.wrF Reg.SRD_INJ_STAT 31 27 (2 * 8 + r)
  else if fld v 30 28 = 1 then (s2.wrF Reg.SRD_INJ_STAT 31 27 0).injectNow v
  else ((s2.wrF Reg.SRD_INJ_STAT 31 27 8).incF Reg.SRD_INJ_STAT 15 0 1).injectNow v

/-- INJECT_FLT_EVENT: a GO with KIND 0. -/
def execInjectFltEvent (v : Word) (s : State) : Host.Outcome State Fault Refusal := .next (s.inject (setBits v 31 28 8))
/-- INJECT_RUN_CORRUPTION: KIND 1. -/
def execInjectRunCorruption (v : Word) (s : State) : Host.Outcome State Fault Refusal := .next (s.inject (setBits v 31 28 9))
/-- INJECT_TAMPER_CHANNEL: KIND 2. -/
def execInjectTamperChannel (v : Word) (s : State) : Host.Outcome State Fault Refusal := .next (s.inject (setBits v 31 28 10))
/-- INJECT_TAMPER_ALARM: KIND 3. -/
def execInjectTamperAlarm (v : Word) (s : State) : Host.Outcome State Fault Refusal := .next (s.inject (setBits v 31 28 11))

/-! The diagnostic view (R194). -/

/-- The core whose data memory shows in a cluster's window. -/
def State.viewCore (s : State) (cl : Nat) : Nat := 8 * cl + s.rdF (Reg.CL_DIAG cl) 2 0

/-- The core is idle: it serves no run, no scrub and no self-test, and is not retired (06, CL_PVC). -/
def EUnit.idle (u : EUnit) : Bool := u.busy.isNone && !u.retired && !u.scrub && !u.selftest && !u.tested

/-- A write at an offset in the view, 0x40000 to 0x6FFFF: in TEST and TEST_OPEN, to an idle PVC. -/
def State.viewWrite (s : State) (cl off : Nat) (v : Word) : State :=
  let u := s.viewCore cl
  if cl < 12 ∧ 0x40000 ≤ off ∧ off < 0x70000 ∧ off % 4 = 0 ∧ (s.lcc = Lc.TEST ∨ s.lcc = Lc.TEST_OPEN) ∧ (s.unit u).idle ∧ (mget s.pvcs u).isNone then
    { s with test := { s.test with views := mput s.test.views u (writeBytes ((mget s.test.views u).getD []) (off - 0x30000) (natLE 4 v.toNat)) } }
  else s

/-- A read in the view: zero outside its states, and of a tagged line. -/
def State.viewRead (s : State) (cl off : Nat) : Word :=
  let u := s.viewCore cl
  let a := off - 0x30000
  if s.labState || s.scope Scope.PVC_VIEW then
    match mget s.pvcs u with
    | some p => if p.kern.secret.has a 4 then 0 else BitVec.ofNat 32 (leNat (readBytes p.mem a 4))
    | none => BitVec.ofNat 32 (leNat (readBytes ((mget s.test.views u).getD []) a 4))
  else 0

def execPvcDiagViewWrite (cl off : Nat) (v : Word) (s : State) : Host.Outcome State Fault Refusal := .next (s.viewWrite cl off v)

end Sys2Proof.Machine
end

