-- ==== Sys2Proof/Machine/LinkErr.lean ====
section
/-!
DEFINITION. Errors on the host link (spec file 02, R59): reads that fail and writes that cannot be delivered, each with the response
of the table that its place belongs to (R84, R101, R106, R107, R118, R242).
-/
namespace Sys2Proof.Machine
open Sys2Proof

/-- An operation that holds the digest context its descriptor names while it absorbs (R242). -/
def absorbs (op : Nat) : Bool := op == 0x0C11 || op == 0x0C12 || op == 0x0C13

/-- A read for a command fails: it stops with ABORTED, reason 0x01 (R59, R101). A batch whose member records cannot be read cuts off
the members it has not dispatched (R107); a digest command's context becomes INVALID (R242). -/
def State.readFail (s : State) (id : Nat) : State :=
  match mget s.cmds id with
  | none => s
  | some c =>
    match c.phase with
    | .held | .waitCq => s
    | .batch => match mget s.batches id with | some b => (s.aerReport c.fn).batchReadFail id b | none => s
    | .started => (if absorbs c.op then (s.aerReport c.fn).spoil c.fn c.ctx else s.aerReport c.fn).complete id (.aborted 1)
    | _ => (if absorbs c.op then (s.aerReport c.fn).spoil c.fn c.ctx else s.aerReport c.fn).complete id (.abortedLate 1)

/-- A restore read fails (R242). It went out under PF0's routing ID (R58), so PF0's AER reports it (DEDUCED, log entry 127). -/
def State.restoreFail (s : State) (id : Nat) : State :=
  match mget s.cmds id with
  | some c =>
    if c.phase = .waitSlot then (((s.aerReport 0).spoil c.fn c.ctx).incF Reg.DGE_SPILL_ERR 31 16 1).complete id (.abortedLate 1) else s
  | none => s

/-- LINK_READ_FAIL. A request buffer that cannot be read leaves its command unstarted (R118). -/
def execLinkReadFail (site : ReadSite) (s : State) : Host.Outcome State Fault Refusal :=
  .next (match site with
    | .descriptor fn qp => if s.qpOpen fn qp then (s.aerReport fn).qpError fn qp 6 else s
    | .command id => s.readFail id
    | .mailbox fn ch => match mget s.mbx (mbxKey fn ch) with
      | some r => if r.started then s else (s.aerReport fn).mbxEnd (mbxKey fn ch) (.aborted 1)
      | none => s
    | .restore id => s.restoreFail id)

/-- A write of a command's output fails: ABORTED, reason 0x06 (R59). -/
def State.outputFail (s : State) (id : Nat) : State :=
  match mget s.cmds id with
  | none => s
  | some c =>
    match c.phase with
    | .held | .started | .waitCq | .batch => s
    | _ => if c.outMap.isEmpty then s else (s.aerReport c.fn).complete id (.abortedLate 6)

/-- LINK_WRITE_FAIL. A completion entry, a results entry or a bitmap word that cannot be written puts the pair into ERROR (R84, R107);
a response buffer that cannot be written leaves the inline response (R118). -/
def execLinkWriteFail (site : WriteSite) (s : State) : Host.Outcome State Fault Refusal :=
  .next (match site with
    | .completion fn qp => if s.qpOpen fn qp then s.qpError fn qp 7 else s
    | .output id => s.outputFail id
    | .results id => match mget s.cmds id with
      | some c => if c.phase = .batch ∧ s.qpOpen c.fn c.qp then s.qpError c.fn c.qp 7 else s
      | none => s
    | .mailbox fn ch => if (mget s.mbx (mbxKey fn ch)).isNone then s else
      { s.aerReport fn with mbx := mmod s.mbx (mbxKey fn ch) (fun (r : MbxReq) => { r with noBuf := true }) })

end Sys2Proof.Machine
end

