-- ==== Sys2Proof/Machine/Pads.lean ====
section
/-!
DEFINITION. The pads: what the device drives at each of its outputs, as it follows from the state (spec file 12, R318, R319, R325, R326; 16,
R374, R378, R390; 13, R339).
-/
namespace Sys2Proof.Machine
open Sys2Proof

/-- The ports that an image enables run: the device has left its reset and HOLD, and its image is loaded (R304, R319). -/
def State.portsOn (s : State) : Bool := s.lowPorts && s.boot.cfgLoaded.isSome && !s.boot.hold

/-- The condition of an indicator function (R325). -/
def State.indicates (s : State) (f : Nat) : Bool :=
  if f = 0x10 then s.served 0 0
  else if f = 0x11 then s.sealState == Seal.LOST
  else if f = 0x12 then s.quorumOpen
  else s.mcState == Mc.BUSY || s.cards.mc0Busy

/-- An open-drain output. -/
def openDrain (level : Bool) : Pad := if level then .z else .low

/-- A GPIO pin by its function; bit 1 of its flags inverts any (R325). -/
def State.gpioPad (s : State) (n : Nat) : Pad :=
  let f := s.gpioFn n
  let inv := s.gpioFlag n 1
  let out := s.rdB Reg.GLB_GPIO_OUT n != inv
  if f = 2 then openDrain out
  else if f = 3 then (if out then .high else .low)
  else if 0x10 ≤ f then openDrain (s.indicates f == inv)
  else .z

/-- The bit on TL_OUTn now: of an enabled loop, once its generator is seeded (R339). -/
def State.loopPad (s : State) (n : Nat) : Pad :=
  if bitAt (s.tmpReg (16 + n)) 31 && !s.tlSeed.isEmpty then
    (if Config.loopBit s.tlSeed n (s.now / s.loopPeriod) then .high else .low)
  else .z

/-- The card's contacts have power: from activation to deactivation (R374, R378). -/
def State.cardPowered (s : State) (p : Nat) : Bool := [Sc.ACTIVATING, Sc.READY, Sc.BUSY].contains (s.scState p)

/-- What the device drives at a pin (R318, R319). Of an activated card VCC, RST and CLK are on and I/O is in reception; a deactivated one has
RST, CLK and I/O low and VCC off (R374, R378). MC0's clock runs but for sleep, and a card that has been switched off has CMD and DAT low
(R389, R390). -/
def State.pad (s : State) (p : Pin) : Pad :=
  if !s.pwr.vin then .z
  else match p with
  | .pcieTx => if s.hearthRuns && s.pwr.powered.contains 154 then .runs else .idle
  | .wolumTx k => if s.portsOn && s.portPower k && s.portState k != Ps.DISABLED then .runs else .idle
  | .resetN => if s.pwr.vioOk then openDrain s.pwr.drive.isNone else .z
  | .errN => if s.pwr.vioOk then openDrain (!s.errLow) else .z
  | .alertN => if s.pwr.vioOk then openDrain (!s.alertLow) else .z
  | .wakePermitOut => if s.pwr.vioOk then openDrain s.pwr.permitOut else .z
  | .syncOut => if s.portsOn && s.pwr.strap == some 0 then .low else .z
  | .gpio n => if s.portsOn && decide (n < 32) then s.gpioPad n else .z
  | .tlOut n => if s.portsOn && decide (n < 16) then s.loopPad n else .z
  | .smbScl _ | .smbSda _ | .spiMiso | .tdo => .z
  | .uartTx n =>
    if s.portsOn && (if n = 0 then leAt s.boot.lowSpeed 132 4 != 0 else n == 1 && s.scope Scope.UART1) then .high else .z
  | .cardVcc k => if s.cardPowered k then .high else .z
  | .cardRst k => if s.cardPowered k then .high else if s.portsOn then .low else .z
  | .cardClk k => if s.cardPowered k then .runs else if s.portsOn then .low else .z
  | .cardIo k => if s.cardPowered k then .z else if s.portsOn then .low else .z
  | .mc0Vdd => if s.mc0On then .high else .z
  | .mc0Clk => if s.mc0On then (if s.mcState = Mc.SLEEP then .low else .runs) else if s.portsOn then .low else .z
  | .mc0Cmd | .mc0Dat _ => if !s.mc0On && s.portsOn then .low else .z

/-- GLB_GPIO_IN: the level of each enabled pin after its inversion; a pin that the device does not drive has its net's (R326; log entry 149).
Without VIO every input reads as inactive (R318). -/
def State.gpioIn (s : State) : Nat :=
  (List.range 32).foldl (fun m n =>
    let level := match s.pad (.gpio n) with | .high => true | .low => false | _ => Config.gpioNet s.now n
    m + b2n (s.portsOn && s.gpioFn n != 0 && level != s.gpioFlag n 1) * 2 ^ n) 0

/-- The highest reading of the die sensors in the milliseconds from a to b, two's complement (R326; log entry 149). -/
def peakTemp (a b : Nat) : Int := (List.range (b - a)).foldl (fun m i => max m (Config.dieMax (a + i + 1)).toInt) (Config.dieMax a).toInt

end Sys2Proof.Machine
end

