-- ==== Sys2Proof/Machine/Views.lean ====
section
/-!
DEFINITION. Registers whose fields show what the machine holds elsewhere: their words as computed views, and the word that a read of a
register finds (register tables of spec files 00 to 18).
-/
namespace Sys2Proof.Machine
open Sys2Proof

/-- A word from the numbers at given lowest bits. -/
def pack (l : List (Nat × Nat)) : Word := BitVec.ofNat 32 (l.foldl (fun n x => n + x.2 * 2 ^ x.1) 0)

/-- A bitmap of the numbers below n that satisfy a test. -/
def bitmapOf (n : Nat) (p : Nat → Bool) : Nat := (List.range n).foldl (fun m i => m + b2n (p i) * 2 ^ i) 0

/-- Units of a list that are in service. -/
def State.inService (s : State) (l : List Nat) : Nat := (l.filter (fun u => (s.unit u).service)).length

/-- The unit has passed its boot self-test and is not retired (R11). -/
def EUnit.counts (x : EUnit) : Bool := x.booted && !x.retired

/-- Units of a list that GLB_CAPS counts. -/
def State.counted (s : State) (l : List Nat) : Nat := (l.filter (fun u => (s.unit u).counts)).length

/-- GLB_CAPS (R11); a quad counts while one of its pipelines does (log entry 52). -/
def State.capsWord (s : State) : Word :=
  pack [(0, s.counted (unitsOf .pvc)), (8, s.counted (unitsOf .hte)), (13, s.counted (unitsOf .bne)),
    (17, ((List.range 4).filter (fun q => (List.range 8).any (fun i => (s.unit (132 + 8 * q + i)).counts))).length)]

/-- The dedication of a cluster to a function is in force: one that joins has been drained, one that leaves has not (R73). -/
def State.dedicated (s : State) (fn c : Nat) : Bool :=
  let x := s.cluster c
  x.owner == some fn && (x.draining == none || x.draining == some 2048)

/-- A cluster dedicated to any function. -/
def State.dedicatedAny (s : State) (c : Nat) : Bool := match (s.cluster c).owner with | some f => s.dedicated f c | none => false

/-- MBX_STAT.READY (R113, R300, R301, R353). -/
def State.readyBit (s : State) (fn ch : Nat) : Bool := s.served fn ch

/-- The state code of a unit: 0 IDLE, 1 RUN, 2 scrub or self-test, 3 RETIRED. -/
def EUnit.stateCode (u : EUnit) : Nat := if u.retired then 3 else if u.scrub || u.selftest || u.tested then 2 else if u.busy.isSome then 1 else 0

/-- CL_PVCp, HTE_GRPg and BNE_UNITu. -/
def State.unitWord (s : State) (u : Nat) : Word :=
  let x := s.unit u
  pack [(0, x.opcode), (16, x.fn), (30, x.stateCode)]

def QpState.num : QpState → Nat
  | .off => 0
  | .active => 1
  | .error => 2
  | .deleting => 3

/-- QPq_STAT. -/
def QPair.statWord (p : QPair) : Word := pack [(0, p.head), (24, p.err), (30, p.state.num)]

/-- Bytes of the key cache in use (R136). -/
def State.cacheBytes (s : State) : Nat := s.ks.objs.foldl (fun n o => n + o.2.charge) 0

/-- Slots of a partition that satisfy a test. -/
def OpmPart.countSlots (p : OpmPart) (f : OpmSlot → Bool) : Nat := (p.slots.filter (fun x => f x.2)).length

/-- OPM_PART0 and OPM_PART1 of the function that OPM_SEL names. -/
def State.opmWord (s : State) (second : Bool) : Word :=
  let fn := s.rdF Reg.OPM_SEL 11 0
  if 2048 ≤ fn then 0
  else
    let p := s.opmPart fn
    if second then pack [(0, p.base), (16, p.countSlots (·.poisoned))]
    else pack [(0, p.countSlots (fun _ => true)), (11, s.opmCount fn), (24, p.slotLen / 32), (30, b2n p.sealed), (31, b2n (p.slotLen != 0))]

/-- GLB_STAT_LS. -/
def State.statLs (s : State) : Word :=
  pack [(0, b2n s.pwr.waking), (1, b2n (s.readyBit 0 0)), (2, b2n s.boot.hold), (3, b2n s.errLow), (4, s.sealState), (6, s.rdF Reg.PWR_STAT 7 7),
    (7, b2n (!s.pwr.vioOk)), (8, s.rdF Reg.RST_STRAP 10 8)]

/-- PWR_STAT. -/
def State.pwrStat (s : State) : Word :=
  pack [(0, b2n s.pwr.waking), (4, s.permit), (6, b2n (decide (s.now < s.pwr.pause))), (7, s.rdF Reg.PWR_STAT 7 7),
    (8, (s.pwr.queues.flatten.filter (· != 164)).length)]

/-- LCS_STATE. -/
def State.lcsWord (s : State) : Word :=
  pack [(0, s.lcc), (8, match s.lc.record with | some r => r.target | none => 0), (21, bitmapOf 5 (fun k => slotFull (s.lc.slots.getD k 0))),
    (26, bitmapOf 5 (fun k => slotPartial (s.lc.slots.getD k 0))), (31, b2n (s.lc.rootKill != 0))]

/-- LCS_DBG. -/
def State.dbgWord (s : State) : Word :=
  let o := (29, b2n s.lc.owner.isSome)
  match s.lc.session with
  | none => pack [o]
  | some d => pack [(0, d.scopes), (8, ceilDiv (d.ends - s.now) (6 * 10 ^ 9)), o, (30, b2n d.owner), (31, 1)]

/-- A quad of the DGE with a pipeline in service. -/
def State.quadUp (s : State) (q : Nat) : Bool := (List.range 8).any (fun i => (s.unit (132 + 8 * q + i)).service)

/-! Configuration space (R54, R55, R56). -/

/-- What a function reports of itself in configuration space. -/
structure ConfigIds where
  vendor    : BitVec 16
  device    : BitVec 16
  class_    : BitVec 24
  subVendor : BitVec 16
  subsystem : BitVec 16
deriving DecidableEq, Repr

/-- The identity that a function reports; the subsystem IDs read as zero in HOLD (R56). -/
def State.configIds (s : State) (fn : Nat) : ConfigIds where
  vendor    := Config.vendorId
  device    := if fn = 0 then 0x7144 else 0x7145
  class_    := 0x108000
  subVendor := if s.boot.hold then 0 else s.boot.subsys.extractLsb' 0 16
  subsystem := if s.boot.hold then 0 else s.boot.subsys.extractLsb' 16 16

/-- The SR-IOV capability of PF0 (R54, R55). -/
structure SriovCap where
  totalVfs : Nat
  firstVf  : Nat
  stride   : Nat
  numVfs   : Nat
  vfEnable : Bool
deriving DecidableEq, Repr

def State.sriov (s : State) : SriovCap := { totalVfs := 2047, firstVf := 1, stride := 1, numVfs := s.link.numVfs, vfEnable := s.link.vfEnable }

/-- The routing ID of a function, by PF0's (R55). -/
def State.routingId (s : State) (pf0 fn : Nat) : Nat := if fn = 0 then pf0 else pf0 + s.sriov.firstVf + (fn - 1) * s.sriov.stride

/-- FLT_STAT; ERR_N is the wired AND of the group, and without VIO it reads as inactive (R318, R362; log entry 149). -/
def State.fltStat (s : State) : Word :=
  pack [(0, s.openClasses), (3, b2n s.errLow), (4, b2n (!s.pwr.vioOk || (!s.errLow && Config.errNet s.now))), (5, b2n (s.flt.any (fun x => x.2.respond)))]

/-- FLT_SRC of the source that FLT_SEL names. -/
def State.fltWord (s : State) : Word :=
  let src := s.rdF Reg.FLT_SEL 8 0
  let r := s.fltSrc src
  pack [(0, r.classes), (4, b2n r.rail), (5, b2n r.asserts), (16, r.count)]

/-- CRD_QUORUM. -/
def State.quorumWord (s : State) : Word :=
  match s.cards.quorum with
  | none => 0
  | some q =>
    let left := if q.inForce then q.since + q.lifetime * 6 * 10 ^ 9 - s.now else q.lifetime * 6 * 10 ^ 9
    pack [(0, ceilDiv left (6 * 10 ^ 9)), (12, if q.roster then q.newMq else s.cards.mq),
      (17, q.votes (if q.roster then q.newRoster else s.cards.roster)), (22, q.purposes), (30, if q.inForce then 2 else 1)]

/-- FAB_ADDR: the root's address, and this device's or the last one held. -/
def State.addrWord (s : State) : Word :=
  let root := if s.isRoot then s.fab.addr else s.peerAddr s.rootId
  pack [(0, (if s.fab.addr.isSome then s.fab.addr else s.fab.lastAddr).getD 0), (12, b2n s.fab.addr.isSome), (16, root.getD 0)]

/-- FAB_ROUTE of the destination that FAB_ROUTE_SEL names (R404). -/
def State.routeWord (s : State) : Word :=
  match s.route (s.rdF Reg.FAB_ROUTE_SEL 11 0) with
  | some (h, ks) => pack [(0, (ks.zipIdx.foldl (fun n x => n + x.1 * 16 ^ x.2) 0)), (24, ks.length - 1), (26, Nat.min h 31), (31, 1)]
  | none => 0

/-- The views of PF0's registers, by base offset: of the instance (i, j) whose stored word is w. -/
def pfViews : List (Nat × (State → Nat → Nat → Word → Word)) :=
  [(Reg.GLB_CAPS, fun s _ _ _ => s.capsWord),
   (Reg.GLB_STAT_LS, fun s _ _ _ => s.statLs),
   (Reg.GLB_GPIO_IN, fun s _ _ _ => BitVec.ofNat 32 s.gpioIn),
   (Reg.GLB_SUPPLY, fun s _ _ _ => Config.vbatMv (s.now / 1000000) ++ Config.vioMv (s.now / 1000000)),
   (Reg.GLB_TEMP, fun s _ _ _ =>
     pack [(0, (Config.dieMax (s.now / 100000)).toNat), (8, (BitVec.ofInt 8 (peakTemp s.pwr.tempFrom (s.now / 100000))).toNat)]),
   (Reg.PWR_STAT, fun s _ _ _ => s.pwrStat),
   (Reg.PWR_ON 0, fun s i _ _ => BitVec.ofNat 32 (bitmapOf (if i < 5 then 32 else 4) (fun b => s.pwr.powered.contains (32 * i + b)))),
   (Reg.FLT_STAT, fun s _ _ _ => s.fltStat),
   (Reg.FLT_SRC, fun s _ _ _ => s.fltWord),
   (Reg.FLT_SRC_TS, fun s _ _ _ => BitVec.ofNat 32 (s.fltSrc (s.rdF Reg.FLT_SEL 8 0)).ts),
   (Reg.TMP_STAT, fun s _ _ w => setBit (setBit w 3 s.tmpTest.isSome) 2 s.alertLow),
   (Reg.LCS_STATE, fun s _ _ _ => s.lcsWord),
   (Reg.LCS_TOKENS, fun s _ _ _ => BitVec.ofNat 32 (bitmapOf 24 (fun i => s.lc.markers.getD i 0 != 0))),
   (Reg.LCS_DBG, fun s _ _ _ => s.dbgWord),
   (Reg.NRG_STAT, fun s _ _ w =>
      setBit (setBits (setBits w 13 9 ((List.range 16).filter (fun g => s.grpSt g == Grp.RETIRED)).length) 8 4 s.grpsUp.length) 3 s.nrgLow)] ++
  [(Reg.MBX_CAPS 0, fun s i _ _ => pack [(0, i), (8, s.boot.iface)]),
   (Reg.MBX_STAT 0, fun s i _ w => setBit (setBit (setBit w 0 (s.readyBit 0 i)) 3 (!bitAt w 2)) 6 s.boot.hold),
   (Reg.VFM_FREE0, fun s _ _ _ => pack [(0, s.qpFree), (16, s.vecFree)]),
   (Reg.VFM_FREE1, fun s _ _ _ => pack [(0, s.ctxFree), (17, s.opmFree)]),
   (Reg.VFM_FREE2, fun s _ _ _ => pack [(0, s.keyFree), (16, s.objFree)]),
   (Reg.VFM_DEDICATED, fun s _ _ _ => BitVec.ofNat 32 (bitmapOf 12 s.dedicatedAny)),
   (Reg.QP_BASE_LO 0, fun s i _ _ => (s.qp 0 i).baseLo),
   (Reg.QP_BASE_HI 0, fun s i _ _ => (s.qp 0 i).baseHi),
   (Reg.QP_CFG 0, fun s i _ _ => (s.qp 0 i).cfg),
   (Reg.QP_STAT 0, fun s i _ _ => (s.qp 0 i).statWord),
   (Reg.CMD_INFLIGHT, fun s _ _ w => setBits w 14 0 s.cmds.length),
   (Reg.KST_USE0, fun s _ _ _ =>
     pack [(0, s.ks.objs.length + (s.ks.objs.filter (fun o => o.2.staged.isSome)).length), (16, ceilDiv s.cacheBytes 4096)]),
   (Reg.KST_USE1, fun s _ _ _ => pack [(0, s.ks.ctxs.length), (17, s.ks.codeKeys.foldl (fun n k => n + k.gran) 0)]),
   (Reg.KST_HBS, fun s _ _ w => setBits (setBits w 23 16 s.ks.hbsSpare) 15 5 (s.ks.objs.filter (fun o => o.2.frozen)).length),
   (Reg.DGE_STAT, fun s _ _ w => setBits (setBits w 10 5 (s.inService (unitsOf .dge))) 3 0 (bitmapOf 4 s.quadUp)),
   (Reg.DGE_USE, fun s _ _ _ => pack [(0, s.slotsUsed), (16, s.dg.ksc.length)]),
   (Reg.CHK_STAT, fun s _ _ w =>
     setBits w 1 0 ([228, 229].filter (fun v => !(s.dg.chkSpare.any (fun x => x.2 == v)) && !(s.unit v).retired)).length)] ++
  [(Reg.HTE_STAT, fun s _ _ _ => pack [(0, s.rdF Reg.NRG_EXP 20 20), (4, Nat.min 4095 (s.ks.objs.filter (fun o => o.2.rebuild)).length),
     (16, bitmapOf 16 (fun g => (s.unit (108 + g)).service))]),
   (Reg.HTE_GRP 0, fun s i _ _ => s.unitWord (108 + i)),
   (Reg.BNE_STAT, fun s _ _ _ => pack [(0, bitmapOf 8 (fun u => (s.unit (124 + u)).service)), (8, s.rdF Reg.NRG_EXP 19 12)]),
   (Reg.BNE_UNIT 0, fun s i _ _ => s.unitWord (124 + i)),
   (Reg.OPM_PART0, fun s _ _ _ => s.opmWord false),
   (Reg.OPM_PART1, fun s _ _ _ => s.opmWord true),
   (Reg.CL_STAT 0, fun s i _ _ => let x := s.cluster i
     pack [(3, 4 - s.spongesHeld i), (6, b2n x.maskStall), (7, b2n (s.dedicatedAny i)), (8, if s.dedicatedAny i then x.owner.getD 0 else 0)]),
   (Reg.CL_PVC 0 0, fun s i j _ => s.unitWord (8 * i + j)),
   (Reg.CL_SRAM 0, fun s i _ _ => pack [(0, s.sramFree i), (16, ceilDiv ((s.resident 65536).foldl (fun n k => n + k.cached) 0) 4096)]),
   (Reg.CL_TWID 0, fun s _ _ _ => let l := (s.resident 65536).flatMap (fun k => k.slots)
     BitVec.ofNat 32 (bitmapOf 16 (fun t => l.contains t)))] ++
  [(Reg.FAB_ADDR, fun s _ _ _ => s.addrWord),
   (Reg.FAB_ROOT_ID 0, fun s i _ _ => if s.fabOn then BitVec.ofNat 32 (leAt s.rootId (4 * i) 4) else 0),
   (Reg.FAB_ROUTE, fun s _ _ _ => s.routeWord),
   (Reg.CRD_QUORUM, fun s _ _ _ => s.quorumWord),
   (Reg.PEAT_STAT, fun s _ _ _ => pack [(0, b2n s.peat.slsValid), (1, b2n s.peat.cold), (2, b2n s.peat.xtal), (8, s.peat.log.length), (16, s.peat.lostCnt)]),
   (Reg.PEAT_RTC_LO, fun s _ _ _ => BitVec.ofNat 32 s.peat.secs),
   (Reg.PEAT_RTC_HI, fun s _ _ _ => pack [(0, s.peat.secs / 2 ^ 32 % 256), (16, s.peat.subsec)]),
   (Reg.PEAT_CNT 0, fun s i _ _ => BitVec.ofNat 32 (s.peat.counters.getD i 0))]

/-- The views of a VF's registers: of function fn. -/
def vfViews : List (Nat × (State → Nat → Nat → Word → Word)) :=
  [(Reg.VF_STATUS, fun s fn _ _ =>
     let f := s.fn fn
     let m := bitmapOf 12 (s.dedicated fn)
     pack [(0, b2n (s.fnActive fn)), (1, b2n f.quiescing), (2, b2n f.quiesced), (3, b2n s.boot.hold), (4, b2n (m != 0)), (5, b2n f.isoDeg),
       (6, b2n ((List.range 8).any (fun q => (s.qp fn q).linkErr))), (8, m)]),
   (Reg.VF_ALLOT, fun s fn _ _ => let f := s.fn fn
     pack [(0, f.qps), (4, f.vecs), (16, f.weight)]),
   (Reg.VF_CTX_ALLOT, fun s fn _ _ => BitVec.ofNat 32 (s.fn fn).ctx),
   (Reg.VF_INFLIGHT, fun s fn _ _ => pack [(0, (s.fn fn).cap), (16, s.usedBy fn)]),
   (Reg.VF_KEY_ALLOT, fun s fn _ _ => pack [(0, (s.fn fn).key4k), (16, (s.fn fn).keyObj)]),
   (0x8000, fun s _ _ _ => pack [(8, s.boot.iface)]),
   (0xA000, fun s fn i _ => if i < s.qps' fn then (s.qp fn i).baseLo else 0),
   (0xA004, fun s fn i _ => if i < s.qps' fn then (s.qp fn i).baseHi else 0),
   (0xA008, fun s fn i _ => if i < s.qps' fn then (s.qp fn i).cfg else 0),
   (0xA00C, fun s fn i _ => if i < s.qps' fn then (s.qp fn i).statWord else 0),
   (0x800C, fun s fn _ w => setBit (setBit (setBit w 0 (s.readyBit fn 0)) 3 (!bitAt w 2)) 6 s.boot.hold)]

/-- The word that a read of a register finds: its view or its stored word, without the write-only fields (R14); zero where no register lies
(R10, R61). -/
def State.look (s : State) (fn off : Nat) : Word :=
  match regSpec fn off with
  | none => 0
  | some r =>
    let (i, j) := r.index off
    let w := s.rd fn off
    let v := match mget (if fn = 0 then pfViews else vfViews) r.base with
      | some f => if fn = 0 then f s i j w else f s fn i w
      | none => w
    v &&& ~~~ r.mask (fun a => a == .wo)

/-! Commands that report such words. -/

/-- DEV_INFO (R122). -/
def execDevInfo (fn ch : Nat) (s : State) : Host.Outcome State Fault Refusal :=
  mbxRow1 0x0100 fn ch (fun _ =>
    .done s (.ok (natLE 4 (s.look 0 Reg.GLB_ID).toNat ++ natLE 4 (s.look 0 Reg.GLB_VERSION).toNat ++ natLE 4 s.capsWord.toNat ++ natLE 4 s.lcc
      ++ natLE 4 s.boot.svn ++ fixLen 32 (Config.subjectKeyId s.identityPub)))) s

/-- SMBUS_READ: an enabled target answers command code 0x00 with a block of 12 bytes (R326); no answer during a reset, in HOLD, or without
VIO (R318, R319). -/
def execSmbusRead (bus code : Nat) (s : State) : Host.Outcome State Fault Refusal :=
  if bus < 2 ∧ code = 0 ∧ (leAt s.boot.lowSpeed (128 + bus) 1).testBit 7 ∧ s.portsOn then
    .next (s.emit (.smbus ([BitVec.ofNat 8 12] ++ natLE 4 (s.look 0 Reg.GLB_ID).toNat ++ natLE 4 (s.look 0 Reg.GLB_VERSION).toNat ++ natLE 4 s.statLs.toNat)))
  else .next s

/-- RES_QUERY: the allotments of R63, of the function that PF0's payload names or of the VF itself (R121; log entry 22). -/
def execResQuery (fn ch : Nat) (s : State) : Host.Outcome State Fault Refusal :=
  mbxRow1 0x0200 fn ch (fun r =>
    let n := if fn = 0 then leAt r.inl 0 2 else fn
    if 2048 ≤ n then .bad St.BAD_FIELD
    else
      let f := s.fn n
      .done s (.ok (natLE 4 n ++ natLE 4 (if n = 0 then 16 else f.qps) ++ natLE 4 (s.vecs n) ++ natLE 4 f.weight ++ natLE 4 f.ctx ++ natLE 4 f.cap
        ++ natLE 4 f.key4k ++ natLE 4 f.keyObj ++ natLE 4 f.opm4k ++ natLE 8 f.spillAddr ++ natLE 4 f.spillLen
        ++ natLE 4 (bitmapOf 12 (s.dedicated n))))) s

/-- OUTCOME_QUERY (R120). -/
def execOutcomeQuery (fn ch : Nat) (s : State) : Host.Outcome State Fault Refusal :=
  mbxRow1 0x0103 fn ch (fun r =>
    if r.inl.length < 2 then .bad St.BAD_FIELD
    else
      let code := leAt r.inl 0 2
      let o := (mget s.outcomes (fn * 65536 + code)).getD ⟨0, 0, 0, [], 0, none⟩
      .done s (.ok (natLE 2 code ++ natLE 2 o.seq ++ [BitVec.ofNat 8 o.state, BitVec.ofNat 8 (if o.state = 2 then o.status else 0)] ++ zeros 2
        ++ fixLen 40 o.inline ++ natLE 4 o.bytes))) s

end Sys2Proof.Machine
end

