-- ==== Sys2Proof/Machine/Regs.lean ====
section
/-!
DEFINITION. Accesses from outside the queues and mailboxes: reads and writes of registers (R10 to R15, R60 to R62), the CANCEL of a
mailbox command (R118), the JTAG TAP (R356, R358) and the boot SPI port (R312).
-/
namespace Sys2Proof.Machine
open Sys2Proof

/-! MBX_CANCEL (R118). -/

/-- A cancellable command stops: a card command and its session, a restore from the fabric, a chunk of firmware not yet written. -/
def State.mbxCancel (s : State) (fn ch : Nat) : State :=
  match mget s.mbx (mbxKey fn ch) with
  | none => s
  | some r =>
    if !(match mbxCode r.code with | some m => m.canc | none => false) then s
    else if !r.started then s.mbxEnd (mbxKey fn ch) (.aborted 4)
    else if r.code = 0x0802 then { s with fab := { s.fab with restore := none } }.mbxEnd (mbxKey fn ch) (.aborted 4)
    else s.endCardCmd (.aborted 4)

/-- MBX_CANCEL. -/
def execMbxCancel (fn ch : Nat) (s : State) : Host.Outcome State Fault Refusal := .next (s.mbxCancel fn ch)

/-! Writes: fields by their access codes (R14). -/

/-- The state that a command's row leaves. -/
def State.after (s : State) (o : Host.Outcome State Fault Refusal) : State := match o with | .next t => t | _ => s

/-- Fields that a write sets: those that the lock freezes only while it is open (R14, R337). -/
def State.writable (s : State) (r : RegSpec) : Word := r.mask (fun a => a == .rw || a == .rws || (a == .rwl && !s.tmpLocked))

/-- A register with the fields set that a write sets, and no other effect. -/
def State.put (s : State) (fn off : Nat) (r : RegSpec) (v : Word) : State :=
  s.wr fn off ((s.rd fn off &&& ~~~ s.writable r) ||| (v &&& s.writable r))

/-- The bits of a W1C field at which a write of 1 clears. -/
def State.clearable (s : State) (fn : Nat) (r : RegSpec) (i : Nat) (v : Word) : Word :=
  let bits := fun (p : Nat → Bool) => BitVec.ofNat 32 (bitmapOf 32 (fun b => bitAt v b && p (32 * i + b)))
  if fn ≠ 0 then v
  else if r.base = Reg.FLT_STICKY 0 then bits (fun src => !(s.fltSrc src).asserts)
  else if r.base = Reg.TMP_STICKY 0 then bits (fun src => s.tmpQuietFor src (tmpW (s.tmpReg src)))
  else if r.base = Reg.CMD_QPERR 0 then bits (fun f => !(List.range 16).any (fun q => (s.qp f q).state == .error))
  else v

/-- A write by the access codes alone, with what a cleared W1C field takes with it (R361, R362, R331). -/
def State.plainWrite (s : State) (fn off : Nat) (r : RegSpec) (v : Word) : State :=
  let i := (r.index off).1
  let c := r.mask (fun a => a == .w1c) &&& s.clearable fn r i v
  let s1 := (s.put fn off r v).wr fn off ((s.put fn off r v).rd fn off &&& ~~~ c)
  if fn ≠ 0 then s1
  else if r.base = Reg.FLT_STICKY 0 then
    { s1 with flt := s1.flt.map (fun (x : Nat × FltSrc) =>
      if x.1 / 32 = i ∧ bitAt c (x.1 % 32) then (x.1, { x.2 with classes := 0 }) else x) }
  else if r.base = Reg.FLT_FIRST then
    (if bitAt v 31 then ((s1.wr 0 off 0).wr 0 (Reg.FLT_FIRST_TS 0) 0).wr 0 (Reg.FLT_FIRST_TS 1) 0 else s1)
  else if r.base = Reg.TMP_FIRST then (if bitAt v 31 then s1.wr 0 off 0 else s1)
  else s1

/-- A field that takes only values in a range; others are ignored (log entry 46). -/
def State.putIn (s : State) (off hi lo : Nat) (v : Word) (min max : Nat) : State := s.setWake off hi lo (fld v hi lo) min max

/-! Writes to registers with an effect of their own. -/

/-- A write of a pair's base address: ignored while EN is 1 (R82). -/
def State.qpBase (s : State) (fn q : Nat) (high : Bool) (v : Word) : State :=
  let p := s.qp fn q
  if s.qps' fn ≤ q ∨ bitAt p.cfg 31 then s
  else s.setQp fn q (if high then { p with baseHi := v } else { p with baseLo := v &&& fieldMask 31 12 })

/-- A write of a request word: ignored while BUSY is set (R114). -/
def State.mbxReqWrite (s : State) (fn ch off : Nat) (v : Word) : State := if s.mstat fn ch 1 then s else s.wr fn off v

/-- A write of a channel's doorbell (R118). -/
def State.mbxBell (s : State) (fn ch : Nat) (v : Word) : State :=
  let s1 := if bitAt v 0 then s.mbxGo fn ch else s
  if bitAt v 1 then s1.mbxCancel fn ch else s1

/-- The effects, by base offset, of instance i of the register at offset off of PF0's BAR0. -/
def pfWrites : List (Nat × (State → Nat → Nat → Word → State)) :=
  [(Reg.RST_CTRL, fun s _ _ v => s.rstCtrl v),
   (Reg.RST_CFG, fun s _ _ v => if s.tmpLocked || s.boot.hold then s else s.wrB Reg.RST_CFG 0 (bitAt v 0)),
   (Reg.PWR_INRUSH, fun s _ _ v => if s.tmpLocked then s else (s.putIn Reg.PWR_INRUSH 5 0 v 1 32).mirrorWake),
   (Reg.PWR_WAKE, fun s _ _ v => if s.tmpLocked then s else ((s.putIn Reg.PWR_WAKE 23 16 v 10 200).putIn Reg.PWR_WAKE 5 0 v 1 32).mirrorWake),
   (Reg.FLT_RETIRE, fun s _ _ v => (s.putIn Reg.FLT_RETIRE 31 16 v 1 65535).putIn Reg.FLT_RETIRE 3 0 v 1 15),
   (Reg.TMP_SRC 0, fun s i _ v =>
     if s.tmpLocked then s else if tmpOk s.lcc i v then s.setTmpSrc i v else s.wrB Reg.TMP_STAT 4 true),
   (Reg.TMP_TL, fun s _ _ v => if s.tmpLocked then s else s.putIn Reg.TMP_TL 2 0 v 0 5),
   (Reg.TMP_TEST, fun s _ _ v => s.after (execTmpTestGo v s)),
   (Reg.PEAT_RTC_LO, fun s _ _ v => s.after (execPeatRtcLoWrite v s)),
   (Reg.PEAT_RTC_HI, fun s _ _ v => s.after (execPeatRtcHiWrite v s)),
   (Reg.PEAT_CNT_INC, fun s _ _ v => s.after (execPeatCntInc v s)),
   (Reg.LCS_DBG_END, fun s _ _ v => s.after (execLcsDbgEnd v s)),
   (Reg.NRG_CTRL, fun s _ _ v => if bitAt v 0 then s.nrgRestart else s),
   (Reg.NRG_WAIT, fun s _ _ v => if s.tmpLocked then s else s.putIn Reg.NRG_WAIT 13 0 v 1 10000)] ++
  [(Reg.MBX_DOORBELL 0, fun s i _ v => s.mbxBell 0 i v),
   (Reg.MBX_REQ 0 0, fun s i off v => s.mbxReqWrite 0 i off v),
   (Reg.MBX_ACK 0, fun s i _ v => if bitAt v 0 then s.mbxAck 0 i else s),
   (Reg.HRT_WDT, fun s _ _ v => if s.tmpLocked then s else (s.putIn Reg.HRT_WDT 31 16 v 10 1000).putIn Reg.HRT_WDT 15 0 v 100 10000),
   (Reg.VFM_SEL, fun s _ _ v => s.vfmSel v),
   (Reg.VFM_APPLY, fun s _ _ v => s.vfmApply v),
   (Reg.VFM_QUIESCE, fun s _ _ v => s.vfmQuiesce v),
   (Reg.QP_BASE_LO 0, fun s i _ v => s.qpBase 0 i false v),
   (Reg.QP_BASE_HI 0, fun s i _ v => s.qpBase 0 i true v),
   (Reg.QP_CFG 0, fun s i _ v => s.qpCfg 0 i v),
   (Reg.SQ_TAIL 0, fun s i _ v => s.after (execSqTailDoorbell 0 i v s)),
   (Reg.CQ_HEAD 0, fun s i _ v => s.after (execCqHeadDoorbell 0 i v s)),
   (Reg.SRD_LB_CTRL, fun s _ _ v =>
     if bitAt v 31 then s.lbGo v false
     else if bitAt v 30 then
       (s.after (execSrdLbStop v (Config.engineTime s.free).toNat (Config.engineTime (s.free + 1)).toNat s)).used 2
     else s.lbCtrl v),
   (Reg.SRD_UNIT_TEST, fun s _ _ v =>
     if bitAt v 31 then s.unitTestGo v else (s.wrF Reg.SRD_UNIT_TEST 27 24 (fld v 27 24)).wrF Reg.SRD_UNIT_TEST 14 8 (fld v 14 8)),
   (Reg.SRD_INJ_CTRL, fun s _ _ v => if bitAt v 31 then s.inject v else (s.wrF Reg.SRD_INJ_CTRL 30 9 (fld v 30 9)).wrF Reg.SRD_INJ_CTRL 24 18 0)] ++
  [Reg.CHK_CFG 0, Reg.CHK_POLY_LO 0, Reg.CHK_POLY_HI 0, Reg.CHK_INIT_LO 0, Reg.CHK_INIT_HI 0, Reg.CHK_XOR_LO 0, Reg.CHK_XOR_HI 0].map
    (fun b => (b, fun s _ off v => s.after (execChkCfgWrite off v s)))

/-- The same for a VF's BAR0: of function fn. -/
def vfWrites : List (Nat × (State → Nat → Nat → Word → State)) :=
  [(0x8008, fun s fn _ v => s.mbxBell fn 0 v),
   (0x8100, fun s fn i v => s.mbxReqWrite fn 0 (0x8100 + 4 * i) v),
   (0x8010, fun s fn _ v => if bitAt v 0 then s.mbxAck fn 0 else s),
   (0xA000, fun s fn i v => s.qpBase fn i false v),
   (0xA004, fun s fn i v => s.qpBase fn i true v),
   (0xA008, fun s fn i v => s.qpCfg fn i v),
   (0x0, fun s fn i v => s.after (execSqTailDoorbell fn i v s)),
   (0x4, fun s fn i v => s.after (execCqHeadDoorbell fn i v s))]

/-- A whole write of a register of a function's BAR0. -/
def State.regWrite (s : State) (fn off : Nat) (v : Word) : State :=
  match regSpec fn off with
  | none => s
  | some r =>
    match mget (if fn = 0 then pfWrites else vfWrites) r.base with
    | some f => if fn = 0 then f s (r.index off).1 off v else f s fn (r.index off).1 v
    | none => s.plainWrite fn off r v

/-! The MSI-X tables in BAR2 (R60, R61; log entry 10): 16 bytes an entry, masked at reset. -/

/-- The offset lies in the function's table. -/
def msixAt (fn off : Nat) : Bool := decide (off < 16 * (if fn = 0 then 64 else 16)) && off % 4 == 0

/-- The offset of the pending-bit array, and its words: one bit a vector. -/
def pbaAt (fn : Nat) : Nat := if fn = 0 then 0x2000 else 0x1000
def inPba (fn off : Nat) : Bool := decide (pbaAt fn ≤ off) && decide (off < pbaAt fn + 8) && off % 4 == 0

/-- A word of the table or of the pending-bit array; zero elsewhere. -/
def State.msixRead (s : State) (fn off : Nat) : Word :=
  if msixAt fn off then (mget s.link.msix (fn * 65536 + off)).getD (if off % 16 = 12 then 1 else 0)
  else if inPba fn off then BitVec.ofNat 32 (bitmapOf 32 (fun b => s.link.pba.contains (fn * 65536 + 8 * (off - pbaAt fn) + b)))
  else 0

/-- A write of the table: a vector whose mask clears sends its pending message, but not while its function is fenced (R75). -/
def State.msixWrite (s : State) (fn off : Nat) (v : Word) : State :=
  if msixAt fn off then
    let s1 := { s with link := { s.link with msix := mput s.link.msix (fn * 65536 + off) v } }
    let k := fn * 65536 + off / 16
    if off % 16 = 12 ∧ !bitAt v 0 ∧ s.link.pba.contains k ∧ !s.fenced fn then
      { s1 with link := { s1.link with pba := s1.link.pba.filter (· != k) } }.msix fn (off / 16)
    else s1
  else s

/-! Accesses. -/

/-- A function that answers: PF0, or a VF that is enabled (R55). -/
def State.answers (s : State) (fn : Nat) : Bool := s.enabled fn && decide (fn < 2048)

/-- The windows of PF0's BAR0 that hold no registers: the operand memory, and the diagnostic views of the clusters (R10). -/
def inOpm (off : Nat) : Bool := decide (0x700000 ≤ off) && decide (off < 0x800000)
def inView (off : Nat) : Bool := decide (0x1000000 ≤ off) && decide (off < 0x1C00000) && decide (0x40000 ≤ off % 0x100000) && decide (off % 0x100000 < 0x70000)

/-- The bytes that byte enables select. -/
def enabledBytes (be : Nat) : Word := (List.range 4).foldl (fun (w : Word) i => if be.testBit i then w ||| fieldMask (8 * i + 7) (8 * i) else w) 0

/-- A read clears the RC fields where it is a full one, and the register PF0's (R13, R14, R62). -/
def State.clearRc (s : State) (fn off be : Nat) : State :=
  match regSpec fn off with
  | some r =>
    if fn = 0 ∧ be = 15 then
      let s1 := s.wr 0 off (s.rd 0 off &&& ~~~ r.mask (fun a => a == .rc))
      if off = Reg.GLB_TEMP then { s1 with pwr := { s1.pwr with tempFrom := s.now / 100000 } } else s1
    else s
  | none => s

/-- What a read finds, and the state after it. -/
def State.access (s : State) (fn bar off be : Nat) : State × Word :=
  if bar = 2 then (s, s.msixRead fn off)
  else if bar ≠ 0 then (s, 0)
  else if fn = 0 && inOpm off then s.opmLook off
  else if fn = 0 && inView off then (s, s.viewRead ((off - 0x1000000) / 0x100000) (off % 0x100000))
  else (s.clearRc fn off be, s.look fn off)

/-- RC_READ: a read of an aligned register; the bytes selected are answered (R13, R14). -/
def execRcRead (fn bar off be : Nat) (s : State) : Host.Outcome State Fault Refusal :=
  if s.answers fn && off % 4 == 0 then
    .next ((s.access fn bar off be).1.emit (.readData fn off ((s.access fn bar off be).2 &&& enabledBytes be)))
  else .next s

/-- REGISTER_WRITE: a write whose byte enables do not cover all four bytes is ignored (R13). -/
def execRegisterWrite (fn bar off : Nat) (v : Word) (be : Nat) (s : State) : Host.Outcome State Fault Refusal :=
  if s.answers fn && off % 4 == 0 && be == 15 then
    .next (if bar = 2 then s.msixWrite fn off v
      else if bar ≠ 0 then s
      else if fn = 0 && inOpm off then s.after (execOpmWindowWrite off v s)
      else if fn = 0 && inView off then s.viewWrite ((off - 0x1000000) / 0x100000) (off % 0x100000) v
      else s.regWrite fn off v)
  else .next s

/-! The TAP (R356, R358). -/

/-- A scan through BYPASS: the bits leave one place later. -/
def bypassed (data : List Byte) : List Byte := natLE data.length (2 * leNat data)

/-- Boundary scan is open: by the state or by a session's scope. -/
def State.bscanOpen (s : State) : Bool := s.openState || s.lcc == Lc.TEST || s.scope Scope.BSCAN

/-- JTAG_TAP_ACCESS: a scan of the data given under an instruction; with TRST_N low the TAP is held in reset and nothing is scanned, nor without power, VIO or in a reset (R318, R319). What
a boundary scan captures is open (log entry 53). -/
def execJtagTapAccess (trst : Bool) (ins : JtagIns) (data : List Byte) (s : State) : Host.Outcome State Fault Refusal :=
  let scan := if s.bscanOpen then
      .next ((s.used data.length).emit (.jtag ((List.range data.length).map (fun i => Config.boundary (s.free + i)))))
    else .next (s.emit (.jtag (bypassed data)))
  if trst || !s.lowPorts then .next s
  else match ins with
    | .idcode => .next (s.emit (.jtag (natLE 4 (s.look 0 Reg.GLB_ID).toNat)))
    | .bypass => .next (s.emit (.jtag (bypassed data)))
    | .extest => scan
    | .sample => scan
    | .preload => scan
    | .priv n => if s.openState || s.scope n then .refused .debugUnit else .next (s.emit (.jtag (bypassed data)))

/-! The boot SPI port (R312). -/

/-- The mark of a firmware bank by number. -/
def fwMark : Nat → FwState
  | 1 => .staged
  | 2 => .trial
  | 3 => .confirmed
  | 4 => .trialFailed
  | _ => .invalid

/-- The port takes a programmer's writes in four life-cycle states. -/
def State.spiOpen (s : State) : Bool := [Lc.BLANK, Lc.TEST, Lc.TEST_OPEN, Lc.FACTORY].contains s.lcc

/-- BOOT_SPI_ACCESS: ignored in other states, without power, VIO, or in a reset (R312, R318, R319). -/
def execBootSpiAccess (item : FlashItem) (s : State) : Host.Outcome State Fault Refusal :=
  if !s.spiOpen || !s.lowPorts then .next s
  else match item with
    | .firmware b m img => .next (s.setBank (b % 2) { state := fwMark m, image := writeBytes [] 0 img, len := img.length, failed := m == 4 })
    | .prefer b => .next { s with boot := { s.boot with prefer := b % 2 } }
    | .config b img com => .next { s with boot := { s.boot with cfgBanks := s.boot.cfgBanks.set (b % 2) ⟨img, com⟩ } }

end Sys2Proof.Machine
end

