-- ==== Sys2Proof/Machine/Dispatch.lean ====
section
/-! DEFINITION. The effect of every command on everything but the queue: one arm per constructor of Instr, one direct call
of its meaning. -/
namespace Sys2Proof.Machine
open Sys2Proof

def exec (i : Instr) (s : State) : Host.Outcome State Fault Refusal :=
  match i with
  | .sqTailDoorbell fn qp v => Sys2Proof.Machine.execSqTailDoorbell fn qp v s
  | .cqHeadDoorbell fn qp v => Sys2Proof.Machine.execCqHeadDoorbell fn qp v s
  | .qpCreate fn qp v => Sys2Proof.Machine.execQpCreate fn qp v s
  | .qpDelete fn qp v => Sys2Proof.Machine.execQpDelete fn qp v s
  | .qpDeleteDone fn qp => Sys2Proof.Machine.execQpDeleteDone fn qp s
  | .descriptorFetch fn qp desc => Sys2Proof.Machine.execDescriptorFetch fn qp desc s
  | .fenceStart cmd => Sys2Proof.Machine.execFenceStart cmd s
  | .chainSuccessorStart cmd => Sys2Proof.Machine.execChainSuccessorStart cmd s
  | .runPlace cmd leg units => Sys2Proof.Machine.execRunPlace cmd leg units s
  | .runFinish cmd leg unit flip => Sys2Proof.Machine.execRunFinish cmd leg unit flip s
  | .pendingCompletionWrite fn qp => Sys2Proof.Machine.execPendingCompletionWrite fn qp s
  | .coalTimeout fn qp => Sys2Proof.Machine.execCoalTimeout fn qp s
  | .linkReadFail site => Sys2Proof.Machine.execLinkReadFail site s
  | .linkWriteFail site => Sys2Proof.Machine.execLinkWriteFail site s
  | .linkDown => Sys2Proof.Machine.execLinkDown s
  | .hotReset => Sys2Proof.Machine.execHotReset s
  | .pcieRemoteLoopback enter => Sys2Proof.Machine.execPcieRemoteLoopback enter s
  | .encaps cmd host => Sys2Proof.Machine.execEncaps cmd host s
  | .encapsCtx cmd host => Sys2Proof.Machine.execEncapsCtx cmd host s
  | .decaps cmd host => Sys2Proof.Machine.execDecaps cmd host s
  | .decapsCtx cmd host => Sys2Proof.Machine.execDecapsCtx cmd host s
  | .sign cmd host => Sys2Proof.Machine.execSign cmd host s
  | .signDet cmd host => Sys2Proof.Machine.execSignDet cmd host s
  | .signPh cmd host => Sys2Proof.Machine.execSignPh cmd host s
  | .signMu cmd host => Sys2Proof.Machine.execSignMu cmd host s
  | .signDetPh cmd host => Sys2Proof.Machine.execSignDetPh cmd host s
  | .verify cmd host => Sys2Proof.Machine.execVerify cmd host s
  | .verifyPh cmd host => Sys2Proof.Machine.execVerifyPh cmd host s
  | .verifyMu cmd host => Sys2Proof.Machine.execVerifyMu cmd host s
  | .agree cmd host => Sys2Proof.Machine.execAgree cmd host s
  | .agreeCtx cmd host => Sys2Proof.Machine.execAgreeCtx cmd host s
  | .encryptOaep cmd host => Sys2Proof.Machine.execEncryptOaep cmd host s
  | .decryptOaep cmd host => Sys2Proof.Machine.execDecryptOaep cmd host s
  | .signPkcs1 cmd host => Sys2Proof.Machine.execSignPkcs1 cmd host s
  | .signPss cmd host => Sys2Proof.Machine.execSignPss cmd host s
  | .verifyPkcs1 cmd host => Sys2Proof.Machine.execVerifyPkcs1 cmd host s
  | .verifyPss cmd host => Sys2Proof.Machine.execVerifyPss cmd host s
  | .testVariant cmd host => Sys2Proof.Machine.execTestVariant cmd host s
  | .journalWriteDone h ok => Sys2Proof.Machine.execJournalWriteDone h ok s
  | .generate cmd host => Sys2Proof.Machine.execGenerate cmd host s
  | .generateBlob cmd host => Sys2Proof.Machine.execGenerateBlob cmd host s
  | .import cmd host => Sys2Proof.Machine.execImport cmd host s
  | .derive cmd host => Sys2Proof.Machine.execDerive cmd host s
  | .wrap cmd host => Sys2Proof.Machine.execWrap cmd host s
  | .unwrap cmd host => Sys2Proof.Machine.execUnwrap cmd host s
  | .stageGenerate cmd host => Sys2Proof.Machine.execStageGenerate cmd host s
  | .stageUnwrap cmd host => Sys2Proof.Machine.execStageUnwrap cmd host s
  | .stageVerify cmd host => Sys2Proof.Machine.execStageVerify cmd host s
  | .commit cmd host => Sys2Proof.Machine.execCommit cmd host s
  | .discard cmd host => Sys2Proof.Machine.execDiscard cmd host s
  | .destroy cmd host => Sys2Proof.Machine.execDestroy cmd host s
  | .retiringDrainEnd h gen => Sys2Proof.Machine.execRetiringDrainEnd h gen s
  | .blobEpoch cmd host => Sys2Proof.Machine.execBlobEpoch cmd host s
  | .ctxClear cmd host => Sys2Proof.Machine.execCtxClear cmd host s
  | .publicExport cmd host => Sys2Proof.Machine.execPublicExport cmd host s
  | .attributes cmd host => Sys2Proof.Machine.execAttributes cmd host s
  | .blobTable cmd host => Sys2Proof.Machine.execBlobTable cmd host s
  | .opmFormat cmd host => Sys2Proof.Machine.execOpmFormat cmd host s
  | .opmRun cmd host => Sys2Proof.Machine.execOpmRun cmd host s
  | .unsealDone => Sys2Proof.Machine.execUnsealDone s
  | .codeKeyPortion h ok => Sys2Proof.Machine.execCodeKeyPortion h ok s
  | .codeKeyEntryFreed => Sys2Proof.Machine.execCodeKeyEntryFreed s
  | .hteRebuildDone h => Sys2Proof.Machine.execHteRebuildDone h s
  | .digest cmd host => Sys2Proof.Machine.execDigest cmd host s
  | .mac cmd host => Sys2Proof.Machine.execMac cmd host s
  | .macVerify cmd host => Sys2Proof.Machine.execMacVerify cmd host s
  | .init cmd host => Sys2Proof.Machine.execInit cmd host s
  | .update cmd host => Sys2Proof.Machine.execUpdate cmd host s
  | .final cmd host => Sys2Proof.Machine.execFinal cmd host s
  | .finalVerify cmd host => Sys2Proof.Machine.execFinalVerify cmd host s
  | .save cmd host => Sys2Proof.Machine.execSave cmd host s
  | .restore cmd host => Sys2Proof.Machine.execRestore cmd host s
  | .release cmd host => Sys2Proof.Machine.execRelease cmd host s
  | .epochAdvance cmd host => Sys2Proof.Machine.execEpochAdvance cmd host s
  | .dgeTurnEnd cmd turn => Sys2Proof.Machine.execDgeTurnEnd cmd turn s
  | .dgeSlotWaitEnd cmd => Sys2Proof.Machine.execDgeSlotWaitEnd cmd s
  | .spillWriteFail => Sys2Proof.Machine.execSpillWriteFail s
  | .check cmd host => Sys2Proof.Machine.execCheck cmd host s
  | .checkVerify cmd host => Sys2Proof.Machine.execCheckVerify cmd host s
  | .chkCfgWrite off v => Sys2Proof.Machine.execChkCfgWrite off v s
  | .random cmd host => Sys2Proof.Machine.execRandom cmd host s
  | .randomCtx cmd host => Sys2Proof.Machine.execRandomCtx cmd host s
  | .rawCapture cmd host samples fails fb => Sys2Proof.Machine.execRawCapture cmd host samples fails fb s
  | .batch cmd host => Sys2Proof.Machine.execBatch cmd host s
  | .campaign cmd host => Sys2Proof.Machine.execCampaign cmd host s
  | .abortBatch cmd host => Sys2Proof.Machine.execAbortBatch cmd host s
  | .batchMemberDispatch batch rec => Sys2Proof.Machine.execBatchMemberDispatch batch rec s
  | .kernelCommand cmd host => Sys2Proof.Machine.execKernelCommand cmd host s
  | .validationPhaseTimeout c => Sys2Proof.Machine.execValidationPhaseTimeout c s
  | .kernelWatchdog c => Sys2Proof.Machine.execKernelWatchdog c s
  | .spongeClaimGrant cl => Sys2Proof.Machine.execSpongeClaimGrant cl s
  | .sramAllotGrant cl => Sys2Proof.Machine.execSramAllotGrant cl s
  | .maskStreamResume c => Sys2Proof.Machine.execMaskStreamResume c s
  | .entChunkArrival cmd => Sys2Proof.Machine.execEntChunkArrival cmd s
  | .slideRefillDone c data => Sys2Proof.Machine.execSlideRefillDone c data s
  | .kldDelivered c => Sys2Proof.Machine.execKldDelivered c s
  | .pvcScrubDone c => Sys2Proof.Machine.execPvcScrubDone c s
  | .nop c d a b => Sys2Proof.Machine.execNop c d a b s
  | .add c d a b => Sys2Proof.Machine.execAdd c d a b s
  | .sub c d a b => Sys2Proof.Machine.execSub c d a b s
  | .and c d a b => Sys2Proof.Machine.execAnd c d a b s
  | .or c d a b => Sys2Proof.Machine.execOr c d a b s
  | .xor c d a b => Sys2Proof.Machine.execXor c d a b s
  | .sll c d a b => Sys2Proof.Machine.execSll c d a b s
  | .srl c d a b => Sys2Proof.Machine.execSrl c d a b s
  | .sra c d a b => Sys2Proof.Machine.execSra c d a b s
  | .slt c d a b => Sys2Proof.Machine.execSlt c d a b s
  | .sltu c d a b => Sys2Proof.Machine.execSltu c d a b s
  | .mul c d a b => Sys2Proof.Machine.execMul c d a b s
  | .mulh c d a b => Sys2Proof.Machine.execMulh c d a b s
  | .mulhu c d a b => Sys2Proof.Machine.execMulhu c d a b s
  | .min c d a b => Sys2Proof.Machine.execMin c d a b s
  | .max c d a b => Sys2Proof.Machine.execMax c d a b s
  | .minu c d a b => Sys2Proof.Machine.execMinu c d a b s
  | .maxu c d a b => Sys2Proof.Machine.execMaxu c d a b s
  | .slli c d a b => Sys2Proof.Machine.execSlli c d a b s
  | .srli c d a b => Sys2Proof.Machine.execSrli c d a b s
  | .srai c d a b => Sys2Proof.Machine.execSrai c d a b s
  | .jr c d a b => Sys2Proof.Machine.execJr c d a b s
  | .addm c e m d a b => Sys2Proof.Machine.execAddm c e m d a b s
  | .subm c e m d a b => Sys2Proof.Machine.execSubm c e m d a b s
  | .mulm c e m d a b => Sys2Proof.Machine.execMulm c e m d a b s
  | .mulb c e m d a b => Sys2Proof.Machine.execMulb c e m d a b s
  | .redb c e m d a b => Sys2Proof.Machine.execRedb c e m d a b s
  | .addi c d a imm => Sys2Proof.Machine.execAddi c d a imm s
  | .andi c d a imm => Sys2Proof.Machine.execAndi c d a imm s
  | .ori c d a imm => Sys2Proof.Machine.execOri c d a imm s
  | .xori c d a imm => Sys2Proof.Machine.execXori c d a imm s
  | .lui c d a imm => Sys2Proof.Machine.execLui c d a imm s
  | .slti c d a imm => Sys2Proof.Machine.execSlti c d a imm s
  | .lw c d a imm => Sys2Proof.Machine.execLw c d a imm s
  | .lh c d a imm => Sys2Proof.Machine.execLh c d a imm s
  | .lhu c d a imm => Sys2Proof.Machine.execLhu c d a imm s
  | .lbu c d a imm => Sys2Proof.Machine.execLbu c d a imm s
  | .sw c d a imm => Sys2Proof.Machine.execSw c d a imm s
  | .sh c d a imm => Sys2Proof.Machine.execSh c d a imm s
  | .sb c d a imm => Sys2Proof.Machine.execSb c d a imm s
  | .beq c a b off => Sys2Proof.Machine.execBeq c a b off s
  | .bne c a b off => Sys2Proof.Machine.execBne c a b off s
  | .blt c a b off => Sys2Proof.Machine.execBlt c a b off s
  | .bge c a b off => Sys2Proof.Machine.execBge c a b off s
  | .bltu c a b off => Sys2Proof.Machine.execBltu c a b off s
  | .bgeu c a b off => Sys2Proof.Machine.execBgeu c a b off s
  | .j c off => Sys2Proof.Machine.execJ c off s
  | .jal c off => Sys2Proof.Machine.execJal c off s
  | .fld c d a imm => Sys2Proof.Machine.execFld c d a imm s
  | .fst c d a imm => Sys2Proof.Machine.execFst c d a imm s
  | .fadd c d a b => Sys2Proof.Machine.execFadd c d a b s
  | .fsub c d a b => Sys2Proof.Machine.execFsub c d a b s
  | .fmul c d a b => Sys2Proof.Machine.execFmul c d a b s
  | .fdiv c d a b => Sys2Proof.Machine.execFdiv c d a b s
  | .fsqrt c d a b => Sys2Proof.Machine.execFsqrt c d a b s
  | .fmadd c d a b => Sys2Proof.Machine.execFmadd c d a b s
  | .fneg c d a b => Sys2Proof.Machine.execFneg c d a b s
  | .fabs c d a b => Sys2Proof.Machine.execFabs c d a b s
  | .frint c d a b => Sys2Proof.Machine.execFrint c d a b s
  | .ffloor c d a b => Sys2Proof.Machine.execFfloor c d a b s
  | .fcvtFS c d a b => Sys2Proof.Machine.execFcvtFS c d a b s
  | .fcvtSF c d a b => Sys2Proof.Machine.execFcvtSF c d a b s
  | .flt c d a b => Sys2Proof.Machine.execFlt c d a b s
  | .feq c d a b => Sys2Proof.Machine.execFeq c d a b s
  | .fmvSLo c d a b => Sys2Proof.Machine.execFmvSLo c d a b s
  | .fmvSHi c d a b => Sys2Proof.Machine.execFmvSHi c d a b s
  | .fmvF c d a b => Sys2Proof.Machine.execFmvF c d a b s
  | .exit c d a b => Sys2Proof.Machine.execExit c d a b s
  | .eret c d a b => Sys2Proof.Machine.execEret c d a b s
  | .valend c d a b => Sys2Proof.Machine.execValend c d a b s
  | .setlenH c d a b => Sys2Proof.Machine.execSetlenH c d a b s
  | .setlenW c d a b => Sys2Proof.Machine.execSetlenW c d a b s
  | .mfc c d a b => Sys2Proof.Machine.execMfc c d a b s
  | .mtc c d a b => Sys2Proof.Machine.execMtc c d a b s
  | .slide c d a b => Sys2Proof.Machine.execSlide c d a b s
  | .kldP1 c d a b => Sys2Proof.Machine.execKldP1 c d a b s
  | .kldU1 c d a b => Sys2Proof.Machine.execKldU1 c d a b s
  | .kldP2 c d a b => Sys2Proof.Machine.execKldP2 c d a b s
  | .kldU2 c d a b => Sys2Proof.Machine.execKldU2 c d a b s
  | .kldC c d a b => Sys2Proof.Machine.execKldC c d a b s
  | .ent c d a b => Sys2Proof.Machine.execEnt c d a b s
  | .dclW c d a b => Sys2Proof.Machine.execDclW c d a b s
  | .dclM c d a b => Sys2Proof.Machine.execDclM c d a b s
  | .ctxst c d a b => Sys2Proof.Machine.execCtxst c d a b s
  | .vadd c d a b p l e => Sys2Proof.Machine.execVadd c d a b p l e s
  | .vsub c d a b p l e => Sys2Proof.Machine.execVsub c d a b p l e s
  | .vsadd c d a b p l e => Sys2Proof.Machine.execVsadd c d a b p l e s
  | .vssub c d a b p l e => Sys2Proof.Machine.execVssub c d a b p l e s
  | .vsaddu c d a b p l e => Sys2Proof.Machine.execVsaddu c d a b p l e s
  | .vssubu c d a b p l e => Sys2Proof.Machine.execVssubu c d a b p l e s
  | .vmul c d a b p l e => Sys2Proof.Machine.execVmul c d a b p l e s
  | .vmulh c d a b p l e => Sys2Proof.Machine.execVmulh c d a b p l e s
  | .vmulhu c d a b p l e => Sys2Proof.Machine.execVmulhu c d a b p l e s
  | .vmulhr c d a b p l e => Sys2Proof.Machine.execVmulhr c d a b p l e s
  | .vqdmulhr c d a b p l e => Sys2Proof.Machine.execVqdmulhr c d a b p l e s
  | .vand c d a b p l e => Sys2Proof.Machine.execVand c d a b p l e s
  | .vor c d a b p l e => Sys2Proof.Machine.execVor c d a b p l e s
  | .vxor c d a b p l e => Sys2Proof.Machine.execVxor c d a b p l e s
  | .vandn c d a b p l e => Sys2Proof.Machine.execVandn c d a b p l e s
  | .vshl c d a b p l e => Sys2Proof.Machine.execVshl c d a b p l e s
  | .vshr c d a b p l e => Sys2Proof.Machine.execVshr c d a b p l e s
  | .vsra c d a b p l e => Sys2Proof.Machine.execVsra c d a b p l e s
  | .vshrr c d a b p l e => Sys2Proof.Machine.execVshrr c d a b p l e s
  | .vshrru c d a b p l e => Sys2Proof.Machine.execVshrru c d a b p l e s
  | .vmin c d a b p l e => Sys2Proof.Machine.execVmin c d a b p l e s
  | .vmax c d a b p l e => Sys2Proof.Machine.execVmax c d a b p l e s
  | .vminu c d a b p l e => Sys2Proof.Machine.execVminu c d a b p l e s
  | .vmaxu c d a b p l e => Sys2Proof.Machine.execVmaxu c d a b p l e s
  | .vsel c d a b p l e => Sys2Proof.Machine.execVsel c d a b p l e s
  | .vmov c d a b p l e => Sys2Proof.Machine.execVmov c d a b p l e s
  | .vsplat c d a b p l e => Sys2Proof.Machine.execVsplat c d a b p l e s
  | .vext c d a b p l e => Sys2Proof.Machine.execVext c d a b p l e s
  | .vins c d a b p l e => Sys2Proof.Machine.execVins c d a b p l e s
  | .vclmul c d a b p l e => Sys2Proof.Machine.execVclmul c d a b p l e s
  | .vgfmul c d a b p l e => Sys2Proof.Machine.execVgfmul c d a b p l e s
  | .va2b c d a b p l e => Sys2Proof.Machine.execVa2b c d a b p l e s
  | .vb2a c d a b p l e => Sys2Proof.Machine.execVb2a c d a b p l e s
  | .vb2aq c m d a b p l e => Sys2Proof.Machine.execVb2aq c m d a b p l e s
  | .vaddi c d a p l e imm => Sys2Proof.Machine.execVaddi c d a p l e imm s
  | .vshli c d a p l e imm => Sys2Proof.Machine.execVshli c d a p l e imm s
  | .vshri c d a p l e imm => Sys2Proof.Machine.execVshri c d a p l e imm s
  | .vsrai c d a p l e imm => Sys2Proof.Machine.execVsrai c d a p l e imm s
  | .vshrri c d a p l e imm => Sys2Proof.Machine.execVshrri c d a p l e imm s
  | .vshrrui c d a p l e imm => Sys2Proof.Machine.execVshrrui c d a p l e imm s
  | .vsplati c d a p l e imm => Sys2Proof.Machine.execVsplati c d a p l e imm s
  | .vandi c d a p l e imm => Sys2Proof.Machine.execVandi c d a p l e imm s
  | .vcmpEq c d a b p l e => Sys2Proof.Machine.execVcmpEq c d a b p l e s
  | .vcmpNe c d a b p l e => Sys2Proof.Machine.execVcmpNe c d a b p l e s
  | .vcmpLt c d a b p l e => Sys2Proof.Machine.execVcmpLt c d a b p l e s
  | .vcmpGe c d a b p l e => Sys2Proof.Machine.execVcmpGe c d a b p l e s
  | .vcmpLtu c d a b p l e => Sys2Proof.Machine.execVcmpLtu c d a b p l e s
  | .vcmpGeu c d a b p l e => Sys2Proof.Machine.execVcmpGeu c d a b p l e s
  | .vaddm c m d a b p l e => Sys2Proof.Machine.execVaddm c m d a b p l e s
  | .vsubm c m d a b p l e => Sys2Proof.Machine.execVsubm c m d a b p l e s
  | .vnegm c m d a b p l e => Sys2Proof.Machine.execVnegm c m d a b p l e s
  | .vmulm c m d a b p l e => Sys2Proof.Machine.execVmulm c m d a b p l e s
  | .vmulb c m d a b p l e => Sys2Proof.Machine.execVmulb c m d a b p l e s
  | .vredb c m d a b p l e => Sys2Proof.Machine.execVredb c m d a b p l e s
  | .vredm c m d a b p l e => Sys2Proof.Machine.execVredm c m d a b p l e s
  | .vreds c m d a b p l e => Sys2Proof.Machine.execVreds c m d a b p l e s
  | .vcent c m d a b p l e => Sys2Proof.Machine.execVcent c m d a b p l e s
  | .bfct c m d a b p l e => Sys2Proof.Machine.execBfct c m d a b p l e s
  | .bfgs c m d a b p l e => Sys2Proof.Machine.execBfgs c m d a b p l e s
  | .vcompr c m d a p l e imm => Sys2Proof.Machine.execVcompr c m d a p l e imm s
  | .vdecompr c m d a p l e imm => Sys2Proof.Machine.execVdecompr c m d a p l e imm s
  | .vpack c d a p l e imm => Sys2Proof.Machine.execVpack c d a p l e imm s
  | .vunpack c d a p l e imm => Sys2Proof.Machine.execVunpack c d a p l e imm s
  | .pand c d a b p l e => Sys2Proof.Machine.execPand c d a b p l e s
  | .por c d a b p l e => Sys2Proof.Machine.execPor c d a b p l e s
  | .pxor c d a b p l e => Sys2Proof.Machine.execPxor c d a b p l e s
  | .pandn c d a b p l e => Sys2Proof.Machine.execPandn c d a b p l e s
  | .plen c d a b p l e => Sys2Proof.Machine.execPlen c d a b p l e s
  | .pcnt c d a b p l e => Sys2Proof.Machine.execPcnt c d a b p l e s
  | .vld c d a p l e off => Sys2Proof.Machine.execVld c d a p l e off s
  | .vst c d a p l e off => Sys2Proof.Machine.execVst c d a p l e off s
  | .vldb c d a b p l e => Sys2Proof.Machine.execVldb c d a b p l e s
  | .vstb c d a b p l e => Sys2Proof.Machine.execVstb c d a b p l e s
  | .vgath c d a b p l e => Sys2Proof.Machine.execVgath c d a b p l e s
  | .vscat c d a b p l e => Sys2Proof.Machine.execVscat c d a b p l e s
  | .sclaim c d a b p l e => Sys2Proof.Machine.execSclaim c d a b p l e s
  | .sclaim2 c d a b p l e => Sys2Proof.Machine.execSclaim2 c d a b p l e s
  | .sabs c d a b p l e => Sys2Proof.Machine.execSabs c d a b p l e s
  | .sabsb c d a b p l e => Sys2Proof.Machine.execSabsb c d a b p l e s
  | .sfin c d a b p l e => Sys2Proof.Machine.execSfin c d a b p l e s
  | .ssqz c d a b p l e => Sys2Proof.Machine.execSsqz c d a b p l e s
  | .srel c d a b p l e => Sys2Proof.Machine.execSrel c d a b p l e s
  | .vrej c mode unit z m d a b p l e => Sys2Proof.Machine.execVrej c mode unit z m d a b p l e s
  | .dedicationDrainTimeout => Sys2Proof.Machine.execDedicationDrainTimeout s
  | .applyClustersDone => Sys2Proof.Machine.execApplyClustersDone s
  | .vfmSel v => Sys2Proof.Machine.execVfmSel v s
  | .applyAllot v => Sys2Proof.Machine.execApplyAllot v s
  | .applyCtx v => Sys2Proof.Machine.execApplyCtx v s
  | .applyInflight v => Sys2Proof.Machine.execApplyInflight v s
  | .applyKey v => Sys2Proof.Machine.execApplyKey v s
  | .applyClusters v => Sys2Proof.Machine.execApplyClusters v s
  | .applyOpm v => Sys2Proof.Machine.execApplyOpm v s
  | .applySpill v => Sys2Proof.Machine.execApplySpill v s
  | .quiesceStart v => Sys2Proof.Machine.execQuiesceStart v s
  | .quiesceRelease v => Sys2Proof.Machine.execQuiesceRelease v s
  | .quiesceDone fn => Sys2Proof.Machine.execQuiesceDone fn s
  | .flr fn => Sys2Proof.Machine.execFlr fn s
  | .flrDone fn => Sys2Proof.Machine.execFlrDone fn s
  | .readDrainTimeout fn => Sys2Proof.Machine.execReadDrainTimeout fn s
  | .pf0Flr => Sys2Proof.Machine.execPf0Flr s
  | .vfEnableClear => Sys2Proof.Machine.execVfEnableClear s
  | .vfEnableSet => Sys2Proof.Machine.execVfEnableSet s
  | .numvfsWrite n => Sys2Proof.Machine.execNumvfsWrite n s
  | .mbxGo fn ch => Sys2Proof.Machine.execMbxGo fn ch s
  | .mbxCancel fn ch => Sys2Proof.Machine.execMbxCancel fn ch s
  | .mbxAck fn ch => Sys2Proof.Machine.execMbxAck fn ch s
  | .devInfo fn ch => Sys2Proof.Machine.execDevInfo fn ch s
  | .configRead fn ch => Sys2Proof.Machine.execConfigRead fn ch s
  | .configPush fn ch req => Sys2Proof.Machine.execConfigPush fn ch req s
  | .curveRecordChecked n => Sys2Proof.Machine.execCurveRecordChecked n s
  | .curveSwitch n => Sys2Proof.Machine.execCurveSwitch n s
  | .outcomeQuery fn ch => Sys2Proof.Machine.execOutcomeQuery fn ch s
  | .resQuery fn ch => Sys2Proof.Machine.execResQuery fn ch s
  | .fnQuiesce fn ch => Sys2Proof.Machine.execFnQuiesce fn ch s
  | .keyList fn ch => Sys2Proof.Machine.execKeyList fn ch s
  | .keyDestroyFn fn ch => Sys2Proof.Machine.execKeyDestroyFn fn ch s
  | .setPolicy fn ch => Sys2Proof.Machine.execSetPolicy fn ch s
  | .setLeafBlock fn ch => Sys2Proof.Machine.execSetLeafBlock fn ch s
  | .ackLost fn ch => Sys2Proof.Machine.execAckLost fn ch s
  | .ckArea fn ch => Sys2Proof.Machine.execCkArea fn ch s
  | .kernelLoad fn ch req => Sys2Proof.Machine.execKernelLoad fn ch req s
  | .kernelUnload fn ch => Sys2Proof.Machine.execKernelUnload fn ch s
  | .kernelUnloadDone op => Sys2Proof.Machine.execKernelUnloadDone op s
  | .grant fn ch => Sys2Proof.Machine.execGrant fn ch s
  | .revoke fn ch => Sys2Proof.Machine.execRevoke fn ch s
  | .signerSet fn ch req => Sys2Proof.Machine.execSignerSet fn ch req s
  | .signerClear fn ch => Sys2Proof.Machine.execSignerClear fn ch s
  | .kernelList fn ch => Sys2Proof.Machine.execKernelList fn ch s
  | .attest fn ch req => Sys2Proof.Machine.execAttest fn ch req s
  | .sillageRead fn ch => Sys2Proof.Machine.execSillageRead fn ch s
  | .certRead fn ch => Sys2Proof.Machine.execCertRead fn ch s
  | .lcTransition fn ch req => Sys2Proof.Machine.execLcTransition fn ch req s
  | .debugChallenge fn ch => Sys2Proof.Machine.execDebugChallenge fn ch s
  | .debugResponse fn ch req => Sys2Proof.Machine.execDebugResponse fn ch req s
  | .lcsDbgEnd v => Sys2Proof.Machine.execLcsDbgEnd v s
  | .debugSessionExpiry => Sys2Proof.Machine.execDebugSessionExpiry s
  | .nonceExpiry purpose => Sys2Proof.Machine.execNonceExpiry purpose s
  | .tmpConfig fn ch req => Sys2Proof.Machine.execTmpConfig fn ch req s
  | .tmpLock fn ch => Sys2Proof.Machine.execTmpLock fn ch s
  | .peatLogRead fn ch => Sys2Proof.Machine.execPeatLogRead fn ch s
  | .spillFn fn ch => Sys2Proof.Machine.execSpillFn fn ch s
  | .rekey fn ch => Sys2Proof.Machine.execRekey fn ch s
  | .rejoin fn ch => Sys2Proof.Machine.execRejoin fn ch s
  | .create fn ch req => Sys2Proof.Machine.execCreate fn ch req s
  | .join fn ch req => Sys2Proof.Machine.execJoin fn ch req s
  | .addKey fn ch => Sys2Proof.Machine.execAddKey fn ch s
  | .leave fn ch => Sys2Proof.Machine.execLeave fn ch s
  | .status fn ch => Sys2Proof.Machine.execStatus fn ch s
  | .fabRestore fn ch => Sys2Proof.Machine.execFabRestore fn ch s
  | .quorumOpen fn ch req => Sys2Proof.Machine.execQuorumOpen fn ch req s
  | .quorumClose fn ch => Sys2Proof.Machine.execQuorumClose fn ch s
  | .quorumWaitTimeout => Sys2Proof.Machine.execQuorumWaitTimeout s
  | .quorumLifetimeExpiry => Sys2Proof.Machine.execQuorumLifetimeExpiry s
  | .escrowWrite fn ch req => Sys2Proof.Machine.execEscrowWrite fn ch req s
  | .escrowRestore fn ch => Sys2Proof.Machine.execEscrowRestore fn ch s
  | .fwStage fn ch req => Sys2Proof.Machine.execFwStage fn ch req s
  | .fwVerify fn ch => Sys2Proof.Machine.execFwVerify fn ch s
  | .fwActivate fn ch => Sys2Proof.Machine.execFwActivate fn ch s
  | .fwConfirm fn ch => Sys2Proof.Machine.execFwConfirm fn ch s
  | .fwCommitSvn fn ch => Sys2Proof.Machine.execFwCommitSvn fn ch s
  | .fwStatus fn ch => Sys2Proof.Machine.execFwStatus fn ch s
  | .kindlingLoad fn ch req => Sys2Proof.Machine.execKindlingLoad fn ch req s
  | .trialReadyTimeout => Sys2Proof.Machine.execTrialReadyTimeout s
  | .lockstepMismatch => Sys2Proof.Machine.execLockstepMismatch s
  | .pairSelftestDone pass => Sys2Proof.Machine.execPairSelftestDone pass s
  | .dispatchWatchdog core jobs => Sys2Proof.Machine.execDispatchWatchdog core jobs s
  | .hearthWatchdog => Sys2Proof.Machine.execHearthWatchdog s
  | .vinValid a b c => Sys2Proof.Machine.execVinValid a b c s
  | .vinLoss cell => Sys2Proof.Machine.execVinLoss cell s
  | .vinOvervoltage cell => Sys2Proof.Machine.execVinOvervoltage cell s
  | .bellowsDecision v v50 => Sys2Proof.Machine.execBellowsDecision v v50 s
  | .domainRampDone d => Sys2Proof.Machine.execDomainRampDone d s
  | .admissionTestDone unit pass => Sys2Proof.Machine.execAdmissionTestDone unit pass s
  | .idleGate d => Sys2Proof.Machine.execIdleGate d s
  | .vinDerate v => Sys2Proof.Machine.execVinDerate v s
  | .inputCurrentLimit v => Sys2Proof.Machine.execInputCurrentLimit v s
  | .wakePermitFound => Sys2Proof.Machine.execWakePermitFound s
  | .permitHoldTimeout => Sys2Proof.Machine.execPermitHoldTimeout s
  | .permitWaitTimeout => Sys2Proof.Machine.execPermitWaitTimeout s
  | .resetNAssert => Sys2Proof.Machine.execResetNAssert s
  | .resetExit a b c => Sys2Proof.Machine.execResetExit a b c s
  | .heldOff => Sys2Proof.Machine.execHeldOff s
  | .heldOffRelease a b c => Sys2Proof.Machine.execHeldOffRelease a b c s
  | .perstNFall => Sys2Proof.Machine.execPerstNFall s
  | .perstNRise => Sys2Proof.Machine.execPerstNRise s
  | .thermalTrip => Sys2Proof.Machine.execThermalTrip s
  | .thermalRecover => Sys2Proof.Machine.execThermalRecover s
  | .vioLow => Sys2Proof.Machine.execVioLow s
  | .vioRestored => Sys2Proof.Machine.execVioRestored s
  | .rstCtrlFull v => Sys2Proof.Machine.execRstCtrlFull v s
  | .rstCtrlHio v => Sys2Proof.Machine.execRstCtrlHio v s
  | .softwareResetStart => Sys2Proof.Machine.execSoftwareResetStart s
  | .kindlingStart dud => Sys2Proof.Machine.execKindlingStart dud s
  | .firmwareStart found => Sys2Proof.Machine.execFirmwareStart found s
  | .smbusRead bus code => Sys2Proof.Machine.execSmbusRead bus code s
  | .tamperEvent src chans => Sys2Proof.Machine.execTamperEvent src chans s
  | .eraseLineRelease => Sys2Proof.Machine.execEraseLineRelease s
  | .tmpBistInterval rails => Sys2Proof.Machine.execTmpBistInterval rails s
  | .tmpTestGo v => Sys2Proof.Machine.execTmpTestGo v s
  | .tmpChannelTestDone pass => Sys2Proof.Machine.execTmpChannelTestDone pass s
  | .peatScan fails => Sys2Proof.Machine.execPeatScan fails s
  | .vbatBackupAlarm gone => Sys2Proof.Machine.execVbatBackupAlarm gone s
  | .peatRtcHiWrite v => Sys2Proof.Machine.execPeatRtcHiWrite v s
  | .peatRtcLoWrite v => Sys2Proof.Machine.execPeatRtcLoWrite v s
  | .peatCntInc v => Sys2Proof.Machine.execPeatCntInc v s
  | .nrgWindowEnd obs => Sys2Proof.Machine.execNrgWindowEnd obs s
  | .nrgBlock take => Sys2Proof.Machine.execNrgBlock take s
  | .keyGradeGrant => Sys2Proof.Machine.execKeyGradeGrant s
  | .nrgWaitLimit who => Sys2Proof.Machine.execNrgWaitLimit who s
  | .nrgRestart => Sys2Proof.Machine.execNrgRestart s
  | .nrgStartupDone g fb obs => Sys2Proof.Machine.execNrgStartupDone g fb obs s
  | .expanderReseedRequest e => Sys2Proof.Machine.execExpanderReseedRequest e s
  | .expanderUrgent e => Sys2Proof.Machine.execExpanderUrgent e s
  | .expanderHardLimit e => Sys2Proof.Machine.execExpanderHardLimit e s
  | .fltEvent src cls arg => Sys2Proof.Machine.execFltEvent src cls arg s
  | .fltRailBreak src cls => Sys2Proof.Machine.execFltRailBreak src cls s
  | .flueTransferError region chan => Sys2Proof.Machine.execFlueTransferError region chan s
  | .flueHandshakeTimeout region chan => Sys2Proof.Machine.execFlueHandshakeTimeout region chan s
  | .unitSelftestDone u pass => Sys2Proof.Machine.execUnitSelftestDone u pass s
  | .scPresence port => Sys2Proof.Machine.execScPresence port s
  | .scAtr port atr pps => Sys2Proof.Machine.execScAtr port atr pps s
  | .scAtrTimeout port => Sys2Proof.Machine.execScAtrTimeout port s
  | .scApduResponse port resp => Sys2Proof.Machine.execScApduResponse port resp s
  | .scApduTimeout port => Sys2Proof.Machine.execScApduTimeout port s
  | .scRemoval port => Sys2Proof.Machine.execScRemoval port s
  | .cardOvercurrent port => Sys2Proof.Machine.execCardOvercurrent port s
  | .mc0Insert card => Sys2Proof.Machine.execMc0Insert card s
  | .mc0Remove => Sys2Proof.Machine.execMc0Remove s
  | .mc0BusyEnd answered good back => Sys2Proof.Machine.execMc0BusyEnd answered good back s
  | .mc0BusyTimeout => Sys2Proof.Machine.execMc0BusyTimeout s
  | .mc0IdleSleep => Sys2Proof.Machine.execMc0IdleSleep s
  | .wolumTrainingDone k lanes => Sys2Proof.Machine.execWolumTrainingDone k lanes s
  | .linkHandshakeMessage k m => Sys2Proof.Machine.execLinkHandshakeMessage k m s
  | .wolumFlitReceive k errs flit => Sys2Proof.Machine.execWolumFlitReceive k errs flit s
  | .linkRekeyTimer k => Sys2Proof.Machine.execLinkRekeyTimer k s
  | .helloTimer => Sys2Proof.Machine.execHelloTimer s
  | .helloReceive k h => Sys2Proof.Machine.execHelloReceive k h s
  | .linkStateReceive k addr ports => Sys2Proof.Machine.execLinkStateReceive k addr ports s
  | .e2eResendTimeout msg => Sys2Proof.Machine.execE2eResendTimeout msg s
  | .fabricMessage src id body => Sys2Proof.Machine.execFabricMessage src id body s
  | .spillPeerTimeout cmd => Sys2Proof.Machine.execSpillPeerTimeout cmd s
  | .syncPulseOut => Sys2Proof.Machine.execSyncPulseOut s
  | .syncInPulse => Sys2Proof.Machine.execSyncInPulse s
  | .fabricTimeSync ts => Sys2Proof.Machine.execFabricTimeSync ts s
  | .srdLbGo v jtag => Sys2Proof.Machine.execSrdLbGo v jtag s
  | .srdLbStop v errs bits => Sys2Proof.Machine.execSrdLbStop v errs bits s
  | .srdUnitTestGo v => Sys2Proof.Machine.execSrdUnitTestGo v s
  | .injectFltEvent v => Sys2Proof.Machine.execInjectFltEvent v s
  | .injectRunCorruption v => Sys2Proof.Machine.execInjectRunCorruption v s
  | .injectTamperChannel v => Sys2Proof.Machine.execInjectTamperChannel v s
  | .injectTamperAlarm v => Sys2Proof.Machine.execInjectTamperAlarm v s
  | .opmWindowWrite off v => Sys2Proof.Machine.execOpmWindowWrite off v s
  | .opmWindowRead off => Sys2Proof.Machine.execOpmWindowRead off s
  | .pvcDiagViewWrite cl off v => Sys2Proof.Machine.execPvcDiagViewWrite cl off v s
  | .rcRead fn bar off be => Sys2Proof.Machine.execRcRead fn bar off be s
  | .registerWrite fn bar off v be => Sys2Proof.Machine.execRegisterWrite fn bar off v be s
  | .pcieLinkUp => Sys2Proof.Machine.execPcieLinkUp s
  | .wolumPortDown k => Sys2Proof.Machine.execWolumPortDown k s
  | .scWaitingTimeExpiry port => Sys2Proof.Machine.execScWaitingTimeExpiry port s
  | .jtagTapAccess trst ins data => Sys2Proof.Machine.execJtagTapAccess trst ins data s
  | .bootSpiAccess item => Sys2Proof.Machine.execBootSpiAccess item s

end Sys2Proof.Machine
end

