-- ==== Sys2Proof/Machine/Step.lean ====
section
/-! DEFINITION. One step of the block: the command at the front of the queue, or the passing of 10 ns where none waits. -/
namespace Sys2Proof.Machine
open Sys2Proof

/-- One step: the command at the front of the queue takes effect on the state with the rest of the queue. -/
def step (s : State) : Host.Outcome State Fault Refusal :=
  match s.pending with
  | [] => .next s.tick
  | c :: t => exec c { s with pending := t }

/-- The state with the command that a table word spells put at the front of its queue: the table's words spell none. -/
def State.withFetchWord (s : State) (nbits w : Nat) : State :=
  match decodeTableWord nbits w with
  | some c => { s with pending := c :: s.pending }
  | none => s

end Sys2Proof.Machine
end

