-- ==== Sys2Proof/Safety.lean ====
section
/-!
DEFINITION. What counts as a safe run, and the conditions on a state under which the commands of a family have their own effect.
-/
namespace Sys2Proof
open Sys2Proof.Machine

/-! Runs. -/

/-- A step is safe when it answers a next state: no rule of the spec stops the block (log entry 2). -/
def SafeStep (s : State) : Prop := ∃ t, step s = .next t

/-- States that steps lead to. -/
inductive Reaches : State → State → Prop where
  | here (s : State) : Reaches s s
  | step (s t u : State) (h : Reaches s t) (k : Machine.step t = .next u) : Reaches s u

/-! Fuses (R347, R348, R351). -/

/-- The banks of fuses have their sizes: five slots of 32, 24 markers of 4, and 8 of the root-kill. -/
def FuseForm (s : State) : Prop :=
  s.lc.slots.length = 5 ∧ (∀ v ∈ s.lc.slots, v < 2 ^ 32) ∧ s.lc.markers.length = 24 ∧ (∀ v ∈ s.lc.markers, v < 16) ∧ s.lc.rootKill < 256

/-- Every fuse blown in m is blown in n. -/
def BlownIn (m n : Nat) : Prop := ∀ i, m.testBit i = true → n.testBit i = true

/-- From s to t no fuse is restored, and the least security version never falls. -/
def FusesStay (s t : State) : Prop :=
  (∀ k, BlownIn (s.lc.slots.getD k 0) (t.lc.slots.getD k 0)) ∧ (∀ k, BlownIn (s.lc.markers.getD k 0) (t.lc.markers.getD k 0)) ∧
  BlownIn s.lc.rootKill t.lc.rootKill ∧ s.lc.minSvn ≤ t.lc.minSvn

/-! Vector cores. -/

/-- Core c holds the run p, which does not stall and fetches below its code length (R191, R195). -/
def Issues (s : State) (c : Nat) (p : Pvc) : Prop := mget s.pvcs c = some p ∧ p.stall = none ∧ p.pc.toNat < p.kern.codeLen ∧ p.defined = true

/-- The mask-stream expander of core c's cluster delivers (R168, R277). -/
def MasksFlow (s : State) (c : Nat) : Prop := (s.cluster (clusterOf c)).maskStall = false

/-- Core c waits for something (R165, R166, R168, R177, R182, R183) or its run has ended. -/
def Stalls (s : State) (c : Nat) (p : Pvc) (x : Stall) : Prop := mget s.pvcs c = some p ∧ p.stall = some x

/-- A scalar instruction that completes: S[d] becomes v with the tag of R178, the masks it draws are counted (R181), the rest of the
run moves on to the next word. -/
def scalarNext (c : Nat) (p : Pvc) (d : R5) (v : Word) (ts : List Tag) (need : Option Share) (ty : Share) (gadget : Bool) (s : State) : State :=
  drawMasks (clusterOf c) (sMasks need gadget ts)
    (s.setPvc c ((p.setS d v (mergeTag ts ty)).draw (sMasks need gadget ts)).next)

/-- A vector instruction that completes: element i of its destination becomes v i where it acts on i and the predicate allows (R174, R175),
with the tag of R178 and `draw` mask bytes (R181, R217). -/
def vectorNext (c : Nat) (p : Pvc) (l e : Bool) (pr : P3) (d : R5) (tags : List Tag) (ty : Share) (draw : Nat) (v : Nat → Nat) (s : State) : State :=
  let w := eWidth e
  drawMasks (clusterOf c) draw (s.setPvc c ((p.putSpan d (p.regs l e) w (pr != 0) (fun _ => mergeTag (p.pTag pr :: tags) ty)
    (fun i => if i < p.count l e && p.pbit pr w i then some (v i) else none)).draw draw).next)

/-- Mask bytes of a vector instruction (R181, R217, R218): 32 for each register of each converted operand, and `gadget` for each register of
an instruction with a tagged operand. -/
def vectorDraw (p : Pvc) (l e : Bool) (pr : P3) (tags : List Tag) (need : Option Share) (gadget : Nat) : Nat :=
  (match need with | some sh => 32 * p.regs l e * conversions tags sh | none => 0) +
    (if (p.pTag pr :: tags).any (·.isSome) then gadget * p.regs l e else 0)

/-- The spans named are in order (R172). -/
def SpansFit (p : Pvc) (l e : Bool) (bases : List R5) : Prop := p.spanBad l e (p.regs l e) bases = false

/-- The byte of a run's data memory, or from 0x100000 on of its shared-SRAM allotment, at a local address (06, local address map). -/
def Machine.Pvc.byteAt (p : Pvc) (a : Nat) : Byte := if a < 0x100000 then readByte p.mem a else readByte p.sram (a - 0x100000)

/-! Queue commands. -/

/-- The in-flight entry of a command that has passed validation steps 1 and 2 and whose operation's row comes next (R25). -/
def Started (s : State) (id : Nat) (c : Cmd) : Prop := mget s.cmds id = some c ∧ c.phase = .started

/-- Such a command whose turn it is: none fetched before it from its queue still waits to be validated, and no vendor kernel serves its opcode
(R102, R106, R191). -/
def MayStart (s : State) (id : Nat) (c : Cmd) : Prop := Started s id c ∧ s.behind id c = false ∧ s.vendorKernel c.op = false

/-! Management commands. -/

/-- A channel holds an accepted request with a code, of which nothing was done yet (R118). -/
def Accepted (s : State) (fn ch code : Nat) (r : MbxReq) : Prop :=
  mget s.mbx (mbxKey fn ch) = some r ∧ r.code = code ∧ r.started = false

/-- A channel presents the response p to the request r: its 16 words, DONE without BUSY and EARLY, nothing running (R115, R118). -/
def Responded (t : State) (fn ch : Nat) (r : MbxReq) (p : Reply) : Prop :=
  (∀ i, i < 16 → t.mrd fn ch (0x200 + 4 * i) = (p.wordsOf r).getD i 0) ∧
  t.mstat fn ch 1 = false ∧ t.mstat fn ch 2 = true ∧ t.mstat fn ch 3 = false ∧ mget t.mbx (mbxKey fn ch) = none

/-- A command of a channel ends with its effects, which t holds; a response that the buffer does not take leaves it undone (R118). -/
def answer (s t : State) (fn ch : Nat) (r : MbxReq) (p : Reply) : State :=
  if p.buf = [] ∨ (r.rext = true ∧ p.buf.length ≤ r.respCap) then t.mbxEnd (mbxKey fn ch) p
  else s.mbxEnd (mbxKey fn ch) ⟨St.OUTPUT_TOO_SMALL, [], [], p.buf.length, false⟩

/-- A command of a channel ends with a status and no effect. -/
def refuse (s : State) (fn ch st : Nat) : Host.Outcome State Fault Refusal := .next (s.mbxEnd (mbxKey fn ch) ⟨st, [], [], 0, false⟩)

/-- A command of a channel runs on in t. -/
def runsOn (t : State) (fn ch : Nat) : Host.Outcome State Fault Refusal :=
  .next { t with mbx := mmod t.mbx (mbxKey fn ch) (fun x => { x with started := true }) }

end Sys2Proof
end

