-- ==== Sys2Proof/Certificates/Slice0/Obligations.lean ====
section
/-!
DEFINITION. The statements for the provers. A statement over a list of commands holds for each command in the list; a state after a command
is given whole wherever the equation says so, which is its frame.
-/
open Sys2Proof Sys2Proof.Machine

/-! Scalar instructions of the vector cores (spec file 07). -/

/-- R199, R207: results, tags and mask draws of the register and immediate forms; the state after is given whole, so nothing else changes. -/
def Obligations.ScalarResults : Prop :=
  (∀ (s : State) (c : Nat) (p : Pvc) (d a b : R5), Issues s c p → MasksFlow s c →
      let A : Share := .arith
      let B : Share := .bool
      let of := fun (r : R5) (h : Share) => p.asType (p.getS r).t h (p.getS r).v
      let x := of a B
      let y := of b B
      let m := of a A
      let n := of b A
      let ts := [(p.getS a).t, (p.getS b).t]
      let sh := (p.getS b).t.isSome
      let both := (p.getS a).t.isSome && (p.getS b).t.isSome
      ∀ i v need ty gad, (i, v, need, ty, gad) ∈
        [(Instr.add c d a b, m + n, some A, A, false), (.sub c d a b, m - n, some A, A, false),
         (.and c d a b, x &&& y, some B, B, true), (.or c d a b, x ||| y, some B, B, true), (.xor c d a b, x ^^^ y, some B, B, false),
         (.sll c d a b, x <<< (y.toNat % 32), some B, B, sh), (.srl c d a b, x >>> (y.toNat % 32), some B, B, sh),
         (.sra c d a b, x.sshiftRight (y.toNat % 32), some B, B, sh),
         (.slt c d a b, if x.toInt < y.toInt then 1 else 0, some B, B, true),
         (.sltu c d a b, if x.toNat < y.toNat then 1 else 0, some B, B, true),
         (.mul c d a b, m * n, some A, A, both),
         (.mulh c d a b, BitVec.ofInt 32 (m.toInt * n.toInt / 2 ^ 32), some A, A, both),
         (.mulhu c d a b, BitVec.ofInt 32 ((m.toNat : Int) * n.toNat / 2 ^ 32), some A, A, both),
         (.min c d a b, if m.toInt < n.toInt then m else n, none, A, true),
         (.max c d a b, if m.toInt < n.toInt then n else m, none, A, true),
         (.minu c d a b, if m.toNat < n.toNat then m else n, none, A, true),
         (.maxu c d a b, if m.toNat < n.toNat then n else m, none, A, true)] →
        exec i s = .next (scalarNext c p d v ts need ty gad s)) ∧
  (∀ (s : State) (c : Nat) (p : Pvc) (d a b : R5) (imm : BitVec 16), Issues s c p → MasksFlow s c →
      let x := p.asType (p.getS a).t .bool (p.getS a).v
      let m := p.asType (p.getS a).t .arith (p.getS a).v
      let ts := [(p.getS a).t]
      let se : Word := imm.signExtend 32
      let ze : Word := imm.zeroExtend 32
      let A : Share := .arith
      let B : Share := .bool
      (∀ i v need ty gad, (i, v, need, ty, gad) ∈
        [(Instr.addi c d a imm, m + se, some A, A, false), (.andi c d a imm, x &&& ze, some B, B, true),
         (.ori c d a imm, x ||| ze, some B, B, true), (.xori c d a imm, x ^^^ ze, some B, B, false),
         (.slti c d a imm, if x.toInt < se.toInt then 1 else 0, some B, B, true),
         (.slli c d a b, x <<< b.toNat, some B, B, false), (.srli c d a b, x >>> b.toNat, some B, B, false),
         (.srai c d a b, x.sshiftRight b.toNat, some B, B, false)] →
        exec i s = .next (scalarNext c p d v ts need ty gad s)) ∧
      exec (.lui c d 0 imm) s = .next (s.setPvc c (p.setS d (ze <<< 16) none).next) ∧
      (a ≠ 0 → exec (.lui c d a imm) s = .next (takeTrap c p tcIllegal 0 p.pc 0 s)))

/-- R201, R169: residues of the scalar modular instructions, and the ILLEGAL trap of an unusable QM register. -/
def Obligations.ScalarModularResults : Prop :=
  ∀ (s : State) (c : Nat) (p : Pvc) (e : Bool) (m : BitVec 2) (d a b : R5), Issues s c p → MasksFlow s c →
    let q := p.q m
    let w := eWidth e
    let sh : Share := .arithq m
    let x := (p.asType (p.getS a).t sh (p.getS a).v).toNat % 2 ^ w
    let y := (p.asType (p.getS b).t sh (p.getS b).v).toNat % 2 ^ w
    let ts := [(p.getS a).t, (p.getS b).t]
    let out := fun (r : Nat) (ts : List Tag) (g : Bool) => scalarNext c p d (BitVec.ofNat 32 r) ts (some sh) sh g s
    (q % 2 = 1 → (e = false → q < 2 ^ 16) →
      exec (.addm c e m d a b) s = .next (out ((x + y) % q) ts false) ∧
      (∃ r : Nat, (r : Int) = ((x : Int) - y) % q ∧ exec (.subm c e m d a b) s = .next (out r ts false)) ∧
      (∃ r, r < q ∧ r * 2 ^ w % q = x * y % q ∧ exec (.mulm c e m d a b) s = .next (out r ts true)) ∧
      exec (.mulb c e m d a b) s = .next (out (x * y % q) ts true) ∧
      exec (.redb c e m d a 0) s = .next (out (x % q) [(p.getS a).t] true)) ∧
    (q = 0 ∨ (e = false ∧ 2 ^ 16 ≤ q) → ∀ i ∈ [Instr.addm c e m d a b, .subm c e m d a b, .mulm c e m d a b, .mulb c e m d a b,
        .redb c e m d a 0], exec i s = .next (takeTrap c p tcIllegal 0 p.pc 0 s)) ∧
    (b ≠ 0 → exec (.redb c e m d a b) s = .next (takeTrap c p tcIllegal 0 p.pc 0 s))

/-- R195, R179 and the scalar table of spec file 07: conditional branches, J, JAL and JR. -/
def Obligations.BranchesAndJumps : Prop :=
  ∀ (s : State) (c : Nat) (p : Pvc) (a b : R5) (off : BitVec 16) (far : BitVec 26), Issues s c p →
    let x := p.getS a
    let y := p.getS b
    let trap := fun (cause : Nat) (tpc : Word) => takeTrap c p cause 0 tpc 0 s
    (∀ i cond, (i, cond) ∈
      [(Instr.beq c a b off, x.v == y.v), (.bne c a b off, x.v != y.v), (.blt c a b off, decide (x.v.toInt < y.v.toInt)),
       (.bge c a b off, decide (y.v.toInt ≤ x.v.toInt)), (.bltu c a b off, decide (x.v.toNat < y.v.toNat)),
       (.bgeu c a b off, decide (y.v.toNat ≤ x.v.toNat))] →
      (x.t = none → y.t = none →
        exec i s = .next (s.setPvc c { p.next with pc := p.pc + if cond then off.signExtend 32 * 4 else 4 })) ∧
      (x.t.isSome ∨ y.t.isSome → exec i s = .next (trap tcBranch p.pc))) ∧
    exec (.j c far) s = .next (s.setPvc c { p.next with pc := p.pc + far.signExtend 32 * 4 }) ∧
    exec (.jal c far) s = .next (s.setPvc c { (p.setS 31 (p.pc + 4) none).next with pc := p.pc + far.signExtend 32 * 4 }) ∧
    (x.t = none → x.v.toNat % 4 = 0 → exec (.jr c 0 a 0) s = .next (s.setPvc c { p.next with pc := x.v })) ∧
    (x.t = none → x.v.toNat % 4 ≠ 0 → exec (.jr c 0 a 0) s = .next (trap tcAccess x.v)) ∧
    (x.t.isSome → exec (.jr c 0 a 0) s = .next (trap tcBranch p.pc)) ∧
    (∀ d, d ≠ 0 ∨ b ≠ 0 → exec (.jr c d a b) s = .next (trap tcIllegal p.pc))

/-- R199, R170, R176 to R179: the five scalar loads, their results and their traps. -/
def Obligations.ScalarLoads : Prop :=
  ∀ (s : State) (c : Nat) (p : Pvc) (d a : R5) (imm : BitVec 16), Issues s c p →
    let ad := ((p.getS a).v + imm.signExtend 32).toNat
    let at_ := BitVec.ofNat 32 ad
    ∀ (i : Instr) (n : Nat) (put : List Byte → Tag → Pvc), (i, n, put) ∈
      [(Instr.lw c d a imm, 4, fun l t => p.setS d (BitVec.ofNat 32 (leNat l)) t),
       (.lh c d a imm, 2, fun l t => p.setS d ((BitVec.ofNat 16 (leNat l)).signExtend 32) t),
       (.lhu c d a imm, 2, fun l t => p.setS d (BitVec.ofNat 32 (leNat l)) t),
       (.lbu c d a imm, 1, fun l t => p.setS d (BitVec.ofNat 32 (leNat l)) t),
       (.fld c d a imm, 8, fun l t => p.setW d ((((p.getW d).v >>> 64) <<< 64) ||| (BitVec.ofNat 64 (leNat l)).zeroExtend 256)
          (if t.isSome then t else (p.getW d).t))] →
      (∀ l t, (p.getS a).t = none → ad % n = 0 → p.load ad n = .bytes l t → exec i s = .next (s.setPvc c (put l t).next)) ∧
      (∀ k, (p.getS a).t = none → ad % n = 0 → p.load ad n = .cause k → exec i s = .next (takeTrap c p k 0 p.pc at_ s)) ∧
      ((p.getS a).t = none → ad % n ≠ 0 → exec i s = .next (takeTrap c p tcAccess 0 p.pc at_ s)) ∧
      ((p.getS a).t.isSome → exec i s = .next (takeTrap c p tcAddress 0 p.pc 0 s))

/-- R199, R176, R179: the four scalar stores with their frame; the address stored to is S[a] + sext(imm16). -/
def Obligations.ScalarStores : Prop :=
  ∀ (s : State) (c : Nat) (p : Pvc) (d a : R5) (imm : BitVec 16), Issues s c p →
    let ad := ((p.getS a).v + imm.signExtend 32).toNat
    let at_ := BitVec.ofNat 32 ad
    ∀ (i : Instr) (n : Nat) (v : Nat) (t : Tag), (i, n, v, t) ∈
      [(Instr.sw c d a imm, 4, (p.getS d).v.toNat, (p.getS d).t), (.sh c d a imm, 2, (p.getS d).v.toNat, (p.getS d).t),
       (.sb c d a imm, 1, (p.getS d).v.toNat, (p.getS d).t),
       (.fst c d a imm, 8, ((p.getW d).v.truncate 64 : DWord).toNat, (p.getW d).t)] →
      ((p.getS a).t = none → ad % n = 0 → p.storeCause ad n t.isSome = none →
        ∃ q, exec i s = .next (s.setPvc c q) ∧ q = { p.next with mem := q.mem, sram := q.sram, shares := q.shares } ∧
          (ad < 0x100000 → q.sram = p.sram ∧ (∀ k, k < n → readByte q.mem (ad + k) = BitVec.ofNat 8 (v / 256 ^ k)) ∧
            (∀ b, b < ad ∨ ad + n ≤ b → readByte q.mem b = readByte p.mem b)) ∧
          (0x100000 ≤ ad → q.mem = p.mem ∧ q.shares = p.shares ∧
            (∀ k, k < n → readByte q.sram (ad - 0x100000 + k) = BitVec.ofNat 8 (v / 256 ^ k)) ∧
            (∀ b, b < ad - 0x100000 ∨ ad - 0x100000 + n ≤ b → readByte q.sram b = readByte p.sram b))) ∧
      ((p.getS a).t = none → ad % n = 0 → p.storeCause ad n t.isSome = some tcAccess →
        exec i s = .next (takeTrap c p tcAccess 0 p.pc at_ s)) ∧
      ((p.getS a).t = none → ad % n = 0 → p.storeCause ad n t.isSome = some tcStore →
        exec i s = .next (takeTrap c p tcStore 0 p.pc 0 s)) ∧
      ((p.getS a).t = none → ad % n ≠ 0 → exec i s = .next (takeTrap c p tcAccess 0 p.pc at_ s)) ∧
      ((p.getS a).t.isSome → exec i s = .next (takeTrap c p tcAddress 0 p.pc 0 s))

/-- R170, R208, R181: the 17 floating-point instructions; the arithmetic is IEEE 754 binary64 as Flags.lean writes it out (log entry 7). -/
def Obligations.FloatResults : Prop :=
  ∀ (s : State) (c : Nat) (p : Pvc) (d a b : R5), Issues s c p → MasksFlow s c →
    let rec_ := fun (r : R5) => p.asType (p.getS r).t .bool (p.getS r).v
    let fa : DWord := (p.asType (p.getW a).t .bool (p.getW a).v).truncate 64
    let fb : DWord := (p.asType (p.getW b).t .bool (p.getW b).v).truncate 64
    let fd : DWord := (p.asType (p.getW d).t .bool (p.getW d).v).truncate 64
    let ta := (p.getW a).t
    let tb := (p.getW b).t
    let tagged := fun (ts : List Tag) => ts.any (·.isSome)
    let masks := fun (ops wb : Nat) (ts : List Tag) => wb * conversions ts .bool + (if tagged ts then 8 * ops else 0)
    let flags := fun (fl : BitVec 5) (ts : List Tag) (q : Pvc) => if tagged ts then q else { q with fpsr := q.fpsr ||| fl }
    let toFrom := fun (wb : Nat) (r : DWord × BitVec 5) (ops : Nat) (ts : List Tag) =>
      drawMasks (clusterOf c) (masks ops wb ts) (s.setPvc c ((flags r.2 ts
        (p.setW d ((((p.getW d).v >>> 64) <<< 64) ||| r.1.zeroExtend 256) (if tagged ts then some .bool else (p.getW d).t))).draw (masks ops wb ts)).next)
    let toF := toFrom 8
    let toS := fun (r : Word × BitVec 5) (ops : Nat) (ts : List Tag) =>
      drawMasks (clusterOf c) (masks ops 8 ts) (s.setPvc c ((flags r.2 ts (p.setS d r.1 (if tagged ts then some .bool else none))).draw (masks ops 8 ts)).next)
    (∀ i t, (i, t) ∈
      [(Instr.fadd c d a b, toF (fAdd fa fb) 1 [ta, tb]), (.fsub c d a b, toF (fSub fa fb) 1 [ta, tb]), (.fmul c d a b, toF (fMul fa fb) 1 [ta, tb]),
       (.fdiv c d a b, toF (fDiv fa fb) 6 [ta, tb]), (.fsqrt c d a 0, toF (fSqrt fa) 7 [ta]),
       (.fmadd c d a b, toF (fFma fa fb fd) 1 [ta, tb, (p.getW d).t]),
       (.fneg c d a 0, toF (fa ^^^ 0x8000000000000000#64, 0) 0 [ta]), (.fabs c d a 0, toF (fa &&& 0x7FFFFFFFFFFFFFFF#64, 0) 0 [ta]),
       (.frint c d a 0, toF (fRint fa) 1 [ta]), (.ffloor c d a 0, toF (fFloor fa) 1 [ta]),
       (.fcvtFS c d a 0, toFrom 4 (fOfInt (rec_ a)) 1 [(p.getS a).t]), (.fcvtSF c d a 0, toS (fToInt fa) 1 [ta]),
       (.flt c d a b, toS (fLt fa fb) 1 [ta, tb]), (.feq c d a b, toS (fEq fa fb) 1 [ta, tb]),
       (.fmvSLo c d a 0, toS (fa.truncate 32, 0) 0 [ta]), (.fmvSHi c d a 0, toS ((fa >>> 32).truncate 32, 0) 0 [ta]),
       (.fmvF c d a b, toFrom 4 (rec_ b ++ rec_ a, 0) 0 [(p.getS a).t, (p.getS b).t])] →
      exec i s = .next t) ∧
    (b ≠ 0 → ∀ i ∈ [Instr.fsqrt c d a b, .fneg c d a b, .fabs c d a b, .frint c d a b, .ffloor c d a b, .fcvtFS c d a b, .fcvtSF c d a b,
        .fmvSLo c d a b, .fmvSHi c d a b], exec i s = .next (takeTrap c p tcIllegal 0 p.pc 0 s))

/-! System instructions, the secrecy boundary, traps (spec files 06 and 07). -/

/-- R173: SETLEN.H and SETLEN.W in every form. -/
def Obligations.SetlenTakesTheLesser : Prop :=
  ∀ (s : State) (c : Nat) (p : Pvc) (d a b : R5), Issues s c p →
    ∀ i mx, (i, mx) ∈ [(Instr.setlenH c d a b, 256), (.setlenW c d a b, 128)] →
      (b = 0 → (p.getS a).t = none →
        exec i s = .next (s.setPvc c ((({ p with len := min (p.getS a).v.toNat mx } : Pvc).setS d
          (BitVec.ofNat 32 (min (p.getS a).v.toNat mx)) none).next))) ∧
      (b = 0 → (p.getS a).t.isSome → exec i s = .next (takeTrap c p tcControl 0 p.pc 0 s)) ∧
      (b ≠ 0 → exec i s = .next (takeTrap c p tcIllegal 0 p.pc 0 s))

/-- R186, R191, R209, R211: the plain system instructions. That a tagged value to FPSR traps as one to LEN does is the model's choice
(log entry 32). -/
def Obligations.SystemInstructions : Prop :=
  ∀ (s : State) (c : Nat) (p : Pvc) (d a b : R5), Issues s c p →
    let ill := Host.Outcome.next (ρ := Refusal) (φ := Fault) (takeTrap c p tcIllegal 0 p.pc 0 s)
    let go := fun (q : Pvc) => Host.Outcome.next (ρ := Refusal) (φ := Fault) (s.setPvc c q)
    let x := p.getS a
    exec (.nop c 0 0 0) s = go p.next ∧
    exec (.valend c 0 0 0) s = go ({ p with valid := false } : Pvc).next ∧
    exec (.eret c 0 0 0) s = (if p.handler then go { p with pc := p.tpc, handler := false, resume := true } else ill) ∧
    (d ≠ 0 ∨ a ≠ 0 ∨ b ≠ 0 → ∀ i ∈ [Instr.nop c d a b, .valend c d a b, .eret c d a b], exec i s = ill) ∧
    (∀ k v, (k, v) ∈
      [(0, BitVec.ofNat 32 p.len), (1, BitVec.ofNat 32 p.epr), (2, (p.fpsr.zeroExtend 32 : Word)), (3, if p.handler then p.tpc else 0),
       (4, if p.handler then BitVec.ofNat 32 p.tcause else 0), (5, if p.handler then p.taddr else 0), (8, BitVec.ofNat 32 (p.q 0)),
       (9, BitVec.ofNat 32 (p.q 1)), (10, BitVec.ofNat 32 (p.q 2)), (11, BitVec.ofNat 32 (p.q 3)), (12, BitVec.ofNat 32 p.gfp)] →
      exec (.mfc c d 0 (BitVec.ofNat 5 k)) s = go (p.setS d v none).next) ∧
    (b.toNat ∉ [0, 1, 2, 3, 4, 5, 8, 9, 10, 11, 12] → exec (.mfc c d 0 b) s = ill) ∧
    (a ≠ 0 → exec (.mfc c d a b) s = ill) ∧
    (x.t = none → x.v.toNat ≤ 256 → exec (.mtc c 0 a 0) s = go ({ p with len := x.v.toNat } : Pvc).next) ∧
    (x.t = none → x.v.toNat < 32 → exec (.mtc c 0 a 2) s = go ({ p with fpsr := x.v.truncate 5 } : Pvc).next) ∧
    (x.t = none → 4 ≤ x.v.toNat → x.v.toNat < 2 ^ 17 → exec (.mtc c 0 a 12) s = go ({ p with gfp := x.v.toNat } : Pvc).next) ∧
    (x.t = none → x.v.toNat % 2 = 1 → 3 ≤ x.v.toNat → x.v.toNat < 2 ^ 31 → ∀ m : BitVec 2,
      (∀ r ∈ p.w.toList, r.t ≠ some (.arithq m)) → (∀ r ∈ p.s.toList, r.t ≠ some (.arithq m)) → (∀ l ∈ p.shares, l.2 ≠ .arithq m) →
      exec (.mtc c 0 a (BitVec.ofNat 5 (8 + m.toNat))) s = go ({ p with qm := p.qm.set m.toNat x.v.toNat m.isLt } : Pvc).next) ∧
    (x.t.isSome → b.toNat ∈ [0, 2, 8, 9, 10, 11, 12] → exec (.mtc c 0 a b) s = .next (takeTrap c p tcControl 0 p.pc 0 s)) ∧
    (b.toNat ∉ [0, 2, 8, 9, 10, 11, 12] → exec (.mtc c 0 a b) s = ill) ∧
    (x.t = none → (b = 0 ∧ 256 < x.v.toNat) ∨ (b = 2 ∧ 32 ≤ x.v.toNat) ∨ (b = 12 ∧ (x.v.toNat < 4 ∨ 2 ^ 17 ≤ x.v.toNat)) ∨
        (8 ≤ b.toNat ∧ b.toNat ≤ 11 ∧ (x.v.toNat % 2 = 0 ∨ x.v.toNat < 3 ∨ 2 ^ 31 ≤ x.v.toNat)) → exec (.mtc c 0 a b) s = ill) ∧
    (d ≠ 0 → exec (.mtc c d a b) s = ill)

/-- R191, R179: EXIT and its traps. -/
def Obligations.ExitEndsTheRun : Prop :=
  ∀ (s : State) (c : Nat) (p : Pvc) (a b : R5), Issues s c p →
    let n := (p.getS a).v.toNat
    let k := (p.getS b).v.toNat
    let clean := (p.getS a).t = none ∧ (p.getS b).t = none ∧ (p.inl = true → (p.getW 30).t = none)
    let fits := n ≤ p.par.out ∧ n ≤ p.cap
    (clean → fits → (k ≤ 2 ∨ (p.valid = true ∧ (k = 0x20 ∨ k = 0x21))) →
      ∃ r, exec (.exit c 0 a b) s = .next (endRun c p r s) ∧
        r.status = (if k ≤ 2 then 0 else k) ∧ r.out = readBytes p.mem p.kern.output.base n ∧
        r.verdict = (if k = 1 then some false else if k = 2 then some true else none) ∧
        r.inline = (if p.inl then natLE 16 (p.getW 30).v.toNat else zeros 16) ∧ r.secret = p.ctxOut.getD [] ∧ r.trap = 0) ∧
    (clean → (¬ fits ∨ ¬ (k ≤ 2 ∨ k = 0x20 ∨ k = 0x21)) → exec (.exit c 0 a b) s = .next (takeTrap c p tcExit 0 p.pc 0 s)) ∧
    (clean → fits → p.valid = false → (k = 0x20 ∨ k = 0x21) → exec (.exit c 0 a b) s = .next (takeTrap c p tcValidation 0 p.pc 0 s)) ∧
    (¬ clean → exec (.exit c 0 a b) s = .next (takeTrap c p tcControl 0 p.pc 0 s)) ∧
    (∀ d, d ≠ 0 → exec (.exit c d a b) s = .next (takeTrap c p tcIllegal 0 p.pc 0 s))

/-- R177, R182, R183, R210: the instructions that bring data in. -/
def Obligations.SecretSources : Prop :=
  ∀ (s : State) (c : Nat) (p : Pvc) (d a b : R5), Issues s c p →
    let dst := (p.getS d).v.toNat
    let off := (p.getS a).v.toNat
    let n := (p.getS b).v.toNat
    let trap := fun (cause : Nat) (ta : Word) => Host.Outcome.next (ρ := Refusal) (φ := Fault) (takeTrap c p cause 0 p.pc ta s)
    let clean := (p.getS d).t = none ∧ (p.getS a).t = none ∧ (p.getS b).t = none
    (∀ i part sec code, (i, part, sec, code) ∈
      [(Instr.kldP1 c d a b, p.k1.map (·.1), true, none), (.kldU1 c d a b, p.k1.map (·.2), false, p.c1),
       (.kldP2 c d a b, p.k2.map (·.1), true, none), (.kldU2 c d a b, p.k2.map (·.2), false, p.c2),
       (.kldC c d a b, if p.kern.caps.testBit 0 ∧ p.par.flags.testBit 3 then some p.src else none, true, none)] →
      let there := if sec then p.kern.secret.has dst n = true else p.kern.work.has dst n = true ∨ p.kern.input.has dst n = true
      (∀ l, clean → part = some l → off + n ≤ l.length → there →
        exec i s = .next (s.setPvc c { p with valid := p.valid && !sec, stall := some (.kld dst ((l.drop off).take n) sec code) })) ∧
      (∀ l, clean → part = some l → off + n ≤ l.length → ¬ there → exec i s = trap tcAccess (BitVec.ofNat 32 dst)) ∧
      (∀ l, clean → part = some l → l.length < off + n → exec i s = trap tcKeyRange 0) ∧
      (clean → part = none → exec i s = trap tcCap 0) ∧
      (¬ clean → exec i s = trap tcAddress 0)) ∧
    (let a0 := (p.getS a).t = none
     let lim := if p.test then p.ent.length else 4096
     (a0 → p.kern.caps.testBit 1 = true → off % 32 = 0 → off + 32 ≤ p.ent.length → off + 32 ≤ lim →
       exec (.ent c d a 0) s = .next (s.setPvc c
         ({ p with valid := false, w := p.w.set d.toNat ⟨BitVec.ofNat 256 (leNat ((p.ent.drop off).take 32)), some .bool⟩ d.isLt } : Pvc).next)) ∧
     (a0 → p.kern.caps.testBit 1 = true → off % 32 = 0 → p.ent.length < off + 32 → off + 32 ≤ lim →
       let q : Pvc := { p with valid := false, stall := some (.ent d off) }
       (s.nrgDown = false → ∃ t, exec (.ent c d a 0) s = .next t ∧ mget t.pvcs c = some q) ∧
       (∀ k, mget s.cmds p.cmd = some k → s.nrgDown = true →
         exec (.ent c d a 0) s = .next ((s.setPvc c q).complete p.cmd (.late St.ENTROPY_FAULT)))) ∧
     (a0 → p.kern.caps.testBit 1 = true → off % 32 = 0 → lim < off + 32 → exec (.ent c d a 0) s = trap tcEntLimit 0) ∧
     (a0 → p.kern.caps.testBit 1 = true → off % 32 ≠ 0 → exec (.ent c d a 0) s = trap tcIllegal 0) ∧
     (a0 → p.kern.caps.testBit 1 = false → exec (.ent c d a 0) s = trap tcCap 0)) ∧
    (∀ x, (p.getS a).t = none → off % 32 = 0 → (x = 0 ∨ x = 1) →
      exec (.slide c 0 a x) s = .next (s.setPvc c { p with stall := some (.slide (x == 1) off) })) ∧
    (∀ x, (p.getS a).t = none → off % 32 ≠ 0 → (x = 0 ∨ x = 1) → exec (.slide c 0 a x) s = trap tcAccess (BitVec.ofNat 32 off)) ∧
    (∀ x, (p.getS a).t.isSome → (x = 0 ∨ x = 1) → exec (.slide c 0 a x) s = trap tcAddress 0)

/-- R184, R210, R179: DCL.W, DCL.M and CTXST with their frames. -/
def Obligations.DeclassifyAndContext : Prop :=
  ∀ (s : State) (c : Nat) (p : Pvc) (d a b : R5), Issues s c p →
    let trap := fun (cause : Nat) => Host.Outcome.next (ρ := Refusal) (φ := Fault) (takeTrap c p cause 0 p.pc 0 s)
    let wrote := fun (i : Instr) (at_ : Nat) (l : List Byte) => ∃ q, exec i s = .next (s.setPvc c q) ∧
      q = ({ p with valid := false, mem := q.mem } : Pvc).next ∧ (∀ k, k < l.length → readByte q.mem (at_ + k) = l.getD k 0) ∧
      (∀ x, x < at_ ∨ at_ + l.length ≤ x → readByte q.mem x = readByte p.mem x)
    let rel := p.kern.caps.testBit 0 = true
    let out := (p.getS a).v.toNat
    let n := 32 * (b.toNat + 1)
    ((p.getS a).t = none → rel → p.kern.output.has out 32 = true → wrote (.dclW c 0 a b) out (p.residues (p.getW b).t (natLE 32 (p.getW b).v.toNat))) ∧
    ((p.getS a).t = none → (¬ rel ∨ p.kern.output.has out 32 = false) → exec (.dclW c 0 a b) s = trap tcDeclassify) ∧
    ((p.getS a).t.isSome → exec (.dclW c 0 a b) s = trap tcAddress) ∧
    ((p.getS d).t = none → (p.getS a).t = none → rel → p.kern.output.has (p.getS d).v.toNat n = true → p.kern.secret.has out n = true →
      wrote (.dclM c d a b) (p.getS d).v.toNat (p.recombined out n)) ∧
    ((p.getS d).t = none → (p.getS a).t = none → (¬ rel ∨ p.kern.output.has (p.getS d).v.toNat n = false) →
      exec (.dclM c d a b) s = trap tcDeclassify) ∧
    ((p.getS d).t.isSome ∨ (p.getS a).t.isSome → exec (.dclM c d a b) s = trap tcAddress) ∧
    (b.toNat ≤ 7 → (p.getS a).t = none → p.kern.caps.testBit 2 = true → p.par.flags.testBit 4 = true →
      p.kern.secret.has out (16 * (b.toNat + 1)) = true →
      exec (.ctxst c 0 a b) s = .next (s.setPvc c
        ({ p with valid := false, ctxOut := some (p.recombined out (16 * (b.toNat + 1))) } : Pvc).next)) ∧
    (b.toNat ≤ 7 → (p.getS a).t = none → (p.kern.caps.testBit 2 = false ∨ p.par.flags.testBit 4 = false) →
      exec (.ctxst c 0 a b) s = trap tcCap) ∧
    (7 < b.toNat → exec (.ctxst c 0 a b) s = trap tcIllegal) ∧
    (∀ (t : Tag) (l : List Byte), (∀ m, t ≠ some (.arithq m)) → p.residues t l = l) ∧
    (∀ (m : BitVec 2) (l : List Byte) (w k : Nat), 0 < p.q m → (w = if p.q m < 2 ^ 16 then 2 else 4) → l.length = 32 → w * k < 32 →
      leAt (p.residues (some (.arithq m)) l) (w * k) w = leAt l (w * k) w % p.q m) ∧
    (∀ x k, 0 < k → (∀ y ∈ p.shares, ∀ m, y.2 ≠ .arithq m) → p.recombined x k = readBytes p.mem x k)

/-- R185, R186: what every trap does. -/
def Obligations.TrapsEnterTheHandlerOrEndTheRun : Prop :=
  ∀ (s : State) (c : Nat) (p : Pvc) (cause epr : Nat) (tpc ta : Word),
    (∀ h, p.handler = false → p.kern.handler = some h → (cause = tcAccess ∨ cause = tcMiss) →
      takeTrap c p cause epr tpc ta s = s.setPvc c { p with
        handler := true
        epr := epr
        tpc := tpc
        tcause := cause
        taddr := ta
        pc := BitVec.ofNat 32 h
        resume := false }) ∧
    ((p.handler = true ∨ p.kern.handler = none ∨ (cause ≠ tcAccess ∧ cause ≠ tcMiss)) →
      ∃ r, takeTrap c p cause epr tpc ta s = endRun c p r s ∧
        r.trap = (if p.handler then tcDouble else cause) ∧
        r.status = (if p.handler = false ∧ 0x10 ≤ cause then St.SECRET_FLOW else St.KERNEL_FAULT) ∧ r.out = [] ∧ r.verdict = none) ∧
    (∀ r, ∃ t, endRun c p r s = t ∧ (t.unit c).scrub = true ∧
      (∃ q, mget t.pvcs c = some q ∧ q.stall = some .ended ∧ q.unit false = none ∧ q.unit true = none) ∧
      ∀ x, x ≠ c → mget t.pvcs x = mget s.pvcs x)

/-- R168, R195: no issue, the fetch bound, the wait for masks. -/
def Obligations.CoresThatCannotIssue : Prop :=
  ∀ (s : State) (c : Nat) (d a b : R5) (pr : P3) (l e : Bool) (m : BitVec 2) (imm : BitVec 16) (off : BitVec 11),
    (∀ i ∈ [Instr.add c d a b, .addi c d a imm, .lw c d a imm, .sw c d a imm, .beq c a b imm, .fadd c d a b, .exit c d a b, .vadd c d a b pr l e,
        .vaddm c m d a b pr l e, .vcmpEq c d a b pr l e, .vld c d a pr l e off, .sclaim c d a b pr l e, .pand c d a b pr l e],
      (mget s.pvcs c = none → exec i s = .next s) ∧
      (∀ p x, Stalls s c p x → exec i s = .next s) ∧
      (∀ p, mget s.pvcs c = some p → p.stall = none → p.kern.codeLen ≤ p.pc.toNat → exec i s = .next (takeTrap c p tcAccess 0 p.pc 0 s)) ∧
      (∀ p, mget s.pvcs c = some p → p.stall = none → p.pc.toNat < p.kern.codeLen →
        decodePvc 0 (BitVec.ofNat 32 (leAt p.kern.code p.pc.toNat 4)) = none → exec i s = .next (takeTrap c p tcIllegal 0 p.pc 0 s))) ∧
    (∀ p, Issues s c p → ¬ MasksFlow s c → (p.getS a).t.isSome →
      exec (.and c d a b) s = .next (s.setPvc c { p with stall := some .mask }))

/-! Vector instructions (spec file 07). -/

/-- R200, R205 to R207: the element-wise instructions with two register operands, and the conversions; `x i` and `y i` (`f i` and `g i`) are elements i of the spans a and b as
the shares recombine to ARITH (to BOOL), sgn their signed reading. -/
def Obligations.VectorElementResults : Prop :=
  ∀ (s : State) (c : Nat) (p : Pvc) (d a b : R5) (pr : P3) (l e : Bool) (m : BitVec 2), Issues s c p → MasksFlow s c →
    let w := eWidth e
    let A : Share := .arith
    let B : Share := .bool
    let x := fun i => p.elemAs A a w i
    let y := fun i => p.elemAs A b w i
    let f := fun i => p.elemAs B a w i
    let g := fun i => p.elemAs B b w i
    let sx := fun i => sgn w (x i)
    let sy := fun i => sgn w (y i)
    let ta := p.spanTag a (p.regs l e)
    let tb := p.spanTag b (p.regs l e)
    let top : Int := 2 ^ (w - 1)
    let both := if ta.isSome && tb.isSome then 32 else 0
    let tsh := if tb.isSome then 32 else 0
    (SpansFit p l e [d, a, b] → ∀ i need ty gad v, (i, need, ty, gad, v) ∈
      [(Instr.vadd c d a b pr l e, some A, A, 0, fun i => x i + y i), (.vsub c d a b pr l e, some A, A, 0, fun i => x i + (2 ^ w - y i)),
       (.vsadd c d a b pr l e, none, A, 32, fun i => wrap w (min (max (sx i + sy i) (-top)) (top - 1))),
       (.vssub c d a b pr l e, none, A, 32, fun i => wrap w (min (max (sx i - sy i) (-top)) (top - 1))),
       (.vsaddu c d a b pr l e, none, A, 32, fun i => wrap w (min (max ((x i : Int) + y i) 0) (2 ^ w - 1))),
       (.vssubu c d a b pr l e, none, A, 32, fun i => wrap w (min (max ((x i : Int) - y i) 0) (2 ^ w - 1))),
       (.vmul c d a b pr l e, some A, A, both, fun i => x i * y i),
       (.vmulh c d a b pr l e, some A, A, 32, fun i => wrap w (sx i * sy i / 2 ^ w)),
       (.vmulhu c d a b pr l e, some A, A, 32, fun i => x i * y i / 2 ^ w),
       (.vmulhr c d a b pr l e, none, A, 32, fun i => wrap w ((sx i * sy i + top) / 2 ^ w)),
       (.vqdmulhr c d a b pr l e, none, A, 32, fun i => wrap w (min (max ((2 * sx i * sy i + top) / 2 ^ w) (-top)) (top - 1))),
       (.vand c d a b pr l e, some B, B, 32, fun i => f i &&& g i), (.vor c d a b pr l e, some B, B, 32, fun i => f i ||| g i),
       (.vxor c d a b pr l e, some B, B, 0, fun i => f i ^^^ g i), (.vandn c d a b pr l e, some B, B, 32, fun i => f i &&& (g i ^^^ (2 ^ w - 1))),
       (.vshl c d a b pr l e, some B, B, tsh, fun i => f i <<< (g i % w)), (.vshr c d a b pr l e, some B, B, tsh, fun i => f i >>> (g i % w)),
       (.vsra c d a b pr l e, some B, B, tsh, fun i => wrap w (sgn w (f i) / 2 ^ (g i % w))),
       (.vshrr c d a b pr l e, none, A, 32, fun i => if y i % w = 0 then x i else wrap w ((sx i + 2 ^ (y i % w - 1)) / 2 ^ (y i % w))),
       (.vshrru c d a b pr l e, none, A, 32, fun i => if y i % w = 0 then x i else (x i + 2 ^ (y i % w - 1)) / 2 ^ (y i % w) % 2 ^ w),
       (.vmin c d a b pr l e, none, A, 32, fun i => if sx i ≤ sy i then x i else y i),
       (.vmax c d a b pr l e, none, A, 32, fun i => if sx i ≤ sy i then y i else x i),
       (.vminu c d a b pr l e, none, A, 32, fun i => min (x i) (y i)), (.vmaxu c d a b pr l e, none, A, 32, fun i => max (x i) (y i))] →
      exec i s = .next (vectorNext c p l e pr d [ta, tb] ty (vectorDraw p l e pr [ta, tb] need gad) v s)) ∧
    (SpansFit p l true [d, a, b] → exec (.vclmul c d a b pr l true) s =
      .next (vectorNext c p l true pr d [p.spanTag a (p.regs l true), p.spanTag b (p.regs l true)] B
        (vectorDraw p l true pr [p.spanTag a (p.regs l true), p.spanTag b (p.regs l true)] (some B) 32)
        (fun i => clmul (p.elemAs B a 32 i % 2 ^ 16) (p.elemAs B b 32 i % 2 ^ 16) 16) s)) ∧
    (SpansFit p l false [d, a, b] → p.gfp ≠ 0 → exec (.vgfmul c d a b pr l false) s =
      .next (vectorNext c p l false pr d [p.spanTag a (p.regs l false), p.spanTag b (p.regs l false)] B
        (vectorDraw p l false pr [p.spanTag a (p.regs l false), p.spanTag b (p.regs l false)] (some B) 32)
        (fun i => polyMod p.gfp p.gfp.log2 17 (clmul (p.elemAs B a 16 i % 2 ^ p.gfp.log2) (p.elemAs B b 16 i % 2 ^ p.gfp.log2) 16)) s)) ∧
    (SpansFit p l e [d, a] →
      exec (.va2b c d a 0 pr l e) s = .next (vectorNext c p l e pr d [ta] B (vectorDraw p l e pr [ta] none 32) f s) ∧
      exec (.vb2a c d a 0 pr l e) s = .next (vectorNext c p l e pr d [ta] A (vectorDraw p l e pr [ta] none 32) x s) ∧
      (p.q m ≠ 0 → (e = false → p.q m < 2 ^ 16) → exec (.vb2aq c m d a 0 pr l e) s =
        .next (vectorNext c p l e pr d [ta] (.arithq m) (vectorDraw p l e pr [ta] none 32) (fun i => p.elemAs (.arithq m) a w i % p.q m) s)))

/-- The table "Other vector arithmetic" of spec file 07, VSEL, VMOV, VSPLAT, VEXT, VINS. -/
def Obligations.VectorMovesAndImmediates : Prop :=
  ∀ (s : State) (c : Nat) (p : Pvc) (d a b : R5) (pr : P3) (l e : Bool) (imm : BitVec 8), Issues s c p → MasksFlow s c →
    let w := eWidth e
    let k := imm.toNat % w
    let A : Share := .arith
    let B : Share := .bool
    let x := fun i => p.elemAs A a w i
    let f := fun i => p.elemAs B a w i
    let ta := p.spanTag a (p.regs l e)
    let tb := p.spanTag b (p.regs l e)
    (SpansFit p l e [d, a] → ∀ i need ty gad v, (i, need, ty, gad, v) ∈
      [(Instr.vaddi c d a pr l e imm, some A, A, 0, fun i => wrap w ((x i : Int) + imm.toInt)),
       (.vshli c d a pr l e imm, some B, B, 0, fun i => f i <<< k), (.vshri c d a pr l e imm, some B, B, 0, fun i => f i >>> k),
       (.vsrai c d a pr l e imm, some B, B, 0, fun i => wrap w (sgn w (f i) / 2 ^ k)),
       (.vshrri c d a pr l e imm, none, A, 32, fun i => if k = 0 then x i else wrap w ((sgn w (x i) + 2 ^ (k - 1)) / 2 ^ k)),
       (.vshrrui c d a pr l e imm, none, A, 32, fun i => if k = 0 then x i else (x i + 2 ^ (k - 1)) / 2 ^ k % 2 ^ w),
       (.vandi c d a pr l e imm, some B, B, 32, fun i => f i &&& imm.toNat),
       (.vmov c d a 0 pr l e, none, ta.getD B, 0, fun i => p.elem a w i)] →
      exec i s = .next (vectorNext c p l e pr d [ta] ty (vectorDraw p l e pr [ta] need gad) v s)) ∧
    (SpansFit p l e [d] →
      exec (.vsplat c d a 0 pr l e) s = .next (vectorNext c p l e pr d [(p.getS a).t] ((p.getS a).t.getD B) 0 (fun _ => (p.getS a).v.toNat) s) ∧
      exec (.vsplati c d 0 pr l e imm) s = .next (vectorNext c p l e pr d [] B 0 (fun _ => wrap w imm.toInt) s)) ∧
    (SpansFit p l e [d, a, b] → ta = none → tb = none → (p.getP pr).t = false →
      exec (.vsel c d a b pr l e) s = .next (s.setPvc c (p.putSpan d (p.regs l e) w false (fun _ => none)
        (fun i => if i < p.count l e then some (if p.pbit pr w i then p.elem a w i else p.elem b w i) else none)).next)) ∧
    (b.toNat < 256 / w →
      exec (.vext c d a b pr false e) s = .next (s.setPvc c (p.setS d (BitVec.ofNat 32 (lane (p.getW a).v w b.toNat))
        (if (p.getW a).t.isSome ∨ (p.getP pr).t then some ((p.getW a).t.getD B) else none)).next) ∧
      exec (.vins c d a b 0 false e) s = .next (s.setPvc c (p.putReg d w true (p.getS a).t
        (fun j => if j = b.toNat then some ((p.getS a).v.toNat % 2 ^ w) else none)).next))

/-- R201, R203: the modular instructions and the compressions. -/
def Obligations.VectorModularResults : Prop :=
  ∀ (s : State) (c : Nat) (p : Pvc) (m : BitVec 2) (d a b : R5) (pr : P3) (l e : Bool) (imm : BitVec 8), Issues s c p → MasksFlow s c →
    let w := eWidth e
    let q := p.q m
    let n := imm.toNat
    let M : Share := .arithq m
    let B : Share := .bool
    let x := fun i => p.elemAs M a w i
    let y := fun i => p.elemAs M b w i
    let ta := p.spanTag a (p.regs l e)
    let tb := p.spanTag b (p.regs l e)
    let bin := fun (g : Nat) (v : Nat → Nat) => vectorNext c p l e pr d [ta, tb] M (vectorDraw p l e pr [ta, tb] (some M) g) v s
    let un := fun (v : Nat → Nat) => vectorNext c p l e pr d [ta] M (vectorDraw p l e pr [ta] (some M) 32) v s
    (q % 2 = 1 → (e = false → q < 2 ^ 16) → SpansFit p l e [d, a, b] →
      exec (.vaddm c m d a b pr l e) s = .next (bin 0 (fun i => (x i + y i) % q)) ∧
      (∃ v : Nat → Nat, (∀ i, ((v i : Nat) : Int) = ((x i : Int) - y i) % q) ∧ exec (.vsubm c m d a b pr l e) s = .next (bin 0 v)) ∧
      (∃ v : Nat → Nat, (∀ i, v i < q ∧ v i * 2 ^ w % q = x i * y i % q) ∧
        exec (.vmulm c m d a b pr l e) s = .next (bin (if ta.isSome && tb.isSome then 32 else 0) v)) ∧
      exec (.vmulb c m d a b pr l e) s = .next (bin 32 (fun i => x i * y i % q))) ∧
    (q % 2 = 1 → (e = false → q < 2 ^ 16) → SpansFit p l e [d, a] →
      (∃ v : Nat → Nat, (∀ i, ((v i : Nat) : Int) = (-(x i : Int)) % q) ∧
        exec (.vnegm c m d a 0 pr l e) s = .next (vectorNext c p l e pr d [ta] M (vectorDraw p l e pr [ta] (some M) 0) v s)) ∧
      exec (.vredb c m d a 0 pr l e) s = .next (un (fun i => x i % q)) ∧
      (∃ v : Nat → Nat, (∀ i, v i < q ∧ v i * 2 ^ w % q = x i % q) ∧ exec (.vredm c m d a 0 pr l e) s = .next (un v)) ∧
      (∃ v : Nat → Nat, (∀ i, ((v i : Nat) : Int) = sgn w (x i) % q) ∧ exec (.vreds c m d a 0 pr l e) s = .next (un v)) ∧
      (ta = none → (p.getP pr).t = false → exec (.vcent c m d a 0 pr l e) s =
        .next (un (fun i => if (q - 1) / 2 < x i % q then wrap w ((x i % q : Nat) - q : Int) else x i % q))) ∧
      (1 ≤ n → n < w →
        exec (.vcompr c m d a pr l e imm) s =
          .next (vectorNext c p l e pr d [ta] B (vectorDraw p l e pr [ta] (some M) 32) (fun i => (x i * 2 ^ n + (q - 1) / 2) / q % 2 ^ n) s) ∧
        (ta = none → (p.getP pr).t = false → exec (.vdecompr c m d a pr l e imm) s =
          .next (vectorNext c p l e pr d [ta] M (vectorDraw p l e pr [ta] (some B) 32) (fun i => (q * (p.elemAs B a w i % 2 ^ n) + 2 ^ (n - 1)) / 2 ^ n) s)))) ∧
    (q = 0 ∨ (e = false ∧ 2 ^ 16 ≤ q) → ∀ i ∈ [Instr.vaddm c m d a b pr l e, .vsubm c m d a b pr l e, .vnegm c m d a 0 pr l e,
        .vmulm c m d a b pr l e, .vmulb c m d a b pr l e, .vredb c m d a 0 pr l e, .vredm c m d a 0 pr l e, .vreds c m d a 0 pr l e,
        .vcent c m d a 0 pr l e, .bfct c m d a b pr true e, .bfgs c m d a b pr true e, .vcompr c m d a pr l e imm, .vdecompr c m d a pr l e imm],
      exec i s = .next (takeTrap c p tcIllegal 0 p.pc 0 s)) ∧
    (n = 0 ∨ w ≤ n → exec (.vcompr c m d a pr l e imm) s = .next (takeTrap c p tcIllegal 0 p.pc 0 s) ∧
      exec (.vdecompr c m d a pr l e imm) s = .next (takeTrap c p tcIllegal 0 p.pc 0 s))

/-- R202 and R204 on untagged operands. -/
def Obligations.ButterfliesAndPacking : Prop :=
  ∀ (s : State) (c : Nat) (p : Pvc) (m : BitVec 2) (d a b : R5) (pr : P3) (e : Bool) (imm : BitVec 8), Issues s c p →
    let w := eWidth e
    let q := p.q m
    let n := p.regs true e
    let ad := (p.getS b).v.toNat
    let x := fun i => p.elem d w i
    let y := fun i => p.elem a w i
    let z := fun i => leNat ((p.kern.twiddles.drop (ad + i * (w / 8) - 0x80000)).take (w / 8))
    let on := fun i => i < p.len && p.pbit pr w i
    let both := fun (f g : Nat → Nat) => s.setPvc c ((p.putSpan d n w (pr != 0) (fun _ => none) (fun i => if on i then some (f i) else none)).putSpan
      a n w (pr != 0) (fun _ => none) (fun i => if on i then some (g i) else none)).next
    (q % 2 = 1 → (e = false → q < 2 ^ 16) → overlap d n a n = false → SpansFit p true e [d, a] → (p.getS b).t = none →
      p.spanTag d n = none → p.spanTag a n = none → (p.getP pr).t = false →
      ad % (w / 8) = 0 → 0x80000 ≤ ad → ad + p.len * (w / 8) ≤ 0x80000 + 0x1000 * p.kern.tables →
      (∃ t : Nat → Nat, (∀ i, t i < q ∧ t i * 2 ^ w % q = y i * z i % q) ∧ ∃ g : Nat → Nat, (∀ i, ((g i : Nat) : Int) = ((x i : Int) - t i) % q) ∧
        exec (.bfct c m d a b pr true e) s = .next (both (fun i => (x i + t i) % q) g)) ∧
      (∃ g : Nat → Nat, (∀ i, g i < q ∧ ((g i * 2 ^ w : Nat) : Int) % q = ((x i : Int) - y i) * z i % q) ∧
        exec (.bfgs c m d a b pr true e) s = .next (both (fun i => (x i + y i) % q) g))) ∧
    (let k := imm.toNat
     let kn := (p.len * k + 255) / 256
     1 ≤ k → k ≤ w →
      (overlap d kn a n = false → p.spanBad true e kn [d] = false → p.spanBad true e n [a] = false → p.spanTag a n = none →
        ∃ bits, (∀ i j, i < p.len → j < k → bits.testBit (i * k + j) = (y i).testBit j) ∧ (∀ j, p.len * k ≤ j → bits.testBit j = false) ∧
          exec (.vpack c d a 0 true e imm) s = .next (s.setPvc c (p.putSpan d kn 8 false (fun _ => none)
            (fun j => if j < (p.len * k + 7) / 8 then some (bits / 2 ^ (8 * j) % 256) else none)).next)) ∧
      (overlap d n a kn = false → p.spanBad true e n [d] = false → p.spanBad true e kn [a] = false → p.spanTag a kn = none →
        ∃ bits, (∀ j, j < 256 * kn → bits.testBit j = (p.elem a 8 (j / 8)).testBit (j % 8)) ∧
          exec (.vunpack c d a 0 true e imm) s = .next (s.setPvc c (p.putSpan d n w false (fun _ => none)
            (fun i => if i < p.len then some (bits / 2 ^ (i * k) % 2 ^ k) else none)).next)))

/-- R174, R175: the frame of every vector result (the span form that each statement on vector instructions uses). -/
def Obligations.SpanWritesKeepTheRest : Prop :=
  ∀ (p : Pvc) (b : R5) (n : Nat) (e pred : Bool) (t : Nat → Tag) (g : Nat → Option Nat), b.toNat + n ≤ 32 →
    let w := eWidth e
    let q := p.putSpan b n w pred t g
    (∀ i, i < n * (256 / w) → q.elem b w i = match g i with | some v => v % 2 ^ w | none => p.elem b w i) ∧
    (∀ r : R5, (r.toNat < b.toNat ∨ b.toNat + n ≤ r.toNat) → q.getW r = p.getW r) ∧
    q = { p with w := q.w }

/-- R175 and the predicate rows of spec file 07; the tag is the OR of R178. -/
def Obligations.PredicateResults : Prop :=
  ∀ (s : State) (c : Nat) (p : Pvc) (d a b : R5) (pr : P3) (l e : Bool), Issues s c p →
    let w := eWidth e
    let n := p.regs l e
    let ill := Host.Outcome.next (ρ := Refusal) (φ := Fault) (takeTrap c p tcIllegal 0 p.pc 0 s)
    (∀ i (f : Nat → Bool), (i, f) ∈
      [(Instr.vcmpEq c d a b pr l e, fun i => decide (p.elem a w i = p.elem b w i)),
       (.vcmpNe c d a b pr l e, fun i => decide (p.elem a w i ≠ p.elem b w i)),
       (.vcmpLt c d a b pr l e, fun i => decide (sgn w (p.elem a w i) < sgn w (p.elem b w i))),
       (.vcmpGe c d a b pr l e, fun i => decide (sgn w (p.elem b w i) ≤ sgn w (p.elem a w i))),
       (.vcmpLtu c d a b pr l e, fun i => decide (p.elem a w i < p.elem b w i)),
       (.vcmpGeu c d a b pr l e, fun i => decide (p.elem b w i ≤ p.elem a w i))] →
      (d.toNat < 8 → SpansFit p l e [a, b] → p.spanTag a n = none → p.spanTag b n = none → (p.getP pr).t = false →
        ∃ v : BitVec 256, (∀ j, j < 256 → v.getLsbD j =
            (if j / (w / 16) < p.count l e ∧ p.pbit pr w (j / (w / 16)) then f (j / (w / 16)) else (p.getP (d.truncate 3)).v.getLsbD j)) ∧
          exec i s = .next (s.setPvc c (p.setP (d.truncate 3) v
            ((p.getP (d.truncate 3)).t && (pr != 0 || decide (p.count l e * (w / 16) < 256)))).next)) ∧
      (d.toNat < 8 → l = true → p.len = 0 → exec i s = .next (s.setPvc c p.next)) ∧
      (8 ≤ d.toNat → exec i s = ill)) ∧
    (d.toNat < 8 → a.toNat < 8 → b.toNat < 8 →
      let x := p.getP (a.truncate 3)
      let y := p.getP (b.truncate 3)
      ∀ i v, (i, v) ∈ [(Instr.pand c d a b pr l e, x.v &&& y.v), (.por c d a b pr l e, x.v ||| y.v), (.pxor c d a b pr l e, x.v ^^^ y.v),
        (.pandn c d a b pr l e, x.v &&& ~~~ y.v)] → exec i s = .next (s.setPvc c (p.setP (d.truncate 3) v (x.t || y.t)).next)) ∧
    (8 ≤ d.toNat ∨ 8 ≤ a.toNat ∨ 8 ≤ b.toNat → ∀ i ∈ [Instr.pand c d a b pr l e, .por c d a b pr l e, .pxor c d a b pr l e, .pandn c d a b pr l e],
      exec i s = ill) ∧
    (8 ≤ d.toNat → exec (.plen c d 0 0 pr l e) s = ill) ∧
    (d.toNat < 8 → p.len ≤ 256 → ∃ v : BitVec 256, (∀ j, j < 256 → v.getLsbD j = decide (j < p.len * (w / 16))) ∧
      exec (.plen c d 0 0 pr l e) s = .next (s.setPvc c (p.setP (d.truncate 3) v false).next)) ∧
    (a.toNat < 8 → (l = true → p.len ≤ 4096 / w) → exec (.pcnt c d a 0 pr l e) s = .next (s.setPvc c (p.setS d
      (BitVec.ofNat 32 ((List.range (p.count l e)).countP (fun i => p.pbit (a.truncate 3) w i)))
      (if (p.getP (a.truncate 3)).t then some .bool else none)).next))

/-! Vector memory, sponge units, rejection sampling, and the events of a cluster (spec files 06 and 07). -/

/-- R212, R185: the three vector loads of untagged data; `addr i` is the address R212 gives element i, `kept` the elements
of the register where it goes on that it loaded before a fault (R185), which came from untagged lines too. -/
def Obligations.VectorLoads : Prop :=
  ∀ (s : State) (c : Nat) (p : Pvc) (d a b : R5) (pr : P3) (l e : Bool) (off : BitVec 11), Issues s c p →
    let w := eWidth e
    let n := p.regs l e
    let base := (p.getS a).v.toNat
    let h := (p.getS b).v.toNat
    let is := p.active pr w (p.count l e)
    let kept := fun j => j < p.first ∧ j / (256 / w) = p.first / (256 / w) ∧ p.pbit pr w j
    let put := fun (n : Nat) (g : Nat → Option Nat) => p.putSpan d n w (pr != 0) (fun _ => none) (fun j => if kept j then some (p.elem d w j) else g j)
    ∀ i (addr : Nat → Nat) (ok : Prop) (tagged : Bool), (i, addr, ok, tagged) ∈
      [(Instr.vld c d a pr l e off, fun i => (BitVec.ofNat 32 base + off.signExtend 32 * 32 + BitVec.ofNat 32 (i * (w / 8))).toNat,
          SpansFit p l e [d], (p.getS a).t.isSome),
       (.vldb c d a b pr l e, fun i => (base + w / 8 * (i / h * (2 * h) + i % h)) % 2 ^ 32,
          SpansFit p l e [d] ∧ h ∈ [1, 2, 4, 8, 16, 32, 64, 128], (p.getS a).t.isSome || (p.getS b).t.isSome),
       (.vgath c d a b pr l e, fun i => (base + w / 8 * p.elem b w i) % 2 ^ 32,
          SpansFit p l e [d, b] ∧ overlap d n b n = false ∧ (p.getP pr).t = false, (p.getS a).t.isSome || (p.spanTag b n).isSome)] →
      (∀ f : Nat → List Byte, ok → tagged = false → (p.getP pr).t = false → (∀ j, kept j → p.lineTag (addr j) (w / 8) = none) →
        (∀ j ∈ is, addr j % (w / 8) = 0 ∧ p.load (addr j) (w / 8) = .bytes (f j) none) →
        exec i s = .next (s.setPvc c (put n (fun j => if j ∈ is then some (leNat (f j)) else none)).next)) ∧
      (∀ (f : Nat → List Byte) (pre post : List Nat) (k cause : Nat), ok → tagged = false → (p.getP pr).t = false → is = pre ++ k :: post →
        (∀ j, kept j → p.lineTag (addr j) (w / 8) = none) →
        (∀ j ∈ pre, addr j % (w / 8) = 0 ∧ p.load (addr j) (w / 8) = .bytes (f j) none) →
        (addr k % (w / 8) ≠ 0 ∧ cause = tcAccess ∨ addr k % (w / 8) = 0 ∧ p.load (addr k) (w / 8) = .cause cause) →
        exec i s = .next (takeTrap c (put ((k + 256 / w - 1) / (256 / w))
          (fun j => if j ∈ pre then some (leNat (f j)) else none)) cause k p.pc (BitVec.ofNat 32 (addr k)) s)) ∧
      (ok → tagged = true → exec i s = .next (takeTrap c p tcAddress 0 p.pc 0 s))

/-- R213, R179: the three vector stores with their frame; the addresses are those of R212. -/
def Obligations.VectorStores : Prop :=
  ∀ (s : State) (c : Nat) (p : Pvc) (d a b : R5) (pr : P3) (l e : Bool) (off : BitVec 11), Issues s c p →
    let w := eWidth e
    let n := p.regs l e
    let base := (p.getS a).v.toNat
    let h := (p.getS b).v.toNat
    let is := p.active pr w (p.count l e)
    let tag := fun j => (p.getW (spanReg d (j / (256 / w)))).t
    ∀ i (addr : Nat → Nat) (ok : Prop) (tagged : Bool), (i, addr, ok, tagged) ∈
      [(Instr.vst c d a pr l e off, fun i => (BitVec.ofNat 32 base + off.signExtend 32 * 32 + BitVec.ofNat 32 (i * (w / 8))).toNat,
          SpansFit p l e [d], (p.getS a).t.isSome),
       (.vstb c d a b pr l e, fun i => (base + w / 8 * (i / h * (2 * h) + i % h)) % 2 ^ 32,
          SpansFit p l e [d] ∧ h ∈ [1, 2, 4, 8, 16, 32, 64, 128], (p.getS a).t.isSome || (p.getS b).t.isSome),
       (.vscat c d a b pr l e, fun i => (base + w / 8 * p.elem b w i) % 2 ^ 32,
          SpansFit p l e [d, b] ∧ overlap d n b n = false, (p.getS a).t.isSome || (p.spanTag b n).isSome)] →
      (ok → tagged = false → (p.getP pr).t = false →
        (∀ j ∈ is, addr j % (w / 8) = 0 ∧ p.storeCause (addr j) (w / 8) (tag j).isSome = none) →
        ∃ q, exec i s = .next (s.setPvc c q) ∧ q = { p.next with mem := q.mem, sram := q.sram, shares := q.shares } ∧
          (∀ x, (∀ j ∈ is, x < addr j ∨ addr j + w / 8 ≤ x) → q.byteAt x = p.byteAt x) ∧
          (∀ j ∈ is, (∀ k ∈ is, j < k → addr k ≠ addr j) →
            ∀ x, x < w / 8 → q.byteAt (addr j + x) = BitVec.ofNat 8 (p.elem d w j / 256 ^ x))) ∧
      (ok → tagged = false → (p.getP pr).t = false → (∃ j ∈ is, p.storeCause (addr j) (w / 8) (tag j).isSome = some tcStore) →
        exec i s = .next (takeTrap c p tcStore 0 p.pc 0 s)) ∧
      (ok → tagged = false → (p.getP pr).t = true → exec i s = .next (takeTrap c p tcStore 0 p.pc 0 s)) ∧
      (ok → tagged = true → exec i s = .next (takeTrap c p tcAddress 0 p.pc 0 s))

/-- R166, R167, R214: the seven sponge instructions. -/
def Obligations.SpongeInstructions : Prop :=
  ∀ (s : State) (c : Nat) (p : Pvc) (u : Bool) (a b : R5) (pr : P3) (l e : Bool), Issues s c p →
    let d : R5 := if u then 1 else 0
    let w := eWidth e
    let n := p.regs true e
    let trap := fun (cause : Nat) => Host.Outcome.next (ρ := Refusal) (φ := Fault) (takeTrap c p cause 0 p.pc 0 s)
    let pair := p.kern.caps.testBit 3 = true
    let mine := u = true → pair
    let free := if (s.cluster (clusterOf c)).spQueue = [] then 4 - s.spongesHeld (clusterOf c) else 0
    let fresh := fun (r : Nat) => (some { rate := r, pos := 0, squeeze := false, st := List.replicate 200 0, tagged := false } : Option Sponge)
    (∀ k r, (k, r) ∈ [(0, 168), (1, 136), (2, 144), (3, 104), (4, 72)] → p.unit false = none → p.unit true = none →
      (mine → 1 ≤ free → exec (.sclaim c d a (BitVec.ofNat 5 k) pr l e) s = .next (s.setPvc c (p.setUnit u (fresh r)).next)) ∧
      (mine → free = 0 → ∃ t, exec (.sclaim c d a (BitVec.ofNat 5 k) pr l e) s = .next t ∧
        mget t.pvcs c = some { p with stall := some (.sponge [if u then 1 else 0] r) } ∧
        (t.cluster (clusterOf c)).spQueue = (s.cluster (clusterOf c)).spQueue ++ [c]) ∧
      (pair → 2 ≤ free → exec (.sclaim2 c d a (BitVec.ofNat 5 k) pr l e) s =
        .next (s.setPvc c ((p.setUnit false (fresh r)).setUnit true (fresh r)).next))) ∧
    (p.unit false ≠ none ∨ p.unit true ≠ none → ∀ k, k < 5 → mine → exec (.sclaim c d a (BitVec.ofNat 5 k) pr l e) s = trap tcIllegal) ∧
    (u = true → ¬ pair → ∀ i ∈ [Instr.sclaim c d a b pr l e, .sclaim2 c d a b pr l e, .sabsb c d a b pr l e, .srel c d a b pr l e],
      exec i s = trap tcCap) ∧
    (∀ x : Sponge, mine → p.unit u = some x →
      (x.squeeze = false →
        (SpansFit p true e [a] → exec (.sabs c d a b 0 true e) s = .next (s.setPvc c (p.setUnit u (some
          { x.absorb ((List.range (p.len * (w / 8))).map (fun j => BitVec.ofNat 8 (p.elem a 8 j))) with
            tagged := x.tagged || (p.spanTag a n).isSome })).next)) ∧
        exec (.sabsb c d a b pr l e) s = .next (s.setPvc c (p.setUnit u (some
          { x.absorb [(p.getS a).v.truncate 8] with tagged := x.tagged || (p.getS a).t.isSome })).next) ∧
        (∀ k v, (k, v) ∈ [(0, 0x06), (1, 0x1F), (2, 0x04)] → exec (.sfin c d a (BitVec.ofNat 5 k) pr l e) s =
          .next (s.setPvc c (p.setUnit u (some { x with
            st := keccakF ((x.st.modify x.pos (· ^^^ v)).modify (x.rate - 1) (· ^^^ 0x80))
            pos := 0
            squeeze := true })).next)) ∧
        exec (.ssqz c d a b 0 true e) s = trap tcSponge) ∧
      (x.squeeze = true →
        (SpansFit p true e [a] → exec (.ssqz c d a b 0 true e) s = .next (s.setPvc c ((p.putSpan a n 8 false
          (fun _ => if x.tagged then some .bool else none)
          (fun j => if j < p.len * (w / 8) then some ((x.take (p.len * (w / 8))).1.getD j 0).toNat else none)).setUnit u
            (some (x.take (p.len * (w / 8))).2)).next)) ∧
        exec (.sabs c d a b 0 true e) s = trap tcSponge ∧ exec (.sabsb c d a b pr l e) s = trap tcSponge) ∧
      exec (.srel c d a b pr l e) s = .next (s.setPvc c (p.setUnit u none).next)) ∧
    (mine → p.unit u = none → exec (.sabs c d a b 0 true e) s = trap tcSponge ∧ exec (.sabsb c d a b pr l e) s = trap tcSponge ∧
      exec (.sfin c d a 0 pr l e) s = trap tcSponge ∧ exec (.ssqz c d a b 0 true e) s = trap tcSponge ∧ exec (.srel c d a b pr l e) s = trap tcSponge)

/-- R215: VREJ whole, and what three or two bytes give in each mode; `squeezed k` is k permutations, `found n` the accepted candidates of n blocks. -/
def Obligations.RejectionSampling : Prop :=
  (∀ (s : State) (c : Nat) (p : Pvc) (mode m : BitVec 2) (u e : Bool) (d a b : R5), Issues s c p →
    let start := (p.getS a).v.toNat
    let lim := (p.getS b).v.toNat
    let q := p.q m
    let room := p.len - start
    mode ≠ 3 → q ≠ 0 → (e = false → q < 2 ^ 16) → (u = true → p.kern.caps.testBit 3 = true) →
    ((p.unit u = none ∨ ∃ x, p.unit u = some x ∧ x.squeeze = false) →
      exec (.vrej c mode u false m d a b 0 true e) s = .next (takeTrap c p tcSponge 0 p.pc 0 s)) ∧
    (∀ x : Sponge, p.unit u = some x → x.squeeze = true → 0 < x.rate → SpansFit p true e [d] →
      let block := fun (k : Nat) => (squeezed (k + if x.pos = 0 then 0 else 1) x.st).take x.rate
      let found := fun (n : Nat) => (List.range n).flatMap (fun k => (candidates mode.toNat (block k)).filter (· < q))
      let tagged := x.tagged || (p.getS a).t.isSome
      let t : Tag := if tagged then some .bool else none
      ((p.getS b).t.isSome → exec (.vrej c mode u false m d a b 0 true e) s = .next (takeTrap c p tcControl 0 p.pc 0 s)) ∧
      ((p.getS b).t = none → (p.getS a).t = none → p.len ≤ start → exec (.vrej c mode u false m d a b 0 true e) s = .next (s.setPvc c p.next)) ∧
      ((p.getS b).t = none → ((p.getS a).t = none → start < p.len) → ∃ n, n ≤ lim ∧ (tagged = true → n = lim) ∧
        (tagged = false → (n = lim ∨ room ≤ (found n).length) ∧ ∀ k, k < n → (found k).length < room) ∧
        let got := (found n).take room
        let y : Sponge := { x with
          st := if n = 0 then x.st else squeezed (n - 1 + if x.pos = 0 then 0 else 1) x.st
          pos := if tagged = true ∧ n = 0 ∧ x.pos = 0 then 0 else x.rate }
        exec (.vrej c mode u false m d a b 0 true e) s = .next (s.setPvc c
          (((p.putSpan d (p.regs true e) (eWidth e) false
              (fun r => if (p.getS a).t.isSome || decide (start < (r + 1) * (256 / eWidth e)) then t else none)
              (fun i => if start ≤ i then got[i - start]? else none)).setS a (BitVec.ofNat 32 (start + got.length)) t).setUnit u (some y)).next)))) ∧
  (∀ b0 b1 b2 : Byte,
    candidates 0 [b0, b1, b2] = [b0.toNat + 256 * (b1.toNat % 16), b1.toNat / 16 + 16 * b2.toNat] ∧
    candidates 1 [b0, b1, b2] = [b0.toNat + 256 * b1.toNat + 65536 * (b2.toNat % 128)] ∧
    candidates 2 [b0, b1] = [b0.toNat + 256 * b1.toNat])

/-- R165, R166, R168, R177, R182, R183, R185, R191, R193: the nine events. -/
def Obligations.ClusterEvents : Prop :=
  ∀ (s : State) (c cl : Nat) (p : Pvc) (t : List Nat), mget s.pvcs c = some p →
    let x := s.cluster cl
    let free := 192 - (s.pvcs.filter (fun y => clusterOf y.1 == cl && y.2.alloc)).foldl (fun n y => n + y.2.kern.sram / 4096) 0
    (∀ us rate, p.stall = some (.sponge us rate) → x.spQueue = c :: t → us.length ≤ 4 - s.spongesHeld cl →
      exec (.spongeClaimGrant cl) s = .next ((s.setPvc c ({ (us.foldl (fun (q : Pvc) u => q.setUnit (u == 1)
        (some { rate := rate, pos := 0, squeeze := false, st := List.replicate 200 0, tagged := false })) p) with stall := none } : Pvc).next).setCluster
          cl { x with spQueue := t })) ∧
    (∀ us rate, p.stall = some (.sponge us rate) → x.spQueue = c :: t → 4 - s.spongesHeld cl < us.length →
      exec (.spongeClaimGrant cl) s = .next s) ∧
    (x.sramQueue = c :: t → p.kern.sram / 4096 ≤ free →
      exec (.sramAllotGrant cl) s = .next ((s.setPvc c { p with stall := none, alloc := true }).setCluster cl { x with sramQueue := t })) ∧
    (x.sramQueue = c :: t → free < p.kern.sram / 4096 → exec (.sramAllotGrant cl) s = .next s) ∧
    (p.stall = some .mask → MasksFlow s c → exec (.maskStreamResume c) s = .next (s.setPvc c { p with stall := none })) ∧
    (∀ aux off data, p.stall = some (.slide aux off) →
      let win := if aux then p.kern.aux else p.kern.input
      let n := min win.size ((if aux then p.auxLen else p.inLen) - off)
      exec (.slideRefillDone c data) s = .next (s.setPvc c ({ p with
        mem := writeBytes p.mem win.base (fixLen win.size (fixLen n data))
        stall := none
        inSeg := if aux then p.inSeg else (off, n)
        auxSeg := if aux then (off, n) else p.auxSeg } : Pvc).next)) ∧
    (∀ dst l sec code, p.stall = some (.kld dst l sec code) →
      (∀ h par, code = some (h, par) → s.ks.codeKeys.any (fun k => k.handle == h) = false →
        exec (.kldDelivered c) s = .next (s.startLoad h par p.cmd)) ∧
      ((∀ h par, code = some (h, par) → ∃ k ∈ s.ks.codeKeys, k.handle = h ∧ k.loading = false) →
        ∃ u q, exec (.kldDelivered c) s = .next u ∧ mget u.pvcs c = some q ∧
      q = ({ p with stall := none, mem := q.mem, shares := q.shares } : Pvc).next ∧
      (∀ k, k < l.length → readByte q.mem (dst + k) = l.getD k 0) ∧ (∀ b, b < dst ∨ dst + l.length ≤ b → readByte q.mem b = readByte p.mem b))) ∧
    (∀ k, mget s.cmds p.cmd = some k → k.chunk ≠ [] →
      let r := k.rand ++ k.chunk.flatten.take (min 64 (4096 - k.stream))
      (∀ y ∈ s.pvcs, ∀ d off, y.2.cmd = p.cmd → y.2.stall = some (.ent d off) → off + 32 ≤ r.length) →
      ∃ u q, exec (.entChunkArrival p.cmd) s = .next u ∧ mget u.cmds p.cmd = some { k with chunk := [], rand := r } ∧
        mget u.pvcs c = some q ∧ q.ent = r ∧ (∀ d off, p.stall = some (.ent d off) → q.stall = none)) ∧
    (p.stall ≠ some .ended → p.valid = true → exec (.validationPhaseTimeout c) s = .next (takeTrap c p tcValidation 0 p.pc 0 s)) ∧
    (p.stall ≠ some .ended → exec (.kernelWatchdog c) s = .next (takeTrap c p tcWatchdog 0 p.pc 0 s)) ∧
    ((s.unit c).scrub = true → ∃ u, exec (.pvcScrubDone c) s = .next u ∧ mget u.pvcs c = none ∧ (u.unit c).scrub = false ∧ (u.unit c).busy = none ∧
      (u.unit c).code = (s.unit c).code ∧ mget u.test.views c = none ∧ ∀ k, k ≠ c → mget u.pvcs k = mget s.pvcs k)

/-! Queue pairs, completions, fences, chains, batches and runs (spec files 03 and 01). -/

/-- R84, R86, R87, R88, R90; bit 14 of QPq_CFG is reserved and keeps its value. -/
def Obligations.QueuePairs : Prop :=
  ∀ (s : State) (fn q : Nat) (v : Word), q < s.qps' fn →
    let p := s.qp fn q
    let cfg : Word := (p.cfg &&& 0x4000) ||| (v &&& 0x7FFFBFFF)
    let size := 12 < fld v 3 0 ∨ 12 < fld v 7 4 ∨ bitAt p.baseHi 31 = true
    let vec := bitAt v 15 = true ∧ s.vecs fn ≤ fld v 13 8
    let gone := fun (t : State) => (∀ id c, mget t.cmds id = some c → ¬ (c.fn = fn ∧ c.qp = q)) ∧ t.tx = s.tx
    let errs := fun (i : Instr) (e : Nat) => ∃ t, exec i s = .next t ∧ (t.qp fn q).state = .error ∧ (t.qp fn q).err = e ∧ gone t ∧
      bitAt (t.rd 0 (Reg.CMD_QPERR (fn / 32))) (fn % 32) = true
    (p.state = .off → bitAt p.cfg 31 = false →
      (¬ size → ¬ vec → s.qpAvailable fn = true → exec (.qpCreate fn q v) s = .next (s.setQp fn q
        { p with
          cfg := cfg ||| 0x80000000
          state := .active
          err := 0
          head := 0
          tail := 0
          cqHead := 0
          cqTail := 0
          phase := true
          waiting := []
          pendCnt := 0
          pendSince := 0
          irqCfg := 0
          chain := none
          chainRes := none
          firstFail := none })) ∧
      (size → exec (.qpCreate fn q v) s = .next (s.setQp fn q { p with cfg := cfg, err := 1 })) ∧
      (¬ size → vec → exec (.qpCreate fn q v) s = .next (s.setQp fn q { p with cfg := cfg, err := 2 })) ∧
      (¬ size → ¬ vec → s.qpAvailable fn = false → exec (.qpCreate fn q v) s = .next (s.setQp fn q { p with cfg := cfg, err := 8 }))) ∧
    (p.state ≠ .off → bitAt p.cfg 31 = true →
      exec (.qpCreate fn q v) s = .next (s.setQp fn q { p with cfg := (p.cfg &&& 0x80007FFF) ||| (v &&& 0x7FFF8000) })) ∧
    (p.state = .active ∨ p.state = .error → bitAt p.cfg 31 = true →
      ∃ t, exec (.qpDelete fn q v) s = .next t ∧ (t.qp fn q).state = .deleting ∧ bitAt (t.qp fn q).cfg 31 = false ∧ gone t ∧ t.regs = s.regs) ∧
    (p.state = .deleting → bitAt p.cfg 31 = false → exec (.qpDeleteDone fn q) s = .next (s.setQp fn q { p with state := .off })) ∧
    (s.qpOpen fn q = true →
      (fld v 15 0 < p.sqLen → exec (.sqTailDoorbell fn q v) s = .next (s.setQp fn q { p with tail := fld v 15 0 })) ∧
      (p.sqLen ≤ fld v 15 0 → errs (.sqTailDoorbell fn q v) 4) ∧
      (∀ k, p.cqHead < p.cqLen → p.cqTail < p.cqLen → k ≤ (p.cqTail + p.cqLen - p.cqHead) % p.cqLen → fld v 15 0 = (p.cqHead + k) % p.cqLen →
        exec (.cqHeadDoorbell fn q v) s = .next (s.setQp fn q { p with cqHead := fld v 15 0 })) ∧
      (p.cqLen ≤ fld v 15 0 → errs (.cqHeadDoorbell fn q v) 5) ∧
      (∀ k, p.cqHead < p.cqLen → p.cqTail < p.cqLen → (p.cqTail + p.cqLen - p.cqHead) % p.cqLen < k → k < p.cqLen → fld v 15 0 = (p.cqHead + k) % p.cqLen →
        errs (.cqHeadDoorbell fn q v) 5)) ∧
    (s.qpOpen fn q = false → ∀ i ∈ [Instr.sqTailDoorbell fn q v, .cqHeadDoorbell fn q v], exec i s = .next s)

/-- R88, R93, R103, R104; `earlierLive` and `earlierFailed` look at the commands fetched earlier from the same SQ (batch members: lower records). -/
def Obligations.FetchAndStart : Prop :=
  (∀ (s : State) (fn q : Nat) (d : List Byte), d.length = 64 → s.qpOpen fn q = true → (s.qp fn q).head ≠ (s.qp fn q).tail →
    (s.roomFor fn = false → exec (.descriptorFetch fn q d) s = .next s) ∧
    (s.roomFor fn = true → leAt d 60 4 = crc32c (d.take 60) → leAt d 0 2 ≠ 0xF010 → (s.qp fn q).chain = none → (s.qp fn q).chainRes = none →
      ∃ t, exec (.descriptorFetch fn q d) s = .next t ∧ t.nextCmd = s.nextCmd + 1 ∧
        ((leAt d 2 1).testBit 0 = false → (leAt d 2 1).testBit 2 = false → leAt d 2 1 < 32 → opcodeOk fn (leAt d 0 2) false = true →
          (∃ c, Started t s.nextCmd c ∧ c.fn = fn ∧ c.qp = q ∧ c.slot = (s.qp fn q).head ∧ c.desc = d) ∧
          (t.qp fn q).head = ((s.qp fn q).head + 1) % (s.qp fn q).sqLen ∧
          (t.qp fn q).chain = (if (leAt d 2 1).testBit 4 then some s.nextCmd else none) ∧ t.tx = s.tx) ∧
        ((leAt d 2 1).testBit 0 = true → (∃ x ∈ s.cmds, x.1 < s.nextCmd ∧ x.2.member = none ∧ x.2.fn = fn ∧ x.2.qp = q) →
          ∃ c, mget t.cmds s.nextCmd = some c ∧ c.phase = .held ∧ c.fence = true ∧ c.desc = d ∧ t.tx = s.tx))) ∧
  (∀ (s : State) (id : Nat) (c : Cmd), mget s.cmds id = some c → c.phase = .held → ∀ i ∈ [Instr.fenceStart id, .chainSuccessorStart id],
    (c.pred.isSome = true ∧ c.predRes = none ∨ c.fence = true ∧ s.earlierLive id c = true → exec i s = .next s) ∧
    ((c.pred = none ∨ c.predRes ≠ none) → (c.fence = true → s.earlierLive id c = false) → c.note = [] →
      (c.predRes = some false → exec i s = .next (s.complete id (.fail St.ABORTED [2]))) ∧
      (c.predRes ≠ some false → c.fence = true → s.earlierFailed id c = true → exec i s = .next (s.complete id (.err St.FENCED))) ∧
      (c.predRes ≠ some false → (c.fence = true → s.earlierFailed id c = false) → opcodeOk c.fn c.op c.member.isSome = true →
        c.flag 2 = c.member.isSome → c.flags < 32 → ∃ t, exec i s = .next t ∧ Started t id { c with phase := .started } ∧
          t = { s with cmds := t.cmds })))

/-- R90 to R92, R100, R109: `State.complete` is how every command of a queue ends. That a masked vector's message waits is the model's reading of
the pending-bit array (log entry 10). -/
def Obligations.CommandEnds : Prop :=
  (∀ (s : State) (id : Nat) (c : Cmd) (d : Done), mget s.cmds id = some c → c.member = none → (s.qp c.fn c.qp).state = .active → d.inline.length ≤ 16 →
    let p := s.qp c.fn c.qp
    let t := s.complete id d
    ((p.cqTail + 1) % p.cqLen ≠ p.cqHead → p.waiting = [] →
      mget t.cmds id = none ∧ (t.qp c.fn c.qp).cqTail = (p.cqTail + 1) % p.cqLen ∧
      (t.qp c.fn c.qp).phase = (if (p.cqTail + 1) % p.cqLen = 0 then !p.phase else p.phase) ∧
      ∃ (time : Word) (e : List Byte) (m : List LinkOut), t.tx = s.tx ++ .mem c.fn (p.cqSlot p.cqTail) e false :: m ∧ (m = [] ∨ m = [.msix c.fn (fld p.cfg 13 8)]) ∧
        (d.timed = false → time = 0) ∧
        e = natLE 2 c.tag ++ natLE 2 c.qp ++ [BitVec.ofNat 8 d.status,
              BitVec.ofNat 8 (b2n p.phase + (match d.verdict with | some v => 2 + 4 * b2n v | none => 0) + 8 * b2n c.replayed)] ++
            natLE 2 p.head ++ natLE 4 d.bytes ++ natLE 4 time.toNat ++ d.inline ++ List.replicate (16 - d.inline.length) 0) ∧
    ((p.cqTail + 1) % p.cqLen = p.cqHead → t.tx = s.tx ∧ (∃ x, mget t.cmds id = some x ∧ x.phase = .waitCq) ∧
      ∃ w, (t.qp c.fn c.qp).waiting = p.waiting ++ [w] ∧ w.cmd = id)) ∧
  (∀ (s : State) (fn q : Nat) (w : WaitEntry) (l : List WaitEntry), s.qpOpen fn q = true → (s.qp fn q).waiting = w :: l →
    let p := s.qp fn q
    ((p.cqTail + 1) % p.cqLen = p.cqHead → exec (.pendingCompletionWrite fn q) s = .next s) ∧
    ((p.cqTail + 1) % p.cqLen ≠ p.cqHead → ∃ t e m, exec (.pendingCompletionWrite fn q) s = .next t ∧
      t.tx = s.tx ++ .mem fn (p.cqSlot p.cqTail) e false :: m ∧ (t.qp fn q).waiting = l ∧ mget t.cmds w.cmd = none ∧
      (t.qp fn q).cqTail = (p.cqTail + 1) % p.cqLen ∧ (w.entry.length = 32 → e.length = 32))) ∧
  (∀ (s : State) (fn q : Nat), s.qpOpen fn q = true → bitAt (s.qp fn q).irqCfg 15 = true → 0 < (s.qp fn q).pendCnt →
    fld (s.qp fn q).irqCfg 30 24 ≠ 0 → let vec := fld (s.qp fn q).cfg 13 8
    ∃ t, exec (.coalTimeout fn q) s = .next t ∧ (t.qp fn q).pendCnt = 0 ∧ t.cmds = s.cmds ∧ t.regs = s.regs ∧
      (s.vecMasked fn vec = false → t.tx = s.tx ++ [.msix fn vec]) ∧ (s.vecMasked fn vec = true → t.tx = s.tx ∧ fn * 65536 + vec ∈ t.link.pba))

/-- R105 to R108, R111: the three commands of a queue and the dispatch of members. -/
def Obligations.Batches : Prop :=
  (∀ (s : State) (id : Nat) (c : Cmd) (h : HostRead), MayStart s id c → ∀ i op rl aux, (i, op, rl, aux) ∈
      [(Instr.batch id h, 0xF001, 64, 0), (.campaign id h, 0xF002, 48, 64)] → c.op = op →
    let n := c.inLen / rl
    let map := leAt c.desc 48 8
    let t := fixLen 64 h.aux
    let shape := c.inLen = rl * n ∧ 1 ≤ n ∧ n ≤ 2 ^ 20 ∧ map % 8 = 0 ∧ map < 2 ^ 63 ∧ c.h2 = 0 ∧ c.h1 ≠ PUBLIC_IN_AUX
    let tplOk := aux = 64 → leAt t 60 4 = crc32c (t.take 60) ∧ (leAt t 2 1).testBit 2 = true ∧
      (0x0100 ≤ leAt t 0 2 ∧ leAt t 0 2 ≤ 0x1FFF ∨ 0x8000 ≤ leAt t 0 2 ∧ leAt t 0 2 ≤ 0x8FFF) ∧ leAt t 16 32 = 0 ∧ leAt t 56 4 = 0
    (¬ shape → exec i s = .next (s.complete id (.err St.BAD_FIELD))) ∧
    (∀ a b o, shape → buffer c.inAddr c.inLen h.inList = .ok a → buffer c.auxAddr c.auxLen h.auxList = .ok b →
      buffer c.outAddr c.cap h.outList = .ok o →
      (c.auxLen ≠ aux → exec i s = .next (s.complete id (.fail St.LENGTH_MISMATCH (natLE 4 (min c.auxLen 0xFFFFFFFF))))) ∧
      (c.auxLen = aux → tplOk → c.cap < 32 * n → exec i s = .next (s.complete id (.fail St.OUTPUT_TOO_SMALL (natLE 4 (32 * n))))) ∧
      (c.auxLen = aux → tplOk → 32 * n ≤ c.cap → c.note = [] → ∃ u w, exec i s = .next u ∧ mget u.batches id = some w ∧ w.total = n ∧ w.next = 0 ∧
        w.done = [] ∧ w.campaign = decide (aux = 64) ∧
        w.bitmap = map ∧ w.succ = 0 ∧ w.other = 0 ∧ w.rejected = 0 ∧ w.firstBad = none ∧ w.aborted = false ∧ w.tag = c.tag ∧
        mget u.cmds id = some { c with outMap := o, phase := .batch } ∧
        u.tx = s.tx ++ [.mem c.fn map (List.replicate (8 * ((n + 63) / 64)) 0) false] ∧ u.qps = s.qps ∧ u.regs = s.regs))) ∧
  (∀ (s : State) (b : Nat) (w : Batch) (c : Cmd) (r : List Byte), mget s.batches b = some w → mget s.cmds b = some c →
    (s.roomFor c.fn = false ∨ w.total ≤ w.next → exec (.batchMemberDispatch b r) s = .next s) ∧
    (c.phase = .batch → w.next < w.total → s.qpOpen c.fn c.qp = true → s.roomFor c.fn = true → r.length = (if w.campaign then 48 else 64) →
      let d := if w.campaign then campaignDesc w.template r else r
      (w.campaign = false → leAt r 60 4 = crc32c (r.take 60)) → (w.campaign = true → leAt r 42 1 < 2 ∧ leAt r 43 5 = 0) →
      (leAt d 2 1).testBit 0 = false → (leAt d 2 1).testBit 2 = true → leAt d 2 1 < 32 → opcodeOk c.fn (leAt d 0 2) true = true → w.chain = none →
      ∃ u m, exec (.batchMemberDispatch b r) s = .next u ∧ Started u s.nextCmd m ∧ m.member = some (b, w.next) ∧ m.desc = d ∧ m.fn = c.fn ∧
        m.qp = c.qp ∧ mget u.batches b = some { w with next := w.next + 1, chain := if (leAt d 2 1).testBit 4 then some w.next else none } ∧
        u.tx = s.tx ∧ u.qps = s.qps)) ∧
  (∀ (s : State) (id : Nat) (c : Cmd) (h : HostRead), MayStart s id c → c.op = 0xF010 → keysRise s.batches = true →
    let tag := leAt c.desc 48 2
    let ours := fun (y : Cmd) => y.fn == c.fn && y.qp == c.qp && y.tag == tag
    let found := s.batches.filter (fun x => match mget s.cmds x.1 with | some y => ours y && y.phase == .batch | none => false)
    let early := (s.cmds.filter (fun x => ours x.2 && x.2.member.isNone && (x.2.op == 0xF001 || x.2.op == 0xF002) &&
      (x.2.phase == .held || x.2.phase == .started) && (x.2.note == [] || x.2.note == [3]))).map (·.1)
    let shape := c.flag 0 = false ∧ c.flag 4 = false ∧ leAt c.desc 50 6 = 0 ∧ c.h2 = 0 ∧ c.h1 ≠ PUBLIC_IN_AUX
    (¬ shape → exec (.abortBatch id h) s = .next (s.complete id (.err St.BAD_FIELD))) ∧
    (∀ a b o, shape → buffer c.inAddr c.inLen h.inList = .ok a → buffer c.auxAddr c.auxLen h.auxList = .ok b →
      buffer c.outAddr c.cap h.outList = .ok o →
      (c.inLen ≠ 0 → exec (.abortBatch id h) s = .next (s.complete id (.fail St.LENGTH_MISMATCH (natLE 4 (min c.inLen 0xFFFFFFFF))))) ∧
      (c.inLen = 0 → c.auxLen ≠ 0 → exec (.abortBatch id h) s = .next (s.complete id (.fail St.LENGTH_MISMATCH (natLE 4 (min c.auxLen 0xFFFFFFFF))))) ∧
      (c.inLen = 0 → c.auxLen = 0 → found = [] → early = [] → exec (.abortBatch id h) s = .next (s.complete id (.err St.STATE))) ∧
      (c.inLen = 0 → c.auxLen = 0 → found ≠ [] ∨ early ≠ [] → ∃ u : State,
        exec (.abortBatch id h) s = .next (u.complete id (.ok 0 (natLE 4 (found.length + early.length)))) ∧
        u.regs = s.regs ∧ u.ks = s.ks ∧ (∃ x : Cmd, mget u.cmds id = some x ∧ x.desc = c.desc) ∧
        (∀ k ∈ early, ∃ y, mget u.cmds k = some y ∧ y.note = [3]) ∧
        (∀ x ∈ found, x.2.next = x.2.total → mget u.batches x.1 = some { x.2 with aborted := true }) ∧
        (∀ k, (∀ x ∈ found, x.1 ≠ k) → mget u.batches k = mget s.batches k))))

/-- R33, R35, R69, R253, R254, R277, R366, R367: RUN_PLACE and RUN_FINISH. `eligible` is the rule of R33 and R366 on the units of a leg. That the
runs of one leg are one job of the scheduler is the model's choice (log entry 20). -/
def Obligations.DuplicatedRuns : Prop :=
  (∀ (s : State) (id leg : Nat) (c : Cmd) (l : Leg), mget s.cmds id = some c → c.legs[leg]? = some l → c.phase = .ready ∨ c.phase = .running →
    l.decided = none → (l.cls = .chk → s.chkTurn id c = true) →
    let takes := fun (u : Nat) => l.runs.length < l.want ∧ s.eligible c l u = true ∧ s.freeFor id u = true ∧ s.preferred c l u = true ∧
      (l.runs = [] → c.goesOn = false → s.itsTurn l.cls c = true)
    (∀ u, s.eligible c l u = true → l.usedGroup u = true → l.cls ≠ .chk →
      u ∈ l.passed ∧ 3 ≤ l.want ∧ ∀ v ∈ unitsOf l.cls, s.couldRun c l v = true → l.usedGroup v = true) ∧
    (∀ u, s.noUnits c l = false → takes u → ∃ t, exec (.runPlace id leg [u]) s = .next t ∧
      mget t.cmds id = some { c with phase := .running, legs := c.legs.set leg { l with runs := l.runs ++ [⟨u, s.nextRun, none, none⟩], used := l.used ++ [u] } } ∧
      ((t.unit u).busy = some id ∨ (s.unit u).busy ≠ none ∧ (t.unit u).inter = some id) ∧ (t.unit u).service = true ∧
      (∀ v, v ≠ u → t.unit v = s.unit v) ∧ t.nextRun = s.nextRun + 1 ∧ t.tx = s.tx ∧ (u < 108 ∨ 124 ≤ u → t.regs = s.regs)) ∧
    (∀ u, u < 1000 → s.noUnits c l = false → l.want < 3 → ¬ takes u → exec (.runPlace id leg [u]) s = .next s) ∧
    (∀ us, s.noUnits c l = true → l.cls ≠ .bne → exec (.runPlace id leg us) s = .next (s.complete id l.faultDone) ∧ l.faultDone.status = St.DEVICE_FAULT) ∧
    (∀ us, s.noUnits c l = true → l.cls = .bne → exec (.runPlace id leg us) s = .next ((s.flt1 124 1).complete id l.faultDone)) ∧
    (s.noUnits c l = false → s.maskless c l.cls = true → exec (.runPlace id leg []) s = .next (s.complete id (.late St.ENTROPY_FAULT))) ∧
    (s.noUnits c l = false → s.maskless c l.cls = false → exec (.runPlace id leg []) s = .next (s.retest id leg))) ∧
  (∀ (s : State) (id leg u : Nat) (flip : Option Nat) (c : Cmd) (l : Leg) (x : Run), mget s.cmds id = some c → c.legs[leg]? = some l → l.decided = none →
    l.runs.find? (fun r => r.unit == u && r.res.isNone) = some x → x.kres = none → c.kern = false → c.op / 256 ≠ 0x0C → l.cls ≠ .chk →
    s.masksFor c u = true →
    (s.legResult c leg = none → c.test = false → c.stream < 4096 → s.nrgDown = false → c.chunk = [] →
      s.nrg.queue.any (fun r => r.who == .chunk id) = false →
      exec (.runFinish id leg u flip) s = .next (s.nrgAsk 2 23 (.chunk id) (min 64 (4096 - c.stream)))) ∧
    (∀ r0, s.legResult c leg = some r0 → (s.unit u).corrupt = none → 2 ≤ l.want →
      let r1 := match flip with | some i => r0.flip i | none => r0
      let r := { r1 with own := s.ownGood c leg r1 }
      let runs := l.runs.map (fun (y : Run) => if y.unit = u ∧ y.res = none then { y with res := some r } else y)
      let res := runs.filterMap (·.res)
      let leaves := fun (l' : Leg) (rep : Bool) (v : State) =>
        mget v.cmds id = some { c with replayed := rep, legs := c.legs.set leg { l' with runs := runs } } ∧ v.tx = s.tx ∧ v.ks = s.ks ∧ v.qps = s.qps ∧
        (v.unit u).busy = (if u < 96 ∨ (s.unit u).inter = some id then (s.unit u).busy else (s.unit u).inter) ∧ (u < 96 → (v.unit u).scrub = true)
      (res.length < l.want → ∃ v, leaves l c.replayed v ∧ exec (.runFinish id leg u flip) s = .next v) ∧
      (l.want = 2 → res.length = 2 → (res.filter (·.own)).Nodup →
        ∃ v, leaves { l with want := 3 } c.replayed v ∧ exec (.runFinish id leg u flip) s = .next (v.retest id leg)) ∧
      (l.want = 3 → res.length = 3 → (res.filter (·.own)).Nodup →
        ∃ v, leaves { l with want := 5, retest := [], passed := [] } c.replayed v ∧ exec (.runFinish id leg u flip) s = .next (v.retest id leg)) ∧
      (l.want ≤ res.length → r.own = true → (∀ y ∈ runs, y.res = some r) →
        ∃ v, leaves { l with decided := some r } (c.replayed || decide (2 < l.want)) v ∧ exec (.runFinish id leg u flip) s = .next (v.finish id))))

/-! Commands of the algorithm families, keys and contexts (spec files 01, 05, 06, 08, 10). -/

/-- R25, R31, R32: the operations of families 0x01 to 0x11, their test variants, the key operations that run on engines, the random and check
commands and custom kernels. The model marks a wait for unsealing with 0x100, which is no status of the device; `base` is the state in which an OPM_RUN has taken its
SEALED partition, every slot of which is EMPTY from then on (R262). -/
def Obligations.EngineCommands : Prop :=
  (∀ (s : State) (id : Nat) (c : Cmd) (h : HostRead), Started s id c → s.vendorKernel c.op = false → ∀ i (ok : Bool) r, (i, ok, r) ∈
    [(Instr.encaps id h, algOpOk c.op && c.op % 256 == 0x10, s.algValidate c h), (.encapsCtx id h, algOpOk c.op && c.op % 256 == 0x11, s.algValidate c h),
      (.decaps id h, algOpOk c.op && c.op % 256 == 0x12, s.algValidate c h), (.decapsCtx id h, algOpOk c.op && c.op % 256 == 0x13, s.algValidate c h),
      (.sign id h, algOpOk c.op && c.op % 256 == 0x20, s.algValidate c h), (.signDet id h, algOpOk c.op && c.op % 256 == 0x21, s.algValidate c h),
      (.signPh id h, algOpOk c.op && c.op % 256 == 0x22, s.algValidate c h), (.signMu id h, algOpOk c.op && c.op % 256 == 0x23, s.algValidate c h),
      (.signDetPh id h, algOpOk c.op && c.op % 256 == 0x24, s.algValidate c h), (.verify id h, algOpOk c.op && c.op % 256 == 0x28, s.algValidate c h),
      (.verifyPh id h, algOpOk c.op && c.op % 256 == 0x29, s.algValidate c h), (.verifyMu id h, algOpOk c.op && c.op % 256 == 0x2A, s.algValidate c h),
      (.agree id h, algOpOk c.op && c.op % 256 == 0x30, s.algValidate c h), (.agreeCtx id h, algOpOk c.op && c.op % 256 == 0x31, s.algValidate c h),
      (.encryptOaep id h, algOpOk c.op && c.op % 256 == 0x40, s.algValidate c h), (.decryptOaep id h, algOpOk c.op && c.op % 256 == 0x41, s.algValidate c h),
      (.signPkcs1 id h, algOpOk c.op && c.op % 256 == 0x44, s.algValidate c h), (.signPss id h, algOpOk c.op && c.op % 256 == 0x45, s.algValidate c h),
      (.verifyPkcs1 id h, algOpOk c.op && c.op % 256 == 0x46, s.algValidate c h), (.verifyPss id h, algOpOk c.op && c.op % 256 == 0x47, s.algValidate c h),
      (.testVariant id h, algOpOk c.op && decide (128 ≤ c.op % 256), s.algValidate c h),
      (.generate id h, c.op == 0x0F01, s.generateVal c h), (.generateBlob id h, c.op == 0x0F02, s.generateVal c h), (.import id h, c.op == 0x0F08, s.importVal c h),
      (.derive id h, c.op == 0x0F10, s.deriveVal c h), (.wrap id h, c.op == 0x0F20, s.wrapVal c h), (.unwrap id h, c.op == 0x0F21, s.unwrapVal c h),
      (.stageGenerate id h, c.op == 0x0F30, s.stageGenerateVal c h), (.stageUnwrap id h, c.op == 0x0F31, s.stageUnwrapVal c h),
      (.stageVerify id h, c.op == 0x0F32, s.stageVerifyVal c h), (.random id h, c.op == 0x0E01, s.randomVal c h), (.randomCtx id h, c.op == 0x0E02, s.randomCtxVal c),
      (.check id h, c.op == 0x0D01, s.checkVal c h), (.checkVerify id h, c.op == 0x0D02, s.checkVal c h),
      (.kernelCommand id h, decide (0x8000 ≤ c.op) && decide (c.op ≤ 0x8FFF), s.kernelVal c h),
      (.opmRun id h, c.op == 0x0F80 && !s.opmBusy id c, s.opmRunVal c h)] →
    let part := s.opmPart c.fn
    let base : State := if c.op = 0x0F80 ∧ part.sealed = true then { s with opm := mput s.opm c.fn { part with slots := [] } } else s
    (ok = false ∨ s.behind id c = true → exec i s = .next s) ∧
    (ok = true → s.behind id c = false →
      (∀ d, r = .error d → d.status ≠ 0x100 → exec i s = .next (s.complete id d)) ∧
      (∀ d, r = .error d → d.status = 0x100 → exec i s = .next { s with cmds := mput s.cmds id { c with phase := .waitUnseal, since := s.now } }) ∧
      (∀ c1, r = .ok c1 → exec i s = .next (base.takeIn id c1)) ∧
      (∀ c1, r = .ok c1 → c1.codeKey = none → c1.wantsLeaf = false ∨ c1.leaf ≠ none →
        (c1.need = 0 → exec i s = .next { base with cmds := mput s.cmds id { c1 with phase := .ready } }) ∧
        (0 < c1.need → s.rdF Reg.NRG_STAT 1 0 ≠ 2 → exec i s = .next
          { base with
            cmds := mput s.cmds id { c1 with phase := .waitRand, since := s.now }
            nrg := { s.nrg with queue := s.nrg.queue ++ [⟨2, 23, .cmd id, if c1.op = 0x0E01 then min c1.need 4096 else c1.need, s.now⟩] } }) ∧
        (0 < c1.need → s.rdF Reg.NRG_STAT 1 0 = 2 → exec i s = .next
          (({ base with cmds := mput s.cmds id c1 } : State).complete id ⟨St.ENTROPY_FAULT, 0, none, [], true⟩))))) ∧
  (∀ (s : State) (id : Nat) (c : Cmd) (h : HostRead), Started s id c → s.behind id c = false → s.vendorKernel c.op = true →
    (∀ d, s.kernelVal c h = .error d → d.status ≠ 0x100 → exec (.kernelCommand id h) s = .next (s.complete id d)) ∧
    (∀ c1, s.kernelVal c h = .ok c1 → exec (.kernelCommand id h) s = .next (s.takeIn id c1)))

/-- R30, R36, R139, R140, R154 to R156, R220 to R223; the events of keys are stated where no command waits for them. -/
def Obligations.LeavesAndCodeKeys : Prop :=
  (∀ (s : State) (id : Nat) (c : Cmd) (k : KeyMat), c.codeKey = none → c.wantsLeaf = true → c.leaf = none → c.k1 = some k →
    let s0 : State := { s with cmds := mput s.cmds id c }
    let t := s.takeIn id c
    let frozen := (s.holder k.handle k.uid).any (fun o => o.frozen)
    let rebuild := (s.holder k.handle k.uid).any (fun o => o.rebuild)
    (s.findGen k.handle k.uid = none → t = s0.complete id (.late St.KEY_ABSENT)) ∧
    (∀ g, s.findGen k.handle k.uid = some g →
      (frozen = true ∨ g.stuck = true ∨ g.last < g.next → t = s0.complete id (.late St.KEY_EXHAUSTED)) ∧
      (frozen = false → g.stuck = false → g.next ≤ g.last → rebuild = true ∨ g.ceil ≤ g.next →
        mget t.cmds id = some { c with phase := .waitLeaf, since := s.now } ∧ t.tx = s.tx ∧ t.regs = s.regs ∧
        ∃ u, t.findGen k.handle k.uid = some u ∧ u.next = g.next ∧ u.ceil = g.ceil) ∧
      (frozen = false → g.stuck = false → g.next ≤ g.last → rebuild = false → g.next < g.ceil → c.need = 0 →
        mget t.cmds id = some { c with leaf := some g.next, k1 := some { k with trees := g.trees, links := g.links }, phase := .ready } ∧
        t.tx = s.tx ∧ t.regs = s.regs ∧
        ∃ u, t.findGen k.handle k.uid = some u ∧ u.next = g.next + 1 ∧ u.ceil = g.ceil ∧ u.priv = g.priv))) ∧
  (∀ (s : State) (id : Nat) (c : Cmd) (h : Nat) (k : CodeKey), c.codeKey = some h → c.need = 0 →
    s.ks.codeKeys.find? (fun x => x.handle == h && !x.loading) = some k →
      let t := s.takeIn id c
      mget t.cmds id = some { c with phase := .ready } ∧ t.ks.useClock = s.ks.useClock + 1 ∧
        t.ks.codeKeys = s.ks.codeKeys.map (fun (x : CodeKey) => if x.handle = h then { x with used := s.ks.useClock + 1 } else x)) ∧
  (∀ (s : State) (h : Nat), (∀ x ∈ s.cmds, x.2.phase ≠ .waitLeaf) →
    (s.raisingGen h = none → ∀ ok, exec (.journalWriteDone h ok) s = .next s) ∧
    (∀ (g : KeyGen) (v : Nat), s.raisingGen h = some g → g.raising = some v → s.findGen h g.uid = some g →
      (∃ t u, exec (.journalWriteDone h true) s = .next t ∧ t.cmds = s.cmds ∧ t.regs = s.regs ∧ t.findGen h g.uid = some u ∧
        u = { g with ceil := v, raising := none, seqNo := g.seqNo + 1 } ∧
        ∀ f, mget s.ks.flash h = some f → f.obj.act.uid = g.uid → mget t.ks.flash h = some { f with ceil := v }) ∧
      (0 < s.ks.hbsSpare → ∃ t, exec (.journalWriteDone h false) s = .next t ∧ t.ks = { s.ks with hbsSpare := s.ks.hbsSpare - 1 } ∧ t.cmds = s.cmds) ∧
      (s.ks.hbsSpare = 0 → ∃ t u, exec (.journalWriteDone h false) s = .next t ∧ t.cmds = s.cmds ∧ t.findGen h g.uid = some u ∧
        u = { g with raising := none, stuck := true } ∧
        ∀ o, s.holder h g.uid = some o → ∃ p, mget t.ks.objs h = some p ∧ p.frozen = true ∧ p.attrs = o.attrs))) ∧
  (∀ (s : State) (h : Nat) (o : KeyObj), mget s.ks.objs h = some o → (∀ x ∈ s.cmds, x.2.phase ≠ .waitLeaf) →
    let mine := (s.rebuildOrder.take (((unitsOf .hte).filter s.isFree).length / 2)).contains h
    (mine = true → exec (.hteRebuildDone h) s = .next { s with ks := { s.ks with
      objs := mput s.ks.objs h { o with rebuild := false, act := o.act.at_ (attrFam o.attrs) o.act.next } } }) ∧
    (mine = false → exec (.hteRebuildDone h) s = .next s)) ∧
  (∀ (s : State) (h : Nat) (k : CodeKey), s.ks.codeKeys.find? (fun x => x.handle == h && x.loading) = some k → (∀ x ∈ s.cmds, x.2.phase ≠ .waitLoad) →
    (k.gran ≤ k.loaded + 4 → ∃ t, exec (.codeKeyPortion h true) s = .next t ∧ t.ks.codeKeys =
      s.ks.codeKeys.map (fun (x : CodeKey) => if x.handle = h then { k with loaded := max k.loaded k.gran, loading := false } else x)) ∧
    (k.loaded + 4 < k.gran → exec (.codeKeyPortion h true) s = .next { s with ks := { s.ks with
      codeKeys := s.ks.codeKeys.map (fun (x : CodeKey) => if x.handle = h then { k with loaded := k.loaded + 4, loading := true } else x) } }) ∧
    ((∀ x ∈ s.pvcs, ∀ a b l r, x.2.stall = some (.kld a b l (some r)) → r.1 ≠ h) → ∃ t, exec (.codeKeyPortion h false) s = .next t ∧
      t.ks = { s.ks with codeKeys := s.ks.codeKeys.filter (fun x => x.handle != h) } ∧ bitAt (t.rd 0 Reg.KST_STAT) 6 = false)) ∧
  (∀ (s : State), s.ks.codeKeys.any (fun k => k.loading) = true ∨ (∀ x ∈ s.cmds, x.2.phase ≠ .waitLoad) →
    exec .codeKeyEntryFreed s = .next s) ∧
  (∀ (s : State) (id : Nat) (c : Cmd) (h : Nat) (k : KeyMat) (l : List CodeKey),
    s.ks.codeKeys.any (fun k => k.loading) = false → s.cmds.find? (fun c => c.2.phase == .waitLoad) = some (id, c) → mget s.cmds id = some c →
    c.codeKey = some h → c.k1 = some k → (∀ x ∈ s.ks.codeKeys, x.handle ≠ h) →
    let s1 : State := { s with cmds := mput s.cmds id { c with phase := .waitLoad, since := s.now } }
    evict s1.readsCode (granules k.par) 61 s.ks.codeKeys = some l →
    ∃ t, exec .codeKeyEntryFreed s = .next t ∧ t.cmds = s1.cmds ∧ t.ks = { s.ks with codeKeys := l ++ [⟨h, granules k.par, true, 0, s.ks.useClock, id⟩] } ∧
      bitAt (t.rd 0 Reg.KST_STAT) 6 = true) ∧
  (∀ (s : State) (h gen : Nat), ∃ t, exec (.retiringDrainEnd h gen) s = .next t ∧ t.cmds = s.cmds ∧ t.regs = s.regs ∧
    (∀ o, mget s.ks.objs h = some o → ∃ p, mget t.ks.objs h = some p ∧ p.act = o.act ∧ p.staged = o.staged ∧
      ∀ g, g ∈ p.retiring ↔ g ∈ o.retiring ∧ (g.gen ≠ gen ∨ s.genInUse g.uid = true)) ∧
    (∀ x, x ∈ t.ks.dying ↔ x ∈ s.ks.dying ∧ ((x.1 = h → x.2.gen ≠ gen) ∨ s.genInUse x.2.uid = true)))

/-- R141, R143, R147, R148, R151 to R154: the operations of family 0x0F that need no engine, for objects that no fabric group replicates. -/
def Obligations.KeyOperationsAtOnce : Prop :=
  ∀ (s : State) (id : Nat) (c : Cmd) (h : HostRead), MayStart s id c →
    let plain := leAt c.desc 48 8 = 0 ∧ c.h2 = 0 ∧ c.h1 ≠ PUBLIC_IN_AUX
    let empty := c.inLen = 0 ∧ c.auxLen = 0 ∧ c.cap = 0
    (∀ i op (key : Bool), (i, op, key) ∈ [(Instr.discard id h, 0x0F34, true), (.blobEpoch id h, 0x0F41, false), (.ctxClear id h, 0x0F50, false),
        (.publicExport id h, 0x0F60, true), (.attributes id h, 0x0F61, true), (.destroy id h, 0x0F40, true), (.commit id h, 0x0F33, true)] → c.op = op →
      ¬ plain ∨ key = false ∧ c.h1 ≠ 0 → exec i s = .next (s.complete id (.err St.BAD_FIELD))) ∧
    (plain → empty → ∀ (m : KeyMat) (o : KeyObj), s.resolve c.fn c.h1 [] = .key m (some o) → s.curveHolds m = true →
        s.groupOf c.h1 = none → s.committing c.h1 = false →
      (c.op = 0x0F33 → ∀ g, o.staged = some g → o.verified = true → s.curveHolds (g.mat c.h1 o.stAttrs) = true → (attrPersist o.attrs = true → s.noDsk = false ∧ s.dskPending = false) →
        exec (.commit id h) s = .next ((s.commitGen c.h1 o g).complete id (.ok 0 (natLE 4 g.gen)))) ∧
      (c.op = 0x0F33 → o.staged = none → exec (.commit id h) s = .next (s.complete id (.err St.STATE))) ∧
      (c.op = 0x0F34 → o.staged ≠ none → exec (.discard id h) s = .next
        (({ s with ks := { s.ks with objs := mput s.ks.objs c.h1 { o with staged := none, stAttrs := [], verified := false } } } : State).complete id (.ok 0 []))) ∧
      (c.op = 0x0F34 → o.staged = none → exec (.discard id h) s = .next (s.complete id (.err St.STATE))) ∧
      (c.op = 0x0F40 → handleClass c.h1 = 0 → (attrQuorum o.attrs = true → s.quorumOpen = true) → exec (.destroy id h) s = .next ((s.dropObj c.h1).complete id (.ok 0 []))) ∧
      (c.op = 0x0F40 → handleClass c.h1 = 0 → attrQuorum o.attrs = true → s.quorumOpen = false →
        exec (.destroy id h) s = .next (s.complete id (.err St.QUORUM_REQUIRED)))) ∧
    (plain → empty → c.h1 = 0 →
      (c.op = 0x0F41 →
        let e := ((mget s.ks.blobEpoch c.fn).getD 0 + 1) % 2 ^ 32
        exec (.blobEpoch id h) s = .next
          (({ s with ks := { s.ks with blobEpoch := mput s.ks.blobEpoch c.fn e } } : State).complete id (.ok 0 (natLE 4 e)))) ∧
      (c.op = 0x0F50 → c.ctx < (s.fn c.fn).ctx → exec (.ctxClear id h) s = .next
        (({ s with ks := { s.ks with ctxs := mdel s.ks.ctxs (c.fn * 65536 + c.ctx) } } : State).complete id (.ok 0 []))) ∧
      (c.op = 0x0F50 → (s.fn c.fn).ctx ≤ c.ctx → exec (.ctxClear id h) s = .next (s.complete id (.err St.BAD_FIELD)))) ∧
    (∀ (n : Nat), c.op = 0x0F70 → empty → c.h1 = 0 → c.h2 = 0 → leAt c.desc 48 5 = 0 → leAt c.desc 53 3 = n → 1 ≤ n → n ≤ 262144 → c.inAddr % 4096 = 0 →
      c.inAddr < 2 ^ 63 → exec (.blobTable id h) s = .next
        (({ s with fns := mput s.fns c.fn { s.fn c.fn with blobAddr := c.inAddr, blobCount := n } } : State).complete id (.ok 0 []))) ∧
    (plain → c.inLen = 0 → c.auxLen = 0 → c.outAddr < 2 ^ 63 → ∀ (m : KeyMat) (o : KeyObj), s.resolve c.fn c.h1 h.blobs = .key m (some o) → s.curveHolds m = true →
        handleClass c.h1 = 0 →
      ∀ i op out, (i, op, out) ∈ [(Instr.publicExport id h, 0x0F60, m.pub), (.attributes id h, 0x0F61, o.record)] → c.op = op →
        (op = 0x0F60 → m.fam ≠ 0x0C ∧ m.fam ≠ 0x0F) →
        (0 < out.length → out.length ≤ c.cap → exec i s = .next ((s.memWrite c.fn c.outAddr out true).complete id (.ok out.length []))) ∧
        (c.cap < out.length → exec i s = .next (s.complete id (.fail St.OUTPUT_TOO_SMALL (natLE 4 out.length)))))

/-- R25 step 5, R131: two key stores that differ only in objects of other functions resolve a function's handles alike. -/
def Obligations.ForeignKeysAreAbsent : Prop :=
  (∀ (s : State) (fn h : Nat) (blobs : List (Nat × List Byte)), handleFn h ≠ fn → s.resolve fn h blobs = .absent) ∧
  (∀ (s t : State) (fn h : Nat) (blobs : List (Nat × List Byte)), (∀ k, handleFn k = fn → mget t.ks.objs k = mget s.ks.objs k) →
    t = { s with ks := { s.ks with objs := t.ks.objs } } → t.resolve fn h blobs = s.resolve fn h blobs) ∧
  (∀ (s : State) (id : Nat) (c : Cmd) (h : HostRead), MayStart s id c → handleFn c.h1 ≠ c.fn → (s.noDsk && handleClass c.h1 == 1) = false → leAt c.desc 48 8 = 0 → c.h2 = 0 → c.h1 ≠ PUBLIC_IN_AUX →
    ∀ i op, (i, op) ∈ [(Instr.commit id h, 0x0F33), (.discard id h, 0x0F34), (.destroy id h, 0x0F40), (.stageVerify id h, 0x0F32)] → c.op = op →
      exec i s = .next (s.complete id (.err St.KEY_ABSENT))) ∧
  (∀ (s : State) (id : Nat) (c : Cmd) (h : HostRead), MayStart s id c → handleFn c.h1 ≠ c.fn → (s.noDsk && handleClass c.h1 == 1) = false → c.h1 ≠ PUBLIC_IN_AUX → hybLegs c.fam c.par = none →
    algOpOk c.op = true → c.op % 256 < 128 → isCtxOp c.o = false →
    parOk c.fam c.o c.par s.curveSpec = true → byte48Ok c.fam c.o c.par (c.b 48) = true → byte49Ok c.fam c.o (c.b 49) = true → leAt c.desc 50 6 = 0 → c.h2 = 0 →
    ∀ i o, (i, o) ∈ [(Instr.encaps id h, 0x10), (.decaps id h, 0x12), (.sign id h, 0x20), (.signDet id h, 0x21), (.signPh id h, 0x22), (.signMu id h, 0x23),
        (.signDetPh id h, 0x24), (.verify id h, 0x28), (.verifyPh id h, 0x29), (.verifyMu id h, 0x2A), (.agree id h, 0x30), (.encryptOaep id h, 0x40),
        (.decryptOaep id h, 0x41), (.signPkcs1 id h, 0x44), (.signPss id h, 0x45), (.verifyPkcs1 id h, 0x46), (.verifyPss id h, 0x47)] → c.op % 256 = o →
      exec i s = .next (s.complete id (.err St.KEY_ABSENT)))

/-! The digest engine (spec file 08). -/

/-- R230 to R236, R239, R240, R242: the eleven commands of family 0x0C and their waits. -/
def Obligations.DigestCommands : Prop :=
  (∀ (s : State) (id : Nat) (c : Cmd) (h : HostRead), MayStart s id c → ∀ i op r, (i, op, r) ∈
      [(Instr.digest id h, 0x0C01, s.oneShotVal c h), (.mac id h, 0x0C02, s.oneShotVal c h), (.macVerify id h, 0x0C03, s.oneShotVal c h),
        (.init id h, 0x0C10, s.initVal c h), (.update id h, 0x0C11, s.contVal c h), (.final id h, 0x0C12, s.contVal c h),
        (.finalVerify id h, 0x0C13, s.contVal c h), (.save id h, 0x0C18, s.contVal c h), (.restore id h, 0x0C19, s.restoreVal c h)] → c.op = op →
    (0x0C10 ≤ op → s.dctxBusy id c = true → exec i s = .next s) ∧
    ((0x0C10 ≤ op → s.dctxBusy id c = false) →
      (∀ d, r = .error d → d.status ≠ 0x100 → exec i s = .next (s.complete id d)) ∧
      (∀ d, r = .error d → d.status = 0x100 → exec i s = .next { s with cmds := mput s.cmds id { c with phase := .waitUnseal, since := s.now } }) ∧
      (∀ c1, r = .ok c1 → exec i s = .next (s.dgAdmit id c1)) ∧
      (∀ c1, r = .ok c1 →
        let s1 : State := ({ s with cmds := mput s.cmds id c1 } : State).useKsc c1
        let own := c1.op = 0x0C01 ∨ c1.op = 0x0C02 ∨ c1.op = 0x0C03 ∨ c1.op = 0x0C10 ∨ c1.op = 0x0C19
        let goes : Prop := ∃ t x, exec i s = .next t ∧ mget t.cmds id = some x ∧ x.phase = .ready ∧ x.desc = c1.desc ∧ x.inp = c1.inp ∧
          x.note = zeros 4 ++ natLE 8 (s1.dg.clock + 1) ∧ x.legs = [⟨.dge, if s1.dgKeyedWork c1 then 2 else 1, [], [], none, [], []⟩] ∧
          t.dg = { s1.dg with clock := s1.dg.clock + 1 } ∧ t.regs = s1.regs ∧ t.tx = s.tx
        (c1.need = 0 → own → s1.slotsUsed < 1024 → goes) ∧
        (c1.need = 0 → own → 1024 ≤ s1.slotsUsed → s1.nrgDown = false → ∃ t, exec i s = .next t ∧ t.tx = s.tx ∧ t.dg = s1.dg ∧
          mget t.cmds id = some { c1 with phase := .waitSlot, since := s.now }) ∧
        (c1.need = 0 → ¬ own → s1.dctxOpen c1.fn c1.ctx = none → exec i s = .next (s1.complete id (.late St.STATE))) ∧
        (c1.need = 0 → ¬ own → ∀ x, s1.dctxOpen c1.fn c1.ctx = some x → x.resident = true → goes) ∧
        (0 < c1.need → c1.op ≠ 0x0E01 → s1.rdF Reg.NRG_STAT 1 0 ≠ 2 → exec i s = .next
          { s1 with
            cmds := mput s1.cmds id { c1 with phase := .waitRand, since := s1.now }
            nrg := { s1.nrg with queue := s1.nrg.queue ++ [⟨2, 23, .cmd id, c1.need, s1.now⟩] } })))) ∧
  (∀ (s : State) (c : Cmd) (k : KeyMat), c.k1 = some k →
    (c.usesKsc = false → s.useKsc c = s) ∧
    (c.usesKsc = true → s.dg.ksc.any (fun x => x.serves c) = true →
      (s.useKsc c).dg = { s.dg with
        clock := s.dg.clock + 1
        ksc := s.dg.ksc.map (fun (x : KscSlot) => if x.serves c then { x with used := s.dg.clock + 1 } else x) } ∧
      (s.useKsc c).rdF Reg.DGE_KSC_HIT 15 0 = min (s.rdF Reg.DGE_KSC_HIT 15 0 + 1) 0xFFFF) ∧
    (c.usesKsc = true → s.dg.ksc.any (fun x => x.serves c) = false → s.dg.ksc.length < 256 →
      let r := dgOpen c.par k.priv []
      (s.useKsc c).dg = { s.dg with
        clock := s.dg.clock + 1
        ksc := s.dg.ksc ++ [⟨k.handle, k.uid, c.par, r.st, r.outer, s.dg.clock + 1⟩] } ∧
      (s.useKsc c).rdF Reg.DGE_KSC_HIT 31 16 = min (s.rdF Reg.DGE_KSC_HIT 31 16 + 1) 0xFFFF)) ∧
  (∀ (s : State) (id : Nat) (c : Cmd) (h : HostRead), MayStart s id c → c.inLen = 0 → c.auxLen = 0 → c.cap = 0 → c.dgPlain = true → c.par = 0 →
    (c.op = 0x0C1A → c.ctx < 4096 → s.dctxBusy id c = false → exec (.release id h) s = .next
      (({ s with dg := { s.dg with ctxs := mdel s.dg.ctxs (c.fn * 4096 + c.ctx) } } : State).complete id (.ok 0 []))) ∧
    (c.op = 0x0C1A → 4096 ≤ c.ctx → s.dctxBusy id c = false → exec (.release id h) s = .next (s.complete id (.err St.BAD_FIELD))) ∧
    (c.op = 0x0C20 → c.ctx = 0 →
      let e := ((mget s.dg.saveEpoch c.fn).getD 0 + 1) % 2 ^ 32
      exec (.epochAdvance id h) s = .next
        (({ s with dg := { s.dg with saveEpoch := mput s.dg.saveEpoch c.fn e } } : State).complete id (.ok 0 (natLE 4 e)))) ∧
    (c.op = 0x0C20 → c.ctx ≠ 0 → exec (.epochAdvance id h) s = .next (s.complete id (.err St.BAD_FIELD)))) ∧
  (∀ (s : State) (id : Nat) (c : Cmd), mget s.cmds id = some c →
    (c.phase ≠ .waitSlot → exec (.dgeSlotWaitEnd id) s = .next s) ∧
    (c.phase = .waitSlot → c.ownSlot = true → s.slotsUsed < 1024 → exec (.dgeSlotWaitEnd id) s = .next { s with
      dg := { s.dg with clock := s.dg.clock + 1 }
      cmds := mput s.cmds id { c with
        phase := .ready
        note := zeros 4 ++ natLE 8 (s.dg.clock + 1)
        legs := [⟨.dge, if s.dgKeyedWork c then 2 else 1, [], [], none, [], []⟩] } })) ∧
  (∀ (s : State), (∀ r ∈ s.nrg.queue, ∀ k, r.who ≠ .spillNonce k) → exec .spillWriteFail s = .next s) ∧
  (∀ (s : State) (k a cls reqr time : Nat), s.nrg.queue = [⟨cls, reqr, .spillNonce k, a, time⟩] →
    ∃ t, exec .spillWriteFail s = .next t ∧ t.dg = s.dg ∧ t.cmds = s.cmds ∧ (∀ r ∈ t.nrg.queue, r.who ≠ .spillNonce k))

/-- R227, R230, R234, R237 to R239: DGE_TURN_END on a pipeline that no armed corruption strikes. -/
def Obligations.DigestTurns : Prop :=
  (∀ (s : State) (id pipe : Nat) (c : Cmd) (l : Leg) (a run : Run), mget s.cmds id = some c → c.kern = false → c.op / 256 = 0x0C → c.legs = [l] →
    l.decided = none → 132 ≤ pipe → pipe < 164 → run.unit = pipe → run.res = none → (s.unit pipe).corrupt = none →
    (l.want = 1 ∧ l.runs = [run] ∨ l.want = 2 ∧ l.runs = [a, run] ∧ a.unit ≠ pipe ∧ a.res = some (s.turnResult c)) →
    let n := leAt c.note 0 4 + 1
    let r := s.turnResult c
    let c1 := { c with legs := [{ l with runs := (if l.want = 2 then [a] else []) ++ [{ run with res := some r }], decided := some r }] }
    let u : State := ({ s with cmds := mput s.cmds id c1 } : State).freeUnit pipe id
    let key := c.fn * 4096 + c.ctx
    let fin := fun (t : State) (d : Done) => exec (.dgeTurnEnd id ⟨pipe, false, none⟩) s = .next (t.complete id d).settle
    let ctx := fun (x : Dctx) => ({ u with dg := { u.dg with ctxs := mput u.dg.ctxs key x } } : State)
    let keep := fun (x : Dctx) => ({ u with dg := { u.dg with clock := s.dg.clock + 1, ctxs := mput u.dg.ctxs key { x with used := s.dg.clock + 1 } } } : State)
    let inl := fun (o : List Byte) => if c.flag 3 then o.take 16 else []
    (n < s.dgTurns c → exec (.dgeTurnEnd id ⟨pipe, false, none⟩) s = .next ({ u with
      dg := { u.dg with clock := s.dg.clock + 1 }
      cmds := mput u.cmds id { c1 with
        phase := .ready, note := natLE 4 n ++ natLE 8 (s.dg.clock + 1), legs := [⟨.dge, l.want, [], [], none, [], []⟩] } } : State).settle) ∧
    (s.dgTurns c ≤ n →
      (∀ cust r0, cust = (if c.op = 0x0C10 then c.aux else c.aux.take (c.b 51)) → c.op ≤ 0x0C10 →
          ((∀ x ∈ s.dg.ksc, x.serves c = false) ∧ r0 = dgOpen c.par c.src cust ∨
            ∃ x, s.dg.ksc.find? (fun x => x.serves c) = some x ∧ r0 = ⟨x.st, [], x.outer, 0⟩) →
        let y := dgAbsorb c.par (!cust.isEmpty) r0 c.inp
        let v : State := if c.op ≠ 0x0C01 ∧ c.b 50 = 3 then { u with ks := { u.ks with ctxs := mdel u.ks.ctxs (c.fn * 65536 + c.ctx) } } else u
        (c.op = 0x0C01 ∨ c.op = 0x0C02 →
          let o := dgFinish c.par (!cust.isEmpty) y ((dgOut c.par (leAt c.desc 48 2)).getD 0)
          fin (v.writeOut c1 0 o true) (.ok o.length (inl o))) ∧
        (c.op = 0x0C03 → ∀ tag, tag = c.aux.drop (c.b 51) →
          fin v ⟨St.SUCCESS, 0, some (decide (dgFinish c.par (!cust.isEmpty) y tag.length = tag)), [], true⟩) ∧
        (c.op = 0x0C10 → ∃ x : Dctx, x.state = .opened ∧ x.alg = c.par ∧ x.count = r0.count ∧ x.resident = true ∧ x.chainv = r0.st ∧ x.part = r0.part ∧
          x.outer = r0.outer ∧ x.keyed = c.k1.map (·.handle) ∧ fin (keep x) (.ok 0 []))) ∧
      (∀ x, s.dctxOpen c.fn c.ctx = some x →
        let y := dgAbsorb x.alg x.custom ⟨x.chainv, x.part, x.outer, x.count⟩ c.inp
        (c.op = 0x0C11 → fin (keep { x with chainv := y.st, part := y.part, outer := y.outer, count := x.count + c.inp.length }) (.ok 0 [])) ∧
        (c.op = 0x0C12 ∨ c.op = 0x0C13 → x.total ≠ none → x.total ≠ some (x.count + c.inp.length) →
          fin (ctx { x with state := .invalid, chainv := [], part := [], outer := [], resident := false })
            ⟨St.LENGTH_MISMATCH, 0, none, natLE 4 ((x.count + c.inp.length) % 2 ^ 32), true⟩) ∧
        (c.op = 0x0C12 → x.total = none ∨ x.total = some (x.count + c.inp.length) →
          let o := dgFinish x.alg x.custom y ((dgOut x.alg (leAt c.desc 48 2)).getD 0)
          fin ((ctx { x with state := .final, chainv := [], part := [], outer := [], resident := false }).writeOut c1 0 o true) (.ok o.length (inl o))) ∧
        (c.op = 0x0C13 → x.total = none ∨ x.total = some (x.count + c.inp.length) →
          let o := dgFinish x.alg x.custom y (if dgKind x.alg = some .hash then dgLen x.alg else c.aux.length)
          fin (ctx { x with state := .final, chainv := [], part := [], outer := [], resident := false }) ⟨St.SUCCESS, 0, some (decide (o = c.aux)), inl o, true⟩) ∧
        (c.op = 0x0C18 → x.keyed = none →
          fin (u.writeOut c1 0 (s.sealDctx 1 c.fn c.ctx x (c.rand.take 32)) true) (.ok 1024 []))) ∧
      (c.op = 0x0C19 → ∀ x, s.openDctx 1 c.fn c.ctx c.inp = some x → (∀ y ∈ s.dg.saved, y.1 ≠ slice c.inp 44 32) →
        fin (keep { x with uid := 0 }) (.ok 0 [])) ∧
      (c.op = 0x0C11 ∨ c.op = 0x0C12 ∨ c.op = 0x0C13 ∨ c.op = 0x0C18 → s.dctxOpen c.fn c.ctx = none → fin u (.late St.STATE)))) ∧
  (∀ (s : State) (id pipe : Nat) (c : Cmd) (l : Leg) (a run : Run) (ra : RunResult), mget s.cmds id = some c → c.kern = false → c.op / 256 = 0x0C →
    c.legs = [l] → l.decided = none → 132 ≤ pipe → pipe < 164 → run.unit = pipe → run.res = none → (s.unit pipe).corrupt = none →
    (l.want = 2 → l.runs = [a, run] → a.unit ≠ pipe → a.res = some ra → ra ≠ s.turnResult c →
      ∃ t x, exec (.dgeTurnEnd id ⟨pipe, false, none⟩) s = .next t ∧ mget t.cmds id = some x ∧ x.note = c.note ∧ ∃ y ∈ x.legs, y.want = 3 ∧ y.decided = none) ∧
    ((s.unit pipe).retired = false → l.runs = [run] ∨ l.runs = [a, run] ∧ a.unit ≠ pipe →
      ∃ t x, exec (.dgeTurnEnd id ⟨pipe, true, none⟩) s = .next t ∧ mget t.cmds id = some x ∧ x.note = c.note ∧ x.replayed = true ∧
        (t.unit pipe).selftest = true ∧ (t.unit pipe).service = false ∧ ∀ y ∈ x.legs, ∀ z ∈ y.runs, z.unit ≠ pipe)) ∧
  (∀ (s : State) (id pipe : Nat) (cores : Bool) (flip : Option Nat) (c : Cmd), mget s.cmds id = some c →
    c.op / 256 ≠ 0x0C ∨ (∀ l ∈ c.legs, ∀ r ∈ l.runs, r.unit ≠ pipe) → exec (.dgeTurnEnd id ⟨pipe, cores, flip⟩) s = .next s) ∧
  (∀ (alg : Nat) (custom : Bool) (r : DgRun) (a b : List Byte), 0 < (dgHash alg custom).rate →
    dgAbsorb alg custom (dgAbsorb alg custom r a) b = dgAbsorb alg custom r (a ++ b))

/-! Results, operand memory, the noise random generator, test paths (spec files 01, 05, 09, 10, 18). -/

/-- R21, R28, R34, R49, R136, R146: what `State.finish` does, to which RUN_FINISH leads (DuplicatedRuns). -/
def Obligations.ReleasedResults : Prop :=
  ∀ (s : State) (id : Nat) (c : Cmd) (rs : List RunResult), mget s.cmds id = some c → c.kern = false → c.legs.map (·.decided) = rs.map some →
    (algOpOk c.op = true →
      (∀ r, rs.find? (fun x => x.status != 0) = some r → s.finish id = s.complete id ⟨r.status, 0, none, r.inline, true⟩) ∧
      ((∀ r ∈ rs, r.status = 0) →
        (isVerify c.o = true → ∃ inl, s.finish id = s.complete id ⟨St.SUCCESS, 0, some (rs.all (fun r => r.verdict == some true)), inl, true⟩) ∧
        (isSign c.o = true ∨ c.o = 0x30 ∨ c.o = 0x40 ∨ c.o = 0x41 → ∃ inl,
          s.finish id = (s.writeOut c 0 (rs.flatMap (·.out)) true).complete id (.ok (rs.flatMap (·.out)).length inl)) ∧
        (∀ r, rs = [r] → c.o = 0x10 ∨ c.o = 0x12 → ∃ inl, s.finish id = (s.writeOut c 0 (r.out ++ r.secret) true).complete id (.ok (r.out ++ r.secret).length inl)) ∧
        (∀ r, rs = [r] → c.o = 0x11 ∨ c.o = 0x13 → r.secret.length ≤ 128 → ∃ inl, s.finish id =
          (({ (s.writeOut c 0 r.out true) with ks := { s.ks with ctxs := mput s.ks.ctxs (c.fn * 65536 + c.ctx) ⟨r.secret, c.op⟩ } } : State)).complete id (.ok r.out.length inl)) ∧
        (∀ p t k, rs = [p, t] → c.o = 0x10 → c.k2 = some k →
          let ss := if c.b 48 = 1 then sha3_256 (p.secret ++ t.secret ++ t.out ++ k.pub ++ ascii "EBLOS-KEM" ++ [BitVec.ofNat 8 c.par]) else p.secret ++ t.secret
          ∃ inl, s.finish id = (s.writeOut c 0 (p.out ++ t.out ++ ss) true).complete id (.ok (p.out ++ t.out ++ ss).length inl)) ∧
        (∀ r, rs = [r] → c.o = 0x31 → r.secret.length ≤ 128 → ∃ inl, s.finish id =
          (({ s with ks := { s.ks with ctxs := mput s.ks.ctxs (c.fn * 65536 + c.ctx) ⟨r.secret, c.op⟩ } } : State)).complete id (.ok 0 inl)))) ∧
    (c.op = 0x0F01 → (∀ r ∈ rs, r.status = 0) →
      let priv := rs.flatMap (·.secret)
      let pub := rs.flatMap (·.out)
      let q := s.quotaHit c.fn (privBytes (attrFam c.aux) (attrPar c.aux) priv) true
      (q ≠ 0 → s.finish id = s.complete id ⟨St.QUOTA, 0, none, [BitVec.ofNat 8 q], true⟩) ∧
      (q = 0 → attrPersist c.aux = false → s.sealState ≠ Seal.LOST → ∀ h, s.freeHandle c.fn = some h → attrFam c.aux ≠ 0x07 → ∃ o : KeyObj,
        o.attrs = c.aux ∧ o.act.gen = 1 ∧ o.act.uid = s.ks.uids ∧ o.act.priv = priv ∧ o.act.pub = pub ∧ o.staged = none ∧ o.frozen = false ∧
        s.finish id = ((({ s with ks := { s.ks with uids := s.ks.uids + 1, objs := mput s.ks.objs h o } } : State)).writeOut c 0 pub true).complete id (.ok pub.length (natLE 4 h))))

/-- R260, R262, R266; R245 for the registers of a check channel n, at 0x481000 + 0x40 × n. -/
def Obligations.OperandMemoryAndChannels : Prop :=
  (∀ (s : State) (id : Nat) (c : Cmd) (h : HostRead), MayStart s id c → c.op = 0x0F88 →
    (s.opmBusy id c = true → exec (.opmFormat id h) s = .next s) ∧
    (s.opmBusy id c = false → leAt c.desc 48 8 = 0 → c.h1 = 0 → c.h2 = 0 → c.inLen = 0 → c.auxLen = 0 → c.cap = 0 →
      let l := c.par % 64
      let size := (s.fn c.fn).opm4k * 4096
      let okLen := 1 ≤ l ∧ l ≤ 32 ∧ c.par / 64 % 2 = 0
      (¬ okLen → exec (.opmFormat id h) s = .next (s.complete id (.err St.BAD_FIELD))) ∧
      (okLen → size = 0 → exec (.opmFormat id h) s = .next (s.complete id (.err St.STATE))) ∧
      (okLen → 0 < size → size < 32 * l → exec (.opmFormat id h) s = .next (s.complete id (.err St.BAD_FIELD))) ∧
      (okLen → 0 < size → 32 * l ≤ size → exec (.opmFormat id h) s = .next
        (({ s with opm := mput s.opm c.fn { s.opmPart c.fn with slotLen := 32 * l, sealed := decide (128 ≤ c.par), slots := [] } } : State).complete id (.ok 0 []))))) ∧
  (∀ (s : State) (i j : Nat) (v : Word),
    let p := s.opmPart 0
    let L := p.slotLen
    let off := 0x700000 + p.base * 4096 + i * L + j
    let size := (s.fn 0).opm4k * 4096
    0 < L → L % 4 = 0 → j < L → j % 4 = 0 → i < 1024 → (i + 1) * L ≤ size →
    (p.sealed = false →
      (∃ val, exec (.opmWindowWrite off v) s = .next { s with opm := mput s.opm 0 { p with slots := mput p.slots i ⟨false, val, false⟩ } } ∧
        (∀ k, k < 4 → (natBE L val).getD (j + k) 0 = BitVec.ofNat 8 (v.toNat / 256 ^ k)) ∧
        (∀ k x, k < L → k < j ∨ j + 4 ≤ k → mget p.slots i = some x → x.poisoned = false → (natBE L val).getD k 0 = (natBE L x.value).getD k 0)) ∧
      (∀ x, mget p.slots i = some x → x.poisoned = false → exec (.opmWindowRead off) s = .next
        { s with tx := s.tx ++ [.readData 0 off (BitVec.ofNat 32 (leNat (((natBE L x.value).drop j).take 4)))] }) ∧
      (∀ x, mget p.slots i = some x → x.poisoned = true → ∃ t, exec (.opmWindowRead off) s = .next t ∧ t.tx = s.tx ++ [.readData 0 off 0] ∧
        bitAt (t.rd 0 Reg.OPM_STAT) 0 = true ∧ t.opm = s.opm)) ∧
    (p.sealed = true → exec (.opmWindowWrite off v) s = .next s ∧ exec (.opmWindowRead off) s = .next { s with tx := s.tx ++ [.readData 0 off 0] })) ∧
  (∀ (s : State) (off : Nat) (v : Word), 0x700000 + (s.opmPart 0).base * 4096 + (s.fn 0).opm4k * 4096 ≤ off →
    exec (.opmWindowWrite off v) s = .next s ∧ exec (.opmWindowRead off) s = .next { s with tx := s.tx ++ [.readData 0 off 0] }) ∧
  (∀ (s : State) (n : Nat) (v : Word), n < 64 →
    let off := 0x481000 + 0x40 * n
    let cfg := s.rd 0 off
    let w : Word := v &&& 0xFFFFFE00
    let custom := fld v 18 16 = 4 ∨ fld v 18 16 = 5
    (bitAt cfg 31 = true → bitAt v 31 = true → exec (.chkCfgWrite off v) s = .next s) ∧
    (bitAt cfg 31 = true → bitAt v 31 = false → ∃ t, exec (.chkCfgWrite off v) s = .next t ∧ t.rd 0 off = cfg &&& 0x7FFFFFFF ∧
      (∀ f o, regKey f o ≠ regKey 0 off → t.rd f o = s.rd f o)) ∧
    (bitAt cfg 31 = false → bitAt v 31 = false ∨ ¬ custom ∨ bitAt (s.rd 0 (Reg.CHK_POLY_LO n)) 0 = true →
      ∃ t, exec (.chkCfgWrite off v) s = .next t ∧ t.rd 0 off = w ∧ (∀ f o, regKey f o ≠ regKey 0 off → t.rd f o = s.rd f o)) ∧
    (bitAt cfg 31 = false → bitAt v 31 = true → custom → bitAt (s.rd 0 (Reg.CHK_POLY_LO n)) 0 = false →
      ∃ t, exec (.chkCfgWrite off v) s = .next t ∧ t.rd 0 off = w &&& 0x7FFFFFFF ∧ bitAt (t.rd 0 Reg.CHK_STAT) 8 = true) ∧
    (∀ k, 1 ≤ k → k ≤ 6 →
      (bitAt cfg 31 = true → exec (.chkCfgWrite (off + 4 * k) v) s = .next s) ∧
      (bitAt cfg 31 = false → ∃ t, exec (.chkCfgWrite (off + 4 * k) v) s = .next t ∧ t.rd 0 (off + 4 * k) = v ∧
        (∀ f o, regKey f o ≠ regKey 0 (off + 4 * k) → t.rd f o = s.rd f o))))

/-- R267 to R279. `st` is NRG_STAT.STATE: 0 STARTUP, 1 RUN, 2 FAULT, 3 OFF; `grp g` is NRG_GRPg. Which samples a window or a block finds are operands. -/
def Obligations.NoiseGenerator : Prop :=
  (∀ (s : State), let st := fld (s.rd 0 Reg.NRG_STAT) 1 0
    let grp := fun (t : State) (g : Nat) => t.rd 0 (Reg.NRG_GRP g)
    (∀ b : NrgTake, (2 ≤ st ∨ s.grpsUp = [] → exec (.nrgBlock b) s = .next s) ∧
      (st < 2 → s.grpsUp ≠ [] →
        (b.agree = true → 0 < s.nrg.discard → exec (.nrgBlock b) s = .next { s with nrg := { s.nrg with discard := s.nrg.discard - 1 } }) ∧
        (b.agree = true → s.nrg.discard = 0 → s.nrg.pend.length < 1024 → exec (.nrgBlock b) s = .next { s with nrg := { s.nrg with
          pend := s.nrg.pend ++ [(s.grpsUp, sha3_256 (blockSamples b.cells (s.grpsUp.flatMap (fun g => (List.range 32).map (fun c => 32 * g + c)))))] } }) ∧
        (b.agree = false → s.nrg.lanes = 3 → ∃ t, exec (.nrgBlock b) s = .next t ∧ t.nrg = { s.nrg with lanes := 2 } ∧ bitAt (t.rd 0 (Reg.FLT_STICKY 7)) 23 = true) ∧
        (b.agree = false → s.nrg.lanes ≠ 3 → s.nrg.queue = [] → bitAt (s.rd 0 Reg.FLT_CTRL) 7 = false → ∃ t, exec (.nrgBlock b) s = .next t ∧
          t.nrg.ready = [] ∧ t.nrg.pend = [] ∧ fld (t.rd 0 Reg.NRG_STAT) 1 0 = 2 ∧ bitAt (t.rd 0 (Reg.FLT_STICKY 7)) 22 = true))) ∧
    (∀ obs, (2 ≤ st → exec (.nrgWindowEnd obs) s = .next s) ∧ (∃ t, exec (.nrgWindowEnd obs) s = .next t) ∧
      (st = 1 → (∀ x ∈ s.cmds, x.2.op ≠ 0x0E20) →
        ((∀ g, g < 16 → s.grpUp g = true ∧ s.windowTests obs g = []) → s.readyBlocks + s.nrg.pend.length ≤ 512 → (s.fltSrc 246).active = false →
          ∃ t, exec (.nrgWindowEnd obs) s = .next t ∧ t.nrg.ready = s.nrg.ready ++ s.nrg.pend.map (·.2) ∧ t.nrg.pend = [] ∧
            fld (t.rd 0 Reg.NRG_STAT) 15 14 = 0 ∧ t.cmds = s.cmds) ∧
        (∀ g f l, g < 16 → s.grpUp g = true → 5 ≤ s.grpsUp.length → fld (s.rd 0 Reg.NRG_STAT) 15 14 < 2 → s.windowTests obs g = l ++ [f] →
          (∀ k, k < 16 → k ≠ g → s.windowTests obs k = []) → ∃ t, exec (.nrgWindowEnd obs) s = .next t ∧ fld (grp t g) 31 30 = 1 ∧
            fld (grp t g) 10 8 = f.1 ∧ fld (grp t g) 4 0 = f.2 ∧ fld (t.rd 0 Reg.NRG_STAT) 15 14 = fld (s.rd 0 Reg.NRG_STAT) 15 14 + 1 ∧
            ∀ b ∈ t.nrg.pend, g ∉ b.1))) ∧
    (∀ g fb obs, let s0 := (fb.filter (fun (x : Nat × Nat) => x.1 / 32 == g)).foldl (fun (x : State) c => x.setFb c.1 (c.2 % 64)) s
      (∃ t, exec (.nrgStartupDone g fb obs) s = .next t) ∧
      (mget s.nrg.retries g = none ∨ 2 ≤ st → exec (.nrgStartupDone g fb obs) s = .next s) ∧
      (∀ n, mget s.nrg.retries g = some n → st < 2 →
        (s0.windowTests obs g ≠ [] → n < 3 → ∃ t, exec (.nrgStartupDone g fb obs) s = .next t ∧
          t.nrg = { s0.nrg with retries := mput s.nrg.retries g (n + 1) }) ∧
        (g < 16 → st = 0 → (∃ k, k ≠ g ∧ (mget s.nrg.retries k).isSome = true) → ∃ t, exec (.nrgStartupDone g fb obs) s = .next t ∧
          (s0.windowTests obs g = [] → fld (grp s g) 31 30 ≠ 3 → mget t.nrg.retries g = none ∧ fld (grp t g) 31 30 = 0) ∧
          (s0.windowTests obs g ≠ [] → 3 ≤ n → mget t.nrg.retries g = none ∧ fld (grp t g) 31 30 = 2)))) ∧
    (st ≠ 2 → exec .nrgRestart s = .next s) ∧
    (st = 2 → ∃ t, exec .nrgRestart s = .next t ∧ t.nrg.ready = [] ∧ t.nrg.pend = [] ∧ t.nrg.discard = 16 ∧ fld (t.rd 0 Reg.NRG_STAT) 1 0 = 0) ∧
    (∃ t, exec .keyGradeGrant s = .next t) ∧
    (s.nrg.queue = [] → exec .keyGradeGrant s = .next s) ∧
    (∀ r t, s.nrg.queue = r :: t → (∀ x ∈ t, x.before r = false) →
      let n := (r.left + 31) / 32
      let bytes := (s.nrg.ready.take n).flatten.take r.left
      (s.nrg.ready.length < n → exec .keyGradeGrant s = .next s) ∧
      (∀ id c, n ≤ s.nrg.ready.length → (∀ b ∈ s.nrg.ready, b.length = 32) → r.who = .cmd id → mget s.cmds id = some c → c.need = r.left →
        c.op ≠ 0x0E01 → c.op ≠ 0x0E02 → c.op ≠ 0x0C18 → ∃ u more, exec .keyGradeGrant s = .next u ∧ u.nrg.queue = t ∧
          u.nrg.ready = s.nrg.ready.drop n ++ more ∧ mget u.cmds id = some { c with rand := c.rand ++ bytes, need := 0, phase := .ready }) ∧
      (∀ e, e < 21 → n ≤ s.nrg.ready.length → r.who = .expander e → ∃ u, exec .keyGradeGrant s = .next u ∧ u.nrg.queue = t ∧ u.maskCount e = 0 ∧
        e ∈ u.nrg.seeded ∧ bitAt (u.rd 0 Reg.NRG_EXP) e = false)) ∧
    (∀ who, (∃ t, exec (.nrgWaitLimit who) s = .next t) ∧ ((∀ r ∈ s.nrg.queue, r.who ≠ who) → exec (.nrgWaitLimit who) s = .next s)) ∧
    (∀ id who, who = .cmd id ∨ who = .chunk id → (∃ r ∈ s.nrg.queue, r.who = who) →
      let t := ({ s with nrg := { s.nrg with queue := s.nrg.queue.filter (fun r => r.who != who) } } : State).complete id ⟨St.ENTROPY_UNAVAILABLE, 0, none, [], true⟩
      exec (.nrgWaitLimit who) s = .next (if t.cmds.any (fun c => c.2.phase == .waitSlot) then t.askSpill (fun _ => false) else t)) ∧
    (∀ e, let three := [Instr.expanderReseedRequest e, .expanderUrgent e, .expanderHardLimit e]
      (∀ i ∈ three, ∃ t, exec i s = .next t) ∧
      (21 ≤ e ∨ e ∉ s.nrg.seeded → ∀ i ∈ three, exec i s = .next s) ∧
      (e < 21 → e ∈ s.nrg.seeded →
        (∃ t, exec (.expanderReseedRequest e) s = .next t ∧ 2 ^ 12 ≤ t.maskCount e ∧ (st ≠ 2 → ∃ r ∈ t.nrg.queue, r.who = .expander e)) ∧
        (∃ t, exec (.expanderUrgent e) s = .next t ∧ 2 ^ 16 ≤ t.maskCount e ∧
          (st ≠ 2 → (∃ r ∈ t.nrg.queue, r.who = .expander e) ∧ ∀ r ∈ t.nrg.queue, r.who = .expander e → r.cls = 1)) ∧
        ((∀ u ∈ unitsFed e, s.runsOn u = []) → ∃ t, exec (.expanderHardLimit e) s = .next t ∧ 2 ^ 20 ≤ t.maskCount e ∧ bitAt (t.rd 0 Reg.NRG_EXP) e = true ∧
          (e < 12 → (t.cluster e).maskStall = true) ∧ t.cmds = s.cmds))) ∧
    (∀ id c h d fails fb, MayStart s id c → c.op = 0x0E20 →
      (∀ x, s.rawVal c h = .error x → exec (.rawCapture id h d fails fb) s = .next (s.complete id x)) ∧
      (∀ c1, s.rawVal c h = .ok c1 → s.captured c.par = true → exec (.rawCapture id h d fails fb) s = .next s) ∧
      (∀ c1, s.rawVal c h = .ok c1 → s.captured c.par = false → ∃ t x, exec (.rawCapture id h d fails fb) s = .next t ∧
        fld (grp t c.par) 31 30 = 3 ∧ mget t.cmds id = some x ∧ x.phase = .running ∧ x.desc = c.desc)) ∧
    (∀ id c h d fails fb, mget s.cmds id = some c → c.op = 0x0E20 → c.phase = .running →
      let cell := leAt c.desc 48 2
      let n := leAt c.desc 52 4
      let bad := ((s.rawWindows c.par cell n d fails).map (·.1)).eraseDups.length
      ∃ t code, exec (.rawCapture id h d fails fb) s = .next ((((t : State).writeOut c 0 (fixLen (n / 8) d) true).complete id
          (.ok (n / 8) (natLE 4 bad ++ [BitVec.ofNat 8 code]))).fillReady) ∧
        t.ks = s.ks ∧ t.cmds = s.cmds ∧ t.tx = s.tx ∧ (c.b 50 = 1 → cell ≠ 0xFFFF → code = s.fbOf (32 * c.par + cell)))) ∧
  (∀ (cells : List (Nat × List Byte)) (order : List Nat) (i : Nat), i < 576 → order ≠ [] →
    (blockSamples cells order).length = 72 ∧ ((blockSamples cells order).getD (i / 8) 0).getLsbD (i % 8) =
      sampleAt ((mget cells (order.getD (i % order.length) 0)).getD []) (i / order.length))

/-! The VF manager (spec file 02). -/

/-- R55, R67, R68, R71, R73: the selection, the seven groups of an apply, and the end of a change of dedicated clusters. -/
def Obligations.Allotments : Prop :=
  ∀ (s : State),
    (∀ v : Word, (2048 ≤ fld v 11 0 → exec (.vfmSel v) s = .next s) ∧
      (fld v 11 0 < 2048 → ∃ t, exec (.vfmSel v) s = .next t ∧ t = { s with regs := t.regs, link := { s.link with stLoaded := t.link.stLoaded } } ∧ (t.rd 0 Reg.VFM_SEL).toNat = fld v 11 0 ∧
        (t.rd 0 Reg.VFM_ST_CTX).toNat = (s.fn (fld v 11 0)).ctx % 2 ^ 32 ∧ (t.rd 0 Reg.VFM_ST_INFLIGHT).toNat = (s.fn (fld v 11 0)).cap % 2 ^ 32)) ∧
    (let fn := fld (s.rd 0 Reg.VFM_SEL) 11 0
     let f := s.fn fn
     let busy := bitAt (s.rd 0 Reg.VFM_APPLY_STAT) 0
     let stat := fun (t : State) (w : Nat) => t.wr 0 Reg.VFM_APPLY_STAT (BitVec.ofNat 32 w)
     let still := ∀ c ∈ s.clusters, c.2.draining = none
     let set := fun (g : Fn) => (Host.Outcome.next (stat { s with fns := mput s.fns fn g } 0) : Host.Outcome State Fault Refusal)
     (∀ (v : Word) i b, (i, b) ∈ [(Instr.applyAllot v, 1), (.applyCtx v, 2), (.applyInflight v, 3), (.applyKey v, 4), (.applyClusters v, 5), (.applyOpm v, 6), (.applySpill v, 7)] →
       (bitAt v 0 = false ∨ busy = true → exec i s = .next s) ∧
       (bitAt v 0 = true → busy = false → f.quiescing = true → exec i s = .next (stat s 0x300)) ∧
       (∀ k, bitAt v 0 = true → busy = false → f.quiescing = false → 1 ≤ k → k ≤ 7 → (k = b ∨ bitAt v k = true) → s.checkGroup fn k ≠ 0 →
         (∀ j, 1 ≤ j → j < k → (j = b ∨ bitAt v j = true) → s.checkGroup fn j = 0) → exec i s = .next (stat s (k * 65536 + s.checkGroup fn k * 256))) ∧
       (v = 1 → busy = false → f.quiescing = false → s.checkGroup fn b = 0 → ∃ t, exec i s = .next t ∧ fld (t.rd 0 Reg.VFM_APPLY_STAT) 15 8 = 0 ∧
         (∀ k, k ≠ fn → mget t.fns k = mget s.fns k) ∧ t.qps = s.qps ∧ t.cmds = s.cmds ∧ t.ks = s.ks)) ∧
     (busy = false → f.quiescing = false → still →
       (s.checkGroup fn 2 = 0 → exec (.applyCtx 1) s = set { f with ctx := fld (s.rd 0 Reg.VFM_ST_CTX) 16 0 }) ∧
       (s.checkGroup fn 3 = 0 → exec (.applyInflight 1) s = set { f with cap := fld (s.rd 0 Reg.VFM_ST_INFLIGHT) 14 0 }) ∧
       (s.checkGroup fn 4 = 0 → exec (.applyKey 1) s = set { f with key4k := fld (s.rd 0 Reg.VFM_ST_KEY) 13 0, keyObj := fld (s.rd 0 Reg.VFM_ST_KEY) 31 16 }) ∧
       (s.checkGroup fn 1 = 0 → fn ≠ 0 → exec (.applyAllot 1) s = set { f with
         weight := fld (s.rd 0 Reg.VFM_ST_ALLOT) 23 16
         qps := fld (s.rd 0 Reg.VFM_ST_ALLOT) 3 0
         vecs := fld (s.rd 0 Reg.VFM_ST_ALLOT) 8 4 }) ∧
       (s.checkGroup fn 7 = 0 → exec (.applySpill 1) s = set { f with
         spillAddr := (s.rd 0 Reg.VFM_ST_SPILL_HI).toNat * 2 ^ 32 + fld (s.rd 0 Reg.VFM_ST_SPILL_LO) 31 12 * 4096
         spillLen := fld (s.rd 0 Reg.VFM_ST_SPILL_LEN) 15 0 }) ∧
       (s.checkGroup fn 6 = 0 →
         let n := fld (s.rd 0 Reg.VFM_ST_OPM) 8 0
         ∃ t, exec (.applyOpm 1) s = .next t ∧ t.fn fn = { f with opm4k := n } ∧ (n = 0 → mget t.opm fn = none) ∧
           (n ≠ 0 → n ≠ f.opm4k → ∀ q, mget t.opm fn = some q → q.slotLen = 0 ∧ q.slots = []) ∧
           ∀ k p, mget s.opm k = some p → k ≠ fn ∨ (n ≠ 0 ∧ n = f.opm4k) → ∃ q, mget t.opm k = some q ∧ q.slots = p.slots ∧ q.slotLen = p.slotLen) ∧
       (s.checkGroup fn 5 = 0 → ∃ t, exec (.applyClusters 1) s = .next t ∧ ∀ c, c < 12 →
         t.cluster c = (let y := s.cluster c
           if bitAt (s.rd 0 Reg.VFM_ST_CLUSTERS) c then (if y.owner = some fn then y else { y with owner := some fn, draining := some fn })
           else if y.owner = some fn then { y with draining := some 2048 } else y)))) ∧
    ((∀ c ∈ s.clusters, c.2.draining = none) → exec .applyClustersDone s = .next s ∧ exec .dedicationDrainTimeout s = .next s) ∧
    ((∃ c ∈ s.clusters, c.2.draining ≠ none) → (∀ c, c < 12 → s.drained c = true) → s.link.flrAfter = [] → ∃ t, exec .applyClustersDone s = .next t ∧ t.rd 0 Reg.VFM_APPLY_STAT = 0 ∧
      ∀ c, c < 12 → ∀ f, (s.cluster c).draining = some f → (t.cluster c).draining = none ∧ (t.cluster c).owner = if f < 2048 then some f else none) ∧
    (∃ t, exec .dedicationDrainTimeout s = .next t ∧ t.tx = s.tx ∧ t.regs = s.regs ∧ (∀ id, (mget t.cmds id).isSome = (mget s.cmds id).isSome) ∧
      ∀ u f, u < 96 → f < 2048 → (s.cluster (u / 8)).draining = some f → (s.unit u).busy ≠ none → (s.unit u).fn ≠ f → s.runsOn u ≠ [] → (t.unit u).scrub = true) ∧
    exec .vfEnableSet s = .next { s with link := { s.link with vfEnable := true } } ∧
    (∀ n, (s.link.vfEnable = true ∨ 2047 < n → exec (.numvfsWrite n) s = .next s) ∧
      (s.link.vfEnable = false → n ≤ 2047 → exec (.numvfsWrite n) s = .next { s with link := { s.link with numVfs := n } }))

/-- R75, R76, R78 to R80: `start` is what steps 2 to 7 of the reset table do. -/
def Obligations.FunctionResets : Prop :=
  (∀ (s : State) (n : Nat), 1 ≤ n → n ≤ 2047 → s.enabled n = true → (s.fn n).flr = false → s.applying n = true →
    exec (.flr n) s = .next { s with link := { s.link with flrAfter := s.link.flrAfter.filter (· != n) ++ [n] } }) ∧
  ∀ (s : State), (∀ c ∈ s.clusters, c.2.draining = none) →
    let calm := fun (n : Nat) => 1 ≤ n ∧ n ≤ 2047 ∧ s.enabled n = true ∧ (s.fn n).quiescing = false ∧ (s.fn n).quiesced = false ∧ (s.fn n).flr = false
    let noReq := fun (n : Nat) => ∀ m ∈ s.mbx, ¬ (m.2.started = true ∧ m.2.code = 0x0201 ∧ leAt m.2.inl 0 2 = n)
    let start := fun (n : Nat) (flr : Bool) (t : State) => (t.fn n).quiescing = true ∧ (t.fn n).flr = flr ∧
      (∃ l, t.tx = s.tx ++ l ∧ (s.fab.commits = [] → l = []) ∧ ∀ o ∈ l, ∀ f a b x, o ≠ .mem f a b x) ∧
      (∀ id c, mget t.cmds id = some c → c.fn ≠ n) ∧ (keysRise s.cmds = true → ∀ id c, mget s.cmds id = some c → c.fn ≠ n → mget t.cmds id = some c) ∧
      (∀ x ∈ t.ks.ctxs, x.1 / 65536 ≠ n) ∧ (∀ k, k / 65536 ≠ n → mget t.ks.ctxs k = mget s.ks.ctxs k) ∧
      (∀ x ∈ t.dg.ctxs, x.1 / 4096 ≠ n) ∧ (∀ k, k / 4096 ≠ n → mget t.dg.ctxs k = mget s.dg.ctxs k) ∧
      (∀ p, mget t.opm n = some p → p.slots = [] ∧ p.slotLen = 0) ∧
      (∀ x ∈ t.qps, x.1 / 16 = n → x.2.state = .off ∨ x.2.state = .deleting) ∧ (∀ k, k / 16 ≠ n → mget t.qps k = mget s.qps k) ∧
      (∀ k, k ≠ n → mget t.fns k = mget s.fns k)
    (∀ n, calm n → ∃ t, exec (.flr n) s = .next t ∧ start n true t) ∧
    (∀ n, ¬ (1 ≤ n ∧ n ≤ 2047 ∧ s.enabled n = true) → exec (.flr n) s = .next s) ∧
    (∀ n (v : Word), calm n → fld v 11 0 = n → bitAt v 30 = false → ∃ t, exec (.quiesceStart v) s = .next t ∧ start n false t) ∧
    (∀ n, n ≠ 0 → noReq n → (s.fn n).flr = true → ∃ t, exec (.flrDone n) s = .next t ∧ (t.fn n).quiescing = false ∧ (t.fn n).quiesced = false ∧ (t.fn n).flr = false ∧
      (∀ x ∈ t.qps, x.1 / 16 ≠ n) ∧ (∀ k, k / 16 ≠ n → mget t.qps k = mget s.qps k) ∧ (n ≤ 2047 → bitAt (t.rd 0 (Reg.VFM_FLR_DONE (n / 32))) (n % 32) = true)) ∧
    ((s.fn 0).flr = true → s.link.flrAfter = [] → (∀ m ∈ s.mbx, m.2.started = false) → ∃ t, exec (.flrDone 0) s = .next t ∧ t.fns = [] ∧ t.opm = [] ∧ t.link.vfEnable = false ∧ t.link.numVfs = 0 ∧
      ∀ c, (t.cluster c).owner = none) ∧
    (∀ n, (s.fn n).flr = false → exec (.flrDone n) s = .next s) ∧
    (∀ n, noReq n → (s.fn n).quiescing = true → (s.fn n).flr = false → ∃ t, exec (.quiesceDone n) s = .next t ∧ (t.fn n).quiescing = false ∧ (t.fn n).quiesced = true ∧
      t.qps = s.qps ∧ t.cmds = s.cmds) ∧
    (∀ n (v : Word), 1 ≤ n → n ≤ 2047 → s.enabled n = true → (s.fn n).quiesced = true → fld v 11 0 = n → bitAt v 31 = false →
      ∃ t, exec (.quiesceRelease v) s = .next t ∧ (t.fn n).quiesced = false ∧ (t.fn n).quiescing = false ∧ (∀ x ∈ t.qps, x.1 / 16 ≠ n) ∧
        bitAt (t.rd 0 (Reg.VFM_FLR_DONE (n / 32))) (n % 32) = true ∧ t.link.relaxed = s.link.relaxed) ∧
    (∀ n, (s.fn n).quiescing = false → exec (.readDrainTimeout n) s = .next s) ∧
    (∀ n, (s.fn n).quiescing = true → ∃ t, exec (.readDrainTimeout n) s = .next t ∧ t.tx = s.tx ∧ ∀ id c, mget t.cmds id = some c → c.fn ≠ n) ∧
    (s.link.vfEnable = false → (s.fn 0).quiescing = false → (s.fn 0).quiesced = false → (s.fn 0).flr = false → ∃ t, exec .pf0Flr s = .next t ∧ start 0 true t) ∧
    (s.link.vfEnable = false → exec .vfEnableClear s = .next s) ∧
    (s.link.vfEnable = true → ∃ t, exec .vfEnableClear s = .next t ∧ t.link.vfEnable = false ∧ ∀ n, 1 ≤ n → n ≤ s.link.numVfs → (t.fn n).flr = true)

/-! Mailboxes (spec file 04). -/

/-- R114 to R121. The statement's `quote` is its third clause; GO on an unserved channel is log entry 42. -/
def Obligations.MailboxProtocol : Prop :=
  ∀ (s : State) (fn ch : Nat), fn < 2048 → mbxChan fn ch = true →
    let r := s.mbxCopy fn ch
    let key := mbxKey fn ch
    let idle := s.mstat fn ch 1 = false ∧ s.mstat fn ch 2 = false
    (s.served fn ch = false → exec (.mbxGo fn ch) s = .next s) ∧
    (s.served fn ch = true → ¬ idle → exec (.mbxGo fn ch) s = .next (s.setMstat fn ch 4 true)) ∧
    (s.served fn ch = true → idle → fn ≠ 0 → r.code ∉ [0x0100, 0x0103, 0x0200, 0x0300, 0x0301, 0x0403, 0x0500, 0x0501, 0x0502] →
      ∃ t, exec (.mbxGo fn ch) s = .next t ∧ Responded t fn ch r (.err St.BAD_OPCODE)) ∧
    (s.served fn ch = true → idle → s.mbxCheck fn r = 0 →
      ∃ t, exec (.mbxGo fn ch) s = .next t ∧ mget t.mbx key = some r ∧ t.mstat fn ch 1 = true ∧ t.tx = s.tx ∧ t.outcomes = s.outcomes ∧
        t.boot = (if r.code = 0x0A00 then s.boot else { s.boot with staging := false }) ∧ (∀ k, k ≠ key → mget t.mbx k = mget s.mbx k)) ∧
    (s.served fn ch = true → idle → s.mbxCheck fn r ≠ 0 →
      ∃ t, exec (.mbxGo fn ch) s = .next t ∧ Responded t fn ch r (.err (s.mbxCheck fn r)) ∧ t.outcomes = s.outcomes ∧ t.ks = s.ks ∧ t.lc = s.lc ∧
        (∀ k, k ≠ key → mget t.mbx k = mget s.mbx k)) ∧
    (s.mstat fn ch 2 = false → exec (.mbxAck fn ch) s = .next s) ∧
    (s.mstat fn ch 2 = true → ∃ t, exec (.mbxAck fn ch) s = .next t ∧ t = { s with regs := t.regs } ∧ (∀ i, i < 16 → t.mrd fn ch (0x200 + 4 * i) = 0) ∧
      t.mstat fn ch 2 = false ∧ t.mstat fn ch 1 = s.mstat fn ch 1) ∧
    (mget s.mbx key = none → exec (.mbxCancel fn ch) s = .next s) ∧
    (∀ r', mget s.mbx key = some r' →
      (∀ p : Reply, Responded (s.mbxEnd key p) fn ch r' p ∧ (∀ k, k ≠ key → mget (s.mbxEnd key p).mbx k = mget s.mbx k) ∧
        (let c := s.mrd fn ch 0x004
         (s.mbxEnd key p).tx = s.tx ++ (if r'.noBuf = true ∨ p.buf = [] then [] else [.mem fn r'.respAddr p.buf false]) ++
           (if bitAt c 6 = true ∧ fld c 5 0 < s.vecs fn ∧ s.vecMasked fn (fld c 5 0) = false ∧ s.fenced fn = false then [.msix fn (fld c 5 0)] else [])) ∧
        (r'.commit = false → p.commit = false → (s.mbxEnd key p).outcomes = s.outcomes) ∧
        (let rec_ : Outcome := ⟨r'.seq, 2, p.status, p.inline.take 40, p.buf.length, none⟩
         let old := mget s.outcomes (fn * 65536 + r'.code)
         (r'.commit = false → p.commit = true → mget (s.mbxEnd key p).outcomes (fn * 65536 + r'.code) = some rec_) ∧
         (r'.commit = true → (∃ o, old = some o ∧ o.owner = some key) → mget (s.mbxEnd key p).outcomes (fn * 65536 + r'.code) = some rec_) ∧
         (r'.commit = true → (∀ o, old = some o → o.owner ≠ some key) → (s.mbxEnd key p).outcomes = s.outcomes))) ∧
      (r'.code ∉ [0x0802, 0x0900, 0x0902, 0x0903, 0x0A00] → exec (.mbxCancel fn ch) s = .next s) ∧
      (r'.code ∈ [0x0802, 0x0900, 0x0902, 0x0903, 0x0A00] → r'.started = false →
        exec (.mbxCancel fn ch) s = .next (s.mbxEnd key (.aborted 4))) ∧
      (r'.code = 0x0802 → r'.started = true → ∃ t, exec (.mbxCancel fn ch) s = .next t ∧ Responded t fn ch r' (.aborted 4) ∧ t.fab.restore = none ∧
        t.ks = s.ks) ∧
      (r'.code ∈ [0x0900, 0x0902, 0x0903] → r'.started = true → ∃ t, exec (.mbxCancel fn ch) s = .next t ∧ t.cards.ceremony = none ∧
        (∀ q, t.cards.quorum = some q → q.inForce = true ∧ s.cards.quorum = some q) ∧ t.ks = s.ks))

/-- The rows of reports; each response is shown with what it holds. -/
def Obligations.MailboxReports : Prop :=
  ∀ (s : State) (fn ch : Nat) (r : MbxReq) (host : HostRead),
    let ans := fun (p : Reply) => (Host.Outcome.next (answer s s fn ch r p) : Host.Outcome State Fault Refusal)
    let ok := fun (l : List Byte) => ans ⟨0, l, [], 0, false⟩
    let data := fun (l : List Byte) => ans (if l.length ≤ 52 then ⟨0, l, [], 0, false⟩ else ⟨0, [], l, 0, false⟩)
    let bank := fun (i : Nat) => s.boot.banks.getD i .blank
    let other := 1 - s.boot.bank
    let seq := fun (i : Nat) => if s.cfgValid (s.cfgBank i) then imgSeq (s.cfgBank i).image else 0
    let valid := fun (i : Nat) => (if s.cfgValid (s.cfgBank i) then 1 else 0 : Byte)
    let cfg := fun (i : Nat) => [BitVec.ofNat 8 i, valid 0, valid 1, BitVec.ofNat 8 s.boot.cfgMin] ++ natLE 4 (seq 0) ++ natLE 4 (seq 1) ++
      ((s.boot.signer.map (·.take 16)).getD (zeros 16)) ++ zeros 4
    (Accepted s fn ch 0x0100 r → exec (.devInfo fn ch) s = ok (natLE 4 (s.look 0 Reg.GLB_ID).toNat ++ natLE 4 (s.look 0 Reg.GLB_VERSION).toNat ++
      natLE 4 s.capsWord.toNat ++ natLE 4 s.lc.code ++ natLE 4 s.boot.svn ++ fixLen 32 (Config.subjectKeyId s.identityPub))) ∧
    (Accepted s fn ch 0x0101 r → (s.boot.cfgLoaded = none ∨ r.rext = false) → exec (.configRead fn ch) s = ok (cfg (s.boot.cfgLoaded.getD 0xFF))) ∧
    (∀ i, Accepted s fn ch 0x0101 r → s.boot.cfgLoaded = some i → r.rext = true →
      exec (.configRead fn ch) s = ans ⟨0, cfg i, (s.cfgBank i).image ++ (s.cfgBank i).commit, 0, false⟩) ∧
    (Accepted s fn ch 0x0103 r → r.inl.length < 2 → exec (.outcomeQuery fn ch) s = refuse s fn ch St.BAD_FIELD) ∧
    (∀ o, Accepted s fn ch 0x0103 r → 2 ≤ r.inl.length → mget s.outcomes (fn * 65536 + leAt r.inl 0 2) = some o → exec (.outcomeQuery fn ch) s =
      ok (natLE 2 (leAt r.inl 0 2) ++ natLE 2 o.seq ++ [BitVec.ofNat 8 o.state, BitVec.ofNat 8 (if o.state = 2 then o.status else 0)] ++ zeros 2 ++
        fixLen 40 o.inline ++ natLE 4 o.bytes)) ∧
    (Accepted s fn ch 0x0103 r → 2 ≤ r.inl.length → mget s.outcomes (fn * 65536 + leAt r.inl 0 2) = none → exec (.outcomeQuery fn ch) s =
      ok (natLE 2 (leAt r.inl 0 2) ++ zeros 50)) ∧
    (Accepted s fn ch 0x0200 r → fn ≠ 0 → fn < 2048 → let f := s.fn fn
      exec (.resQuery fn ch) s = ok (natLE 4 fn ++ natLE 4 f.qps ++ natLE 4 (s.vecs fn) ++ natLE 4 f.weight ++ natLE 4 f.ctx ++ natLE 4 f.cap ++
        natLE 4 f.key4k ++ natLE 4 f.keyObj ++ natLE 4 f.opm4k ++ natLE 8 f.spillAddr ++ natLE 4 f.spillLen ++ natLE 4 (bitmapOf 12 (s.dedicated fn)))) ∧
    (Accepted s fn ch 0x0200 r → fn = 0 → 2048 ≤ leAt r.inl 0 2 → exec (.resQuery fn ch) s = refuse s fn ch St.BAD_FIELD) ∧
    (Accepted s fn ch 0x0300 r → 2048 ≤ (if fn = 0 then leAt r.inl 0 2 else fn) → exec (.keyList fn ch) s = refuse s fn ch St.BAD_FIELD) ∧
    (Accepted s fn ch 0x0300 r → (if fn = 0 then leAt r.inl 0 2 else fn) < 2048 → exec (.keyList fn ch) s =
      data ((((s.objsOf (if fn = 0 then leAt r.inl 0 2 else fn)).drop (128 * leAt r.inl 2 2)).take 128).flatMap (fun o => natLE 4 o.1 ++ o.2.record))) ∧
    (Accepted s fn ch 0x0403 r → exec (.kernelList fn ch) s = ans ⟨0, natLE 4 (s.kernels.filter (·.current)).length,
      (s.kernels.filter (·.current)).flatMap Kernel.entry64, 0, false⟩) ∧
    (Accepted s fn ch 0x0501 r → 4 ≤ r.inl.length → 0 < leAt r.inl 2 2 → leAt r.inl 0 2 + leAt r.inl 2 2 ≤ s.boot.sillage.length →
      exec (.sillageRead fn ch) s = data ((s.boot.sillage.drop (leAt r.inl 0 2)).take (leAt r.inl 2 2)).flatten) ∧
    (Accepted s fn ch 0x0501 r → s.boot.sillage.length < leAt r.inl 0 2 + leAt r.inl 2 2 → exec (.sillageRead fn ch) s = refuse s fn ch St.BAD_FIELD) ∧
    (Accepted s fn ch 0x0502 r → exec (.certRead fn ch) s = data (Config.certificates s.identityPub s.aliasPub s.boot.fw s.lc.code)) ∧
    (Accepted s fn ch 0x0A05 r → exec (.fwStatus fn ch) s = ok (([s.boot.bank, if (bank other).failed = true then 4 else (bank other).state.code, s.lc.minSvn, s.boot.svn,
      if (bank other).state = .invalid then 0xFF else (Config.fwSvn (bank other).bytes).toNat].map (BitVec.ofNat 8)) ++ zeros 3 ++ natLE 4 (bank other).len)) ∧
    (Accepted s fn ch 0x0500 r → r.ext = false → 8 ≤ r.inl.length → r.inl.length ≤ 64 → fn < 2048 →
      (88 ≤ r.rand.length → exec (.attest fn ch host) s = .next (answer s s fn ch r (.data (s.statement r.rand (s.claims r.inl fn none))))) ∧
      (r.rand.length < 88 → s.nrgDown = false → (∀ q ∈ s.nrg.queue, q.who ≠ .mailbox (mbxKey fn ch)) →
        exec (.attest fn ch host) s = .next { s with nrg := { s.nrg with queue := s.nrg.queue ++ [⟨2, 21, .mailbox (mbxKey fn ch), 88, s.now⟩] } }) ∧
      (r.rand.length < 88 → s.nrgDown = true → exec (.attest fn ch host) s = refuse s fn ch St.ENTROPY_FAULT)) ∧
    (Accepted s fn ch 0x0500 r → r.ext = false → (r.inl.length < 8 ∨ 64 < r.inl.length) → exec (.attest fn ch host) s = refuse s fn ch St.BAD_FIELD) ∧
    (∀ m o, Accepted s fn ch 0x0500 r → r.ext = true → fn ≠ 0 → fn < 2048 →
      let p := fixLen r.reqLen host.input
      let h := leAt p 4 4
      16 ≤ r.reqLen → r.reqLen ≤ 72 → leAt p 2 1 = 1 → (s.noDsk = true → handleClass h ≠ 1) → s.resolve fn h host.blobs = .key m o → s.curveHolds m = true → 88 ≤ r.rand.length →
      exec (.attest fn ch host) s = .next (answer s s fn ch r (.data (s.statement r.rand
        (s.claims (p.drop 8) fn (some (h, match o with | some x => x.record | none => m.attrs, m.pub))))))) ∧
    (Accepted s fn ch 0x0702 r → 5 ≤ r.inl.length → 1 ≤ leAt r.inl 4 1 → leAt r.inl 4 1 ≤ 64 →
      let l := s.peat.log.filter (fun e => decide (leAt r.inl 0 4 ≤ leAt e 12 4) && decide (leAt e 12 4 < leAt r.inl 0 4 + leAt r.inl 4 1))
      exec (.peatLogRead fn ch) s = ans ⟨0, [BitVec.ofNat 8 l.length], l.flatten, 0, false⟩) ∧
    (Accepted s fn ch 0x0702 r → (r.inl.length < 5 ∨ leAt r.inl 4 1 = 0 ∨ 64 < leAt r.inl 4 1) → exec (.peatLogRead fn ch) s = refuse s fn ch St.BAD_FIELD)

/-- KEY_DESTROY_FN and the four subcommands of KEY_ADMIN; the payload's offsets are those of log entry 22. -/
def Obligations.KeyAdministration : Prop :=
  ∀ (s : State) (fn ch : Nat) (r : MbxReq),
    let ok := fun (t : State) (c : Bool) => (Host.Outcome.next (t.mbxEnd (mbxKey fn ch) ⟨0, [], [], 0, c⟩) : Host.Outcome State Fault Refusal)
    let h := leAt r.inl 4 4
    let sub := fun (k : Nat) => Accepted s fn ch 0x0302 r ∧ leAt r.inl 0 1 = k
    let f := if fn = 0 then leAt r.inl 0 2 else fn
    let flagged := ∃ x ∈ s.ks.objs, handleFn x.1 = f ∧ attrQuorum x.2.attrs = true
    (Accepted s fn ch 0x0301 r → f < 2048 → 2 ≤ r.inl.length →
      (flagged → s.quorumOpen = false → exec (.keyDestroyFn fn ch) s = refuse s fn ch St.QUORUM_REQUIRED) ∧
      (¬ flagged ∨ s.quorumOpen = true → ∃ t, exec (.keyDestroyFn fn ch) s = ok t true ∧ (∀ x, mget t.ks.objs x = if handleFn x = f then none else mget s.ks.objs x) ∧
        (∀ x ∈ t.ks.ctxs, x.1 / 65536 ≠ f) ∧ mget t.ks.blobEpoch f = some (((mget s.ks.blobEpoch f).getD 0 + 1) % 2 ^ 32) ∧
        (∀ x ∈ t.ks.flash, (mget s.ks.objs x.1).isSome = true → handleFn x.1 ≠ f) ∧ t.cmds = s.cmds ∧ t.qps = s.qps)) ∧
    (∀ o, sub 1 → s.pfObj h = some o → o.unsealed = true → o.attrs.length = 32 → 10 ≤ r.inl.length → leAt r.inl 8 1 ≤ 2 → leAt r.inl 9 1 ≤ 1 →
      let p := leAt r.inl 8 1
      let q := leAt r.inl 9 1
      let bad := attrPolicy o.attrs < p ∨ (attrQuorum o.attrs = true ∧ q = 0) ∨ (q = 1 ∧ p = 0) ∨ (isStateful (attrFam o.attrs) = true ∧ p = 1)
      (bad → exec (.setPolicy fn ch) s = refuse s fn ch St.KEY_USAGE) ∧
      (¬ bad → ∃ (t : State) (o' : KeyObj), exec (.setPolicy fn ch) s = ok t (attrPersist o.attrs) ∧ mget t.ks.objs h = some o' ∧
        attrPolicy o'.attrs = p ∧ (attrQuorum o'.attrs = true ↔ q = 1) ∧ attrFam o'.attrs = attrFam o.attrs ∧ attrUse o'.attrs = attrUse o.attrs ∧
        attrPersist o'.attrs = attrPersist o.attrs ∧ o'.act = o.act ∧ ∀ x, x ≠ h → mget t.ks.objs x = mget s.ks.objs x)) ∧
    (sub 1 → s.pfObj h = none → 10 ≤ r.inl.length → leAt r.inl 8 1 ≤ 2 → leAt r.inl 9 1 ≤ 1 → exec (.setPolicy fn ch) s = refuse s fn ch St.KEY_ABSENT) ∧
    (sub 2 → 9 ≤ r.inl.length → 6 ≤ leAt r.inl 8 1 → leAt r.inl 8 1 ≤ 16 → h = 0 → ∃ t, exec (.setLeafBlock fn ch) s = ok t false ∧
      t.rdF Reg.KST_HBS 4 0 = leAt r.inl 8 1 ∧ t = { s with regs := t.regs }) ∧
    (∀ o, sub 2 → 9 ≤ r.inl.length → 6 ≤ leAt r.inl 8 1 → leAt r.inl 8 1 ≤ 16 → h ≠ 0 → s.pfObj h = some o → o.unsealed = true → o.attrs.length = 32 →
      (isStateful (attrFam o.attrs) = false → exec (.setLeafBlock fn ch) s = refuse s fn ch St.KEY_USAGE) ∧
      (isStateful (attrFam o.attrs) = true → ∃ (t : State) (o' : KeyObj), exec (.setLeafBlock fn ch) s = ok t true ∧ mget t.ks.objs h = some o' ∧
        attrLeafBlock o'.attrs = leAt r.inl 8 1 ∧ attrFlags o'.attrs = attrFlags o.attrs ∧ o'.act = o.act ∧ ∀ x, x ≠ h → mget t.ks.objs x = mget s.ks.objs x)) ∧
    (sub 2 → (r.inl.length < 9 ∨ leAt r.inl 8 1 < 6 ∨ 16 < leAt r.inl 8 1) → exec (.setLeafBlock fn ch) s = refuse s fn ch St.BAD_FIELD) ∧
    (sub 3 → s.sealState ≠ Seal.LOST ∨ bitAt (s.rd 0 Reg.TMP_STAT) 1 = true → exec (.ackLost fn ch) s = refuse s fn ch St.STATE) ∧
    (sub 3 → s.sealState = Seal.LOST → bitAt (s.rd 0 Reg.TMP_STAT) 1 = false → ∃ t, exec (.ackLost fn ch) s = ok t true ∧
      t.ks.flash = s.ks.flash.filter (fun x => decide (s.ks.dsk = some x.2.dsk)) ∧
      t.sealState = (if t.ks.flash = [] then Seal.EMPTY else Seal.NORMAL) ∧ t.ks.objs = s.ks.objs) ∧
    (sub 4 → 10 ≤ r.inl.length → 16 ≤ leAt r.inl 8 2 → leAt r.inl 8 2 ≤ 256 →
      (s.ks.ckFlash ≠ [] → exec (.ckArea fn ch) s = refuse s fn ch St.STATE) ∧
      (s.ks.ckFlash = [] → exec (.ckArea fn ch) s = ok { s with ks := { s.ks with ckMiB := leAt r.inl 8 2 } } false))

/-- KERNEL_LOAD to SIGNER_CLEAR and FN_QUIESCE. -/
def Obligations.KernelManagement : Prop :=
  ∀ (s : State) (fn ch : Nat) (r : MbxReq) (req : List Byte),
    let key := mbxKey fn ch
    let okC := fun (t : State) (l : List Byte) (b : Bool) => (Host.Outcome.next (t.mbxEnd key ⟨0, l, [], 0, b⟩) : Host.Outcome State Fault Refusal)
    let ok := fun (t : State) (l : List Byte) => okC t l true
    let kept := fun (o : Nat) => s.kernels.any (fun k => k.opcode == o && k.persist)
    let b := r.payload req
    let op := leAt b 6 2
    let older := ∃ k ∈ s.kernels, k.opcode = op ∧ (k.current = true ∨ k.persist = true) ∧ leAt b 36 1 < k.svn
    let sub := fun (k : Nat) => Accepted s fn ch 0x0402 r ∧ leAt r.inl 0 1 = k
    (Accepted s fn ch 0x0400 r → (r.ext = false ∨ imageOk b = false) → exec (.kernelLoad fn ch req) s = refuse s fn ch St.BAD_FIELD) ∧
    (Accepted s fn ch 0x0400 r → r.ext = true → imageOk b = true →
      (s.imageSigned b = false → exec (.kernelLoad fn ch req) s = refuse s fn ch AUTH_FAILED) ∧
      (s.imageSigned b = true → older → exec (.kernelLoad fn ch req) s = refuse s fn ch ROLLBACK) ∧
      (s.imageSigned b = true → ¬ older → s.freeTwiddles op (leAt b 5 1) (leAt b 38 1) = none → exec (.kernelLoad fn ch req) s = refuse s fn ch St.QUOTA) ∧
      (∀ slots, s.imageSigned b = true → ¬ older → s.freeTwiddles op (leAt b 5 1) (leAt b 38 1) = some slots →
        let room := s.cacheTakes op (leAt b 5 1) (kernelOfImage b false none slots).cached
        (room = false → exec (.kernelLoad fn ch req) s = refuse s fn ch St.QUOTA) ∧
        (room = true → 4096 ≤ s.boot.sillage.length → exec (.kernelLoad fn ch req) s = refuse s fn ch St.STATE) ∧
        (room = true → s.boot.sillage.length < 4096 → ∃ (t : State) (k : Kernel),
          exec (.kernelLoad fn ch req) s = ok t (natLE 2 op ++ [BitVec.ofNat 8 (leAt b 36 1), 0] ++ sha3_384 (b.take (imageBody b))) ∧
          k ∈ t.kernels ∧ k.current = true ∧ k.opcode = op ∧ k.svn = leAt b 36 1 ∧ k.measure = sha3_384 (b.take (imageBody b)) ∧ k.slots = slots ∧
          (∀ x ∈ t.kernels, x.opcode = op → x.current = true → x = k) ∧ (∀ x ∈ s.kernels, x.opcode ≠ op → x ∈ t.kernels) ∧
          (∃ e, t.boot.sillage = s.boot.sillage ++ [e] ∧ t.boot.running = sha3_384 (s.boot.running ++ e)) ∧ t.ks = s.ks ∧ t.cmds = s.cmds))) ∧
    (Accepted s fn ch 0x0401 r → (r.inl.length < 2 ∨ s.ownerKernel (leAt r.inl 0 2) = none) → exec (.kernelUnload fn ch) s = refuse s fn ch St.BAD_FIELD) ∧
    (∀ k, Accepted s fn ch 0x0401 r → 2 ≤ r.inl.length → s.ownerKernel (leAt r.inl 0 2) = some k → ∃ t, exec (.kernelUnload fn ch) s = runsOn t fn ch ∧
      t = { (if kept (leAt r.inl 0 2) = true then s.mbxCommit key else s) with kernels := t.kernels } ∧ (∀ x ∈ t.kernels, x.opcode = leAt r.inl 0 2 → x.current = false ∧ x.persist = false) ∧
      (∀ x ∈ s.kernels, x.opcode ≠ leAt r.inl 0 2 → x ∈ t.kernels)) ∧
    (∀ n, (∀ m ∈ s.mbx, ¬ (m.2.started = true ∧ m.2.code = 0x0401 ∧ leAt m.2.inl 0 2 = n)) → exec (.kernelUnloadDone n) s = .next s) ∧
    (∀ n m, s.mbx.find? (fun x => x.2.started && x.2.code == 0x0401 && leAt x.2.inl 0 2 == n) = some m →
      ((∃ k ∈ s.kernels, k.opcode = n ∧ k.current = false ∧ s.kernelUsed k = true) → exec (.kernelUnloadDone n) s = .next s) ∧
      ((∀ k ∈ s.kernels, k.opcode = n → k.current = false → s.kernelUsed k = false) → exec (.kernelUnloadDone n) s =
        .next ({ s with kernels := s.kernels.filter (fun k => k.opcode != n || k.current || k.persist) }.mbxEnd m.1 ⟨0, [], [], 0, false⟩))) ∧
    (∀ i c on, (i, c, on) ∈ [(Instr.grant fn ch, 1, true), (.revoke fn ch, 2, false)] → sub c →
      let o := leAt r.inl 2 2
      let f := leAt r.inl 4 2
      ((r.inl.length < 6 ∨ s.ownerKernel o = none ∨ (2048 ≤ f ∧ f ≠ 0xFFFF)) → exec i s = refuse s fn ch St.BAD_FIELD) ∧
      (∀ k, 6 ≤ r.inl.length → s.ownerKernel o = some k → f < 2048 → ∃ t, exec i s = okC t [] (kept o) ∧ t = { s with kernels := t.kernels } ∧
        t.kernels.length = s.kernels.length ∧ ∀ (n : Nat) (x y : Kernel), s.kernels[n]? = some x → t.kernels[n]? = some y →
          (x.opcode ≠ o → y = x) ∧ (x.opcode = o → x.kind ≠ 0 → y.granted f = on ∧ ∀ g, g < 2048 → g ≠ f → y.granted g = x.granted g)) ∧
      (∀ k, 6 ≤ r.inl.length → s.ownerKernel o = some k → f = 0xFFFF → ∃ t, exec i s = okC t [] (kept o) ∧
        ∀ x ∈ t.kernels, x.opcode = o → x.kind ≠ 0 → ∀ g, x.granted g = on)) ∧
    (let slot := leAt r.inl 1 1
     (sub 0x10 → 2 ≤ r.inl.length → slot ≤ 3 → r.ext = true → r.reqLen = 2592 → s.signerQuorum = false →
       exec (.signerSet fn ch req) s = refuse s fn ch St.QUORUM_REQUIRED) ∧
     (∀ u h, sub 0x10 → 2 ≤ r.inl.length → slot ≤ 3 → r.ext = true → r.reqLen = 2592 → s.signerQuorum = true →
       (s.clearSigner slot).newObj 0 signerAttrs [] b = .ok (u, h) → ∃ t, exec (.signerSet fn ch req) s = ok t [] ∧ mget t.signers slot = some h ∧
       (∃ o, mget t.ks.objs h = some o ∧ o.attrs = signerAttrs ∧ o.act.pub = b) ∧ (∀ k, k ≠ slot → mget t.signers k = mget s.signers k) ∧ t.kernels = s.kernels) ∧
     (sub 0x11 → 2 ≤ r.inl.length → slot ≤ 3 → s.signerQuorum = false → exec (.signerClear fn ch) s = refuse s fn ch St.QUORUM_REQUIRED) ∧
     (sub 0x11 → 2 ≤ r.inl.length → slot ≤ 3 → s.signerQuorum = true → ∃ t, exec (.signerClear fn ch) s = okC t [] (mget s.signers slot).isSome ∧ mget t.signers slot = none ∧
       (∀ k, k ≠ slot → mget t.signers k = mget s.signers k) ∧ (∀ h, mget s.signers slot = some h → mget t.ks.objs h = none) ∧ t.kernels = s.kernels)) ∧
    (let n := leAt r.inl 0 2
     Accepted s fn ch 0x0201 r → 2 ≤ r.inl.length →
       (¬ (1 ≤ n ∧ n ≤ 2047 ∧ s.enabled n = true) → exec (.fnQuiesce fn ch) s = refuse s fn ch St.BAD_FIELD) ∧
       (1 ≤ n → n ≤ 2047 → s.enabled n = true → (s.fn n).quiesced = true → exec (.fnQuiesce fn ch) s = .next (s.mbxEnd key ⟨0, [], [], 0, false⟩)) ∧
       (1 ≤ n → n ≤ 2047 → s.enabled n = true → (s.fn n).quiesced = false → ∃ t, exec (.fnQuiesce fn ch) s = runsOn t fn ch ∧ (t.fn n).quiescing = true))

/-! Firmware, Hearth and boot (spec files 04, 09 and 11). -/

/-- R123 to R127, R259, R285, R299 to R305; the firmware image's header is uninterpreted (log entry 16). -/
def Obligations.FirmwareAndBoot : Prop :=
  ∀ (s : State) (fn ch : Nat) (r : MbxReq) (req : List Byte),
    let ok := fun (t : State) (c : Bool) => (Host.Outcome.next (t.mbxEnd (mbxKey fn ch) ⟨0, [], [], 0, c⟩) : Host.Outcome State Fault Refusal)
    let o := 1 - s.boot.bank
    let banks := s.boot.banks.length = 2 ∧ s.boot.bank ≤ 1
    let b := r.payload req
    let inReset := fun (t : State) (c : Nat) => t.boot.stage = .inReset ∧ t.cmds = [] ∧ t.rdB Reg.RST_CAUSE c = true
    let off := leAt r.inl 0 4
    (Accepted s fn ch 0x0A00 r → (r.ext = false ∨ r.inl.length < 4 ∨ 32 * 2 ^ 20 < off + r.reqLen) → exec (.fwStage fn ch req) s = refuse s fn ch St.BAD_FIELD) ∧
    (Accepted s fn ch 0x0A00 r → banks → r.ext = true → 4 ≤ r.inl.length → off + r.reqLen ≤ 32 * 2 ^ 20 → ∃ t, exec (.fwStage fn ch req) s = ok t false ∧
      (t.bank o).state = .invalid ∧ (t.bank o).failed = false ∧ t.boot.staging = true ∧ t.bank s.boot.bank = s.bank s.boot.bank ∧ t.boot.bank = s.boot.bank ∧
      (∀ k, k < r.reqLen → readByte (t.bank o).image (off + k) = b.getD k 0) ∧
      (∀ a, a < off ∨ off + r.reqLen ≤ a → readByte (t.bank o).image a = if s.boot.staging then readByte (s.bank o).image a else 0)) ∧
    (Accepted s fn ch 0x0A01 r → banks →
      (s.fwCheck (s.bank o).bytes ≠ 0 → exec (.fwVerify fn ch) s = refuse s fn ch (s.fwCheck (s.bank o).bytes)) ∧
      (s.fwCheck (s.bank o).bytes = 0 → ∃ t, exec (.fwVerify fn ch) s = ok t false ∧ t.bank o = { s.bank o with state := .staged } ∧ t.bank s.boot.bank = s.bank s.boot.bank)) ∧
    (Accepted s fn ch 0x0A02 r → banks →
      ((s.bank o).state ≠ .staged → exec (.fwActivate fn ch) s = refuse s fn ch St.STATE) ∧
      ((s.bank o).state = .staged → ∃ t, exec (.fwActivate fn ch) s = ok t true ∧ t.bank o = { s.bank o with state := .trial } ∧ t.bank s.boot.bank = s.bank s.boot.bank)) ∧
    (Accepted s fn ch 0x0A03 r → banks →
      (s.boot.trial = false ∨ (s.bank s.boot.bank).state ≠ .trial → exec (.fwConfirm fn ch) s = refuse s fn ch St.STATE) ∧
      (s.boot.trial = true → (s.bank s.boot.bank).state = .trial → ∃ t, exec (.fwConfirm fn ch) s = ok t true ∧
        t.bank s.boot.bank = { s.bank s.boot.bank with state := .confirmed, failed := false } ∧ t.boot.prefer = s.boot.bank ∧ t.boot.trial = false ∧ t.bank o = s.bank o)) ∧
    (Accepted s fn ch 0x0A04 r →
      ((s.bank s.boot.bank).state ≠ .confirmed ∨ s.boot.pushed = true → exec (.fwCommitSvn fn ch) s = refuse s fn ch St.STATE) ∧
      ((s.bank s.boot.bank).state = .confirmed → s.boot.pushed = false → exec (.fwCommitSvn fn ch) s =
        ok { s with lc := { s.lc with minSvn := max s.lc.minSvn s.boot.svn } } true)) ∧
    (Accepted s fn ch 0x0A10 r →
      (r.ext = false → exec (.kindlingLoad fn ch req) s = refuse s fn ch St.BAD_FIELD) ∧
      (r.ext = true → s.fwCheck b ≠ 0 → exec (.kindlingLoad fn ch req) s = refuse s fn ch (s.fwCheck b)) ∧
      (r.ext = true → s.fwCheck b = 0 → ∃ t, exec (.kindlingLoad fn ch req) s = ok t false ∧ t.boot.stage = .firmware ∧ t.boot.pushed = true ∧
        t.boot.fw = sha3_384 b ∧ t.boot.banks = s.boot.banks)) ∧
    (banks → s.boot.stage = .firmware → s.boot.trial = true → (s.bank s.boot.bank).state = .trial → ∃ t, exec .trialReadyTimeout s = .next t ∧
      (t.bank s.boot.bank).state = .trialFailed ∧ (t.bank s.boot.bank).failed = true ∧ t.bank o = s.bank o ∧ t.regs = s.regs) ∧
    (s.boot.stage ≠ .firmware ∨ s.boot.trial = false → exec .trialReadyTimeout s = .next s) ∧
    (s.hearthRuns = false → ∀ i ∈ [Instr.lockstepMismatch, .hearthWatchdog, .dispatchWatchdog 0 []], exec i s = .next s) ∧
    (s.hearthRuns = true → s.standby = Sb.SYNC → ∃ t, exec .lockstepMismatch s = .next t ∧ t.rdF Reg.HRT_STAT 0 0 = 1 - s.rdF Reg.HRT_STAT 0 0 ∧
      t.standby = Sb.RESYNC ∧ t.cmds = s.cmds ∧ t.boot = s.boot ∧ t.mbx = s.mbx ∧ ∀ m ∈ s.mbx, m.1 < 65536 → t.mstat (m.1 / 4) (m.1 % 4) 5 = true) ∧
    (s.hearthRuns = true → s.standby ≠ Sb.SYNC → ∃ t, exec .lockstepMismatch s = .next t ∧ inReset t 3) ∧
    (s.standby ≠ Sb.RESYNC → ∀ pass, exec (.pairSelftestDone pass) s = .next s) ∧
    (s.standby = Sb.RESYNC → ∀ pass, ∃ t, exec (.pairSelftestDone pass) s = .next t ∧ t.standby = (if pass then Sb.SYNC else Sb.RETIRED) ∧ t.cmds = s.cmds) ∧
    (∀ core jobs, core < 8 → s.hearthRuns = true → (s.boot.dispExp = none ∨ ∃ at_, s.boot.dispExp = some at_ ∧ 10 ^ 9 < s.now - at_) →
      ∃ t, exec (.dispatchWatchdog core jobs) s = .next t ∧ t.boot.dispExp = some s.now ∧ bitAt (t.rd 0 Reg.HRT_STAT) (8 + core) = true ∧
      ∀ id c, mget s.cmds id = some c → mget t.cmds id = some (if id ∈ jobs then { c with replayed := true } else c)) ∧
    (∀ core jobs at_, core < 8 → s.hearthRuns = true → s.boot.dispExp = some at_ → s.now - at_ ≤ 10 ^ 9 →
      ∃ t, exec (.dispatchWatchdog core jobs) s = .next t ∧ inReset t 4) ∧
    (s.hearthRuns = true → banks → ∃ t, exec .hearthWatchdog s = .next t ∧ inReset t 3 ∧
      (s.boot.trial = true → (s.bank s.boot.bank).state = .trial → (t.bank s.boot.bank).state = .trialFailed)) ∧
    (∀ dud, ¬ (s.pwr.vin = true ∧ s.boot.stage = .kindling ∧ 164 ∈ s.pwr.powered) → exec (.kindlingStart dud) s = .next s) ∧
    (∀ dud, s.pwr.vin = true → s.boot.stage = .kindling → 164 ∈ s.pwr.powered → ∃ t, exec (.kindlingStart dud) s = .next t ∧ t.peat.flashCnt = t.peat.counters ∧
      (t.boot.stage = .kindlingMbx ∨ t.boot.stage = .firmware) ∧ (s.rdB Reg.RST_STRAP 11 = true → t.boot.stage = .kindlingMbx) ∧
      (t.boot.stage = .firmware → (t.bank t.boot.bank).state ≠ .invalid ∧ t.fwCheck (t.bank t.boot.bank).bytes = 0 ∧
        t.boot.fw = sha3_384 (t.bank t.boot.bank).bytes ∧ t.boot.sillage.length = s.boot.sillage.length + 2)) ∧
    (s.boot.stage ≠ .firmware ∨ s.boot.newState = true ∨ s.boot.steps = true → ∀ l, exec (.firmwareStart l) s = .next s) ∧
    (s.boot.stage = .firmware → s.boot.newState = false → s.boot.steps = false → ∀ l, ∃ t, exec (.firmwareStart l) s = .next t ∧
      (l.channels = [] → l.pairs = [] → t.boot.steps = true ∧
      t.boot.stage = (if t.testsDone = true ∨ s.lc.code = Lc.SCRAP then .ready else .firmware) ∧
      (s.cfgPick = none → t.boot.hold = true) ∧ (∀ i, s.cfgPick = some i → t.boot.hold = false ∧ t.boot.cfgLoaded = some i))) ∧
    (let unseals := s.sealState = Seal.UNSEALING ∧ (s.boot.stage = .firmware ∨ s.boot.stage = .ready) ∧ (s.noDskState = false ∨ s.ks.flash = [])
     let back := s.sealState = Seal.NORMAL ∧ ∃ o ∈ s.ks.objs, o.2.unsealed = false
     (¬ unseals → ¬ back → exec .unsealDone s = .next s) ∧
     (back → ∃ t, exec .unsealDone s = .next t ∧ t.sealState = Seal.NORMAL ∧ t.rd 0 Reg.KST_UNSEAL = s.rd 0 Reg.KST_UNSEAL ∧ ∀ c ∈ t.cmds, c.2.phase ≠ .waitUnseal) ∧
     (unseals → keysRise s.ks.flash = true → ∃ t, exec .unsealDone s = .next t ∧ t.sealState = (if s.ks.flash = [] then Seal.EMPTY else Seal.NORMAL) ∧
       (∀ h f x, (h, f) ∈ s.ks.flash → mget s.ks.objs h = some x → mget t.ks.objs h =
         (if x.unsealed = false ∧ (f.damaged = true ∨ s.ks.dsk ≠ some f.dsk) then none else some { x with unsealed := true })) ∧
       ∀ c ∈ t.cmds, c.2.phase ≠ .waitUnseal)) ∧
    (∀ u pass,
      let x := s.unit u
      let tests := u < 230 ∧ feedOf u ∈ s.pwr.powered ∧ (s.boot.stage = .firmware ∨ s.boot.stage = .ready) ∧ x.service = false ∧ x.retired = false ∧ x.selftest = false ∧ s.lc.code ≠ Lc.SCRAP
      (¬ tests → exec (.admissionTestDone u pass) s = .next s) ∧
      (tests → ∃ t, exec (.admissionTestDone u pass) s = .next t ∧ (t.unit u).service = pass ∧ (t.unit u).retired = !pass ∧
        (pass = true → t.cmds = s.cmds ∧ ∀ k, k ≠ u → t.unit k = s.unit k))) ∧
    (∀ n rec,
      let sw := fun (t : State) => mget t.boot.curveNew n = none ∧ mget t.curves n = (if rec = [] ∨ curveCheck rec ≠ 0 then none else some (curveOf rec)) ∧
        (∀ k, k ≠ n → mget t.curves k = mget s.curves k)
      (mget s.boot.curveNew n = none → exec (.curveRecordChecked n) s = .next s ∧ exec (.curveSwitch n) s = .next s) ∧
      (mget s.boot.curveNew n = some rec →
        (s.curveTurn n rec = true → mget s.curves n = none → ∃ t, exec (.curveRecordChecked n) s = .next t ∧ sw t) ∧
        (s.curveTurn n rec = false ∨ mget s.curves n ≠ none → exec (.curveRecordChecked n) s = .next s) ∧
        (s.curveTurn n rec = true → (∀ c ∈ s.cmds, c.2.onCurveIdx n = false) → ∃ t, exec (.curveSwitch n) s = .next t ∧ sw t) ∧
        (s.curveTurn n rec = false ∨ (∃ c ∈ s.cmds, c.2.onCurveIdx n = true) → exec (.curveSwitch n) s = .next s))) ∧
    (Accepted s fn ch 0x0102 r →
      let i := match s.boot.cfgLoaded with | some k => 1 - k | none => 1
      (r.ext = false → exec (.configPush fn ch req) s = refuse s fn ch St.BAD_FIELD) ∧
      (r.ext = true → s.pushCheck b ≠ 0 → exec (.configPush fn ch req) s = refuse s fn ch (s.pushCheck b)) ∧
      (r.ext = true → s.pushCheck b = 0 → s.boot.cfgBanks.length = 2 → ∃ t, exec (.configPush fn ch req) s = ok t true ∧
        t.cfgBank i = ⟨b.take (imgWhole b), b.drop (imgWhole b)⟩ ∧ t.cfgBank (1 - i) = s.cfgBank (1 - i) ∧
        (s.boot.hold = true → t.boot.hold = false ∧ t.boot.cfgLoaded = some i) ∧
        (s.boot.hold = false → t.boot.cfgLoaded = s.boot.cfgLoaded ∧ t.boot.signer = some (sha3_256 (imgSigner b))) ∧ t.cmds = s.cmds))

/-! Life cycle and debug (spec file 14). -/

/-- R350 to R357; `genuine` is R354's form, key and signature, `nonceOk` R355. -/
def Obligations.LifeCycleAndDebug : Prop :=
  ∀ (s : State) (fn ch : Nat) (r : MbxReq) (req : List Byte),
    let ends := fun (t : State) (st : Nat) (l : List Byte) (c : Bool) => (Host.Outcome.next (t.mbxEnd (mbxKey fn ch) ⟨st, l, [], 0, c⟩) : Host.Outcome State Fault Refusal)
    let b := r.payload req
    let from_ := leAt b 5 1
    let to_ := leAt b 6 1
    let key := leAt b 7 1
    let nonce := slice b 48 32
    let lct := Instr.lcTransition fn ch req
    let take := Accepted s fn ch 0x0600 r ∧ r.ext = true ∧ 112 ≤ b.length
    let used := fun (t : State) => namesNonce t.lc.nonceLc nonce = false ∧ namesNonce t.lc.nonceDbg nonce = false ∧ t.lc.slots = s.lc.slots ∧ t.lc.markers = s.lc.markers ∧ t.lc.record = s.lc.record ∧ t.pwr = s.pwr
    let taken := fun (t : State) (c : Nat) => t.lc.record = some ⟨c, sha3_256 b⟩ ∧ t.lc.block = b ∧ t.pwr.swReset = some 8 ∧ t.lc.slots = s.lc.slots ∧
      t.lc.rootKill = s.lc.rootKill ∧ t.ks = s.ks
    let fresh := s.transBlockOk b = true ∧ from_ = s.lc.code ∧ s.nonceOk s.lc.nonceLc nonce = true
    let normal := take ∧ s.lc.block = [] ∧ leAt b 4 1 ≠ 2 ∧ s.lc.code ≠ Lc.LOCKED_INVALID
    (Accepted s fn ch 0x0600 r → (r.ext = false ∨ b.length < 112) → exec lct s = refuse s fn ch St.BAD_FIELD) ∧
    (take → s.lc.block ≠ [] → exec lct s = refuse s fn ch St.STATE) ∧
    (normal → ¬ fresh → namesNonce s.lc.nonceLc nonce = false → namesNonce s.lc.nonceDbg nonce = false → exec lct s = ends s AUTH_FAILED [] false) ∧
    (normal → ¬ fresh → ∃ t, exec lct s = ends t AUTH_FAILED [] false ∧ used t) ∧
    (normal → fresh → lcPermitted from_ to_ = false → ∃ t, exec lct s = ends t St.STATE [] false ∧ used t) ∧
    (normal → fresh → lcPermitted from_ to_ = true → key = 3 → ¬ (from_ = Lc.DEPLOYED ∧ to_ = Lc.SCRAP) → ∃ t, exec lct s = ends t AUTH_FAILED [] false ∧ used t) ∧
    (normal → fresh → lcPermitted from_ to_ = true → (key = 3 → from_ = Lc.DEPLOYED ∧ to_ = Lc.SCRAP) →
      (lcNeedsQuorum from_ to_ key = true → s.quorumFor 5 = false → ∃ t, exec lct s = ends t St.QUORUM_REQUIRED [] false ∧ used t) ∧
      (lcNeedsQuorum from_ to_ key = false ∨ s.quorumFor 5 = true → ∃ t, exec lct s = ends t 0 [] true ∧ taken t to_ ∧ t.lc.nonceLc = none)) ∧
    (take → s.lc.block = [] → leAt b 4 1 ≠ 2 → s.lc.code = Lc.LOCKED_INVALID → s.lcResumes b = true → ∃ t, exec lct s = ends t 0 [] true ∧ taken t to_) ∧
    (let i := leAt b 10 2
     let token := take ∧ b.length = 112 ∧ s.lc.block = [] ∧ leAt b 4 1 = 2 ∧ s.lc.code = Lc.TEST ∧ b.take 4 = ascii "EBLA" ∧ from_ = Lc.TEST ∧ leAt b 6 4 = 0 ∧ leAt b 12 4 = 0 ∧
       i < 24 ∧ slice b 16 32 = s.deviceId ∧ slice b 80 32 = zeros 32
     let hit := (sha3_256 nonce).take 16 = s.lc.hashes.getD i []
     (token → s.lc.markers.getD i 0 ≠ 0 → exec lct s = refuse s fn ch AUTH_FAILED) ∧
     (token → s.lc.markers.getD i 0 = 0 → hit → ∃ t, exec lct s = ends t 0 [] true ∧ taken t Lc.TEST_OPEN ∧ t.lc.openFlag = true ∧ t.lc.markers = s.lc.markers.set i 15) ∧
     (token → s.lc.markers.getD i 0 = 0 → ¬ hit → exec lct s = ends { s with lc := { s.lc with markers := s.lc.markers.set i 15 } } AUTH_FAILED [] true)) ∧
    (let p := leAt r.inl 0 1
     let v := r.rand.take 32
     let reply := v ++ [BitVec.ofNat 8 s.lc.code, 0, 0, 0] ++ (if s.lc.code = Lc.BLANK then zeros 32 else s.deviceId).take 16
     let given := fun (l : LifeCycle) => (32 ≤ r.rand.length → exec (.debugChallenge fn ch) s = ends { s with lc := l } 0 reply false) ∧
       (r.rand.length < 32 → s.nrgDown = false → (∀ q ∈ s.nrg.queue, q.who ≠ .mailbox (mbxKey fn ch)) →
         exec (.debugChallenge fn ch) s = .next { s with nrg := { s.nrg with queue := s.nrg.queue ++ [⟨2, 21, .mailbox (mbxKey fn ch), 32, s.now⟩] } }) ∧
       (r.rand.length < 32 → s.nrgDown = true → exec (.debugChallenge fn ch) s = refuse s fn ch St.ENTROPY_FAULT)
     Accepted s fn ch 0x0601 r → 1 ≤ r.inl.length →
       (1 < p → exec (.debugChallenge fn ch) s = refuse s fn ch St.BAD_FIELD) ∧
       (p = 0 → s.lc.code ∈ [Lc.LOCKED_INVALID, Lc.TEST_OPEN, Lc.BLANK] → exec (.debugChallenge fn ch) s = refuse s fn ch St.STATE) ∧
       (p = 0 → s.lc.code ∉ [Lc.LOCKED_INVALID, Lc.TEST_OPEN, Lc.BLANK] → given { s.lc with nonceDbg := some ⟨v, s.peat.secs⟩ }) ∧
       (p = 1 → given { s.lc with nonceLc := some ⟨v, s.peat.secs⟩ })) ∧
    (∀ p, exec (.nonceExpiry p) s = .next { s with lc := if p = 0 then { s.lc with nonceDbg := none } else if p = 1 then { s.lc with nonceLc := none } else s.lc }) ∧
    (let sc := to_
     let mins := leAt b 8 2
     let genuine := b.take 4 = ascii "EBLA" ∧ leAt b 4 1 = 0 ∧ from_ = s.lc.code ∧ (key = 1 ∨ key = 2) ∧ 1 ≤ mins ∧ mins ≤ 1440 ∧ leAt b 10 6 = 0 ∧ b.length = 5373 ∧
       slice b 16 32 = s.lcIdentity s.lc.code ∧ slice b 80 32 = zeros 32 ∧ s.nonceOk s.lc.nonceDbg nonce = true ∧ s.blockSigned b = true ∧ sc &&& (255 - s.grantable key) = 0 ∧ (s.lc.code = Lc.SCRAP → sc = 1)
     let deep := (sc.testBit 4 = true ∨ sc.testBit 5 = true) ∧ s.lc.code ≠ Lc.BLANK ∧ s.lc.code ≠ Lc.TEST_OPEN
     Accepted s fn ch 0x0602 r → r.ext = true → 112 ≤ b.length →
       (¬ genuine → ∃ t, exec (.debugResponse fn ch req) s = ends t AUTH_FAILED [] false ∧ t.lc.session = s.lc.session ∧ t.ks = s.ks ∧
         namesNonce t.lc.nonceDbg nonce = false ∧ namesNonce t.lc.nonceLc nonce = false) ∧
       (genuine → ∃ (t : State) (d : DebugSession), exec (.debugResponse fn ch req) s = ends t 0 [] false ∧ t.lc.session = some d ∧ d.scopes = sc ∧
         d.ends = s.now + mins * (6 * 10 ^ 9) ∧ d.owner = (key == 2) ∧ t.lc.nonceDbg = none ∧ (deep → t.ks.objs = [] ∧ t.ks.dsk = none ∧ t.peat.sls = none) ∧
         (¬ deep → t.ks.objs = s.ks.objs ∧ t.peat = s.peat))) ∧
    (∀ v : Word, (fld v 31 16 = 0x7144 → bitAt v 0 = true → ∃ t, exec (.lcsDbgEnd v) s = .next t ∧ t.lc = { s.lc with session := none } ∧ t.ks.objs = s.ks.objs ∧ t.cmds = s.cmds) ∧
      ((fld v 31 16 ≠ 0x7144 ∨ bitAt v 0 = false) → exec (.lcsDbgEnd v) s = .next s)) ∧
    (∃ t, exec .debugSessionExpiry s = .next t ∧ t.lc = { s.lc with session := none } ∧ t.ks.objs = s.ks.objs ∧ t.cmds = s.cmds)

/-! The Wolum fabric (spec file 17). -/

/-- FAB_ADMIN, GROUP_ADMIN and FAB_RESTORE. -/
def Obligations.FabricManagement : Prop :=
  ∀ (s : State) (fn ch : Nat) (r : MbxReq) (req : List Byte),
    let ok := fun (t : State) (c : Bool) => (Host.Outcome.next (t.mbxEnd (mbxKey fn ch) ⟨0, [], [], 0, c⟩) : Host.Outcome State Fault Refusal)
    let at_ := fun (code sub : Nat) => Accepted s fn ch code r ∧ leAt r.inl 0 1 = sub
    let gid := leAt r.inl 4 4
    (s.fabOn = false → ∀ i code sub, (i, code, sub) ∈ [(Instr.spillFn fn ch, 0x0800, 1), (.rekey fn ch, 0x0800, 2), (.rejoin fn ch, 0x0800, 3),
      (.create fn ch req, 0x0801, 1), (.join fn ch req, 0x0801, 2), (.addKey fn ch, 0x0801, 3), (.leave fn ch, 0x0801, 4), (.status fn ch, 0x0801, 5)] →
      at_ code sub → exec i s = refuse s fn ch St.STATE) ∧
    (s.fabOn = false → Accepted s fn ch 0x0802 r → exec (.fabRestore fn ch) s = refuse s fn ch St.STATE) ∧
    (s.fabOn = true →
      (let f := leAt r.inl 4 2
       at_ 0x0800 1 → 7 ≤ r.inl.length → f < 2048 → leAt r.inl 6 1 ≤ 1 →
         exec (.spillFn fn ch) s = ok (s.setFn f { s.fn f with spillPeer := leAt r.inl 6 1 == 1 }) false) ∧
      (at_ 0x0800 1 → (r.inl.length < 7 ∨ 2048 ≤ leAt r.inl 4 2 ∨ 1 < leAt r.inl 6 1) → exec (.spillFn fn ch) s = refuse s fn ch St.BAD_FIELD) ∧
      (at_ 0x0800 2 → ∃ t, exec (.rekey fn ch) s = ok t false ∧ t.ks = s.ks ∧ t.cmds = s.cmds ∧ t.regs = s.regs ∧
        ∀ k, k < 16 → s.portState k = Ps.UP → (t.wport k).sh.keys = (s.wport k).sh.keys ∧
          (s.nrgDown = false → (t.wport k).sh.stage = Shake.opening ∧ ⟨2, 22, .port k, 32, s.now⟩ ∈ t.nrg.queue)) ∧
      (at_ 0x0800 3 → ∃ t, exec (.rejoin fn ch) s = ok t false ∧ t.fab.addr = none ∧ t.fab.peers = [] ∧ t.fab.states = [] ∧
        (s.fab.spilled = [] → s.fab.adding = none → s.fab.restore = none → s.fab.commits = [] → s.fab.remote = [] →
          t.fab.groups = s.fab.groups ∧ t.fab.lastAddr = s.fab.lastAddr ∧ t.ks = s.ks ∧ t.cmds = s.cmds)) ∧
      (let f := leAt r.inl 8 2
       let b := fixLen r.reqLen req
       let n := r.reqLen / 32
       let ms := (List.range n).map (fun i => slice b (32 * i) 32)
       let formed := 10 ≤ r.inl.length ∧ gid ≠ 0 ∧ f < 2048 ∧ r.ext = true ∧ r.reqLen = 32 * n ∧ 2 ≤ n ∧ n ≤ 16 ∧ s.deviceId ∈ ms
       ∀ i sub, (i, sub) ∈ [(Instr.create fn ch req, 1), (.join fn ch req, 2)] → at_ 0x0801 sub →
         let clash := sub = 2 ∧ ∃ v ∈ s.fab.invites, v.group = gid ∧ v.creator = true ∧ v.members ≠ ms
         (¬ formed → exec i s = refuse s fn ch St.BAD_FIELD) ∧
         (formed → (mget s.fab.groups gid).isSome = true → exec i s = refuse s fn ch St.STATE) ∧
         (formed → mget s.fab.groups gid = none → clash → exec i s = refuse s fn ch St.BAD_FIELD) ∧
         (formed → mget s.fab.groups gid = none → ¬ clash → 64 ≤ s.fab.groups.length → exec i s = refuse s fn ch St.QUOTA) ∧
         (formed → mget s.fab.groups gid = none → ¬ clash → s.fab.groups.length < 64 → ∃ (t : State) (g : Group), exec i s = ok t true ∧ mget t.fab.groups gid = some g ∧
           g.members = ms ∧ g.fn = f ∧ s.deviceId ∈ g.joined ∧ (∀ v ∈ t.fab.invites, v.group ≠ gid) ∧ (∀ k, k ≠ gid → mget t.fab.groups k = mget s.fab.groups k) ∧ t.ks = s.ks)) ∧
      (∀ g, at_ 0x0801 3 → mget s.fab.groups gid = some g → 12 ≤ r.inl.length → handleClass (leAt r.inl 8 4) = 0 → handleFn (leAt r.inl 8 4) = g.fn →
        let ready := g.whole = true ∧ s.sealState ≠ Seal.LOST ∧ s.fab.adding = none
        ((g.whole = false ∨ s.sealState = Seal.LOST) → s.fab.adding = none → exec (.addKey fn ch) s = refuse s fn ch St.STATE) ∧
        (g.whole = true → s.sealState ≠ Seal.LOST → s.fab.adding ≠ none → exec (.addKey fn ch) s = .next s) ∧
        (ready → mget s.ks.objs (leAt r.inl 8 4) = none → exec (.addKey fn ch) s = refuse s fn ch St.KEY_ABSENT) ∧
        (∀ o, ready → mget s.ks.objs (leAt r.inl 8 4) = some o → o.unsealed = true → o.attrs.length = 32 →
          let bad := attrPolicy o.attrs = 0 ∨ isStateful (attrFam o.attrs) = true
          (bad → exec (.addKey fn ch) s = refuse s fn ch St.KEY_USAGE) ∧
          let open_ := attrQuorum o.attrs = false ∨ s.quorumOpen = true
          let room := s.arrives g.fn o.attrs o.act.priv o.act.pub none = 0
          (¬ bad → ¬ open_ → exec (.addKey fn ch) s = refuse s fn ch St.QUORUM_REQUIRED) ∧
          (¬ bad → open_ → ¬ room → exec (.addKey fn ch) s = refuse s fn ch St.QUOTA) ∧
          (¬ bad → open_ → room → attrPersist o.attrs = true → s.noDsk = true → exec (.addKey fn ch) s = refuse s fn ch St.STATE) ∧
          (¬ bad → open_ → room → attrPersist o.attrs = true → s.dskPending = true → exec (.addKey fn ch) s = .next s) ∧
          let taken := fun (i : Nat) => mget s.ks.objs (mkHandle g.fn 2 i) ≠ none ∨ s.marked gid i 1 = true
          let stores := ¬ bad ∧ open_ ∧ room ∧ (attrPersist o.attrs = true → s.noDsk = false ∧ s.dskPending = false)
          (stores → (∀ i < 32768, taken i) → exec (.addKey fn ch) s = refuse s fn ch St.QUOTA) ∧
          (∀ i, stores → i < 32768 → ¬ taken i → (∀ j < i, taken j) →
            ∃ (t : State) (o' : KeyObj), exec (.addKey fn ch) s = .next t ∧ mget t.ks.objs (mkHandle g.fn 2 i) = some o' ∧ o'.act.priv = o.act.priv ∧ o'.act.pub = o.act.pub ∧
              attrGroup o'.attrs = gid ∧ attrUse o'.attrs = attrUse o.attrs ∧ (s.reachable gid = [] → mget t.mbx (mbxKey fn ch) = none) ∧
              (s.reachable gid ≠ [] → ∃ a, t.fab.adding = some a ∧ a.group = gid ∧ a.waiting = s.reachable gid)))) ∧
      (at_ 0x0801 4 → (mget s.fab.groups gid = none ∨ r.inl.length < 8) → exec (.leave fn ch) s = refuse s fn ch St.BAD_FIELD) ∧
      (∀ g, at_ 0x0801 4 → mget s.fab.groups gid = some g → 8 ≤ r.inl.length → ∃ t, exec (.leave fn ch) s = ok t true ∧ mget t.fab.groups gid = none ∧
        ∀ h o, mget s.ks.objs h = some o → handleClass h = 2 → (handleFn h = g.fn → attrGroup o.attrs = gid → mget t.ks.objs h = none)) ∧
      (at_ 0x0801 5 → mget s.fab.groups gid = none → exec (.status fn ch) s = refuse s fn ch St.BAD_FIELD) ∧
      (∀ g, at_ 0x0801 5 → mget s.fab.groups gid = some g → ∃ rows, exec (.status fn ch) s =
        .next (answer s s fn ch r ⟨0, [], natLE 4 (s.groupKeys gid).length ++ natLE 4 g.members.length ++ rows, 0, false⟩) ∧
        rows = g.members.flatMap (fun m => m ++ natLE 2 ((if m = s.deviceId then s.fab.addr else s.peerAddr m).getD 0) ++
          natLE 2 (if m = s.deviceId ∨ m ∈ s.reachable gid then 1 else 0))) ∧
      (let gs := if gid = 0 then s.fab.groups.map (·.1) else [gid]
       let bars := s.sealState ≠ Seal.LOST ∨ s.rdB Reg.TMP_STAT 1 = true ∨ s.noDsk = true ∨ s.fab.restore ≠ none
       (Accepted s fn ch 0x0802 r → s.fab.restore = none → bars → exec (.fabRestore fn ch) s = refuse s fn ch St.STATE) ∧
       (Accepted s fn ch 0x0802 r → ¬ bars → (r.inl.length < 8 ∨ ∃ g ∈ gs, mget s.fab.groups g = none) → exec (.fabRestore fn ch) s = refuse s fn ch St.BAD_FIELD) ∧
       (Accepted s fn ch 0x0802 r → ¬ bars → 8 ≤ r.inl.length → (∀ g ∈ gs, (mget s.fab.groups g).isSome = true) → s.dskPending = true →
         exec (.fabRestore fn ch) s = .next s) ∧
       (Accepted s fn ch 0x0802 r → ¬ bars → 8 ≤ r.inl.length → (∀ g ∈ gs, (mget s.fab.groups g).isSome = true) → s.dskPending = false → gs ≠ [] →
         ∃ (t : State) (x : FabRestore), exec (.fabRestore fn ch) s = .next t ∧ t.fab.restore = some x ∧ x.groups = gs ∧ x.kept = [] ∧ x.chan = mbxKey fn ch ∧
           t.ks = s.ks ∧ mget t.mbx (mbxKey fn ch) = some { r with started := true })))

/-- R396 to R410; messages are data (log entry 50), `flitOk` the uninterpreted tag check. -/
def Obligations.FabricEvents : Prop :=
  ∀ (s : State),
    let quiet := s.fab.spilled = [] ∧ s.fab.adding = none ∧ s.fab.restore = none ∧ s.fab.commits = [] ∧ s.fab.remote = []
    let opens := fun (t : State) (k : Nat) => s.nrgDown = false → (t.wport k).sh.stage = Shake.opening ∧ ⟨2, 22, .port k, 32, s.now⟩ ∈ t.nrg.queue
    (∀ k lanes,
      let trains := k < 16 ∧ s.portPower k = true ∧ s.fab.portEn k = true ∧ s.boot.hold = false ∧ s.portState k ∈ [Ps.TRAINING, Ps.DOWN, Ps.REFUSED]
      (¬ trains → exec (.wolumTrainingDone k lanes) s = .next s) ∧
      (trains → lanes = 0 → (s.wport k).fails < 2 → exec (.wolumTrainingDone k lanes) s = .next (s.setWport k { s.wport k with fails := (s.wport k).fails + 1 })) ∧
      (trains → lanes = 0 → 2 ≤ (s.wport k).fails → ∃ t, exec (.wolumTrainingDone k lanes) s = .next t ∧ t.portState k = Ps.DOWN ∧ (quiet → t.ks = s.ks)) ∧
      (trains → lanes ≠ 0 → ∃ t, exec (.wolumTrainingDone k lanes) s = .next t ∧ t.portState k = Ps.HANDSHAKE ∧ opens t k ∧
        t.rdF (Reg.FAB_PORT k) 25 24 = (if lanes = 4 then 3 else if lanes = 2 then 2 else 1) ∧ t.ks = s.ks)) ∧
    (∀ k m, ¬ (k < 16 ∧ (s.portState k = Ps.HANDSHAKE ∨ s.portState k = Ps.UP)) → exec (.linkHandshakeMessage k m) s = .next s) ∧
    (∀ k pub st, k < 16 → s.portState k = Ps.HANDSHAKE → (s.wport k).sh.stage = Shake.identity → (s.wport k).sh.peerId ≠ [] → s.higher (s.wport k).sh.peerId = false → (s.wport k).sh.held = none →
      let why := s.refusal (s.wport k).sh st ((s.wport k).sh.myNonce ++ sha3_256 pub)
      why ≠ 0 → ∃ t, exec (.linkHandshakeMessage k (.offer pub st)) s = .next t ∧ t.portState k = Ps.REFUSED ∧ t.rdF (Reg.FAB_PORT k) 28 26 = why ∧ t.ks = s.ks) ∧
    (∀ k ct st, k < 16 → s.portState k = Ps.HANDSHAKE → (s.wport k).sh.stage = Shake.offered → (s.wport k).sh.held = none →
      s.refusal (s.wport k).sh st ((s.wport k).sh.myNonce ++ sha3_256 ct) = 0 →
      ∃ t, exec (.linkHandshakeMessage k (.answer ct st)) s = .next t ∧ t.portState k = Ps.UP ∧ (t.wport k).sh.stage = Shake.done ∧ (t.wport k).sh.seed = [] ∧ t.ks = s.ks) ∧
    (∀ k, ¬ (k < 16 ∧ s.portState k = Ps.UP) → exec (.linkRekeyTimer k) s = .next s) ∧
    (∀ k, k < 16 → s.portState k = Ps.UP → ∃ t, exec (.linkRekeyTimer k) s = .next t ∧ opens t k ∧
      (t.wport k).sh.keys = (s.wport k).sh.keys ∧ t.regs = s.regs ∧ t.ks = s.ks) ∧
    (∀ k, let live := k < 16 ∧ s.portState k ∈ [Ps.TRAINING, Ps.HANDSHAKE, Ps.UP, Ps.REFUSED]
      (¬ live → exec (.wolumPortDown k) s = .next s) ∧
      (live → ∃ t, exec (.wolumPortDown k) s = .next t ∧ t.portState k = Ps.DOWN ∧ (quiet → t.ks = s.ks ∧ t.cmds = s.cmds))) ∧
    (∀ k errs (flit : List Byte),
      let p := s.wport k
      let key := s.rxKey p.sh
      let here := k < 16 ∧ s.portState k = Ps.UP ∧ flit.length = 256
      let bad := 8 < errs ∨ Config.flitOk key.1 key.2 flit = false
      (¬ here → exec (.wolumFlitReceive k errs flit) s = .next s) ∧
      (here → bad → ∃ t, exec (.wolumFlitReceive k errs flit) s = .next t ∧ t.tx = s.tx ++ [.wolum k 0 0 (.nak p.rxSeq)] ∧ t.fab = s.fab) ∧
      (here → ¬ bad → (leAt flit 2 2).testBit 12 = false → ∃ t, exec (.wolumFlitReceive k errs flit) s = .next t ∧ t.ks = s.ks ∧ t.cmds = s.cmds ∧
        (t.wport k).rxSeq = if leAt flit 0 2 % 4096 = p.rxSeq then (p.rxSeq + 1) % 4096 else p.rxSeq)) ∧
    (s.fabOn = false → exec .helloTimer s = .next s) ∧
    (s.fabOn = true → (∀ r, s.fab.restore = some r → r.asking ≠ none) → ∃ t, exec .helloTimer s = .next t ∧ t.fab.peers = s.fab.peers ∧ t.fab.addr = s.fab.addr ∧ t.ks = s.ks ∧ t.cmds = s.cmds ∧ t.regs = s.regs) ∧
    (∀ k (h : Hello), ¬ (k < 16 ∧ s.portState k = Ps.UP ∧ s.fabOn = true ∧ h.fabric = s.fab.fabId ∧ h.id ≠ s.deviceId) → exec (.helloReceive k h) s = .next s) ∧
    (∀ k (h : Hello), k < 16 → s.portState k = Ps.UP → s.fabOn = true → h.fabric = s.fab.fabId → h.id ≠ s.deviceId → s.fab.restore = none →
      ∃ t, exec (.helloReceive k h) s = .next t ∧ t.ks = s.ks ∧ t.cmds = s.cmds ∧ ∃ p ∈ t.fab.peers, p.id = h.id ∧ p.conf = h.conf ∧ p.last = h.last ∧ p.disc = h.disc) ∧
    (∀ k addr ports,
      let here := k < 16 ∧ s.portState k = Ps.UP ∧ s.fabOn = true ∧ addr < 4096 ∧ s.fab.addr ≠ some addr ∧ mget s.fab.states addr ≠ some ports
      (¬ here → exec (.linkStateReceive k addr ports) s = .next s) ∧
      (here → s.fab.restore = none → ∃ t, exec (.linkStateReceive k addr ports) s = .next t ∧ mget t.fab.states addr = some ports ∧ t.ks = s.ks)) ∧
    (∀ n, (mget s.fab.e2e n = none → exec (.e2eResendTimeout n) s = .next s) ∧
      (∀ m, mget s.fab.e2e n = some m →
        (m.tries < 4 → ∃ (t : State) (m' : E2e), exec (.e2eResendTimeout n) s = .next t ∧ mget t.fab.e2e n = some m' ∧ m'.tries = m.tries + 1 ∧ m'.body = m.body ∧ m'.dest = m.dest) ∧
        (∀ c cls, 4 ≤ m.tries → m.body = .work c cls → exec (.e2eResendTimeout n) s = .next ({ s with fab := { s.fab with e2e := mdel s.fab.e2e n } }.runHere c)) ∧
        (∀ a, 4 ≤ m.tries → m.body = .assign a → exec (.e2eResendTimeout n) s = .next { s with fab := { s.fab with e2e := mdel s.fab.e2e n } }))) ∧
    (∀ src id body, (s.peer src = none ∨ s.fabOn = false) → exec (.fabricMessage src id body) s = .next s) ∧
    (∀ k m, ∃ t, exec (.linkHandshakeMessage k m) s = .next t) ∧
    (∀ src id (body : FabMsg) p, s.peer src = some p → s.fabOn = true →
      (∃ t, exec (.fabricMessage src id body) s = .next t) ∧
      (body.secret = true → p.sh.stage ≠ Shake.done → exec (.fabricMessage src id body) s = .next s) ∧
      (∀ n m, body = .ack n → mget s.fab.e2e n = some m → m.dest = src → exec (.fabricMessage src id body) s =
        .next { s with fab := { s.fab with e2e := mdel s.fab.e2e n } }) ∧
      (∀ a, body = .assign a → src = s.rootId → s.fab.addr = none → s.fab.fixedAddr = none → a < 4096 → ∃ t, exec (.fabricMessage src id body) s = .next t ∧
        t.fab.addr = some a ∧ t.fab.lastAddr = some a ∧ t.ks = s.ks) ∧
      (∀ ts, body = .pulse ts → ∃ t, exec (.fabricMessage src id body) s = .next t ∧ t.fab.syncNext = some ts ∧ t.fab.synced = true ∧ t.now = s.now ∧ t.ks = s.ks) ∧
      (∀ gid idx gen g, body = .destroyed gid idx gen → mget s.fab.groups gid = some g → src ∈ g.members → ∃ t, exec (.fabricMessage src id body) s = .next t ∧
        let top := Nat.max gen ((mget s.fab.destroyed (markKey gid idx)).getD 0)
        mget t.fab.destroyed (markKey gid idx) = some top ∧
        (∀ o, mget s.ks.objs (mkHandle g.fn 2 idx) = some o → attrGroup o.attrs = gid → o.act.gen ≤ top → mget t.ks.objs (mkHandle g.fn 2 idx) = none) ∧
        ∀ h, h ≠ mkHandle g.fn 2 idx → mget t.ks.objs h = mget s.ks.objs h) ∧
      (∀ gid idx gen a pk g, body = .key gid idx gen a pk → p.sh.stage = Shake.done → mget s.fab.groups gid = some g → src ∈ g.members → s.fab.restore = none →
        s.sealState ≠ Seal.LOST → s.marked gid idx gen = false → mget s.ks.objs (mkHandle g.fn 2 idx) = none → s.arrives (handleFn (mkHandle g.fn 2 idx)) (groupAttrs a gid) pk (s.pubFor (groupAttrs a gid) pk) none = 0 →
        ∃ (t : State) (o : KeyObj), exec (.fabricMessage src id body) s = .next t ∧ mget t.ks.objs (mkHandle g.fn 2 idx) = some o ∧ o.act.gen = gen ∧ o.act.priv = pk)) ∧
    (∀ c, (mget s.fab.spilled c = none → exec (.spillPeerTimeout c) s = .next s) ∧
      (∀ x w, mget s.fab.spilled c = some w → mget s.cmds c = some x → x.phase = .remote → ∃ t, exec (.spillPeerTimeout c) s = .next t ∧
        mget t.cmds c = some { x with phase := .ready } ∧ mget t.fab.spilled c = none ∧ t.tx = s.tx)) ∧
    (let pos := s.rdF Reg.RST_STRAP 10 8
     ((pos ≠ 0 ∨ s.lowPorts = false ∨ s.boot.hold = true) → exec .syncPulseOut s = .next s) ∧
     (pos = 0 → s.lowPorts = true → s.boot.hold = false → ∃ t, exec .syncPulseOut s = .next t ∧ (s.tx ++ [.pin .syncOut true, .pin .syncOut false]) <+: t.tx ∧ t.now = s.now) ∧
     ((pos = 0 ∨ s.lowPorts = false ∨ s.fab.syncNext = none) → exec .syncInPulse s = .next s) ∧
     (∀ ts, pos ≠ 0 → s.lowPorts = true → s.fab.syncNext = some ts → ∃ t, exec .syncInPulse s = .next t ∧ t.now = ts ∧ t.fab.syncNext = none ∧
       t.rd 0 Reg.FAB_SYNC = BitVec.ofInt 32 (((ts : Int) - s.now) * 10))) ∧
    (∀ ts, let follows := s.fabOn = true ∧ s.fab.addr ≠ none ∧ s.isRoot = false ∧ s.fab.synced = false
      (¬ follows → exec (.fabricTimeSync ts) s = .next s) ∧
      (follows → ∃ t, exec (.fabricTimeSync ts) s = .next t ∧ t.now = ts ∧ t.fab = s.fab ∧ t.ks = s.ks))

/-! Card ports, quorum and escrow (spec file 16). -/

/-- R373 to R394; cards as events bring them. -/
def Obligations.CardsAndEscrow : Prop :=
  ∀ (s : State) (fn ch : Nat) (r : MbxReq) (req : List Byte),
    let i := r.inl
    let p := leAt i 0 1
    let gone := fun (t : State) => t.cards.quorum = none ∧ t.cards.ceremony = none
    let started := fun (t : State) => ∃ x, mget t.mbx (mbxKey fn ch) = some x ∧ x.started = true
    let fields := 8 ≤ i.length ∧ p < 128 ∧ leAt i 1 1 = 0 ∧ leAt i 6 2 = 0 ∧ 1 ≤ leAt i 2 2 ∧ leAt i 2 2 ≤ 60 ∧ 10 ≤ leAt i 4 2 ∧ leAt i 4 2 ≤ 3600
    let free := s.cardCmd = none ∧ s.cards.quorum = none
    -- the draw that a row waits for (R271)
    let draws := fun (c : Instr) (n : Nat) => r.rand.length < n →
      (s.nrgDown = true → exec c s = refuse s fn ch St.ENTROPY_FAULT) ∧
      (s.nrgDown = false → (∀ q ∈ s.nrg.queue, q.who ≠ .mailbox (mbxKey fn ch)) →
        exec c s = .next { s with nrg := { s.nrg with queue := s.nrg.queue ++ [⟨2, 21, .mailbox (mbxKey fn ch), n, s.now⟩] } })
    (Accepted s fn ch 0x0900 r →
      (¬ free → exec (.quorumOpen fn ch req) s = refuse s fn ch St.STATE) ∧
      (free → ¬ fields → exec (.quorumOpen fn ch req) s = refuse s fn ch St.BAD_FIELD) ∧
      (free → fields → p.testBit 6 = false → s.cards.roster = [] → exec (.quorumOpen fn ch req) s = refuse s fn ch St.QUORUM_REQUIRED) ∧
      (free → fields → p.testBit 6 = false → s.cards.roster ≠ [] → (r.rext = false ∨ r.respCap < 16 * s.cards.mq) → exec (.quorumOpen fn ch req) s =
        .next (s.mbxEnd (mbxKey fn ch) ⟨St.OUTPUT_TOO_SMALL, [], [], 16 * s.cards.mq, false⟩)) ∧
      (free → fields → p.testBit 6 = false → s.cards.roster ≠ [] → r.rext = true → 16 * s.cards.mq ≤ r.respCap → draws (.quorumOpen fn ch req) 32 ∧ (32 ≤ r.rand.length → ∃ (t : State) (q : Quorum),
        exec (.quorumOpen fn ch req) s = .next t ∧ started t ∧ t.cards.quorum = some q ∧ q.inForce = false ∧ q.purposes = p ∧ q.lifetime = leAt i 2 2 ∧
        q.waitSec = leAt i 4 2 ∧ q.counted = [] ∧ q.nonce = r.rand.take 32))) ∧
    (Accepted s fn ch 0x0901 r →
      ((∀ q, s.cards.quorum = some q → q.inForce = false) → exec (.quorumClose fn ch) s = refuse s fn ch St.STATE) ∧
      (∀ q, s.cards.quorum = some q → q.inForce = true → exec (.quorumClose fn ch) s =
        .next ({ s with cards := { s.cards with quorum := none } }.mbxEnd (mbxKey fn ch) ⟨0, [], [], 0, false⟩))) ∧
    (s.cards.quorum = none → exec .quorumWaitTimeout s = .next s ∧ exec .quorumLifetimeExpiry s = .next s) ∧
    (∀ q, s.cards.quorum = some q →
      (q.inForce = true → exec .quorumWaitTimeout s = .next s ∧ exec .quorumLifetimeExpiry s = .next { s with cards := { s.cards with quorum := none } }) ∧
      (q.inForce = false → exec .quorumLifetimeExpiry s = .next s ∧ ∃ t, exec .quorumWaitTimeout s = .next t ∧ gone t ∧ t.ks = s.ks ∧
        ∀ x, s.cardCmd = some x → mget t.mbx x.1 = none)) ∧
    (let b := fixLen r.reqLen req
     let keys := s.escrowKeys (escrowLists b).2.1
     let flags := leAt b 2 1
     let free1 := s.cardCmd = none ∧ s.noDsk = false ∧ s.dskPending = false
     Accepted s fn ch 0x0902 r →
      (s.cardCmd = none → s.noDsk = false → s.dskPending = true → exec (.escrowWrite fn ch req) s = .next s) ∧
      (s.cardCmd ≠ none ∨ s.noDsk = true → exec (.escrowWrite fn ch req) s = refuse s fn ch St.STATE) ∧
      (free1 → s.quorumFor 0 = false → exec (.escrowWrite fn ch req) s = refuse s fn ch St.QUORUM_REQUIRED) ∧
      (free1 → s.quorumFor 0 = true → (r.ext = false ∨ s.escrowOk b = false) → exec (.escrowWrite fn ch req) s = refuse s fn ch St.BAD_FIELD) ∧
      (free1 → s.quorumFor 0 = true → r.ext = true → s.escrowOk b = true → (∃ o ∈ keys, attrQuorum o.2.attrs = true) → s.quorumOpen = false →
        exec (.escrowWrite fn ch req) s = refuse s fn ch St.QUORUM_REQUIRED) ∧
      (free1 → s.quorumFor 0 = true → r.ext = true → s.escrowOk b = true → (∀ o ∈ keys, attrQuorum o.2.attrs = false ∧ o.2.unsealed = true) →
        (s.mcState ∉ [Mc.READY, Mc.SLEEP, Mc.LOCKED] → exec (.escrowWrite fn ch req) s = refuse s fn ch St.CARD_REMOVED) ∧
        (s.mcState = Mc.READY → flags = 0 → volOk s.cards.volume = true → draws (.escrowWrite fn ch req) (writeDraw b) ∧ (writeDraw b ≤ r.rand.length →
          ∃ (t : State) (c : Ceremony), exec (.escrowWrite fn ch req) s = .next t ∧ started t ∧ t.cards.ceremony = some c ∧ c.write = true ∧ c.m = leAt b 0 1 ∧ c.opIds = (escrowLists b).1 ∧ c.placed = [] ∧ c.phase = 1 ∧
          c.shares.length = leAt b 1 1 ∧ t.cards.volume = s.cards.volume)))) ∧
    (Accepted s fn ch 0x0903 r →
      let bars := s.cardCmd ≠ none ∨ s.lc.code ≠ Lc.DEPLOYED ∨ s.noDsk = true ∨ s.rdB Reg.TMP_STAT 1 = true
      let formed := 33 ≤ i.length ∧ leAt i 16 1 ≤ 16
      (bars → exec (.escrowRestore fn ch) s = refuse s fn ch St.STATE) ∧
      (¬ bars → s.dskPending = true → exec (.escrowRestore fn ch) s = .next s) ∧
      (¬ bars → s.dskPending = false → s.quorumFor 1 = false → exec (.escrowRestore fn ch) s = refuse s fn ch St.QUORUM_REQUIRED) ∧
      (¬ bars → s.dskPending = false → s.quorumFor 1 = true → ¬ formed → exec (.escrowRestore fn ch) s = refuse s fn ch St.BAD_FIELD) ∧
      (¬ bars → s.dskPending = false → s.quorumFor 1 = true → formed → s.mcState ∉ [Mc.READY, Mc.SLEEP, Mc.LOCKED] → exec (.escrowRestore fn ch) s = refuse s fn ch St.CARD_REMOVED) ∧
      (∀ a, ¬ bars → s.dskPending = false → s.quorumFor 1 = true → formed → s.mcState = Mc.READY → volOk s.cards.volume = true → pickRecord s.cards.volume (i.take 16) = some a →
        (recData s.cards.volume a = none → exec (.escrowRestore fn ch) s = refuse s fn ch St.INVALID_INPUT) ∧
        (∀ d, recData s.cards.volume a = some d → d.take 4 = [0x45, 0x42, 0x45, 0x31] → 96 ≤ d.length → leAt d 48 8 = d.length - 96 → slice d 16 32 = s.deviceId →
          ∃ (t : State) (c : Ceremony), exec (.escrowRestore fn ch) s = .next t ∧ started t ∧ t.cards.ceremony = some c ∧ c.write = false ∧ c.bundle = d ∧
          c.m = leAt d 4 1 ∧ c.shares = [] ∧ t.ks = s.ks))) ∧
    (∀ port,
      let x := s.scPort port
      let st := s.scState port
      let noLoop := s.looped (17 + port) = false
      let cls := s.rdF (Reg.CRD_SC_STAT port) 27 26
      let empty := st = Sc.EMPTY ∨ st = Sc.REMOVED
      let atr := port < 2 ∧ st = Sc.ACTIVATING ∧ x.pps = none
      (noLoop → 2 ≤ port → exec (.scPresence port) s = .next s) ∧
      (noLoop → port < 2 → ¬ (s.cardsOn = true ∧ empty) → exec (.scPresence port) s = .next s.wakeCards) ∧
      (noLoop → port < 2 → s.cardsOn = true → empty → ∃ t, exec (.scPresence port) s = .next t ∧ t.scState port = Sc.ACTIVATING ∧
        t.rdF (Reg.CRD_SC_STAT port) 27 26 = 3 ∧ t.pad (.cardVcc port) = .high ∧ t.pad (.cardRst port) = .high ∧ t.pad (.cardClk port) = .runs) ∧
      (¬ atr → exec (.scAtrTimeout port) s = .next s ∧ ∀ a b, exec (.scAtr port a b) s = .next s) ∧
      (atr → ∃ t, exec (.scAtrTimeout port) s = .next t ∧ (cls ≤ 1 → t.scState port = Sc.REJECTED) ∧
        (1 < cls → t.scState port = Sc.ACTIVATING ∧ t.rdF (Reg.CRD_SC_STAT port) 27 26 = cls - 1)) ∧
      (∀ a b, atr → (parseAtr a).cls = none → 0 ∉ (parseAtr a).protos → 1 ∉ (parseAtr a).protos → ∃ t, exec (.scAtr port a b) s = .next t ∧ t.scState port = Sc.REJECTED) ∧
      (∀ a b, atr → (parseAtr a).cls = none → (0 ∈ (parseAtr a).protos ∨ 1 ∈ (parseAtr a).protos) → (parseAtr a).ta2 = none → x.noPps = true → s.wantsCards = false →
        ∃ t, exec (.scAtr port a b) s = .next t ∧ t.scState port = Sc.READY ∧ (t.rdB (Reg.CRD_SC_STAT port) 25 = true ↔ 1 ∈ (parseAtr a).protos)) ∧
      (¬ (port < 2 ∧ x.asked = true) → exec (.scApduTimeout port) s = .next s ∧ ∀ resp, exec (.scApduResponse port resp) s = .next s) ∧
      (port < 2 → x.asked = true → ∃ t, exec (.scApduTimeout port) s = .next t ∧ t.scState port = Sc.ERROR ∧ (x.step ≠ .relay → gone t)) ∧
      (∀ ans : CardAnswer, port < 2 → x.asked = true → x.step ≠ .relay → 2 ≤ ans.resp.length → s.blockProto port = false → ans.bad0 x.ins = true →
        ∃ t, exec (.scApduResponse port ans) s = .next t ∧ t.scState port = Sc.ERROR ∧ gone t) ∧
      (∀ ans : CardAnswer, port < 2 → x.asked = true → x.step ≠ .relay → 2 ≤ ans.resp.length →
        ((s.blockProto port = false ∧ ans.bad0 x.ins = false) ∨ (s.blockProto port = true ∧ ans.bad = 0 ∧ ans.wtx = [])) →
        let resp := ans.resp
        let sw := beAt resp (resp.length - 2) 2
        let d := x.resp ++ resp.take (resp.length - 2)
        (sw ≠ 0x9000 → sw / 256 ≠ 0x61 → ∃ t, exec (.scApduResponse port ans) s = .next t ∧ t.scState port = Sc.READY ∧ (t.scPort port).step = .none ∧
          t.rdF (Reg.CRD_SC_STAT port) 15 8 = min 255 (s.rdF (Reg.CRD_SC_STAT port) 15 8 + 1) ∧ t.cards.quorum = s.cards.quorum ∧ t.cards.ceremony = s.cards.ceremony) ∧
        (∀ a rest, sw = 0x9000 → x.out = a :: rest → ∃ t, exec (.scApduResponse port ans) s = .next t ∧ (t.scPort port).out = rest ∧
          (t.scPort port).step = x.step ∧ t.tx = s.tx ++ [.apdu port a] ∧ t.mbx = s.mbx ∧ t.cards.quorum = s.cards.quorum) ∧
        (∀ q, sw = 0x9000 → x.out = [] → x.step = .authenticate → d.length = 3309 → mldsaVerify 1 (x.ident.take 1952) x.challenge d "EBLOS-OPERATOR" = true →
          s.cards.ceremony = none → s.cards.quorum = some q → q.inForce = false →
          let q' := { q with counted := q.counted ++ [operatorId x.ident] }
          (s.quorumMet q' = false → ∃ t, exec (.scApduResponse port ans) s = .next t ∧ t.cards.quorum = some q' ∧ t.cards.roster = s.cards.roster) ∧
          (∀ m, s.quorumMet q' = true → s.cardCmd = some m → m.2.rext = true → q'.counted.flatten.length ≤ m.2.respCap → ∃ t, exec (.scApduResponse port ans) s = .next t ∧
            t.cards.quorum = some { q' with inForce := true, since := s.now } ∧ mget t.mbx m.1 = none))) ∧
      (¬ (port < 2 ∧ ¬ empty) → exec (.scRemoval port) s = .next s) ∧
      (port < 2 → ¬ empty → ∃ t, exec (.scRemoval port) s = .next t ∧ t.scState port = Sc.REMOVED ∧ (x.asked = true → x.step ≠ .relay → gone t) ∧ t.ks.objs = s.ks.objs) ∧
      ((2 ≤ port ∨ (x.asked = false ∧ (st ≠ Sc.ACTIVATING ∨ x.pps = none))) → exec (.scWaitingTimeExpiry port) s = .next s) ∧
      (port < 2 → st = Sc.ACTIVATING → x.pps ≠ none → ∃ t, exec (.scWaitingTimeExpiry port) s = .next t ∧ t.scState port = Sc.ACTIVATING ∧ (t.scPort port).noPps = true) ∧
      (port < 2 → st ≠ Sc.ACTIVATING → x.asked = true →
        (s.blockProto port = true → x.retries < 3 → exec (.scWaitingTimeExpiry port) s =
          .next ((s.setSc port { x with retries := x.retries + 1 }).emit (.card port (x.mode.block (BitVec.ofNat 8 (0x82 + 16 * x.nr)) [])))) ∧
        (s.blockProto port = true → 3 ≤ x.retries → x.retries < 6 → exec (.scWaitingTimeExpiry port) s =
          .next ((s.setSc port { x with retries := x.retries + 1, nr := 0 }).emit (.card port (x.mode.block 0xC0 [])))) ∧
        ((s.blockProto port = false ∨ 6 ≤ x.retries) → ∃ t, exec (.scWaitingTimeExpiry port) s = .next t ∧ t.scState port = Sc.ERROR)) ∧
      (port < 2 → st ∈ [Sc.ACTIVATING, Sc.READY, Sc.BUSY] → ∃ t, exec (.cardOvercurrent port) s = .next t ∧ t.scState port = Sc.FAULT ∧ t.sticky 281 = true) ∧
      (port = 2 → s.mc0On = true → ∃ t, exec (.cardOvercurrent port) s = .next t ∧ t.mcState = Mc.FAULT ∧ t.sticky 281 = true)) ∧
    (let empty := s.mcState = Mc.EMPTY ∨ s.mcState = Mc.REMOVED
     (∀ card, s.looped 19 = false → (s.cardsOn = false ∨ ¬ empty) → exec (.mc0Insert card) s = .next s.wakeCards) ∧
     (∀ card, s.looped 19 = false → s.cardsOn = true → empty → ∃ t, exec (.mc0Insert card) s = .next t ∧
       t.mcState = (if card.kind < 1 ∨ 3 < card.kind then Mc.REJECTED else if card.locked then Mc.LOCKED else Mc.READY) ∧
       (1 ≤ card.kind → card.kind ≤ 3 → t.cards.mc0Pass = card.password ∧ t.cards.mc0Busy = false)) ∧
     (empty → exec .mc0Remove s = .next s) ∧
     (¬ empty → ∃ t, exec .mc0Remove s = .next t ∧ t.mcState = Mc.REMOVED ∧ t.cards.volume = [] ∧ t.cards.mc0Busy = false ∧ t.cards.ceremony = none) ∧
     (let sleeps := s.mcState = Mc.READY ∧ s.rdF Reg.CRD_MC_CFG 15 0 ≠ 0 ∧ s.cards.ceremony = none
      (¬ sleeps → exec .mc0IdleSleep s = .next s) ∧ (sleeps → ∃ t, exec .mc0IdleSleep s = .next t ∧ t.mcState = Mc.SLEEP ∧ t.cards = s.cards)) ∧
     (s.cards.mc0Busy = false → exec .mc0BusyTimeout s = .next s ∧ ∀ a g l, exec (.mc0BusyEnd a g l) s = .next s) ∧
     (s.cards.mc0Busy = true → (∃ t, exec .mc0BusyTimeout s = .next t ∧ t.mcState = Mc.READY ∧ t.cards.mc0Busy = false ∧ t.cards.ceremony = none) ∧
       (∀ g l, s.mcState = Mc.BUSY → ∃ t, exec (.mc0BusyEnd false g l) s = .next t ∧ t.mcState = Mc.REMOVED ∧ t.cards.ceremony = none) ∧
       (∀ l, ∃ t, exec (.mc0BusyEnd true false l) s = .next t ∧ t.mcState = Mc.READY ∧ t.cards.ceremony = none) ∧
       (∀ l, s.cards.ceremony = none → ∃ t, exec (.mc0BusyEnd true true l) s = .next t ∧ t.mcState = Mc.READY ∧ t.cards = { s.cards with mc0Busy := false }) ∧
       (∀ l c, s.cards.ceremony = some c → c.phase = 2 → ∃ t, exec (.mc0BusyEnd true true l) s = .next t ∧ t.mcState = Mc.BUSY ∧
         t.cards.ceremony = some { c with phase := 3 } ∧
         blockAt t.cards.volume (c.address + rcdLen s.cards.volume c.address + 1) = commitBlock s.cards.volume c.address)))

/-! Power (spec files 11 to 13). -/

/-- R281 to R290, R296, R316 to R318, R342; measured values come with the events (log entry 24). -/
def Obligations.PowerAndWake : Prop :=
  ∀ (s : State),
    (∀ a b c, (s.pwr.vin = true → exec (.vinValid a b c) s = .next s) ∧
      (s.pwr.vin = false → ∃ t, exec (.vinValid a b c) s = .next t ∧ t.pwr.vin = true ∧ t.pwr.vioOk = s.pwr.vioOk ∧ t.now = 0 ∧ t.boot.stage = .inReset ∧
        t.pwr.waking = true ∧ t.pwr.queues = (if s.pwr.thermal then [[164], [], [], []] else wakeQueues) ∧
        t.pwr.strap = some (median3 a b c % 64 / 4 % 8) ∧ t.permit = (if median3 a b c % 64 / 4 % 8 = 0 then Pm.HELD else Pm.WAITING) ∧ t.pwr.powered = [] ∧ t.rdB Reg.RST_CAUSE 0 = true ∧ t.rdF Reg.RST_STRAP 5 0 = median3 a b c % 64 ∧
        t.peat.sls = s.peat.sls ∧ t.peat.log.getLast? ≠ none ∧
        ∀ n, s.pwr.vioOk = true → 1 ≤ n → t.peat.counters.getD n 0 = (if s.peat.cold then s.peat.flashCnt else s.peat.counters).getD n 0)) ∧
    (∀ cell i, i ∈ [Instr.vinLoss cell, .vinOvervoltage cell] → (s.pwr.vin = false → exec i s = .next s) ∧
      (s.pwr.vin = true → ∃ t, exec i s = .next t ∧ t.pwr.vin = false ∧ t.boot.stage = .off ∧ t.cmds = [] ∧ t.ks.objs = [] ∧ t.ks.ctxs = [] ∧
        t.ks.flash = s.ks.flash ∧ t.lc.slots = s.lc.slots ∧ t.lc.markers = s.lc.markers ∧ t.lc.rootKill = s.lc.rootKill ∧ t.lc.minSvn = s.lc.minSvn ∧
        t.cards.roster = s.cards.roster ∧ t.peat.flashCnt = s.peat.flashCnt ∧ t.pwr.powered = [] ∧
        (cell = true → t.peat.counters = s.peat.counters ∧ t.peat.log = s.peat.log ∧ t.peat.sls = s.peat.sls ∧ t.peat.secs = s.peat.secs) ∧
        (cell = false → t.peat.cold = true ∧ t.peat.sls = none ∧ t.peat.log = []))) ∧
    (∀ v v50, ((s.pwr.vin = false ∨ v = 0 ∨ s.boot.stage = .heldOff) → exec (.bellowsDecision v v50) s = .next s) ∧
      (s.pwr.vin = true → 0 < v → v < 65536 → s.boot.stage ≠ .heldOff → s.cmds = [] → ∃ t, exec (.bellowsDecision v v50) s = .next t ∧ t.rdF Reg.PWR_VIN 15 0 = v ∧
        (∀ d ∈ t.pwr.powered, d ∈ s.pwr.powered) ∧
        (let tight := s.hearthRuns = true ∧ loadLimit v < s.admitted
         ¬ tight → t.pwr.powered = s.pwr.powered ∧ (t.pwr.ramping = s.pwr.ramping ∨ ∃ d, t.pwr.ramping = s.pwr.ramping ++ [d] ∧ d ∈ s.pwr.queues.flatten ∧ d ∉ t.pwr.queues.flatten ∧
          loadMw d + s.admitted ≤ loadLimit v)) ∧
        (s.now < s.pwr.pause ∨ (s.pwr.burst = true ∧ 100 * v < 92 * s.rdF Reg.PWR_VIN 31 16) → t.pwr.ramping = s.pwr.ramping) ∧
        (s.pwr.burst = true → 100 * v < 92 * s.rdF Reg.PWR_VIN 31 16 → t.pwr.pause = s.now + 10000))) ∧
    (∀ d, (d ∉ s.pwr.ramping → exec (.domainRampDone d) s = .next s) ∧
      (d ∈ s.pwr.ramping → d < 137 ∨ 154 ≤ d → ∃ t, exec (.domainRampDone d) s = .next t ∧ d ∈ t.pwr.powered ∧ d ∉ t.pwr.ramping ∧ t.cmds = s.cmds ∧
        (∀ e ∈ s.pwr.powered, e ∈ t.pwr.powered)) ∧
      (137 ≤ d → d < 154 → ∃ t, exec (.domainRampDone d) s = .next t ∧ d ∉ t.pwr.ramping ∧ t.ks = s.ks)) ∧
    (∀ d,
      let idle := s.rdF Reg.PWR_IDLE 15 0 ≠ 0 ∧ d < 137 ∧ s.boot.stage = .ready ∧ d ∈ s.pwr.powered ∧ s.idleDomain d = true
      (¬ idle → exec (.idleGate d) s = .next s) ∧
      (idle → ∃ t, exec (.idleGate d) s = .next t ∧ d ∉ t.pwr.powered ∧ (∀ e, e ≠ d → e ∈ s.pwr.powered → e ∈ t.pwr.powered) ∧
        (∀ u ∈ unitsIn d, (t.unit u).service = false) ∧ t.cmds = s.cmds)) ∧
    (∀ v, v < 65536 →
      let less := fun (t : State) => t.rdB Reg.PWR_STAT 7 = true ∧ t.rdF Reg.PWR_VIN 15 0 = v ∧ (∀ d ∈ t.pwr.powered, d ∈ s.pwr.powered) ∧ t.cmds = s.cmds ∧ t.ks = s.ks
      (¬ (s.pwr.vin = true ∧ loadLimit v < s.admitted) → exec (.vinDerate v) s = .next s) ∧
      (s.pwr.vin = true → loadLimit v < s.admitted → ∃ t, exec (.vinDerate v) s = .next t ∧ less t) ∧
      (s.pwr.vin = false → exec (.inputCurrentLimit v) s = .next s) ∧
      (s.pwr.vin = true → ∃ t, exec (.inputCurrentLimit v) s = .next t ∧ less t ∧ t.sticky 282 = true ∧ (t.fltSrc 282).active = true)) ∧
    (let found := s.pwr.vin = true ∧ s.pwr.vioOk = true ∧ s.pwr.waking = true ∧ s.follows = true ∧ s.permit = Pm.WAITING
     let waits := s.pwr.vin = true ∧ s.pwr.waking = true ∧ s.follows = true ∧ s.permit = Pm.WAITING
     (¬ found → exec .wakePermitFound s = .next s) ∧
     (found → ∃ t, exec .wakePermitFound s = .next t ∧ t.permit = Pm.HELD ∧ t.pwr = { s.pwr with heldAt := some s.now } ∧ t.tx = s.tx) ∧
     (s.permit ≠ Pm.HELD → s.permit ≠ Pm.TIMEOUT → exec .permitHoldTimeout s = .next s) ∧
     (s.permit = Pm.HELD ∨ s.permit = Pm.TIMEOUT → ∃ t, exec .permitHoldTimeout s = .next t ∧ t.permit = (if s.permit = Pm.HELD then Pm.PASSED else Pm.TIMEOUT) ∧
       t.pwr.permitOut = true ∧ t.pad .wakePermitOut = .z ∧ t.tx = s.tx) ∧
     (¬ waits → exec .permitWaitTimeout s = .next s) ∧
     (waits → ∃ t, exec .permitWaitTimeout s = .next t ∧ t.permit = Pm.TIMEOUT ∧ t.sticky 284 = true ∧ t.pwr = s.pwr)) ∧
    (let off := fun (x : Nat) => x = 0 ∨ x = 5
     (¬ (s.pwr.vin = true ∧ s.pwr.vioOk = true) → exec .vioLow s = .next { s with pwr := { s.pwr with vioOk := false, resetN := true, perstN := true } }) ∧
     (s.pwr.vin = true → s.pwr.vioOk = true → ∃ t, exec .vioLow s = .next t ∧ t.pwr.vioOk = false ∧ t.pwr.resetN = true ∧ t.pwr.perstN = true ∧
       (∀ p, p ∈ [Pin.resetN, .errN, .alertN, .wakePermitOut] → t.pad p = .z) ∧ t.sticky 283 = true ∧ off (t.scState 0) ∧ off (t.scState 1) ∧ off t.mcState) ∧
     (s.pwr.vioOk = true → exec .vioRestored s = .next s) ∧
     (s.pwr.vioOk = false → ∃ t, exec .vioRestored s = .next t ∧ t.pwr = { s.pwr with vioOk := true } ∧ (t.fltSrc 283).active = false ∧ t.regs = s.regs)) ∧
    (s.pwr.vin = false → exec .thermalTrip s = .next s) ∧
    (s.pwr.vin = true → ∃ t, exec .thermalTrip s = .next t ∧ t.pwr.thermal = true ∧ (∀ d, d ∈ t.pwr.powered ∨ d ∈ t.pwr.ramping ∨ d ∈ t.pwr.queues.flatten → d = 164) ∧
      t.rdB Reg.RST_CAUSE 9 = true ∧ t.boot.stage ∈ [Stage.inReset, .heldOff, .off] ∧ (s.pwr.waking = true → t.permit = Pm.PASSED ∧ t.pwr.permitOut = true)) ∧
    (s.pwr.thermal = false → exec .thermalRecover s = .next s) ∧
    (s.pwr.thermal = true → s.pwr.queues.length = 4 → ∃ t, exec .thermalRecover s = .next t ∧ t.pwr.thermal = false ∧ t.regs = s.regs ∧ t.boot = s.boot ∧
      (s.boot.stage = .heldOff → t.pwr.queues = s.pwr.queues) ∧
      (s.boot.stage ≠ .heldOff → ∀ d, d ∈ t.pwr.queues.flatten ↔ d ∈ s.pwr.queues.flatten ∨
        (d ∈ (queuesWith s.firstPort).flatten ∧ d ≠ 164 ∧ ¬ (d < 137 ∧ s.lc.code = Lc.SCRAP ∧ s.boot.stage = .ready) ∧ s.gated d = true)))

/-! Resets and the host link (spec files 02 and 11). -/

/-- R59, R291 to R297, R306; `full` and `hio` are what the two resets do. -/
def Obligations.ResetsAndLink : Prop :=
  ∀ (s : State),
    let runs := s.boot.stage ∉ [Stage.inReset, .heldOff, .off]
    let full := fun (t : State) (c : Nat) => t.boot.stage = .inReset ∧ t.cmds = [] ∧ t.qps = [] ∧ t.mbx = [] ∧ t.outcomes = [] ∧ t.ks.objs = [] ∧ t.ks.ctxs = [] ∧
      t.ks.flash = s.ks.flash ∧ t.lc.slots = s.lc.slots ∧ t.lc.session = none ∧ t.peat.sls = s.peat.sls ∧ t.link.up = false ∧ t.rdB Reg.RST_CAUSE c = true ∧
      t.rdF Reg.RST_LAST 3 0 = c ∧ ∃ e, t.peat.log.getLast? = some e ∧ leAt e 7 1 = 2 ∧ leAt e 8 1 = c
    let hio := fun (t : State) (c : Nat) => t.boot.stage = s.boot.stage ∧ t.cmds = [] ∧ t.qps = [] ∧ t.ks.ctxs = [] ∧ t.ks.objs = s.ks.objs ∧ t.ks.dsk = s.ks.dsk ∧
      t.boot.fw = s.boot.fw ∧ t.pwr.powered = s.pwr.powered ∧ t.lc = s.lc ∧ t.sealState = s.sealState ∧ t.rdB Reg.RST_CAUSE c = true
    (¬ (s.pwr.vin = true ∧ s.pwr.vioOk = true) → exec .resetNAssert s = .next s) ∧
    (s.pwr.vin = true → s.pwr.vioOk = true → ∃ t, exec .resetNAssert s = .next t ∧ t.pwr.resetN = false ∧ t.rdB Reg.RST_CAUSE 1 = true ∧ (runs → full t 1) ∧
      (¬ runs → t.boot = s.boot ∧ t.cmds = s.cmds)) ∧
    (∀ a b c, (s.boot.stage ≠ .inReset → exec (.resetExit a b c) s = .next s) ∧
      (s.boot.stage = .inReset → ∃ t, exec (.resetExit a b c) s = .next t ∧ t.boot.stage = .kindling ∧ t.pwr.resetN = true ∧ t.pwr.drive = none ∧ t.ks.flash = s.ks.flash ∧
        (s.pwr.strapped = false → t.rdF Reg.RST_STRAP 5 0 = median3 a b c % 64) ∧ (s.pwr.strapped = true → t.rd 0 Reg.RST_STRAP = s.rd 0 Reg.RST_STRAP))) ∧
    (¬ (s.boot.stage = .inReset ∧ s.pwr.resetN = false) → exec .heldOff s = .next s) ∧
    (s.boot.stage = .inReset → s.pwr.resetN = false → ∃ t, exec .heldOff s = .next t ∧ t.boot.stage = .heldOff ∧ t.pwr.powered = [] ∧ t.pwr.ramping = [] ∧
      t.pwr.queues.flatten = [] ∧ t.rdB Reg.RST_CAUSE 1 = true ∧ t.tx = s.tx ∧
      (s.pwr.vin = true → s.pwr.vioOk = true → t.pad .wakePermitOut = .low ∧ t.pad .resetN = .z)) ∧
    (∀ a b c, (s.boot.stage ≠ .heldOff → exec (.heldOffRelease a b c) s = .next s) ∧
      (s.boot.stage = .heldOff → ∃ t, exec (.heldOffRelease a b c) s = .next t ∧ t.boot.stage = .inReset ∧ t.pwr.waking = true ∧ t.pwr.queues = (if s.pwr.thermal then [[164], [], [], []] else wakeQueues) ∧
        t.pwr.resetN = true ∧ t.rdF Reg.RST_STRAP 5 0 = median3 a b c % 64)) ∧
    (let edge := s.pwr.vin = true ∧ s.pwr.vioOk = true ∧ s.pwr.perstN = true
     let mode := s.rdB Reg.RST_CFG 0 && !s.boot.hold
     (s.pwr.vin = true → ¬ edge → exec .perstNFall s = .next s) ∧
     (s.pwr.vin = false → exec .perstNFall s = .next { s with pwr := { s.pwr with perstN := false } }) ∧
     (edge → ∃ t, exec .perstNFall s = .next t ∧ t.pwr.perstN = false ∧ t.link.up = false ∧
       (s.boot.stage = .firmware ∨ s.boot.stage = .ready → (mode = false → full t 2) ∧ (mode = true → hio t 2)) ∧
       (s.boot.stage = .kindlingMbx → t.rdB Reg.RST_CAUSE 2 = true ∧ (mode = false → t.boot.stage = .kindling ∧ t.mbx = []) ∧ (mode = true → t.boot = s.boot ∧ t.mbx = s.mbx)) ∧
       (s.boot.stage ∈ [Stage.off, .inReset, .heldOff, .kindling] → t.boot = s.boot ∧ t.regs = s.regs)) ∧
     exec .perstNRise s = .next { s with pwr := { s.pwr with perstN := true } }) ∧
    (let trains := s.pwr.perstN = true ∧ s.pwr.vin = true ∧ 154 ∈ s.pwr.powered ∧ s.hearthRuns = true
     (¬ trains → exec .pcieLinkUp s = .next s) ∧ (trains → exec .pcieLinkUp s = .next { s with link := { s.link with up := true } })) ∧
    (∀ i c, (i, c) ∈ [(Instr.linkDown, 10), (.hotReset, 11)] → (s.link.up = false → exec i s = .next s) ∧
      (s.link.up = true → ∃ t, exec i s = .next t ∧ hio t c ∧ t.link.up = false)) ∧
    (∀ (v : Word) i, i ∈ [Instr.rstCtrlFull v, .rstCtrlHio v] →
      ((fld v 31 16 ≠ 0x7144 ∨ s.hearthRuns = false ∨ (bitAt v 0 = false ∧ bitAt v 1 = false)) → exec i s = .next s) ∧
      (fld v 31 16 = 0x7144 → s.hearthRuns = true → bitAt v 0 = true → exec i s = .next 
        { s with pwr := { s.pwr with swReset := some (s.pwr.swReset.getD 7), swAt := if s.pwr.swReset.isSome then s.pwr.swAt else s.now } }) ∧
      (fld v 31 16 = 0x7144 → s.hearthRuns = true → bitAt v 0 = false → bitAt v 1 = true → ∃ t, exec i s = .next t ∧ hio t 7)) ∧
    (s.pwr.swReset = none → exec .softwareResetStart s = .next s) ∧
    (let waits := (∃ r ∈ s.mbx, r.2.commit = true) ∧ s.now < s.pwr.swAt + 2 * 10 ^ 8
     ∀ c, c = 7 ∨ c = 8 → s.pwr.swReset = some c → (waits → exec .softwareResetStart s = .next s) ∧ (¬ waits → runs → ∃ t, exec .softwareResetStart s = .next t ∧ full t c ∧ t.pwr.swReset = none)) ∧
    (∀ fn q i e, (i, e) ∈ [(Instr.linkReadFail (.descriptor fn q), 6), (.linkWriteFail (.completion fn q), 7)] →
      (s.qpOpen fn q = false → exec i s = .next s) ∧
      (s.qpOpen fn q = true → ∃ t, exec i s = .next t ∧ (t.qp fn q).state = .error ∧ (t.qp fn q).err = e ∧ bitAt (t.rd 0 (Reg.CMD_QPERR (fn / 32))) (fn % 32) = true ∧
        ∀ id c, mget t.cmds id = some c → ¬ (c.fn = fn ∧ c.qp = q))) ∧
    (∀ id, (mget s.cmds id = none → ∀ i ∈ [Instr.linkReadFail (.command id), .linkReadFail (.restore id), .linkWriteFail (.output id), .linkWriteFail (.results id)], exec i s = .next s) ∧
      (∀ c, mget s.cmds id = some c →
        (c.phase = .held ∨ c.phase = .waitCq → exec (.linkReadFail (.command id)) s = .next s ∧ exec (.linkWriteFail (.output id)) s = .next s) ∧
        (c.phase = .started → c.op ∉ [0x0C11, 0x0C12, 0x0C13] → exec (.linkReadFail (.command id)) s = .next ((s.aerReport c.fn).complete id (.aborted 1))) ∧
        (c.phase = .running → c.op ∉ [0x0C11, 0x0C12, 0x0C13] → exec (.linkReadFail (.command id)) s = .next ((s.aerReport c.fn).complete id (.abortedLate 1))) ∧
        (c.phase ≠ .waitSlot → exec (.linkReadFail (.restore id)) s = .next s) ∧
        (c.phase = .waitSlot → exec (.linkReadFail (.restore id)) s = .next ((((s.aerReport 0).spoil c.fn c.ctx).incF Reg.DGE_SPILL_ERR 31 16 1).complete id (.abortedLate 1))) ∧
        (c.phase = .running → c.outMap ≠ [] → exec (.linkWriteFail (.output id)) s = .next ((s.aerReport c.fn).complete id (.abortedLate 6))) ∧
        (c.phase ≠ .batch → exec (.linkWriteFail (.results id)) s = .next s) ∧
        (c.phase = .batch → s.qpOpen c.fn c.qp = true → ∃ t, exec (.linkWriteFail (.results id)) s = .next t ∧ (t.qp c.fn c.qp).state = .error ∧ (t.qp c.fn c.qp).err = 7))) ∧
    (∀ fn ch, (mget s.mbx (mbxKey fn ch) = none → exec (.linkReadFail (.mailbox fn ch)) s = .next s ∧ exec (.linkWriteFail (.mailbox fn ch)) s = .next s) ∧
      (∀ r, mget s.mbx (mbxKey fn ch) = some r →
        (r.started = true → exec (.linkReadFail (.mailbox fn ch)) s = .next s) ∧
        (r.started = false → exec (.linkReadFail (.mailbox fn ch)) s = .next ((s.aerReport fn).mbxEnd (mbxKey fn ch) (.aborted 1))) ∧
        ∃ t, exec (.linkWriteFail (.mailbox fn ch)) s = .next t ∧ mget t.mbx (mbxKey fn ch) = some { r with noBuf := true } ∧ t = { s.aerReport fn with mbx := t.mbx }))

/-! Tamper sources and the peat domain (spec file 13). -/

/-- R328 to R338, R341, R342, R344. `seen` are the channels of an event that reach the filter. The union's order is log entry 151's. -/
def Obligations.TamperAndPeat : Prop :=
  ∀ (s : State),
    (∀ (fn ch : Nat) (req : List Byte) (r : MbxReq), Accepted s fn ch 0x0700 r →
      let b := r.payload req
      let ps := (List.range (b.length / 8)).map (fun k => (leAt b (8 * k) 4, BitVec.ofNat 32 (leAt b (8 * k + 4) 4)))
      let wrong := r.ext = false ∨ b.length % 8 ≠ 0 ∨ b.length < 8 ∨ 512 < b.length ∨ ∃ p ∈ ps, tmpOk s.lcc p.1 p.2 = false
      (s.tmpLocked = true → exec (.tmpConfig fn ch req) s = refuse s fn ch St.STATE) ∧
      (s.tmpLocked = false → wrong → exec (.tmpConfig fn ch req) s = refuse s fn ch St.BAD_FIELD) ∧
      (s.tmpLocked = false → ¬ wrong →
        exec (.tmpConfig fn ch req) s = .next (answer s (ps.foldl (fun (x : State) p => x.setTmpSrc p.1 p.2) s) fn ch r (.ok [])))) ∧
    (∀ (i : Nat) (v : Word),
      let w := (s.setTmpSrc i v).rd 0 (Reg.TMP_SRC i)
      let o := s.rd 0 (Reg.TMP_SRC i)
      bitAt w 31 = (bitAt v 31 || decide (i ≤ 13)) ∧ fld w 30 19 = fld o 30 19 ∧ fld w 18 4 = (if i = 13 ∨ i = 53 then fld o 18 4 else fld v 18 4) ∧
        fld w 3 0 = fld v 3 0 ||| (if i ≤ 13 then 9 else 1) ∧ (s.setTmpSrc i v) = { s with regs := (s.setTmpSrc i v).regs }) ∧
    (∀ (fn ch : Nat) (r : MbxReq), Accepted s fn ch 0x0701 r →
      (s.tmpLocked = true → exec (.tmpLock fn ch) s = refuse s fn ch St.STATE) ∧
      (s.tmpLocked = false → ∃ (t : State) (e : List Byte), exec (.tmpLock fn ch) s = .next (answer s t fn ch r (.ok [])) ∧ t.tmpLocked = true ∧
        t.peat.log.getLast? = some e ∧ leAt e 7 1 = 4 ∧ t = { s with regs := t.regs, peat := t.peat })) ∧
    (let live := fun (src seen : Nat) => s.pwr.vin = true ∧ src ∈ tmpSources ∧ src ≠ 13 ∧ bitAt (s.tmpReg src) 31 = true ∧ seen ≠ 0
     let inW := fun (src : Nat) => (s.tmpSrc src).events.filter (fun x => decide (s.now < x + tmpW (s.tmpReg src)))
     let armed := fun (src : Nat) => (s.tmpSrc src).armed || s.tmpQuietFor src (tmpW (s.tmpReg src))
     let fires := fun (src : Nat) => armed src = true ∧ (if src = 53 then 1 else tmpN (s.tmpReg src)) ≤ (inW src).length + 1
     let erases := fun (src : Nat) => bitAt (s.tmpReg src) 3 = true
     let resets := fun (src : Nat) => bitAt (s.tmpReg src) 2 = true ∧ ((s.tmpSrc src).reset = false ∨ s.tmpQuietFor src (10 ^ 8) = true)
     let gone := fun (t : State) => t.peat.sls = none ∧ t.ks.objs = [] ∧ t.ks.dsk = none ∧ t.rdB Reg.TMP_STAT 1 = true
     let again := fun (t : State) => t.boot.stage = .inReset ∧ t.rdB Reg.RST_CAUSE 5 = true
     let runs := s.boot.stage ∉ [Stage.inReset, .heldOff, .off]
     (∀ src chans,
      let seen := s.tmpChans src chans
      let ev := Instr.tamperEvent [src] [chans]
      (¬ live src seen → exec ev s = .next s) ∧
      (live src seen → ¬ fires src → ∃ t, exec ev s = .next t ∧ t = { s with tmp := t.tmp } ∧ (t.tmpSrc src).events = inW src ++ [s.now] ∧
        (t.tmpSrc src).last = some s.now ∧ (t.tmpSrc src).armed = armed src) ∧
      (live src seen → fires src → ∃ (t : State) (e : List Byte), exec ev s = .next t ∧ t.tmpSticky src = true ∧
        t.peat.log.getLast? = some e ∧ leAt e 7 1 = 1 ∧ leAt e 8 1 = src ∧ leAt e 10 1 = seen ∧ t.dg.ksc = [] ∧ (∀ c ∈ t.dg.ctxs, c.2.state ≠ .opened) ∧
        t.nrg.ready = [] ∧ t.nrg.pend = [] ∧ (t.tmpSrc src).armed = false ∧ (erases src → gone t) ∧
        (resets src → ¬ (erases src ∧ s.inKindling = true) → runs → again t) ∧
        (¬ resets src ∨ (erases src ∧ s.inKindling = true) → t.boot = s.boot)) ∧
      (live src seen → fires src → fld (s.tmpReg src) 3 0 = 1 → ∃ t, exec ev s = .next t ∧ t.ks = s.ks ∧ t.peat.sls = s.peat.sls ∧ t.boot = s.boot ∧ t.flt = s.flt)) ∧
     -- alarms of one sample take the union of their responses (R332)
     (∀ a b ca cb, a ≠ b → live a (s.tmpChans a ca) → live b (s.tmpChans b cb) → fires a → fires b → ∃ t, exec (.tamperEvent [a, b] [ca, cb]) s = .next t ∧
       t.tmpSticky a = true ∧ t.tmpSticky b = true ∧ (erases a ∨ erases b → gone t) ∧
       (resets a ∨ resets b → ¬ ((erases a ∨ erases b) ∧ s.inKindling = true) → runs → again t))) ∧
    (s.rdB Reg.TMP_STAT 1 = false ∨ s.erasersQuiet = false → exec .eraseLineRelease s = .next s) ∧
    (s.rdB Reg.TMP_STAT 1 = true → s.erasersQuiet = true → ∃ t, exec .eraseLineRelease s = .next t ∧ t.rdB Reg.TMP_STAT 1 = false ∧ t = { s with regs := t.regs, nrg := t.nrg } ∧
      (s.peat.slsValid = false → ∃ q ∈ t.nrg.queue, q.who = .management 1) ∧ (s.peat.slsValid = true → t.nrg = s.nrg)) ∧
    (let timed := s.rdF Reg.TMP_CTRL 15 8 ≠ 0 ∧ s.boot.stage = .ready
     let first := tmpSources.find? (fun i => bitAt (s.tmpReg i) 31)
     (∀ rails, ¬ timed → exec (.tmpBistInterval rails) s = .next s) ∧
     (timed → s.tmpTest = none → s.tmpNext = [] → s.tmpSeries = none → exec (.tmpBistInterval []) s =
       .next { s with tmpTest := first.map (fun i => ⟨i, 0, false, false⟩), tmpSeries := first.map (fun i => 2 * i) }) ∧
     (∀ src, timed → src < 230 → ∃ t, exec (.tmpBistInterval [(src, 0)]) s = .next t ∧ t.sticky src = true ∧ t.sticky 314 = true ∧ (t.fltSrc src).rail = true)) ∧
    (∀ (v : Word),
      let i := fld v 13 8
      let named := fun (t : State) => t.rdF Reg.TMP_TEST 16 16 = fld v 16 16 ∧ t.rdF Reg.TMP_TEST 13 8 = i
      let busy := s.rdB Reg.TMP_TEST 0
      let waits := ∃ x, s.tmpTest = some x ∧ (x.byPf = true ∨ x.inj = true)
      (bitAt v 31 = false ∨ busy = true ∨ i ∉ tmpSources → ∃ t, exec (.tmpTestGo v) s = .next t ∧ named t ∧ t = { s with regs := t.regs }) ∧
      (bitAt v 31 = true → busy = false → i ∈ tmpSources → ∃ t, exec (.tmpTestGo v) s = .next t ∧ named t ∧ t.rdB Reg.TMP_TEST 0 = true ∧
        t.rdF Reg.TMP_TEST 2 1 = 0 ∧ (waits → t = { s with regs := t.regs, tmpNext := s.tmpNext ++ [⟨i, fld v 16 16, true, false⟩] }) ∧
        (¬ waits → t = { s with regs := t.regs, tmpTest := some ⟨i, fld v 16 16, true, false⟩ }))) ∧
    (∀ pass, (s.tmpTest = none → exec (.tmpChannelTestDone pass) s = .next s) ∧
      (∀ x, s.tmpTest = some x → x.byPf = true → x.inj = false → pass = true → s.tmpNext = [] → s.tmpSeries = none → ∃ t, exec (.tmpChannelTestDone pass) s = .next t ∧ t.rdB Reg.TMP_TEST 0 = false ∧
        t.rdF Reg.TMP_TEST 2 1 = 1 ∧ t = { s with regs := t.regs, tmpTest := none }) ∧
      (∀ x y rest, s.tmpTest = some x → x.byPf = false → x.inj = false → pass = true → s.tmpNext = y :: rest → exec (.tmpChannelTestDone pass) s =
        .next { s with tmpTest := some y, tmpNext := rest, tmpSeries := some (2 * x.source + x.ch + 1) }) ∧
      (∀ x, s.tmpTest = some x → x.byPf = true → x.inj = false → s.tmpNext = [] → s.tmpSeries = none → x.ch < 2 → x.source < 64 → pass = false → bitAt (s.tmpReg x.source) (21 - x.ch) = false →
        ∃ t, exec (.tmpChannelTestDone pass) s = .next t ∧ t.rdF Reg.TMP_TEST 2 1 = 2 ∧ t.tmpTest = none ∧ bitAt (t.tmpReg x.source) (20 + x.ch) = true ∧
          t.sticky 286 = true ∧ t.ks = s.ks ∧ t.boot = s.boot)) ∧
    (∀ fails,
      let alone := s.pwr.vin = false ∧ s.peat.vbat = true
      (s.pwr.vin = false → s.peat.vbat = false → exec (.peatScan fails) s = .next s) ∧
      (s.pwr.vin = true → exec (.peatScan fails) s = .next { s with peat := { s.peat with xtal := (mget fails 38).isNone } }) ∧
      (∀ i c, alone → i ≤ 12 → fails = [(i, c)] → mget s.peat.fails i = none → ∃ t, exec (.peatScan fails) s = .next t ∧
        t = { s with peat := { s.peat with xtal := true, fails := t.peat.fails } } ∧ mget t.peat.fails i = some 1) ∧
      (∀ i c, alone → i ≤ 12 → fails = [(i, c)] → mget s.peat.fails i = some 1 → s.peat.counters.length = 8 → ∃ (t : State) (e : List Byte),
        exec (.peatScan fails) s = .next t ∧ t.peat.sls = none ∧ t.peat.log.getLast? = some e ∧ leAt e 7 1 = 1 ∧ leAt e 8 1 = i ∧ leAt e 9 1 = 0x89 ∧
        t.peat.counters.getD 1 0 = Nat.min (s.peat.counters.getD 1 0 + 1) (2 ^ 32 - 1) ∧ t = { s with peat := t.peat }) ∧
      (∀ i c, alone → i = 38 ∨ i = 40 → fails = [(i, c)] → mget s.peat.fails i = none → ∃ (t : State) (e : List Byte), exec (.peatScan fails) s = .next t ∧
        t.peat.sls = s.peat.sls ∧ t.peat.log.getLast? = some e ∧ leAt e 8 1 = i ∧ leAt e 9 1 = 0x81 ∧ t = { s with peat := t.peat })) ∧
    (∀ gone, ((s.pwr.vin = true ∨ s.peat.vbat = false) → exec (.vbatBackupAlarm gone) s = .next s) ∧
      (s.pwr.vin = false → s.peat.vbat = true → ∃ t, exec (.vbatBackupAlarm gone) s = .next t ∧ t.peat.sls = none ∧ t = { s with peat := t.peat } ∧
        (gone = false → ∃ e, t.peat.log.getLast? = some e ∧ leAt e 7 1 = 1 ∧ leAt e 8 1 = 13) ∧
        (gone = true → t.peat.log = [] ∧ t.peat.cold = true ∧ t.peat.counters = List.replicate 8 0 ∧ t.peat.flashCnt = s.peat.flashCnt))) ∧
    (∀ (v : Word), ((fld v 31 16 ≠ 0x7144 ∨ fld v 2 0 < 4) → exec (.peatCntInc v) s = .next s) ∧
      (fld v 31 16 = 0x7144 → 4 ≤ fld v 2 0 → s.peat.counters.length = 8 → ∃ t, exec (.peatCntInc v) s = .next t ∧
        (∀ n, t.peat.counters.getD n 0 = if n = fld v 2 0 then Nat.min (s.peat.counters.getD n 0 + 1) (2 ^ 32 - 1) else s.peat.counters.getD n 0) ∧
        t = { s with peat := { s.peat with counters := t.peat.counters, flashCnt := t.peat.flashCnt } }))

/-- R345, whole: staging, commit with its log entry, and the write that DEPLOYED ignores. The device's other effects of a log entry (counter 0) are R343's. -/
def Obligations.ClockIsSetInTwoWrites : Prop :=
  ∀ (v w : Word) (s : State),
    let t := { s with peat := { s.peat with stagedHi := fld v 7 0 } }
    let secs := fld v 7 0 * 2 ^ 32 + w.toNat
    exec (.peatRtcHiWrite v) s = .next t ∧
    (s.lcc = Lc.DEPLOYED → secs + 60 < s.peat.secs → exec (.peatRtcLoWrite w) t = .next t) ∧
    (s.lcc ≠ Lc.DEPLOYED ∨ s.peat.secs ≤ secs + 60 → ∃ (u : State) (e : List Byte), exec (.peatRtcLoWrite w) t = .next u ∧ u.peat.secs = secs ∧
      u.peat.log.getLast? = some e ∧ leAt e 7 1 = 3 ∧ u = { s with peat := u.peat })

/-! Faults and test paths (spec files 15 and 18). -/

/-- R360 to R368, R412, R413, R416 to R418. Class 0 is C, 1 is D, 2 is F. -/
def Obligations.FaultsAndTestPaths : Prop :=
  ∀ (s : State),
    (∀ src cls arg i, i ∈ [Instr.fltEvent src cls arg, .fltRailBreak src cls] →
      ((fltClasses src).testBit cls = false → exec i s = .next s) ∧
      ((fltClasses src).testBit cls = true → ∃ t, exec i s = .next t ∧ t.sticky src = true ∧ (t.fltSrc src).classes.testBit cls = true ∧
        (cls = 1 → src < 230 → (t.unit src).retired = true ∧ (t.unit src).service = false))) ∧
    (∀ src arg, src < 230 → ∃ t, exec (.fltEvent src 0 arg) s = .next t ∧ 
      t = { s with flt := t.flt, regs := t.regs, tx := t.tx, link := { s.link with pba := t.link.pba } } ∧
      t.fltSrc src = { s.fltSrc src with
        count := Nat.min ((s.fltSrc src).count + 1) 65535
        classes := (if s.sticky src then (s.fltSrc src).classes else 0) ||| 1
        ts := s.now } ∧
      t.rdF Reg.FLT_CNT0 15 0 = Nat.min (s.rdF Reg.FLT_CNT0 15 0 + 1) 65535 ∧ t.rdF Reg.FLT_CNT0 31 16 = s.rdF Reg.FLT_CNT0 31 16 ∧
      (s.rdB Reg.FLT_FIRST 31 = true → t.rd 0 Reg.FLT_FIRST = s.rd 0 Reg.FLT_FIRST) ∧
      (s.rdB Reg.FLT_FIRST 31 = false → t.rdB Reg.FLT_FIRST 31 = true ∧ t.rdF Reg.FLT_FIRST 8 0 = src ∧ t.rdF Reg.FLT_FIRST 11 10 = 1 ∧
        t.rd 0 (Reg.FLT_FIRST_TS 0) = BitVec.ofNat 32 s.now ∧ t.rd 0 (Reg.FLT_FIRST_TS 1) = BitVec.ofNat 32 (s.now / 2 ^ 32)) ∧
      (∀ n, n ≠ src → t.sticky n = s.sticky n ∧ t.fltSrc n = s.fltSrc n) ∧
      (s.rdB Reg.FLT_CTRL 6 = false → t.tx = s.tx) ∧
      (s.pwr.vin = true → s.pwr.vioOk = true → bitAt (s.rd 0 Reg.FLT_PIN_MASK) 0 = true → t.pad .errN = .low)) ∧
    (∀ src cls, (fltClasses src).testBit cls = true → ∃ t, exec (.fltRailBreak src cls) s = .next t ∧ (t.fltSrc src).rail = true) ∧
    (∀ arg, s.rdB Reg.FLT_CTRL 7 = true → s.boot.stage ∉ [Stage.inReset, .heldOff, .off] →
      ∃ t, exec (.fltEvent 259 2 arg) s = .next t ∧ t.boot.stage = .inReset ∧ t.rdB Reg.RST_CAUSE 6 = true ∧ t.ks.objs = []) ∧
    (∀ arg o, s.rdB Reg.FLT_CTRL 7 = false → arg < 2 ^ 32 → mget s.ks.objs arg = some o →
      ∃ t, exec (.fltEvent 259 2 arg) s = .next t ∧ 
        mget t.ks.objs arg = (mget s.ks.flash arg).map FlashKey.boot ∧ t.ks.flash = s.ks.flash ∧ t.boot = s.boot) ∧
    (∀ arg, ∃ t, exec (.fltEvent 259 1 arg) s = .next t ∧ arg ∈ t.pwr.banksLost ∧ t.boot = s.boot) ∧
    (∀ region chan i, i ∈ [Instr.flueTransferError region chan, .flueHandshakeTimeout region chan] →
      let k := region * 65536 + chan
      let l := (((mget s.pwr.flue k).getD []).filter (fun x => decide (s.now - x ≤ 10 ^ 5))) ++ [s.now]
      ((24 ≤ region ∨ region ∈ s.pwr.islands) → exec i s = .next s) ∧
      (region < 24 → region ∉ s.pwr.islands → chan < 65536 → ∃ t, exec i s = .next t ∧ t.sticky (290 + region) = true ∧ (t.fltSrc (290 + region)).classes.testBit 0 = true ∧
        (l.length < 3 → mget t.pwr.flue k = some l) ∧ (3 ≤ l.length → region ∈ t.pwr.islands ∧ mget t.pwr.flue k = none ∧ (t.fltSrc (290 + region)).classes.testBit 1 = true) ∧
        t = { s with flt := t.flt, regs := t.regs, tx := t.tx, link := { s.link with pba := t.link.pba }, pwr := { s.pwr with flue := t.pwr.flue, islands := t.pwr.islands } })) ∧
    (∀ u pass,
      let gone := fun (t : State) => (t.unit u).retired = true ∧ (t.unit u).service = false ∧ t.sticky u = true
      let recent := ((s.unit u).outvotes.filter (fun x => decide (s.now - x ≤ s.rdF Reg.FLT_RETIRE 31 16 * (6 * 10 ^ 9)))).length
      (u = 247 → 3 ≤ s.nrg.lanes → exec (.unitSelftestDone u pass) s = .next s) ∧
      (u = 247 → s.nrg.lanes < 3 → ∃ t, exec (.unitSelftestDone u pass) s = .next t ∧ t.nrg.lanes = (if pass then 3 else s.nrg.lanes) ∧ t.regs = s.regs) ∧
      (u < 230 → s.test.unit = some u → ∃ t, exec (.unitSelftestDone u pass) s = .next t ∧ t.test.unit = none ∧ t.rdB Reg.SRD_UNIT_TEST 0 = false ∧
        t.rdF Reg.SRD_UNIT_TEST 7 6 = (if pass then 1 else 2) ∧ (pass = true → t.flt = s.flt ∧ t.unit u = { s.unit u with tested := false }) ∧ (pass = false → gone t)) ∧
      (u ≠ 247 → s.test.unit ≠ some u → (s.unit u).selftest = false → exec (.unitSelftestDone u pass) s = .next s) ∧
      (u < 230 → s.test.unit ≠ some u → (s.unit u).selftest = true →
        (pass = false ∨ s.rdF Reg.FLT_RETIRE 3 0 ≤ recent → ∃ t, exec (.unitSelftestDone u pass) s = .next t ∧ gone t) ∧
        (pass = true → recent < s.rdF Reg.FLT_RETIRE 3 0 → ∃ t, exec (.unitSelftestDone u pass) s = .next t ∧
          t.unit u = { s.unit u with service := true, selftest := false } ∧ t.sticky u = true))) ∧
    (∀ (v : Word) jtag,
      let i := fld v 23 16
      let d := fld v 11 10
      let open_ := (i = 0 ∧ (d = 1 ∨ d = 2) ∧ jtag = true ∧ s.openState = true ∧ s.link.up = false) ∨
        (1 ≤ i ∧ i ≤ 16 ∧ ((d = 3 ∧ s.portState (i - 1) = Ps.UP) ∨ ((d = 1 ∨ d = 2) ∧ s.portState (i - 1) = Ps.DISABLED))) ∨
        (17 ≤ i ∧ i ≤ 18 ∧ d = 2 ∧ s.scState (i - 17) = Sc.EMPTY) ∨ (i = 19 ∧ d = 2 ∧ s.mcState = Mc.EMPTY) ∨
        (i = 20 ∧ d = 2 ∧ ∃ n < 32, s.gpioFn n = 0) ∨ (i = 21 ∧ d = 2 ∧ ∃ n < 16, bitAt (s.tmpReg (16 + n)) 31 = false) ∨
        (i = 22 ∧ d = 2 ∧ ¬ (bitAt (BitVec.ofNat 32 (leAt s.boot.lowSpeed 128 1)) 7 = true ∧ bitAt (BitVec.ofNat 32 (leAt s.boot.lowSpeed 129 1)) 7 = true ∧
          leAt s.boot.lowSpeed 132 4 ≠ 0 ∧ s.scope 1 = true))
      ∃ t, exec (.srdLbGo v jtag) s = .next t ∧ t = { s with regs := t.regs, test := { s.test with loop := t.test.loop } } ∧
        t.rdF Reg.SRD_LB_CTRL 23 16 = i ∧ t.rdF Reg.SRD_LB_CTRL 11 10 = d ∧
        (s.test.loop ≠ none → t.test.loop = s.test.loop ∧ t.rd 0 Reg.SRD_LB_STAT = s.rd 0 Reg.SRD_LB_STAT) ∧
        (s.test.loop = none → open_ → t.test.loop = some (i, d) ∧ t.rdF Reg.SRD_LB_STAT 31 29 = 1) ∧
        (s.test.loop = none → ¬ open_ → t.test.loop = none ∧ t.rdF Reg.SRD_LB_STAT 31 29 = 3 ∧ t.rdF Reg.SRD_LB_STAT 28 26 ≠ 0)) ∧
    (∀ (v : Word) errs bits, ∃ t, exec (.srdLbStop v errs bits) s = .next t ∧ t = { s with regs := t.regs, test := { s.test with loop := none } } ∧
      (s.test.loop = none → t.rd 0 Reg.SRD_LB_STAT = s.rd 0 Reg.SRD_LB_STAT ∧ t.rd 0 Reg.SRD_LB_BITS = s.rd 0 Reg.SRD_LB_BITS) ∧
      (s.test.loop ≠ none → t.rdF Reg.SRD_LB_STAT 31 26 = 16 ∧ t.rdF Reg.SRD_LB_STAT 23 0 = Nat.min (s.rdF Reg.SRD_LB_STAT 23 0 + errs) (2 ^ 24 - 1) ∧
        t.rdF Reg.SRD_LB_BITS 31 0 = Nat.min (s.rdF Reg.SRD_LB_BITS 31 0 + bits) (2 ^ 32 - 1))) ∧
    (∀ (v : Word),
      let tu := testUnit (fld v 27 24) (fld v 14 8)
      let fit := fun (u : Nat) => (s.unit u).retired = false ∧ 3 ≤ ((classOf u).filter (fun x => x != u && (s.unit x).service)).length
      let busy := s.rdB Reg.SRD_UNIT_TEST 0
      (busy = true → exec (.srdUnitTestGo v) s = .next s) ∧
      (busy = false → (∀ u, tu = some u → ¬ fit u) → ∃ t, exec (.srdUnitTestGo v) s = .next t ∧ t = { s with regs := t.regs } ∧ t.rdF Reg.SRD_UNIT_TEST 7 6 = 3) ∧
      (∀ u, busy = false → tu = some u → fit u → ∃ t, exec (.srdUnitTestGo v) s = .next t ∧ t.rdB Reg.SRD_UNIT_TEST 0 = true ∧ t.rdF Reg.SRD_UNIT_TEST 7 6 = 0 ∧
        t.test = { s.test with unit := some u } ∧ t.unit u = { s.unit u with tested := true } ∧ t.cmds = s.cmds)) ∧
    (∀ (v : Word),
      let c := fld v 27 26
      let n := fld v 17 9
      let allowed := s.scope 3 || s.openState
      let lab := s.lcc ∈ [Lc.TEST, Lc.TEST_OPEN, Lc.ANALYSIS]
      let unit := n < 96 ∨ (108 ≤ n ∧ n < 230)
      let no := fun (i : Instr) (k : Nat) => ∃ t, exec i s = .next t ∧ t = { s with regs := t.regs } ∧ t.rdF Reg.SRD_INJ_STAT 31 30 = 2 ∧ t.rdF Reg.SRD_INJ_STAT 29 27 = k
      (c = 0 → no (.injectFltEvent v) 4) ∧
      (allowed = false → (c ≠ 0 → no (.injectFltEvent v) 1) ∧ no (.injectRunCorruption v) 1 ∧ no (.injectTamperChannel v) 1 ∧ no (.injectTamperAlarm v) 1) ∧
      (allowed = true → c ≠ 0 → fltClasses n = 0 → no (.injectFltEvent v) 3) ∧
      (allowed = true → fltClasses n ≠ 0 → c = 3 → ¬ lab → no (.injectFltEvent v) 2) ∧
      (allowed = true → ¬ unit → no (.injectRunCorruption v) 3) ∧
      (allowed = true → n ∉ tmpSources → no (.injectTamperChannel v) 3 ∧ no (.injectTamperAlarm v) 3) ∧
      (allowed = true → n ∈ tmpSources → bitAt (s.tmpReg n) 3 = true → ¬ lab → no (.injectTamperAlarm v) 2) ∧
      (allowed = true → fltClasses n ≠ 0 → c = 1 ∨ c = 2 → ∃ t, exec (.injectFltEvent v) s = .next t ∧ t.sticky n = true ∧ (t.fltSrc n).classes.testBit (c - 1) = true ∧
        (c = 2 → n < 230 → (t.unit n).retired = true)) ∧
      (allowed = true → unit → ∃ t, exec (.injectRunCorruption v) s = .next t ∧ t.test = { s.test with pending := some n } ∧ (t.unit n).corrupt ≠ none ∧
        (t.unit n).service = (s.unit n).service ∧ t.cmds = s.cmds) ∧
      (allowed = true → n ∈ tmpSources → ∃ u : State, u = { s with regs := u.regs } ∧ u.rdF Reg.SRD_INJ_STAT 31 30 = 1 ∧
        exec (.injectTamperChannel v) s = .next (match s.tmpTest with
          | some x => if x.byPf ∨ x.inj then { u with tmpNext := s.tmpNext ++ [⟨n, fld v 25 25, false, true⟩] } else { u with tmpTest := some ⟨n, fld v 25 25, false, true⟩ }
          | none => { u with tmpTest := some ⟨n, fld v 25 25, false, true⟩ })) ∧
      (allowed = true → n ∈ tmpSources → (bitAt (s.tmpReg n) 3 = false ∨ lab) → ∃ u : State, u = { s with regs := u.regs } ∧ u.rdF Reg.SRD_INJ_STAT 31 30 = 1 ∧
        exec (.injectTamperAlarm v) s = .next (u.tmpEvent n 3)))

/-! Registers and views (spec files 00, 06, 12, 14 and 18). -/

/-- R10 to R14, R55, R61, R194, R312, R326, R356, R358, R412. -/
def Obligations.RegistersAndViews : Prop :=
  ∀ (s : State),
    let on := fun (fn : Nat) => fn = 0 ∨ (s.link.vfEnable = true ∧ fn ≤ s.link.numVfs ∧ fn < 2048)
    let window := fun (fn off : Nat) => fn = 0 ∧ (inOpm off = true ∨ inView off = true)
    (∀ fn bar off be,
      let found := if bar = 2 then s.msixRead fn off else s.look fn off
      (¬ (on fn ∧ off % 4 = 0) → exec (.rcRead fn bar off be) s = .next s) ∧
      (on fn → off % 4 = 0 → bar = 2 ∨ (bar = 0 ∧ ¬ window fn off) → ∃ (t : State) (w : Word), exec (.rcRead fn bar off be) s = .next t ∧
        t.tx = s.tx ++ [.readData fn off w] ∧ t = { s with tx := t.tx, regs := t.regs, pwr := { s.pwr with tempFrom := t.pwr.tempFrom } } ∧
        (∀ k, k < 4 → fld w (8 * k + 7) (8 * k) = if be.testBit k then fld found (8 * k + 7) (8 * k) else 0) ∧
        (be ≠ 15 ∨ fn ≠ 0 ∨ bar = 2 → t = { s with tx := t.tx }) ∧
        (off = Reg.GLB_TEMP → be = 15 → fn = 0 → bar = 0 → t.pwr.tempFrom = s.now / 100000) ∧ (off ≠ Reg.GLB_TEMP → t.pwr = s.pwr) ∧
        (∀ x, be = 15 → bar = 0 → fn = 0 → regSpec 0 off = some x → t.rd 0 off = s.rd 0 off &&& ~~~ x.mask (fun a => a == .rc)))) ∧
    (∀ fn bar off (v : Word) be,
      (¬ (on fn ∧ off % 4 = 0 ∧ be = 15) → exec (.registerWrite fn bar off v be) s = .next s) ∧
      (bar = 0 → regSpec fn off = none → ¬ window fn off → exec (.registerWrite fn bar off v be) s = .next s) ∧
      (bar ≠ 0 → bar ≠ 2 → exec (.registerWrite fn bar off v be) s = .next s) ∧
      (on fn → be = 15 → bar = 2 → msixAt fn off = true → ∃ t, exec (.registerWrite fn bar off v be) s = .next t ∧ t.msixRead fn off = v ∧
        t = { s with link := { s.link with msix := t.link.msix, pba := t.link.pba }, tx := t.tx } ∧
        (let k := fn * 65536 + off / 16
         let sends := off % 16 = 12 ∧ bitAt v 0 = false ∧ k ∈ s.link.pba ∧ s.fenced fn = false
         (¬ sends → t.tx = s.tx ∧ t.link.pba = s.link.pba) ∧
         (sends → t.tx = s.tx ++ [.msix fn (off / 16)] ∧ t.link.pba = s.link.pba.filter (fun x => x != k)))) ∧
      (∀ off x, regSpec 0 off = some x → x.base = Reg.MBX_REQ 0 0 → off % 4 = 0 → ¬ window 0 off →
        exec (.registerWrite 0 0 off v 15) s = .next (if s.mstat 0 (x.index off).1 1 then s else s.wr 0 off v))) ∧
    (∀ off (v : Word) x, regSpec 0 off = some x → off % 4 = 0 → ¬ window 0 off → mget pfWrites x.base = none →
      x.base ∉ [Reg.FLT_STICKY 0, Reg.FLT_FIRST, Reg.TMP_FIRST, Reg.TMP_STICKY 0, Reg.CMD_QPERR 0] →
      ∃ t, exec (.registerWrite 0 0 off v 15) s = .next t ∧ t = { s with regs := t.regs } ∧
        (∀ n, n < 32 → bitAt (t.rd 0 off) n =
          if bitAt (x.mask (fun a => a == .w1c)) n && bitAt v n then false
          else if bitAt (x.mask (fun a => a == .rw || a == .rws || (a == .rwl && !s.tmpLocked))) n then bitAt v n
          else bitAt (s.rd 0 off) n) ∧
        ∀ o, o ≠ off → o < 2 ^ 28 → t.rd 0 o = s.rd 0 o) ∧
    (∀ (v : Word) n, n < 32 → s.portsOn = true → s.gpioFn n = 3 → ∃ t, exec (.registerWrite 0 0 Reg.GLB_GPIO_OUT v 15) s = .next t ∧
      t.pad (.gpio n) = if bitAt v n != s.gpioFlag n 1 then .high else .low) ∧
    (∀ (v : Word) p, p ∈ [(Reg.RST_CTRL, Instr.rstCtrlFull v), (Reg.TMP_TEST, .tmpTestGo v), (Reg.PEAT_RTC_LO, .peatRtcLoWrite v), (Reg.PEAT_RTC_HI, .peatRtcHiWrite v),
        (Reg.PEAT_CNT_INC, .peatCntInc v), (Reg.LCS_DBG_END, .lcsDbgEnd v)] → exec (.registerWrite 0 0 p.1 v 15) s = exec p.2 s) ∧
    (∀ cl off (v : Word),
      let u := 8 * cl + s.rdF (Reg.CL_DIAG cl) 2 0
      let takes := cl < 12 ∧ 0x40000 ≤ off ∧ off < 0x70000 ∧ off % 4 = 0 ∧ (s.lcc = Lc.TEST ∨ s.lcc = Lc.TEST_OPEN) ∧ (s.unit u).idle = true ∧ mget s.pvcs u = none
      (¬ takes → exec (.pvcDiagViewWrite cl off v) s = .next s) ∧
      (takes → ∃ t, exec (.pvcDiagViewWrite cl off v) s = .next t ∧ t.viewRead cl off = v ∧ t = { s with test := { s.test with views := t.test.views } }) ∧
      (s.lcc ∉ [Lc.TEST, Lc.TEST_OPEN, Lc.ANALYSIS] → s.scope 2 = false → s.viewRead cl off = 0) ∧
      (∀ p, mget s.pvcs u = some p → p.kern.secret.has (off - 0x30000) 4 = true → s.viewRead cl off = 0)) ∧
    (∀ enter, exec (.pcieRemoteLoopback enter) s = .next { s with link := { s.link with follower := enter, up := s.link.up && !enter } }) ∧
    (∀ bus code,
      let target := bus < 2 ∧ code = 0 ∧ (leAt s.boot.lowSpeed (128 + bus) 1).testBit 7 = true ∧ s.portsOn = true
      (¬ target → exec (.smbusRead bus code) s = .next s) ∧
      (target → ∃ l, exec (.smbusRead bus code) s = .next { s with tx := s.tx ++ [.smbus (BitVec.ofNat 8 12 :: l)] } ∧ l.length = 12 ∧
        leAt l 0 4 = (s.look 0 Reg.GLB_ID).toNat ∧ leAt l 4 4 = (s.look 0 Reg.GLB_VERSION).toNat ∧ leAt l 8 4 = (s.look 0 Reg.GLB_STAT_LS).toNat)) ∧
    (∀ ins data n,
      let out := fun (l : List Byte) => { s with tx := s.tx ++ [.jtag l] }
      let late := natLE data.length (2 * leNat data)
      let scan := s.openState = true ∨ s.lcc = Lc.TEST ∨ s.scope 0 = true
      exec (.jtagTapAccess true ins data) s = .next s ∧ (s.lowPorts = false → exec (.jtagTapAccess false ins data) s = .next s) ∧
      (s.lowPorts = true →
      exec (.jtagTapAccess false .idcode data) s = .next (out (natLE 4 (s.look 0 Reg.GLB_ID).toNat)) ∧
      exec (.jtagTapAccess false .bypass data) s = .next (out late) ∧
      (ins = .extest ∨ ins = .sample ∨ ins = .preload → (¬ scan → exec (.jtagTapAccess false ins data) s = .next (out late)) ∧
        (scan → ∃ l, exec (.jtagTapAccess false ins data) s = .next { out l with free := s.free + data.length } ∧ l.length = data.length)) ∧
      (s.openState = false → s.scope n = false → exec (.jtagTapAccess false (.priv n) data) s = .next (out late)) ∧
      (s.openState = true ∨ s.scope n = true → exec (.jtagTapAccess false (.priv n) data) s = .refused .debugUnit))) ∧
    (∀ item,
      let programs := s.lcc ∈ [Lc.BLANK, Lc.TEST, Lc.TEST_OPEN, Lc.FACTORY] ∧ s.lowPorts = true
      (¬ programs → exec (.bootSpiAccess item) s = .next s) ∧
      (programs → ∃ t, exec (.bootSpiAccess item) s = .next t ∧
        t = { s with boot := { s.boot with banks := t.boot.banks, prefer := t.boot.prefer, cfgBanks := t.boot.cfgBanks } } ∧
        (∀ b m img, item = .firmware b m img → s.boot.banks.length = 2 → (t.bank (b % 2)).bytes = img ∧ (t.bank (b % 2)).state = fwMark m ∧
          t.bank (1 - b % 2) = s.bank (1 - b % 2) ∧ t.boot.prefer = s.boot.prefer) ∧
        (∀ b, item = .prefer b → t.boot.prefer = b % 2 ∧ t.boot.banks = s.boot.banks) ∧
        (∀ b img com, item = .config b img com → s.boot.cfgBanks.length = 2 → t.cfgBank (b % 2) = ⟨img, com⟩ ∧ t.cfgBank (1 - b % 2) = s.cfgBank (1 - b % 2))))

/-! Steps, reset and the life of the fuses. -/

/-- The block's step (the model's queue and its idle tick: log entries 1 and 3). -/
def Obligations.StepRunsTheFrontCommand : Prop :=
  (∀ (c : Instr) (l : List Instr) (s : State), step { s with pending := c :: l } = exec c { s with pending := l }) ∧
  (∀ (s : State), s.pending = [] →
    let full := s.peat.frac + 1 = 10 ^ 8
    let clock := if s.peatOn && s.peat.xtal then { s.peat with frac := if full then 0 else s.peat.frac + 1, secs := if full then (s.peat.secs + 1) % 2 ^ 40 else s.peat.secs } else s.peat
    let u := { s with now := s.now + 1, peat := clock }
    let cut := s.pwr.vin = true ∧ s.pwr.vioOk = false ∧ (s.now + 1) % s.loopPeriod = 0
    s.peat.frac < 10 ^ 8 →
      (¬ cut → step s = .next u) ∧
      (cut → step s = .next (u.tmpEvents ((List.range 16).map (fun n => (16 + n, u.tmpChans (16 + n) 3))))))

/-- R15, R291 and the reset columns of the register tables; nothing here rests on a value that the model chose but the empty queue. -/
def Obligations.PowerOnReset : Prop :=
  let s := State.reset
  s.pending = [] ∧ s.cmds = [] ∧ s.qps = [] ∧ s.ks.objs = [] ∧ s.ks.ctxs = [] ∧ s.dg.ctxs = [] ∧ s.pvcs = [] ∧ s.mbx = [] ∧ s.outcomes = [] ∧
  s.boot.stage = .inReset ∧ s.pwr.vin = true ∧ s.pwr.drive = some 0 ∧ s.pwr.permitOut = false ∧ s.pwr.waking = true ∧ s.pwr.powered = [] ∧ s.pwr.queues = wakeQueues ∧
  s.rd 0 Reg.RST_CAUSE = 1 ∧ s.rd 0 Reg.RST_LAST = 0 ∧ s.sealState = Seal.UNSEALING ∧ s.permit = Pm.WAITING ∧ s.rdF Reg.NRG_STAT 1 0 = 3 ∧
  s.openClasses = 0 ∧ (∀ n, s.fltSrc n = FltSrc.none) ∧ s.rdB Reg.TMP_STAT 0 = false ∧
  (s.fn 0).qps = 16 ∧ (s.fn 0).vecs = 64 ∧ (s.fn 0).cap = 4096 ∧ (s.fn 1).qps = 1 ∧ (s.fn 1).vecs = 2 ∧ (s.fn 1).weight = 16 ∧ (s.fn 1).cap = 64 ∧
  (∀ i ∈ tmpSources, s.tmpReg i = tmpDefault i) ∧ s.look 0 Reg.GLB_CAPS = 0 ∧ s.rdF Reg.GLB_ID 31 16 = 0x7144 ∧ s.rdF Reg.GLB_ID 7 0 = 0xC1 ∧
  (∀ e ∈ s.peat.log, leAt e 7 1 = 2 ∧ leAt e 8 1 = 0) ∧ s.peat.log.length = 1

/-- The invariant of FusesAreNeverRestored holds at reset. -/
def Obligations.FuseFormAtReset : Prop := FuseForm State.reset

/-- R195 to R197 and R216: the formats drop no bit and no two instructions share a word. -/
def Obligations.InstructionWordsDecode : Prop :=
  (∀ (i : Instr) (w : Word), encodePvc i = some w → ∃ c, decodePvc c w = some i) ∧
  (∀ (c : Nat) (w : Word) (i : Instr), decodePvc c w = some i → encodePvc i = some w) ∧
  encodePvc .helloTimer = none ∧ encodePvc .pf0Flr = none

/-- R347, R348, R351 and the anti-rollback value of R123, over every command. -/
def Obligations.FusesAreNeverRestored : Prop :=
  ∀ (s : State), FuseForm s →
    (∃ t, step s = .next t ∧ FuseForm t ∧ FusesStay s t ∧ topSlot s.lc.slots ≤ topSlot t.lc.slots ∧ t.pending = s.pending.tail) ∨
    (step s = .refused .debugUnit ∧ ∃ n data l, s.pending = .jtagTapAccess false (.priv n) data :: l)
end

