-- ==== Sys2Proof/Laws/Memory.lean ====
section
/-!
SUPPORT. Sparse maps and byte memories: reads after writes, and the canonical form that every operation keeps.
-/
namespace Sys2Proof.Machine
open Sys2Proof

/-! Keys strictly rising, as a proposition. -/

theorem keysRise_cons {α : Type} (a : Nat) (v : α) (t : List (Nat × α)) :
    keysRise ((a, v) :: t) = true ↔ (∀ x ∈ t, a < x.1) ∧ keysRise t = true := by
  induction t generalizing a v with
  | nil => simp [keysRise]
  | cons x t ih =>
    obtain ⟨b, w⟩ := x
    rw [keysRise, Bool.and_eq_true, decide_eq_true_eq, ih b w]
    constructor
    · rintro ⟨h1, h2, h3⟩
      refine ⟨?_, h2, h3⟩
      intro x hx
      rcases List.mem_cons.mp hx with rfl | hx
      · exact h1
      · exact Nat.lt_trans h1 (h2 x hx)
    · rintro ⟨h1, h2, h3⟩
      exact ⟨h1 (b, w) (by simp), h2, h3⟩

theorem mget_none {α : Type} {m : List (Nat × α)} {k : Nat} (h : ∀ x ∈ m, x.1 ≠ k) : mget m k = none := by
  induction m with
  | nil => rfl
  | cons x t ih =>
    obtain ⟨a, b⟩ := x
    have ha : a ≠ k := h (a, b) (by simp)
    rw [mget, if_neg ha]
    exact ih (fun x hx => h x (by simp [hx]))

/-! mput. -/

theorem mget_mput_same {α : Type} (m : List (Nat × α)) (k : Nat) (v : α) : mget (mput m k v) k = some v := by
  induction m with
  | nil => simp [mput, mget]
  | cons x t ih =>
    obtain ⟨a, b⟩ := x
    unfold mput
    split
    · simp [mget]
    · split
      · simp [mget]
      · rename_i h1 h2
        rw [mget, if_neg (by omega), ih]

theorem mget_mput_other {α : Type} (m : List (Nat × α)) (k j : Nat) (v : α) (h : j ≠ k) : mget (mput m k v) j = mget m j := by
  induction m with
  | nil => simp [mput, mget, Ne.symm h]
  | cons x t ih =>
    obtain ⟨a, b⟩ := x
    unfold mput
    split
    · rw [mget, if_neg (Ne.symm h)]
    · split
      · rename_i h1 h2
        subst h2
        rw [mget, if_neg (Ne.symm h), mget, if_neg (Ne.symm h)]
      · by_cases hj : a = j
        · simp [mget, hj]
        · rw [mget, if_neg hj, mget, if_neg hj, ih]

theorem mput_mem {α : Type} {m : List (Nat × α)} {k : Nat} {v : α} {x : Nat × α} (h : x ∈ mput m k v) : x = (k, v) ∨ x ∈ m := by
  induction m with
  | nil => simpa [mput] using h
  | cons y t ih =>
    obtain ⟨a, b⟩ := y
    unfold mput at h
    split at h
    · simpa using h
    · split at h
      · rcases List.mem_cons.mp h with h | h
        · exact .inl h
        · exact .inr (by simp [h])
      · rcases List.mem_cons.mp h with h | h
        · exact .inr (by simp [h])
        · rcases ih h with h | h
          · exact .inl h
          · exact .inr (by simp [h])

theorem keysRise_mput {α : Type} {m : List (Nat × α)} (k : Nat) (v : α) (h : keysRise m = true) : keysRise (mput m k v) = true := by
  induction m with
  | nil => rfl
  | cons y t ih =>
    obtain ⟨a, b⟩ := y
    obtain ⟨h1, h2⟩ := (keysRise_cons a b t).mp h
    unfold mput
    split
    · rename_i hk
      rw [keysRise_cons]
      refine ⟨?_, h⟩
      intro x hx
      rcases List.mem_cons.mp hx with rfl | hx
      · exact hk
      · exact Nat.lt_trans hk (h1 x hx)
    · split
      · rename_i hk
        subst hk
        rw [keysRise_cons]
        exact ⟨h1, h2⟩
      · rename_i hk1 hk2
        rw [keysRise_cons]
        refine ⟨?_, ih h2⟩
        intro x hx
        rcases mput_mem hx with rfl | hx
        · simp; omega
        · exact h1 x hx

/-! mdel. -/

theorem mget_mdel_same {α : Type} (m : List (Nat × α)) (k : Nat) : mget (mdel m k) k = none := by
  refine mget_none ?_
  intro x hx
  have := (List.mem_filter.mp hx).2
  simpa using this

theorem mget_mdel_other {α : Type} (m : List (Nat × α)) (k j : Nat) (h : j ≠ k) : mget (mdel m k) j = mget m j := by
  induction m with
  | nil => rfl
  | cons x t ih =>
    obtain ⟨a, b⟩ := x
    unfold mdel at ih ⊢
    by_cases ha : a = k
    · subst ha
      rw [List.filter_cons_of_neg (by simp), ih, mget, if_neg (Ne.symm h)]
    · rw [List.filter_cons_of_pos (by simpa using ha), mget, mget, ih]

theorem keysRise_filter {α : Type} {m : List (Nat × α)} (f : Nat × α → Bool) (h : keysRise m = true) : keysRise (m.filter f) = true := by
  induction m with
  | nil => rfl
  | cons y t ih =>
    obtain ⟨a, b⟩ := y
    obtain ⟨h1, h2⟩ := (keysRise_cons a b t).mp h
    rw [List.filter_cons]
    split
    · rw [keysRise_cons]
      exact ⟨fun x hx => h1 x (List.mem_filter.mp hx).1, ih h2⟩
    · exact ih h2

theorem keysRise_mdel {α : Type} {m : List (Nat × α)} (k : Nat) (h : keysRise m = true) : keysRise (mdel m k) = true :=
  keysRise_filter _ h

/-! mmod. -/

theorem keysRise_mmod {α : Type} {m : List (Nat × α)} (k : Nat) (f : α → α) (h : keysRise m = true) : keysRise (mmod m k f) = true := by
  induction m with
  | nil => rfl
  | cons y t ih =>
    obtain ⟨a, b⟩ := y
    obtain ⟨h1, h2⟩ := (keysRise_cons a b t).mp h
    have hc : mmod ((a, b) :: t) k f = (a, if a = k then f b else b) :: mmod t k f := by
      simp only [mmod, List.map_cons]
      split <;> simp
    rw [hc, keysRise_cons]
    refine ⟨?_, ih h2⟩
    intro x hx
    obtain ⟨y, hy, rfl⟩ := List.mem_map.mp hx
    have := h1 y hy
    split <;> simpa using this

theorem mget_mmod_other {α : Type} (m : List (Nat × α)) (k j : Nat) (f : α → α) (h : j ≠ k) : mget (mmod m k f) j = mget m j := by
  induction m with
  | nil => rfl
  | cons x t ih =>
    obtain ⟨a, b⟩ := x
    simp only [mmod, List.map_cons] at ih ⊢
    by_cases ha : a = k
    · subst ha
      rw [if_pos rfl, mget, if_neg (Ne.symm h), mget, if_neg (Ne.symm h)]
      exact ih
    · rw [if_neg ha, mget, mget, ih]

/-! Bytes. -/

theorem readByte_writeByte_same (m : Memory) (a : Nat) (v : Byte) : readByte (writeByte m a v) a = v := by
  unfold readByte writeByte
  split
  · rename_i h
    rw [mget_mdel_same, h]; rfl
  · rw [mget_mput_same]; rfl

theorem readByte_writeByte_other (m : Memory) (a b : Nat) (v : Byte) (h : b ≠ a) : readByte (writeByte m a v) b = readByte m b := by
  unfold readByte writeByte
  split
  · rw [mget_mdel_other _ _ _ h]
  · rw [mget_mput_other _ _ _ _ h]

theorem writeByte_wf {m : Memory} (a : Nat) (v : Byte) (h : Memory.wf m) : Memory.wf (writeByte m a v) := by
  obtain ⟨h1, h2⟩ := h
  rw [List.all_eq_true] at h2
  unfold writeByte
  split
  · refine ⟨keysRise_mdel a h1, ?_⟩
    rw [List.all_eq_true]
    exact fun x hx => h2 x (List.mem_filter.mp hx).1
  · rename_i hv
    refine ⟨keysRise_mput a v h1, ?_⟩
    rw [List.all_eq_true]
    intro x hx
    rcases mput_mem hx with rfl | hx
    · simpa using hv
    · exact h2 x hx

/-- Every byte that a write of several bytes does not name reads as before. -/
theorem readByte_writeBytes_other (l : List Byte) (m : Memory) (a b : Nat) (h : b < a ∨ a + l.length ≤ b) :
    readByte (writeBytes m a l) b = readByte m b := by
  induction l generalizing m a with
  | nil => rfl
  | cons x t ih =>
    simp only [List.length_cons] at h
    rw [writeBytes, ih _ _ (by omega), readByte_writeByte_other _ _ _ _ (by omega)]

/-- The bytes written are read back. -/
theorem readByte_writeBytes_same (l : List Byte) (m : Memory) (a k : Nat) (h : k < l.length) :
    readByte (writeBytes m a l) (a + k) = l.getD k 0 := by
  induction l generalizing m a k with
  | nil => simp at h
  | cons x t ih =>
    rw [writeBytes]
    cases k with
    | zero =>
      rw [readByte_writeBytes_other _ _ _ _ (by omega)]
      simpa using readByte_writeByte_same m a x
    | succ k =>
      have hk : k < t.length := by simpa using h
      have := ih (writeByte m a x) (a + 1) k hk
      rw [show a + (k + 1) = a + 1 + k by omega, this]
      simp

theorem writeBytes_wf (l : List Byte) {m : Memory} (a : Nat) (h : Memory.wf m) : Memory.wf (writeBytes m a l) := by
  induction l generalizing m a with
  | nil => exact h
  | cons x t ih => exact ih _ (writeByte_wf a x h)

/-! Little-endian bytes. -/

@[simp] theorem natLE_length (n v : Nat) : (natLE n v).length = n := by
  induction n generalizing v with
  | zero => rfl
  | succ n ih => simp [natLE, ih]

theorem natLE_getD (n v k : Nat) (h : k < n) : (natLE n v).getD k 0 = BitVec.ofNat 8 (v / 256 ^ k) := by
  induction n generalizing v k with
  | zero => omega
  | succ n ih =>
    cases k with
    | zero => simp [natLE]
    | succ k =>
      have := ih (v / 256) k (by omega)
      simp only [natLE, List.getD_cons_succ, this, Nat.div_div_eq_div_mul, Nat.pow_succ]
      congr 2
      exact Nat.mul_comm _ _

end Sys2Proof.Machine
end

