-- ==== Sys2Proof/Laws/Bits.lean ====
section
/-!
SUPPORT. Laws of bit fields and of the stored registers: what a write of a field leaves in that field, in the others and in other registers.
-/
namespace Sys2Proof.Machine
open Sys2Proof

/-! Fields of a word. -/

theorem bitAt_fieldMask (hi lo i : Nat) (hi32 : hi < 32) (h : lo ≤ hi) : bitAt (fieldMask hi lo) i = (decide (lo ≤ i) && decide (i ≤ hi)) := by
  unfold bitAt fieldMask
  rw [BitVec.getLsbD_ofNat, Nat.testBit_mul_two_pow, Nat.testBit_two_pow_sub_one]
  by_cases a : lo ≤ i <;> by_cases b : i ≤ hi <;> simp [a, b] <;> omega

/-- A bit of a word with a field set. -/
theorem bitAt_setBits (w : Word) (hi lo v i : Nat) (hi32 : hi < 32) (h : lo ≤ hi) :
    bitAt (setBits w hi lo v) i = if lo ≤ i ∧ i ≤ hi then v.testBit (i - lo) else bitAt w i := by
  have m := bitAt_fieldMask hi lo i hi32 h
  unfold bitAt at m ⊢
  unfold setBits
  simp only [BitVec.getLsbD_or, BitVec.getLsbD_and, BitVec.getLsbD_not, m, BitVec.getLsbD_ofNat, Nat.testBit_mul_two_pow]
  by_cases a : lo ≤ i <;> by_cases b : i ≤ hi <;> simp [a, b]
  all_goals (try omega)
  all_goals (try (cases hw : w.getLsbD i <;> simp; exact BitVec.lt_of_getLsbD hw))

/-- A bit of a field. -/
theorem testBit_fld (w : Word) (hi lo k : Nat) : (fld w hi lo).testBit k = (decide (k < hi - lo + 1) && bitAt w (lo + k)) := by
  unfold fld bitAt
  rw [Nat.testBit_mod_two_pow, Nat.testBit_shiftRight]
  rfl

/-- A field set reads as its value. -/
theorem fld_setBits_same (w : Word) (hi lo v : Nat) (hi32 : hi < 32) (h : lo ≤ hi) (hv : v < 2 ^ (hi - lo + 1)) : fld (setBits w hi lo v) hi lo = v := by
  apply Nat.eq_of_testBit_eq
  intro k
  rw [testBit_fld, bitAt_setBits _ _ _ _ _ hi32 h]
  by_cases a : k < hi - lo + 1
  · rw [if_pos (by omega)]; simp [a]
  · have : v.testBit k = false := Nat.testBit_lt_two_pow (Nat.lt_of_lt_of_le hv (Nat.pow_le_pow_right (by omega) (by omega)))
    simp [a, this]

/-- A field set leaves the fields beside it. -/
theorem fld_setBits_other (w : Word) (hi lo v a b : Nat) (hi32 : hi < 32) (h : lo ≤ hi) (hab : b ≤ a) (d : a < lo ∨ hi < b) :
    fld (setBits w hi lo v) a b = fld w a b := by
  apply Nat.eq_of_testBit_eq
  intro k
  rw [testBit_fld, testBit_fld, bitAt_setBits _ _ _ _ _ hi32 h]
  by_cases c : k < a - b + 1
  · rw [if_neg (by omega)]
  · simp [c]

theorem bitAt_setBit (w : Word) (i j : Nat) (b : Bool) (hi : i < 32) : bitAt (setBit w i b) j = if j = i then b else bitAt w j := by
  unfold setBit
  rw [bitAt_setBits _ _ _ _ _ hi (Nat.le_refl i)]
  by_cases h : j = i
  · subst h; cases b <;> simp [b2n]
  · rw [if_neg (by omega), if_neg h]

/-! Stored registers. -/

@[simp] theorem rd_wr_same (s : State) (fn off : Nat) (v : Word) : (s.wr fn off v).rd fn off = v := by
  unfold State.wr State.rd
  by_cases h : v = regReset fn off <;> simp [h, mget_mdel_same, mget_mput_same]

/-- A write leaves every other register. -/
theorem rd_wr_other (s : State) (fn off gn o : Nat) (v : Word) (h : regKey gn o ≠ regKey fn off) : (s.wr fn off v).rd gn o = s.rd gn o := by
  unfold State.wr State.rd
  by_cases c : v = regReset fn off <;> simp only [c, if_true, if_false, mget_mdel_other _ _ _ h, mget_mput_other _ _ _ _ h]

/-- Of PF0's registers. -/
theorem rd_wr_pf (s : State) (off o : Nat) (v : Word) (h : o ≠ off) : (s.wr 0 off v).rd 0 o = s.rd 0 o :=
  rd_wr_other s 0 off 0 o v (by unfold regKey; omega)

theorem rdF_wrF_same (s : State) (off hi lo v : Nat) (hi32 : hi < 32) (h : lo ≤ hi) (hv : v < 2 ^ (hi - lo + 1)) :
    (s.wrF off hi lo v).rdF off hi lo = v := by
  unfold State.rdF State.wrF
  rw [rd_wr_same, fld_setBits_same _ _ _ _ hi32 h hv]

theorem rdF_wrF_beside (s : State) (off hi lo v a b : Nat) (hi32 : hi < 32) (h : lo ≤ hi) (hab : b ≤ a) (d : a < lo ∨ hi < b) :
    (s.wrF off hi lo v).rdF off a b = s.rdF off a b := by
  unfold State.rdF State.wrF
  rw [rd_wr_same, fld_setBits_other _ _ _ _ _ _ hi32 h hab d]

theorem rdF_wrF_other (s : State) (off o hi lo v a b : Nat) (h : o ≠ off) : (s.wrF off hi lo v).rdF o a b = s.rdF o a b := by
  unfold State.rdF State.wrF
  rw [rd_wr_pf _ _ _ _ h]

theorem rdB_wrB_same (s : State) (off i : Nat) (b : Bool) (hi : i < 32) : (s.wrB off i b).rdB off i = b := by
  unfold State.rdB State.wrB State.wrF
  rw [rd_wr_same]
  exact (bitAt_setBit _ i i b hi).trans (if_pos rfl)

theorem rdB_wrB_beside (s : State) (off i j : Nat) (b : Bool) (hi : i < 32) (h : j ≠ i) : (s.wrB off i b).rdB off j = s.rdB off j := by
  unfold State.rdB State.wrB State.wrF
  rw [rd_wr_same]
  exact (bitAt_setBit _ i j b hi).trans (if_neg h)

theorem rdB_wrF_other (s : State) (off o hi lo v i : Nat) (h : o ≠ off) : (s.wrF off hi lo v).rdB o i = s.rdB o i := by
  unfold State.rdB State.wrF
  rw [rd_wr_pf _ _ _ _ h]

theorem rdB_wrB_other (s : State) (off o i j : Nat) (b : Bool) (h : o ≠ off) : (s.wrB off i b).rdB o j = s.rdB o j := rdB_wrF_other _ _ _ _ _ _ _ h

theorem rdF_wrB_other (s : State) (off o i a c : Nat) (b : Bool) (h : o ≠ off) : (s.wrB off i b).rdF o a c = s.rdF o a c := rdF_wrF_other _ _ _ _ _ _ _ _ h

/-- A counting field saturates at its top. -/
theorem rdF_incF_same (s : State) (off hi lo k : Nat) (hi32 : hi < 32) (h : lo ≤ hi) :
    (s.incF off hi lo k).rdF off hi lo = Nat.min (s.rdF off hi lo + k) (2 ^ (hi - lo + 1) - 1) := by
  unfold State.incF
  rw [rdF_wrF_same _ _ _ _ _ hi32 h]
  · rfl
  · unfold satAdd
    exact Nat.lt_of_le_of_lt (Nat.min_le_right _ _) (by have := Nat.two_pow_pos (hi - lo + 1); omega)

end Sys2Proof.Machine
end

