-- ==== Sys2Proof/Laws/Pvc.lean ====
section
/-!
SUPPORT. What one instruction of a vector core does, said once for each operand form: the provers cite these and unfold no meaning.
-/
namespace Sys2Proof.Machine
open Sys2Proof

/-! The step of a core. -/

theorem pvcStep_issues {s : State} {c : Nat} {p : Pvc} (f : Pvc → PRes) (h : Issues s c p) :
    pvcStep c f s = .next (pvcPut c p (f p) s) := by
  obtain ⟨h1, h2, h3, h4⟩ := h
  have h5 : ¬ p.kern.codeLen ≤ p.pc.toNat := by omega
  simp [pvcStep, h1, h2, h4, h5]

theorem pvcStep_idle {s : State} {c : Nat} (f : Pvc → PRes) (h : mget s.pvcs c = none) : pvcStep c f s = .next s := by
  simp [pvcStep, h]

theorem pvcStep_stalled {s : State} {c : Nat} {p : Pvc} {x : Stall} (f : Pvc → PRes) (h : Stalls s c p x) :
    pvcStep c f s = .next s := by
  obtain ⟨h1, h2⟩ := h
  simp [pvcStep, h1, h2]

theorem pvcStep_beyond {s : State} {c : Nat} {p : Pvc} (f : Pvc → PRes) (h1 : mget s.pvcs c = some p) (h2 : p.stall = none)
    (h3 : p.kern.codeLen ≤ p.pc.toNat) : pvcStep c f s = .next (takeTrap c p tcAccess 0 p.pc 0 s) := by
  simp [pvcStep, h1, h2, h3]

theorem pvcStep_undefined {s : State} {c : Nat} {p : Pvc} (f : Pvc → PRes) (h1 : mget s.pvcs c = some p) (h2 : p.stall = none)
    (h3 : p.pc.toNat < p.kern.codeLen) (h4 : p.defined = false) : pvcStep c f s = .next (takeTrap c p tcIllegal 0 p.pc 0 s) := by
  have h5 : ¬ p.kern.codeLen ≤ p.pc.toNat := by omega
  simp [pvcStep, h1, h2, h4, h5]

/-! What the state becomes, by the outcome of the instruction. -/

/-- An instruction that completes, its run not stalling: the run is replaced, and the masks it drew are counted. -/
theorem pvcPut_ok {s : State} {c : Nat} {p q : Pvc} (hm : MasksFlow s c) (hq : q.stall = none) :
    pvcPut c p (.ok q) s = drawMasks (clusterOf c) (q.masks - p.masks) (s.setPvc c q) := by
  unfold MasksFlow at hm
  simp [pvcPut, hm, afterStall, hq]

/-- An instruction that completes and drew no masks, its run not stalling. -/
theorem pvcPut_plain {s : State} {c : Nat} {p q : Pvc} (hq : q.stall = none) (hk : q.masks = p.masks) :
    pvcPut c p (.ok q) s = s.setPvc c q := by
  simp [pvcPut, afterStall, hq, hk, drawMasks]

theorem pvcPut_trap {s : State} {c : Nat} {p : Pvc} (cause epr ta : Nat) (q : Pvc) :
    pvcPut c p (.trap cause epr ta q) s = takeTrap c q cause epr p.pc (BitVec.ofNat 32 ta) s := rfl

theorem pvcPut_fault {s : State} {c : Nat} {p : Pvc} (cause : Nat) (q : Pvc) :
    pvcPut c p (.fault cause q) s = takeTrap c q cause 0 p.pc 0 s := rfl

theorem pvcPut_jumpFault {s : State} {c : Nat} {p : Pvc} (t : Word) (q : Pvc) :
    pvcPut c p (.jumpFault t q) s = takeTrap c q tcAccess 0 t 0 s := rfl

theorem pvcPut_done {s : State} {c : Nat} {p : Pvc} (r : RunResult) (q : Pvc) : pvcPut c p (.done r q) s = endRun c q r s := rfl

theorem drawMasks_zero (cl : Nat) (s : State) : drawMasks cl 0 s = s := rfl

/-! Register writes leave the rest of a run. -/

@[simp] theorem setS_stall (p : Pvc) (d v t) : (p.setS d v t).stall = p.stall := by unfold Pvc.setS; split <;> rfl
@[simp] theorem setS_masks (p : Pvc) (d v t) : (p.setS d v t).masks = p.masks := by unfold Pvc.setS; split <;> rfl
@[simp] theorem setS_pc (p : Pvc) (d v t) : (p.setS d v t).pc = p.pc := by unfold Pvc.setS; split <;> rfl
@[simp] theorem setS_mem (p : Pvc) (d v t) : (p.setS d v t).mem = p.mem := by unfold Pvc.setS; split <;> rfl
@[simp] theorem setS_handler (p : Pvc) (d v t) : (p.setS d v t).handler = p.handler := by unfold Pvc.setS; split <;> rfl
@[simp] theorem setS_kern (p : Pvc) (d v t) : (p.setS d v t).kern = p.kern := by unfold Pvc.setS; split <;> rfl
@[simp] theorem setP_stall (p : Pvc) (d v t) : (p.setP d v t).stall = p.stall := by unfold Pvc.setP; split <;> rfl
@[simp] theorem setP_masks (p : Pvc) (d v t) : (p.setP d v t).masks = p.masks := by unfold Pvc.setP; split <;> rfl
@[simp] theorem setP_pc (p : Pvc) (d v t) : (p.setP d v t).pc = p.pc := by unfold Pvc.setP; split <;> rfl
@[simp] theorem setW_stall (p : Pvc) (d v t) : (p.setW d v t).stall = p.stall := rfl
@[simp] theorem setW_masks (p : Pvc) (d v t) : (p.setW d v t).masks = p.masks := rfl
@[simp] theorem setW_pc (p : Pvc) (d v t) : (p.setW d v t).pc = p.pc := rfl
@[simp] theorem setF_stall (p : Pvc) (d v t) : (p.setF d v t).stall = p.stall := rfl
@[simp] theorem setF_masks (p : Pvc) (d v t) : (p.setF d v t).masks = p.masks := rfl
@[simp] theorem raise_stall (p : Pvc) (f ts) : (p.raise f ts).stall = p.stall := by unfold Pvc.raise; split <;> rfl
@[simp] theorem raise_masks (p : Pvc) (f ts) : (p.raise f ts).masks = p.masks := by unfold Pvc.raise; split <;> rfl
@[simp] theorem next_stall (p : Pvc) : p.next.stall = p.stall := rfl
@[simp] theorem next_masks (p : Pvc) : p.next.masks = p.masks := rfl
@[simp] theorem next_pc (p : Pvc) : p.next.pc = p.pc + 4 := rfl
@[simp] theorem draw_stall (p : Pvc) (n) : (p.draw n).stall = p.stall := rfl
@[simp] theorem draw_masks (p : Pvc) (n) : (p.draw n).masks = p.masks + n := rfl
@[simp] theorem draw_pc (p : Pvc) (n) : (p.draw n).pc = p.pc := rfl
@[simp] theorem rel_stall (p : Pvc) (o) : (p.rel o).stall = p.stall := rfl
@[simp] theorem rel_masks (p : Pvc) (o) : (p.rel o).masks = p.masks := rfl
@[simp] theorem store_stall (p : Pvc) (a l t) : (p.store a l t).stall = p.stall := by unfold Pvc.store; split <;> rfl
@[simp] theorem store_masks (p : Pvc) (a l t) : (p.store a l t).masks = p.masks := by unfold Pvc.store; split <;> rfl
@[simp] theorem putReg_stall (p : Pvc) (r w b t g) : (p.putReg r w b t g).stall = p.stall := rfl
@[simp] theorem putReg_masks (p : Pvc) (r w b t g) : (p.putReg r w b t g).masks = p.masks := rfl

theorem foldl_keep {α β γ : Type} (π : α → γ) (f : α → β → α) (h : ∀ a b, π (f a b) = π a) (l : List β) (a : α) :
    π (l.foldl f a) = π a := by
  induction l generalizing a with
  | nil => rfl
  | cons x t ih => simp [ih, h]

@[simp] theorem putSpan_stall (p : Pvc) (b n w pr t g) : (p.putSpan b n w pr t g).stall = p.stall := by
  simp only [Pvc.putSpan]
  exact foldl_keep Pvc.stall (fun q r => q.putReg _ _ _ _ _) (fun _ _ => rfl) _ _
@[simp] theorem putSpan_masks (p : Pvc) (b n w pr t g) : (p.putSpan b n w pr t g).masks = p.masks := by
  simp only [Pvc.putSpan]
  exact foldl_keep Pvc.masks (fun q r => q.putReg _ _ _ _ _) (fun _ _ => rfl) _ _

/-! Operand forms. -/

theorem sOp_put {s : State} {c : Nat} {p : Pvc} {f need ty nl d a b} (h : Issues s c p) (hm : MasksFlow s c) :
    pvcPut c p (sOp f need ty nl d a b p) s = drawMasks (clusterOf c) (sMasks need nl [(p.getS a).t, (p.getS b).t])
      (s.setPvc c ((p.setS d (f (p.asType (p.getS a).t (need.getD ty) (p.getS a).v) (p.asType (p.getS b).t (need.getD ty) (p.getS b).v))
        (mergeTag [(p.getS a).t, (p.getS b).t] ty)).draw (sMasks need nl [(p.getS a).t, (p.getS b).t])).next) := by
  unfold sOp
  rw [pvcPut_ok hm (by simp [h.2.1])]
  simp

theorem sImm_put {s : State} {c : Nat} {p : Pvc} {f need ty nl d a} (h : Issues s c p) (hm : MasksFlow s c) :
    pvcPut c p (sImm f need ty nl d a p) s = drawMasks (clusterOf c) (sMasks need nl [(p.getS a).t])
      (s.setPvc c ((p.setS d (f (p.asType (p.getS a).t (need.getD ty) (p.getS a).v)) (mergeTag [(p.getS a).t] ty)).draw
        (sMasks need nl [(p.getS a).t])).next) := by
  unfold sImm
  rw [pvcPut_ok hm (by simp [h.2.1])]
  simp

/-- A branch on untagged operands. -/
theorem branch_put {s : State} {c : Nat} {p : Pvc} {f a b off} (h : Issues s c p) (ha : (p.getS a).t = none) (hb : (p.getS b).t = none) :
    pvcPut c p (branch f a b off p) s =
      s.setPvc c { p.next with pc := p.pc + if f (p.getS a).v (p.getS b).v then off.signExtend 32 * 4 else 4 } := by
  unfold branch
  simp only [ha, hb]
  split
  · rename_i hc
    simp at hc
  · split
    · rename_i hf
      rw [pvcPut_plain (by simp [h.2.1]) (by simp)]
      simp [Pvc.rel]
    · rename_i hf
      rw [pvcPut_plain (by simp [h.2.1]) (by simp)]
      simp [Pvc.next]

/-! Scalar loads and stores. -/

theorem sLoad_ok {p : Pvc} {n : Nat} {k : List Byte → Tag → Pvc → Pvc} {a imm l t} (ht : (p.getS a).t = none)
    (hal : p.addr a imm % n = 0) (hl : p.load (p.addr a imm) n = .bytes l t) : sLoad n k a imm p = .ok (k l t p).next := by
  simp only [sLoad, ht, hal, hl]; rfl

theorem sLoad_cause {p : Pvc} {n : Nat} {k : List Byte → Tag → Pvc → Pvc} {a imm x} (ht : (p.getS a).t = none)
    (hal : p.addr a imm % n = 0) (hl : p.load (p.addr a imm) n = .cause x) : sLoad n k a imm p = .trap x 0 (p.addr a imm) p := by
  simp only [sLoad, ht, hal, hl]; rfl

theorem sLoad_misaligned {p : Pvc} {n : Nat} {k : List Byte → Tag → Pvc → Pvc} {a imm} (ht : (p.getS a).t = none)
    (hal : p.addr a imm % n ≠ 0) : sLoad n k a imm p = .trap tcAccess 0 (p.addr a imm) p := by
  simp [sLoad, ht, hal]

theorem sLoad_tagged {p : Pvc} {n : Nat} {k : List Byte → Tag → Pvc → Pvc} {a imm} (ht : (p.getS a).t.isSome) :
    sLoad n k a imm p = .fault tcAddress p := by
  simp [sLoad, ht]

theorem sStore_ok {p : Pvc} {l t a imm} (ht : (p.getS a).t = none) (hal : p.addr a imm % l.length = 0)
    (hc : p.storeCause (p.addr a imm) l.length t.isSome = none) : sStore l t a imm p = .ok (p.store (p.addr a imm) l t).next := by
  simp only [sStore, ht, hal, hc]; rfl

theorem sStore_cause {p : Pvc} {l t a imm x} (ht : (p.getS a).t = none) (hal : p.addr a imm % l.length = 0)
    (hc : p.storeCause (p.addr a imm) l.length t.isSome = some x) :
    sStore l t a imm p = if x = tcStore then .fault x p else .trap x 0 (p.addr a imm) p := by
  simp only [sStore, ht, hal, hc]; rfl

theorem sStore_misaligned {p : Pvc} {l t a imm} (ht : (p.getS a).t = none) (hal : p.addr a imm % l.length ≠ 0) :
    sStore l t a imm p = .trap tcAccess 0 (p.addr a imm) p := by
  simp [sStore, ht, hal]

theorem sStore_tagged {p : Pvc} {l t a imm} (ht : (p.getS a).t.isSome) : sStore l t a imm p = .fault tcAddress p := by
  simp [sStore, ht]

/-- A vector operation whose spans are in order; one with further sources converts none of its operands. -/
theorem vecOp_put {s : State} {c : Nat} {p : Pvc} {f need out gad extra l e pr d srcs} (h : Issues s c p) (hm : MasksFlow s c)
    (hs : SpansFit p l e (d :: srcs)) (hx : extra = [] ∨ need = none) :
    pvcPut c p (vecOp f need out gad extra l e pr d srcs p) s =
      vectorNext c p l e pr d (srcs.map (fun b => p.spanTag b (p.regs l e)) ++ extra)
        (out.getD (firstType (srcs.map (fun b => p.spanTag b (p.regs l e)) ++ extra)))
        (vectorDraw p l e pr (srcs.map (fun b => p.spanTag b (p.regs l e)) ++ extra) need gad)
        (fun i => f (eWidth e) i (srcs.map (fun b => match need.orElse (fun _ => out) with
          | some sh => p.elemAs sh b (eWidth e) i
          | none => p.elem b (eWidth e) i))) s := by
  unfold SpansFit at hs
  have ht : ∀ (ts : List Tag) (ty : Share), (mergeTag ts ty).isSome = ts.any (·.isSome) := by
    intro ts ty
    unfold mergeTag
    cases ts.any (·.isSome) <;> rfl
  simp only [vecOp, hs]
  rw [if_neg (by decide), pvcPut_ok hm (by simp [h.2.1])]
  simp only [next_masks, draw_masks, putSpan_masks, Nat.add_sub_cancel_left, ht]
  rcases hx with rfl | rfl
  · simp only [List.append_nil]; rfl
  · rfl

/-- A vector operation whose LEN or spans R172 refuses. -/
theorem vecOp_span {p : Pvc} {f need out gad extra l e pr d srcs} (hs : ¬ SpansFit p l e (d :: srcs)) :
    vecOp f need out gad extra l e pr d srcs p = .fault tcSpan p := by
  unfold SpansFit at hs
  simp only [Bool.not_eq_false] at hs
  simp only [vecOp, hs]; rfl

end Sys2Proof.Machine
end

