-- ==== Sys2Proof/Laws/Fuses.lean ====
section
/-!
SUPPORT. Frames of the shared operations and of the meanings they make up: which of them leave the queue of waiting commands, the
life-cycle slots, the token markers, the root-kill and the minimum SVN as they are. A proof about these cites the frame and unfolds nothing.
-/
set_option linter.unusedSimpArgs false
set_option linter.unusedTactic false
set_option linter.unnecessarySeqFocus false
set_option linter.unreachableTactic false
namespace Sys2Proof.Machine
open Sys2Proof

/-! The waiting commands and the fuses. -/

/-- The waiting commands and the banks of fuses. -/
def State.fuses (s : State) : List Instr × List Nat × List Nat × Nat × Nat := (s.pending, s.lc.slots, s.lc.markers, s.lc.rootKill, s.lc.minSvn)
theorem fuses_foldl {β : Type} (f : State → β → State) (h : ∀ x a, (f x a).fuses = x.fuses) (l : List β) (s : State) : (l.foldl f s).fuses = s.fuses := by
  induction l generalizing s with
  | nil => rfl
  | cons a t ih => exact (ih _).trans (h _ _)
theorem fuses_foldl_fst {α β : Type} (f : State × α → β → State × α) (h : ∀ x a, (f x a).1.fuses = x.1.fuses) (l : List β) (x : State × α) :
    (l.foldl f x).1.fuses = x.1.fuses := by
  induction l generalizing x with
  | nil => rfl
  | cons a t ih => exact (ih _).trans (h _ _)
@[simp] theorem fuses_eta (s : State) : (s.pending, s.lc.slots, s.lc.markers, s.lc.rootKill, s.lc.minSvn) = s.fuses := rfl
@[simp] theorem fuses_ite {c : Prop} [Decidable c] (a b : State) : (if c then a else b).fuses = if c then a.fuses else b.fuses := apply_ite _ _ _ _
@[simp] theorem fuses_mk a0 a1 a2 a3 a4 a5 a6 a7 a8 a9 a10 a11 a12 a13 a14 a15 a16 a17 a18 a19 a20 a21 a22 a23 a24 a25 a26 a27 a28 a29 a30 a31 a32 a33 a34 a35 a36 a37 a38 : (State.mk a0 a1 a2 a3 a4 a5 a6 a7 a8 a9 a10 a11 a12 a13 a14 a15 a16 a17 a18 a19 a20 a21 a22 a23 a24 a25 a26 a27 a28 a29 a30 a31 a32 a33 a34 a35 a36 a37 a38).fuses = (a0, a34.slots, a34.markers, a34.rootKill, a34.minSvn) := rfl
theorem fuses_pending {a b : State} (h : a.fuses = b.fuses) : a.pending = b.pending := congrArg (fun y => y.1) h
theorem fuses_slots {a b : State} (h : a.fuses = b.fuses) : a.lc.slots = b.lc.slots := congrArg (fun y => y.2.1) h
theorem fuses_markers {a b : State} (h : a.fuses = b.fuses) : a.lc.markers = b.lc.markers := congrArg (fun y => y.2.2.1) h
theorem fuses_kill {a b : State} (h : a.fuses = b.fuses) : a.lc.rootKill = b.lc.rootKill := congrArg (fun y => y.2.2.2.1) h
theorem fuses_svn {a b : State} (h : a.fuses = b.fuses) : a.lc.minSvn = b.lc.minSvn := congrArg (fun y => y.2.2.2.2) h

/-! Shared operations. -/

@[simp] theorem State_tmpCount_fuses (s : State) (i : Nat) : (s.tmpCount i).1.fuses = s.fuses := by
  unfold State.tmpCount
  dsimp only
  (repeat' split) <;> rfl
@[simp] theorem State_emit_fuses : ∀ x0 x1, (Sys2Proof.Machine.State.emit x0 x1).fuses = x0.fuses := by
    intro x0 x1
    rfl
@[simp] theorem State_aerReport_fuses : ∀ x0 x1, (Sys2Proof.Machine.State.aerReport x0 x1).fuses = x0.fuses := by
    intro x0 x1
    rfl
@[simp] theorem State_msix_fuses : ∀ x0 x1 x2, (Sys2Proof.Machine.State.msix x0 x1 x2).fuses = x0.fuses := by
    intro x0 x1 x2
    unfold Sys2Proof.Machine.State.msix
    extract_lets y0
    (repeat' split) <;> simp [fuses_foldl]
@[simp] theorem State_setQp_fuses : ∀ x0 x1 x2 x3, (Sys2Proof.Machine.State.setQp x0 x1 x2 x3).fuses = x0.fuses := by
    intro x0 x1 x2 x3
    rfl
@[simp] theorem State_modCmd_fuses : ∀ x0 x1 x2, (Sys2Proof.Machine.State.modCmd x0 x1 x2).fuses = x0.fuses := by
    intro x0 x1 x2
    rfl
@[simp] theorem State_wr_fuses : ∀ x0 x1 x2 x3, (Sys2Proof.Machine.State.wr x0 x1 x2 x3).fuses = x0.fuses := by
    intro x0 x1 x2 x3
    rfl
@[simp] theorem State_wrF_fuses : ∀ x0 x1 x2 x3 x4, (Sys2Proof.Machine.State.wrF x0 x1 x2 x3 x4).fuses = x0.fuses := by
    intro x0 x1 x2 x3 x4
    rfl
@[simp] theorem State_endRaw_fuses : ∀ x0 x1, (Sys2Proof.Machine.State.endRaw x0 x1).fuses = x0.fuses := by
    intro x0 x1
    unfold Sys2Proof.Machine.State.endRaw
    extract_lets y0 y1
    (repeat' split) <;> simp [fuses_foldl]
@[simp] theorem State_dropWho_fuses : ∀ x0 x1, (Sys2Proof.Machine.State.dropWho x0 x1).fuses = x0.fuses := by
    intro x0 x1
    rfl
@[simp] theorem State_setPvc_fuses : ∀ x0 x1 x2, (Sys2Proof.Machine.State.setPvc x0 x1 x2).fuses = x0.fuses := by
    intro x0 x1 x2
    rfl
@[simp] theorem State_memWrite_fuses : ∀ x0 x1 x2 x3 x4, (Sys2Proof.Machine.State.memWrite x0 x1 x2 x3 x4).fuses = x0.fuses := by
    intro x0 x1 x2 x3 x4
    unfold Sys2Proof.Machine.State.memWrite; (repeat' split) <;> simp [fuses_foldl]
@[simp] theorem State_setCluster_fuses : ∀ x0 x1 x2, (Sys2Proof.Machine.State.setCluster x0 x1 x2).fuses = x0.fuses := by
    intro x0 x1 x2
    rfl
@[simp] theorem State_setFn_fuses : ∀ x0 x1 x2, (Sys2Proof.Machine.State.setFn x0 x1 x2).fuses = x0.fuses := by
    intro x0 x1 x2
    rfl
@[simp] theorem State_used_fuses : ∀ x0 x1, (Sys2Proof.Machine.State.used x0 x1).fuses = x0.fuses := by
    intro x0 x1
    rfl
@[simp] theorem State_charge_fuses : ∀ x0 x1 x2 x3 x4 x5, (Sys2Proof.Machine.State.charge x0 x1 x2 x3 x4 x5).fuses = x0.fuses := by
    intro x0 x1 x2 x3 x4 x5
    rfl
@[simp] theorem State_fresh_fuses : ∀ x0, (Sys2Proof.Machine.State.fresh x0).fuses = x0.fuses := by
    intro x0
    rfl
@[simp] theorem State_nrgAsk_fuses : ∀ x0 x1 x2 x3 x4, (Sys2Proof.Machine.State.nrgAsk x0 x1 x2 x3 x4).fuses = x0.fuses := by
    intro x0 x1 x2 x3 x4
    rfl
@[simp] theorem State_setCmd_fuses : ∀ x0 x1 x2, (Sys2Proof.Machine.State.setCmd x0 x1 x2).fuses = x0.fuses := by
    intro x0 x1 x2
    rfl
@[simp] theorem State_incF_fuses : ∀ x0 x1 x2 x3 x4, (Sys2Proof.Machine.State.incF x0 x1 x2 x3 x4).fuses = x0.fuses := by
    intro x0 x1 x2 x3 x4
    rfl
@[simp] theorem State_wrB_fuses : ∀ x0 x1 x2 x3, (Sys2Proof.Machine.State.wrB x0 x1 x2 x3).fuses = x0.fuses := by
    intro x0 x1 x2 x3
    rfl
@[simp] theorem State_settle_fuses : ∀ x0, (Sys2Proof.Machine.State.settle x0).fuses = x0.fuses := by
    intro x0
    rfl
@[simp] theorem State_unreserve_fuses : ∀ x0 x1, (Sys2Proof.Machine.State.unreserve x0 x1).fuses = x0.fuses := by
    intro x0 x1
    unfold Sys2Proof.Machine.State.unreserve
    extract_lets y0
    (repeat' split) <;> simp [fuses_foldl]
@[simp] theorem State_setUnit_fuses : ∀ x0 x1 x2, (Sys2Proof.Machine.State.setUnit x0 x1 x2).fuses = x0.fuses := by
    intro x0 x1 x2
    rfl
@[simp] theorem State_peatCount_fuses : ∀ x0 x1, (Sys2Proof.Machine.State.peatCount x0 x1).fuses = x0.fuses := by
    intro x0 x1
    rfl
@[simp] theorem State_peatLog_fuses : ∀ x0 x1 x2 x3 x4, (Sys2Proof.Machine.State.peatLog x0 x1 x2 x3 x4).fuses = x0.fuses := by
    intro x0 x1 x2 x3 x4
    rfl
@[simp] theorem State_dropHost_fuses : ∀ x0, (Sys2Proof.Machine.State.dropHost x0).fuses = x0.fuses := by
    intro x0
    unfold Sys2Proof.Machine.State.dropHost
    extract_lets y0 y1 y2 y3 y4 y5 y6
    have h0 : y0.fuses = x0.fuses := by
      simp only [y0]
      (repeat' split) <;> (try simp [fuses_foldl])
    clear_value y0
    (repeat' split) <;> simp [fuses_foldl, h0, fuses_pending h0, fuses_slots h0, fuses_markers h0, fuses_kill h0, fuses_svn h0]
@[simp] theorem State_noteReset_fuses : ∀ x0 x1, (Sys2Proof.Machine.State.noteReset x0 x1).fuses = x0.fuses := by
    intro x0 x1
    unfold Sys2Proof.Machine.State.noteReset
    extract_lets y0 y1
    have h0 : y0.fuses = x0.fuses := by
      simp only [y0]
      (repeat' split) <;> (try simp [fuses_foldl])
    clear_value y0
    (repeat' split) <;> simp [fuses_foldl, h0, fuses_pending h0, fuses_slots h0, fuses_markers h0, fuses_kill h0, fuses_svn h0]
@[simp] theorem State_keepRegs_fuses : ∀ x0 x1, (Sys2Proof.Machine.State.keepRegs x0 x1).fuses = x0.fuses := by
    intro x0 x1
    rfl
@[simp] theorem State_loadStaging_fuses : ∀ x0, (Sys2Proof.Machine.State.loadStaging x0).fuses = x0.fuses := by
    intro x0
    unfold Sys2Proof.Machine.State.loadStaging; (repeat' split) <;> simp [fuses_foldl]
@[simp] theorem State_rekey_fuses : ∀ x0 x1 x2 x3, (Sys2Proof.Machine.State.rekey x0 x1 x2 x3).fuses = x0.fuses := by
    intro x0 x1 x2 x3
    rfl
@[simp] theorem State_keepReqs_fuses : ∀ x0 x1, (Sys2Proof.Machine.State.keepReqs x0 x1).fuses = x0.fuses := by
    intro x0 x1
    unfold Sys2Proof.Machine.State.keepReqs; (repeat' split) <;> first | rfl | (simp [fuses_foldl]; done) | (rw [fuses_foldl] <;> first | rfl | (simp; done) | (intros; (repeat' split) <;> first | rfl | (simp; done)))
@[simp] theorem State_orphans_fuses : ∀ x0, (Sys2Proof.Machine.State.orphans x0).fuses = x0.fuses := by
    intro x0
    rfl
@[simp] theorem State_opmAbort_fuses : ∀ x0 x1, (Sys2Proof.Machine.State.opmAbort x0 x1).fuses = x0.fuses := by
    intro x0 x1
    unfold Sys2Proof.Machine.State.opmAbort; (repeat' split) <;> simp [fuses_foldl]
@[simp] theorem State_dropReqs_fuses : ∀ x0 x1, (Sys2Proof.Machine.State.dropReqs x0 x1).fuses = x0.fuses := by
    intro x0 x1
    unfold Sys2Proof.Machine.State.dropReqs
    extract_lets y0 y1
    have h1 : y1.fuses = x0.fuses := by
      simp only [y1]
      (repeat' split) <;> (try simp [fuses_foldl])
    clear_value y1
    (repeat' split) <;> simp [fuses_foldl, h1, fuses_pending h1, fuses_slots h1, fuses_markers h1, fuses_kill h1, fuses_svn h1]
@[simp] theorem State_dropRuns_fuses : ∀ x0 x1, (Sys2Proof.Machine.State.dropRuns x0 x1).fuses = x0.fuses := by
    intro x0 x1
    rfl
@[simp] theorem State_letGo_fuses : ∀ x0 x1, (Sys2Proof.Machine.State.letGo x0 x1).fuses = x0.fuses := by
    intro x0 x1
    unfold Sys2Proof.Machine.State.letGo
    extract_lets y0
    have h0 : y0.fuses = x0.fuses := by
      simp only [y0]
      (repeat' split) <;> (try simp [fuses_foldl])
    clear_value y0
    (repeat' split) <;> simp [fuses_foldl, h0, fuses_pending h0, fuses_slots h0, fuses_markers h0, fuses_kill h0, fuses_svn h0]
@[simp] theorem State_dropCmd_fuses : ∀ x0 x1, (Sys2Proof.Machine.State.dropCmd x0 x1).fuses = x0.fuses := by
    intro x0 x1
    unfold Sys2Proof.Machine.State.dropCmd
    extract_lets y0
    have h0 : y0.fuses = x0.fuses := by
      simp only [y0]
      (repeat' split) <;> (try simp [fuses_foldl])
    clear_value y0
    (repeat' split) <;> simp [fuses_foldl, h0, fuses_pending h0, fuses_slots h0, fuses_markers h0, fuses_kill h0, fuses_svn h0]
@[simp] theorem State_dropCmds_fuses : ∀ x0 x1, (Sys2Proof.Machine.State.dropCmds x0 x1).fuses = x0.fuses := by
    intro x0 x1
    unfold Sys2Proof.Machine.State.dropCmds; (repeat' split) <;> simp [fuses_foldl]
@[simp] theorem State_writeOut_fuses : ∀ x0 x1 x2 x3 x4, (Sys2Proof.Machine.State.writeOut x0 x1 x2 x3 x4).fuses = x0.fuses := by
    intro x0 x1 x2 x3 x4
    unfold Sys2Proof.Machine.State.writeOut; (repeat' split) <;> simp [fuses_foldl]
@[simp] theorem State_countIrq_fuses : ∀ x0 x1 x2 x3, (Sys2Proof.Machine.State.countIrq x0 x1 x2 x3).fuses = x0.fuses := by
    intro x0 x1 x2 x3
    unfold Sys2Proof.Machine.State.countIrq
    extract_lets y0 y1 y2
    (repeat' split) <;> simp [fuses_foldl]
@[simp] theorem State_writeCq_fuses : ∀ x0 x1 x2 x3 x4 x5 x6, (Sys2Proof.Machine.State.writeCq x0 x1 x2 x3 x4 x5 x6).fuses = x0.fuses := by
    intro x0 x1 x2 x3 x4 x5 x6
    unfold Sys2Proof.Machine.State.writeCq
    extract_lets y0 y1 y2 y3 y4
    have h1 : y1.fuses = x0.fuses := by
      simp only [y1]
      (repeat' split) <;> (try simp [fuses_foldl])
    clear_value y1
    have h4 : y4.fuses = x0.fuses := by
      simp only [y4]
      (repeat' split) <;> (try simp [fuses_foldl, h1, fuses_pending h1, fuses_slots h1, fuses_markers h1, fuses_kill h1, fuses_svn h1])
    clear_value y4
    (repeat' split) <;> simp [fuses_foldl, h1, fuses_pending h1, fuses_slots h1, fuses_markers h1, fuses_kill h1, fuses_svn h1, h4, fuses_pending h4, fuses_slots h4, fuses_markers h4, fuses_kill h4, fuses_svn h4]
@[simp] theorem State_completeTop_fuses : ∀ x0 x1 x2 x3 x4, (Sys2Proof.Machine.State.completeTop x0 x1 x2 x3 x4).fuses = x0.fuses := by
    intro x0 x1 x2 x3 x4
    unfold Sys2Proof.Machine.State.completeTop
    extract_lets y0 y1
    (repeat' split) <;> simp [fuses_foldl]
@[simp] theorem State_summary_fuses : ∀ x0 x1 x2, (Sys2Proof.Machine.State.summary x0 x1 x2).fuses = x0.fuses := by
    intro x0 x1 x2
    unfold Sys2Proof.Machine.State.summary
    extract_lets y0 y1
    have h1 : y1.fuses = x0.fuses := by
      simp only [y1]
      (repeat' split) <;> (try simp [fuses_foldl])
    clear_value y1
    (repeat' split) <;> simp [fuses_foldl, h1, fuses_pending h1, fuses_slots h1, fuses_markers h1, fuses_kill h1, fuses_svn h1]
@[simp] theorem State_memberDone_fuses : ∀ x0 x1 x2 x3 x4 x5 x6, (Sys2Proof.Machine.State.memberDone x0 x1 x2 x3 x4 x5 x6).fuses = x0.fuses := by
    intro x0 x1 x2 x3 x4 x5 x6
    unfold Sys2Proof.Machine.State.memberDone
    extract_lets y0 y1
    (repeat' split) <;> simp [fuses_foldl]
@[simp] theorem State_completeTag_fuses : ∀ x0 x1 x2 x3, (Sys2Proof.Machine.State.completeTag x0 x1 x2 x3).fuses = x0.fuses := by
    intro x0 x1 x2 x3
    unfold Sys2Proof.Machine.State.completeTag
    extract_lets y0 y1
    (repeat' split) <;> simp [fuses_foldl]
@[simp] theorem State_complete_fuses : ∀ x0 x1 x2, (Sys2Proof.Machine.State.complete x0 x1 x2).fuses = x0.fuses := by
    intro x0 x1 x2
    unfold Sys2Proof.Machine.State.complete; (repeat' split) <;> simp [fuses_foldl]
@[simp] theorem State_askChunk_fuses : ∀ x0 x1 x2, (Sys2Proof.Machine.State.askChunk x0 x1 x2).fuses = x0.fuses := by
    intro x0 x1 x2
    unfold Sys2Proof.Machine.State.askChunk; (repeat' split) <;> simp [fuses_foldl]
@[simp] theorem State_qpError_fuses : ∀ x0 x1 x2 x3, (Sys2Proof.Machine.State.qpError x0 x1 x2 x3).fuses = x0.fuses := by
    intro x0 x1 x2 x3
    unfold Sys2Proof.Machine.State.qpError
    extract_lets y0 y1
    have h0 : y0.fuses = x0.fuses := by
      simp only [y0]
      (repeat' split) <;> (try simp [fuses_foldl])
    clear_value y0
    (repeat' split) <;> simp [fuses_foldl, h0, fuses_pending h0, fuses_slots h0, fuses_markers h0, fuses_kill h0, fuses_svn h0]
@[simp] theorem State_fltActive_fuses : ∀ x0 x1 x2, (Sys2Proof.Machine.State.fltActive x0 x1 x2).fuses = x0.fuses := by
    intro x0 x1 x2
    rfl
@[simp] theorem State_fltEnd_fuses : ∀ x0 x1, (Sys2Proof.Machine.State.fltEnd x0 x1).fuses = x0.fuses := by
    intro x0 x1
    rfl
@[simp] theorem State_nrgClear_fuses : ∀ x0, (Sys2Proof.Machine.State.nrgClear x0).fuses = x0.fuses := by
    intro x0
    rfl
@[simp] theorem State_dgeClear_fuses : ∀ x0, (Sys2Proof.Machine.State.dgeClear x0).fuses = x0.fuses := by
    intro x0
    unfold Sys2Proof.Machine.State.dgeClear
    extract_lets y0 y1 y2
    have h2 : y2.fuses = x0.fuses := by
      simp only [y2]
      (repeat' split) <;> (try simp [fuses_foldl])
    clear_value y2
    (repeat' split) <;> simp [fuses_foldl, h2, fuses_pending h2, fuses_slots h2, fuses_markers h2, fuses_kill h2, fuses_svn h2]
@[simp] theorem State_deriveDsk_fuses : ∀ x0, (Sys2Proof.Machine.State.deriveDsk x0).fuses = x0.fuses := by
    intro x0
    rfl
@[simp] theorem State_enterLost_fuses : ∀ x0, (Sys2Proof.Machine.State.enterLost x0).fuses = x0.fuses := by
    intro x0
    rfl
@[simp] theorem State_eraseKeys_fuses : ∀ x0, (Sys2Proof.Machine.State.eraseKeys x0).fuses = x0.fuses := by
    intro x0
    unfold Sys2Proof.Machine.State.eraseKeys
    extract_lets y0 y1 y2 y3 y4 y5 y6 y7 y8
    have h5 : y5.fuses = x0.fuses := by
      simp only [y5]
      (repeat' split) <;> (try simp [fuses_foldl])
    clear_value y5
    have h6 : y6.fuses = x0.fuses := by
      simp only [y6]
      (repeat' split) <;> (try simp [fuses_foldl, h5, fuses_pending h5, fuses_slots h5, fuses_markers h5, fuses_kill h5, fuses_svn h5])
    clear_value y6
    have h7 : y7.fuses = x0.fuses := by
      simp only [y7]
      (repeat' split) <;> (try simp [fuses_foldl, h5, fuses_pending h5, fuses_slots h5, fuses_markers h5, fuses_kill h5, fuses_svn h5, h6, fuses_pending h6, fuses_slots h6, fuses_markers h6, fuses_kill h6, fuses_svn h6])
    clear_value y7
    (repeat' split) <;> simp [fuses_foldl, h5, fuses_pending h5, fuses_slots h5, fuses_markers h5, fuses_kill h5, fuses_svn h5, h6, fuses_pending h6, fuses_slots h6, fuses_markers h6, fuses_kill h6, fuses_svn h6, h7, fuses_pending h7, fuses_slots h7, fuses_markers h7, fuses_kill h7, fuses_svn h7]
@[simp] theorem State_askSls_fuses : ∀ x0, (Sys2Proof.Machine.State.askSls x0).fuses = x0.fuses := by
    intro x0
    unfold Sys2Proof.Machine.State.askSls; (repeat' split) <;> simp [fuses_foldl]
@[simp] theorem State_clearCtx_fuses : ∀ x0 x1 x2, (Sys2Proof.Machine.State.clearCtx x0 x1 x2).fuses = x0.fuses := by
    intro x0 x1 x2
    rfl
@[simp] theorem State_setCtx_fuses : ∀ x0 x1 x2 x3 x4, (Sys2Proof.Machine.State.setCtx x0 x1 x2 x3 x4).fuses = x0.fuses := by
    intro x0 x1 x2 x3 x4
    rfl
@[simp] theorem State_addCmd_fuses : ∀ x0 x1, (Sys2Proof.Machine.State.addCmd x0 x1).fuses = x0.fuses := by
    intro x0 x1
    rfl
@[simp] theorem State_start_fuses : ∀ x0 x1, (Sys2Proof.Machine.State.start x0 x1).fuses = x0.fuses := by
    intro x0 x1
    unfold Sys2Proof.Machine.State.start; (repeat' split) <;> simp [fuses_foldl]
@[simp] theorem State_qpCfg_fuses : ∀ x0 x1 x2 x3, (Sys2Proof.Machine.State.qpCfg x0 x1 x2 x3).fuses = x0.fuses := by
    intro x0 x1 x2 x3
    unfold Sys2Proof.Machine.State.qpCfg
    extract_lets y0 y1 y2 y3 y4 y5 y6
    have h6 : y6.fuses = x0.fuses := by
      simp only [y6]
      (repeat' split) <;> (try simp [fuses_foldl])
    clear_value y6
    (repeat' split) <;> simp [fuses_foldl, h6, fuses_pending h6, fuses_slots h6, fuses_markers h6, fuses_kill h6, fuses_svn h6]
@[simp] theorem State_chargeEntry_fuses : ∀ x0 x1, (Sys2Proof.Machine.State.chargeEntry x0 x1).fuses = x0.fuses := by
    intro x0 x1
    unfold Sys2Proof.Machine.State.chargeEntry
    extract_lets y0 y1 y2
    have h2 : y2.fuses = x0.fuses := by
      simp only [y2]
      (repeat' split) <;> (try simp [fuses_foldl])
    clear_value y2
    (repeat' split) <;> simp [fuses_foldl, h2, fuses_pending h2, fuses_slots h2, fuses_markers h2, fuses_kill h2, fuses_svn h2]
@[simp] theorem State_release_fuses : ∀ x0 x1, (Sys2Proof.Machine.State.release x0 x1).fuses = x0.fuses := by
    intro x0 x1
    unfold Sys2Proof.Machine.State.release; (repeat' split) <;> simp [fuses_foldl]
@[simp] theorem State_touchCode_fuses : ∀ x0 x1, (Sys2Proof.Machine.State.touchCode x0 x1).fuses = x0.fuses := by
    intro x0 x1
    rfl
@[simp] theorem State_askRand_fuses : ∀ x0 x1 x2, (Sys2Proof.Machine.State.askRand x0 x1 x2).fuses = x0.fuses := by
    intro x0 x1 x2
    unfold Sys2Proof.Machine.State.askRand; (repeat' split) <;> simp [fuses_foldl]
@[simp] theorem State_modGen_fuses : ∀ x0 x1 x2 x3, (Sys2Proof.Machine.State.modGen x0 x1 x2 x3).fuses = x0.fuses := by
    intro x0 x1 x2 x3
    rfl
@[simp] theorem State_startLoad_fuses : ∀ x0 x1 x2 x3, (Sys2Proof.Machine.State.startLoad x0 x1 x2 x3).fuses = x0.fuses := by
    intro x0 x1 x2 x3
    unfold Sys2Proof.Machine.State.startLoad
    extract_lets y0 y1
    (repeat' split) <;> simp [fuses_foldl]
@[simp] theorem State_advance_fuses : ∀ x0 x1, (Sys2Proof.Machine.State.advance x0 x1).fuses = x0.fuses := by
    intro x0 x1
    unfold Sys2Proof.Machine.State.advance; (repeat' split) <;> simp [fuses_foldl]
@[simp] theorem State_takeIn_fuses : ∀ x0 x1 x2, (Sys2Proof.Machine.State.takeIn x0 x1 x2).fuses = x0.fuses := by
    intro x0 x1 x2
    unfold Sys2Proof.Machine.State.takeIn; (repeat' split) <;> simp [fuses_foldl]
@[simp] theorem State_setObj_fuses : ∀ x0 x1 x2, (Sys2Proof.Machine.State.setObj x0 x1 x2).fuses = x0.fuses := by
    intro x0 x1 x2
    rfl
@[simp] theorem State_validated_fuses : ∀ x0 x1 x2 x3, (Sys2Proof.Machine.State.validated x0 x1 x2 x3).fuses = x0.fuses := by
    intro x0 x1 x2 x3
    unfold Sys2Proof.Machine.State.validated; (repeat' split) <;> simp [fuses_foldl]
@[simp] theorem State_advanceAll_fuses : ∀ x0 x1, (Sys2Proof.Machine.State.advanceAll x0 x1).fuses = x0.fuses := by
    intro x0 x1
    unfold Sys2Proof.Machine.State.advanceAll; (repeat' split) <;> simp [fuses_foldl]
@[simp] theorem State_algFinish_fuses : ∀ x0 x1 x2 x3, (Sys2Proof.Machine.State.algFinish x0 x1 x2 x3).fuses = x0.fuses := by
    intro x0 x1 x2 x3
    unfold Sys2Proof.Machine.State.algFinish
    extract_lets y0 y1 y2 y3 y4 y5
    have h3 : y3.fuses = x0.fuses := by
      simp only [y3]
      (repeat' split) <;> (try simp [fuses_foldl])
    clear_value y3
    have h4 : y4.fuses = x0.fuses := by
      simp only [y4]
      (repeat' split) <;> (try simp [fuses_foldl, h3, fuses_pending h3, fuses_slots h3, fuses_markers h3, fuses_kill h3, fuses_svn h3])
    clear_value y4
    (repeat' split) <;> simp [fuses_foldl, h3, fuses_pending h3, fuses_slots h3, fuses_markers h3, fuses_kill h3, fuses_svn h3, h4, fuses_pending h4, fuses_slots h4, fuses_markers h4, fuses_kill h4, fuses_svn h4]
@[simp] theorem State_sealObj_fuses : ∀ x0 x1 x2, (Sys2Proof.Machine.State.sealObj x0 x1 x2).fuses = x0.fuses := by
    intro x0 x1 x2
    unfold Sys2Proof.Machine.State.sealObj
    extract_lets y0
    (repeat' split) <;> simp [fuses_foldl]
@[simp] theorem State_storeObj_fuses : ∀ x0 x1 x2, (Sys2Proof.Machine.State.storeObj x0 x1 x2).fuses = x0.fuses := by
    intro x0 x1 x2
    unfold Sys2Proof.Machine.State.storeObj
    extract_lets y0 y1 y2 y3
    have h1 : y1.fuses = x0.fuses := by
      simp only [y1]
      (repeat' split) <;> (try simp [fuses_foldl])
    clear_value y1
    have h3 : y3.fuses = x0.fuses := by
      simp only [y3]
      (repeat' split) <;> (try simp [fuses_foldl, h1, fuses_pending h1, fuses_slots h1, fuses_markers h1, fuses_kill h1, fuses_svn h1])
    clear_value y3
    (repeat' split) <;> simp [fuses_foldl, h1, fuses_pending h1, fuses_slots h1, fuses_markers h1, fuses_kill h1, fuses_svn h1, h3, fuses_pending h3, fuses_slots h3, fuses_markers h3, fuses_kill h3, fuses_svn h3]
@[simp] theorem State_commitGen_fuses : ∀ x0 x1 x2 x3, (Sys2Proof.Machine.State.commitGen x0 x1 x2 x3).fuses = x0.fuses := by
    intro x0 x1 x2 x3
    unfold Sys2Proof.Machine.State.commitGen
    extract_lets y0 y1 y2
    have h1 : y1.fuses = x0.fuses := by
      simp only [y1]
      (repeat' split) <;> (try simp [fuses_foldl])
    clear_value y1
    (repeat' split) <;> simp [fuses_foldl, h1, fuses_pending h1, fuses_slots h1, fuses_markers h1, fuses_kill h1, fuses_svn h1]
@[simp] theorem State_sealAll_fuses : ∀ x0, (Sys2Proof.Machine.State.sealAll x0).fuses = x0.fuses := by
    intro x0
    unfold Sys2Proof.Machine.State.sealAll; (repeat' split) <;> simp [fuses_foldl]
@[simp] theorem State_endWith_fuses : ∀ x0 x1 x2, (Sys2Proof.Machine.State.endWith x0 x1 x2).fuses = x0.fuses := by
    intro x0 x1 x2
    unfold Sys2Proof.Machine.State.endWith; (repeat' split) <;> simp [fuses_foldl]
@[simp] theorem State_deliverStage_fuses : ∀ x0 x1 x2 x3 x4 x5 x6, (Sys2Proof.Machine.State.deliverStage x0 x1 x2 x3 x4 x5 x6).fuses = x0.fuses := by
    intro x0 x1 x2 x3 x4 x5 x6
    unfold Sys2Proof.Machine.State.deliverStage
    extract_lets y0 y1
    (repeat' split) <;> simp [fuses_foldl]
@[simp] theorem State_dropObj_fuses : ∀ x0 x1, (Sys2Proof.Machine.State.dropObj x0 x1).fuses = x0.fuses := by
    intro x0 x1
    unfold Sys2Proof.Machine.State.dropObj
    extract_lets y0
    (repeat' split) <;> simp [fuses_foldl]
@[simp] theorem State_nextLoad_fuses : ∀ x0, (Sys2Proof.Machine.State.nextLoad x0).fuses = x0.fuses := by
    intro x0
    unfold Sys2Proof.Machine.State.nextLoad; (repeat' split) <;> simp [fuses_foldl]
@[simp] theorem State_wakeUnseal_fuses : ∀ x0, (Sys2Proof.Machine.State.wakeUnseal x0).fuses = x0.fuses := by
    intro x0
    rfl
@[simp] theorem State_delivers_fuses : ∀ x0 x1 x2, (Sys2Proof.Machine.State.delivers x0 x1 x2).fuses = x0.fuses := by
    intro x0 x1 x2
    rfl
@[simp] theorem State_maskedRun_fuses : ∀ x0 x1 x2, (Sys2Proof.Machine.State.maskedRun x0 x1 x2).fuses = x0.fuses := by
    intro x0 x1 x2
    unfold Sys2Proof.Machine.State.maskedRun; (repeat' split) <;> simp [fuses_foldl]
@[simp] theorem State_jobStarts_fuses : ∀ x0 x1 x2, (Sys2Proof.Machine.State.jobStarts x0 x1 x2).fuses = x0.fuses := by
    intro x0 x1 x2
    rfl
@[simp] theorem State_seedUnits_fuses : ∀ x0 x1 x2, (Sys2Proof.Machine.State.seedUnits x0 x1 x2).fuses = x0.fuses := by
    intro x0 x1 x2
    unfold Sys2Proof.Machine.State.seedUnits; (repeat' split) <;> simp [fuses_foldl]
@[simp] theorem State_setDctx_fuses : ∀ x0 x1 x2 x3, (Sys2Proof.Machine.State.setDctx x0 x1 x2 x3).fuses = x0.fuses := by
    intro x0 x1 x2 x3
    rfl
@[simp] theorem State_putRun_fuses : ∀ x0 x1 x2 x3, (Sys2Proof.Machine.State.putRun x0 x1 x2 x3).fuses = x0.fuses := by
    intro x0 x1 x2 x3
    rfl
@[simp] theorem State_useKsc_fuses : ∀ x0 x1, (Sys2Proof.Machine.State.useKsc x0 x1).fuses = x0.fuses := by
    intro x0 x1
    unfold Sys2Proof.Machine.State.useKsc
    extract_lets y0 y1 y2
    (repeat' split) <;> simp [fuses_foldl]
@[simp] theorem State_toTurns_fuses : ∀ x0 x1 x2, (Sys2Proof.Machine.State.toTurns x0 x1 x2).fuses = x0.fuses := by
    intro x0 x1 x2
    rfl
@[simp] theorem State_askSpill_fuses : ∀ x0 x1, (Sys2Proof.Machine.State.askSpill x0 x1).fuses = x0.fuses := by
    intro x0 x1
    unfold Sys2Proof.Machine.State.askSpill; (repeat' split) <;> simp [fuses_foldl]
@[simp] theorem State_spoil_fuses : ∀ x0 x1 x2, (Sys2Proof.Machine.State.spoil x0 x1 x2).fuses = x0.fuses := by
    intro x0 x1 x2
    unfold Sys2Proof.Machine.State.spoil; (repeat' split) <;> simp [fuses_foldl]
@[simp] theorem State_dgNext_fuses : ∀ x0 x1, (Sys2Proof.Machine.State.dgNext x0 x1).fuses = x0.fuses := by
    intro x0 x1
    unfold Sys2Proof.Machine.State.dgNext
    extract_lets y0
    (repeat' split) <;> simp [fuses_foldl]
@[simp] theorem State_dgAdmit_fuses : ∀ x0 x1 x2, (Sys2Proof.Machine.State.dgAdmit x0 x1 x2).fuses = x0.fuses := by
    intro x0 x1 x2
    unfold Sys2Proof.Machine.State.dgAdmit
    extract_lets y0
    have h0 : y0.fuses = x0.fuses := by
      simp only [y0]
      (repeat' split) <;> (try simp [fuses_foldl])
    clear_value y0
    (repeat' split) <;> simp [fuses_foldl, h0, fuses_pending h0, fuses_slots h0, fuses_markers h0, fuses_kill h0, fuses_svn h0]
@[simp] theorem State_dgValidated_fuses : ∀ x0 x1 x2 x3, (Sys2Proof.Machine.State.dgValidated x0 x1 x2 x3).fuses = x0.fuses := by
    intro x0 x1 x2 x3
    unfold Sys2Proof.Machine.State.dgValidated; (repeat' split) <;> simp [fuses_foldl]
@[simp] theorem State_finalEnd_fuses : ∀ x0 x1 x2 x3, (Sys2Proof.Machine.State.finalEnd x0 x1 x2 x3).fuses = x0.fuses := by
    intro x0 x1 x2 x3
    unfold Sys2Proof.Machine.State.finalEnd
    extract_lets y0 y1 y2 y3 y4
    have h2 : y2.fuses = x0.fuses := by
      simp only [y2]
      (repeat' split) <;> (try simp [fuses_foldl])
    clear_value y2
    (repeat' split) <;> simp [fuses_foldl, h2, fuses_pending h2, fuses_slots h2, fuses_markers h2, fuses_kill h2, fuses_svn h2]
@[simp] theorem State_dgEnd_fuses : ∀ x0 x1 x2, (Sys2Proof.Machine.State.dgEnd x0 x1 x2).fuses = x0.fuses := by
    intro x0 x1 x2
    unfold Sys2Proof.Machine.State.dgEnd
    extract_lets y0 y1 y2 y3 y4 y5 y6
    have h2 : y2.fuses = x0.fuses := by
      simp only [y2]
      (repeat' split) <;> (try simp [fuses_foldl])
    clear_value y2
    (repeat' split) <;> simp [fuses_foldl, h2, fuses_pending h2, fuses_slots h2, fuses_markers h2, fuses_kill h2, fuses_svn h2]
@[simp] theorem State_spill_fuses : ∀ x0 x1 x2, (Sys2Proof.Machine.State.spill x0 x1 x2).fuses = x0.fuses := by
    intro x0 x1 x2
    unfold Sys2Proof.Machine.State.spill
    extract_lets y0 y1 y2
    (repeat' split) <;> simp [fuses_foldl]
@[simp] theorem State_turnOver_fuses : ∀ x0 x1 x2, (Sys2Proof.Machine.State.turnOver x0 x1 x2).fuses = x0.fuses := by
    intro x0 x1 x2
    unfold Sys2Proof.Machine.State.turnOver
    extract_lets y0 y1 y2 y3
    (repeat' split) <;> simp [fuses_foldl]
@[simp] theorem State_chkFinish_fuses : ∀ x0 x1 x2 x3, (Sys2Proof.Machine.State.chkFinish x0 x1 x2 x3).fuses = x0.fuses := by
    intro x0 x1 x2 x3
    unfold Sys2Proof.Machine.State.chkFinish
    extract_lets y0 y1 y2 y3
    have h2 : y2.fuses = x0.fuses := by
      simp only [y2]
      (repeat' split) <;> (try simp [fuses_foldl])
    clear_value y2
    have h3 : y3.fuses = x0.fuses := by
      simp only [y3]
      (repeat' split) <;> (try simp [fuses_foldl, h2, fuses_pending h2, fuses_slots h2, fuses_markers h2, fuses_kill h2, fuses_svn h2])
    clear_value y3
    (repeat' split) <;> simp [fuses_foldl, h2, fuses_pending h2, fuses_slots h2, fuses_markers h2, fuses_kill h2, fuses_svn h2, h3, fuses_pending h3, fuses_slots h3, fuses_markers h3, fuses_kill h3, fuses_svn h3]
@[simp] theorem State_kernelFinish_fuses : ∀ x0 x1 x2 x3, (Sys2Proof.Machine.State.kernelFinish x0 x1 x2 x3).fuses = x0.fuses := by
    intro x0 x1 x2 x3
    unfold Sys2Proof.Machine.State.kernelFinish
    extract_lets y0 y1
    have h0 : y0.fuses = x0.fuses := by
      simp only [y0]
      (repeat' split) <;> (try simp [fuses_foldl])
    clear_value y0
    have h1 : y1.fuses = x0.fuses := by
      simp only [y1]
      (repeat' split) <;> (try simp [fuses_foldl, h0, fuses_pending h0, fuses_slots h0, fuses_markers h0, fuses_kill h0, fuses_svn h0])
    clear_value y1
    (repeat' split) <;> simp [fuses_foldl, h0, fuses_pending h0, fuses_slots h0, fuses_markers h0, fuses_kill h0, fuses_svn h0, h1, fuses_pending h1, fuses_slots h1, fuses_markers h1, fuses_kill h1, fuses_svn h1]
@[simp] theorem State_randomEnd_fuses : ∀ x0 x1 x2, (Sys2Proof.Machine.State.randomEnd x0 x1 x2).fuses = x0.fuses := by
    intro x0 x1 x2
    unfold Sys2Proof.Machine.State.randomEnd; (repeat' split) <;> simp [fuses_foldl]
@[simp] theorem State_setOpm_fuses : ∀ x0 x1 x2, (Sys2Proof.Machine.State.setOpm x0 x1 x2).fuses = x0.fuses := by
    intro x0 x1 x2
    rfl
@[simp] theorem State_setWport_fuses : ∀ x0 x1 x2, (Sys2Proof.Machine.State.setWport x0 x1 x2).fuses = x0.fuses := by
    intro x0 x1 x2
    rfl
@[simp] theorem State_flush_fuses : ∀ x0 x1, (Sys2Proof.Machine.State.flush x0 x1).fuses = x0.fuses := by
    intro x0 x1
    unfold Sys2Proof.Machine.State.flush
    extract_lets y0 y1 y2
    (repeat' split) <;> simp [fuses_foldl]
@[simp] theorem State_sendPort_fuses : ∀ x0 x1 x2 x3, (Sys2Proof.Machine.State.sendPort x0 x1 x2 x3).fuses = x0.fuses := by
    intro x0 x1 x2 x3
    unfold Sys2Proof.Machine.State.sendPort
    extract_lets y0
    (repeat' split) <;> simp [fuses_foldl]
@[simp] theorem State_flood_fuses : ∀ x0 x1 x2, (Sys2Proof.Machine.State.flood x0 x1 x2).fuses = x0.fuses := by
    intro x0 x1 x2
    unfold Sys2Proof.Machine.State.flood; (repeat' split) <;> simp [fuses_foldl]
@[simp] theorem State_transmit_fuses : ∀ x0 x1 x2, (Sys2Proof.Machine.State.transmit x0 x1 x2).fuses = x0.fuses := by
    intro x0 x1 x2
    unfold Sys2Proof.Machine.State.transmit
    extract_lets y0 y1
    (repeat' split) <;> simp [fuses_foldl]
@[simp] theorem State_sendMsg_fuses : ∀ x0 x1 x2, (Sys2Proof.Machine.State.sendMsg x0 x1 x2).fuses = x0.fuses := by
    intro x0 x1 x2
    unfold Sys2Proof.Machine.State.sendMsg
    extract_lets y0 y1 y2 y3 y4
    have h3 : y3.fuses = x0.fuses := by
      simp only [y3]
      (repeat' split) <;> (try simp [fuses_foldl])
    clear_value y3
    (repeat' split) <;> simp [fuses_foldl, h3, fuses_pending h3, fuses_slots h3, fuses_markers h3, fuses_kill h3, fuses_svn h3]
@[simp] theorem State_sendMembers_fuses : ∀ x0 x1 x2, (Sys2Proof.Machine.State.sendMembers x0 x1 x2).fuses = x0.fuses := by
    intro x0 x1 x2
    unfold Sys2Proof.Machine.State.sendMembers; (repeat' split) <;> simp [fuses_foldl]
@[simp] theorem State_modPeer_fuses : ∀ x0 x1 x2, (Sys2Proof.Machine.State.modPeer x0 x1 x2).fuses = x0.fuses := by
    intro x0 x1 x2
    rfl
@[simp] theorem State_sendWaiting_fuses : ∀ x0, (Sys2Proof.Machine.State.sendWaiting x0).fuses = x0.fuses := by
    intro x0
    unfold Sys2Proof.Machine.State.sendWaiting; (repeat' split) <;> simp [fuses_foldl]
@[simp] theorem State_noteTrap_fuses : ∀ x0 x1 x2 x3, (Sys2Proof.Machine.State.noteTrap x0 x1 x2 x3).fuses = x0.fuses := by
    intro x0 x1 x2 x3
    unfold Sys2Proof.Machine.State.noteTrap
    extract_lets y0 y1 y2 y3
    have h3 : y3.fuses = x0.fuses := by
      simp only [y3]
      (repeat' split) <;> (try simp [fuses_foldl])
    clear_value y3
    (repeat' split) <;> simp [fuses_foldl, h3, fuses_pending h3, fuses_slots h3, fuses_markers h3, fuses_kill h3, fuses_svn h3]
@[simp] theorem State_freeUnit_fuses : ∀ x0 x1 x2, (Sys2Proof.Machine.State.freeUnit x0 x1 x2).fuses = x0.fuses := by
    intro x0 x1 x2
    rfl
@[simp] theorem State_pullRun_fuses : ∀ x0 x1 x2 x3, (Sys2Proof.Machine.State.pullRun x0 x1 x2 x3).fuses = x0.fuses := by
    intro x0 x1 x2 x3
    unfold Sys2Proof.Machine.State.pullRun
    extract_lets y0 y1 y2 y3 y4
    have h0 : y0.fuses = x0.fuses := by
      simp only [y0]
      (repeat' split) <;> (try simp [fuses_foldl])
    clear_value y0
    have h3 : y3.fuses = x0.fuses := by
      simp only [y3]
      (repeat' split) <;> (try simp [fuses_foldl, h0, fuses_pending h0, fuses_slots h0, fuses_markers h0, fuses_kill h0, fuses_svn h0])
    clear_value y3
    (repeat' split) <;> simp [fuses_foldl, h0, fuses_pending h0, fuses_slots h0, fuses_markers h0, fuses_kill h0, fuses_svn h0, h3, fuses_pending h3, fuses_slots h3, fuses_markers h3, fuses_kill h3, fuses_svn h3]
@[simp] theorem State_pullUnit_fuses : ∀ x0 x1, (Sys2Proof.Machine.State.pullUnit x0 x1).fuses = x0.fuses := by
    intro x0 x1
    unfold Sys2Proof.Machine.State.pullUnit; (repeat' split) <;> simp [fuses_foldl]
@[simp] theorem State_corrupted_fuses : ∀ x0 x1, (Sys2Proof.Machine.State.corrupted x0 x1).fuses = x0.fuses := by
    intro x0 x1
    rfl
@[simp] theorem State_countRun_fuses : ∀ x0 x1 x2, (Sys2Proof.Machine.State.countRun x0 x1 x2).fuses = x0.fuses := by
    intro x0 x1 x2
    unfold Sys2Proof.Machine.State.countRun; (repeat' split) <;> simp [fuses_foldl]
@[simp] theorem State_retest_fuses : ∀ x0 x1 x2, (Sys2Proof.Machine.State.retest x0 x1 x2).fuses = x0.fuses := by
    intro x0 x1 x2
    unfold Sys2Proof.Machine.State.retest; (repeat' split) <;> simp [fuses_foldl]
@[simp] theorem State_spillTo_fuses : ∀ x0 x1 x2 x3 x4, (Sys2Proof.Machine.State.spillTo x0 x1 x2 x3 x4).fuses = x0.fuses := by
    intro x0 x1 x2 x3 x4
    unfold Sys2Proof.Machine.State.spillTo
    extract_lets y0 y1
    have h0 : y0.fuses = x0.fuses := by
      simp only [y0]
      (repeat' split) <;> (try simp [fuses_foldl])
    clear_value y0
    (repeat' split) <;> simp [fuses_foldl, h0, fuses_pending h0, fuses_slots h0, fuses_markers h0, fuses_kill h0, fuses_svn h0]
@[simp] theorem State_occupy_fuses : ∀ x0 x1 x2 x3, (Sys2Proof.Machine.State.occupy x0 x1 x2 x3).fuses = x0.fuses := by
    intro x0 x1 x2 x3
    unfold Sys2Proof.Machine.State.occupy
    extract_lets y0 y1 y2 y3 y4
    have h3 : y3.fuses = x0.fuses := by
      simp only [y3]
      (repeat' split) <;> (try simp [fuses_foldl])
    clear_value y3
    (repeat' split) <;> simp [fuses_foldl, h3, fuses_pending h3, fuses_slots h3, fuses_markers h3, fuses_kill h3, fuses_svn h3]
@[simp] theorem State_startKernel_fuses : ∀ x0 x1 x2 x3 x4, (Sys2Proof.Machine.State.startKernel x0 x1 x2 x3 x4).fuses = x0.fuses := by
    intro x0 x1 x2 x3 x4
    unfold Sys2Proof.Machine.State.startKernel
    extract_lets y0 y1 y2
    (repeat' split) <;> simp [fuses_foldl]
@[simp] theorem State_placeOne_fuses : ∀ x0 x1 x2 x3, (Sys2Proof.Machine.State.placeOne x0 x1 x2 x3).fuses = x0.fuses := by
    intro x0 x1 x2 x3
    unfold Sys2Proof.Machine.State.placeOne; (repeat' split) <;> simp [fuses_foldl]
@[simp] theorem State_takeMember_fuses : ∀ x0 x1 x2 x3 x4, (Sys2Proof.Machine.State.takeMember x0 x1 x2 x3 x4).fuses = x0.fuses := by
    intro x0 x1 x2 x3 x4
    unfold Sys2Proof.Machine.State.takeMember
    extract_lets y0 y1 y2 y3 y4 y5 y6 y7 y8 y9 y10 y11 y12 y13 y14
    have h11 : y11.fuses = x0.fuses := by
      simp only [y11]
      (repeat' split) <;> (try simp [fuses_foldl])
    clear_value y11
    have h12 : y12.fuses = x0.fuses := by
      simp only [y12]
      (repeat' split) <;> (try simp [fuses_foldl, h11, fuses_pending h11, fuses_slots h11, fuses_markers h11, fuses_kill h11, fuses_svn h11])
    clear_value y12
    have h13 : y13.fuses = x0.fuses := by
      simp only [y13]
      (repeat' split) <;> (try simp [fuses_foldl, h11, fuses_pending h11, fuses_slots h11, fuses_markers h11, fuses_kill h11, fuses_svn h11, h12, fuses_pending h12, fuses_slots h12, fuses_markers h12, fuses_kill h12, fuses_svn h12])
    clear_value y13
    have h14 : y14.fuses = x0.fuses := by
      simp only [y14]
      (repeat' split) <;> (try simp [fuses_foldl, h11, fuses_pending h11, fuses_slots h11, fuses_markers h11, fuses_kill h11, fuses_svn h11, h12, fuses_pending h12, fuses_slots h12, fuses_markers h12, fuses_kill h12, fuses_svn h12, h13, fuses_pending h13, fuses_slots h13, fuses_markers h13, fuses_kill h13, fuses_svn h13])
    clear_value y14
    (repeat' split) <;> simp [fuses_foldl, h11, fuses_pending h11, fuses_slots h11, fuses_markers h11, fuses_kill h11, fuses_svn h11, h12, fuses_pending h12, fuses_slots h12, fuses_markers h12, fuses_kill h12, fuses_svn h12, h13, fuses_pending h13, fuses_slots h13, fuses_markers h13, fuses_kill h13, fuses_svn h13, h14, fuses_pending h14, fuses_slots h14, fuses_markers h14, fuses_kill h14, fuses_svn h14]
@[simp] theorem State_cutMember_fuses : ∀ x0 x1 x2 x3, (Sys2Proof.Machine.State.cutMember x0 x1 x2 x3).fuses = x0.fuses := by
    intro x0 x1 x2 x3
    unfold Sys2Proof.Machine.State.cutMember; (repeat' split) <;> simp [fuses_foldl]
@[simp] theorem State_cutBatch_fuses : ∀ x0 x1 x2 x3 x4 x5, (Sys2Proof.Machine.State.cutBatch x0 x1 x2 x3 x4 x5).fuses = x0.fuses := by
    intro x0 x1 x2 x3 x4 x5
    unfold Sys2Proof.Machine.State.cutBatch
    extract_lets y0
    have h0 : y0.fuses = x0.fuses := by
      simp only [y0]
      (repeat' split) <;> (try simp [fuses_foldl])
    clear_value y0
    (repeat' split) <;> simp [fuses_foldl, h0, fuses_pending h0, fuses_slots h0, fuses_markers h0, fuses_kill h0, fuses_svn h0]
@[simp] theorem State_batchStart_fuses : ∀ x0 x1 x2 x3 x4, (Sys2Proof.Machine.State.batchStart x0 x1 x2 x3 x4).fuses = x0.fuses := by
    intro x0 x1 x2 x3 x4
    unfold Sys2Proof.Machine.State.batchStart
    extract_lets y0
    (repeat' split) <;> simp [fuses_foldl]
@[simp] theorem State_batchReadFail_fuses : ∀ x0 x1 x2, (Sys2Proof.Machine.State.batchReadFail x0 x1 x2).fuses = x0.fuses := by
    intro x0 x1 x2
    unfold Sys2Proof.Machine.State.batchReadFail; (repeat' split) <;> simp [fuses_foldl]
@[simp] theorem State_abortBatch_fuses : ∀ x0 x1 x2 x3, (Sys2Proof.Machine.State.abortBatch x0 x1 x2 x3).fuses = x0.fuses := by
    intro x0 x1 x2 x3
    unfold Sys2Proof.Machine.State.abortBatch
    extract_lets y0 y1 y2
    have h2 : y2.fuses = x0.fuses := by
      simp only [y2]
      (repeat' split) <;> (try simp [fuses_foldl])
    clear_value y2
    (repeat' split) <;> simp [fuses_foldl, h2, fuses_pending h2, fuses_slots h2, fuses_markers h2, fuses_kill h2, fuses_svn h2]
@[simp] theorem State_scField_fuses : ∀ x0 x1 x2 x3 x4, (Sys2Proof.Machine.State.scField x0 x1 x2 x3 x4).fuses = x0.fuses := by
    intro x0 x1 x2 x3 x4
    unfold Sys2Proof.Machine.State.scField; (repeat' split) <;> simp [fuses_foldl]
@[simp] theorem State_setScState_fuses : ∀ x0 x1 x2, (Sys2Proof.Machine.State.setScState x0 x1 x2).fuses = x0.fuses := by
    intro x0 x1 x2
    unfold Sys2Proof.Machine.State.setScState; (repeat' split) <;> simp [fuses_foldl]
@[simp] theorem State_mwr_fuses : ∀ x0 x1 x2 x3 x4, (Sys2Proof.Machine.State.mwr x0 x1 x2 x3 x4).fuses = x0.fuses := by
    intro x0 x1 x2 x3 x4
    rfl
@[simp] theorem State_endSteps_fuses : ∀ x0, (Sys2Proof.Machine.State.endSteps x0).fuses = x0.fuses := by
    intro x0
    unfold Sys2Proof.Machine.State.endSteps; (repeat' split) <;> simp [fuses_foldl]
@[simp] theorem State_outcome_fuses : ∀ x0 x1 x2 x3, (Sys2Proof.Machine.State.outcome x0 x1 x2 x3).fuses = x0.fuses := by
    intro x0 x1 x2 x3
    rfl
@[simp] theorem State_setMstat_fuses : ∀ x0 x1 x2 x3 x4, (Sys2Proof.Machine.State.setMstat x0 x1 x2 x3 x4).fuses = x0.fuses := by
    intro x0 x1 x2 x3 x4
    rfl
@[simp] theorem State_deliver_fuses : ∀ x0 x1 x2 x3 x4, (Sys2Proof.Machine.State.deliver x0 x1 x2 x3 x4).fuses = x0.fuses := by
    intro x0 x1 x2 x3 x4
    unfold Sys2Proof.Machine.State.deliver
    extract_lets y0 y1 y2 y3 y4 y5
    have h0 : y0.fuses = x0.fuses := by
      simp only [y0]
      (repeat' split) <;> (try simp [fuses_foldl])
    clear_value y0
    have h2 : y2.fuses = x0.fuses := by
      simp only [y2]
      (repeat' split) <;> (try simp [fuses_foldl, h0, fuses_pending h0, fuses_slots h0, fuses_markers h0, fuses_kill h0, fuses_svn h0])
    clear_value y2
    have h3 : y3.fuses = x0.fuses := by
      simp only [y3]
      (repeat' split) <;> (try simp [fuses_foldl, h0, fuses_pending h0, fuses_slots h0, fuses_markers h0, fuses_kill h0, fuses_svn h0, h2, fuses_pending h2, fuses_slots h2, fuses_markers h2, fuses_kill h2, fuses_svn h2])
    clear_value y3
    have h5 : y5.fuses = x0.fuses := by
      simp only [y5]
      (repeat' split) <;> (try simp [fuses_foldl, h0, fuses_pending h0, fuses_slots h0, fuses_markers h0, fuses_kill h0, fuses_svn h0, h2, fuses_pending h2, fuses_slots h2, fuses_markers h2, fuses_kill h2, fuses_svn h2, h3, fuses_pending h3, fuses_slots h3, fuses_markers h3, fuses_kill h3, fuses_svn h3])
    clear_value y5
    (repeat' split) <;> simp [fuses_foldl, h0, fuses_pending h0, fuses_slots h0, fuses_markers h0, fuses_kill h0, fuses_svn h0, h2, fuses_pending h2, fuses_slots h2, fuses_markers h2, fuses_kill h2, fuses_svn h2, h3, fuses_pending h3, fuses_slots h3, fuses_markers h3, fuses_kill h3, fuses_svn h3, h5, fuses_pending h5, fuses_slots h5, fuses_markers h5, fuses_kill h5, fuses_svn h5]
@[simp] theorem State_mbxEnd_fuses : ∀ x0 x1 x2, (Sys2Proof.Machine.State.mbxEnd x0 x1 x2).fuses = x0.fuses := by
    intro x0 x1 x2
    unfold Sys2Proof.Machine.State.mbxEnd
    extract_lets y0 y1 y2 y3
    have h3 : y3.fuses = x0.fuses := by
      simp only [y3]
      (repeat' split) <;> (try simp [fuses_foldl])
    clear_value y3
    (repeat' split) <;> simp [fuses_foldl, h3, fuses_pending h3, fuses_slots h3, fuses_markers h3, fuses_kill h3, fuses_svn h3]
@[simp] theorem State_endCardCmd_fuses : ∀ x0 x1, (Sys2Proof.Machine.State.endCardCmd x0 x1).fuses = x0.fuses := by
    intro x0 x1
    unfold Sys2Proof.Machine.State.endCardCmd
    extract_lets y0 y1 y2
    have h2 : y2.fuses = x0.fuses := by
      simp only [y2]
      (repeat' split) <;> (try simp [fuses_foldl])
    clear_value y2
    (repeat' split) <;> simp [fuses_foldl, h2, fuses_pending h2, fuses_slots h2, fuses_markers h2, fuses_kill h2, fuses_svn h2]
@[simp] theorem State_unCommit_fuses : ∀ x0 x1, (Sys2Proof.Machine.State.unCommit x0 x1).fuses = x0.fuses := by
    intro x0 x1
    rfl
@[simp] theorem State_cancelSession_fuses : ∀ x0, (Sys2Proof.Machine.State.cancelSession x0).fuses = x0.fuses := by
    intro x0
    unfold Sys2Proof.Machine.State.cancelSession
    extract_lets y0
    (repeat' split) <;> simp [fuses_foldl]
@[simp] theorem State_setMcState_fuses : ∀ x0 x1, (Sys2Proof.Machine.State.setMcState x0 x1).fuses = x0.fuses := by
    intro x0 x1
    rfl
@[simp] theorem State_mbxCommit_fuses : ∀ x0 x1, (Sys2Proof.Machine.State.mbxCommit x0 x1).fuses = x0.fuses := by
    intro x0 x1
    unfold Sys2Proof.Machine.State.mbxCommit; (repeat' split) <;> simp [fuses_foldl]
@[simp] theorem State_endRestores_fuses : ∀ x0, (Sys2Proof.Machine.State.endRestores x0).fuses = x0.fuses := by
    intro x0
    unfold Sys2Proof.Machine.State.endRestores
    extract_lets y0 y1
    have h0 : y0.fuses = x0.fuses := by
      simp only [y0]
      (repeat' split) <;> (try simp [fuses_foldl])
    clear_value y0
    (repeat' split) <;> simp [fuses_foldl, h0, fuses_pending h0, fuses_slots h0, fuses_markers h0, fuses_kill h0, fuses_svn h0]
@[simp] theorem State_setSc_fuses : ∀ x0 x1 x2, (Sys2Proof.Machine.State.setSc x0 x1 x2).fuses = x0.fuses := by
    intro x0 x1 x2
    rfl
@[simp] theorem State_countReject_fuses : ∀ x0 x1, (Sys2Proof.Machine.State.countReject x0 x1).fuses = x0.fuses := by
    intro x0 x1
    unfold Sys2Proof.Machine.State.countReject; (repeat' split) <;> simp [fuses_foldl]
@[simp] theorem State_moveRun_fuses : ∀ x0 x1 x2, (Sys2Proof.Machine.State.moveRun x0 x1 x2).fuses = x0.fuses := by
    intro x0 x1 x2
    unfold Sys2Proof.Machine.State.moveRun; (repeat' split) <;> simp [fuses_foldl]
@[simp] theorem State_maskTo_fuses : ∀ x0 x1 x2, (Sys2Proof.Machine.State.maskTo x0 x1 x2).fuses = x0.fuses := by
    intro x0 x1 x2
    rfl
@[simp] theorem State_askSeed_fuses : ∀ x0 x1 x2, (Sys2Proof.Machine.State.askSeed x0 x1 x2).fuses = x0.fuses := by
    intro x0 x1 x2
    unfold Sys2Proof.Machine.State.askSeed; (repeat' split) <;> simp [fuses_foldl]
@[simp] theorem State_nrgRefuse_fuses : ∀ x0 x1 x2, (Sys2Proof.Machine.State.nrgRefuse x0 x1 x2).fuses = x0.fuses := by
    intro x0 x1 x2
    unfold Sys2Proof.Machine.State.nrgRefuse; (repeat' split) <;> simp [fuses_foldl]
@[simp] theorem State_refuseAll_fuses : ∀ x0 x1 x2, (Sys2Proof.Machine.State.refuseAll x0 x1 x2).fuses = x0.fuses := by
    intro x0 x1 x2
    unfold Sys2Proof.Machine.State.refuseAll
    extract_lets y0
    (repeat' split) <;> simp [fuses_foldl]
@[simp] theorem State_dropBlocks_fuses : ∀ x0 x1, (Sys2Proof.Machine.State.dropBlocks x0 x1).fuses = x0.fuses := by
    intro x0 x1
    rfl
@[simp] theorem State_isolate_fuses : ∀ x0 x1, (Sys2Proof.Machine.State.isolate x0 x1).fuses = x0.fuses := by
    intro x0 x1
    rfl
@[simp] theorem State_nrgFail_fuses : ∀ x0, (Sys2Proof.Machine.State.nrgFail x0).fuses = x0.fuses := by
    intro x0
    unfold Sys2Proof.Machine.State.nrgFail
    extract_lets y0 y1 y2 y3 y4
    have h2 : y2.fuses = x0.fuses := by
      simp only [y2]
      (repeat' split) <;> (try simp [fuses_foldl])
    clear_value y2
    have h4 : y4.fuses = x0.fuses := by
      simp only [y4]
      (repeat' split) <;> (try simp [fuses_foldl, h2, fuses_pending h2, fuses_slots h2, fuses_markers h2, fuses_kill h2, fuses_svn h2])
    clear_value y4
    (repeat' split) <;> simp [fuses_foldl, h2, fuses_pending h2, fuses_slots h2, fuses_markers h2, fuses_kill h2, fuses_svn h2, h4, fuses_pending h4, fuses_slots h4, fuses_markers h4, fuses_kill h4, fuses_svn h4]
@[simp] theorem State_setFb_fuses : ∀ x0 x1 x2, (Sys2Proof.Machine.State.setFb x0 x1 x2).fuses = x0.fuses := by
    intro x0 x1 x2
    rfl
@[simp] theorem State_fillReady_fuses : ∀ x0, (Sys2Proof.Machine.State.fillReady x0).fuses = x0.fuses := by
    intro x0
    unfold Sys2Proof.Machine.State.fillReady
    extract_lets y0 y1 y2
    have h2 : y2.fuses = x0.fuses := by
      simp only [y2]
      (repeat' split) <;> (try simp [fuses_foldl])
    clear_value y2
    (repeat' split) <;> simp [fuses_foldl, h2, fuses_pending h2, fuses_slots h2, fuses_markers h2, fuses_kill h2, fuses_svn h2]
@[simp] theorem State_rawEnd_fuses : ∀ x0 x1 x2 x3 x4 x5, (Sys2Proof.Machine.State.rawEnd x0 x1 x2 x3 x4 x5).fuses = x0.fuses := by
    intro x0 x1 x2 x3 x4 x5
    unfold Sys2Proof.Machine.State.rawEnd
    extract_lets y0 y1 y2 y3 y4 y5 y6 y7 y8 y9 y10 y11 y12 y13
    have h9 : y9.fuses = x0.fuses := by
      simp only [y9]
      (repeat' split) <;> (try simp [fuses_foldl])
    clear_value y9
    have h10 : y10.fuses = x0.fuses := by
      simp only [y10]
      (repeat' split) <;> (try simp [fuses_foldl, h9, fuses_pending h9, fuses_slots h9, fuses_markers h9, fuses_kill h9, fuses_svn h9])
    clear_value y10
    have h12 : y12.fuses = x0.fuses := by
      simp only [y12]
      (repeat' split) <;> (try simp [fuses_foldl, h9, fuses_pending h9, fuses_slots h9, fuses_markers h9, fuses_kill h9, fuses_svn h9, h10, fuses_pending h10, fuses_slots h10, fuses_markers h10, fuses_kill h10, fuses_svn h10])
    clear_value y12
    (repeat' split) <;> simp [fuses_foldl, h9, fuses_pending h9, fuses_slots h9, fuses_markers h9, fuses_kill h9, fuses_svn h9, h10, fuses_pending h10, fuses_slots h10, fuses_markers h10, fuses_kill h10, fuses_svn h10, h12, fuses_pending h12, fuses_slots h12, fuses_markers h12, fuses_kill h12, fuses_svn h12]
@[simp] theorem State_trimWindow_fuses : ∀ x0 x1, (Sys2Proof.Machine.State.trimWindow x0 x1).fuses = x0.fuses := by
    intro x0 x1
    unfold Sys2Proof.Machine.State.trimWindow; (repeat' split) <;> simp [fuses_foldl]
@[simp] theorem State_grpFail_fuses : ∀ x0 x1 x2, (Sys2Proof.Machine.State.grpFail x0 x1 x2).fuses = x0.fuses := by
    intro x0 x1 x2
    rfl
@[simp] theorem State_readAs_fuses : ∀ x0 x1 x2, (Sys2Proof.Machine.State.readAs x0 x1 x2).fuses = x0.fuses := by
    intro x0 x1 x2
    unfold Sys2Proof.Machine.State.readAs; (repeat' split) <;> simp [fuses_foldl]
@[simp] theorem State_afterReset_fuses : ∀ x0 x1, (Sys2Proof.Machine.State.afterReset x0 x1).fuses = x0.fuses := by
    intro x0 x1
    unfold Sys2Proof.Machine.State.afterReset; (repeat' split) <;> simp [fuses_foldl]
@[simp] theorem State_fullReset_fuses : ∀ x0 x1, (Sys2Proof.Machine.State.fullReset x0 x1).fuses = x0.fuses := by
    intro x0 x1
    unfold Sys2Proof.Machine.State.fullReset
    extract_lets y0 y1 y2 y3 y4 y5 y6 y7 y8 y9 y10 y11 y12 y13 y14 y15 y16 y17
    have h0 : y0.fuses = x0.fuses := by
      simp only [y0]
      (repeat' split) <;> (try simp [fuses_foldl])
    clear_value y0
    have h1 : y1.fuses = x0.fuses := by
      simp only [y1]
      (repeat' split) <;> (try simp [fuses_foldl, h0, fuses_pending h0, fuses_slots h0, fuses_markers h0, fuses_kill h0, fuses_svn h0])
    clear_value y1
    have h3 : y3.fuses = x0.fuses := by
      simp only [y3]
      (repeat' split) <;> (try simp [fuses_foldl, h0, fuses_pending h0, fuses_slots h0, fuses_markers h0, fuses_kill h0, fuses_svn h0, h1, fuses_pending h1, fuses_slots h1, fuses_markers h1, fuses_kill h1, fuses_svn h1])
    clear_value y3
    have h17 : y17.fuses = x0.fuses := by
      simp only [y17]
      (repeat' split) <;> (try simp [fuses_foldl, h0, fuses_pending h0, fuses_slots h0, fuses_markers h0, fuses_kill h0, fuses_svn h0, h1, fuses_pending h1, fuses_slots h1, fuses_markers h1, fuses_kill h1, fuses_svn h1, h3, fuses_pending h3, fuses_slots h3, fuses_markers h3, fuses_kill h3, fuses_svn h3, y14])
    clear_value y17
    (repeat' split) <;> simp [fuses_foldl, h0, fuses_pending h0, fuses_slots h0, fuses_markers h0, fuses_kill h0, fuses_svn h0, h1, fuses_pending h1, fuses_slots h1, fuses_markers h1, fuses_kill h1, fuses_svn h1, h3, fuses_pending h3, fuses_slots h3, fuses_markers h3, fuses_kill h3, fuses_svn h3, y14, h17, fuses_pending h17, fuses_slots h17, fuses_markers h17, fuses_kill h17, fuses_svn h17]
@[simp] theorem State_hioReset_fuses : ∀ x0 x1, (Sys2Proof.Machine.State.hioReset x0 x1).fuses = x0.fuses := by
    intro x0 x1
    unfold Sys2Proof.Machine.State.hioReset
    extract_lets y0 y1 y2 y3
    have h0 : y0.fuses = x0.fuses := by
      simp only [y0]
      (repeat' split) <;> (try simp [fuses_foldl])
    clear_value y0
    have h1 : y1.fuses = x0.fuses := by
      simp only [y1]
      (repeat' split) <;> (try simp [fuses_foldl, h0, fuses_pending h0, fuses_slots h0, fuses_markers h0, fuses_kill h0, fuses_svn h0])
    clear_value y1
    have h3 : y3.fuses = x0.fuses := by
      simp only [y3]
      (repeat' split) <;> (try simp [fuses_foldl, h0, fuses_pending h0, fuses_slots h0, fuses_markers h0, fuses_kill h0, fuses_svn h0, h1, fuses_pending h1, fuses_slots h1, fuses_markers h1, fuses_kill h1, fuses_svn h1])
    clear_value y3
    (repeat' split) <;> simp [fuses_foldl, h0, fuses_pending h0, fuses_slots h0, fuses_markers h0, fuses_kill h0, fuses_svn h0, h1, fuses_pending h1, fuses_slots h1, fuses_markers h1, fuses_kill h1, fuses_svn h1, h3, fuses_pending h3, fuses_slots h3, fuses_markers h3, fuses_kill h3, fuses_svn h3]
@[simp] theorem State_fault_fuses : ∀ x0 x1 x2 x3 x4 x5, (Sys2Proof.Machine.State.fault x0 x1 x2 x3 x4 x5).fuses = x0.fuses := by
    intro x0 x1 x2 x3 x4 x5
    unfold State.fault
    extract_lets r old r1 s1 s2 s3 w s4 m s5 s6
    have h2 : s2.fuses = x0.fuses := by simp [s2, s1]
    have h3 : s3.fuses = x0.fuses := by rw [← h2]; simp only [s3]; split <;> simp
    have h4 : s4.fuses = x0.fuses := by rw [← h3]; simp only [s4]; split <;> simp
    have h5 : s5.fuses = x0.fuses := by rw [← h4]; simp only [s5]; split <;> simp
    split
    · split <;> simp [s6, h5]
    · exact h5
@[simp] theorem State_flt1_fuses : ∀ x0 x1 x2, (Sys2Proof.Machine.State.flt1 x0 x1 x2).fuses = x0.fuses := by
    intro x0 x1 x2
    unfold Sys2Proof.Machine.State.flt1; (repeat' split) <;> simp [fuses_foldl]
@[simp] theorem State_unsealOne_fuses : ∀ x0 x1 x2, (Sys2Proof.Machine.State.unsealOne x0 x1 x2).fuses = x0.fuses := by
    intro x0 x1 x2
    unfold Sys2Proof.Machine.State.unsealOne
    extract_lets y0 y1
    have h0 : y0.fuses = x0.fuses := by
      simp only [y0]
      (repeat' split) <;> (try simp [fuses_foldl])
    clear_value y0
    (repeat' split) <;> simp [fuses_foldl, h0, fuses_pending h0, fuses_slots h0, fuses_markers h0, fuses_kill h0, fuses_svn h0]
@[simp] theorem State_isoCheck_fuses : ∀ x0, (Sys2Proof.Machine.State.isoCheck x0).fuses = x0.fuses := by
    intro x0
    unfold State.isoCheck
    rw [fuses_foldl]
    intro x a
    dsimp only
    (repeat' split) <;> simp
@[simp] theorem State_outvote_fuses : ∀ x0 x1, (Sys2Proof.Machine.State.outvote x0 x1).fuses = x0.fuses := by
    intro x0 x1
    unfold Sys2Proof.Machine.State.outvote
    extract_lets y0 y1
    have h0 : y0.fuses = x0.fuses := by
      simp only [y0]
      (repeat' split) <;> (try simp [fuses_foldl])
    clear_value y0
    (repeat' split) <;> simp [fuses_foldl, h0, fuses_pending h0, fuses_slots h0, fuses_markers h0, fuses_kill h0, fuses_svn h0]
@[simp] theorem State_nrgFault_fuses : ∀ x0, (Sys2Proof.Machine.State.nrgFault x0).fuses = x0.fuses := by
    intro x0
    unfold Sys2Proof.Machine.State.nrgFault; (repeat' split) <;> simp [fuses_foldl]
@[simp] theorem State_nrgRecheck_fuses : ∀ x0, (Sys2Proof.Machine.State.nrgRecheck x0).fuses = x0.fuses := by
    intro x0
    unfold Sys2Proof.Machine.State.nrgRecheck; (repeat' split) <;> simp [fuses_foldl]
@[simp] theorem State_rawStart_fuses : ∀ x0 x1 x2, (Sys2Proof.Machine.State.rawStart x0 x1 x2).fuses = x0.fuses := by
    intro x0 x1 x2
    unfold Sys2Proof.Machine.State.rawStart
    extract_lets y0 y1 y2 y3 y4
    have h2 : y2.fuses = x0.fuses := by
      simp only [y2]
      (repeat' split) <;> (try simp [fuses_foldl])
    clear_value y2
    have h4 : y4.fuses = x0.fuses := by
      simp only [y4]
      (repeat' split) <;> (try simp [fuses_foldl, h2, fuses_pending h2, fuses_slots h2, fuses_markers h2, fuses_kill h2, fuses_svn h2])
    clear_value y4
    (repeat' split) <;> simp [fuses_foldl, h2, fuses_pending h2, fuses_slots h2, fuses_markers h2, fuses_kill h2, fuses_svn h2, h4, fuses_pending h4, fuses_slots h4, fuses_markers h4, fuses_kill h4, fuses_svn h4]
@[simp] theorem State_windowFail_fuses : ∀ x0 x1 x2, (Sys2Proof.Machine.State.windowFail x0 x1 x2).fuses = x0.fuses := by
    intro x0 x1 x2
    unfold Sys2Proof.Machine.State.windowFail
    extract_lets y0 y1 y2 y3 y4 y5
    have h1 : y1.fuses = x0.fuses := by
      simp only [y1]
      (repeat' split) <;> (try simp [fuses_foldl])
    clear_value y1
    have h3 : y3.fuses = x0.fuses := by
      simp only [y3]
      (repeat' split) <;> (try simp [fuses_foldl, h1, fuses_pending h1, fuses_slots h1, fuses_markers h1, fuses_kill h1, fuses_svn h1])
    clear_value y3
    have h5 : y5.fuses = x0.fuses := by
      simp only [y5]
      (repeat' split) <;> (try simp [fuses_foldl, h1, fuses_pending h1, fuses_slots h1, fuses_markers h1, fuses_kill h1, fuses_svn h1, h3, fuses_pending h3, fuses_slots h3, fuses_markers h3, fuses_kill h3, fuses_svn h3])
    clear_value y5
    (repeat' split) <;> simp [fuses_foldl, h1, fuses_pending h1, fuses_slots h1, fuses_markers h1, fuses_kill h1, fuses_svn h1, h3, fuses_pending h3, fuses_slots h3, fuses_markers h3, fuses_kill h3, fuses_svn h3, h5, fuses_pending h5, fuses_slots h5, fuses_markers h5, fuses_kill h5, fuses_svn h5]
@[simp] theorem State_windowPass_fuses : ∀ x0 x1, (Sys2Proof.Machine.State.windowPass x0 x1).fuses = x0.fuses := by
    intro x0 x1
    unfold Sys2Proof.Machine.State.windowPass
    extract_lets y0 y1 y2 y3
    have h1 : y1.fuses = x0.fuses := by
      simp only [y1]
      (repeat' split) <;> (try simp [fuses_foldl])
    clear_value y1
    have h3 : y3.fuses = x0.fuses := by
      simp only [y3]
      (repeat' split) <;> (try simp [fuses_foldl, h1, fuses_pending h1, fuses_slots h1, fuses_markers h1, fuses_kill h1, fuses_svn h1])
    clear_value y3
    (repeat' split) <;> simp [fuses_foldl, h1, fuses_pending h1, fuses_slots h1, fuses_markers h1, fuses_kill h1, fuses_svn h1, h3, fuses_pending h3, fuses_slots h3, fuses_markers h3, fuses_kill h3, fuses_svn h3]
@[simp] theorem State_lanesLost_fuses : ∀ x0, (Sys2Proof.Machine.State.lanesLost x0).fuses = x0.fuses := by
    intro x0
    unfold Sys2Proof.Machine.State.lanesLost
    extract_lets y0
    (repeat' split) <;> simp [fuses_foldl]
@[simp] theorem State_askSeeds_fuses : ∀ x0, (Sys2Proof.Machine.State.askSeeds x0).fuses = x0.fuses := by
    intro x0
    unfold Sys2Proof.Machine.State.askSeeds; (repeat' split) <;> simp [fuses_foldl]
@[simp] theorem State_nrgStart_fuses : ∀ x0, (Sys2Proof.Machine.State.nrgStart x0).fuses = x0.fuses := by
    intro x0
    unfold Sys2Proof.Machine.State.nrgStart
    extract_lets y0 y1 y2 y3
    have h1 : y1.fuses = x0.fuses := by
      simp only [y1]
      (repeat' split) <;> (try simp [fuses_foldl])
    clear_value y1
    have h2 : y2.fuses = x0.fuses := by
      simp only [y2]
      (repeat' split) <;> (try simp [fuses_foldl, h1, fuses_pending h1, fuses_slots h1, fuses_markers h1, fuses_kill h1, fuses_svn h1])
    clear_value y2
    (repeat' split) <;> simp [fuses_foldl, h1, fuses_pending h1, fuses_slots h1, fuses_markers h1, fuses_kill h1, fuses_svn h1, h2, fuses_pending h2, fuses_slots h2, fuses_markers h2, fuses_kill h2, fuses_svn h2]
@[simp] theorem State_nrgRestart_fuses : ∀ x0, (Sys2Proof.Machine.State.nrgRestart x0).fuses = x0.fuses := by
    intro x0
    unfold Sys2Proof.Machine.State.nrgRestart; (repeat' split) <;> simp [fuses_foldl]
@[simp] theorem State_grantCmd_fuses : ∀ x0 x1 x2, (Sys2Proof.Machine.State.grantCmd x0 x1 x2).fuses = x0.fuses := by
    intro x0 x1 x2
    unfold Sys2Proof.Machine.State.grantCmd; (repeat' split) <;> simp [fuses_foldl]
@[simp] theorem State_seed_fuses : ∀ x0 x1 x2, (Sys2Proof.Machine.State.seed x0 x1 x2).fuses = x0.fuses := by
    intro x0 x1 x2
    unfold Sys2Proof.Machine.State.seed
    extract_lets y0 y1 y2 y3
    have h1 : y1.fuses = x0.fuses := by
      simp only [y1]
      (repeat' split) <;> (try simp [fuses_foldl])
    clear_value y1
    have h2 : y2.fuses = x0.fuses := by
      simp only [y2]
      (repeat' split) <;> (try simp [fuses_foldl, h1, fuses_pending h1, fuses_slots h1, fuses_markers h1, fuses_kill h1, fuses_svn h1])
    clear_value y2
    (repeat' split) <;> simp [fuses_foldl, h1, fuses_pending h1, fuses_slots h1, fuses_markers h1, fuses_kill h1, fuses_svn h1, h2, fuses_pending h2, fuses_slots h2, fuses_markers h2, fuses_kill h2, fuses_svn h2]
@[simp] theorem State_mbxAsk_fuses : ∀ x0 x1 x2, (Sys2Proof.Machine.State.mbxAsk x0 x1 x2).fuses = x0.fuses := by
    intro x0 x1 x2
    unfold Sys2Proof.Machine.State.mbxAsk; (repeat' split) <;> simp [fuses_foldl]
@[simp] theorem State_mbxGo_fuses : ∀ x0 x1 x2, (Sys2Proof.Machine.State.mbxGo x0 x1 x2).fuses = x0.fuses := by
    intro x0 x1 x2
    unfold Sys2Proof.Machine.State.mbxGo
    extract_lets y0 y1 y2 y3 y4 y5
    have h2 : y2.fuses = x0.fuses := by
      simp only [y2]
      (repeat' split) <;> (try simp [fuses_foldl])
    clear_value y2
    have h3 : y3.fuses = x0.fuses := by
      simp only [y3]
      (repeat' split) <;> (try simp [fuses_foldl, h2, fuses_pending h2, fuses_slots h2, fuses_markers h2, fuses_kill h2, fuses_svn h2])
    clear_value y3
    have h5 : y5.fuses = x0.fuses := by
      simp only [y5]
      (repeat' split) <;> (try simp [fuses_foldl, h2, fuses_pending h2, fuses_slots h2, fuses_markers h2, fuses_kill h2, fuses_svn h2, h3, fuses_pending h3, fuses_slots h3, fuses_markers h3, fuses_kill h3, fuses_svn h3])
    clear_value y5
    (repeat' split) <;> simp [fuses_foldl, h2, fuses_pending h2, fuses_slots h2, fuses_markers h2, fuses_kill h2, fuses_svn h2, h3, fuses_pending h3, fuses_slots h3, fuses_markers h3, fuses_kill h3, fuses_svn h3, h5, fuses_pending h5, fuses_slots h5, fuses_markers h5, fuses_kill h5, fuses_svn h5]
@[simp] theorem State_mbxAck_fuses : ∀ x0 x1 x2, (Sys2Proof.Machine.State.mbxAck x0 x1 x2).fuses = x0.fuses := by
    intro x0 x1 x2
    unfold Sys2Proof.Machine.State.mbxAck
    extract_lets y0
    have h0 : y0.fuses = x0.fuses := by
      simp only [y0]
      (repeat' split) <;> (try simp [fuses_foldl])
    clear_value y0
    (repeat' split) <;> simp [fuses_foldl, h0, fuses_pending h0, fuses_slots h0, fuses_markers h0, fuses_kill h0, fuses_svn h0]
@[simp] theorem State_applyStat_fuses : ∀ x0 x1 x2 x3, (Sys2Proof.Machine.State.applyStat x0 x1 x2 x3).fuses = x0.fuses := by
    intro x0 x1 x2 x3
    rfl
@[simp] theorem State_dedicate_fuses : ∀ x0 x1, (Sys2Proof.Machine.State.dedicate x0 x1).fuses = x0.fuses := by
    intro x0 x1
    unfold Sys2Proof.Machine.State.dedicate
    extract_lets y0
    (repeat' split) <;> simp [fuses_foldl]
@[simp] theorem State_applyGroup_fuses : ∀ x0 x1 x2, (Sys2Proof.Machine.State.applyGroup x0 x1 x2).fuses = x0.fuses := by
    intro x0 x1 x2
    unfold Sys2Proof.Machine.State.applyGroup
    extract_lets y0 y1 y2 y3 y4 y5
    have h3 : y3.fuses = x0.fuses := by
      simp only [y3]
      (repeat' split) <;> (try simp [fuses_foldl])
    clear_value y3
    have h5 : y5.fuses = x0.fuses := by
      simp only [y5]
      (repeat' split) <;> (try simp [fuses_foldl, h3, fuses_pending h3, fuses_slots h3, fuses_markers h3, fuses_kill h3, fuses_svn h3])
    clear_value y5
    (repeat' split) <;> simp [fuses_foldl, h3, fuses_pending h3, fuses_slots h3, fuses_markers h3, fuses_kill h3, fuses_svn h3, h5, fuses_pending h5, fuses_slots h5, fuses_markers h5, fuses_kill h5, fuses_svn h5]
@[simp] theorem State_vfmApply_fuses : ∀ x0 x1, (Sys2Proof.Machine.State.vfmApply x0 x1).fuses = x0.fuses := by
    intro x0 x1
    unfold Sys2Proof.Machine.State.vfmApply
    extract_lets y0 y1 y2
    have h2 : y2.fuses = x0.fuses := by
      simp only [y2]
      (repeat' split) <;> (try simp [fuses_foldl])
    clear_value y2
    (repeat' split) <;> simp [fuses_foldl, h2, fuses_pending h2, fuses_slots h2, fuses_markers h2, fuses_kill h2, fuses_svn h2]
@[simp] theorem State_quiesceStat_fuses : ∀ x0 x1 x2, (Sys2Proof.Machine.State.quiesceStat x0 x1 x2).fuses = x0.fuses := by
    intro x0 x1 x2
    unfold Sys2Proof.Machine.State.quiesceStat
    extract_lets y0
    (repeat' split) <;> simp [fuses_foldl]
@[simp] theorem State_fnClear_fuses : ∀ x0 x1, (Sys2Proof.Machine.State.fnClear x0 x1).fuses = x0.fuses := by
    intro x0 x1
    unfold Sys2Proof.Machine.State.fnClear
    extract_lets y0 y1 y2 y3 y4 y5 y6 y7 y8 y9 y10 y11 y12 y13 y14 y15
    have h1 : y1.fuses = x0.fuses := by
      simp only [y1]
      (repeat' split) <;> (try simp [fuses_foldl])
    clear_value y1
    have h2 : y2.fuses = x0.fuses := by
      simp only [y2]
      (repeat' split) <;> (try simp [fuses_foldl, h1, fuses_pending h1, fuses_slots h1, fuses_markers h1, fuses_kill h1, fuses_svn h1])
    clear_value y2
    have h5 : y5.fuses = x0.fuses := by
      simp only [y5]
      (repeat' split) <;> (try simp [fuses_foldl, h1, fuses_pending h1, fuses_slots h1, fuses_markers h1, fuses_kill h1, fuses_svn h1, h2, fuses_pending h2, fuses_slots h2, fuses_markers h2, fuses_kill h2, fuses_svn h2])
    clear_value y5
    have h15 : y15.fuses = x0.fuses := by
      simp only [y15]
      (repeat' split) <;> (try simp [fuses_foldl, h1, fuses_pending h1, fuses_slots h1, fuses_markers h1, fuses_kill h1, fuses_svn h1, h2, fuses_pending h2, fuses_slots h2, fuses_markers h2, fuses_kill h2, fuses_svn h2, h5, fuses_pending h5, fuses_slots h5, fuses_markers h5, fuses_kill h5, fuses_svn h5])
    clear_value y15
    (repeat' split) <;> simp [fuses_foldl, h1, fuses_pending h1, fuses_slots h1, fuses_markers h1, fuses_kill h1, fuses_svn h1, h2, fuses_pending h2, fuses_slots h2, fuses_markers h2, fuses_kill h2, fuses_svn h2, h5, fuses_pending h5, fuses_slots h5, fuses_markers h5, fuses_kill h5, fuses_svn h5, h15, fuses_pending h15, fuses_slots h15, fuses_markers h15, fuses_kill h15, fuses_svn h15]
@[simp] theorem State_flrStart_fuses : ∀ x0 x1, (Sys2Proof.Machine.State.flrStart x0 x1).fuses = x0.fuses := by
    intro x0 x1
    unfold Sys2Proof.Machine.State.flrStart
    extract_lets y0 y1 y2 y3
    have h2 : y2.fuses = x0.fuses := by
      simp only [y2]
      (repeat' split) <;> (try simp [fuses_foldl])
    clear_value y2
    (repeat' split) <;> simp [fuses_foldl, h2, fuses_pending h2, fuses_slots h2, fuses_markers h2, fuses_kill h2, fuses_svn h2]
@[simp] theorem State_flrWaiting_fuses : ∀ x0, (Sys2Proof.Machine.State.flrWaiting x0).fuses = x0.fuses := by
    intro x0
    unfold Sys2Proof.Machine.State.flrWaiting
    extract_lets y0
    (repeat' split) <;> simp [fuses_foldl]
@[simp] theorem State_vfmSel_fuses : ∀ x0 x1, (Sys2Proof.Machine.State.vfmSel x0 x1).fuses = x0.fuses := by
    intro x0 x1
    unfold Sys2Proof.Machine.State.vfmSel
    extract_lets y0 y1 y2
    have h1 : y1.fuses = x0.fuses := by
      simp only [y1]
      (repeat' split) <;> (try simp [fuses_foldl])
    clear_value y1
    (repeat' split) <;> simp [fuses_foldl, h1, fuses_pending h1, fuses_slots h1, fuses_markers h1, fuses_kill h1, fuses_svn h1]
@[simp] theorem State_flrBit_fuses : ∀ x0 x1, (Sys2Proof.Machine.State.flrBit x0 x1).fuses = x0.fuses := by
    intro x0 x1
    unfold Sys2Proof.Machine.State.flrBit
    extract_lets y0 y1
    have h1 : y1.fuses = x0.fuses := by
      simp only [y1]
      (repeat' split) <;> (try simp [fuses_foldl])
    clear_value y1
    (repeat' split) <;> simp [fuses_foldl, h1, fuses_pending h1, fuses_slots h1, fuses_markers h1, fuses_kill h1, fuses_svn h1]
@[simp] theorem State_quiesceStart_fuses : ∀ x0 x1, (Sys2Proof.Machine.State.quiesceStart x0 x1).fuses = x0.fuses := by
    intro x0 x1
    unfold Sys2Proof.Machine.State.quiesceStart; (repeat' split) <;> simp [fuses_foldl]
@[simp] theorem State_answerQuiesce_fuses : ∀ x0 x1, (Sys2Proof.Machine.State.answerQuiesce x0 x1).fuses = x0.fuses := by
    intro x0 x1
    unfold Sys2Proof.Machine.State.answerQuiesce; (repeat' split) <;> simp [fuses_foldl]
@[simp] theorem State_fnConf_fuses : ∀ x0 x1, (Sys2Proof.Machine.State.fnConf x0 x1).fuses = x0.fuses := by
    intro x0 x1
    rfl
@[simp] theorem State_fnStep8_fuses : ∀ x0 x1, (Sys2Proof.Machine.State.fnStep8 x0 x1).fuses = x0.fuses := by
    intro x0 x1
    rfl
@[simp] theorem State_flrEnd_fuses : ∀ x0 x1, (Sys2Proof.Machine.State.flrEnd x0 x1).fuses = x0.fuses := by
    intro x0 x1
    rfl
@[simp] theorem State_quiesceRelease_fuses : ∀ x0 x1, (Sys2Proof.Machine.State.quiesceRelease x0 x1).fuses = x0.fuses := by
    intro x0 x1
    unfold Sys2Proof.Machine.State.quiesceRelease; (repeat' split) <;> simp [fuses_foldl]
@[simp] theorem State_vfmQuiesce_fuses : ∀ x0 x1, (Sys2Proof.Machine.State.vfmQuiesce x0 x1).fuses = x0.fuses := by
    intro x0 x1
    unfold Sys2Proof.Machine.State.vfmQuiesce; (repeat' split) <;> simp [fuses_foldl]
@[simp] theorem State_destroyFn_fuses : ∀ x0 x1, (Sys2Proof.Machine.State.destroyFn x0 x1).fuses = x0.fuses := by
    intro x0 x1
    unfold Sys2Proof.Machine.State.destroyFn
    extract_lets y0 y1 y2
    have h0 : y0.fuses = x0.fuses := by
      simp only [y0]
      (repeat' split) <;> (try simp [fuses_foldl])
    clear_value y0
    (repeat' split) <;> simp [fuses_foldl, h0, fuses_pending h0, fuses_slots h0, fuses_markers h0, fuses_kill h0, fuses_svn h0]
@[simp] theorem State_setAttrs_fuses : ∀ x0 x1 x2 x3, (Sys2Proof.Machine.State.setAttrs x0 x1 x2 x3).fuses = x0.fuses := by
    intro x0 x1 x2 x3
    rfl
@[simp] theorem State_endLost_fuses : ∀ x0, (Sys2Proof.Machine.State.endLost x0).fuses = x0.fuses := by
    intro x0
    rfl
@[simp] theorem State_measure_fuses : ∀ x0 x1 x2 x3 x4, (Sys2Proof.Machine.State.measure x0 x1 x2 x3 x4).fuses = x0.fuses := by
    intro x0 x1 x2 x3 x4
    rfl
@[simp] theorem State_install_fuses : ∀ x0 x1, (Sys2Proof.Machine.State.install x0 x1).fuses = x0.fuses := by
    intro x0 x1
    rfl
@[simp] theorem State_clearSigner_fuses : ∀ x0 x1, (Sys2Proof.Machine.State.clearSigner x0 x1).fuses = x0.fuses := by
    intro x0 x1
    unfold Sys2Proof.Machine.State.clearSigner; (repeat' split) <;> simp [fuses_foldl]
@[simp] theorem State_startImage_fuses : ∀ x0 x1, (Sys2Proof.Machine.State.startImage x0 x1).fuses = x0.fuses := by
    intro x0 x1
    rfl
@[simp] theorem State_setBank_fuses : ∀ x0 x1 x2, (Sys2Proof.Machine.State.setBank x0 x1 x2).fuses = x0.fuses := by
    intro x0 x1 x2
    rfl
@[simp] theorem State_failTrial_fuses : ∀ x0, (Sys2Proof.Machine.State.failTrial x0).fuses = x0.fuses := by
    intro x0
    unfold Sys2Proof.Machine.State.failTrial
    extract_lets y0
    (repeat' split) <;> simp [fuses_foldl]
@[simp] theorem State_hearthReset_fuses : ∀ x0, (Sys2Proof.Machine.State.hearthReset x0).fuses = x0.fuses := by
    intro x0
    unfold Sys2Proof.Machine.State.hearthReset; (repeat' split) <;> simp [fuses_foldl]
@[simp] theorem State_failover_fuses : ∀ x0 x1, (Sys2Proof.Machine.State.failover x0 x1).fuses = x0.fuses := by
    intro x0 x1
    unfold Sys2Proof.Machine.State.failover
    extract_lets y0
    have h0 : y0.fuses = x0.fuses := by
      simp only [y0]
      (repeat' split) <;> (try simp [fuses_foldl])
    clear_value y0
    (repeat' split) <;> simp [fuses_foldl, h0, fuses_pending h0, fuses_slots h0, fuses_markers h0, fuses_kill h0, fuses_svn h0]
@[simp] theorem State_tmpErase_fuses : ∀ x0, (Sys2Proof.Machine.State.tmpErase x0).fuses = x0.fuses := by
    intro x0
    unfold Sys2Proof.Machine.State.tmpErase
    extract_lets y0 y1
    have h0 : y0.fuses = x0.fuses := by
      simp only [y0]
      (repeat' split) <;> (try simp [fuses_foldl])
    clear_value y0
    (repeat' split) <;> simp [fuses_foldl, h0, fuses_pending h0, fuses_slots h0, fuses_markers h0, fuses_kill h0, fuses_svn h0]
@[simp] theorem State_tmpFree_fuses : ∀ x0 x1, (Sys2Proof.Machine.State.tmpFree x0 x1).fuses = x0.fuses := by
    intro x0 x1
    unfold Sys2Proof.Machine.State.tmpFree; (repeat' split) <;> simp [fuses_foldl]
@[simp] theorem State_tmpLog_fuses : ∀ x0 x1 x2 x3, (Sys2Proof.Machine.State.tmpLog x0 x1 x2 x3).fuses = x0.fuses := by
    intro x0 x1 x2 x3
    unfold Sys2Proof.Machine.State.tmpLog
    extract_lets y0
    have h0 : y0.fuses = x0.fuses := by
      simp only [y0]
      (repeat' split) <;> (try simp [fuses_foldl])
    clear_value y0
    (repeat' split) <;> simp [fuses_foldl, h0, fuses_pending h0, fuses_slots h0, fuses_markers h0, fuses_kill h0, fuses_svn h0]
@[simp] theorem State_alarms_fuses : ∀ x0 x1, (Sys2Proof.Machine.State.alarms x0 x1).fuses = x0.fuses := by
    intro x0 x1
    unfold Sys2Proof.Machine.State.alarms
    extract_lets y0 y1 y2 y3 y4 y5 y6 y7
    have h3 : y3.fuses = x0.fuses := by
      simp only [y3]
      (repeat' split) <;> (try simp [fuses_foldl])
    clear_value y3
    have h5 : y5.fuses = x0.fuses := by
      simp only [y5]
      (repeat' split) <;> (try simp [fuses_foldl, h3, fuses_pending h3, fuses_slots h3, fuses_markers h3, fuses_kill h3, fuses_svn h3, y4])
    clear_value y5
    have h6 : y6.fuses = x0.fuses := by
      simp only [y6]
      (repeat' split) <;> (try simp [fuses_foldl, h3, fuses_pending h3, fuses_slots h3, fuses_markers h3, fuses_kill h3, fuses_svn h3, y4, h5, fuses_pending h5, fuses_slots h5, fuses_markers h5, fuses_kill h5, fuses_svn h5])
    clear_value y6
    have h7 : y7.fuses = x0.fuses := by
      simp only [y7]
      (repeat' split) <;> (try simp [fuses_foldl, h3, fuses_pending h3, fuses_slots h3, fuses_markers h3, fuses_kill h3, fuses_svn h3, y4, h5, fuses_pending h5, fuses_slots h5, fuses_markers h5, fuses_kill h5, fuses_svn h5, h6, fuses_pending h6, fuses_slots h6, fuses_markers h6, fuses_kill h6, fuses_svn h6])
    clear_value y7
    (repeat' split) <;> simp [fuses_foldl, h3, fuses_pending h3, fuses_slots h3, fuses_markers h3, fuses_kill h3, fuses_svn h3, y4, h5, fuses_pending h5, fuses_slots h5, fuses_markers h5, fuses_kill h5, fuses_svn h5, h6, fuses_pending h6, fuses_slots h6, fuses_markers h6, fuses_kill h6, fuses_svn h6, h7, fuses_pending h7, fuses_slots h7, fuses_markers h7, fuses_kill h7, fuses_svn h7]
@[simp] theorem State_backupAlarm_fuses : ∀ x0 x1 x2, (Sys2Proof.Machine.State.backupAlarm x0 x1 x2).fuses = x0.fuses := by
    intro x0 x1 x2
    rfl
@[simp] theorem State_askTmpTest_fuses : ∀ x0 x1, (Sys2Proof.Machine.State.askTmpTest x0 x1).fuses = x0.fuses := by
    intro x0 x1
    unfold Sys2Proof.Machine.State.askTmpTest; (repeat' split) <;> simp [fuses_foldl]
@[simp] theorem State_tmpLock_fuses : ∀ x0, (Sys2Proof.Machine.State.tmpLock x0).fuses = x0.fuses := by
    intro x0
    rfl
@[simp] theorem State_nextTmpTest_fuses : ∀ x0, (Sys2Proof.Machine.State.nextTmpTest x0).fuses = x0.fuses := by
    intro x0
    unfold Sys2Proof.Machine.State.nextTmpTest; (repeat' split) <;> simp [fuses_foldl]
@[simp] theorem State_setTmpSrc_fuses : ∀ x0 x1 x2, (Sys2Proof.Machine.State.setTmpSrc x0 x1 x2).fuses = x0.fuses := by
    intro x0 x1 x2
    rfl
@[simp] theorem State_scanOne_fuses : ∀ x0 x1 x2, (Sys2Proof.Machine.State.scanOne x0 x1 x2).fuses = x1.fuses := by
    intro x0 x1 x2
    unfold Sys2Proof.Machine.State.scanOne
    extract_lets y0 y1 y2
    have h2 : y2.fuses = x1.fuses := by
      simp only [y2]
      (repeat' split) <;> (try simp [fuses_foldl])
    clear_value y2
    (repeat' split) <;> simp [fuses_foldl, h2, fuses_pending h2, fuses_slots h2, fuses_markers h2, fuses_kill h2, fuses_svn h2]
@[simp] theorem State_startSeries_fuses : ∀ x0, (Sys2Proof.Machine.State.startSeries x0).fuses = x0.fuses := by
    intro x0
    unfold Sys2Proof.Machine.State.startSeries; (repeat' split) <;> simp [fuses_foldl]
@[simp] theorem State_tmpFail_fuses : ∀ x0 x1 x2, (Sys2Proof.Machine.State.tmpFail x0 x1 x2).fuses = x0.fuses := by
    intro x0 x1 x2
    unfold Sys2Proof.Machine.State.tmpFail
    extract_lets y0
    have h0 : y0.fuses = x0.fuses := by
      simp only [y0]
      (repeat' split) <;> (try simp [fuses_foldl])
    clear_value y0
    (repeat' split) <;> simp [fuses_foldl, h0, fuses_pending h0, fuses_slots h0, fuses_markers h0, fuses_kill h0, fuses_svn h0]
@[simp] theorem State_openPeer_fuses : ∀ x0 x1, (Sys2Proof.Machine.State.openPeer x0 x1).fuses = x0.fuses := by
    intro x0 x1
    unfold Sys2Proof.Machine.State.openPeer
    extract_lets y0
    (repeat' split) <;> simp [fuses_foldl]
@[simp] theorem State_sendSecret_fuses : ∀ x0 x1 x2, (Sys2Proof.Machine.State.sendSecret x0 x1 x2).fuses = x0.fuses := by
    intro x0 x1 x2
    unfold Sys2Proof.Machine.State.sendSecret
    extract_lets y0
    have h0 : y0.fuses = x0.fuses := by
      simp only [y0]
      (repeat' split) <;> (try simp [fuses_foldl])
    clear_value y0
    (repeat' split) <;> simp [fuses_foldl, h0, fuses_pending h0, fuses_slots h0, fuses_markers h0, fuses_kill h0, fuses_svn h0]
@[simp] theorem State_fabStat_fuses : ∀ x0, (Sys2Proof.Machine.State.fabStat x0).fuses = x0.fuses := by
    intro x0
    rfl
@[simp] theorem State_lbEnd_fuses : ∀ x0 x1, (Sys2Proof.Machine.State.lbEnd x0 x1).fuses = x0.fuses := by
    intro x0 x1
    unfold Sys2Proof.Machine.State.lbEnd
    extract_lets y0
    (repeat' split) <;> simp [fuses_foldl]
@[simp] theorem State_setPort_fuses : ∀ x0 x1 x2, (Sys2Proof.Machine.State.setPort x0 x1 x2).fuses = x0.fuses := by
    intro x0 x1 x2
    unfold Sys2Proof.Machine.State.setPort
    extract_lets y0 y1 y2 y3 y4
    have h1 : y1.fuses = x0.fuses := by
      simp only [y1]
      (repeat' split) <;> (try simp [fuses_foldl])
    clear_value y1
    have h2 : y2.fuses = x0.fuses := by
      simp only [y2]
      (repeat' split) <;> (try simp [fuses_foldl, h1, fuses_pending h1, fuses_slots h1, fuses_markers h1, fuses_kill h1, fuses_svn h1])
    clear_value y2
    have h3 : y3.fuses = x0.fuses := by
      simp only [y3]
      (repeat' split) <;> (try simp [fuses_foldl, h1, fuses_pending h1, fuses_slots h1, fuses_markers h1, fuses_kill h1, fuses_svn h1, h2, fuses_pending h2, fuses_slots h2, fuses_markers h2, fuses_kill h2, fuses_svn h2])
    clear_value y3
    (repeat' split) <;> simp [fuses_foldl, h1, fuses_pending h1, fuses_slots h1, fuses_markers h1, fuses_kill h1, fuses_svn h1, h2, fuses_pending h2, fuses_slots h2, fuses_markers h2, fuses_kill h2, fuses_svn h2, h3, fuses_pending h3, fuses_slots h3, fuses_markers h3, fuses_kill h3, fuses_svn h3]
@[simp] theorem State_startShake_fuses : ∀ x0 x1, (Sys2Proof.Machine.State.startShake x0 x1).fuses = x0.fuses := by
    intro x0 x1
    unfold Sys2Proof.Machine.State.startShake
    extract_lets y0 y1
    (repeat' split) <;> simp [fuses_foldl]
@[simp] theorem State_relink_fuses : ∀ x0, (Sys2Proof.Machine.State.relink x0).fuses = x0.fuses := by
    intro x0
    unfold Sys2Proof.Machine.State.relink; (repeat' split) <;> simp [fuses_foldl]
@[simp] theorem State_enqueue_fuses : ∀ x0 x1, (Sys2Proof.Machine.State.enqueue x0 x1).fuses = x0.fuses := by
    intro x0 x1
    unfold Sys2Proof.Machine.State.enqueue
    extract_lets y0 y1 y2 y3
    (repeat' split) <;> simp [fuses_foldl]
@[simp] theorem State_dequeue_fuses : ∀ x0 x1, (Sys2Proof.Machine.State.dequeue x0 x1).fuses = x0.fuses := by
    intro x0 x1
    rfl
@[simp] theorem State_applyPorts_fuses : ∀ x0, (Sys2Proof.Machine.State.applyPorts x0).fuses = x0.fuses := by
    intro x0
    unfold Sys2Proof.Machine.State.applyPorts; (repeat' split) <;> simp [fuses_foldl]
@[simp] theorem State_applyFabric_fuses : ∀ x0 x1, (Sys2Proof.Machine.State.applyFabric x0 x1).fuses = x0.fuses := by
    intro x0 x1
    unfold Sys2Proof.Machine.State.applyFabric
    extract_lets y0 y1 y2 y3 y4
    have h2 : y2.fuses = x0.fuses := by
      simp only [y2]
      (repeat' split) <;> (try simp [fuses_foldl])
    clear_value y2
    have h4 : y4.fuses = x0.fuses := by
      simp only [y4]
      (repeat' split) <;> (try simp [fuses_foldl, h2, fuses_pending h2, fuses_slots h2, fuses_markers h2, fuses_kill h2, fuses_svn h2])
    clear_value y4
    (repeat' split) <;> simp [fuses_foldl, h2, fuses_pending h2, fuses_slots h2, fuses_markers h2, fuses_kill h2, fuses_svn h2, h4, fuses_pending h4, fuses_slots h4, fuses_markers h4, fuses_kill h4, fuses_svn h4]
@[simp] theorem State_mirrorWake_fuses : ∀ x0, (Sys2Proof.Machine.State.mirrorWake x0).fuses = x0.fuses := by
    intro x0
    rfl
@[simp] theorem State_setWake_fuses : ∀ x0 x1 x2 x3 x4 x5 x6, (Sys2Proof.Machine.State.setWake x0 x1 x2 x3 x4 x5 x6).fuses = x0.fuses := by
    intro x0 x1 x2 x3 x4 x5 x6
    unfold Sys2Proof.Machine.State.setWake; (repeat' split) <;> simp [fuses_foldl]
@[simp] theorem State_applyGeneral_fuses : ∀ x0 x1, (Sys2Proof.Machine.State.applyGeneral x0 x1).fuses = x0.fuses := by
    intro x0 x1
    unfold Sys2Proof.Machine.State.applyGeneral
    extract_lets y0 y1 y2 y3
    have h0 : y0.fuses = x0.fuses := by
      simp only [y0]
      (repeat' split) <;> (try simp [fuses_foldl])
    clear_value y0
    have h1 : y1.fuses = x0.fuses := by
      simp only [y1]
      (repeat' split) <;> (try simp [fuses_foldl, h0, fuses_pending h0, fuses_slots h0, fuses_markers h0, fuses_kill h0, fuses_svn h0])
    clear_value y1
    have h2 : y2.fuses = x0.fuses := by
      simp only [y2]
      (repeat' split) <;> (try simp [fuses_foldl, h0, fuses_pending h0, fuses_slots h0, fuses_markers h0, fuses_kill h0, fuses_svn h0, h1, fuses_pending h1, fuses_slots h1, fuses_markers h1, fuses_kill h1, fuses_svn h1])
    clear_value y2
    have h3 : y3.fuses = x0.fuses := by
      simp only [y3]
      (repeat' split) <;> (try simp [fuses_foldl, h0, fuses_pending h0, fuses_slots h0, fuses_markers h0, fuses_kill h0, fuses_svn h0, h1, fuses_pending h1, fuses_slots h1, fuses_markers h1, fuses_kill h1, fuses_svn h1, h2, fuses_pending h2, fuses_slots h2, fuses_markers h2, fuses_kill h2, fuses_svn h2])
    clear_value y3
    (repeat' split) <;> simp [fuses_foldl, h0, fuses_pending h0, fuses_slots h0, fuses_markers h0, fuses_kill h0, fuses_svn h0, h1, fuses_pending h1, fuses_slots h1, fuses_markers h1, fuses_kill h1, fuses_svn h1, h2, fuses_pending h2, fuses_slots h2, fuses_markers h2, fuses_kill h2, fuses_svn h2, h3, fuses_pending h3, fuses_slots h3, fuses_markers h3, fuses_kill h3, fuses_svn h3]
@[simp] theorem State_allotAnew_fuses : ∀ x0, (Sys2Proof.Machine.State.allotAnew x0).fuses = x0.fuses := by
    intro x0
    rfl
@[simp] theorem State_chkGuard_fuses : ∀ x0 x1, (Sys2Proof.Machine.State.chkGuard x0 x1).fuses = x0.fuses := by
    intro x0 x1
    unfold Sys2Proof.Machine.State.chkGuard
    extract_lets y0
    (repeat' split) <;> simp [fuses_foldl]
@[simp] theorem State_applyChk_fuses : ∀ x0 x1, (Sys2Proof.Machine.State.applyChk x0 x1).fuses = x0.fuses := by
    intro x0 x1
    unfold Sys2Proof.Machine.State.applyChk; (repeat' split) <;> simp [fuses_foldl]
@[simp] theorem State_applyCurves_fuses : ∀ x0 x1, (Sys2Proof.Machine.State.applyCurves x0 x1).fuses = x0.fuses := by
    intro x0 x1
    rfl
@[simp] theorem State_applyTamper_fuses : ∀ x0 x1, (Sys2Proof.Machine.State.applyTamper x0 x1).fuses = x0.fuses := by
    intro x0 x1
    unfold Sys2Proof.Machine.State.applyTamper
    extract_lets y0 y1
    have h0 : y0.fuses = x0.fuses := by
      simp only [y0]
      (repeat' split) <;> (try simp [fuses_foldl])
    clear_value y0
    have h1 : y1.fuses = x0.fuses := by
      simp only [y1]
      (repeat' split) <;> (try simp [fuses_foldl, h0, fuses_pending h0, fuses_slots h0, fuses_markers h0, fuses_kill h0, fuses_svn h0])
    clear_value y1
    (repeat' split) <;> simp [fuses_foldl, h0, fuses_pending h0, fuses_slots h0, fuses_markers h0, fuses_kill h0, fuses_svn h0, h1, fuses_pending h1, fuses_slots h1, fuses_markers h1, fuses_kill h1, fuses_svn h1]
@[simp] theorem State_applyLow_fuses : ∀ x0 x1, (Sys2Proof.Machine.State.applyLow x0 x1).fuses = x0.fuses := by
    intro x0 x1
    rfl
@[simp] theorem State_switchCurve_fuses : ∀ x0 x1 x2, (Sys2Proof.Machine.State.switchCurve x0 x1 x2).fuses = x0.fuses := by
    intro x0 x1 x2
    rfl
@[simp] theorem State_dropCode_fuses : ∀ x0 x1, (Sys2Proof.Machine.State.dropCode x0 x1).fuses = x0.fuses := by
    intro x0 x1
    unfold Sys2Proof.Machine.State.dropCode
    extract_lets y0 y1 y2
    have h2 : y2.fuses = x0.fuses := by
      simp only [y2]
      (repeat' split) <;> (try simp [fuses_foldl])
    clear_value y2
    (repeat' split) <;> simp [fuses_foldl, h2, fuses_pending h2, fuses_slots h2, fuses_markers h2, fuses_kill h2, fuses_svn h2]
@[simp] theorem State_loseLine_fuses : ∀ x0 x1, (Sys2Proof.Machine.State.loseLine x0 x1).fuses = x0.fuses := by
    intro x0 x1
    unfold Sys2Proof.Machine.State.loseLine; (repeat' split) <;> simp [fuses_foldl]
@[simp] theorem State_hearthEvent_fuses : ∀ x0 x1 x2, (Sys2Proof.Machine.State.hearthEvent x0 x1 x2).fuses = x0.fuses := by
    intro x0 x1 x2
    unfold Sys2Proof.Machine.State.hearthEvent
    extract_lets y0
    (repeat' split) <;> simp [fuses_foldl]
@[simp] theorem State_flueRepeat_fuses : ∀ x0 x1 x2, (Sys2Proof.Machine.State.flueRepeat x0 x1 x2).fuses = x0.fuses := by
    intro x0 x1 x2
    unfold Sys2Proof.Machine.State.flueRepeat
    extract_lets y0 y1 y2 y3
    have h2 : y2.fuses = x0.fuses := by
      simp only [y2]
      (repeat' split) <;> (try simp [fuses_foldl])
    clear_value y2
    (repeat' split) <;> simp [fuses_foldl, h2, fuses_pending h2, fuses_slots h2, fuses_markers h2, fuses_kill h2, fuses_svn h2]
@[simp] theorem State_spareBack_fuses : ∀ x0 x1, (Sys2Proof.Machine.State.spareBack x0 x1).fuses = x0.fuses := by
    intro x0 x1
    unfold Sys2Proof.Machine.State.spareBack
    extract_lets y0
    (repeat' split) <;> simp [fuses_foldl]
@[simp] theorem State_passedFor_fuses : ∀ x0 x1, (Sys2Proof.Machine.State.passedFor x0 x1).fuses = x0.fuses := by
    intro x0 x1
    rfl
@[simp] theorem State_useNonce_fuses : ∀ x0 x1, (Sys2Proof.Machine.State.useNonce x0 x1).fuses = x0.fuses := by
    intro x0 x1
    rfl
@[simp] theorem State_lcDestroy_fuses : ∀ x0 x1, (Sys2Proof.Machine.State.lcDestroy x0 x1).fuses = x0.fuses := by
    intro x0 x1
    unfold Sys2Proof.Machine.State.lcDestroy
    extract_lets y0 y1 y2 y3 y4 y5 y6 y7 y8
    have h6 : y6.fuses = x0.fuses := by
      simp only [y6]
      (repeat' split) <;> (try simp [fuses_foldl])
    clear_value y6
    have h8 : y8.fuses = x0.fuses := by
      simp only [y8]
      (repeat' split) <;> (try simp [fuses_foldl, h6, fuses_pending h6, fuses_slots h6, fuses_markers h6, fuses_kill h6, fuses_svn h6])
    clear_value y8
    (repeat' split) <;> simp [fuses_foldl, h6, fuses_pending h6, fuses_slots h6, fuses_markers h6, fuses_kill h6, fuses_svn h6, h8, fuses_pending h8, fuses_slots h8, fuses_markers h8, fuses_kill h8, fuses_svn h8]
@[simp] theorem State_acceptTrans_fuses : ∀ x0 x1 x2, (Sys2Proof.Machine.State.acceptTrans x0 x1 x2).fuses = x0.fuses := by
    intro x0 x1 x2
    rfl
@[simp] theorem State_endSession_fuses : ∀ x0, (Sys2Proof.Machine.State.endSession x0).fuses = x0.fuses := by
    intro x0
    unfold Sys2Proof.Machine.State.endSession
    extract_lets y0 y1 y2
    have h1 : y1.fuses = x0.fuses := by
      simp only [y1]
      (repeat' split) <;> (try simp [fuses_foldl, y0])
    clear_value y1
    (repeat' split) <;> simp [fuses_foldl, y0, h1, fuses_pending h1, fuses_slots h1, fuses_markers h1, fuses_kill h1, fuses_svn h1]
@[simp] theorem State_askRoot_fuses : ∀ x0, (Sys2Proof.Machine.State.askRoot x0).fuses = x0.fuses := by
    intro x0
    unfold Sys2Proof.Machine.State.askRoot; (repeat' split) <;> simp [fuses_foldl]
@[simp] theorem State_sessionErase_fuses : ∀ x0, (Sys2Proof.Machine.State.sessionErase x0).fuses = x0.fuses := by
    intro x0
    unfold Sys2Proof.Machine.State.sessionErase; (repeat' split) <;> simp [fuses_foldl]
@[simp] theorem State_bootSeal_fuses : ∀ x0, (Sys2Proof.Machine.State.bootSeal x0).fuses = x0.fuses := by
    intro x0
    unfold Sys2Proof.Machine.State.bootSeal
    extract_lets y0 y1 y2 y3
    have h0 : y0.fuses = x0.fuses := by
      simp only [y0]
      (repeat' split) <;> (try simp [fuses_foldl])
    clear_value y0
    have h1 : y1.fuses = x0.fuses := by
      simp only [y1]
      (repeat' split) <;> (try simp [fuses_foldl, h0, fuses_pending h0, fuses_slots h0, fuses_markers h0, fuses_kill h0, fuses_svn h0])
    clear_value y1
    have h3 : y3.fuses = x0.fuses := by
      simp only [y3]
      (repeat' split) <;> (try simp [fuses_foldl, h0, fuses_pending h0, fuses_slots h0, fuses_markers h0, fuses_kill h0, fuses_svn h0, h1, fuses_pending h1, fuses_slots h1, fuses_markers h1, fuses_kill h1, fuses_svn h1])
    clear_value y3
    (repeat' split) <;> simp [fuses_foldl, h0, fuses_pending h0, fuses_slots h0, fuses_markers h0, fuses_kill h0, fuses_svn h0, h1, fuses_pending h1, fuses_slots h1, fuses_markers h1, fuses_kill h1, fuses_svn h1, h3, fuses_pending h3, fuses_slots h3, fuses_markers h3, fuses_kill h3, fuses_svn h3]
@[simp] theorem State_scrapGate_fuses : ∀ x0, (Sys2Proof.Machine.State.scrapGate x0).fuses = x0.fuses := by
    intro x0
    unfold Sys2Proof.Machine.State.scrapGate
    extract_lets y0
    (repeat' split) <;> simp [fuses_foldl]
@[simp] theorem State_noteFull_fuses : ∀ x0, (Sys2Proof.Machine.State.noteFull x0).fuses = x0.fuses := by
    intro x0
    unfold Sys2Proof.Machine.State.noteFull
    extract_lets y0 y1
    have h0 : y0.fuses = x0.fuses := by
      simp only [y0]
      (repeat' split) <;> (try simp [fuses_foldl])
    clear_value y0
    (repeat' split) <;> simp [fuses_foldl, h0, fuses_pending h0, fuses_slots h0, fuses_markers h0, fuses_kill h0, fuses_svn h0]
@[simp] theorem State_startUnseal_fuses : ∀ x0, (Sys2Proof.Machine.State.startUnseal x0).fuses = x0.fuses := by
    intro x0
    unfold Sys2Proof.Machine.State.startUnseal
    extract_lets y0 y1
    (repeat' split) <;> simp [fuses_foldl]
@[simp] theorem State_tryReady_fuses : ∀ x0, (Sys2Proof.Machine.State.tryReady x0).fuses = x0.fuses := by
    intro x0
    unfold Sys2Proof.Machine.State.tryReady
    extract_lets y0 y1
    have h0 : y0.fuses = x0.fuses := by
      simp only [y0]
      (repeat' split) <;> (try simp [fuses_foldl])
    clear_value y0
    (repeat' split) <;> simp [fuses_foldl, h0, fuses_pending h0, fuses_slots h0, fuses_markers h0, fuses_kill h0, fuses_svn h0]
@[simp] theorem State_hostPushed_fuses : ∀ x0 x1, (Sys2Proof.Machine.State.hostPushed x0 x1).fuses = x0.fuses := by
    intro x0 x1
    rfl
@[simp] theorem State_damage_fuses : ∀ x0 x1, (Sys2Proof.Machine.State.damage x0 x1).fuses = x0.fuses := by
    intro x0 x1
    rfl
@[simp] theorem State_bootKernel_fuses : ∀ x0 x1, (Sys2Proof.Machine.State.bootKernel x0 x1).fuses = x0.fuses := by
    intro x0 x1
    unfold Sys2Proof.Machine.State.bootKernel; (repeat' split) <;> simp [fuses_foldl]
@[simp] theorem State_reload_fuses : ∀ x0, (Sys2Proof.Machine.State.reload x0).fuses = x0.fuses := by
    intro x0
    unfold Sys2Proof.Machine.State.reload
    extract_lets y0
    have h0 : y0.fuses = x0.fuses := by
      simp only [y0]
      (repeat' split) <;> (try simp [fuses_foldl])
    clear_value y0
    (repeat' split) <;> simp [fuses_foldl, h0, fuses_pending h0, fuses_slots h0, fuses_markers h0, fuses_kill h0, fuses_svn h0]
@[simp] theorem State_setPermit_fuses : ∀ x0 x1, (Sys2Proof.Machine.State.setPermit x0 x1).fuses = x0.fuses := by
    intro x0 x1
    rfl
@[simp] theorem State_releaseOut_fuses : ∀ x0, (Sys2Proof.Machine.State.releaseOut x0).fuses = x0.fuses := by
    intro x0
    unfold Sys2Proof.Machine.State.releaseOut
    extract_lets y0
    (repeat' split) <;> simp [fuses_foldl]
@[simp] theorem State_wakeEnd_fuses : ∀ x0, (Sys2Proof.Machine.State.wakeEnd x0).fuses = x0.fuses := by
    intro x0
    unfold Sys2Proof.Machine.State.wakeEnd
    extract_lets y0 y1 y2 y3
    have h2 : y2.fuses = x0.fuses := by
      simp only [y2]
      (repeat' split) <;> (try simp [fuses_foldl])
    clear_value y2
    have h3 : y3.fuses = x0.fuses := by
      simp only [y3]
      (repeat' split) <;> (try simp [fuses_foldl, h2, fuses_pending h2, fuses_slots h2, fuses_markers h2, fuses_kill h2, fuses_svn h2])
    clear_value y3
    (repeat' split) <;> simp [fuses_foldl, h2, fuses_pending h2, fuses_slots h2, fuses_markers h2, fuses_kill h2, fuses_svn h2, h3, fuses_pending h3, fuses_slots h3, fuses_markers h3, fuses_kill h3, fuses_svn h3]
@[simp] theorem State_takePermit_fuses : ∀ x0, (Sys2Proof.Machine.State.takePermit x0).fuses = x0.fuses := by
    intro x0
    rfl
@[simp] theorem State_sampleStrap_fuses : ∀ x0 x1 x2 x3, (Sys2Proof.Machine.State.sampleStrap x0 x1 x2 x3).fuses = x0.fuses := by
    intro x0 x1 x2 x3
    unfold Sys2Proof.Machine.State.sampleStrap
    extract_lets y0 y1 y2 y3
    have h1 : y1.fuses = x0.fuses := by
      simp only [y1]
      (repeat' split) <;> (try simp [fuses_foldl])
    clear_value y1
    have h3 : y3.fuses = x0.fuses := by
      simp only [y3]
      (repeat' split) <;> (try simp [fuses_foldl, h1, fuses_pending h1, fuses_slots h1, fuses_markers h1, fuses_kill h1, fuses_svn h1])
    clear_value y3
    (repeat' split) <;> simp [fuses_foldl, h1, fuses_pending h1, fuses_slots h1, fuses_markers h1, fuses_kill h1, fuses_svn h1, h3, fuses_pending h3, fuses_slots h3, fuses_markers h3, fuses_kill h3, fuses_svn h3]
@[simp] theorem State_linkReset_fuses : ∀ x0 x1, (Sys2Proof.Machine.State.linkReset x0 x1).fuses = x0.fuses := by
    intro x0 x1
    unfold Sys2Proof.Machine.State.linkReset
    extract_lets y0 y1
    have h0 : y0.fuses = x0.fuses := by
      simp only [y0]
      (repeat' split) <;> (try simp [fuses_foldl])
    clear_value y0
    (repeat' split) <;> simp [fuses_foldl, h0, fuses_pending h0, fuses_slots h0, fuses_markers h0, fuses_kill h0, fuses_svn h0]
@[simp] theorem State_kindlingAgain_fuses : ∀ x0, (Sys2Proof.Machine.State.kindlingAgain x0).fuses = x0.fuses := by
    intro x0
    rfl
@[simp] theorem State_rstCtrl_fuses : ∀ x0 x1, (Sys2Proof.Machine.State.rstCtrl x0 x1).fuses = x0.fuses := by
    intro x0 x1
    unfold Sys2Proof.Machine.State.rstCtrl
    extract_lets y0
    (repeat' split) <;> simp [fuses_foldl]
@[simp] theorem State_beginWake_fuses : ∀ x0 x1, (Sys2Proof.Machine.State.beginWake x0 x1).fuses = x0.fuses := by
    intro x0 x1
    rfl
@[simp] theorem State_gate_fuses : ∀ x0 x1, (Sys2Proof.Machine.State.gate x0 x1).fuses = x0.fuses := by
    intro x0 x1
    unfold Sys2Proof.Machine.State.gate
    extract_lets y0 y1
    have h1 : y1.fuses = x0.fuses := by
      simp only [y1]
      (repeat' split) <;> (try simp [fuses_foldl])
    clear_value y1
    (repeat' split) <;> simp [fuses_foldl, h1, fuses_pending h1, fuses_slots h1, fuses_markers h1, fuses_kill h1, fuses_svn h1]
@[simp] theorem State_startRamp_fuses : ∀ x0 x1 x2, (Sys2Proof.Machine.State.startRamp x0 x1 x2).fuses = x0.fuses := by
    intro x0 x1 x2
    rfl
@[simp] theorem State_vinLoss_fuses : ∀ x0 x1, (Sys2Proof.Machine.State.vinLoss x0 x1).fuses = x0.fuses := by
    intro x0 x1
    rfl
@[simp] theorem State_restoreKey_fuses : ∀ x0 x1, (Sys2Proof.Machine.State.restoreKey x0 x1).fuses = x0.fuses := by
    intro x0 x1
    unfold Sys2Proof.Machine.State.restoreKey
    extract_lets y0 y1 y2 y3 y4
    (repeat' split) <;> simp [fuses_foldl]
@[simp] theorem State_cardDraw_fuses : ∀ x0 x1 x2 x3, (Sys2Proof.Machine.State.cardDraw x0 x1 x2 x3).fuses = x0.fuses := by
    intro x0 x1 x2 x3
    unfold Sys2Proof.Machine.State.cardDraw; (repeat' split) <;> simp [fuses_foldl]
@[simp] theorem State_mcOff_fuses : ∀ x0 x1, (Sys2Proof.Machine.State.mcOff x0 x1).fuses = x0.fuses := by
    intro x0 x1
    unfold Sys2Proof.Machine.State.mcOff
    extract_lets y0 y1 y2
    have h0 : y0.fuses = x0.fuses := by
      simp only [y0]
      (repeat' split) <;> (try simp [fuses_foldl])
    clear_value y0
    have h2 : y2.fuses = x0.fuses := by
      simp only [y2]
      (repeat' split) <;> (try simp [fuses_foldl, h0, fuses_pending h0, fuses_slots h0, fuses_markers h0, fuses_kill h0, fuses_svn h0])
    clear_value y2
    (repeat' split) <;> simp [fuses_foldl, h0, fuses_pending h0, fuses_slots h0, fuses_markers h0, fuses_kill h0, fuses_svn h0, h2, fuses_pending h2, fuses_slots h2, fuses_markers h2, fuses_kill h2, fuses_svn h2]
@[simp] theorem State_deactivate_fuses : ∀ x0 x1 x2, (Sys2Proof.Machine.State.deactivate x0 x1 x2).fuses = x0.fuses := by
    intro x0 x1 x2
    unfold Sys2Proof.Machine.State.deactivate
    extract_lets y0 y1 y2 y3 y4
    have h1 : y1.fuses = x0.fuses := by
      simp only [y1]
      (repeat' split) <;> (try simp [fuses_foldl])
    clear_value y1
    have h4 : y4.fuses = x0.fuses := by
      simp only [y4]
      (repeat' split) <;> (try simp [fuses_foldl, h1, fuses_pending h1, fuses_slots h1, fuses_markers h1, fuses_kill h1, fuses_svn h1])
    clear_value y4
    (repeat' split) <;> simp [fuses_foldl, h1, fuses_pending h1, fuses_slots h1, fuses_markers h1, fuses_kill h1, fuses_svn h1, h4, fuses_pending h4, fuses_slots h4, fuses_markers h4, fuses_kill h4, fuses_svn h4]
@[simp] theorem State_scRemove_fuses : ∀ x0 x1 x2, (Sys2Proof.Machine.State.scRemove x0 x1 x2).fuses = x0.fuses := by
    intro x0 x1 x2
    unfold Sys2Proof.Machine.State.scRemove
    extract_lets y0 y1
    have h1 : y1.fuses = x0.fuses := by
      simp only [y1]
      (repeat' split) <;> (try simp [fuses_foldl])
    clear_value y1
    (repeat' split) <;> simp [fuses_foldl, h1, fuses_pending h1, fuses_slots h1, fuses_markers h1, fuses_kill h1, fuses_svn h1]
@[simp] theorem State_sendApdu_fuses : ∀ x0 x1 x2, (Sys2Proof.Machine.State.sendApdu x0 x1 x2).fuses = x0.fuses := by
    intro x0 x1 x2
    unfold Sys2Proof.Machine.State.sendApdu
    extract_lets y0
    (repeat' split) <;> simp [fuses_foldl]
@[simp] theorem State_mcWake_fuses : ∀ x0, (Sys2Proof.Machine.State.mcWake x0).fuses = x0.fuses := by
    intro x0
    unfold Sys2Proof.Machine.State.mcWake
    extract_lets y0
    have h0 : y0.fuses = x0.fuses := by
      simp only [y0]
      (repeat' split) <;> (try simp [fuses_foldl])
    clear_value y0
    (repeat' split) <;> simp [fuses_foldl, h0, fuses_pending h0, fuses_slots h0, fuses_markers h0, fuses_kill h0, fuses_svn h0]
@[simp] theorem State_restoreDone_fuses : ∀ x0, (Sys2Proof.Machine.State.restoreDone x0).fuses = x0.fuses := by
    intro x0
    unfold Sys2Proof.Machine.State.restoreDone
    extract_lets y0
    have h0 : y0.fuses = x0.fuses := by
      simp only [y0]
      (repeat' split) <;> (try simp [fuses_foldl])
    clear_value y0
    (repeat' split) <;> simp [fuses_foldl, h0, fuses_pending h0, fuses_slots h0, fuses_markers h0, fuses_kill h0, fuses_svn h0]
@[simp] theorem State_mediaError_fuses : ∀ x0, (Sys2Proof.Machine.State.mediaError x0).fuses = x0.fuses := by
    intro x0
    unfold Sys2Proof.Machine.State.mediaError; (repeat' split) <;> simp [fuses_foldl]
@[simp] theorem State_approve_fuses : ∀ x0 x1 x2, (Sys2Proof.Machine.State.approve x0 x1 x2).fuses = x0.fuses := by
    intro x0 x1 x2
    unfold Sys2Proof.Machine.State.approve
    extract_lets y0 y1 y2 y3 y4 y5
    (repeat' split) <;> simp [fuses_foldl]
@[simp] theorem State_splitLeaves_fuses : ∀ x0 x1, (Sys2Proof.Machine.State.splitLeaves x0 x1).fuses = x0.fuses := by
    intro x0 x1
    unfold Sys2Proof.Machine.State.splitLeaves; (repeat' split) <;> simp [fuses_foldl]
@[simp] theorem State_wakeCards_fuses : ∀ x0, (Sys2Proof.Machine.State.wakeCards x0).fuses = x0.fuses := by
    intro x0
    unfold Sys2Proof.Machine.State.wakeCards; (repeat' split) <;> simp [fuses_foldl]
@[simp] theorem State_activate_fuses : ∀ x0 x1 x2 x3, (Sys2Proof.Machine.State.activate x0 x1 x2 x3).fuses = x0.fuses := by
    intro x0 x1 x2 x3
    rfl
@[simp] theorem State_nextClass_fuses : ∀ x0 x1, (Sys2Proof.Machine.State.nextClass x0 x1).fuses = x0.fuses := by
    intro x0 x1
    unfold Sys2Proof.Machine.State.nextClass
    extract_lets y0
    (repeat' split) <;> simp [fuses_foldl]
@[simp] theorem State_ppsFailed_fuses : ∀ x0 x1, (Sys2Proof.Machine.State.ppsFailed x0 x1).fuses = x0.fuses := by
    intro x0 x1
    unfold Sys2Proof.Machine.State.ppsFailed
    extract_lets y0
    (repeat' split) <;> simp [fuses_foldl]
@[simp] theorem State_cerNext_fuses : ∀ x0, (Sys2Proof.Machine.State.cerNext x0).fuses = x0.fuses := by
    intro x0
    unfold Sys2Proof.Machine.State.cerNext; (repeat' split) <;> simp [fuses_foldl]
@[simp] theorem State_modCer_fuses : ∀ x0 x1, (Sys2Proof.Machine.State.modCer x0 x1).fuses = x0.fuses := by
    intro x0 x1
    rfl
@[simp] theorem State_mcWrite_fuses : ∀ x0 x1 x2, (Sys2Proof.Machine.State.mcWrite x0 x1 x2).fuses = x0.fuses := by
    intro x0 x1 x2
    unfold Sys2Proof.Machine.State.mcWrite
    extract_lets y0 y1
    have h0 : y0.fuses = x0.fuses := by
      simp only [y0]
      (repeat' split) <;> (try simp [fuses_foldl])
    clear_value y0
    (repeat' split) <;> simp [fuses_foldl, h0, fuses_pending h0, fuses_slots h0, fuses_markers h0, fuses_kill h0, fuses_svn h0]
@[simp] theorem State_writeRecord_fuses : ∀ x0 x1, (Sys2Proof.Machine.State.writeRecord x0 x1).fuses = x0.fuses := by
    intro x0 x1
    unfold Sys2Proof.Machine.State.writeRecord
    extract_lets y0 y1 y2 y3 y4 y5
    (repeat' split) <;> simp [fuses_foldl]
@[simp] theorem State_shareConfirmed_fuses : ∀ x0 x1, (Sys2Proof.Machine.State.shareConfirmed x0 x1).fuses = x0.fuses := by
    intro x0 x1
    unfold Sys2Proof.Machine.State.shareConfirmed
    extract_lets y0 y1
    have h0 : y0.fuses = x0.fuses := by
      simp only [y0]
      (repeat' split) <;> (try simp [fuses_foldl])
    clear_value y0
    have h1 : y1.fuses = x0.fuses := by
      simp only [y1]
      (repeat' split) <;> (try simp [fuses_foldl, h0, fuses_pending h0, fuses_slots h0, fuses_markers h0, fuses_kill h0, fuses_svn h0])
    clear_value y1
    (repeat' split) <;> simp [fuses_foldl, h0, fuses_pending h0, fuses_slots h0, fuses_markers h0, fuses_kill h0, fuses_svn h0, h1, fuses_pending h1, fuses_slots h1, fuses_markers h1, fuses_kill h1, fuses_svn h1]
@[simp] theorem State_cardError_fuses : ∀ x0 x1, (Sys2Proof.Machine.State.cardError x0 x1).fuses = x0.fuses := by
    intro x0 x1
    unfold Sys2Proof.Machine.State.cardError
    extract_lets y0 y1
    have h1 : y1.fuses = x0.fuses := by
      simp only [y1]
      (repeat' split) <;> (try simp [fuses_foldl])
    clear_value y1
    (repeat' split) <;> simp [fuses_foldl, h1, fuses_pending h1, fuses_slots h1, fuses_markers h1, fuses_kill h1, fuses_svn h1]
@[simp] theorem State_startWrite_fuses : ∀ x0 x1 x2, (Sys2Proof.Machine.State.startWrite x0 x1 x2).fuses = x0.fuses := by
    intro x0 x1 x2
    unfold Sys2Proof.Machine.State.startWrite
    extract_lets y0 y1 y2 y3 y4 y5 y6 y7 y8 y9 y10 y11 y12 y13 y14 y15
    have h10 : y10.fuses = x0.fuses := by
      simp only [y10]
      (repeat' split) <;> (try simp [fuses_foldl])
    clear_value y10
    have h13 : y13.fuses = x0.fuses := by
      simp only [y13]
      (repeat' split) <;> (try simp [fuses_foldl, h10, fuses_pending h10, fuses_slots h10, fuses_markers h10, fuses_kill h10, fuses_svn h10])
    clear_value y13
    have h15 : y15.fuses = x0.fuses := by
      simp only [y15]
      (repeat' split) <;> (try simp [fuses_foldl, h10, fuses_pending h10, fuses_slots h10, fuses_markers h10, fuses_kill h10, fuses_svn h10, h13, fuses_pending h13, fuses_slots h13, fuses_markers h13, fuses_kill h13, fuses_svn h13])
    clear_value y15
    (repeat' split) <;> simp [fuses_foldl, h10, fuses_pending h10, fuses_slots h10, fuses_markers h10, fuses_kill h10, fuses_svn h10, h13, fuses_pending h13, fuses_slots h13, fuses_markers h13, fuses_kill h13, fuses_svn h13, h15, fuses_pending h15, fuses_slots h15, fuses_markers h15, fuses_kill h15, fuses_svn h15]
@[simp] theorem State_recoverBlock_fuses : ∀ x0 x1, (Sys2Proof.Machine.State.recoverBlock x0 x1).fuses = x0.fuses := by
    intro x0 x1
    unfold Sys2Proof.Machine.State.recoverBlock
    extract_lets y0
    (repeat' split) <;> simp [fuses_foldl]
@[simp] theorem State_floodLinks_fuses : ∀ x0, (Sys2Proof.Machine.State.floodLinks x0).fuses = x0.fuses := by
    intro x0
    unfold Sys2Proof.Machine.State.floodLinks; (repeat' split) <;> simp [fuses_foldl]
@[simp] theorem State_portPeers_fuses : ∀ x0, (Sys2Proof.Machine.State.portPeers x0).fuses = x0.fuses := by
    intro x0
    unfold Sys2Proof.Machine.State.portPeers; (repeat' split) <;> first | rfl | (simp [fuses_foldl]; done) | (rw [fuses_foldl] <;> first | rfl | (simp; done) | (intros; (repeat' split) <;> first | rfl | (simp; done)))
@[simp] theorem State_give_fuses : ∀ x0 x1 x2, (Sys2Proof.Machine.State.give x0 x1 x2).fuses = x0.fuses := by
    intro x0 x1 x2
    unfold Sys2Proof.Machine.State.give; (repeat' split) <;> simp [fuses_foldl]
@[simp] theorem State_setAddr_fuses : ∀ x0 x1, (Sys2Proof.Machine.State.setAddr x0 x1).fuses = x0.fuses := by
    intro x0 x1
    unfold Sys2Proof.Machine.State.setAddr
    extract_lets y0
    (repeat' split) <;> simp [fuses_foldl]
@[simp] theorem State_ownAddr_fuses : ∀ x0, (Sys2Proof.Machine.State.ownAddr x0).fuses = x0.fuses := by
    intro x0
    unfold Sys2Proof.Machine.State.ownAddr
    extract_lets y0
    (repeat' split) <;> simp [fuses_foldl]
@[simp] theorem State_leadersGone_fuses : ∀ x0 x1, (Sys2Proof.Machine.State.leadersGone x0 x1).fuses = x0.fuses := by
    intro x0 x1
    unfold Sys2Proof.Machine.State.leadersGone
    extract_lets y0 y1
    (repeat' split) <;> simp [fuses_foldl]
@[simp] theorem State_runHere_fuses : ∀ x0 x1, (Sys2Proof.Machine.State.runHere x0 x1).fuses = x0.fuses := by
    intro x0 x1
    unfold Sys2Proof.Machine.State.runHere
    extract_lets y0 y1
    have h0 : y0.fuses = x0.fuses := by
      simp only [y0]
      (repeat' split) <;> (try simp [fuses_foldl])
    clear_value y0
    (repeat' split) <;> simp [fuses_foldl, h0, fuses_pending h0, fuses_slots h0, fuses_markers h0, fuses_kill h0, fuses_svn h0]
@[simp] theorem State_modRestore_fuses : ∀ x0 x1, (Sys2Proof.Machine.State.modRestore x0 x1).fuses = x0.fuses := by
    intro x0 x1
    rfl
@[simp] theorem State_addEnd_fuses : ∀ x0, (Sys2Proof.Machine.State.addEnd x0).fuses = x0.fuses := by
    intro x0
    unfold Sys2Proof.Machine.State.addEnd
    extract_lets y0
    (repeat' split) <;> simp [fuses_foldl]
@[simp] theorem State_addSkip_fuses : ∀ x0 x1, (Sys2Proof.Machine.State.addSkip x0 x1).fuses = x0.fuses := by
    intro x0 x1
    unfold Sys2Proof.Machine.State.addSkip
    extract_lets y0
    (repeat' split) <;> simp [fuses_foldl]
@[simp] theorem State_dropCommit_fuses : ∀ x0 x1 x2, (Sys2Proof.Machine.State.dropCommit x0 x1 x2).fuses = x0.fuses := by
    intro x0 x1 x2
    rfl
@[simp] theorem State_flipHere_fuses : ∀ x0 x1, (Sys2Proof.Machine.State.flipHere x0 x1).fuses = x0.fuses := by
    intro x0 x1
    unfold Sys2Proof.Machine.State.flipHere
    extract_lets y0 y1 y2
    have h1 : y1.fuses = x0.fuses := by
      simp only [y1]
      (repeat' split) <;> (try simp [fuses_foldl])
    clear_value y1
    have h2 : y2.fuses = x0.fuses := by
      simp only [y2]
      (repeat' split) <;> (try simp [fuses_foldl, h1, fuses_pending h1, fuses_slots h1, fuses_markers h1, fuses_kill h1, fuses_svn h1])
    clear_value y2
    (repeat' split) <;> simp [fuses_foldl, h1, fuses_pending h1, fuses_slots h1, fuses_markers h1, fuses_kill h1, fuses_svn h1, h2, fuses_pending h2, fuses_slots h2, fuses_markers h2, fuses_kill h2, fuses_svn h2]
@[simp] theorem State_leaderCommit_fuses : ∀ x0 x1, (Sys2Proof.Machine.State.leaderCommit x0 x1).fuses = x0.fuses := by
    intro x0 x1
    unfold Sys2Proof.Machine.State.leaderCommit; (repeat' split) <;> simp [fuses_foldl]
@[simp] theorem State_commitAnswer_fuses : ∀ x0 x1 x2 x3, (Sys2Proof.Machine.State.commitAnswer x0 x1 x2 x3).fuses = x0.fuses := by
    intro x0 x1 x2 x3
    unfold Sys2Proof.Machine.State.commitAnswer
    extract_lets y0
    (repeat' split) <;> simp [fuses_foldl]
@[simp] theorem State_setMark_fuses : ∀ x0 x1 x2 x3, (Sys2Proof.Machine.State.setMark x0 x1 x2 x3).fuses = x0.fuses := by
    intro x0 x1 x2 x3
    unfold Sys2Proof.Machine.State.setMark
    extract_lets y0 y1 y2 y3
    have h2 : y2.fuses = x0.fuses := by
      simp only [y2]
      (repeat' split) <;> (try simp [fuses_foldl])
    clear_value y2
    (repeat' split) <;> simp [fuses_foldl, h2, fuses_pending h2, fuses_slots h2, fuses_markers h2, fuses_kill h2, fuses_svn h2]
@[simp] theorem State_spreadMark_fuses : ∀ x0 x1 x2 x3, (Sys2Proof.Machine.State.spreadMark x0 x1 x2 x3).fuses = x0.fuses := by
    intro x0 x1 x2 x3
    unfold Sys2Proof.Machine.State.spreadMark
    extract_lets y0 y1
    have h0 : y0.fuses = x0.fuses := by
      simp only [y0]
      (repeat' split) <;> (try simp [fuses_foldl])
    clear_value y0
    (repeat' split) <;> simp [fuses_foldl, h0, fuses_pending h0, fuses_slots h0, fuses_markers h0, fuses_kill h0, fuses_svn h0]
@[simp] theorem State_sendKey_fuses : ∀ x0 x1 x2 x3, (Sys2Proof.Machine.State.sendKey x0 x1 x2 x3).fuses = x0.fuses := by
    intro x0 x1 x2 x3
    unfold Sys2Proof.Machine.State.sendKey; (repeat' split) <;> simp [fuses_foldl]
@[simp] theorem State_catchUp_fuses : ∀ x0 x1, (Sys2Proof.Machine.State.catchUp x0 x1).fuses = x0.fuses := by
    intro x0 x1
    unfold Sys2Proof.Machine.State.catchUp; (repeat' split) <;> simp [fuses_foldl]
@[simp] theorem State_peerStep_fuses : ∀ x0 x1 x2 x3 x4, (Sys2Proof.Machine.State.peerStep x0 x1 x2 x3 x4).fuses = x0.fuses := by
    intro x0 x1 x2 x3 x4
    unfold Sys2Proof.Machine.State.peerStep
    extract_lets y0 y1 y2
    have h1 : y1.fuses = x0.fuses := by
      simp only [y1]
      (repeat' split) <;> (try simp [fuses_foldl])
    clear_value y1
    have h2 : y2.fuses = x0.fuses := by
      simp only [y2]
      (repeat' split) <;> (try simp [fuses_foldl, h1, fuses_pending h1, fuses_slots h1, fuses_markers h1, fuses_kill h1, fuses_svn h1])
    clear_value y2
    (repeat' split) <;> simp [fuses_foldl, h1, fuses_pending h1, fuses_slots h1, fuses_markers h1, fuses_kill h1, fuses_svn h1, h2, fuses_pending h2, fuses_slots h2, fuses_markers h2, fuses_kill h2, fuses_svn h2]
@[simp] theorem State_joinSeen_fuses : ∀ x0 x1 x2 x3 x4, (Sys2Proof.Machine.State.joinSeen x0 x1 x2 x3 x4).fuses = x0.fuses := by
    intro x0 x1 x2 x3 x4
    unfold Sys2Proof.Machine.State.joinSeen
    extract_lets y0
    (repeat' split) <;> simp [fuses_foldl]
@[simp] theorem State_passCommit_fuses : ∀ x0 x1, (Sys2Proof.Machine.State.passCommit x0 x1).fuses = x0.fuses := by
    intro x0 x1
    unfold Sys2Proof.Machine.State.passCommit; (repeat' split) <;> simp [fuses_foldl]
@[simp] theorem State_restoreShared_fuses : ∀ x0 x1 x2 x3 x4, (Sys2Proof.Machine.State.restoreShared x0 x1 x2 x3 x4).fuses = x0.fuses := by
    intro x0 x1 x2 x3 x4
    unfold Sys2Proof.Machine.State.restoreShared
    extract_lets y0 y1 y2 y3
    have h3 : y3.fuses = x0.fuses := by
      simp only [y3]
      (repeat' split) <;> (try simp [fuses_foldl])
    clear_value y3
    (repeat' split) <;> simp [fuses_foldl, h3, fuses_pending h3, fuses_slots h3, fuses_markers h3, fuses_kill h3, fuses_svn h3]
@[simp] theorem State_addAnswer_fuses : ∀ x0 x1 x2, (Sys2Proof.Machine.State.addAnswer x0 x1 x2).fuses = x0.fuses := by
    intro x0 x1 x2
    unfold Sys2Proof.Machine.State.addAnswer
    extract_lets y0
    (repeat' split) <;> simp [fuses_foldl]
@[simp] theorem State_leaderStart_fuses : ∀ x0 x1 x2, (Sys2Proof.Machine.State.leaderStart x0 x1 x2).fuses = x0.fuses := by
    intro x0 x1 x2
    unfold Sys2Proof.Machine.State.leaderStart
    extract_lets y0 y1 y2 y3
    have h3 : y3.fuses = x0.fuses := by
      simp only [y3]
      (repeat' split) <;> (try simp [fuses_foldl])
    clear_value y3
    (repeat' split) <;> simp [fuses_foldl, h3, fuses_pending h3, fuses_slots h3, fuses_markers h3, fuses_kill h3, fuses_svn h3]
@[simp] theorem State_unstage_fuses : ∀ x0 x1 x2 x3, (Sys2Proof.Machine.State.unstage x0 x1 x2 x3).fuses = x0.fuses := by
    intro x0 x1 x2 x3
    unfold Sys2Proof.Machine.State.unstage
    extract_lets y0 y1
    have h1 : y1.fuses = x0.fuses := by
      simp only [y1]
      (repeat' split) <;> (try simp [fuses_foldl])
    clear_value y1
    (repeat' split) <;> simp [fuses_foldl, h1, fuses_pending h1, fuses_slots h1, fuses_markers h1, fuses_kill h1, fuses_svn h1]
@[simp] theorem State_serveRestore_fuses : ∀ x0 x1 x2 x3, (Sys2Proof.Machine.State.serveRestore x0 x1 x2 x3).fuses = x0.fuses := by
    intro x0 x1 x2 x3
    unfold Sys2Proof.Machine.State.serveRestore
    extract_lets y0
    (repeat' split) <;> simp [fuses_foldl]
@[simp] theorem State_relayApdu_fuses : ∀ x0 x1 x2 x3, (Sys2Proof.Machine.State.relayApdu x0 x1 x2 x3).fuses = x0.fuses := by
    intro x0 x1 x2 x3
    unfold Sys2Proof.Machine.State.relayApdu
    extract_lets y0 y1 y2
    have h1 : y1.fuses = x0.fuses := by
      simp only [y1]
      (repeat' split) <;> (try simp [fuses_foldl])
    clear_value y1
    (repeat' split) <;> simp [fuses_foldl, h1, fuses_pending h1, fuses_slots h1, fuses_markers h1, fuses_kill h1, fuses_svn h1]
@[simp] theorem State_commitGroup_fuses : ∀ x0 x1 x2 x3, (Sys2Proof.Machine.State.commitGroup x0 x1 x2 x3).fuses = x0.fuses := by
    intro x0 x1 x2 x3
    unfold Sys2Proof.Machine.State.commitGroup
    extract_lets y0 y1 y2
    have h0 : y0.fuses = x0.fuses := by
      simp only [y0]
      (repeat' split) <;> (try simp [fuses_foldl])
    clear_value y0
    (repeat' split) <;> simp [fuses_foldl, h0, fuses_pending h0, fuses_slots h0, fuses_markers h0, fuses_kill h0, fuses_svn h0]
@[simp] theorem State_addKey_fuses : ∀ x0 x1 x2 x3 x4 x5, (Sys2Proof.Machine.State.addKey x0 x1 x2 x3 x4 x5).fuses = x0.fuses := by
    intro x0 x1 x2 x3 x4 x5
    unfold Sys2Proof.Machine.State.addKey
    extract_lets y0 y1 y2 y3 y4 y5 y6
    have h2 : y2.fuses = x0.fuses := by
      simp only [y2]
      (repeat' split) <;> (try simp [fuses_foldl])
    clear_value y2
    have h3 : y3.fuses = x0.fuses := by
      simp only [y3]
      (repeat' split) <;> (try simp [fuses_foldl, h2, fuses_pending h2, fuses_slots h2, fuses_markers h2, fuses_kill h2, fuses_svn h2])
    clear_value y3
    have h6 : y6.fuses = x0.fuses := by
      simp only [y6]
      (repeat' split) <;> (try simp [fuses_foldl, h2, fuses_pending h2, fuses_slots h2, fuses_markers h2, fuses_kill h2, fuses_svn h2, h3, fuses_pending h3, fuses_slots h3, fuses_markers h3, fuses_kill h3, fuses_svn h3])
    clear_value y6
    (repeat' split) <;> simp [fuses_foldl, h2, fuses_pending h2, fuses_slots h2, fuses_markers h2, fuses_kill h2, fuses_svn h2, h3, fuses_pending h3, fuses_slots h3, fuses_markers h3, fuses_kill h3, fuses_svn h3, h6, fuses_pending h6, fuses_slots h6, fuses_markers h6, fuses_kill h6, fuses_svn h6]
@[simp] theorem State_syncTo_fuses : ∀ x0 x1, (Sys2Proof.Machine.State.syncTo x0 x1).fuses = x0.fuses := by
    intro x0 x1
    rfl
@[simp] theorem drawMasks_fuses : ∀ x0 x1 x2, (Sys2Proof.Machine.drawMasks x0 x1 x2).fuses = x2.fuses := by
    intro x0 x1 x2
    unfold Sys2Proof.Machine.drawMasks
    extract_lets y0 y1 y2 y3
    have h2 : y2.fuses = x2.fuses := by
      simp only [y2]
      (repeat' split) <;> (try simp [fuses_foldl])
    clear_value y2
    (repeat' split) <;> simp [fuses_foldl, h2, fuses_pending h2, fuses_slots h2, fuses_markers h2, fuses_kill h2, fuses_svn h2]
@[simp] theorem endRun_fuses : ∀ x0 x1 x2 x3, (Sys2Proof.Machine.endRun x0 x1 x2 x3).fuses = x3.fuses := by
    intro x0 x1 x2 x3
    unfold Sys2Proof.Machine.endRun
    extract_lets y0 y1 y2 y3 y4 y5
    have h0 : y0.fuses = x3.fuses := by
      simp only [y0]
      (repeat' split) <;> (try simp [fuses_foldl])
    clear_value y0
    have h1 : y1.fuses = x3.fuses := by
      simp only [y1]
      (repeat' split) <;> (try simp [fuses_foldl, h0, fuses_pending h0, fuses_slots h0, fuses_markers h0, fuses_kill h0, fuses_svn h0])
    clear_value y1
    have h3 : y3.fuses = x3.fuses := by
      simp only [y3]
      (repeat' split) <;> (try simp [fuses_foldl, h0, fuses_pending h0, fuses_slots h0, fuses_markers h0, fuses_kill h0, fuses_svn h0, h1, fuses_pending h1, fuses_slots h1, fuses_markers h1, fuses_kill h1, fuses_svn h1])
    clear_value y3
    have h5 : y5.fuses = x3.fuses := by
      simp only [y5]
      (repeat' split) <;> (try simp [fuses_foldl, h0, fuses_pending h0, fuses_slots h0, fuses_markers h0, fuses_kill h0, fuses_svn h0, h1, fuses_pending h1, fuses_slots h1, fuses_markers h1, fuses_kill h1, fuses_svn h1, h3, fuses_pending h3, fuses_slots h3, fuses_markers h3, fuses_kill h3, fuses_svn h3])
    clear_value y5
    (repeat' split) <;> simp [fuses_foldl, h0, fuses_pending h0, fuses_slots h0, fuses_markers h0, fuses_kill h0, fuses_svn h0, h1, fuses_pending h1, fuses_slots h1, fuses_markers h1, fuses_kill h1, fuses_svn h1, h3, fuses_pending h3, fuses_slots h3, fuses_markers h3, fuses_kill h3, fuses_svn h3, h5, fuses_pending h5, fuses_slots h5, fuses_markers h5, fuses_kill h5, fuses_svn h5]
@[simp] theorem takeTrap_fuses : ∀ x0 x1 x2 x3 x4 x5 x6, (Sys2Proof.Machine.takeTrap x0 x1 x2 x3 x4 x5 x6).fuses = x6.fuses := by
    intro x0 x1 x2 x3 x4 x5 x6
    unfold Sys2Proof.Machine.takeTrap; (repeat' split) <;> simp [fuses_foldl]
@[simp] theorem afterStall_fuses : ∀ x0 x1 x2, (Sys2Proof.Machine.afterStall x0 x1 x2).fuses = x2.fuses := by
    intro x0 x1 x2
    unfold Sys2Proof.Machine.afterStall
    extract_lets y0
    (repeat' split) <;> simp [fuses_foldl]
@[simp] theorem pvcPut_fuses : ∀ x0 x1 x2 x3, (Sys2Proof.Machine.pvcPut x0 x1 x2 x3).fuses = x3.fuses := by
    intro x0 x1 x2 x3
    unfold Sys2Proof.Machine.pvcPut; (repeat' split) <;> simp [fuses_foldl]
@[simp] theorem State_kldCode_fuses : ∀ x0 x1 x2 x3 x4 x5 x6, (Sys2Proof.Machine.State.kldCode x0 x1 x2 x3 x4 x5 x6).fuses = x0.fuses := by
    intro x0 x1 x2 x3 x4 x5 x6
    unfold Sys2Proof.Machine.State.kldCode; (repeat' split) <;> simp [fuses_foldl]
@[simp] theorem State_grantSpill_fuses : ∀ x0 x1 x2, (Sys2Proof.Machine.State.grantSpill x0 x1 x2).fuses = x0.fuses := by
    intro x0 x1 x2
    unfold Sys2Proof.Machine.State.grantSpill
    extract_lets y0
    have h0 : y0.fuses = x0.fuses := by
      simp only [y0]
      (repeat' split) <;> (try simp [fuses_foldl])
    clear_value y0
    (repeat' split) <;> simp [fuses_foldl, h0, fuses_pending h0, fuses_slots h0, fuses_markers h0, fuses_kill h0, fuses_svn h0]
@[simp] theorem State_grantMgmt_fuses : ∀ x0 x1 x2, (Sys2Proof.Machine.State.grantMgmt x0 x1 x2).fuses = x0.fuses := by
    intro x0 x1 x2
    unfold Sys2Proof.Machine.State.grantMgmt
    extract_lets y0 y1 y2 y3 y4
    have h0 : y0.fuses = x0.fuses := by
      simp only [y0]
      (repeat' split) <;> (try simp [fuses_foldl])
    clear_value y0
    (repeat' split) <;> simp [fuses_foldl, h0, fuses_pending h0, fuses_slots h0, fuses_markers h0, fuses_kill h0, fuses_svn h0, y2, y4]
@[simp] theorem State_lbCtrl_fuses : ∀ x0 x1, (Sys2Proof.Machine.State.lbCtrl x0 x1).fuses = x0.fuses := by
    intro x0 x1
    rfl
@[simp] theorem State_viewWrite_fuses : ∀ x0 x1 x2 x3, (Sys2Proof.Machine.State.viewWrite x0 x1 x2 x3).fuses = x0.fuses := by
    intro x0 x1 x2 x3
    unfold Sys2Proof.Machine.State.viewWrite
    extract_lets y0 y1
    (repeat' split) <;> simp [fuses_foldl]
@[simp] theorem State_lbGo_fuses : ∀ x0 x1 x2, (Sys2Proof.Machine.State.lbGo x0 x1 x2).fuses = x0.fuses := by
    intro x0 x1 x2
    unfold Sys2Proof.Machine.State.lbGo
    extract_lets y0 y1 y2 y3
    have h0 : y0.fuses = x0.fuses := by
      simp only [y0]
      (repeat' split) <;> (try simp [fuses_foldl])
    clear_value y0
    have h2 : y2.fuses = x0.fuses := by
      simp only [y2]
      (repeat' split) <;> (try simp [fuses_foldl, h0, fuses_pending h0, fuses_slots h0, fuses_markers h0, fuses_kill h0, fuses_svn h0])
    clear_value y2
    (repeat' split) <;> simp [fuses_foldl, h0, fuses_pending h0, fuses_slots h0, fuses_markers h0, fuses_kill h0, fuses_svn h0, h2, fuses_pending h2, fuses_slots h2, fuses_markers h2, fuses_kill h2, fuses_svn h2]
@[simp] theorem State_chkMismatch_fuses : ∀ x0 x1 x2 x3 x4, (Sys2Proof.Machine.State.chkMismatch x0 x1 x2 x3 x4).fuses = x0.fuses := by
    intro x0 x1 x2 x3 x4
    unfold State.chkMismatch
    dsimp only
    (repeat' split) <;> simp [fuses_ite]
@[simp] theorem State_applyNow_fuses : ∀ x0 x1, (Sys2Proof.Machine.State.applyNow x0 x1).fuses = x0.fuses := by
    intro x0 x1
    unfold State.applyNow
    extract_lets ap s1 s2 s3
    have h1 : s1.fuses = x0.fuses := by simp only [s1, ap]; split <;> simp
    have h2 : s2.fuses = x0.fuses := by simp [s2, h1]
    have h3 : s3.fuses = x0.fuses := by simp only [s3, ap]; split <;> simp [h2]
    simp only [ap]
    (repeat' split) <;> simp [h3]
@[simp] theorem State_loadImage_fuses : ∀ x0 x1, (Sys2Proof.Machine.State.loadImage x0 x1).fuses = x0.fuses := by
    intro x0 x1
    unfold Sys2Proof.Machine.State.loadImage
    extract_lets y0 y1 y2 y3 y4 y5 y6 y7 y8
    have h2 : y2.fuses = x0.fuses := by
      simp only [y2]
      (repeat' split) <;> (try simp [fuses_foldl])
    clear_value y2
    have h4 : y4.fuses = x0.fuses := by
      simp only [y4]
      (repeat' split) <;> (try simp [fuses_foldl, h2, fuses_pending h2, fuses_slots h2, fuses_markers h2, fuses_kill h2, fuses_svn h2])
    clear_value y4
    have h6 : y6.fuses = x0.fuses := by
      simp only [y6]
      (repeat' split) <;> (try simp [fuses_foldl, h2, fuses_pending h2, fuses_slots h2, fuses_markers h2, fuses_kill h2, fuses_svn h2, h4, fuses_pending h4, fuses_slots h4, fuses_markers h4, fuses_kill h4, fuses_svn h4])
    clear_value y6
    have h7 : y7.fuses = x0.fuses := by
      simp only [y7]
      (repeat' split) <;> (try simp [fuses_foldl, h2, fuses_pending h2, fuses_slots h2, fuses_markers h2, fuses_kill h2, fuses_svn h2, h4, fuses_pending h4, fuses_slots h4, fuses_markers h4, fuses_kill h4, fuses_svn h4, h6, fuses_pending h6, fuses_slots h6, fuses_markers h6, fuses_kill h6, fuses_svn h6])
    clear_value y7
    have h8 : y8.fuses = x0.fuses := by
      simp only [y8]
      (repeat' split) <;> (try simp [fuses_foldl, h2, fuses_pending h2, fuses_slots h2, fuses_markers h2, fuses_kill h2, fuses_svn h2, h4, fuses_pending h4, fuses_slots h4, fuses_markers h4, fuses_kill h4, fuses_svn h4, h6, fuses_pending h6, fuses_slots h6, fuses_markers h6, fuses_kill h6, fuses_svn h6, h7, fuses_pending h7, fuses_slots h7, fuses_markers h7, fuses_kill h7, fuses_svn h7])
    clear_value y8
    (repeat' split) <;> simp [fuses_foldl, h2, fuses_pending h2, fuses_slots h2, fuses_markers h2, fuses_kill h2, fuses_svn h2, h4, fuses_pending h4, fuses_slots h4, fuses_markers h4, fuses_kill h4, fuses_svn h4, h6, fuses_pending h6, fuses_slots h6, fuses_markers h6, fuses_kill h6, fuses_svn h6, h7, fuses_pending h7, fuses_slots h7, fuses_markers h7, fuses_kill h7, fuses_svn h7, h8, fuses_pending h8, fuses_slots h8, fuses_markers h8, fuses_kill h8, fuses_svn h8]
@[simp] theorem State_afterPush_fuses : ∀ x0 x1 x2, (Sys2Proof.Machine.State.afterPush x0 x1 x2).fuses = x0.fuses := by
    intro x0 x1 x2
    unfold Sys2Proof.Machine.State.afterPush
    extract_lets y0 y1 y2 y3 y4 y5
    have h1 : y1.fuses = x0.fuses := by
      simp only [y1]
      (repeat' split) <;> (try simp [fuses_foldl])
    clear_value y1
    have h3 : y3.fuses = x0.fuses := by
      simp only [y3]
      (repeat' split) <;> (try simp [fuses_foldl, h1, fuses_pending h1, fuses_slots h1, fuses_markers h1, fuses_kill h1, fuses_svn h1])
    clear_value y3
    have h5 : y5.fuses = x0.fuses := by
      simp only [y5]
      (repeat' split) <;> (try simp [fuses_foldl, h1, fuses_pending h1, fuses_slots h1, fuses_markers h1, fuses_kill h1, fuses_svn h1, h3, fuses_pending h3, fuses_slots h3, fuses_markers h3, fuses_kill h3, fuses_svn h3])
    clear_value y5
    (repeat' split) <;> simp [fuses_foldl, h1, fuses_pending h1, fuses_slots h1, fuses_markers h1, fuses_kill h1, fuses_svn h1, h3, fuses_pending h3, fuses_slots h3, fuses_markers h3, fuses_kill h3, fuses_svn h3, h5, fuses_pending h5, fuses_slots h5, fuses_markers h5, fuses_kill h5, fuses_svn h5]
@[simp] theorem State_bootConfig_fuses : ∀ x0, (Sys2Proof.Machine.State.bootConfig x0).fuses = x0.fuses := by
    intro x0
    unfold Sys2Proof.Machine.State.bootConfig
    extract_lets y0
    (repeat' split) <;> simp [fuses_foldl]
@[simp] theorem State_gateUntil_fuses : ∀ x0 x1 x2, (Sys2Proof.Machine.State.gateUntil x0 x1 x2).fuses = x0.fuses := by
    intro x0 x1 x2
    induction x2 generalizing x0 with
    | nil => rfl
    | cons d t ih =>
      unfold State.gateUntil
      split
      · rfl
      · rw [ih]; (repeat' split) <;> simp
@[simp] theorem State_derate_fuses : ∀ x0 x1, (Sys2Proof.Machine.State.derate x0 x1).fuses = x0.fuses := by
    intro x0 x1
    unfold Sys2Proof.Machine.State.derate; (repeat' split) <;> simp [fuses_foldl]
@[simp] theorem State_sendStep_fuses : ∀ x0 x1 x2 x3 x4 x5 x6, (Sys2Proof.Machine.State.sendStep x0 x1 x2 x3 x4 x5 x6).fuses = x0.fuses := by
    intro x0 x1 x2 x3 x4 x5 x6
    unfold State.sendStep
    split
    · rfl
    · extract_lets s1
      have h1 : s1.fuses = x0.fuses := by simp [s1]
      (repeat' split) <;> simp [h1]
@[simp] theorem State_selectCard_fuses : ∀ x0 x1, (Sys2Proof.Machine.State.selectCard x0 x1).fuses = x0.fuses := by
    intro x0 x1
    unfold Sys2Proof.Machine.State.selectCard
    extract_lets y0
    (repeat' split) <;> simp [fuses_foldl]
@[simp] theorem State_pollCards_fuses : ∀ x0, (Sys2Proof.Machine.State.pollCards x0).fuses = x0.fuses := by
    intro x0
    unfold Sys2Proof.Machine.State.pollCards; (repeat' split) <;> simp [fuses_foldl]
@[simp] theorem State_cardReady_fuses : ∀ x0 x1 x2 x3 x4 x5, (Sys2Proof.Machine.State.cardReady x0 x1 x2 x3 x4 x5).fuses = x0.fuses := by
    intro x0 x1 x2 x3 x4 x5
    unfold Sys2Proof.Machine.State.cardReady
    extract_lets y0 y1 y2 y3 y4
    have h2 : y2.fuses = x0.fuses := by
      simp only [y2]
      (repeat' split) <;> (try simp [fuses_foldl])
    clear_value y2
    have h3 : y3.fuses = x0.fuses := by
      simp only [y3]
      (repeat' split) <;> (try simp [fuses_foldl, h2, fuses_pending h2, fuses_slots h2, fuses_markers h2, fuses_kill h2, fuses_svn h2])
    clear_value y3
    have h4 : y4.fuses = x0.fuses := by
      simp only [y4]
      (repeat' split) <;> (try simp [fuses_foldl, h2, fuses_pending h2, fuses_slots h2, fuses_markers h2, fuses_kill h2, fuses_svn h2, h3, fuses_pending h3, fuses_slots h3, fuses_markers h3, fuses_kill h3, fuses_svn h3])
    clear_value y4
    (repeat' split) <;> simp [fuses_foldl, h2, fuses_pending h2, fuses_slots h2, fuses_markers h2, fuses_kill h2, fuses_svn h2, h3, fuses_pending h3, fuses_slots h3, fuses_markers h3, fuses_kill h3, fuses_svn h3, h4, fuses_pending h4, fuses_slots h4, fuses_markers h4, fuses_kill h4, fuses_svn h4]
@[simp] theorem State_mcNext_fuses : ∀ x0 x1 x2, (Sys2Proof.Machine.State.mcNext x0 x1 x2).fuses = x0.fuses := by
    intro x0 x1 x2
    unfold Sys2Proof.Machine.State.mcNext
    extract_lets y0 y1 y2 y3
    have h0 : y0.fuses = x0.fuses := by
      simp only [y0]
      (repeat' split) <;> (try simp [fuses_foldl])
    clear_value y0
    have h3 : y3.fuses = x0.fuses := by
      simp only [y3]
      (repeat' split) <;> (try simp [fuses_foldl, h0, fuses_pending h0, fuses_slots h0, fuses_markers h0, fuses_kill h0, fuses_svn h0])
    clear_value y3
    (repeat' split) <;> simp [fuses_foldl, h0, fuses_pending h0, fuses_slots h0, fuses_markers h0, fuses_kill h0, fuses_svn h0, h3, fuses_pending h3, fuses_slots h3, fuses_markers h3, fuses_kill h3, fuses_svn h3]
@[simp] theorem State_cardGrant_fuses : ∀ x0 x1 x2, (Sys2Proof.Machine.State.cardGrant x0 x1 x2).fuses = x0.fuses := by
    intro x0 x1 x2
    unfold Sys2Proof.Machine.State.cardGrant
    extract_lets y0 y1 y2
    (repeat' split) <;> simp [fuses_foldl]
@[simp] theorem State_restoreNext_fuses : ∀ x0, (Sys2Proof.Machine.State.restoreNext x0).fuses = x0.fuses := by
    intro x0
    unfold State.restoreNext
    split
    · rfl
    · split
      · simp [fuses_foldl]
      · (repeat' split) <;> simp
@[simp] theorem State_restoreDecline_fuses : ∀ x0 x1, (Sys2Proof.Machine.State.restoreDecline x0 x1).fuses = x0.fuses := by
    intro x0 x1
    unfold Sys2Proof.Machine.State.restoreDecline; (repeat' split) <;> simp [fuses_foldl]
@[simp] theorem State_relayCard_fuses : ∀ x0 x1 x2 x3, (Sys2Proof.Machine.State.relayCard x0 x1 x2 x3).fuses = x0.fuses := by
    intro x0 x1 x2 x3
    unfold State.relayCard
    split
    · split
      · rfl
      · dsimp only; split <;> simp
    · (repeat' split) <;> simp
@[simp] theorem State_peerGone_fuses : ∀ x0 x1, (Sys2Proof.Machine.State.peerGone x0 x1).fuses = x0.fuses := by
    intro x0 x1
    unfold Sys2Proof.Machine.State.peerGone
    extract_lets y0 y1 y2
    have h0 : y0.fuses = x0.fuses := by
      simp only [y0]
      (repeat' split) <;> (try simp [fuses_foldl])
    clear_value y0
    have h1 : y1.fuses = x0.fuses := by
      simp only [y1]
      (repeat' split) <;> (try simp [fuses_foldl, h0, fuses_pending h0, fuses_slots h0, fuses_markers h0, fuses_kill h0, fuses_svn h0])
    clear_value y1
    have h2 : y2.fuses = x0.fuses := by
      simp only [y2]
      (repeat' split) <;> (try simp [fuses_foldl, h0, fuses_pending h0, fuses_slots h0, fuses_markers h0, fuses_kill h0, fuses_svn h0, h1, fuses_pending h1, fuses_slots h1, fuses_markers h1, fuses_kill h1, fuses_svn h1])
    clear_value y2
    (repeat' split) <;> simp [fuses_foldl, h0, fuses_pending h0, fuses_slots h0, fuses_markers h0, fuses_kill h0, fuses_svn h0, h1, fuses_pending h1, fuses_slots h1, fuses_markers h1, fuses_kill h1, fuses_svn h1, h2, fuses_pending h2, fuses_slots h2, fuses_markers h2, fuses_kill h2, fuses_svn h2]
@[simp] theorem State_losePeers_fuses : ∀ x0 x1, (Sys2Proof.Machine.State.losePeers x0 x1).fuses = x0.fuses := by
    intro x0 x1
    unfold Sys2Proof.Machine.State.losePeers
    extract_lets y0 y1 y2
    have h2 : y2.fuses = x0.fuses := by
      simp only [y2]
      (repeat' split) <;> (try simp [fuses_foldl])
    clear_value y2
    (repeat' split) <;> simp [fuses_foldl, h2, fuses_pending h2, fuses_slots h2, fuses_markers h2, fuses_kill h2, fuses_svn h2]
@[simp] theorem State_drainNow_fuses : ∀ x0, (Sys2Proof.Machine.State.drainNow x0).fuses = x0.fuses := by
    intro x0
    unfold State.drainNow
    refine fuses_foldl _ (fun x u => ?_) _ _
    split
    · split <;> simp
    · rfl
@[simp] theorem State_dedicateEnd_fuses : ∀ x0, (Sys2Proof.Machine.State.dedicateEnd x0).fuses = x0.fuses := by
    intro x0
    unfold State.dedicateEnd
    extract_lets stays s1
    have h1 : s1.fuses = x0.fuses := by
      refine fuses_foldl _ (fun x u => ?_) _ _
      dsimp only
      split <;> simp
    clear_value s1
    simp [h1, fuses_pending h1, fuses_slots h1, fuses_markers h1, fuses_kill h1, fuses_svn h1]
@[simp] theorem State_retireOne_fuses : ∀ x0 x1, (Sys2Proof.Machine.State.retireOne x0 x1).fuses = x0.fuses := by
    intro x0 x1
    unfold State.retireOne
    extract_lets s1 x s2 n free
    have h1 : s1.fuses = x0.fuses := by simp [s1]
    have h2 : s2.fuses = x0.fuses := by simp [s2, h1]
    clear_value s2 n free
    split
    · cases n with
      | none => exact h2
      | some k =>
        cases free with
        | none => exact h2
        | some v => exact h2
    · exact h2
@[simp] theorem State_retire_fuses : ∀ x0 x1, (Sys2Proof.Machine.State.retire x0 x1).fuses = x0.fuses := by
    intro x0 x1
    unfold State.retire
    dsimp only
    split
    · simp only [State_isoCheck_fuses, State_retireOne_fuses]
      exact fuses_foldl _ (fun x p => State_retireOne_fuses _ _) _ _
    · simp
@[simp] theorem State_endUnitTest_fuses : ∀ x0 x1 x2, (Sys2Proof.Machine.State.endUnitTest x0 x1 x2).fuses = x0.fuses := by
    intro x0 x1 x2
    unfold Sys2Proof.Machine.State.endUnitTest
    extract_lets y0 y1 y2 y3 y4
    have h1 : y1.fuses = x0.fuses := by
      simp only [y1]
      (repeat' split) <;> (try simp [fuses_foldl])
    clear_value y1
    have h3 : y3.fuses = x0.fuses := by
      simp only [y3]
      (repeat' split) <;> (try simp [fuses_foldl, h1, fuses_pending h1, fuses_slots h1, fuses_markers h1, fuses_kill h1, fuses_svn h1])
    clear_value y3
    have h4 : y4.fuses = x0.fuses := by
      simp only [y4]
      (repeat' split) <;> (try simp [fuses_foldl, h1, fuses_pending h1, fuses_slots h1, fuses_markers h1, fuses_kill h1, fuses_svn h1, h3, fuses_pending h3, fuses_slots h3, fuses_markers h3, fuses_kill h3, fuses_svn h3])
    clear_value y4
    (repeat' split) <;> simp [fuses_foldl, h1, fuses_pending h1, fuses_slots h1, fuses_markers h1, fuses_kill h1, fuses_svn h1, h3, fuses_pending h3, fuses_slots h3, fuses_markers h3, fuses_kill h3, fuses_svn h3, h4, fuses_pending h4, fuses_slots h4, fuses_markers h4, fuses_kill h4, fuses_svn h4]
@[simp] theorem State_endSelftest_fuses : ∀ x0 x1 x2, (Sys2Proof.Machine.State.endSelftest x0 x1 x2).fuses = x0.fuses := by
    intro x0 x1 x2
    unfold Sys2Proof.Machine.State.endSelftest
    extract_lets y0 y1 y2 y3
    have h3 : y3.fuses = x0.fuses := by
      simp only [y3]
      (repeat' split) <;> (try simp [fuses_foldl])
    clear_value y3
    (repeat' split) <;> simp [fuses_foldl, h3, fuses_pending h3, fuses_slots h3, fuses_markers h3, fuses_kill h3, fuses_svn h3]
@[simp] theorem State_recall_fuses : ∀ x0, (Sys2Proof.Machine.State.recall x0).fuses = x0.fuses := by
    intro x0
    unfold State.recall
    refine fuses_foldl _ (fun x c => ?_) _ _
    split
    · refine fuses_foldl _ (fun y l => ?_) _ _
      (repeat' split) <;> simp [fuses_ite]
    · rfl
@[simp] theorem State_assignAll_fuses : ∀ x0, (Sys2Proof.Machine.State.assignAll x0).fuses = x0.fuses := by
    intro x0
    unfold State.assignAll
    split
    · simp only
      refine (fuses_foldl _ (fun x p => ?_) _ _).trans (fuses_foldl _ (fun x p => ?_) _ _)
      · (repeat' split) <;> simp
      · (repeat' split) <;> simp
    · rfl
@[simp] theorem State_elect_fuses : ∀ x0, (Sys2Proof.Machine.State.elect x0).fuses = x0.fuses := by
    intro x0
    unfold Sys2Proof.Machine.State.elect
    extract_lets y0
    have h0 : y0.fuses = x0.fuses := by
      simp only [y0]
      (repeat' split) <;> (try simp [fuses_foldl])
    clear_value y0
    (repeat' split) <;> simp [fuses_foldl, h0, fuses_pending h0, fuses_slots h0, fuses_markers h0, fuses_kill h0, fuses_svn h0]
@[simp] theorem State_prunePeers_fuses : ∀ x0, (Sys2Proof.Machine.State.prunePeers x0).fuses = x0.fuses := by
    intro x0
    unfold Sys2Proof.Machine.State.prunePeers; (repeat' split) <;> simp [fuses_foldl]
@[simp] theorem State_portDown_fuses : ∀ x0 x1, (Sys2Proof.Machine.State.portDown x0 x1).fuses = x0.fuses := by
    intro x0 x1
    unfold Sys2Proof.Machine.State.portDown; (repeat' split) <;> simp [fuses_foldl]
@[simp] theorem State_retrain_fuses : ∀ x0 x1, (Sys2Proof.Machine.State.retrain x0 x1).fuses = x0.fuses := by
    intro x0 x1
    unfold Sys2Proof.Machine.State.retrain; (repeat' split) <;> simp [fuses_foldl]
@[simp] theorem State_replay_fuses : ∀ x0 x1, (Sys2Proof.Machine.State.replay x0 x1).fuses = x0.fuses := by
    intro x0 x1
    unfold State.replay
    simp only
    split
    · simp
    · refine (fuses_foldl _ (fun x u => ?_) _ _).trans ?_ <;> simp
@[simp] theorem State_serviceFail_fuses : ∀ x0 x1, (Sys2Proof.Machine.State.serviceFail x0 x1).fuses = x0.fuses := by
    intro x0 x1
    unfold State.serviceFail
    dsimp only
    (repeat' split) <;> simp
@[simp] theorem State_e2eShake_fuses : ∀ x0 x1 x2, (Sys2Proof.Machine.State.e2eShake x0 x1 x2).fuses = x0.fuses := by
    intro x0 x1 x2
    unfold State.e2eShake
    dsimp only
    (repeat' split) <;> simp
@[simp] theorem State_peerGrant_fuses : ∀ x0 x1 x2, (Sys2Proof.Machine.State.peerGrant x0 x1 x2).fuses = x0.fuses := by
    intro x0 x1 x2
    unfold State.peerGrant
    dsimp only
    (repeat' split) <;> first | rfl | (refine (fuses_foldl _ (fun x u => ?_) _ _).trans ?_ <;> simp)
@[simp] theorem State_portUp_fuses : ∀ x0 x1, (Sys2Proof.Machine.State.portUp x0 x1).fuses = x0.fuses := by
    intro x0 x1
    unfold State.portUp
    dsimp only
    (repeat' split) <;> simp
@[simp] theorem State_linkStep_fuses : ∀ x0 x1 x2 x3, (Sys2Proof.Machine.State.linkStep x0 x1 x2 x3).fuses = x0.fuses := by
    intro x0 x1 x2 x3
    unfold State.linkStep
    dsimp only
    (repeat' split) <;> simp
@[simp] theorem State_linkMsg_fuses : ∀ x0 x1 x2, (Sys2Proof.Machine.State.linkMsg x0 x1 x2).fuses = x0.fuses := by
    intro x0 x1 x2
    unfold State.linkMsg
    dsimp only
    (repeat' split) <;> simp
@[simp] theorem State_linkGrant_fuses : ∀ x0 x1 x2, (Sys2Proof.Machine.State.linkGrant x0 x1 x2).fuses = x0.fuses := by
    intro x0 x1 x2
    unfold State.linkGrant
    dsimp only
    (repeat' split) <;> first | rfl | (refine (fuses_foldl _ (fun x u => ?_) _ _).trans ?_ <;> simp)
@[simp] theorem State_grant_fuses : ∀ x0 x1 x2, (Sys2Proof.Machine.State.grant x0 x1 x2).fuses = x0.fuses := by
    intro x0 x1 x2
    unfold Sys2Proof.Machine.State.grant
    extract_lets y0
    (repeat' split) <;> simp [fuses_foldl]
@[simp] theorem State_restoreBundle_fuses : ∀ x0 x1, (Sys2Proof.Machine.State.restoreBundle x0 x1).fuses = x0.fuses := by
    intro x0 x1
    unfold State.restoreBundle
    dsimp only
    split
    · simp
    · rename_i body hb
      have hr : ∀ es, (x0.restoreAll es).1.fuses = x0.fuses := fun es =>
        fuses_foldl_fst _ (fun x e => by split <;> simp) _ _
      split
      · split
        · simp [hr]
        · simp
      · rfl
@[simp] theorem State_tmpEvents_fuses : ∀ x0 x1, (Sys2Proof.Machine.State.tmpEvents x0 x1).fuses = x0.fuses := by
    intro x0 x1
    unfold State.tmpEvents
    extract_lets chans r
    have hr : r.1.fuses = x0.fuses := by
      simp only [r]; refine fuses_foldl_fst _ (fun x a => ?_) _ _; exact State_tmpCount_fuses _ _
    split
    · exact hr
    · simp [hr]
@[simp] theorem State_loopsCut_fuses : ∀ x0, (Sys2Proof.Machine.State.loopsCut x0).fuses = x0.fuses := by
    intro x0
    unfold Sys2Proof.Machine.State.loopsCut; (repeat' split) <;> simp [fuses_foldl]
@[simp] theorem State_tmpEvent_fuses : ∀ x0 x1 x2, (Sys2Proof.Machine.State.tmpEvent x0 x1 x2).fuses = x0.fuses := by
    intro x0 x1 x2
    unfold Sys2Proof.Machine.State.tmpEvent; (repeat' split) <;> simp [fuses_foldl]
@[simp] theorem State_tick_fuses : ∀ x0, (Sys2Proof.Machine.State.tick x0).fuses = x0.fuses := by
    intro x0
    unfold State.tick
    exact (State_loopsCut_fuses _).trans rfl
@[simp] theorem State_fltRespond_fuses : ∀ x0 x1 x2 x3, (Sys2Proof.Machine.State.fltRespond x0 x1 x2 x3).fuses = x0.fuses := by
    intro x0 x1 x2 x3
    unfold State.fltRespond
    dsimp only
    (repeat' split) <;> simp
@[simp] theorem State_fltEvent_fuses : ∀ x0 x1 x2 x3 x4, (Sys2Proof.Machine.State.fltEvent x0 x1 x2 x3 x4).fuses = x0.fuses := by
    intro x0 x1 x2 x3 x4
    unfold Sys2Proof.Machine.State.fltEvent
    extract_lets y0 y1 y2
    have h2 : y2.fuses = x0.fuses := by
      simp only [y2]
      (repeat' split) <;> (try simp [fuses_foldl])
    clear_value y2
    (repeat' split) <;> simp [fuses_foldl, h2, fuses_pending h2, fuses_slots h2, fuses_markers h2, fuses_kill h2, fuses_svn h2]
@[simp] theorem State_injectNow_fuses : ∀ x0 x1, (Sys2Proof.Machine.State.injectNow x0 x1).fuses = x0.fuses := by
    intro x0 x1
    unfold Sys2Proof.Machine.State.injectNow
    extract_lets y0 y1 y2 y3 y4 y5 y6
    have h3 : y3.fuses = x0.fuses := by
      simp only [y3]
      (repeat' split) <;> (try simp [fuses_foldl])
    clear_value y3
    have h5 : y5.fuses = x0.fuses := by
      simp only [y5]
      (repeat' split) <;> (try simp [fuses_foldl, h3, fuses_pending h3, fuses_slots h3, fuses_markers h3, fuses_kill h3, fuses_svn h3])
    clear_value y5
    (repeat' split) <;> simp [fuses_foldl, h3, fuses_pending h3, fuses_slots h3, fuses_markers h3, fuses_kill h3, fuses_svn h3, h5, fuses_pending h5, fuses_slots h5, fuses_markers h5, fuses_kill h5, fuses_svn h5]
@[simp] theorem State_inject_fuses : ∀ x0 x1, (Sys2Proof.Machine.State.inject x0 x1).fuses = x0.fuses := by
    intro x0 x1
    unfold Sys2Proof.Machine.State.inject
    extract_lets y0 y1 y2
    have h0 : y0.fuses = x0.fuses := by
      simp only [y0]
      (repeat' split) <;> (try simp [fuses_foldl])
    clear_value y0
    have h1 : y1.fuses = x0.fuses := by
      simp only [y1]
      (repeat' split) <;> (try simp [fuses_foldl, h0, fuses_pending h0, fuses_slots h0, fuses_markers h0, fuses_kill h0, fuses_svn h0])
    clear_value y1
    (repeat' split) <;> simp [fuses_foldl, h0, fuses_pending h0, fuses_slots h0, fuses_markers h0, fuses_kill h0, fuses_svn h0, h1, fuses_pending h1, fuses_slots h1, fuses_markers h1, fuses_kill h1, fuses_svn h1]
@[simp] theorem State_stageShared_fuses (s a b c d e) : (State.stageShared s a b c d e).2.fuses = s.fuses := by
  unfold State.stageShared; (try dsimp only)
  (repeat' split) <;> simp
/-! Operations that may end early, and pairs. -/

/-- An operation that may end early keeps them. -/
def ResKeeps {α : Type} (s : State) : Except Done (State × α) → Prop
  | .ok (t, _) => t.fuses = s.fuses
  | .error _ => True
@[simp] theorem resKeeps_ok {α : Type} (s t : State) (a : α) : ResKeeps s (.ok (t, a)) ↔ t.fuses = s.fuses := Iff.rfl
@[simp] theorem resKeeps_pure {α : Type} (s t : State) (a : α) : ResKeeps s (pure (t, a)) ↔ t.fuses = s.fuses := Iff.rfl
@[simp] theorem resKeeps_error {α : Type} (s : State) (d : Done) : ResKeeps s (.error d : Except Done (State × α)) := trivial
@[simp] theorem resKeeps_throw {α : Type} (s : State) (d : Done) : ResKeeps s (throw d : Except Done (State × α)) := trivial
theorem resKeeps_bind {α β : Type} (s : State) (x : Except Done β) (f : β → Except Done (State × α)) (h : ∀ b, ResKeeps s (f b)) : ResKeeps s (x >>= f) := by
  cases x with
  | error d => trivial
  | ok b => exact h b
theorem resKeeps_map {α β : Type} (s : State) (x : Except Done β) (f : β → State × α) (h : ∀ b, (f b).1.fuses = s.fuses) : ResKeeps s (f <$> x) := by
  cases x with
  | error d => trivial
  | ok b => exact h b
theorem resKeeps_seq {α : Type} (s : State) (x : Except Done PUnit) (y : Except Done (State × α)) (h : ResKeeps s y) : ResKeeps s (do x; y) := by
  cases x with
  | error d => trivial
  | ok b => exact h
theorem atOnce_fuses' (x0 : State) (x1 : Nat) (x2 : Cmd) (x3 : Except Done (State × Done)) (h : ResKeeps x0 x3) : (State.atOnce x0 x1 x2 x3).fuses = x0.fuses := by
  unfold State.atOnce
  split
  · simpa using h
  · split <;> simp
@[simp] theorem State_newObj_fuses (s fn a p q) : ResKeeps s (State.newObj s fn a p q) := by
  unfold State.newObj
  (repeat' split) <;> (try simp) <;> (repeat' split) <;> first | trivial | (simp; done)
theorem State_blobTableOp_fuses (s c h) : ResKeeps s (State.blobTableOp s c h) := by
  unfold State.blobTableOp; repeat' (first | refine resKeeps_bind _ _ _ (fun _ => ?_) | exact resKeeps_map _ _ _ (fun _ => by simp))
  all_goals simp
theorem State_ctxClearOp_fuses (s c h) : ResKeeps s (State.ctxClearOp s c h) := by
  unfold State.ctxClearOp; repeat' (first | refine resKeeps_bind _ _ _ (fun _ => ?_) | exact resKeeps_map _ _ _ (fun _ => by simp))
  all_goals simp
theorem State_keyBytesOp_fuses (s c h a b) : ResKeeps s (State.keyBytesOp s c h a b) := by
  unfold State.keyBytesOp; repeat' (first | refine resKeeps_bind _ _ _ (fun _ => ?_) | exact resKeeps_map _ _ _ (fun _ => by simp))
  all_goals simp
theorem State_blobEpochOp_fuses (s c h) : ResKeeps s (State.blobEpochOp s c h) := by
  unfold State.blobEpochOp; repeat' (first | refine resKeeps_bind _ _ _ (fun _ => ?_) | exact resKeeps_map _ _ _ (fun _ => by simp))
  all_goals simp
theorem State_destroyOp_fuses (s c h) : ResKeeps s (State.destroyOp s c h) := by
  unfold State.destroyOp; repeat' (first | refine resKeeps_bind _ _ _ (fun _ => ?_) | exact resKeeps_map _ _ _ (fun _ => by simp))
  all_goals simp
theorem State_discardOp_fuses (s c h) : ResKeeps s (State.discardOp s c h) := by
  unfold State.discardOp; repeat' (first | refine resKeeps_bind _ _ _ (fun _ => ?_) | exact resKeeps_map _ _ _ (fun _ => by simp))
  all_goals simp
theorem State_commitOp_fuses (s c h) : ResKeeps s (State.commitOp s c h) := by
  unfold State.commitOp
  repeat (refine resKeeps_bind _ _ _ (fun _ => ?_))
  split
  · simp
  · repeat (refine resKeeps_bind _ _ _ (fun _ => ?_))
    simp
theorem State_epochOp_fuses (s c h) : ResKeeps s (State.epochOp s c h) := by
  unfold State.epochOp; repeat' (first | refine resKeeps_bind _ _ _ (fun _ => ?_) | exact resKeeps_map _ _ _ (fun _ => by simp))
  all_goals simp
theorem State_releaseOp_fuses (s c h) : ResKeeps s (State.releaseOp s c h) := by
  unfold State.releaseOp; repeat' (first | refine resKeeps_bind _ _ _ (fun _ => ?_) | exact resKeeps_map _ _ _ (fun _ => by simp))
  all_goals simp
theorem State_opmFormatOp_fuses (s c h) : ResKeeps s (State.opmFormatOp s c h) := by
  unfold State.opmFormatOp; repeat' (first | refine resKeeps_bind _ _ _ (fun _ => ?_) | exact resKeeps_map _ _ _ (fun _ => by simp))
  all_goals simp
theorem State_placeAll_fuses (s : State) (id leg : Nat) (l : List Nat) (t : State) (h : s.placeAll id leg l = some t) : t.fuses = s.fuses := by
  induction l generalizing s with
  | nil => simp only [State.placeAll, Option.some.injEq] at h; rw [h]
  | cons a l ih =>
    unfold State.placeAll at h
    (repeat' split at h) <;> first
      | (injection h with h; rw [← h]; simp; done)
      | (exact (ih _ h).trans (by simp))
      | (exact absurd h (by simp))

end Sys2Proof.Machine
end

