-- ==== Sys2Proof/Laws/Mailbox.lean ====
section
/-!
SUPPORT. Laws of the row of a mailbox operation: what it answers when the request of its channel is accepted (R116 to R122).
-/
namespace Sys2Proof.Machine
open Sys2Proof

/-- An accepted request whose operation is done at once: its reply is delivered. -/
theorem mbxRow1_done {s t : State} {fn ch code : Nat} {r : MbxReq} {f : MbxReq → Course} {p : Reply} (h : Accepted s fn ch code r)
    (hf : f r = .done t p) : mbxRow1 code fn ch f s = .next (answer s t fn ch r p) := by
  obtain ⟨h1, h2, h3⟩ := h
  unfold mbxRow1 mbxRow answer
  simp [h1, h2, h3, hf, Reply.fits, Reply.err]
  split <;> rfl

/-- An accepted request that its operation turns away. -/
theorem mbxRow1_bad {s : State} {fn ch code st : Nat} {r : MbxReq} {f : MbxReq → Course} (h : Accepted s fn ch code r)
    (hf : f r = .bad st) : mbxRow1 code fn ch f s = refuse s fn ch st := by
  obtain ⟨h1, h2, h3⟩ := h
  unfold mbxRow1 mbxRow refuse
  simp [h1, h2, h3, hf, Reply.err, Course.bad]

end Sys2Proof.Machine
end

