-- ==== Sys2Proof/Laws/Seal.lean ====
section
/-!
SUPPORT. What the Eblos seal does, whatever its key: the lengths of its ciphertext and tag, and that opening what it sealed gives the plaintext
back (R147, R239).
-/
namespace Sys2Proof.Machine
open Sys2Proof

/-- A buffer cut or filled to n bytes has n. -/
@[simp] theorem fixLen_length (n : Nat) (l : List Byte) : (fixLen n l).length = n := by
  simp only [fixLen, List.length_append, List.length_take, List.length_replicate]
  omega

/-- The state of the permutation keeps its 25 lanes, and its bytes are 200. -/
theorem keccakRound_length (a : List DWord) (rc : DWord) : (keccakRound a rc).length = 25 := by
  simp [keccakRound]

theorem keccakRounds_length (l : List DWord) (a : List DWord) (h : a.length = 25) : (l.foldl keccakRound a).length = 25 := by
  induction l generalizing a with
  | nil => exact h
  | cons rc t ih => exact ih _ (keccakRound_length a rc)

theorem lanesOf_length (n : Nat) (l : List Byte) : (lanesOf n l).length = n := by
  induction n generalizing l with
  | zero => rfl
  | succ n ih => simp [lanesOf, ih]

theorem bytesOfLanes_length (l : List DWord) : (bytesOfLanes l).length = 8 * l.length := by
  induction l with
  | nil => rfl
  | cons x t ih =>
    simp only [bytesOfLanes, List.flatMap_cons, List.length_append, natLE_length, List.length_cons] at ih ⊢
    omega

@[simp] theorem keccakF_length (st : List Byte) : (keccakF st).length = 200 := by
  simp [keccakF, bytesOfLanes_length, keccakRounds_length _ _ (lanesOf_length 25 st)]

/-- A squeeze gives as many bytes as were asked for. -/
theorem squeeze_length (rate : Nat) (hr : rate ≤ 200) : ∀ (f : Nat) (st : List Byte) (n : Nat), st.length = 200 → n ≤ rate * (f + 1) →
    (squeeze rate f st n).length = n := by
  intro f
  induction f with
  | zero =>
    intro st n h hn
    simp only [squeeze, List.length_take, h, Nat.min_def]
    have : n ≤ rate := by simpa using hn
    split <;> split <;> omega
  | succ f ih =>
    intro st n h hn
    simp only [squeeze]
    split
    · simp only [List.length_take, h]
      omega
    · have := ih (keccakF st) (n - rate) (keccakF_length st) (by
        have : rate * (f + 1 + 1) = rate * (f + 1) + rate := Nat.mul_succ _ _
        omega)
      simp only [List.length_append, List.length_take, h, this]
      omega

@[simp] theorem kmac256_length (key data : List Byte) (n : Nat) (custom : String) : (kmac256 key data n custom).length = n := by
  simp only [kmac256, kmac, HKind.hash, HKind.finish]
  refine squeeze_length 136 (by omega) _ _ _ ?_ ?_
  · simp [spongeBlock]
  · have := Nat.div_add_mod n 136
    omega

theorem xorBytes_self (a b : List Byte) (h : a.length = b.length) : xorBytes (xorBytes a b) b = a := by
  induction a generalizing b with
  | nil => cases b <;> simp_all [xorBytes]
  | cons x t ih =>
    cases b with
    | nil => simp at h
    | cons y u =>
      have h2 : t.length = u.length := by simpa using h
      have := ih u h2
      simp only [xorBytes, List.zipWith_cons_cons] at this ⊢
      rw [this]
      simp

@[simp] theorem sealBytes_length (k hdr pt : List Byte) (s : String) :
    (sealBytes k hdr pt s).1.length = pt.length ∧ (sealBytes k hdr pt s).2.length = 32 := by
  simp [sealBytes, xorBytes]

/-- What was sealed opens under the same key, header and purpose. -/
theorem openBytes_sealBytes (k hdr pt : List Byte) (s : String) :
    openBytes k hdr (sealBytes k hdr pt s).1 (sealBytes k hdr pt s).2 s = some pt := by
  have h : (sealBytes k hdr pt s).1.length = pt.length := (sealBytes_length k hdr pt s).1
  unfold openBytes
  simp only [h]
  simp only [sealBytes, if_true]
  rw [xorBytes_self]
  simp

end Sys2Proof.Machine
end

