-- ==== Sys2Proof/Laws/State.lean ====
section
/-!
SUPPORT. What each named update of the state does to each field of it; with these no proof unfolds a record update.
-/
namespace Sys2Proof.Machine
open Sys2Proof

/-! State.wr. -/

@[simp] theorem State.wr_pending (s : State) (a b : Nat) (v : Word) : (s.wr a b v).pending = s.pending := rfl
@[simp] theorem State.wr_now (s : State) (a b : Nat) (v : Word) : (s.wr a b v).now = s.now := rfl
@[simp] theorem State.wr_free (s : State) (a b : Nat) (v : Word) : (s.wr a b v).free = s.free := rfl
@[simp] theorem State.wr_tx (s : State) (a b : Nat) (v : Word) : (s.wr a b v).tx = s.tx := rfl
@[simp] theorem State.wr_regs (s : State) (a b : Nat) (v : Word) : (s.wr a b v).regs = if v = regReset a b then mdel s.regs (regKey a b) else mput s.regs (regKey a b) v := rfl
@[simp] theorem State.wr_link (s : State) (a b : Nat) (v : Word) : (s.wr a b v).link = s.link := rfl
@[simp] theorem State.wr_fns (s : State) (a b : Nat) (v : Word) : (s.wr a b v).fns = s.fns := rfl
@[simp] theorem State.wr_qps (s : State) (a b : Nat) (v : Word) : (s.wr a b v).qps = s.qps := rfl
@[simp] theorem State.wr_cmds (s : State) (a b : Nat) (v : Word) : (s.wr a b v).cmds = s.cmds := rfl
@[simp] theorem State.wr_nextCmd (s : State) (a b : Nat) (v : Word) : (s.wr a b v).nextCmd = s.nextCmd := rfl
@[simp] theorem State.wr_nextRun (s : State) (a b : Nat) (v : Word) : (s.wr a b v).nextRun = s.nextRun := rfl
@[simp] theorem State.wr_sched (s : State) (a b : Nat) (v : Word) : (s.wr a b v).sched = s.sched := rfl
@[simp] theorem State.wr_turn (s : State) (a b : Nat) (v : Word) : (s.wr a b v).turn = s.turn := rfl
@[simp] theorem State.wr_batches (s : State) (a b : Nat) (v : Word) : (s.wr a b v).batches = s.batches := rfl
@[simp] theorem State.wr_ks (s : State) (a b : Nat) (v : Word) : (s.wr a b v).ks = s.ks := rfl
@[simp] theorem State.wr_dg (s : State) (a b : Nat) (v : Word) : (s.wr a b v).dg = s.dg := rfl
@[simp] theorem State.wr_opm (s : State) (a b : Nat) (v : Word) : (s.wr a b v).opm = s.opm := rfl
@[simp] theorem State.wr_curves (s : State) (a b : Nat) (v : Word) : (s.wr a b v).curves = s.curves := rfl
@[simp] theorem State.wr_kernels (s : State) (a b : Nat) (v : Word) : (s.wr a b v).kernels = s.kernels := rfl
@[simp] theorem State.wr_signers (s : State) (a b : Nat) (v : Word) : (s.wr a b v).signers = s.signers := rfl
@[simp] theorem State.wr_pvcs (s : State) (a b : Nat) (v : Word) : (s.wr a b v).pvcs = s.pvcs := rfl
@[simp] theorem State.wr_clusters (s : State) (a b : Nat) (v : Word) : (s.wr a b v).clusters = s.clusters := rfl
@[simp] theorem State.wr_units (s : State) (a b : Nat) (v : Word) : (s.wr a b v).units = s.units := rfl
@[simp] theorem State.wr_nrg (s : State) (a b : Nat) (v : Word) : (s.wr a b v).nrg = s.nrg := rfl
@[simp] theorem State.wr_mbx (s : State) (a b : Nat) (v : Word) : (s.wr a b v).mbx = s.mbx := rfl
@[simp] theorem State.wr_outcomes (s : State) (a b : Nat) (v : Word) : (s.wr a b v).outcomes = s.outcomes := rfl
@[simp] theorem State.wr_boot (s : State) (a b : Nat) (v : Word) : (s.wr a b v).boot = s.boot := rfl
@[simp] theorem State.wr_pwr (s : State) (a b : Nat) (v : Word) : (s.wr a b v).pwr = s.pwr := rfl
@[simp] theorem State.wr_tmp (s : State) (a b : Nat) (v : Word) : (s.wr a b v).tmp = s.tmp := rfl
@[simp] theorem State.wr_tmpTest (s : State) (a b : Nat) (v : Word) : (s.wr a b v).tmpTest = s.tmpTest := rfl
@[simp] theorem State.wr_tmpNext (s : State) (a b : Nat) (v : Word) : (s.wr a b v).tmpNext = s.tmpNext := rfl
@[simp] theorem State.wr_tmpSeries (s : State) (a b : Nat) (v : Word) : (s.wr a b v).tmpSeries = s.tmpSeries := rfl
@[simp] theorem State.wr_tlSeed (s : State) (a b : Nat) (v : Word) : (s.wr a b v).tlSeed = s.tlSeed := rfl
@[simp] theorem State.wr_peat (s : State) (a b : Nat) (v : Word) : (s.wr a b v).peat = s.peat := rfl
@[simp] theorem State.wr_lc (s : State) (a b : Nat) (v : Word) : (s.wr a b v).lc = s.lc := rfl
@[simp] theorem State.wr_flt (s : State) (a b : Nat) (v : Word) : (s.wr a b v).flt = s.flt := rfl
@[simp] theorem State.wr_cards (s : State) (a b : Nat) (v : Word) : (s.wr a b v).cards = s.cards := rfl
@[simp] theorem State.wr_fab (s : State) (a b : Nat) (v : Word) : (s.wr a b v).fab = s.fab := rfl
@[simp] theorem State.wr_test (s : State) (a b : Nat) (v : Word) : (s.wr a b v).test = s.test := rfl

/-! State.wrF. -/

@[simp] theorem State.wrF_pending (s : State) (a b c v : Nat) : (s.wrF a b c v).pending = s.pending := rfl
@[simp] theorem State.wrF_now (s : State) (a b c v : Nat) : (s.wrF a b c v).now = s.now := rfl
@[simp] theorem State.wrF_free (s : State) (a b c v : Nat) : (s.wrF a b c v).free = s.free := rfl
@[simp] theorem State.wrF_tx (s : State) (a b c v : Nat) : (s.wrF a b c v).tx = s.tx := rfl
@[simp] theorem State.wrF_link (s : State) (a b c v : Nat) : (s.wrF a b c v).link = s.link := rfl
@[simp] theorem State.wrF_fns (s : State) (a b c v : Nat) : (s.wrF a b c v).fns = s.fns := rfl
@[simp] theorem State.wrF_qps (s : State) (a b c v : Nat) : (s.wrF a b c v).qps = s.qps := rfl
@[simp] theorem State.wrF_cmds (s : State) (a b c v : Nat) : (s.wrF a b c v).cmds = s.cmds := rfl
@[simp] theorem State.wrF_nextCmd (s : State) (a b c v : Nat) : (s.wrF a b c v).nextCmd = s.nextCmd := rfl
@[simp] theorem State.wrF_nextRun (s : State) (a b c v : Nat) : (s.wrF a b c v).nextRun = s.nextRun := rfl
@[simp] theorem State.wrF_sched (s : State) (a b c v : Nat) : (s.wrF a b c v).sched = s.sched := rfl
@[simp] theorem State.wrF_turn (s : State) (a b c v : Nat) : (s.wrF a b c v).turn = s.turn := rfl
@[simp] theorem State.wrF_batches (s : State) (a b c v : Nat) : (s.wrF a b c v).batches = s.batches := rfl
@[simp] theorem State.wrF_ks (s : State) (a b c v : Nat) : (s.wrF a b c v).ks = s.ks := rfl
@[simp] theorem State.wrF_dg (s : State) (a b c v : Nat) : (s.wrF a b c v).dg = s.dg := rfl
@[simp] theorem State.wrF_opm (s : State) (a b c v : Nat) : (s.wrF a b c v).opm = s.opm := rfl
@[simp] theorem State.wrF_curves (s : State) (a b c v : Nat) : (s.wrF a b c v).curves = s.curves := rfl
@[simp] theorem State.wrF_kernels (s : State) (a b c v : Nat) : (s.wrF a b c v).kernels = s.kernels := rfl
@[simp] theorem State.wrF_signers (s : State) (a b c v : Nat) : (s.wrF a b c v).signers = s.signers := rfl
@[simp] theorem State.wrF_pvcs (s : State) (a b c v : Nat) : (s.wrF a b c v).pvcs = s.pvcs := rfl
@[simp] theorem State.wrF_clusters (s : State) (a b c v : Nat) : (s.wrF a b c v).clusters = s.clusters := rfl
@[simp] theorem State.wrF_units (s : State) (a b c v : Nat) : (s.wrF a b c v).units = s.units := rfl
@[simp] theorem State.wrF_nrg (s : State) (a b c v : Nat) : (s.wrF a b c v).nrg = s.nrg := rfl
@[simp] theorem State.wrF_mbx (s : State) (a b c v : Nat) : (s.wrF a b c v).mbx = s.mbx := rfl
@[simp] theorem State.wrF_outcomes (s : State) (a b c v : Nat) : (s.wrF a b c v).outcomes = s.outcomes := rfl
@[simp] theorem State.wrF_boot (s : State) (a b c v : Nat) : (s.wrF a b c v).boot = s.boot := rfl
@[simp] theorem State.wrF_pwr (s : State) (a b c v : Nat) : (s.wrF a b c v).pwr = s.pwr := rfl
@[simp] theorem State.wrF_tmp (s : State) (a b c v : Nat) : (s.wrF a b c v).tmp = s.tmp := rfl
@[simp] theorem State.wrF_tmpTest (s : State) (a b c v : Nat) : (s.wrF a b c v).tmpTest = s.tmpTest := rfl
@[simp] theorem State.wrF_tmpNext (s : State) (a b c v : Nat) : (s.wrF a b c v).tmpNext = s.tmpNext := rfl
@[simp] theorem State.wrF_tmpSeries (s : State) (a b c v : Nat) : (s.wrF a b c v).tmpSeries = s.tmpSeries := rfl
@[simp] theorem State.wrF_tlSeed (s : State) (a b c v : Nat) : (s.wrF a b c v).tlSeed = s.tlSeed := rfl
@[simp] theorem State.wrF_peat (s : State) (a b c v : Nat) : (s.wrF a b c v).peat = s.peat := rfl
@[simp] theorem State.wrF_lc (s : State) (a b c v : Nat) : (s.wrF a b c v).lc = s.lc := rfl
@[simp] theorem State.wrF_flt (s : State) (a b c v : Nat) : (s.wrF a b c v).flt = s.flt := rfl
@[simp] theorem State.wrF_cards (s : State) (a b c v : Nat) : (s.wrF a b c v).cards = s.cards := rfl
@[simp] theorem State.wrF_fab (s : State) (a b c v : Nat) : (s.wrF a b c v).fab = s.fab := rfl
@[simp] theorem State.wrF_test (s : State) (a b c v : Nat) : (s.wrF a b c v).test = s.test := rfl

/-! State.wrB. -/

@[simp] theorem State.wrB_pending (s : State) (a b : Nat) (v : Bool) : (s.wrB a b v).pending = s.pending := rfl
@[simp] theorem State.wrB_now (s : State) (a b : Nat) (v : Bool) : (s.wrB a b v).now = s.now := rfl
@[simp] theorem State.wrB_free (s : State) (a b : Nat) (v : Bool) : (s.wrB a b v).free = s.free := rfl
@[simp] theorem State.wrB_tx (s : State) (a b : Nat) (v : Bool) : (s.wrB a b v).tx = s.tx := rfl
@[simp] theorem State.wrB_link (s : State) (a b : Nat) (v : Bool) : (s.wrB a b v).link = s.link := rfl
@[simp] theorem State.wrB_fns (s : State) (a b : Nat) (v : Bool) : (s.wrB a b v).fns = s.fns := rfl
@[simp] theorem State.wrB_qps (s : State) (a b : Nat) (v : Bool) : (s.wrB a b v).qps = s.qps := rfl
@[simp] theorem State.wrB_cmds (s : State) (a b : Nat) (v : Bool) : (s.wrB a b v).cmds = s.cmds := rfl
@[simp] theorem State.wrB_nextCmd (s : State) (a b : Nat) (v : Bool) : (s.wrB a b v).nextCmd = s.nextCmd := rfl
@[simp] theorem State.wrB_nextRun (s : State) (a b : Nat) (v : Bool) : (s.wrB a b v).nextRun = s.nextRun := rfl
@[simp] theorem State.wrB_sched (s : State) (a b : Nat) (v : Bool) : (s.wrB a b v).sched = s.sched := rfl
@[simp] theorem State.wrB_turn (s : State) (a b : Nat) (v : Bool) : (s.wrB a b v).turn = s.turn := rfl
@[simp] theorem State.wrB_batches (s : State) (a b : Nat) (v : Bool) : (s.wrB a b v).batches = s.batches := rfl
@[simp] theorem State.wrB_ks (s : State) (a b : Nat) (v : Bool) : (s.wrB a b v).ks = s.ks := rfl
@[simp] theorem State.wrB_dg (s : State) (a b : Nat) (v : Bool) : (s.wrB a b v).dg = s.dg := rfl
@[simp] theorem State.wrB_opm (s : State) (a b : Nat) (v : Bool) : (s.wrB a b v).opm = s.opm := rfl
@[simp] theorem State.wrB_curves (s : State) (a b : Nat) (v : Bool) : (s.wrB a b v).curves = s.curves := rfl
@[simp] theorem State.wrB_kernels (s : State) (a b : Nat) (v : Bool) : (s.wrB a b v).kernels = s.kernels := rfl
@[simp] theorem State.wrB_signers (s : State) (a b : Nat) (v : Bool) : (s.wrB a b v).signers = s.signers := rfl
@[simp] theorem State.wrB_pvcs (s : State) (a b : Nat) (v : Bool) : (s.wrB a b v).pvcs = s.pvcs := rfl
@[simp] theorem State.wrB_clusters (s : State) (a b : Nat) (v : Bool) : (s.wrB a b v).clusters = s.clusters := rfl
@[simp] theorem State.wrB_units (s : State) (a b : Nat) (v : Bool) : (s.wrB a b v).units = s.units := rfl
@[simp] theorem State.wrB_nrg (s : State) (a b : Nat) (v : Bool) : (s.wrB a b v).nrg = s.nrg := rfl
@[simp] theorem State.wrB_mbx (s : State) (a b : Nat) (v : Bool) : (s.wrB a b v).mbx = s.mbx := rfl
@[simp] theorem State.wrB_outcomes (s : State) (a b : Nat) (v : Bool) : (s.wrB a b v).outcomes = s.outcomes := rfl
@[simp] theorem State.wrB_boot (s : State) (a b : Nat) (v : Bool) : (s.wrB a b v).boot = s.boot := rfl
@[simp] theorem State.wrB_pwr (s : State) (a b : Nat) (v : Bool) : (s.wrB a b v).pwr = s.pwr := rfl
@[simp] theorem State.wrB_tmp (s : State) (a b : Nat) (v : Bool) : (s.wrB a b v).tmp = s.tmp := rfl
@[simp] theorem State.wrB_tmpTest (s : State) (a b : Nat) (v : Bool) : (s.wrB a b v).tmpTest = s.tmpTest := rfl
@[simp] theorem State.wrB_tmpNext (s : State) (a b : Nat) (v : Bool) : (s.wrB a b v).tmpNext = s.tmpNext := rfl
@[simp] theorem State.wrB_tmpSeries (s : State) (a b : Nat) (v : Bool) : (s.wrB a b v).tmpSeries = s.tmpSeries := rfl
@[simp] theorem State.wrB_tlSeed (s : State) (a b : Nat) (v : Bool) : (s.wrB a b v).tlSeed = s.tlSeed := rfl
@[simp] theorem State.wrB_peat (s : State) (a b : Nat) (v : Bool) : (s.wrB a b v).peat = s.peat := rfl
@[simp] theorem State.wrB_lc (s : State) (a b : Nat) (v : Bool) : (s.wrB a b v).lc = s.lc := rfl
@[simp] theorem State.wrB_flt (s : State) (a b : Nat) (v : Bool) : (s.wrB a b v).flt = s.flt := rfl
@[simp] theorem State.wrB_cards (s : State) (a b : Nat) (v : Bool) : (s.wrB a b v).cards = s.cards := rfl
@[simp] theorem State.wrB_fab (s : State) (a b : Nat) (v : Bool) : (s.wrB a b v).fab = s.fab := rfl
@[simp] theorem State.wrB_test (s : State) (a b : Nat) (v : Bool) : (s.wrB a b v).test = s.test := rfl

/-! State.incF. -/

@[simp] theorem State.incF_pending (s : State) (a b c v : Nat) : (s.incF a b c v).pending = s.pending := rfl
@[simp] theorem State.incF_now (s : State) (a b c v : Nat) : (s.incF a b c v).now = s.now := rfl
@[simp] theorem State.incF_free (s : State) (a b c v : Nat) : (s.incF a b c v).free = s.free := rfl
@[simp] theorem State.incF_tx (s : State) (a b c v : Nat) : (s.incF a b c v).tx = s.tx := rfl
@[simp] theorem State.incF_link (s : State) (a b c v : Nat) : (s.incF a b c v).link = s.link := rfl
@[simp] theorem State.incF_fns (s : State) (a b c v : Nat) : (s.incF a b c v).fns = s.fns := rfl
@[simp] theorem State.incF_qps (s : State) (a b c v : Nat) : (s.incF a b c v).qps = s.qps := rfl
@[simp] theorem State.incF_cmds (s : State) (a b c v : Nat) : (s.incF a b c v).cmds = s.cmds := rfl
@[simp] theorem State.incF_nextCmd (s : State) (a b c v : Nat) : (s.incF a b c v).nextCmd = s.nextCmd := rfl
@[simp] theorem State.incF_nextRun (s : State) (a b c v : Nat) : (s.incF a b c v).nextRun = s.nextRun := rfl
@[simp] theorem State.incF_sched (s : State) (a b c v : Nat) : (s.incF a b c v).sched = s.sched := rfl
@[simp] theorem State.incF_turn (s : State) (a b c v : Nat) : (s.incF a b c v).turn = s.turn := rfl
@[simp] theorem State.incF_batches (s : State) (a b c v : Nat) : (s.incF a b c v).batches = s.batches := rfl
@[simp] theorem State.incF_ks (s : State) (a b c v : Nat) : (s.incF a b c v).ks = s.ks := rfl
@[simp] theorem State.incF_dg (s : State) (a b c v : Nat) : (s.incF a b c v).dg = s.dg := rfl
@[simp] theorem State.incF_opm (s : State) (a b c v : Nat) : (s.incF a b c v).opm = s.opm := rfl
@[simp] theorem State.incF_curves (s : State) (a b c v : Nat) : (s.incF a b c v).curves = s.curves := rfl
@[simp] theorem State.incF_kernels (s : State) (a b c v : Nat) : (s.incF a b c v).kernels = s.kernels := rfl
@[simp] theorem State.incF_signers (s : State) (a b c v : Nat) : (s.incF a b c v).signers = s.signers := rfl
@[simp] theorem State.incF_pvcs (s : State) (a b c v : Nat) : (s.incF a b c v).pvcs = s.pvcs := rfl
@[simp] theorem State.incF_clusters (s : State) (a b c v : Nat) : (s.incF a b c v).clusters = s.clusters := rfl
@[simp] theorem State.incF_units (s : State) (a b c v : Nat) : (s.incF a b c v).units = s.units := rfl
@[simp] theorem State.incF_nrg (s : State) (a b c v : Nat) : (s.incF a b c v).nrg = s.nrg := rfl
@[simp] theorem State.incF_mbx (s : State) (a b c v : Nat) : (s.incF a b c v).mbx = s.mbx := rfl
@[simp] theorem State.incF_outcomes (s : State) (a b c v : Nat) : (s.incF a b c v).outcomes = s.outcomes := rfl
@[simp] theorem State.incF_boot (s : State) (a b c v : Nat) : (s.incF a b c v).boot = s.boot := rfl
@[simp] theorem State.incF_pwr (s : State) (a b c v : Nat) : (s.incF a b c v).pwr = s.pwr := rfl
@[simp] theorem State.incF_tmp (s : State) (a b c v : Nat) : (s.incF a b c v).tmp = s.tmp := rfl
@[simp] theorem State.incF_tmpTest (s : State) (a b c v : Nat) : (s.incF a b c v).tmpTest = s.tmpTest := rfl
@[simp] theorem State.incF_tmpNext (s : State) (a b c v : Nat) : (s.incF a b c v).tmpNext = s.tmpNext := rfl
@[simp] theorem State.incF_tmpSeries (s : State) (a b c v : Nat) : (s.incF a b c v).tmpSeries = s.tmpSeries := rfl
@[simp] theorem State.incF_tlSeed (s : State) (a b c v : Nat) : (s.incF a b c v).tlSeed = s.tlSeed := rfl
@[simp] theorem State.incF_peat (s : State) (a b c v : Nat) : (s.incF a b c v).peat = s.peat := rfl
@[simp] theorem State.incF_lc (s : State) (a b c v : Nat) : (s.incF a b c v).lc = s.lc := rfl
@[simp] theorem State.incF_flt (s : State) (a b c v : Nat) : (s.incF a b c v).flt = s.flt := rfl
@[simp] theorem State.incF_cards (s : State) (a b c v : Nat) : (s.incF a b c v).cards = s.cards := rfl
@[simp] theorem State.incF_fab (s : State) (a b c v : Nat) : (s.incF a b c v).fab = s.fab := rfl
@[simp] theorem State.incF_test (s : State) (a b c v : Nat) : (s.incF a b c v).test = s.test := rfl

/-! State.emit. -/

@[simp] theorem State.emit_pending (s : State) (o : LinkOut) : (s.emit o).pending = s.pending := rfl
@[simp] theorem State.emit_now (s : State) (o : LinkOut) : (s.emit o).now = s.now := rfl
@[simp] theorem State.emit_free (s : State) (o : LinkOut) : (s.emit o).free = s.free := rfl
@[simp] theorem State.emit_tx (s : State) (o : LinkOut) : (s.emit o).tx = s.tx ++ [o] := rfl
@[simp] theorem State.emit_regs (s : State) (o : LinkOut) : (s.emit o).regs = s.regs := rfl
@[simp] theorem State.emit_link (s : State) (o : LinkOut) : (s.emit o).link = s.link := rfl
@[simp] theorem State.emit_fns (s : State) (o : LinkOut) : (s.emit o).fns = s.fns := rfl
@[simp] theorem State.emit_qps (s : State) (o : LinkOut) : (s.emit o).qps = s.qps := rfl
@[simp] theorem State.emit_cmds (s : State) (o : LinkOut) : (s.emit o).cmds = s.cmds := rfl
@[simp] theorem State.emit_nextCmd (s : State) (o : LinkOut) : (s.emit o).nextCmd = s.nextCmd := rfl
@[simp] theorem State.emit_nextRun (s : State) (o : LinkOut) : (s.emit o).nextRun = s.nextRun := rfl
@[simp] theorem State.emit_sched (s : State) (o : LinkOut) : (s.emit o).sched = s.sched := rfl
@[simp] theorem State.emit_turn (s : State) (o : LinkOut) : (s.emit o).turn = s.turn := rfl
@[simp] theorem State.emit_batches (s : State) (o : LinkOut) : (s.emit o).batches = s.batches := rfl
@[simp] theorem State.emit_ks (s : State) (o : LinkOut) : (s.emit o).ks = s.ks := rfl
@[simp] theorem State.emit_dg (s : State) (o : LinkOut) : (s.emit o).dg = s.dg := rfl
@[simp] theorem State.emit_opm (s : State) (o : LinkOut) : (s.emit o).opm = s.opm := rfl
@[simp] theorem State.emit_curves (s : State) (o : LinkOut) : (s.emit o).curves = s.curves := rfl
@[simp] theorem State.emit_kernels (s : State) (o : LinkOut) : (s.emit o).kernels = s.kernels := rfl
@[simp] theorem State.emit_signers (s : State) (o : LinkOut) : (s.emit o).signers = s.signers := rfl
@[simp] theorem State.emit_pvcs (s : State) (o : LinkOut) : (s.emit o).pvcs = s.pvcs := rfl
@[simp] theorem State.emit_clusters (s : State) (o : LinkOut) : (s.emit o).clusters = s.clusters := rfl
@[simp] theorem State.emit_units (s : State) (o : LinkOut) : (s.emit o).units = s.units := rfl
@[simp] theorem State.emit_nrg (s : State) (o : LinkOut) : (s.emit o).nrg = s.nrg := rfl
@[simp] theorem State.emit_mbx (s : State) (o : LinkOut) : (s.emit o).mbx = s.mbx := rfl
@[simp] theorem State.emit_outcomes (s : State) (o : LinkOut) : (s.emit o).outcomes = s.outcomes := rfl
@[simp] theorem State.emit_boot (s : State) (o : LinkOut) : (s.emit o).boot = s.boot := rfl
@[simp] theorem State.emit_pwr (s : State) (o : LinkOut) : (s.emit o).pwr = s.pwr := rfl
@[simp] theorem State.emit_tmp (s : State) (o : LinkOut) : (s.emit o).tmp = s.tmp := rfl
@[simp] theorem State.emit_tmpTest (s : State) (o : LinkOut) : (s.emit o).tmpTest = s.tmpTest := rfl
@[simp] theorem State.emit_tmpNext (s : State) (o : LinkOut) : (s.emit o).tmpNext = s.tmpNext := rfl
@[simp] theorem State.emit_tmpSeries (s : State) (o : LinkOut) : (s.emit o).tmpSeries = s.tmpSeries := rfl
@[simp] theorem State.emit_tlSeed (s : State) (o : LinkOut) : (s.emit o).tlSeed = s.tlSeed := rfl
@[simp] theorem State.emit_peat (s : State) (o : LinkOut) : (s.emit o).peat = s.peat := rfl
@[simp] theorem State.emit_lc (s : State) (o : LinkOut) : (s.emit o).lc = s.lc := rfl
@[simp] theorem State.emit_flt (s : State) (o : LinkOut) : (s.emit o).flt = s.flt := rfl
@[simp] theorem State.emit_cards (s : State) (o : LinkOut) : (s.emit o).cards = s.cards := rfl
@[simp] theorem State.emit_fab (s : State) (o : LinkOut) : (s.emit o).fab = s.fab := rfl
@[simp] theorem State.emit_test (s : State) (o : LinkOut) : (s.emit o).test = s.test := rfl

/-! State.msix. -/

@[simp] theorem State.msix_pending (s : State) (a b : Nat) : (s.msix a b).pending = s.pending := by unfold State.msix; (repeat' split) <;> rfl
@[simp] theorem State.msix_now (s : State) (a b : Nat) : (s.msix a b).now = s.now := by unfold State.msix; (repeat' split) <;> rfl
@[simp] theorem State.msix_free (s : State) (a b : Nat) : (s.msix a b).free = s.free := by unfold State.msix; (repeat' split) <;> rfl
@[simp] theorem State.msix_regs (s : State) (a b : Nat) : (s.msix a b).regs = s.regs := by unfold State.msix; (repeat' split) <;> rfl
@[simp] theorem State.msix_fns (s : State) (a b : Nat) : (s.msix a b).fns = s.fns := by unfold State.msix; (repeat' split) <;> rfl
@[simp] theorem State.msix_qps (s : State) (a b : Nat) : (s.msix a b).qps = s.qps := by unfold State.msix; (repeat' split) <;> rfl
@[simp] theorem State.msix_cmds (s : State) (a b : Nat) : (s.msix a b).cmds = s.cmds := by unfold State.msix; (repeat' split) <;> rfl
@[simp] theorem State.msix_nextCmd (s : State) (a b : Nat) : (s.msix a b).nextCmd = s.nextCmd := by unfold State.msix; (repeat' split) <;> rfl
@[simp] theorem State.msix_nextRun (s : State) (a b : Nat) : (s.msix a b).nextRun = s.nextRun := by unfold State.msix; (repeat' split) <;> rfl
@[simp] theorem State.msix_sched (s : State) (a b : Nat) : (s.msix a b).sched = s.sched := by unfold State.msix; (repeat' split) <;> rfl
@[simp] theorem State.msix_turn (s : State) (a b : Nat) : (s.msix a b).turn = s.turn := by unfold State.msix; (repeat' split) <;> rfl
@[simp] theorem State.msix_batches (s : State) (a b : Nat) : (s.msix a b).batches = s.batches := by unfold State.msix; (repeat' split) <;> rfl
@[simp] theorem State.msix_ks (s : State) (a b : Nat) : (s.msix a b).ks = s.ks := by unfold State.msix; (repeat' split) <;> rfl
@[simp] theorem State.msix_dg (s : State) (a b : Nat) : (s.msix a b).dg = s.dg := by unfold State.msix; (repeat' split) <;> rfl
@[simp] theorem State.msix_opm (s : State) (a b : Nat) : (s.msix a b).opm = s.opm := by unfold State.msix; (repeat' split) <;> rfl
@[simp] theorem State.msix_curves (s : State) (a b : Nat) : (s.msix a b).curves = s.curves := by unfold State.msix; (repeat' split) <;> rfl
@[simp] theorem State.msix_kernels (s : State) (a b : Nat) : (s.msix a b).kernels = s.kernels := by unfold State.msix; (repeat' split) <;> rfl
@[simp] theorem State.msix_signers (s : State) (a b : Nat) : (s.msix a b).signers = s.signers := by unfold State.msix; (repeat' split) <;> rfl
@[simp] theorem State.msix_pvcs (s : State) (a b : Nat) : (s.msix a b).pvcs = s.pvcs := by unfold State.msix; (repeat' split) <;> rfl
@[simp] theorem State.msix_clusters (s : State) (a b : Nat) : (s.msix a b).clusters = s.clusters := by unfold State.msix; (repeat' split) <;> rfl
@[simp] theorem State.msix_units (s : State) (a b : Nat) : (s.msix a b).units = s.units := by unfold State.msix; (repeat' split) <;> rfl
@[simp] theorem State.msix_nrg (s : State) (a b : Nat) : (s.msix a b).nrg = s.nrg := by unfold State.msix; (repeat' split) <;> rfl
@[simp] theorem State.msix_mbx (s : State) (a b : Nat) : (s.msix a b).mbx = s.mbx := by unfold State.msix; (repeat' split) <;> rfl
@[simp] theorem State.msix_outcomes (s : State) (a b : Nat) : (s.msix a b).outcomes = s.outcomes := by unfold State.msix; (repeat' split) <;> rfl
@[simp] theorem State.msix_boot (s : State) (a b : Nat) : (s.msix a b).boot = s.boot := by unfold State.msix; (repeat' split) <;> rfl
@[simp] theorem State.msix_pwr (s : State) (a b : Nat) : (s.msix a b).pwr = s.pwr := by unfold State.msix; (repeat' split) <;> rfl
@[simp] theorem State.msix_tmp (s : State) (a b : Nat) : (s.msix a b).tmp = s.tmp := by unfold State.msix; (repeat' split) <;> rfl
@[simp] theorem State.msix_tmpTest (s : State) (a b : Nat) : (s.msix a b).tmpTest = s.tmpTest := by unfold State.msix; (repeat' split) <;> rfl
@[simp] theorem State.msix_tmpNext (s : State) (a b : Nat) : (s.msix a b).tmpNext = s.tmpNext := by unfold State.msix; (repeat' split) <;> rfl
@[simp] theorem State.msix_tmpSeries (s : State) (a b : Nat) : (s.msix a b).tmpSeries = s.tmpSeries := by unfold State.msix; (repeat' split) <;> rfl
@[simp] theorem State.msix_tlSeed (s : State) (a b : Nat) : (s.msix a b).tlSeed = s.tlSeed := by unfold State.msix; (repeat' split) <;> rfl
@[simp] theorem State.msix_peat (s : State) (a b : Nat) : (s.msix a b).peat = s.peat := by unfold State.msix; (repeat' split) <;> rfl
@[simp] theorem State.msix_lc (s : State) (a b : Nat) : (s.msix a b).lc = s.lc := by unfold State.msix; (repeat' split) <;> rfl
@[simp] theorem State.msix_flt (s : State) (a b : Nat) : (s.msix a b).flt = s.flt := by unfold State.msix; (repeat' split) <;> rfl
@[simp] theorem State.msix_cards (s : State) (a b : Nat) : (s.msix a b).cards = s.cards := by unfold State.msix; (repeat' split) <;> rfl
@[simp] theorem State.msix_fab (s : State) (a b : Nat) : (s.msix a b).fab = s.fab := by unfold State.msix; (repeat' split) <;> rfl
@[simp] theorem State.msix_test (s : State) (a b : Nat) : (s.msix a b).test = s.test := by unfold State.msix; (repeat' split) <;> rfl
/-- A message goes out, or waits in the pending-bit array (R60, R109). -/
theorem State.msix_open {s : State} {a b : Nat} (hf : s.fenced a = false) (h : s.vecMasked a b = false) :
    (s.msix a b) = s.emit (.msix a b) := by simp [State.msix, hf, h]

/-! State.fresh. -/

@[simp] theorem State.fresh_pending (s : State) : s.fresh.pending = s.pending := rfl
@[simp] theorem State.fresh_now (s : State) : s.fresh.now = s.now := rfl
@[simp] theorem State.fresh_free (s : State) : s.fresh.free = s.free + 1 := rfl
@[simp] theorem State.fresh_tx (s : State) : s.fresh.tx = s.tx := rfl
@[simp] theorem State.fresh_regs (s : State) : s.fresh.regs = s.regs := rfl
@[simp] theorem State.fresh_link (s : State) : s.fresh.link = s.link := rfl
@[simp] theorem State.fresh_fns (s : State) : s.fresh.fns = s.fns := rfl
@[simp] theorem State.fresh_qps (s : State) : s.fresh.qps = s.qps := rfl
@[simp] theorem State.fresh_cmds (s : State) : s.fresh.cmds = s.cmds := rfl
@[simp] theorem State.fresh_nextCmd (s : State) : s.fresh.nextCmd = s.nextCmd := rfl
@[simp] theorem State.fresh_nextRun (s : State) : s.fresh.nextRun = s.nextRun := rfl
@[simp] theorem State.fresh_sched (s : State) : s.fresh.sched = s.sched := rfl
@[simp] theorem State.fresh_turn (s : State) : s.fresh.turn = s.turn := rfl
@[simp] theorem State.fresh_batches (s : State) : s.fresh.batches = s.batches := rfl
@[simp] theorem State.fresh_ks (s : State) : s.fresh.ks = s.ks := rfl
@[simp] theorem State.fresh_dg (s : State) : s.fresh.dg = s.dg := rfl
@[simp] theorem State.fresh_opm (s : State) : s.fresh.opm = s.opm := rfl
@[simp] theorem State.fresh_curves (s : State) : s.fresh.curves = s.curves := rfl
@[simp] theorem State.fresh_kernels (s : State) : s.fresh.kernels = s.kernels := rfl
@[simp] theorem State.fresh_signers (s : State) : s.fresh.signers = s.signers := rfl
@[simp] theorem State.fresh_pvcs (s : State) : s.fresh.pvcs = s.pvcs := rfl
@[simp] theorem State.fresh_clusters (s : State) : s.fresh.clusters = s.clusters := rfl
@[simp] theorem State.fresh_units (s : State) : s.fresh.units = s.units := rfl
@[simp] theorem State.fresh_nrg (s : State) : s.fresh.nrg = s.nrg := rfl
@[simp] theorem State.fresh_mbx (s : State) : s.fresh.mbx = s.mbx := rfl
@[simp] theorem State.fresh_outcomes (s : State) : s.fresh.outcomes = s.outcomes := rfl
@[simp] theorem State.fresh_boot (s : State) : s.fresh.boot = s.boot := rfl
@[simp] theorem State.fresh_pwr (s : State) : s.fresh.pwr = s.pwr := rfl
@[simp] theorem State.fresh_tmp (s : State) : s.fresh.tmp = s.tmp := rfl
@[simp] theorem State.fresh_tmpTest (s : State) : s.fresh.tmpTest = s.tmpTest := rfl
@[simp] theorem State.fresh_tmpNext (s : State) : s.fresh.tmpNext = s.tmpNext := rfl
@[simp] theorem State.fresh_tmpSeries (s : State) : s.fresh.tmpSeries = s.tmpSeries := rfl
@[simp] theorem State.fresh_tlSeed (s : State) : s.fresh.tlSeed = s.tlSeed := rfl
@[simp] theorem State.fresh_peat (s : State) : s.fresh.peat = s.peat := rfl
@[simp] theorem State.fresh_lc (s : State) : s.fresh.lc = s.lc := rfl
@[simp] theorem State.fresh_flt (s : State) : s.fresh.flt = s.flt := rfl
@[simp] theorem State.fresh_cards (s : State) : s.fresh.cards = s.cards := rfl
@[simp] theorem State.fresh_fab (s : State) : s.fresh.fab = s.fab := rfl
@[simp] theorem State.fresh_test (s : State) : s.fresh.test = s.test := rfl

/-! State.used. -/

@[simp] theorem State.used_pending (s : State) (n : Nat) : (s.used n).pending = s.pending := rfl
@[simp] theorem State.used_now (s : State) (n : Nat) : (s.used n).now = s.now := rfl
@[simp] theorem State.used_free (s : State) (n : Nat) : (s.used n).free = s.free + n := rfl
@[simp] theorem State.used_tx (s : State) (n : Nat) : (s.used n).tx = s.tx := rfl
@[simp] theorem State.used_regs (s : State) (n : Nat) : (s.used n).regs = s.regs := rfl
@[simp] theorem State.used_link (s : State) (n : Nat) : (s.used n).link = s.link := rfl
@[simp] theorem State.used_fns (s : State) (n : Nat) : (s.used n).fns = s.fns := rfl
@[simp] theorem State.used_qps (s : State) (n : Nat) : (s.used n).qps = s.qps := rfl
@[simp] theorem State.used_cmds (s : State) (n : Nat) : (s.used n).cmds = s.cmds := rfl
@[simp] theorem State.used_nextCmd (s : State) (n : Nat) : (s.used n).nextCmd = s.nextCmd := rfl
@[simp] theorem State.used_nextRun (s : State) (n : Nat) : (s.used n).nextRun = s.nextRun := rfl
@[simp] theorem State.used_sched (s : State) (n : Nat) : (s.used n).sched = s.sched := rfl
@[simp] theorem State.used_turn (s : State) (n : Nat) : (s.used n).turn = s.turn := rfl
@[simp] theorem State.used_batches (s : State) (n : Nat) : (s.used n).batches = s.batches := rfl
@[simp] theorem State.used_ks (s : State) (n : Nat) : (s.used n).ks = s.ks := rfl
@[simp] theorem State.used_dg (s : State) (n : Nat) : (s.used n).dg = s.dg := rfl
@[simp] theorem State.used_opm (s : State) (n : Nat) : (s.used n).opm = s.opm := rfl
@[simp] theorem State.used_curves (s : State) (n : Nat) : (s.used n).curves = s.curves := rfl
@[simp] theorem State.used_kernels (s : State) (n : Nat) : (s.used n).kernels = s.kernels := rfl
@[simp] theorem State.used_signers (s : State) (n : Nat) : (s.used n).signers = s.signers := rfl
@[simp] theorem State.used_pvcs (s : State) (n : Nat) : (s.used n).pvcs = s.pvcs := rfl
@[simp] theorem State.used_clusters (s : State) (n : Nat) : (s.used n).clusters = s.clusters := rfl
@[simp] theorem State.used_units (s : State) (n : Nat) : (s.used n).units = s.units := rfl
@[simp] theorem State.used_nrg (s : State) (n : Nat) : (s.used n).nrg = s.nrg := rfl
@[simp] theorem State.used_mbx (s : State) (n : Nat) : (s.used n).mbx = s.mbx := rfl
@[simp] theorem State.used_outcomes (s : State) (n : Nat) : (s.used n).outcomes = s.outcomes := rfl
@[simp] theorem State.used_boot (s : State) (n : Nat) : (s.used n).boot = s.boot := rfl
@[simp] theorem State.used_pwr (s : State) (n : Nat) : (s.used n).pwr = s.pwr := rfl
@[simp] theorem State.used_tmp (s : State) (n : Nat) : (s.used n).tmp = s.tmp := rfl
@[simp] theorem State.used_tmpTest (s : State) (n : Nat) : (s.used n).tmpTest = s.tmpTest := rfl
@[simp] theorem State.used_tmpNext (s : State) (n : Nat) : (s.used n).tmpNext = s.tmpNext := rfl
@[simp] theorem State.used_tmpSeries (s : State) (n : Nat) : (s.used n).tmpSeries = s.tmpSeries := rfl
@[simp] theorem State.used_tlSeed (s : State) (n : Nat) : (s.used n).tlSeed = s.tlSeed := rfl
@[simp] theorem State.used_peat (s : State) (n : Nat) : (s.used n).peat = s.peat := rfl
@[simp] theorem State.used_lc (s : State) (n : Nat) : (s.used n).lc = s.lc := rfl
@[simp] theorem State.used_flt (s : State) (n : Nat) : (s.used n).flt = s.flt := rfl
@[simp] theorem State.used_cards (s : State) (n : Nat) : (s.used n).cards = s.cards := rfl
@[simp] theorem State.used_fab (s : State) (n : Nat) : (s.used n).fab = s.fab := rfl
@[simp] theorem State.used_test (s : State) (n : Nat) : (s.used n).test = s.test := rfl

/-! State.setFn. -/

@[simp] theorem State.setFn_pending (s : State) (n : Nat) (x : Fn) : (s.setFn n x).pending = s.pending := rfl
@[simp] theorem State.setFn_now (s : State) (n : Nat) (x : Fn) : (s.setFn n x).now = s.now := rfl
@[simp] theorem State.setFn_free (s : State) (n : Nat) (x : Fn) : (s.setFn n x).free = s.free := rfl
@[simp] theorem State.setFn_tx (s : State) (n : Nat) (x : Fn) : (s.setFn n x).tx = s.tx := rfl
@[simp] theorem State.setFn_regs (s : State) (n : Nat) (x : Fn) : (s.setFn n x).regs = s.regs := rfl
@[simp] theorem State.setFn_link (s : State) (n : Nat) (x : Fn) : (s.setFn n x).link = s.link := rfl
@[simp] theorem State.setFn_fns (s : State) (n : Nat) (x : Fn) : (s.setFn n x).fns = mput s.fns n x := rfl
@[simp] theorem State.setFn_qps (s : State) (n : Nat) (x : Fn) : (s.setFn n x).qps = s.qps := rfl
@[simp] theorem State.setFn_cmds (s : State) (n : Nat) (x : Fn) : (s.setFn n x).cmds = s.cmds := rfl
@[simp] theorem State.setFn_nextCmd (s : State) (n : Nat) (x : Fn) : (s.setFn n x).nextCmd = s.nextCmd := rfl
@[simp] theorem State.setFn_nextRun (s : State) (n : Nat) (x : Fn) : (s.setFn n x).nextRun = s.nextRun := rfl
@[simp] theorem State.setFn_sched (s : State) (n : Nat) (x : Fn) : (s.setFn n x).sched = s.sched := rfl
@[simp] theorem State.setFn_turn (s : State) (n : Nat) (x : Fn) : (s.setFn n x).turn = s.turn := rfl
@[simp] theorem State.setFn_batches (s : State) (n : Nat) (x : Fn) : (s.setFn n x).batches = s.batches := rfl
@[simp] theorem State.setFn_ks (s : State) (n : Nat) (x : Fn) : (s.setFn n x).ks = s.ks := rfl
@[simp] theorem State.setFn_dg (s : State) (n : Nat) (x : Fn) : (s.setFn n x).dg = s.dg := rfl
@[simp] theorem State.setFn_opm (s : State) (n : Nat) (x : Fn) : (s.setFn n x).opm = s.opm := rfl
@[simp] theorem State.setFn_curves (s : State) (n : Nat) (x : Fn) : (s.setFn n x).curves = s.curves := rfl
@[simp] theorem State.setFn_kernels (s : State) (n : Nat) (x : Fn) : (s.setFn n x).kernels = s.kernels := rfl
@[simp] theorem State.setFn_signers (s : State) (n : Nat) (x : Fn) : (s.setFn n x).signers = s.signers := rfl
@[simp] theorem State.setFn_pvcs (s : State) (n : Nat) (x : Fn) : (s.setFn n x).pvcs = s.pvcs := rfl
@[simp] theorem State.setFn_clusters (s : State) (n : Nat) (x : Fn) : (s.setFn n x).clusters = s.clusters := rfl
@[simp] theorem State.setFn_units (s : State) (n : Nat) (x : Fn) : (s.setFn n x).units = s.units := rfl
@[simp] theorem State.setFn_nrg (s : State) (n : Nat) (x : Fn) : (s.setFn n x).nrg = s.nrg := rfl
@[simp] theorem State.setFn_mbx (s : State) (n : Nat) (x : Fn) : (s.setFn n x).mbx = s.mbx := rfl
@[simp] theorem State.setFn_outcomes (s : State) (n : Nat) (x : Fn) : (s.setFn n x).outcomes = s.outcomes := rfl
@[simp] theorem State.setFn_boot (s : State) (n : Nat) (x : Fn) : (s.setFn n x).boot = s.boot := rfl
@[simp] theorem State.setFn_pwr (s : State) (n : Nat) (x : Fn) : (s.setFn n x).pwr = s.pwr := rfl
@[simp] theorem State.setFn_tmp (s : State) (n : Nat) (x : Fn) : (s.setFn n x).tmp = s.tmp := rfl
@[simp] theorem State.setFn_tmpTest (s : State) (n : Nat) (x : Fn) : (s.setFn n x).tmpTest = s.tmpTest := rfl
@[simp] theorem State.setFn_tmpNext (s : State) (n : Nat) (x : Fn) : (s.setFn n x).tmpNext = s.tmpNext := rfl
@[simp] theorem State.setFn_tmpSeries (s : State) (n : Nat) (x : Fn) : (s.setFn n x).tmpSeries = s.tmpSeries := rfl
@[simp] theorem State.setFn_tlSeed (s : State) (n : Nat) (x : Fn) : (s.setFn n x).tlSeed = s.tlSeed := rfl
@[simp] theorem State.setFn_peat (s : State) (n : Nat) (x : Fn) : (s.setFn n x).peat = s.peat := rfl
@[simp] theorem State.setFn_lc (s : State) (n : Nat) (x : Fn) : (s.setFn n x).lc = s.lc := rfl
@[simp] theorem State.setFn_flt (s : State) (n : Nat) (x : Fn) : (s.setFn n x).flt = s.flt := rfl
@[simp] theorem State.setFn_cards (s : State) (n : Nat) (x : Fn) : (s.setFn n x).cards = s.cards := rfl
@[simp] theorem State.setFn_fab (s : State) (n : Nat) (x : Fn) : (s.setFn n x).fab = s.fab := rfl
@[simp] theorem State.setFn_test (s : State) (n : Nat) (x : Fn) : (s.setFn n x).test = s.test := rfl

/-! State.setQp. -/

@[simp] theorem State.setQp_pending (s : State) (a b : Nat) (x : QPair) : (s.setQp a b x).pending = s.pending := rfl
@[simp] theorem State.setQp_now (s : State) (a b : Nat) (x : QPair) : (s.setQp a b x).now = s.now := rfl
@[simp] theorem State.setQp_free (s : State) (a b : Nat) (x : QPair) : (s.setQp a b x).free = s.free := rfl
@[simp] theorem State.setQp_tx (s : State) (a b : Nat) (x : QPair) : (s.setQp a b x).tx = s.tx := rfl
@[simp] theorem State.setQp_regs (s : State) (a b : Nat) (x : QPair) : (s.setQp a b x).regs = s.regs := rfl
@[simp] theorem State.setQp_link (s : State) (a b : Nat) (x : QPair) : (s.setQp a b x).link = s.link := rfl
@[simp] theorem State.setQp_fns (s : State) (a b : Nat) (x : QPair) : (s.setQp a b x).fns = s.fns := rfl
@[simp] theorem State.setQp_qps (s : State) (a b : Nat) (x : QPair) : (s.setQp a b x).qps = mput s.qps (qpKey a b) x := rfl
@[simp] theorem State.setQp_cmds (s : State) (a b : Nat) (x : QPair) : (s.setQp a b x).cmds = s.cmds := rfl
@[simp] theorem State.setQp_nextCmd (s : State) (a b : Nat) (x : QPair) : (s.setQp a b x).nextCmd = s.nextCmd := rfl
@[simp] theorem State.setQp_nextRun (s : State) (a b : Nat) (x : QPair) : (s.setQp a b x).nextRun = s.nextRun := rfl
@[simp] theorem State.setQp_sched (s : State) (a b : Nat) (x : QPair) : (s.setQp a b x).sched = s.sched := rfl
@[simp] theorem State.setQp_turn (s : State) (a b : Nat) (x : QPair) : (s.setQp a b x).turn = s.turn := rfl
@[simp] theorem State.setQp_batches (s : State) (a b : Nat) (x : QPair) : (s.setQp a b x).batches = s.batches := rfl
@[simp] theorem State.setQp_ks (s : State) (a b : Nat) (x : QPair) : (s.setQp a b x).ks = s.ks := rfl
@[simp] theorem State.setQp_dg (s : State) (a b : Nat) (x : QPair) : (s.setQp a b x).dg = s.dg := rfl
@[simp] theorem State.setQp_opm (s : State) (a b : Nat) (x : QPair) : (s.setQp a b x).opm = s.opm := rfl
@[simp] theorem State.setQp_curves (s : State) (a b : Nat) (x : QPair) : (s.setQp a b x).curves = s.curves := rfl
@[simp] theorem State.setQp_kernels (s : State) (a b : Nat) (x : QPair) : (s.setQp a b x).kernels = s.kernels := rfl
@[simp] theorem State.setQp_signers (s : State) (a b : Nat) (x : QPair) : (s.setQp a b x).signers = s.signers := rfl
@[simp] theorem State.setQp_pvcs (s : State) (a b : Nat) (x : QPair) : (s.setQp a b x).pvcs = s.pvcs := rfl
@[simp] theorem State.setQp_clusters (s : State) (a b : Nat) (x : QPair) : (s.setQp a b x).clusters = s.clusters := rfl
@[simp] theorem State.setQp_units (s : State) (a b : Nat) (x : QPair) : (s.setQp a b x).units = s.units := rfl
@[simp] theorem State.setQp_nrg (s : State) (a b : Nat) (x : QPair) : (s.setQp a b x).nrg = s.nrg := rfl
@[simp] theorem State.setQp_mbx (s : State) (a b : Nat) (x : QPair) : (s.setQp a b x).mbx = s.mbx := rfl
@[simp] theorem State.setQp_outcomes (s : State) (a b : Nat) (x : QPair) : (s.setQp a b x).outcomes = s.outcomes := rfl
@[simp] theorem State.setQp_boot (s : State) (a b : Nat) (x : QPair) : (s.setQp a b x).boot = s.boot := rfl
@[simp] theorem State.setQp_pwr (s : State) (a b : Nat) (x : QPair) : (s.setQp a b x).pwr = s.pwr := rfl
@[simp] theorem State.setQp_tmp (s : State) (a b : Nat) (x : QPair) : (s.setQp a b x).tmp = s.tmp := rfl
@[simp] theorem State.setQp_tmpTest (s : State) (a b : Nat) (x : QPair) : (s.setQp a b x).tmpTest = s.tmpTest := rfl
@[simp] theorem State.setQp_tmpNext (s : State) (a b : Nat) (x : QPair) : (s.setQp a b x).tmpNext = s.tmpNext := rfl
@[simp] theorem State.setQp_tmpSeries (s : State) (a b : Nat) (x : QPair) : (s.setQp a b x).tmpSeries = s.tmpSeries := rfl
@[simp] theorem State.setQp_tlSeed (s : State) (a b : Nat) (x : QPair) : (s.setQp a b x).tlSeed = s.tlSeed := rfl
@[simp] theorem State.setQp_peat (s : State) (a b : Nat) (x : QPair) : (s.setQp a b x).peat = s.peat := rfl
@[simp] theorem State.setQp_lc (s : State) (a b : Nat) (x : QPair) : (s.setQp a b x).lc = s.lc := rfl
@[simp] theorem State.setQp_flt (s : State) (a b : Nat) (x : QPair) : (s.setQp a b x).flt = s.flt := rfl
@[simp] theorem State.setQp_cards (s : State) (a b : Nat) (x : QPair) : (s.setQp a b x).cards = s.cards := rfl
@[simp] theorem State.setQp_fab (s : State) (a b : Nat) (x : QPair) : (s.setQp a b x).fab = s.fab := rfl
@[simp] theorem State.setQp_test (s : State) (a b : Nat) (x : QPair) : (s.setQp a b x).test = s.test := rfl

/-! State.setCmd. -/

@[simp] theorem State.setCmd_pending (s : State) (n : Nat) (x : Cmd) : (s.setCmd n x).pending = s.pending := rfl
@[simp] theorem State.setCmd_now (s : State) (n : Nat) (x : Cmd) : (s.setCmd n x).now = s.now := rfl
@[simp] theorem State.setCmd_free (s : State) (n : Nat) (x : Cmd) : (s.setCmd n x).free = s.free := rfl
@[simp] theorem State.setCmd_tx (s : State) (n : Nat) (x : Cmd) : (s.setCmd n x).tx = s.tx := rfl
@[simp] theorem State.setCmd_regs (s : State) (n : Nat) (x : Cmd) : (s.setCmd n x).regs = s.regs := rfl
@[simp] theorem State.setCmd_link (s : State) (n : Nat) (x : Cmd) : (s.setCmd n x).link = s.link := rfl
@[simp] theorem State.setCmd_fns (s : State) (n : Nat) (x : Cmd) : (s.setCmd n x).fns = s.fns := rfl
@[simp] theorem State.setCmd_qps (s : State) (n : Nat) (x : Cmd) : (s.setCmd n x).qps = s.qps := rfl
@[simp] theorem State.setCmd_cmds (s : State) (n : Nat) (x : Cmd) : (s.setCmd n x).cmds = mput s.cmds n x := rfl
@[simp] theorem State.setCmd_nextCmd (s : State) (n : Nat) (x : Cmd) : (s.setCmd n x).nextCmd = s.nextCmd := rfl
@[simp] theorem State.setCmd_nextRun (s : State) (n : Nat) (x : Cmd) : (s.setCmd n x).nextRun = s.nextRun := rfl
@[simp] theorem State.setCmd_sched (s : State) (n : Nat) (x : Cmd) : (s.setCmd n x).sched = s.sched := rfl
@[simp] theorem State.setCmd_turn (s : State) (n : Nat) (x : Cmd) : (s.setCmd n x).turn = s.turn := rfl
@[simp] theorem State.setCmd_batches (s : State) (n : Nat) (x : Cmd) : (s.setCmd n x).batches = s.batches := rfl
@[simp] theorem State.setCmd_ks (s : State) (n : Nat) (x : Cmd) : (s.setCmd n x).ks = s.ks := rfl
@[simp] theorem State.setCmd_dg (s : State) (n : Nat) (x : Cmd) : (s.setCmd n x).dg = s.dg := rfl
@[simp] theorem State.setCmd_opm (s : State) (n : Nat) (x : Cmd) : (s.setCmd n x).opm = s.opm := rfl
@[simp] theorem State.setCmd_curves (s : State) (n : Nat) (x : Cmd) : (s.setCmd n x).curves = s.curves := rfl
@[simp] theorem State.setCmd_kernels (s : State) (n : Nat) (x : Cmd) : (s.setCmd n x).kernels = s.kernels := rfl
@[simp] theorem State.setCmd_signers (s : State) (n : Nat) (x : Cmd) : (s.setCmd n x).signers = s.signers := rfl
@[simp] theorem State.setCmd_pvcs (s : State) (n : Nat) (x : Cmd) : (s.setCmd n x).pvcs = s.pvcs := rfl
@[simp] theorem State.setCmd_clusters (s : State) (n : Nat) (x : Cmd) : (s.setCmd n x).clusters = s.clusters := rfl
@[simp] theorem State.setCmd_units (s : State) (n : Nat) (x : Cmd) : (s.setCmd n x).units = s.units := rfl
@[simp] theorem State.setCmd_nrg (s : State) (n : Nat) (x : Cmd) : (s.setCmd n x).nrg = s.nrg := rfl
@[simp] theorem State.setCmd_mbx (s : State) (n : Nat) (x : Cmd) : (s.setCmd n x).mbx = s.mbx := rfl
@[simp] theorem State.setCmd_outcomes (s : State) (n : Nat) (x : Cmd) : (s.setCmd n x).outcomes = s.outcomes := rfl
@[simp] theorem State.setCmd_boot (s : State) (n : Nat) (x : Cmd) : (s.setCmd n x).boot = s.boot := rfl
@[simp] theorem State.setCmd_pwr (s : State) (n : Nat) (x : Cmd) : (s.setCmd n x).pwr = s.pwr := rfl
@[simp] theorem State.setCmd_tmp (s : State) (n : Nat) (x : Cmd) : (s.setCmd n x).tmp = s.tmp := rfl
@[simp] theorem State.setCmd_tmpTest (s : State) (n : Nat) (x : Cmd) : (s.setCmd n x).tmpTest = s.tmpTest := rfl
@[simp] theorem State.setCmd_tmpNext (s : State) (n : Nat) (x : Cmd) : (s.setCmd n x).tmpNext = s.tmpNext := rfl
@[simp] theorem State.setCmd_tmpSeries (s : State) (n : Nat) (x : Cmd) : (s.setCmd n x).tmpSeries = s.tmpSeries := rfl
@[simp] theorem State.setCmd_tlSeed (s : State) (n : Nat) (x : Cmd) : (s.setCmd n x).tlSeed = s.tlSeed := rfl
@[simp] theorem State.setCmd_peat (s : State) (n : Nat) (x : Cmd) : (s.setCmd n x).peat = s.peat := rfl
@[simp] theorem State.setCmd_lc (s : State) (n : Nat) (x : Cmd) : (s.setCmd n x).lc = s.lc := rfl
@[simp] theorem State.setCmd_flt (s : State) (n : Nat) (x : Cmd) : (s.setCmd n x).flt = s.flt := rfl
@[simp] theorem State.setCmd_cards (s : State) (n : Nat) (x : Cmd) : (s.setCmd n x).cards = s.cards := rfl
@[simp] theorem State.setCmd_fab (s : State) (n : Nat) (x : Cmd) : (s.setCmd n x).fab = s.fab := rfl
@[simp] theorem State.setCmd_test (s : State) (n : Nat) (x : Cmd) : (s.setCmd n x).test = s.test := rfl

/-! State.modCmd. -/

@[simp] theorem State.modCmd_pending (s : State) (n : Nat) (f : Cmd → Cmd) : (s.modCmd n f).pending = s.pending := rfl
@[simp] theorem State.modCmd_now (s : State) (n : Nat) (f : Cmd → Cmd) : (s.modCmd n f).now = s.now := rfl
@[simp] theorem State.modCmd_free (s : State) (n : Nat) (f : Cmd → Cmd) : (s.modCmd n f).free = s.free := rfl
@[simp] theorem State.modCmd_tx (s : State) (n : Nat) (f : Cmd → Cmd) : (s.modCmd n f).tx = s.tx := rfl
@[simp] theorem State.modCmd_regs (s : State) (n : Nat) (f : Cmd → Cmd) : (s.modCmd n f).regs = s.regs := rfl
@[simp] theorem State.modCmd_link (s : State) (n : Nat) (f : Cmd → Cmd) : (s.modCmd n f).link = s.link := rfl
@[simp] theorem State.modCmd_fns (s : State) (n : Nat) (f : Cmd → Cmd) : (s.modCmd n f).fns = s.fns := rfl
@[simp] theorem State.modCmd_qps (s : State) (n : Nat) (f : Cmd → Cmd) : (s.modCmd n f).qps = s.qps := rfl
@[simp] theorem State.modCmd_cmds (s : State) (n : Nat) (f : Cmd → Cmd) : (s.modCmd n f).cmds = mmod s.cmds n f := rfl
@[simp] theorem State.modCmd_nextCmd (s : State) (n : Nat) (f : Cmd → Cmd) : (s.modCmd n f).nextCmd = s.nextCmd := rfl
@[simp] theorem State.modCmd_nextRun (s : State) (n : Nat) (f : Cmd → Cmd) : (s.modCmd n f).nextRun = s.nextRun := rfl
@[simp] theorem State.modCmd_sched (s : State) (n : Nat) (f : Cmd → Cmd) : (s.modCmd n f).sched = s.sched := rfl
@[simp] theorem State.modCmd_turn (s : State) (n : Nat) (f : Cmd → Cmd) : (s.modCmd n f).turn = s.turn := rfl
@[simp] theorem State.modCmd_batches (s : State) (n : Nat) (f : Cmd → Cmd) : (s.modCmd n f).batches = s.batches := rfl
@[simp] theorem State.modCmd_ks (s : State) (n : Nat) (f : Cmd → Cmd) : (s.modCmd n f).ks = s.ks := rfl
@[simp] theorem State.modCmd_dg (s : State) (n : Nat) (f : Cmd → Cmd) : (s.modCmd n f).dg = s.dg := rfl
@[simp] theorem State.modCmd_opm (s : State) (n : Nat) (f : Cmd → Cmd) : (s.modCmd n f).opm = s.opm := rfl
@[simp] theorem State.modCmd_curves (s : State) (n : Nat) (f : Cmd → Cmd) : (s.modCmd n f).curves = s.curves := rfl
@[simp] theorem State.modCmd_kernels (s : State) (n : Nat) (f : Cmd → Cmd) : (s.modCmd n f).kernels = s.kernels := rfl
@[simp] theorem State.modCmd_signers (s : State) (n : Nat) (f : Cmd → Cmd) : (s.modCmd n f).signers = s.signers := rfl
@[simp] theorem State.modCmd_pvcs (s : State) (n : Nat) (f : Cmd → Cmd) : (s.modCmd n f).pvcs = s.pvcs := rfl
@[simp] theorem State.modCmd_clusters (s : State) (n : Nat) (f : Cmd → Cmd) : (s.modCmd n f).clusters = s.clusters := rfl
@[simp] theorem State.modCmd_units (s : State) (n : Nat) (f : Cmd → Cmd) : (s.modCmd n f).units = s.units := rfl
@[simp] theorem State.modCmd_nrg (s : State) (n : Nat) (f : Cmd → Cmd) : (s.modCmd n f).nrg = s.nrg := rfl
@[simp] theorem State.modCmd_mbx (s : State) (n : Nat) (f : Cmd → Cmd) : (s.modCmd n f).mbx = s.mbx := rfl
@[simp] theorem State.modCmd_outcomes (s : State) (n : Nat) (f : Cmd → Cmd) : (s.modCmd n f).outcomes = s.outcomes := rfl
@[simp] theorem State.modCmd_boot (s : State) (n : Nat) (f : Cmd → Cmd) : (s.modCmd n f).boot = s.boot := rfl
@[simp] theorem State.modCmd_pwr (s : State) (n : Nat) (f : Cmd → Cmd) : (s.modCmd n f).pwr = s.pwr := rfl
@[simp] theorem State.modCmd_tmp (s : State) (n : Nat) (f : Cmd → Cmd) : (s.modCmd n f).tmp = s.tmp := rfl
@[simp] theorem State.modCmd_tmpTest (s : State) (n : Nat) (f : Cmd → Cmd) : (s.modCmd n f).tmpTest = s.tmpTest := rfl
@[simp] theorem State.modCmd_tmpNext (s : State) (n : Nat) (f : Cmd → Cmd) : (s.modCmd n f).tmpNext = s.tmpNext := rfl
@[simp] theorem State.modCmd_tmpSeries (s : State) (n : Nat) (f : Cmd → Cmd) : (s.modCmd n f).tmpSeries = s.tmpSeries := rfl
@[simp] theorem State.modCmd_tlSeed (s : State) (n : Nat) (f : Cmd → Cmd) : (s.modCmd n f).tlSeed = s.tlSeed := rfl
@[simp] theorem State.modCmd_peat (s : State) (n : Nat) (f : Cmd → Cmd) : (s.modCmd n f).peat = s.peat := rfl
@[simp] theorem State.modCmd_lc (s : State) (n : Nat) (f : Cmd → Cmd) : (s.modCmd n f).lc = s.lc := rfl
@[simp] theorem State.modCmd_flt (s : State) (n : Nat) (f : Cmd → Cmd) : (s.modCmd n f).flt = s.flt := rfl
@[simp] theorem State.modCmd_cards (s : State) (n : Nat) (f : Cmd → Cmd) : (s.modCmd n f).cards = s.cards := rfl
@[simp] theorem State.modCmd_fab (s : State) (n : Nat) (f : Cmd → Cmd) : (s.modCmd n f).fab = s.fab := rfl
@[simp] theorem State.modCmd_test (s : State) (n : Nat) (f : Cmd → Cmd) : (s.modCmd n f).test = s.test := rfl

/-! State.charge. -/

@[simp] theorem State.charge_pending (s : State) (e : Eng) (a : List Nat) (b c d : Nat) : (s.charge e a b c d).pending = s.pending := rfl
@[simp] theorem State.charge_now (s : State) (e : Eng) (a : List Nat) (b c d : Nat) : (s.charge e a b c d).now = s.now := rfl
@[simp] theorem State.charge_free (s : State) (e : Eng) (a : List Nat) (b c d : Nat) : (s.charge e a b c d).free = s.free := rfl
@[simp] theorem State.charge_tx (s : State) (e : Eng) (a : List Nat) (b c d : Nat) : (s.charge e a b c d).tx = s.tx := rfl
@[simp] theorem State.charge_regs (s : State) (e : Eng) (a : List Nat) (b c d : Nat) : (s.charge e a b c d).regs = s.regs := rfl
@[simp] theorem State.charge_link (s : State) (e : Eng) (a : List Nat) (b c d : Nat) : (s.charge e a b c d).link = s.link := rfl
@[simp] theorem State.charge_fns (s : State) (e : Eng) (a : List Nat) (b c d : Nat) : (s.charge e a b c d).fns = s.fns := rfl
@[simp] theorem State.charge_qps (s : State) (e : Eng) (a : List Nat) (b c d : Nat) : (s.charge e a b c d).qps = s.qps := rfl
@[simp] theorem State.charge_cmds (s : State) (e : Eng) (a : List Nat) (b c d : Nat) : (s.charge e a b c d).cmds = s.cmds := rfl
@[simp] theorem State.charge_nextCmd (s : State) (e : Eng) (a : List Nat) (b c d : Nat) : (s.charge e a b c d).nextCmd = s.nextCmd := rfl
@[simp] theorem State.charge_nextRun (s : State) (e : Eng) (a : List Nat) (b c d : Nat) : (s.charge e a b c d).nextRun = s.nextRun := rfl
@[simp] theorem State.charge_turn (s : State) (e : Eng) (a : List Nat) (b c d : Nat) : (s.charge e a b c d).turn = mput s.turn e.num c := rfl
@[simp] theorem State.charge_batches (s : State) (e : Eng) (a : List Nat) (b c d : Nat) : (s.charge e a b c d).batches = s.batches := rfl
@[simp] theorem State.charge_ks (s : State) (e : Eng) (a : List Nat) (b c d : Nat) : (s.charge e a b c d).ks = s.ks := rfl
@[simp] theorem State.charge_dg (s : State) (e : Eng) (a : List Nat) (b c d : Nat) : (s.charge e a b c d).dg = s.dg := rfl
@[simp] theorem State.charge_opm (s : State) (e : Eng) (a : List Nat) (b c d : Nat) : (s.charge e a b c d).opm = s.opm := rfl
@[simp] theorem State.charge_curves (s : State) (e : Eng) (a : List Nat) (b c d : Nat) : (s.charge e a b c d).curves = s.curves := rfl
@[simp] theorem State.charge_kernels (s : State) (e : Eng) (a : List Nat) (b c d : Nat) : (s.charge e a b c d).kernels = s.kernels := rfl
@[simp] theorem State.charge_signers (s : State) (e : Eng) (a : List Nat) (b c d : Nat) : (s.charge e a b c d).signers = s.signers := rfl
@[simp] theorem State.charge_pvcs (s : State) (e : Eng) (a : List Nat) (b c d : Nat) : (s.charge e a b c d).pvcs = s.pvcs := rfl
@[simp] theorem State.charge_clusters (s : State) (e : Eng) (a : List Nat) (b c d : Nat) : (s.charge e a b c d).clusters = s.clusters := rfl
@[simp] theorem State.charge_units (s : State) (e : Eng) (a : List Nat) (b c d : Nat) : (s.charge e a b c d).units = s.units := rfl
@[simp] theorem State.charge_nrg (s : State) (e : Eng) (a : List Nat) (b c d : Nat) : (s.charge e a b c d).nrg = s.nrg := rfl
@[simp] theorem State.charge_mbx (s : State) (e : Eng) (a : List Nat) (b c d : Nat) : (s.charge e a b c d).mbx = s.mbx := rfl
@[simp] theorem State.charge_outcomes (s : State) (e : Eng) (a : List Nat) (b c d : Nat) : (s.charge e a b c d).outcomes = s.outcomes := rfl
@[simp] theorem State.charge_boot (s : State) (e : Eng) (a : List Nat) (b c d : Nat) : (s.charge e a b c d).boot = s.boot := rfl
@[simp] theorem State.charge_pwr (s : State) (e : Eng) (a : List Nat) (b c d : Nat) : (s.charge e a b c d).pwr = s.pwr := rfl
@[simp] theorem State.charge_tmp (s : State) (e : Eng) (a : List Nat) (b c d : Nat) : (s.charge e a b c d).tmp = s.tmp := rfl
@[simp] theorem State.charge_tmpTest (s : State) (e : Eng) (a : List Nat) (b c d : Nat) : (s.charge e a b c d).tmpTest = s.tmpTest := rfl
@[simp] theorem State.charge_tmpNext (s : State) (e : Eng) (a : List Nat) (b c d : Nat) : (s.charge e a b c d).tmpNext = s.tmpNext := rfl
@[simp] theorem State.charge_tmpSeries (s : State) (e : Eng) (a : List Nat) (b c d : Nat) : (s.charge e a b c d).tmpSeries = s.tmpSeries := rfl
@[simp] theorem State.charge_tlSeed (s : State) (e : Eng) (a : List Nat) (b c d : Nat) : (s.charge e a b c d).tlSeed = s.tlSeed := rfl
@[simp] theorem State.charge_peat (s : State) (e : Eng) (a : List Nat) (b c d : Nat) : (s.charge e a b c d).peat = s.peat := rfl
@[simp] theorem State.charge_lc (s : State) (e : Eng) (a : List Nat) (b c d : Nat) : (s.charge e a b c d).lc = s.lc := rfl
@[simp] theorem State.charge_flt (s : State) (e : Eng) (a : List Nat) (b c d : Nat) : (s.charge e a b c d).flt = s.flt := rfl
@[simp] theorem State.charge_cards (s : State) (e : Eng) (a : List Nat) (b c d : Nat) : (s.charge e a b c d).cards = s.cards := rfl
@[simp] theorem State.charge_fab (s : State) (e : Eng) (a : List Nat) (b c d : Nat) : (s.charge e a b c d).fab = s.fab := rfl
@[simp] theorem State.charge_test (s : State) (e : Eng) (a : List Nat) (b c d : Nat) : (s.charge e a b c d).test = s.test := rfl

/-! State.settle. -/

@[simp] theorem State.settle_pending (s : State) : s.settle.pending = s.pending := rfl
@[simp] theorem State.settle_now (s : State) : s.settle.now = s.now := rfl
@[simp] theorem State.settle_free (s : State) : s.settle.free = s.free := rfl
@[simp] theorem State.settle_tx (s : State) : s.settle.tx = s.tx := rfl
@[simp] theorem State.settle_regs (s : State) : s.settle.regs = s.regs := rfl
@[simp] theorem State.settle_link (s : State) : s.settle.link = s.link := rfl
@[simp] theorem State.settle_fns (s : State) : s.settle.fns = s.fns := rfl
@[simp] theorem State.settle_qps (s : State) : s.settle.qps = s.qps := rfl
@[simp] theorem State.settle_cmds (s : State) : s.settle.cmds = s.cmds := rfl
@[simp] theorem State.settle_nextCmd (s : State) : s.settle.nextCmd = s.nextCmd := rfl
@[simp] theorem State.settle_nextRun (s : State) : s.settle.nextRun = s.nextRun := rfl
@[simp] theorem State.settle_turn (s : State) : s.settle.turn = s.turn := rfl
@[simp] theorem State.settle_batches (s : State) : s.settle.batches = s.batches := rfl
@[simp] theorem State.settle_ks (s : State) : s.settle.ks = s.ks := rfl
@[simp] theorem State.settle_dg (s : State) : s.settle.dg = s.dg := rfl
@[simp] theorem State.settle_opm (s : State) : s.settle.opm = s.opm := rfl
@[simp] theorem State.settle_curves (s : State) : s.settle.curves = s.curves := rfl
@[simp] theorem State.settle_kernels (s : State) : s.settle.kernels = s.kernels := rfl
@[simp] theorem State.settle_signers (s : State) : s.settle.signers = s.signers := rfl
@[simp] theorem State.settle_pvcs (s : State) : s.settle.pvcs = s.pvcs := rfl
@[simp] theorem State.settle_clusters (s : State) : s.settle.clusters = s.clusters := rfl
@[simp] theorem State.settle_units (s : State) : s.settle.units = s.units := rfl
@[simp] theorem State.settle_nrg (s : State) : s.settle.nrg = s.nrg := rfl
@[simp] theorem State.settle_mbx (s : State) : s.settle.mbx = s.mbx := rfl
@[simp] theorem State.settle_outcomes (s : State) : s.settle.outcomes = s.outcomes := rfl
@[simp] theorem State.settle_boot (s : State) : s.settle.boot = s.boot := rfl
@[simp] theorem State.settle_pwr (s : State) : s.settle.pwr = s.pwr := rfl
@[simp] theorem State.settle_tmp (s : State) : s.settle.tmp = s.tmp := rfl
@[simp] theorem State.settle_tmpTest (s : State) : s.settle.tmpTest = s.tmpTest := rfl
@[simp] theorem State.settle_tmpNext (s : State) : s.settle.tmpNext = s.tmpNext := rfl
@[simp] theorem State.settle_tmpSeries (s : State) : s.settle.tmpSeries = s.tmpSeries := rfl
@[simp] theorem State.settle_tlSeed (s : State) : s.settle.tlSeed = s.tlSeed := rfl
@[simp] theorem State.settle_peat (s : State) : s.settle.peat = s.peat := rfl
@[simp] theorem State.settle_lc (s : State) : s.settle.lc = s.lc := rfl
@[simp] theorem State.settle_flt (s : State) : s.settle.flt = s.flt := rfl
@[simp] theorem State.settle_cards (s : State) : s.settle.cards = s.cards := rfl
@[simp] theorem State.settle_fab (s : State) : s.settle.fab = s.fab := rfl
@[simp] theorem State.settle_test (s : State) : s.settle.test = s.test := rfl

/-! State.setUnit. -/

@[simp] theorem State.setUnit_pending (s : State) (n : Nat) (x : EUnit) : (s.setUnit n x).pending = s.pending := rfl
@[simp] theorem State.setUnit_now (s : State) (n : Nat) (x : EUnit) : (s.setUnit n x).now = s.now := rfl
@[simp] theorem State.setUnit_free (s : State) (n : Nat) (x : EUnit) : (s.setUnit n x).free = s.free := rfl
@[simp] theorem State.setUnit_tx (s : State) (n : Nat) (x : EUnit) : (s.setUnit n x).tx = s.tx := rfl
@[simp] theorem State.setUnit_regs (s : State) (n : Nat) (x : EUnit) : (s.setUnit n x).regs = s.regs := rfl
@[simp] theorem State.setUnit_link (s : State) (n : Nat) (x : EUnit) : (s.setUnit n x).link = s.link := rfl
@[simp] theorem State.setUnit_fns (s : State) (n : Nat) (x : EUnit) : (s.setUnit n x).fns = s.fns := rfl
@[simp] theorem State.setUnit_qps (s : State) (n : Nat) (x : EUnit) : (s.setUnit n x).qps = s.qps := rfl
@[simp] theorem State.setUnit_cmds (s : State) (n : Nat) (x : EUnit) : (s.setUnit n x).cmds = s.cmds := rfl
@[simp] theorem State.setUnit_nextCmd (s : State) (n : Nat) (x : EUnit) : (s.setUnit n x).nextCmd = s.nextCmd := rfl
@[simp] theorem State.setUnit_nextRun (s : State) (n : Nat) (x : EUnit) : (s.setUnit n x).nextRun = s.nextRun := rfl
@[simp] theorem State.setUnit_sched (s : State) (n : Nat) (x : EUnit) : (s.setUnit n x).sched = s.sched := rfl
@[simp] theorem State.setUnit_turn (s : State) (n : Nat) (x : EUnit) : (s.setUnit n x).turn = s.turn := rfl
@[simp] theorem State.setUnit_batches (s : State) (n : Nat) (x : EUnit) : (s.setUnit n x).batches = s.batches := rfl
@[simp] theorem State.setUnit_ks (s : State) (n : Nat) (x : EUnit) : (s.setUnit n x).ks = s.ks := rfl
@[simp] theorem State.setUnit_dg (s : State) (n : Nat) (x : EUnit) : (s.setUnit n x).dg = s.dg := rfl
@[simp] theorem State.setUnit_opm (s : State) (n : Nat) (x : EUnit) : (s.setUnit n x).opm = s.opm := rfl
@[simp] theorem State.setUnit_curves (s : State) (n : Nat) (x : EUnit) : (s.setUnit n x).curves = s.curves := rfl
@[simp] theorem State.setUnit_kernels (s : State) (n : Nat) (x : EUnit) : (s.setUnit n x).kernels = s.kernels := rfl
@[simp] theorem State.setUnit_signers (s : State) (n : Nat) (x : EUnit) : (s.setUnit n x).signers = s.signers := rfl
@[simp] theorem State.setUnit_pvcs (s : State) (n : Nat) (x : EUnit) : (s.setUnit n x).pvcs = s.pvcs := rfl
@[simp] theorem State.setUnit_clusters (s : State) (n : Nat) (x : EUnit) : (s.setUnit n x).clusters = s.clusters := rfl
@[simp] theorem State.setUnit_units (s : State) (n : Nat) (x : EUnit) : (s.setUnit n x).units = mput s.units n x := rfl
@[simp] theorem State.setUnit_nrg (s : State) (n : Nat) (x : EUnit) : (s.setUnit n x).nrg = s.nrg := rfl
@[simp] theorem State.setUnit_mbx (s : State) (n : Nat) (x : EUnit) : (s.setUnit n x).mbx = s.mbx := rfl
@[simp] theorem State.setUnit_outcomes (s : State) (n : Nat) (x : EUnit) : (s.setUnit n x).outcomes = s.outcomes := rfl
@[simp] theorem State.setUnit_boot (s : State) (n : Nat) (x : EUnit) : (s.setUnit n x).boot = s.boot := rfl
@[simp] theorem State.setUnit_pwr (s : State) (n : Nat) (x : EUnit) : (s.setUnit n x).pwr = s.pwr := rfl
@[simp] theorem State.setUnit_tmp (s : State) (n : Nat) (x : EUnit) : (s.setUnit n x).tmp = s.tmp := rfl
@[simp] theorem State.setUnit_tmpTest (s : State) (n : Nat) (x : EUnit) : (s.setUnit n x).tmpTest = s.tmpTest := rfl
@[simp] theorem State.setUnit_tmpNext (s : State) (n : Nat) (x : EUnit) : (s.setUnit n x).tmpNext = s.tmpNext := rfl
@[simp] theorem State.setUnit_tmpSeries (s : State) (n : Nat) (x : EUnit) : (s.setUnit n x).tmpSeries = s.tmpSeries := rfl
@[simp] theorem State.setUnit_tlSeed (s : State) (n : Nat) (x : EUnit) : (s.setUnit n x).tlSeed = s.tlSeed := rfl
@[simp] theorem State.setUnit_peat (s : State) (n : Nat) (x : EUnit) : (s.setUnit n x).peat = s.peat := rfl
@[simp] theorem State.setUnit_lc (s : State) (n : Nat) (x : EUnit) : (s.setUnit n x).lc = s.lc := rfl
@[simp] theorem State.setUnit_flt (s : State) (n : Nat) (x : EUnit) : (s.setUnit n x).flt = s.flt := rfl
@[simp] theorem State.setUnit_cards (s : State) (n : Nat) (x : EUnit) : (s.setUnit n x).cards = s.cards := rfl
@[simp] theorem State.setUnit_fab (s : State) (n : Nat) (x : EUnit) : (s.setUnit n x).fab = s.fab := rfl
@[simp] theorem State.setUnit_test (s : State) (n : Nat) (x : EUnit) : (s.setUnit n x).test = s.test := rfl

/-! State.setCluster. -/

@[simp] theorem State.setCluster_pending (s : State) (n : Nat) (x : Cluster) : (s.setCluster n x).pending = s.pending := rfl
@[simp] theorem State.setCluster_now (s : State) (n : Nat) (x : Cluster) : (s.setCluster n x).now = s.now := rfl
@[simp] theorem State.setCluster_free (s : State) (n : Nat) (x : Cluster) : (s.setCluster n x).free = s.free := rfl
@[simp] theorem State.setCluster_tx (s : State) (n : Nat) (x : Cluster) : (s.setCluster n x).tx = s.tx := rfl
@[simp] theorem State.setCluster_regs (s : State) (n : Nat) (x : Cluster) : (s.setCluster n x).regs = s.regs := rfl
@[simp] theorem State.setCluster_link (s : State) (n : Nat) (x : Cluster) : (s.setCluster n x).link = s.link := rfl
@[simp] theorem State.setCluster_fns (s : State) (n : Nat) (x : Cluster) : (s.setCluster n x).fns = s.fns := rfl
@[simp] theorem State.setCluster_qps (s : State) (n : Nat) (x : Cluster) : (s.setCluster n x).qps = s.qps := rfl
@[simp] theorem State.setCluster_cmds (s : State) (n : Nat) (x : Cluster) : (s.setCluster n x).cmds = s.cmds := rfl
@[simp] theorem State.setCluster_nextCmd (s : State) (n : Nat) (x : Cluster) : (s.setCluster n x).nextCmd = s.nextCmd := rfl
@[simp] theorem State.setCluster_nextRun (s : State) (n : Nat) (x : Cluster) : (s.setCluster n x).nextRun = s.nextRun := rfl
@[simp] theorem State.setCluster_sched (s : State) (n : Nat) (x : Cluster) : (s.setCluster n x).sched = s.sched := rfl
@[simp] theorem State.setCluster_turn (s : State) (n : Nat) (x : Cluster) : (s.setCluster n x).turn = s.turn := rfl
@[simp] theorem State.setCluster_batches (s : State) (n : Nat) (x : Cluster) : (s.setCluster n x).batches = s.batches := rfl
@[simp] theorem State.setCluster_ks (s : State) (n : Nat) (x : Cluster) : (s.setCluster n x).ks = s.ks := rfl
@[simp] theorem State.setCluster_dg (s : State) (n : Nat) (x : Cluster) : (s.setCluster n x).dg = s.dg := rfl
@[simp] theorem State.setCluster_opm (s : State) (n : Nat) (x : Cluster) : (s.setCluster n x).opm = s.opm := rfl
@[simp] theorem State.setCluster_curves (s : State) (n : Nat) (x : Cluster) : (s.setCluster n x).curves = s.curves := rfl
@[simp] theorem State.setCluster_kernels (s : State) (n : Nat) (x : Cluster) : (s.setCluster n x).kernels = s.kernels := rfl
@[simp] theorem State.setCluster_signers (s : State) (n : Nat) (x : Cluster) : (s.setCluster n x).signers = s.signers := rfl
@[simp] theorem State.setCluster_pvcs (s : State) (n : Nat) (x : Cluster) : (s.setCluster n x).pvcs = s.pvcs := rfl
@[simp] theorem State.setCluster_clusters (s : State) (n : Nat) (x : Cluster) : (s.setCluster n x).clusters = mput s.clusters n x := rfl
@[simp] theorem State.setCluster_units (s : State) (n : Nat) (x : Cluster) : (s.setCluster n x).units = s.units := rfl
@[simp] theorem State.setCluster_nrg (s : State) (n : Nat) (x : Cluster) : (s.setCluster n x).nrg = s.nrg := rfl
@[simp] theorem State.setCluster_mbx (s : State) (n : Nat) (x : Cluster) : (s.setCluster n x).mbx = s.mbx := rfl
@[simp] theorem State.setCluster_outcomes (s : State) (n : Nat) (x : Cluster) : (s.setCluster n x).outcomes = s.outcomes := rfl
@[simp] theorem State.setCluster_boot (s : State) (n : Nat) (x : Cluster) : (s.setCluster n x).boot = s.boot := rfl
@[simp] theorem State.setCluster_pwr (s : State) (n : Nat) (x : Cluster) : (s.setCluster n x).pwr = s.pwr := rfl
@[simp] theorem State.setCluster_tmp (s : State) (n : Nat) (x : Cluster) : (s.setCluster n x).tmp = s.tmp := rfl
@[simp] theorem State.setCluster_tmpTest (s : State) (n : Nat) (x : Cluster) : (s.setCluster n x).tmpTest = s.tmpTest := rfl
@[simp] theorem State.setCluster_tmpNext (s : State) (n : Nat) (x : Cluster) : (s.setCluster n x).tmpNext = s.tmpNext := rfl
@[simp] theorem State.setCluster_tmpSeries (s : State) (n : Nat) (x : Cluster) : (s.setCluster n x).tmpSeries = s.tmpSeries := rfl
@[simp] theorem State.setCluster_tlSeed (s : State) (n : Nat) (x : Cluster) : (s.setCluster n x).tlSeed = s.tlSeed := rfl
@[simp] theorem State.setCluster_peat (s : State) (n : Nat) (x : Cluster) : (s.setCluster n x).peat = s.peat := rfl
@[simp] theorem State.setCluster_lc (s : State) (n : Nat) (x : Cluster) : (s.setCluster n x).lc = s.lc := rfl
@[simp] theorem State.setCluster_flt (s : State) (n : Nat) (x : Cluster) : (s.setCluster n x).flt = s.flt := rfl
@[simp] theorem State.setCluster_cards (s : State) (n : Nat) (x : Cluster) : (s.setCluster n x).cards = s.cards := rfl
@[simp] theorem State.setCluster_fab (s : State) (n : Nat) (x : Cluster) : (s.setCluster n x).fab = s.fab := rfl
@[simp] theorem State.setCluster_test (s : State) (n : Nat) (x : Cluster) : (s.setCluster n x).test = s.test := rfl

/-! State.setPvc. -/

@[simp] theorem State.setPvc_pending (s : State) (n : Nat) (x : Pvc) : (s.setPvc n x).pending = s.pending := rfl
@[simp] theorem State.setPvc_now (s : State) (n : Nat) (x : Pvc) : (s.setPvc n x).now = s.now := rfl
@[simp] theorem State.setPvc_free (s : State) (n : Nat) (x : Pvc) : (s.setPvc n x).free = s.free := rfl
@[simp] theorem State.setPvc_tx (s : State) (n : Nat) (x : Pvc) : (s.setPvc n x).tx = s.tx := rfl
@[simp] theorem State.setPvc_regs (s : State) (n : Nat) (x : Pvc) : (s.setPvc n x).regs = s.regs := rfl
@[simp] theorem State.setPvc_link (s : State) (n : Nat) (x : Pvc) : (s.setPvc n x).link = s.link := rfl
@[simp] theorem State.setPvc_fns (s : State) (n : Nat) (x : Pvc) : (s.setPvc n x).fns = s.fns := rfl
@[simp] theorem State.setPvc_qps (s : State) (n : Nat) (x : Pvc) : (s.setPvc n x).qps = s.qps := rfl
@[simp] theorem State.setPvc_cmds (s : State) (n : Nat) (x : Pvc) : (s.setPvc n x).cmds = s.cmds := rfl
@[simp] theorem State.setPvc_nextCmd (s : State) (n : Nat) (x : Pvc) : (s.setPvc n x).nextCmd = s.nextCmd := rfl
@[simp] theorem State.setPvc_nextRun (s : State) (n : Nat) (x : Pvc) : (s.setPvc n x).nextRun = s.nextRun := rfl
@[simp] theorem State.setPvc_sched (s : State) (n : Nat) (x : Pvc) : (s.setPvc n x).sched = s.sched := rfl
@[simp] theorem State.setPvc_turn (s : State) (n : Nat) (x : Pvc) : (s.setPvc n x).turn = s.turn := rfl
@[simp] theorem State.setPvc_batches (s : State) (n : Nat) (x : Pvc) : (s.setPvc n x).batches = s.batches := rfl
@[simp] theorem State.setPvc_ks (s : State) (n : Nat) (x : Pvc) : (s.setPvc n x).ks = s.ks := rfl
@[simp] theorem State.setPvc_dg (s : State) (n : Nat) (x : Pvc) : (s.setPvc n x).dg = s.dg := rfl
@[simp] theorem State.setPvc_opm (s : State) (n : Nat) (x : Pvc) : (s.setPvc n x).opm = s.opm := rfl
@[simp] theorem State.setPvc_curves (s : State) (n : Nat) (x : Pvc) : (s.setPvc n x).curves = s.curves := rfl
@[simp] theorem State.setPvc_kernels (s : State) (n : Nat) (x : Pvc) : (s.setPvc n x).kernels = s.kernels := rfl
@[simp] theorem State.setPvc_signers (s : State) (n : Nat) (x : Pvc) : (s.setPvc n x).signers = s.signers := rfl
@[simp] theorem State.setPvc_pvcs (s : State) (n : Nat) (x : Pvc) : (s.setPvc n x).pvcs = mput s.pvcs n x := rfl
@[simp] theorem State.setPvc_clusters (s : State) (n : Nat) (x : Pvc) : (s.setPvc n x).clusters = s.clusters := rfl
@[simp] theorem State.setPvc_units (s : State) (n : Nat) (x : Pvc) : (s.setPvc n x).units = s.units := rfl
@[simp] theorem State.setPvc_nrg (s : State) (n : Nat) (x : Pvc) : (s.setPvc n x).nrg = s.nrg := rfl
@[simp] theorem State.setPvc_mbx (s : State) (n : Nat) (x : Pvc) : (s.setPvc n x).mbx = s.mbx := rfl
@[simp] theorem State.setPvc_outcomes (s : State) (n : Nat) (x : Pvc) : (s.setPvc n x).outcomes = s.outcomes := rfl
@[simp] theorem State.setPvc_boot (s : State) (n : Nat) (x : Pvc) : (s.setPvc n x).boot = s.boot := rfl
@[simp] theorem State.setPvc_pwr (s : State) (n : Nat) (x : Pvc) : (s.setPvc n x).pwr = s.pwr := rfl
@[simp] theorem State.setPvc_tmp (s : State) (n : Nat) (x : Pvc) : (s.setPvc n x).tmp = s.tmp := rfl
@[simp] theorem State.setPvc_tmpTest (s : State) (n : Nat) (x : Pvc) : (s.setPvc n x).tmpTest = s.tmpTest := rfl
@[simp] theorem State.setPvc_tmpNext (s : State) (n : Nat) (x : Pvc) : (s.setPvc n x).tmpNext = s.tmpNext := rfl
@[simp] theorem State.setPvc_tmpSeries (s : State) (n : Nat) (x : Pvc) : (s.setPvc n x).tmpSeries = s.tmpSeries := rfl
@[simp] theorem State.setPvc_tlSeed (s : State) (n : Nat) (x : Pvc) : (s.setPvc n x).tlSeed = s.tlSeed := rfl
@[simp] theorem State.setPvc_peat (s : State) (n : Nat) (x : Pvc) : (s.setPvc n x).peat = s.peat := rfl
@[simp] theorem State.setPvc_lc (s : State) (n : Nat) (x : Pvc) : (s.setPvc n x).lc = s.lc := rfl
@[simp] theorem State.setPvc_flt (s : State) (n : Nat) (x : Pvc) : (s.setPvc n x).flt = s.flt := rfl
@[simp] theorem State.setPvc_cards (s : State) (n : Nat) (x : Pvc) : (s.setPvc n x).cards = s.cards := rfl
@[simp] theorem State.setPvc_fab (s : State) (n : Nat) (x : Pvc) : (s.setPvc n x).fab = s.fab := rfl
@[simp] theorem State.setPvc_test (s : State) (n : Nat) (x : Pvc) : (s.setPvc n x).test = s.test := rfl

/-! State.nrgAsk. -/

@[simp] theorem State.nrgAsk_pending (s : State) (a b : Nat) (w : NrgWho) (n : Nat) : (s.nrgAsk a b w n).pending = s.pending := rfl
@[simp] theorem State.nrgAsk_now (s : State) (a b : Nat) (w : NrgWho) (n : Nat) : (s.nrgAsk a b w n).now = s.now := rfl
@[simp] theorem State.nrgAsk_free (s : State) (a b : Nat) (w : NrgWho) (n : Nat) : (s.nrgAsk a b w n).free = s.free := rfl
@[simp] theorem State.nrgAsk_tx (s : State) (a b : Nat) (w : NrgWho) (n : Nat) : (s.nrgAsk a b w n).tx = s.tx := rfl
@[simp] theorem State.nrgAsk_regs (s : State) (a b : Nat) (w : NrgWho) (n : Nat) : (s.nrgAsk a b w n).regs = s.regs := rfl
@[simp] theorem State.nrgAsk_link (s : State) (a b : Nat) (w : NrgWho) (n : Nat) : (s.nrgAsk a b w n).link = s.link := rfl
@[simp] theorem State.nrgAsk_fns (s : State) (a b : Nat) (w : NrgWho) (n : Nat) : (s.nrgAsk a b w n).fns = s.fns := rfl
@[simp] theorem State.nrgAsk_qps (s : State) (a b : Nat) (w : NrgWho) (n : Nat) : (s.nrgAsk a b w n).qps = s.qps := rfl
@[simp] theorem State.nrgAsk_cmds (s : State) (a b : Nat) (w : NrgWho) (n : Nat) : (s.nrgAsk a b w n).cmds = s.cmds := rfl
@[simp] theorem State.nrgAsk_nextCmd (s : State) (a b : Nat) (w : NrgWho) (n : Nat) : (s.nrgAsk a b w n).nextCmd = s.nextCmd := rfl
@[simp] theorem State.nrgAsk_nextRun (s : State) (a b : Nat) (w : NrgWho) (n : Nat) : (s.nrgAsk a b w n).nextRun = s.nextRun := rfl
@[simp] theorem State.nrgAsk_sched (s : State) (a b : Nat) (w : NrgWho) (n : Nat) : (s.nrgAsk a b w n).sched = s.sched := rfl
@[simp] theorem State.nrgAsk_turn (s : State) (a b : Nat) (w : NrgWho) (n : Nat) : (s.nrgAsk a b w n).turn = s.turn := rfl
@[simp] theorem State.nrgAsk_batches (s : State) (a b : Nat) (w : NrgWho) (n : Nat) : (s.nrgAsk a b w n).batches = s.batches := rfl
@[simp] theorem State.nrgAsk_ks (s : State) (a b : Nat) (w : NrgWho) (n : Nat) : (s.nrgAsk a b w n).ks = s.ks := rfl
@[simp] theorem State.nrgAsk_dg (s : State) (a b : Nat) (w : NrgWho) (n : Nat) : (s.nrgAsk a b w n).dg = s.dg := rfl
@[simp] theorem State.nrgAsk_opm (s : State) (a b : Nat) (w : NrgWho) (n : Nat) : (s.nrgAsk a b w n).opm = s.opm := rfl
@[simp] theorem State.nrgAsk_curves (s : State) (a b : Nat) (w : NrgWho) (n : Nat) : (s.nrgAsk a b w n).curves = s.curves := rfl
@[simp] theorem State.nrgAsk_kernels (s : State) (a b : Nat) (w : NrgWho) (n : Nat) : (s.nrgAsk a b w n).kernels = s.kernels := rfl
@[simp] theorem State.nrgAsk_signers (s : State) (a b : Nat) (w : NrgWho) (n : Nat) : (s.nrgAsk a b w n).signers = s.signers := rfl
@[simp] theorem State.nrgAsk_pvcs (s : State) (a b : Nat) (w : NrgWho) (n : Nat) : (s.nrgAsk a b w n).pvcs = s.pvcs := rfl
@[simp] theorem State.nrgAsk_clusters (s : State) (a b : Nat) (w : NrgWho) (n : Nat) : (s.nrgAsk a b w n).clusters = s.clusters := rfl
@[simp] theorem State.nrgAsk_units (s : State) (a b : Nat) (w : NrgWho) (n : Nat) : (s.nrgAsk a b w n).units = s.units := rfl
@[simp] theorem State.nrgAsk_mbx (s : State) (a b : Nat) (w : NrgWho) (n : Nat) : (s.nrgAsk a b w n).mbx = s.mbx := rfl
@[simp] theorem State.nrgAsk_outcomes (s : State) (a b : Nat) (w : NrgWho) (n : Nat) : (s.nrgAsk a b w n).outcomes = s.outcomes := rfl
@[simp] theorem State.nrgAsk_boot (s : State) (a b : Nat) (w : NrgWho) (n : Nat) : (s.nrgAsk a b w n).boot = s.boot := rfl
@[simp] theorem State.nrgAsk_pwr (s : State) (a b : Nat) (w : NrgWho) (n : Nat) : (s.nrgAsk a b w n).pwr = s.pwr := rfl
@[simp] theorem State.nrgAsk_tmp (s : State) (a b : Nat) (w : NrgWho) (n : Nat) : (s.nrgAsk a b w n).tmp = s.tmp := rfl
@[simp] theorem State.nrgAsk_tmpTest (s : State) (a b : Nat) (w : NrgWho) (n : Nat) : (s.nrgAsk a b w n).tmpTest = s.tmpTest := rfl
@[simp] theorem State.nrgAsk_tmpNext (s : State) (a b : Nat) (w : NrgWho) (n : Nat) : (s.nrgAsk a b w n).tmpNext = s.tmpNext := rfl
@[simp] theorem State.nrgAsk_tmpSeries (s : State) (a b : Nat) (w : NrgWho) (n : Nat) : (s.nrgAsk a b w n).tmpSeries = s.tmpSeries := rfl
@[simp] theorem State.nrgAsk_tlSeed (s : State) (a b : Nat) (w : NrgWho) (n : Nat) : (s.nrgAsk a b w n).tlSeed = s.tlSeed := rfl
@[simp] theorem State.nrgAsk_peat (s : State) (a b : Nat) (w : NrgWho) (n : Nat) : (s.nrgAsk a b w n).peat = s.peat := rfl
@[simp] theorem State.nrgAsk_lc (s : State) (a b : Nat) (w : NrgWho) (n : Nat) : (s.nrgAsk a b w n).lc = s.lc := rfl
@[simp] theorem State.nrgAsk_flt (s : State) (a b : Nat) (w : NrgWho) (n : Nat) : (s.nrgAsk a b w n).flt = s.flt := rfl
@[simp] theorem State.nrgAsk_cards (s : State) (a b : Nat) (w : NrgWho) (n : Nat) : (s.nrgAsk a b w n).cards = s.cards := rfl
@[simp] theorem State.nrgAsk_fab (s : State) (a b : Nat) (w : NrgWho) (n : Nat) : (s.nrgAsk a b w n).fab = s.fab := rfl
@[simp] theorem State.nrgAsk_test (s : State) (a b : Nat) (w : NrgWho) (n : Nat) : (s.nrgAsk a b w n).test = s.test := rfl

/-! State.memWrite. -/

@[simp] theorem State.memWrite_pending (s : State) (a b : Nat) (d : List Byte) (r : Bool) : (s.memWrite a b d r).pending = s.pending := by
  unfold State.memWrite; split <;> rfl
@[simp] theorem State.memWrite_now (s : State) (a b : Nat) (d : List Byte) (r : Bool) : (s.memWrite a b d r).now = s.now := by
  unfold State.memWrite; split <;> rfl
@[simp] theorem State.memWrite_free (s : State) (a b : Nat) (d : List Byte) (r : Bool) : (s.memWrite a b d r).free = s.free := by
  unfold State.memWrite; split <;> rfl
@[simp] theorem State.memWrite_tx (s : State) (a b : Nat) (d : List Byte) (r : Bool) :
    (s.memWrite a b d r).tx = if d.isEmpty then s.tx else s.tx ++ [.mem a b d (r && s.link.relaxed.contains a)] := by
  unfold State.memWrite; split <;> rfl
@[simp] theorem State.memWrite_regs (s : State) (a b : Nat) (d : List Byte) (r : Bool) : (s.memWrite a b d r).regs = s.regs := by
  unfold State.memWrite; split <;> rfl
@[simp] theorem State.memWrite_link (s : State) (a b : Nat) (d : List Byte) (r : Bool) : (s.memWrite a b d r).link = s.link := by
  unfold State.memWrite; split <;> rfl
@[simp] theorem State.memWrite_fns (s : State) (a b : Nat) (d : List Byte) (r : Bool) : (s.memWrite a b d r).fns = s.fns := by
  unfold State.memWrite; split <;> rfl
@[simp] theorem State.memWrite_qps (s : State) (a b : Nat) (d : List Byte) (r : Bool) : (s.memWrite a b d r).qps = s.qps := by
  unfold State.memWrite; split <;> rfl
@[simp] theorem State.memWrite_cmds (s : State) (a b : Nat) (d : List Byte) (r : Bool) : (s.memWrite a b d r).cmds = s.cmds := by
  unfold State.memWrite; split <;> rfl
@[simp] theorem State.memWrite_nextCmd (s : State) (a b : Nat) (d : List Byte) (r : Bool) : (s.memWrite a b d r).nextCmd = s.nextCmd := by
  unfold State.memWrite; split <;> rfl
@[simp] theorem State.memWrite_nextRun (s : State) (a b : Nat) (d : List Byte) (r : Bool) : (s.memWrite a b d r).nextRun = s.nextRun := by
  unfold State.memWrite; split <;> rfl
@[simp] theorem State.memWrite_sched (s : State) (a b : Nat) (d : List Byte) (r : Bool) : (s.memWrite a b d r).sched = s.sched := by
  unfold State.memWrite; split <;> rfl
@[simp] theorem State.memWrite_turn (s : State) (a b : Nat) (d : List Byte) (r : Bool) : (s.memWrite a b d r).turn = s.turn := by
  unfold State.memWrite; split <;> rfl
@[simp] theorem State.memWrite_batches (s : State) (a b : Nat) (d : List Byte) (r : Bool) : (s.memWrite a b d r).batches = s.batches := by
  unfold State.memWrite; split <;> rfl
@[simp] theorem State.memWrite_ks (s : State) (a b : Nat) (d : List Byte) (r : Bool) : (s.memWrite a b d r).ks = s.ks := by
  unfold State.memWrite; split <;> rfl
@[simp] theorem State.memWrite_dg (s : State) (a b : Nat) (d : List Byte) (r : Bool) : (s.memWrite a b d r).dg = s.dg := by
  unfold State.memWrite; split <;> rfl
@[simp] theorem State.memWrite_opm (s : State) (a b : Nat) (d : List Byte) (r : Bool) : (s.memWrite a b d r).opm = s.opm := by
  unfold State.memWrite; split <;> rfl
@[simp] theorem State.memWrite_curves (s : State) (a b : Nat) (d : List Byte) (r : Bool) : (s.memWrite a b d r).curves = s.curves := by
  unfold State.memWrite; split <;> rfl
@[simp] theorem State.memWrite_kernels (s : State) (a b : Nat) (d : List Byte) (r : Bool) : (s.memWrite a b d r).kernels = s.kernels := by
  unfold State.memWrite; split <;> rfl
@[simp] theorem State.memWrite_signers (s : State) (a b : Nat) (d : List Byte) (r : Bool) : (s.memWrite a b d r).signers = s.signers := by
  unfold State.memWrite; split <;> rfl
@[simp] theorem State.memWrite_pvcs (s : State) (a b : Nat) (d : List Byte) (r : Bool) : (s.memWrite a b d r).pvcs = s.pvcs := by
  unfold State.memWrite; split <;> rfl
@[simp] theorem State.memWrite_clusters (s : State) (a b : Nat) (d : List Byte) (r : Bool) : (s.memWrite a b d r).clusters = s.clusters := by
  unfold State.memWrite; split <;> rfl
@[simp] theorem State.memWrite_units (s : State) (a b : Nat) (d : List Byte) (r : Bool) : (s.memWrite a b d r).units = s.units := by
  unfold State.memWrite; split <;> rfl
@[simp] theorem State.memWrite_nrg (s : State) (a b : Nat) (d : List Byte) (r : Bool) : (s.memWrite a b d r).nrg = s.nrg := by
  unfold State.memWrite; split <;> rfl
@[simp] theorem State.memWrite_mbx (s : State) (a b : Nat) (d : List Byte) (r : Bool) : (s.memWrite a b d r).mbx = s.mbx := by
  unfold State.memWrite; split <;> rfl
@[simp] theorem State.memWrite_outcomes (s : State) (a b : Nat) (d : List Byte) (r : Bool) : (s.memWrite a b d r).outcomes = s.outcomes := by
  unfold State.memWrite; split <;> rfl
@[simp] theorem State.memWrite_boot (s : State) (a b : Nat) (d : List Byte) (r : Bool) : (s.memWrite a b d r).boot = s.boot := by
  unfold State.memWrite; split <;> rfl
@[simp] theorem State.memWrite_pwr (s : State) (a b : Nat) (d : List Byte) (r : Bool) : (s.memWrite a b d r).pwr = s.pwr := by
  unfold State.memWrite; split <;> rfl
@[simp] theorem State.memWrite_tmp (s : State) (a b : Nat) (d : List Byte) (r : Bool) : (s.memWrite a b d r).tmp = s.tmp := by
  unfold State.memWrite; split <;> rfl
@[simp] theorem State.memWrite_tmpTest (s : State) (a b : Nat) (d : List Byte) (r : Bool) : (s.memWrite a b d r).tmpTest = s.tmpTest := by
  unfold State.memWrite; split <;> rfl
@[simp] theorem State.memWrite_tmpNext (s : State) (a b : Nat) (d : List Byte) (r : Bool) : (s.memWrite a b d r).tmpNext = s.tmpNext := by
  unfold State.memWrite; split <;> rfl
@[simp] theorem State.memWrite_tmpSeries (s : State) (a b : Nat) (d : List Byte) (r : Bool) : (s.memWrite a b d r).tmpSeries = s.tmpSeries := by
  unfold State.memWrite; split <;> rfl
@[simp] theorem State.memWrite_tlSeed (s : State) (a b : Nat) (d : List Byte) (r : Bool) : (s.memWrite a b d r).tlSeed = s.tlSeed := by
  unfold State.memWrite; split <;> rfl
@[simp] theorem State.memWrite_peat (s : State) (a b : Nat) (d : List Byte) (r : Bool) : (s.memWrite a b d r).peat = s.peat := by
  unfold State.memWrite; split <;> rfl
@[simp] theorem State.memWrite_lc (s : State) (a b : Nat) (d : List Byte) (r : Bool) : (s.memWrite a b d r).lc = s.lc := by
  unfold State.memWrite; split <;> rfl
@[simp] theorem State.memWrite_flt (s : State) (a b : Nat) (d : List Byte) (r : Bool) : (s.memWrite a b d r).flt = s.flt := by
  unfold State.memWrite; split <;> rfl
@[simp] theorem State.memWrite_cards (s : State) (a b : Nat) (d : List Byte) (r : Bool) : (s.memWrite a b d r).cards = s.cards := by
  unfold State.memWrite; split <;> rfl
@[simp] theorem State.memWrite_fab (s : State) (a b : Nat) (d : List Byte) (r : Bool) : (s.memWrite a b d r).fab = s.fab := by
  unfold State.memWrite; split <;> rfl
@[simp] theorem State.memWrite_test (s : State) (a b : Nat) (d : List Byte) (r : Bool) : (s.memWrite a b d r).test = s.test := by
  unfold State.memWrite; split <;> rfl

end Sys2Proof.Machine
end

