-- ==== Sys2Proof/WellFormed.lean ====
section
/-!
DEFINITION. Which commands are well formed: their operands name things that the device has. exec answers for the others too: what they
name does not exist, and nothing happens (log entry 2).
-/
namespace Sys2Proof
open Sys2Proof.Machine

/-! The numbers that the spec gives the device's parts. -/

/-- A vector core (spec file 06). -/
def coreOk (c : Nat) : Bool := decide (c < 96)
/-- A cluster of vector cores. -/
def clusterOk (c : Nat) : Bool := decide (c < 12)
/-- PF0 or one of 2,047 VFs (R55). -/
def fnOk (fn : Nat) : Bool := decide (fn < 2048)
/-- A mailbox channel: four of PF0, one of a VF (R113). -/
def chOk (fn ch : Nat) : Bool := decide (ch < if fn = 0 then 4 else 1)
/-- A queue pair: 16 of PF0, 8 of a VF (R63). -/
def qpOk (fn qp : Nat) : Bool := decide (qp < if fn = 0 then 16 else 8)
/-- A number of VFs. -/
def vfsOk (n : Nat) : Bool := decide (n ≤ 2047)
/-- A Hearth core (R126). -/
def hearthOk (c : Nat) : Bool := decide (c < 8)
/-- A loaded-curve index (R258). -/
def curveOk (i : Nat) : Bool := decide (i < 16)
/-- A tamper source number (R328). -/
def tamperOk (i : Nat) : Bool := decide (i < 64)
/-- Channels A and B of a tamper source (R329). -/
def channelsOk (c : Nat) : Bool := decide (c < 4)
/-- A fault source (R361). -/
def faultOk (i : Nat) : Bool := decide (i < 315)
/-- Class C, D or F. -/
def classOk (c : Nat) : Bool := decide (c < 3)
/-- A flue region (R364). -/
def regionOk (r : Nat) : Bool := decide (r < 24)
/-- A unit by its fault source, or a conditioner lane (R361). -/
def unitOk (u : Nat) : Bool := decide (u < 230) || u == 247
/-- A noise group (R267). -/
def groupOk (g : Nat) : Bool := decide (g < 16)

/-- A cell of the noise random generator, by group × 32 + cell (R267). -/
def cellOk (x : Nat) : Bool := decide (x < 512)

/-- The samples of a cell in one window: 1,024 of them (R269). -/
def windowOk (o : Nat × List Byte) : Bool := cellOk o.1 && o.2.length == 128

/-- A continuous health test (R272). -/
def testOk (t : Nat) : Bool := decide (1 ≤ t ∧ t ≤ 4)
/-- A mask-stream expander (R277). -/
def expanderOk (e : Nat) : Bool := decide (e < 21)
/-- A switched domain (R281). -/
def domainOk (d : Nat) : Bool := decide (d < 165)
/-- A BAR. -/
def barOk (b : Nat) : Bool := decide (b < 6)
/-- Byte enables (R13). -/
def enablesOk (b : Nat) : Bool := decide (b < 16)
/-- The purpose of a challenge (R355). -/
def purposeOk (p : Nat) : Bool := decide (p < 2)
/-- An SMBus (R326). -/
def busOk (b : Nat) : Bool := decide (b < 2)
/-- A Wolum port (R398). -/
def portOk (k : Nat) : Bool := decide (k < 16)
/-- A smart-card port (R373), or MC0 with number 2. -/
def cardPortOk (p : Nat) : Bool := decide (p < 3)

/-- The command is well formed. -/
def Instr.wf : Instr → Bool
  | .nop c _ _ _ => coreOk c
  | .add c _ _ _ => coreOk c
  | .sub c _ _ _ => coreOk c
  | .and c _ _ _ => coreOk c
  | .or c _ _ _ => coreOk c
  | .xor c _ _ _ => coreOk c
  | .sll c _ _ _ => coreOk c
  | .srl c _ _ _ => coreOk c
  | .sra c _ _ _ => coreOk c
  | .slt c _ _ _ => coreOk c
  | .sltu c _ _ _ => coreOk c
  | .mul c _ _ _ => coreOk c
  | .mulh c _ _ _ => coreOk c
  | .mulhu c _ _ _ => coreOk c
  | .min c _ _ _ => coreOk c
  | .max c _ _ _ => coreOk c
  | .minu c _ _ _ => coreOk c
  | .maxu c _ _ _ => coreOk c
  | .slli c _ _ _ => coreOk c
  | .srli c _ _ _ => coreOk c
  | .srai c _ _ _ => coreOk c
  | .jr c _ _ _ => coreOk c
  | .addm c _ _ _ _ _ => coreOk c
  | .subm c _ _ _ _ _ => coreOk c
  | .mulm c _ _ _ _ _ => coreOk c
  | .mulb c _ _ _ _ _ => coreOk c
  | .redb c _ _ _ _ _ => coreOk c
  | .addi c _ _ _ => coreOk c
  | .andi c _ _ _ => coreOk c
  | .ori c _ _ _ => coreOk c
  | .xori c _ _ _ => coreOk c
  | .lui c _ _ _ => coreOk c
  | .slti c _ _ _ => coreOk c
  | .lw c _ _ _ => coreOk c
  | .lh c _ _ _ => coreOk c
  | .lhu c _ _ _ => coreOk c
  | .lbu c _ _ _ => coreOk c
  | .sw c _ _ _ => coreOk c
  | .sh c _ _ _ => coreOk c
  | .sb c _ _ _ => coreOk c
  | .beq c _ _ _ => coreOk c
  | .bne c _ _ _ => coreOk c
  | .blt c _ _ _ => coreOk c
  | .bge c _ _ _ => coreOk c
  | .bltu c _ _ _ => coreOk c
  | .bgeu c _ _ _ => coreOk c
  | .j c _ => coreOk c
  | .jal c _ => coreOk c
  | .fld c _ _ _ => coreOk c
  | .fst c _ _ _ => coreOk c
  | .fadd c _ _ _ => coreOk c
  | .fsub c _ _ _ => coreOk c
  | .fmul c _ _ _ => coreOk c
  | .fdiv c _ _ _ => coreOk c
  | .fsqrt c _ _ _ => coreOk c
  | .fmadd c _ _ _ => coreOk c
  | .fneg c _ _ _ => coreOk c
  | .fabs c _ _ _ => coreOk c
  | .frint c _ _ _ => coreOk c
  | .ffloor c _ _ _ => coreOk c
  | .fcvtFS c _ _ _ => coreOk c
  | .fcvtSF c _ _ _ => coreOk c
  | .flt c _ _ _ => coreOk c
  | .feq c _ _ _ => coreOk c
  | .fmvSLo c _ _ _ => coreOk c
  | .fmvSHi c _ _ _ => coreOk c
  | .fmvF c _ _ _ => coreOk c
  | .exit c _ _ _ => coreOk c
  | .eret c _ _ _ => coreOk c
  | .valend c _ _ _ => coreOk c
  | .setlenH c _ _ _ => coreOk c
  | .setlenW c _ _ _ => coreOk c
  | .mfc c _ _ _ => coreOk c
  | .mtc c _ _ _ => coreOk c
  | .slide c _ _ _ => coreOk c
  | .kldP1 c _ _ _ => coreOk c
  | .kldU1 c _ _ _ => coreOk c
  | .kldP2 c _ _ _ => coreOk c
  | .kldU2 c _ _ _ => coreOk c
  | .kldC c _ _ _ => coreOk c
  | .ent c _ _ _ => coreOk c
  | .dclW c _ _ _ => coreOk c
  | .dclM c _ _ _ => coreOk c
  | .ctxst c _ _ _ => coreOk c
  | .vadd c _ _ _ _ _ _ => coreOk c
  | .vsub c _ _ _ _ _ _ => coreOk c
  | .vsadd c _ _ _ _ _ _ => coreOk c
  | .vssub c _ _ _ _ _ _ => coreOk c
  | .vsaddu c _ _ _ _ _ _ => coreOk c
  | .vssubu c _ _ _ _ _ _ => coreOk c
  | .vmul c _ _ _ _ _ _ => coreOk c
  | .vmulh c _ _ _ _ _ _ => coreOk c
  | .vmulhu c _ _ _ _ _ _ => coreOk c
  | .vmulhr c _ _ _ _ _ _ => coreOk c
  | .vqdmulhr c _ _ _ _ _ _ => coreOk c
  | .vand c _ _ _ _ _ _ => coreOk c
  | .vor c _ _ _ _ _ _ => coreOk c
  | .vxor c _ _ _ _ _ _ => coreOk c
  | .vandn c _ _ _ _ _ _ => coreOk c
  | .vshl c _ _ _ _ _ _ => coreOk c
  | .vshr c _ _ _ _ _ _ => coreOk c
  | .vsra c _ _ _ _ _ _ => coreOk c
  | .vshrr c _ _ _ _ _ _ => coreOk c
  | .vshrru c _ _ _ _ _ _ => coreOk c
  | .vmin c _ _ _ _ _ _ => coreOk c
  | .vmax c _ _ _ _ _ _ => coreOk c
  | .vminu c _ _ _ _ _ _ => coreOk c
  | .vmaxu c _ _ _ _ _ _ => coreOk c
  | .vsel c _ _ _ _ _ _ => coreOk c
  | .vmov c _ _ _ _ _ _ => coreOk c
  | .vsplat c _ _ _ _ _ _ => coreOk c
  | .vext c _ _ _ _ _ _ => coreOk c
  | .vins c _ _ _ _ _ _ => coreOk c
  | .vclmul c _ _ _ _ _ _ => coreOk c
  | .vgfmul c _ _ _ _ _ _ => coreOk c
  | .va2b c _ _ _ _ _ _ => coreOk c
  | .vb2a c _ _ _ _ _ _ => coreOk c
  | .vb2aq c _ _ _ _ _ _ _ => coreOk c
  | .vaddi c _ _ _ _ _ _ => coreOk c
  | .vshli c _ _ _ _ _ _ => coreOk c
  | .vshri c _ _ _ _ _ _ => coreOk c
  | .vsrai c _ _ _ _ _ _ => coreOk c
  | .vshrri c _ _ _ _ _ _ => coreOk c
  | .vshrrui c _ _ _ _ _ _ => coreOk c
  | .vsplati c _ _ _ _ _ _ => coreOk c
  | .vandi c _ _ _ _ _ _ => coreOk c
  | .vcmpEq c _ _ _ _ _ _ => coreOk c
  | .vcmpNe c _ _ _ _ _ _ => coreOk c
  | .vcmpLt c _ _ _ _ _ _ => coreOk c
  | .vcmpGe c _ _ _ _ _ _ => coreOk c
  | .vcmpLtu c _ _ _ _ _ _ => coreOk c
  | .vcmpGeu c _ _ _ _ _ _ => coreOk c
  | .vaddm c _ _ _ _ _ _ _ => coreOk c
  | .vsubm c _ _ _ _ _ _ _ => coreOk c
  | .vnegm c _ _ _ _ _ _ _ => coreOk c
  | .vmulm c _ _ _ _ _ _ _ => coreOk c
  | .vmulb c _ _ _ _ _ _ _ => coreOk c
  | .vredb c _ _ _ _ _ _ _ => coreOk c
  | .vredm c _ _ _ _ _ _ _ => coreOk c
  | .vreds c _ _ _ _ _ _ _ => coreOk c
  | .vcent c _ _ _ _ _ _ _ => coreOk c
  | .bfct c _ _ _ _ _ _ _ => coreOk c
  | .bfgs c _ _ _ _ _ _ _ => coreOk c
  | .vcompr c _ _ _ _ _ _ _ => coreOk c
  | .vdecompr c _ _ _ _ _ _ _ => coreOk c
  | .vpack c _ _ _ _ _ _ => coreOk c
  | .vunpack c _ _ _ _ _ _ => coreOk c
  | .pand c _ _ _ _ _ _ => coreOk c
  | .por c _ _ _ _ _ _ => coreOk c
  | .pxor c _ _ _ _ _ _ => coreOk c
  | .pandn c _ _ _ _ _ _ => coreOk c
  | .plen c _ _ _ _ _ _ => coreOk c
  | .pcnt c _ _ _ _ _ _ => coreOk c
  | .vld c _ _ _ _ _ _ => coreOk c
  | .vst c _ _ _ _ _ _ => coreOk c
  | .vldb c _ _ _ _ _ _ => coreOk c
  | .vstb c _ _ _ _ _ _ => coreOk c
  | .vgath c _ _ _ _ _ _ => coreOk c
  | .vscat c _ _ _ _ _ _ => coreOk c
  | .sclaim c _ _ _ _ _ _ => coreOk c
  | .sclaim2 c _ _ _ _ _ _ => coreOk c
  | .sabs c _ _ _ _ _ _ => coreOk c
  | .sabsb c _ _ _ _ _ _ => coreOk c
  | .sfin c _ _ _ _ _ _ => coreOk c
  | .ssqz c _ _ _ _ _ _ => coreOk c
  | .srel c _ _ _ _ _ _ => coreOk c
  | .vrej c _ _ _ _ _ _ _ _ _ _ => coreOk c
  | .sqTailDoorbell fn qp _ => fnOk fn && qpOk fn qp
  | .cqHeadDoorbell fn qp _ => fnOk fn && qpOk fn qp
  | .qpCreate fn qp _ => fnOk fn && qpOk fn qp
  | .qpDelete fn qp _ => fnOk fn && qpOk fn qp
  | .qpDeleteDone fn qp => fnOk fn && qpOk fn qp
  | .descriptorFetch fn qp _ => fnOk fn && qpOk fn qp
  | .fenceStart _ => true
  | .chainSuccessorStart _ => true
  | .runPlace _ _ _ => true
  | .runFinish _ _ unit _ => unitOk unit
  | .pendingCompletionWrite fn qp => fnOk fn && qpOk fn qp
  | .coalTimeout fn qp => fnOk fn && qpOk fn qp
  | .linkReadFail _ => true
  | .linkWriteFail _ => true
  | .linkDown => true
  | .hotReset => true
  | .pcieRemoteLoopback _ => true
  | .encaps _ _ => true
  | .encapsCtx _ _ => true
  | .decaps _ _ => true
  | .decapsCtx _ _ => true
  | .sign _ _ => true
  | .signDet _ _ => true
  | .signPh _ _ => true
  | .signMu _ _ => true
  | .signDetPh _ _ => true
  | .verify _ _ => true
  | .verifyPh _ _ => true
  | .verifyMu _ _ => true
  | .agree _ _ => true
  | .agreeCtx _ _ => true
  | .encryptOaep _ _ => true
  | .decryptOaep _ _ => true
  | .signPkcs1 _ _ => true
  | .signPss _ _ => true
  | .verifyPkcs1 _ _ => true
  | .verifyPss _ _ => true
  | .testVariant _ _ => true
  | .journalWriteDone _ _ => true
  | .generate _ _ => true
  | .generateBlob _ _ => true
  | .import _ _ => true
  | .derive _ _ => true
  | .wrap _ _ => true
  | .unwrap _ _ => true
  | .stageGenerate _ _ => true
  | .stageUnwrap _ _ => true
  | .stageVerify _ _ => true
  | .commit _ _ => true
  | .discard _ _ => true
  | .destroy _ _ => true
  | .retiringDrainEnd _ _ => true
  | .blobEpoch _ _ => true
  | .ctxClear _ _ => true
  | .publicExport _ _ => true
  | .attributes _ _ => true
  | .blobTable _ _ => true
  | .opmFormat _ _ => true
  | .opmRun _ _ => true
  | .unsealDone => true
  | .codeKeyPortion _ _ => true
  | .codeKeyEntryFreed => true
  | .hteRebuildDone _ => true
  | .digest _ _ => true
  | .mac _ _ => true
  | .macVerify _ _ => true
  | .init _ _ => true
  | .update _ _ => true
  | .final _ _ => true
  | .finalVerify _ _ => true
  | .save _ _ => true
  | .restore _ _ => true
  | .release _ _ => true
  | .epochAdvance _ _ => true
  | .dgeTurnEnd _ _ => true
  | .dgeSlotWaitEnd _ => true
  | .spillWriteFail => true
  | .check _ _ => true
  | .checkVerify _ _ => true
  | .chkCfgWrite _ _ => true
  | .random _ _ => true
  | .randomCtx _ _ => true
  | .rawCapture _ _ _ fails fb => fails.all (fun f => testOk f.2.1 && decide (f.2.2 < 32)) && fb.all (fun x => decide (x.1 < 32 ∧ x.2 < 64))
  | .batch _ _ => true
  | .campaign _ _ => true
  | .abortBatch _ _ => true
  | .batchMemberDispatch _ _ => true
  | .kernelCommand _ _ => true
  | .validationPhaseTimeout c => coreOk c
  | .kernelWatchdog c => coreOk c
  | .spongeClaimGrant cl => clusterOk cl
  | .sramAllotGrant cl => clusterOk cl
  | .maskStreamResume c => coreOk c
  | .entChunkArrival _ => true
  | .slideRefillDone c _ => coreOk c
  | .kldDelivered c => coreOk c
  | .pvcScrubDone c => coreOk c
  | .dedicationDrainTimeout => true
  | .applyClustersDone => true
  | .vfmSel _ => true
  | .applyAllot _ => true
  | .applyCtx _ => true
  | .applyInflight _ => true
  | .applyKey _ => true
  | .applyClusters _ => true
  | .applyOpm _ => true
  | .applySpill _ => true
  | .quiesceStart _ => true
  | .quiesceRelease _ => true
  | .quiesceDone fn => fnOk fn
  | .flr fn => fnOk fn
  | .flrDone fn => fnOk fn
  | .readDrainTimeout fn => fnOk fn
  | .pf0Flr => true
  | .vfEnableClear => true
  | .vfEnableSet => true
  | .numvfsWrite n => vfsOk n
  | .mbxGo fn ch => fnOk fn && chOk fn ch
  | .mbxCancel fn ch => fnOk fn && chOk fn ch
  | .mbxAck fn ch => fnOk fn && chOk fn ch
  | .devInfo fn ch => fnOk fn && chOk fn ch
  | .configRead fn ch => fnOk fn && chOk fn ch
  | .configPush fn ch _ => fnOk fn && chOk fn ch
  | .curveRecordChecked i => curveOk i
  | .curveSwitch i => curveOk i
  | .outcomeQuery fn ch => fnOk fn && chOk fn ch
  | .resQuery fn ch => fnOk fn && chOk fn ch
  | .fnQuiesce fn ch => fnOk fn && chOk fn ch
  | .keyList fn ch => fnOk fn && chOk fn ch
  | .keyDestroyFn fn ch => fnOk fn && chOk fn ch
  | .setPolicy fn ch => fnOk fn && chOk fn ch
  | .setLeafBlock fn ch => fnOk fn && chOk fn ch
  | .ackLost fn ch => fnOk fn && chOk fn ch
  | .ckArea fn ch => fnOk fn && chOk fn ch
  | .kernelLoad fn ch _ => fnOk fn && chOk fn ch
  | .kernelUnload fn ch => fnOk fn && chOk fn ch
  | .kernelUnloadDone _ => true
  | .grant fn ch => fnOk fn && chOk fn ch
  | .revoke fn ch => fnOk fn && chOk fn ch
  | .signerSet fn ch _ => fnOk fn && chOk fn ch
  | .signerClear fn ch => fnOk fn && chOk fn ch
  | .kernelList fn ch => fnOk fn && chOk fn ch
  | .attest fn ch _ => fnOk fn && chOk fn ch
  | .sillageRead fn ch => fnOk fn && chOk fn ch
  | .certRead fn ch => fnOk fn && chOk fn ch
  | .lcTransition fn ch _ => fnOk fn && chOk fn ch
  | .debugChallenge fn ch => fnOk fn && chOk fn ch
  | .debugResponse fn ch _ => fnOk fn && chOk fn ch
  | .lcsDbgEnd _ => true
  | .debugSessionExpiry => true
  | .nonceExpiry purpose => purposeOk purpose
  | .tmpConfig fn ch _ => fnOk fn && chOk fn ch
  | .tmpLock fn ch => fnOk fn && chOk fn ch
  | .peatLogRead fn ch => fnOk fn && chOk fn ch
  | .spillFn fn ch => fnOk fn && chOk fn ch
  | .rekey fn ch => fnOk fn && chOk fn ch
  | .rejoin fn ch => fnOk fn && chOk fn ch
  | .create fn ch _ => fnOk fn && chOk fn ch
  | .join fn ch _ => fnOk fn && chOk fn ch
  | .addKey fn ch => fnOk fn && chOk fn ch
  | .leave fn ch => fnOk fn && chOk fn ch
  | .status fn ch => fnOk fn && chOk fn ch
  | .fabRestore fn ch => fnOk fn && chOk fn ch
  | .quorumOpen fn ch _ => fnOk fn && chOk fn ch
  | .quorumClose fn ch => fnOk fn && chOk fn ch
  | .quorumWaitTimeout => true
  | .quorumLifetimeExpiry => true
  | .escrowWrite fn ch _ => fnOk fn && chOk fn ch
  | .escrowRestore fn ch => fnOk fn && chOk fn ch
  | .fwStage fn ch _ => fnOk fn && chOk fn ch
  | .fwVerify fn ch => fnOk fn && chOk fn ch
  | .fwActivate fn ch => fnOk fn && chOk fn ch
  | .fwConfirm fn ch => fnOk fn && chOk fn ch
  | .fwCommitSvn fn ch => fnOk fn && chOk fn ch
  | .fwStatus fn ch => fnOk fn && chOk fn ch
  | .kindlingLoad fn ch _ => fnOk fn && chOk fn ch
  | .trialReadyTimeout => true
  | .lockstepMismatch => true
  | .pairSelftestDone _ => true
  | .dispatchWatchdog core _ => hearthOk core
  | .hearthWatchdog => true
  | .vinValid _ _ _ => true
  | .vinLoss _ => true
  | .vinOvervoltage _ => true
  | .bellowsDecision _ _ => true
  | .domainRampDone d => domainOk d
  | .admissionTestDone unit _ => unitOk unit
  | .idleGate d => domainOk d
  | .vinDerate _ => true
  | .inputCurrentLimit _ => true
  | .wakePermitFound => true
  | .permitHoldTimeout => true
  | .permitWaitTimeout => true
  | .resetNAssert => true
  | .resetExit _ _ _ => true
  | .heldOff => true
  | .heldOffRelease _ _ _ => true
  | .perstNFall => true
  | .perstNRise => true
  | .thermalTrip => true
  | .thermalRecover => true
  | .vioLow => true
  | .vioRestored => true
  | .rstCtrlFull _ => true
  | .rstCtrlHio _ => true
  | .softwareResetStart => true
  | .kindlingStart _ => true
  | .firmwareStart _ => true
  | .smbusRead bus _ => busOk bus
  | .tamperEvent srcs chans => srcs.length == chans.length && srcs.all tamperOk && chans.all channelsOk
  | .eraseLineRelease => true
  | .tmpBistInterval _ => true
  | .tmpTestGo _ => true
  | .tmpChannelTestDone _ => true
  | .peatScan _ => true
  | .vbatBackupAlarm _ => true
  | .peatRtcHiWrite _ => true
  | .peatRtcLoWrite _ => true
  | .peatCntInc _ => true
  | .nrgWindowEnd obs => obs.all windowOk
  | .nrgBlock take => take.cells.all (fun c => cellOk c.1)
  | .keyGradeGrant => true
  | .nrgWaitLimit _ => true
  | .nrgRestart => true
  | .nrgStartupDone g fb obs => groupOk g && fb.all (fun x => decide (x.1 / 32 = g ∧ x.2 < 64)) && obs.all (fun o => windowOk o && o.1 / 32 == g)
  | .expanderReseedRequest e => expanderOk e
  | .expanderUrgent e => expanderOk e
  | .expanderHardLimit e => expanderOk e
  | .fltEvent src cls _ => faultOk src && classOk cls
  | .fltRailBreak src cls => faultOk src && classOk cls
  | .flueTransferError region _ => regionOk region
  | .flueHandshakeTimeout region _ => regionOk region
  | .unitSelftestDone u _ => unitOk u
  | .scPresence port => cardPortOk port
  | .scAtr port _ _ => cardPortOk port
  | .scAtrTimeout port => cardPortOk port
  | .scApduResponse port _ => cardPortOk port
  | .scApduTimeout port => cardPortOk port
  | .scRemoval port => cardPortOk port
  | .cardOvercurrent port => cardPortOk port
  | .mc0Insert _ => true
  | .mc0Remove => true
  | .mc0BusyEnd _ _ _ => true
  | .mc0BusyTimeout => true
  | .mc0IdleSleep => true
  | .wolumTrainingDone k _ => portOk k
  | .linkHandshakeMessage k _ => portOk k
  | .wolumFlitReceive k _ _ => portOk k
  | .linkRekeyTimer k => portOk k
  | .helloTimer => true
  | .helloReceive k _ => portOk k
  | .linkStateReceive k _ _ => portOk k
  | .e2eResendTimeout _ => true
  | .fabricMessage _ _ _ => true
  | .spillPeerTimeout _ => true
  | .syncPulseOut => true
  | .syncInPulse => true
  | .fabricTimeSync _ => true
  | .srdLbGo _ _ => true
  | .srdLbStop _ _ _ => true
  | .srdUnitTestGo _ => true
  | .injectFltEvent _ => true
  | .injectRunCorruption _ => true
  | .injectTamperChannel _ => true
  | .injectTamperAlarm _ => true
  | .opmWindowWrite _ _ => true
  | .opmWindowRead _ => true
  | .pvcDiagViewWrite cl _ _ => clusterOk cl
  | .rcRead fn bar _ be => fnOk fn && barOk bar && enablesOk be
  | .registerWrite fn bar _ _ be => fnOk fn && barOk bar && enablesOk be
  | .pcieLinkUp => true
  | .wolumPortDown k => portOk k
  | .scWaitingTimeExpiry port => cardPortOk port
  | .jtagTapAccess _ _ _ => true
  | .bootSpiAccess _ => true

end Sys2Proof
end

