-- ==== Sys2Proof/Tests/Slice0.lean ====
section
/-!
SUPPORT. The package's own tests: ill-formed terms that WellFormed refuses, instruction words written out from the spec's encodings, and
for every statement a state and operands that meet its hypotheses, one for each clause. Expected values come from the rules, not from a run.
-/
namespace Sys2Proof.Tests
open Sys2Proof Sys2Proof.Machine
set_option Elab.async false

/-! Small states. -/

/-- A kernel with every window, a handler and the three capabilities. -/
def kern : Kernel where
  kind := 0
  opcode := 0x8000
  codeLen := 64
  entry := 0
  handler := some 32
  caps := 7
  famMask := 0
  use1 := 0
  use2 := 0
  svn := 0
  tables := 0
  entropy := 64
  valTime := 10
  cycles := 1000
  sram := 4096
  input := ⟨0x10000, 64⟩
  aux := ⟨0x10100, 64⟩
  work := ⟨0x10200, 64⟩
  secret := ⟨0x10300, 64⟩
  output := ⟨0x10400, 64⟩
  qm := [3329, 0, 0, 0]
  gfp := 0x11B
  params := []
  twiddles := []
  code := []
  data := []
  measure := []
  signer := []
  persist := false
  grants := none
  slots := []
  current := true

/-- A run of that kernel that has just begun: the first private key part has 8 bytes, the first public part 4. -/
def run0 : Pvc where
  cmd := 7
  leg := 0
  kern := kern
  par := ⟨0, 0x1F, 64, 64, 64⟩
  inLen := 64
  auxLen := 64
  cap := 64
  inl := false
  k1 := some (zeros 8, zeros 4)
  k2 := some (zeros 8, zeros 4)
  c1 := none
  c2 := none
  src := zeros 16
  test := false
  ent := zeros 64
  s := Vector.replicate 32 ⟨0, none⟩
  w := Vector.replicate 32 ⟨0, none⟩
  p := Vector.replicate 8 ⟨0, false⟩
  len := 16
  epr := 0
  resume := false
  qm := #v[3329, 0, 65537, 0]
  gfp := 0x11B
  fpsr := 0
  pc := 0
  tpc := 0
  tcause := 0
  taddr := 0
  handler := false
  valid := false
  mem := []
  shares := []
  sram := []
  inSeg := (0, 64)
  auxSeg := (0, 64)
  sp := Vector.replicate 2 none
  ctxOut := none
  masks := 0
  stall := none
  alloc := true

/-- Core 0 holds a run. -/
def onCore (p : Pvc) : State := { State.reset with pvcs := [(0, p)] }

/-- A run whose S1 holds a value with a tag. -/
def withS1 (v : Word) (t : Tag) : Pvc := { run0 with s := run0.s.set 1 ⟨v, t⟩ }

/-- A run whose S1, S2 and S3 hold values without a tag. -/
def withS3 (x y z : Word) : Pvc := { run0 with s := ((run0.s.set 1 ⟨x, none⟩).set 2 ⟨y, none⟩).set 3 ⟨z, none⟩ }

/-- A run whose S1 is a Boolean share. -/
def tagged : Pvc := withS1 0 (some .bool)

/-- A run that waits for nothing and whose word is defined issues on core 0. -/
theorem issues0 (p : Pvc) (h : p.stall = none) (k : p.pc.toNat < p.kern.codeLen) (d : p.defined = true) : Issues (onCore p) 0 p :=
  ⟨rfl, h, k, d⟩

/-- A command that has passed the first two validation steps, with an all-zero descriptor. -/
def cmd0 : Cmd where
  fn := 0
  qp := 0
  slot := 0
  member := none
  desc := zeros 64
  pred := none
  predRes := none
  fence := false
  phase := .started
  inp := []
  aux := []
  outMap := []
  k1 := none
  k2 := none
  src := []
  leaf := none
  rand := []
  need := 0
  chunk := []
  legs := []
  replayed := false
  since := 0
  note := []

/-- A descriptor with its CRC: opcode, flags, parameter index, tag, context, two handles, the three lengths, bytes 48 to 55. -/
def descOf (op fl par tag ctx h1 h2 inLen cap auxLen w48 : Nat) : List Byte :=
  let b := natLE 2 op ++ natLE 1 fl ++ natLE 1 par ++ natLE 2 tag ++ natLE 2 ctx ++ natLE 4 h1 ++ natLE 4 h2 ++ natLE 8 0x1000 ++ natLE 4 inLen ++
    natLE 4 cap ++ natLE 8 0x2000 ++ natLE 8 0x3000 ++ natLE 8 w48 ++ natLE 4 auxLen
  b ++ natLE 4 (crc32c b)

/-- A device that runs its firmware, every unit of the fault sources 0 to 229 in service. -/
def dev : State := { State.reset with
  boot := { State.reset.boot with stage := .ready }
  ks := { State.reset.ks with dsk := some (zeros 32) }
  nrg := { State.reset.nrg with exps := (List.range 24).map (fun e => (e, zeros 200)), ready := List.replicate 128 (zeros 32) }
  units := (List.range 230).map (fun u => (u, { EUnit.off with service := true, booted := true })) }

/-- An open pair of 16 slots each, with interrupts on vector 1 and a coalescing time. -/
def pair0 : QPair := { QPair.off with state := .active, cfg := 0x83008100 }

/-- A pair, a command of a descriptor and its HostRead. -/
def withQp (p : QPair) : State := dev.setQp 0 0 p
def withCmd (c : Cmd) : State := (withQp pair0).setCmd 9 c
def cmdOf (d : List Byte) : Cmd := { cmd0 with desc := d }
def noHost : HostRead := ⟨[], [], [], [], [], []⟩

/-! Witnesses: vector cores. -/

/-- Every statement about one instruction of a core: the core issues and masks flow. -/
theorem test_coreIssues : Issues (onCore run0) 0 run0 ∧ Issues (onCore tagged) 0 tagged ∧ MasksFlow (onCore run0) 0 ∧ MasksFlow (onCore tagged) 0 :=
  ⟨issues0 _ rfl (by decide) (by decide), issues0 _ rfl (by decide) (by decide), rfl, rfl⟩

/-- ScalarModularResults: a usable modulus of both element sizes, none, and one too wide for 16 bits. -/
theorem test_scalarModular_met :
    run0.q 0 % 2 = 1 ∧ run0.q 0 < 2 ^ 16 ∧ run0.q 2 % 2 = 1 ∧ run0.q 1 = 0 ∧ 2 ^ 16 ≤ run0.q 2 := by decide

/-- BranchesAndJumps: plain and tagged operands, an aligned and an unaligned target. -/
theorem test_branches_met :
    (run0.getS 1).t = none ∧ (tagged.getS 1).t.isSome ∧ ((withS1 4 none).getS 1).v.toNat % 4 = 0 ∧
    ((withS1 5 none).getS 1).v.toNat % 4 ≠ 0 ∧ ((withS1 5 none).getS 1).t = none := by decide

/-- ScalarLoads: bytes that are there, an address that is not, an unaligned one, a tagged one. -/
theorem test_scalarLoads_met :
    ((withS1 0x10000 none).getS 1).t = none ∧ run0.load 0x10000 4 = .bytes (zeros 4) none ∧ run0.load 0x4000000 4 = .cause tcAccess ∧
    0x10001 % 4 ≠ 0 ∧ (tagged.getS 1).t.isSome := by decide

/-- ScalarStores: a store into data memory, one into shared SRAM, one that no window takes, and a secret one into WORK. -/
theorem test_scalarStores_met :
    run0.storeCause 0x10200 4 false = none ∧ run0.storeCause 0x100000 4 false = none ∧ run0.storeCause 0 4 false = some tcAccess ∧
    run0.storeCause 0x10200 4 true = some tcStore := by decide

/-- SetlenTakesTheLesser and MTC: the greatest plain value, one more, a tagged one; moduli and polynomials at the ends of their ranges. -/
theorem test_control_met :
    ((withS1 256 none).getS 1).v.toNat ≤ 256 ∧ ((withS1 31 none).getS 1).v.toNat < 32 ∧ 4 ≤ ((withS1 4 none).getS 1).v.toNat ∧
    ((withS1 0x1FFFF none).getS 1).v.toNat < 2 ^ 17 ∧ ((withS1 3 none).getS 1).v.toNat % 2 = 1 ∧
    ((withS1 0x7FFFFFFF none).getS 1).v.toNat < 2 ^ 31 ∧ (tagged.getS 1).t.isSome ∧ 256 < ((withS1 257 none).getS 1).v.toNat ∧
    (∀ r ∈ (withS1 3 none).w.toList, r.t ≠ some (.arithq 1)) ∧ (∀ r ∈ (withS1 3 none).s.toList, r.t ≠ some (.arithq 1)) := by decide

/-- ExitEndsTheRun: results 0 to 2 that fit, one too long, an unknown exit code, the two validation results in and out of the phase. -/
theorem test_exit_met :
    ((withS3 64 2 0).getS 1).v.toNat ≤ run0.par.out ∧ ((withS3 64 2 0).getS 1).v.toNat ≤ run0.cap ∧ ((withS3 64 2 0).getS 2).v.toNat ≤ 2 ∧
    ¬ ((withS3 65 2 0).getS 1).v.toNat ≤ run0.par.out ∧ ({ withS3 0 0x20 0 with valid := true } : Pvc).valid = true ∧
    ((withS3 0 0x21 0).getS 2).v.toNat = 0x21 ∧ (withS3 0 0x21 0).valid = false ∧ (tagged.getS 1).t ≠ none := by decide

/-- The run's command, on a device whose generator is in FAULT. -/
def nrgFaulted : State := ((onCore { run0 with ent := [] }).setCmd 7 cmd0).wrF Reg.NRG_STAT 1 0 2

/-- SecretSources: a part that reaches, one that does not, a place that is not there, no part; chunks at and beyond the limits, a generator
in FAULT and one that is not. -/
theorem test_secretSources_met :
    run0.k1.map (·.1) = some (zeros 8) ∧ 0 + 8 ≤ (zeros 8).length ∧ (zeros 8).length < 1 + 8 ∧ run0.kern.secret.has 0x10300 8 = true ∧
    run0.kern.secret.has 0x10400 8 = false ∧ run0.kern.work.has 0x10200 4 = true ∧ ({ run0 with k1 := none } : Pvc).k1.map (·.1) = none ∧
    run0.kern.caps.testBit 0 ∧ run0.kern.caps.testBit 1 ∧ 32 + 32 ≤ run0.ent.length ∧ run0.ent.length < 64 + 32 ∧ 4064 + 32 ≤ 4096 ∧
    4096 < 4096 + 32 ∧ ({ kern with caps := 0 } : Kernel).caps.testBit 1 = false ∧ (onCore run0).nrgDown = false ∧ nrgFaulted.nrgDown = true ∧
    mget nrgFaulted.cmds run0.cmd = some cmd0 ∧ mget nrgFaulted.pvcs 0 = some { run0 with ent := [] } := by decide +kernel

/-- DeclassifyAndContext: places at the end of their windows, places outside, a kernel without the capabilities. -/
theorem test_declassify_met :
    run0.kern.output.has 0x10420 32 = true ∧ run0.kern.output.has 0x10430 32 = false ∧ run0.kern.secret.has 0x10320 32 = true ∧
    run0.kern.caps.testBit 2 = true ∧ run0.par.flags.testBit 4 = true ∧ ({ kern with caps := 0 } : Kernel).caps.testBit 2 = false ∧
    (7 : R5).toNat ≤ 7 ∧ 7 < (8 : R5).toNat ∧ (∀ m, (some .bool : Tag) ≠ some (.arithq m)) ∧ 0 < run0.q 0 ∧ run0.q 0 < 2 ^ 16 ∧
    ¬ run0.q 2 < 2 ^ 16 ∧ (zeros 32).length = 32 ∧ 2 * 15 < 32 ∧ 4 * 7 < 32 ∧ (∀ y ∈ run0.shares, ∀ m, y.2 ≠ .arithq m) := by decide

/-- TrapsEnterTheHandlerOrEndTheRun: a handler, a run inside it, a kernel without one, a cause that no handler takes. -/
theorem test_traps_met :
    run0.handler = false ∧ run0.kern.handler = some 32 ∧ ({ run0 with handler := true } : Pvc).handler = true ∧
    ({ kern with handler := none } : Kernel).handler = none ∧ tcIllegal ≠ tcAccess ∧ tcIllegal ≠ tcMiss := by decide

/-- CoresThatCannotIssue: no run, a waiting run, a fetch at the code length, an undefined word, masks that do not flow. -/
theorem test_cannotIssue_met :
    mget State.reset.pvcs 0 = none ∧ Stalls (onCore { run0 with stall := some .sram }) 0 { run0 with stall := some .sram } .sram ∧
    ({ run0 with pc := 64 } : Pvc).kern.codeLen ≤ ({ run0 with pc := 64 } : Pvc).pc.toNat ∧
    decodePvc 0 (BitVec.ofNat 32 (leAt ({ kern with code := List.replicate 64 0xFF } : Kernel).code 0 4)) = none ∧
    ¬ MasksFlow ((onCore tagged).setCluster 0 { (onCore tagged).cluster 0 with maskStall := true }) 0 := by
  refine ⟨rfl, ⟨rfl, rfl⟩, by decide, by decide, ?_⟩
  unfold MasksFlow
  decide

/-- VectorElementResults, VectorMovesAndImmediates: spans in order with and without LEN, a predicate and an index within a register. -/
theorem test_vectorSpans_met :
    SpansFit run0 true true [4, 8, 12] ∧ SpansFit run0 false false [4, 8, 31] ∧ SpansFit run0 true false [4, 8, 12] ∧ run0.gfp ≠ 0 ∧
    run0.spanTag 8 2 = none ∧ (run0.getP 3).t = false ∧ (7 : R5).toNat < 256 / eWidth true ∧ (15 : R5).toNat < 256 / eWidth false := by
  unfold SpansFit
  decide

/-- VectorModularResults: moduli in and out of range, counts at both ends of their range and beyond each. -/
theorem test_vectorModular_met :
    run0.q 0 % 2 = 1 ∧ run0.q 0 < 2 ^ 16 ∧ run0.q 1 = 0 ∧ 2 ^ 16 ≤ run0.q 2 ∧ 1 ≤ (1 : BitVec 8).toNat ∧ (15 : BitVec 8).toNat < eWidth false ∧
    (0 : BitVec 8).toNat = 0 ∧ eWidth false ≤ (16 : BitVec 8).toNat := by decide

/-- ButterfliesAndPacking: spans apart, a twiddle range up to the end of the kernel's tables, packing counts at both ends. -/
theorem test_butterflies_met :
    let p : Pvc := { withS1 0x80FC0 none with kern := { kern with tables := 1 } }
    overlap 4 (p.regs true true) 8 (p.regs true true) = false ∧ p.spanBad true true (p.regs true true) [4, 8] = false ∧ (p.getS 1).t = none ∧
    p.spanTag 4 2 = none ∧ 0x80FC0 % (eWidth true / 8) = 0 ∧ 0x80FC0 + p.len * (eWidth true / 8) ≤ 0x80000 + 0x1000 * p.kern.tables ∧
    1 ≤ (1 : BitVec 8).toNat ∧ (32 : BitVec 8).toNat ≤ eWidth true ∧ overlap 4 ((p.len * 32 + 255) / 256) 8 2 = false ∧
    p.spanBad true true ((p.len * 32 + 255) / 256) [4] = false := by decide

/-- SpanWritesKeepTheRest, PredicateResults: a span up to the last register, destination fields at both sides of 8, LEN in range. -/
theorem test_predicates_met :
    (30 : R5).toNat + 2 ≤ 32 ∧ (7 : R5).toNat < 8 ∧ 8 ≤ (8 : R5).toNat ∧ SpansFit run0 true true [4, 8] ∧ run0.spanTag 4 2 = none ∧
    (run0.getP 0).t = false ∧ run0.len ≤ 256 ∧ run0.len ≤ 4096 / eWidth true ∧ ({ run0 with len := 0 } : Pvc).len = 0 := by
  unfold SpansFit
  decide

/-- VectorLoads: every element lies in WORK; element 8 is the first beyond it; a tagged address; three elements loaded before a fault, from
lines without tags. -/
theorem test_vectorLoads_met :
    SpansFit run0 true true [4] ∧ (1 : Nat) ∈ [1, 2, 4, 8, 16, 32, 64, 128] ∧ overlap 4 2 8 2 = false ∧ (run0.getP 0).t = false ∧
    (∀ j ∈ run0.active 0 32 (run0.count true true), (0x10200 + 4 * j) % 4 = 0 ∧ run0.load (0x10200 + 4 * j) 4 = .bytes (zeros 4) none) ∧
    run0.active 0 32 (run0.count true true) = List.range 8 ++ 8 :: (List.range 7).map (· + 9) ∧
    (∀ j ∈ List.range 8, (0x10220 + 4 * j) % 4 = 0 ∧ run0.load (0x10220 + 4 * j) 4 = .bytes (zeros 4) none) ∧
    run0.load (0x10220 + 4 * 8) 4 = .cause tcAccess ∧ 0x10221 % 4 ≠ 0 ∧ (tagged.getS 1).t.isSome ∧
    (let p : Pvc := { run0 with epr := 3, resume := true }
     p.first = 3 ∧ p.pbit 0 32 2 = true ∧ ∀ j ∈ List.range 3, p.lineTag (0x10200 + 4 * j) 4 = none) := by
  unfold SpansFit
  decide

/-- VectorStores: every element goes to WORK; a secret one may not; a tagged predicate; a tagged address. -/
theorem test_vectorStores_met :
    (∀ j ∈ run0.active 0 32 (run0.count true true), (0x10200 + 4 * j) % 4 = 0 ∧ run0.storeCause (0x10200 + 4 * j) 4 false = none) ∧
    (3 ∈ run0.active 0 32 (run0.count true true) ∧ run0.storeCause (0x10200 + 4 * 3) 4 true = some tcStore) ∧
    ({ run0 with p := run0.p.set 1 ⟨0, true⟩ } : Pvc).getP 1 = ⟨0, true⟩ ∧ (tagged.getS 1).t.isSome := by decide

/-- A unit in its zero state at the rate of SHAKE256. -/
def unit0 : Sponge := { rate := 136, pos := 0, squeeze := false, st := List.replicate 200 0, tagged := false }

/-- SpongeInstructions: units free and none free, one held in each phase, a kernel with and without SPONGE_PAIR. -/
theorem test_sponge_met :
    run0.unit false = none ∧ run0.unit true = none ∧ (onCore run0).spongesHeld 0 = 0 ∧ ((onCore run0).cluster 0).spQueue = [] ∧
    ({ run0 with sp := #v[some unit0, none] } : Pvc).unit false = some unit0 ∧ unit0.squeeze = false ∧ ({ unit0 with squeeze := true } : Sponge).squeeze = true ∧
    ({ kern with caps := 15 } : Kernel).caps.testBit 3 = true ∧ ¬ run0.kern.caps.testBit 3 = true ∧
    ((onCore run0).setCluster 0 { (onCore run0).cluster 0 with spQueue := [5] }).cluster 0 = { (onCore run0).cluster 0 with spQueue := [5] } := by decide +kernel

/-- RejectionSampling: a count at LEN and one below it, a tagged count, on a squeezing unit, an absorbing one and none; a tagged bound; a
span whose first register has no element of the result. -/
theorem test_rejection_met :
    let x : Sponge := { unit0 with squeeze := true }
    let p : Pvc := { withS3 15 1 0 with sp := #v[some x, some { x with tagged := true }] }
    p.q 0 ≠ 0 ∧ p.q 0 < 2 ^ 16 ∧ p.unit false = some x ∧ 0 < x.rate ∧ (p.getS 1).t = none ∧ (p.getS 2).t = none ∧ (p.getS 1).v.toNat < p.len ∧
    p.len ≤ ((withS3 16 1 0).getS 1).v.toNat ∧ SpansFit p true false [4] ∧ (3 : BitVec 2) ≠ 2 ∧ p.unit true = some { x with tagged := true } ∧
    ({ kern with caps := 15 } : Kernel).caps.testBit 3 = true ∧ run0.unit false = none ∧ unit0.squeeze = false ∧ (tagged.getS 1).t.isSome ∧
    1 ≤ ((withS3 15 1 0).getS 2).v.toNat ∧ ((withS3 15 0 0).getS 2).v.toNat = 0 ∧ ({ x with pos := 100 } : Sponge).pos ≠ 0 := by
  unfold SpansFit
  decide +kernel

/-- A command whose runs wait for the next chunk of their entropy stream. -/
def chunkCmd : Cmd := { cmd0 with chunk := [zeros 32, zeros 32] }

/-- An entry of the code-key cache for handle 1, still loading, and a load that waits for it. -/
def ck0 : CodeKey := ⟨1, 8, true, 0, 0, 9⟩

/-- ClusterEvents: each wait, with and without what it waits for. -/
theorem test_clusterEvents_met :
    let at_ := fun (p : Pvc) (x : Cluster) => (onCore p).setCluster 0 x
    let x0 := (onCore run0).cluster 0
    ((at_ { run0 with stall := some (.sponge [0] 136) } { x0 with spQueue := [0] }).cluster 0).spQueue = 0 :: [] ∧
    [0].length ≤ 4 - (onCore run0).spongesHeld 0 ∧ 4 - (onCore run0).spongesHeld 0 < [0, 1, 0, 1, 0].length ∧
    ((at_ { run0 with stall := some .sram } { x0 with sramQueue := [0] }).cluster 0).sramQueue = 0 :: [] ∧ run0.kern.sram / 4096 ≤ 192 ∧
    ({ run0 with stall := some .mask } : Pvc).stall = some .mask ∧ ({ run0 with stall := some (.slide true 32) } : Pvc).stall = some (.slide true 32) ∧
    ({ run0 with stall := some (.kld 0x10300 (zeros 8) true none) } : Pvc).stall = some (.kld 0x10300 (zeros 8) true none) ∧ chunkCmd.chunk ≠ [] ∧
    ({ run0 with stall := some (.kld 0x10300 (zeros 8) true (some (1, 0))) } : Pvc).stall = some (.kld 0x10300 (zeros 8) true (some (1, 0))) ∧
    (onCore run0).ks.codeKeys.any (fun k => k.handle == 1) = false ∧ (∃ k ∈ [{ ck0 with loading := false }], k.handle = 1 ∧ k.loading = false) ∧
    192 < ({ kern with sram := 193 * 4096 } : Kernel).sram / 4096 ∧
    run0.stall ≠ some .ended ∧ ({ run0 with valid := true } : Pvc).valid = true ∧
    (((onCore run0).setUnit 0 { (onCore run0).unit 0 with scrub := true }).unit 0).scrub = true := by decide +kernel

/-- ClusterEvents, a chunk of an entropy stream: it covers the ENT that waits for it. -/
theorem test_entChunk_met :
    let p := { run0 with cmd := 9, ent := [], stall := some (.ent 4 0) }
    let s := (onCore p).setCmd 9 chunkCmd
    mget s.cmds p.cmd = some chunkCmd ∧ chunkCmd.chunk ≠ [] ∧
    (∀ y ∈ s.pvcs, ∀ d off, y.2.cmd = p.cmd → y.2.stall = some (.ent d off) →
      off + 32 ≤ (chunkCmd.rand ++ chunkCmd.chunk.flatten.take (min 64 (4096 - chunkCmd.stream))).length) := by
  refine ⟨rfl, by decide, ?_⟩
  intro y hy d off _ h
  simp only [onCore, State.setCmd, List.mem_singleton] at hy
  subst hy
  injection h with h
  injection h with _ h
  subst h
  decide +kernel

/-! Witnesses: queues, batches, runs. -/

/-- QueuePairs, creation: a write that passes every check, and the first value that each check refuses. -/
theorem test_qpCreate_met :
    let vf := { dev with link := { dev.link with vfEnable := true, numVfs := 1 } }
    vf.qpAvailable 1 = true ∧ 0 < vf.qps' 1 ∧
    0 < dev.qps' 0 ∧ (dev.qp 0 0).state = .off ∧ bitAt (dev.qp 0 0).cfg 31 = false ∧
    ¬ (12 < fld 0xBFCC 3 0 ∨ 12 < fld 0xBFCC 7 4 ∨ bitAt (dev.qp 0 0).baseHi 31 = true) ∧ ¬ (bitAt 0xBFCC 15 = true ∧ dev.vecs 0 ≤ fld 0xBFCC 13 8) ∧
    dev.qpAvailable 0 = true ∧ 12 < fld 0xD 3 0 ∧ (bitAt 0x8400 15 = true ∧ vf.vecs 1 ≤ fld 0x8400 13 8) ∧
    State.reset.qpAvailable 0 = false := by decide +kernel

/-- QueuePairs, the rest: pairs in each state, tails and heads at both sides of their bound. -/
theorem test_qpBells_met :
    let s := withQp pair0
    let d := withQp { pair0 with state := .deleting, cfg := 0x00008100 }
    s.qp 0 0 = pair0 ∧ pair0.state ≠ .off ∧ bitAt pair0.cfg 31 = true ∧ (d.qp 0 0).state = .deleting ∧ bitAt (d.qp 0 0).cfg 31 = false ∧
    s.qpOpen 0 0 = true ∧ d.qpOpen 0 0 = false ∧ fld 15 15 0 < pair0.sqLen ∧ pair0.sqLen ≤ fld 16 15 0 ∧ pair0.cqHead < pair0.cqLen ∧
    (let p := { pair0 with cqTail := 3 }
     3 ≤ (p.cqTail + p.cqLen - p.cqHead) % p.cqLen ∧ fld 3 15 0 = (p.cqHead + 3) % p.cqLen ∧ (p.cqTail + p.cqLen - p.cqHead) % p.cqLen < 4 ∧ 4 < p.cqLen ∧
       fld 4 15 0 = (p.cqHead + 4) % p.cqLen) ∧ pair0.cqLen ≤ fld 16 15 0 := by decide +kernel

/-- FetchAndStart, the fetch: a descriptor in order without a fence, one with a fence behind an earlier command, no room. -/
theorem test_fetch_met :
    let d := descOf 0x0F30 0 0 1 0 0 0 0 32 0 0
    let f := descOf 0x0F30 1 0 1 0 0 0 0 32 0 0
    let s := withQp { pair0 with tail := 1 }
    d.length = 64 ∧ s.qpOpen 0 0 = true ∧ (s.qp 0 0).head ≠ (s.qp 0 0).tail ∧ s.roomFor 0 = true ∧ leAt d 60 4 = crc32c (d.take 60) ∧
    leAt d 0 2 ≠ 0xF010 ∧ (leAt d 2 1).testBit 0 = false ∧ (leAt d 2 1).testBit 2 = false ∧ leAt d 2 1 < 32 ∧ opcodeOk 0 (leAt d 0 2) false = true ∧
    leAt f 60 4 = crc32c (f.take 60) ∧ (leAt f 2 1).testBit 0 = true ∧
    (∃ x ∈ ({ withCmd cmd0 with nextCmd := 10 } : State).cmds, x.1 < 10 ∧ x.2.member = none ∧ x.2.fn = 0 ∧ x.2.qp = 0) ∧
    ({ s with boot := { s.boot with pf0 := { s.boot.pf0 with cap := 0 } } } : State).roomFor 0 = false := by
  refine ⟨rfl, ?_⟩
  decide +kernel

/-- FetchAndStart, held commands: each condition that holds one, and each way on. -/
theorem test_held_met :
    let c := { cmdOf (descOf 0x0F30 1 0 1 0 0 0 0 32 0 0) with phase := .held, slot := 1, fence := true }
    let e := { cmdOf (descOf 0x0F30 0 0 1 0 0 0 0 32 0 0) with slot := 0 }
    let s := withCmd c
    mget s.cmds 9 = some c ∧ c.phase = .held ∧ (s.setCmd 8 e).earlierLive 9 c = true ∧ s.earlierLive 9 c = false ∧ c.note = [] ∧ c.pred = none ∧
    ((withQp { pair0 with firstFail := some 7 }).setCmd 9 c).earlierFailed 9 c = true ∧ s.earlierFailed 9 c = false ∧ opcodeOk c.fn c.op c.member.isSome = true ∧
    c.flag 2 = c.member.isSome ∧ c.flags < 32 ∧ ({ c with pred := some 8, predRes := some false } : Cmd).predRes = some false := by decide +kernel

/-- CommandEnds: a pair with room, a full one, a waiting entry, pending completions and their time. -/
theorem test_commandEnds_met :
    let w : WaitEntry := ⟨9, zeros 32, true, true⟩
    let p := { pair0 with waiting := [w], cqTail := 2, cqHead := 2 }
    let q := { pair0 with pendCnt := 1, irqCfg := pair0.cfg }
    mget (withCmd cmd0).cmds 9 = some cmd0 ∧ cmd0.member = none ∧ ((withCmd cmd0).qp 0 0).state = .active ∧
    (pair0.cqTail + 1) % pair0.cqLen ≠ pair0.cqHead ∧ pair0.waiting = [] ∧ (15 + 1) % pair0.cqLen = 0 ∧ (withQp p).qpOpen 0 0 = true ∧
    ((withQp p).qp 0 0).waiting = w :: [] ∧ (p.cqTail + 1) % p.cqLen ≠ p.cqHead ∧ w.entry.length = 32 ∧ bitAt q.irqCfg 15 = true ∧
    0 < q.pendCnt ∧ fld q.irqCfg 30 24 ≠ 0 ∧ (withQp q).qp 0 0 = q ∧ (withQp q).vecMasked 0 1 = true ∧
    (State.vecMasked { withQp q with link := { dev.link with msix := [(28, 0)] } } 0 1 = false) := by decide +kernel

/-- Batches, the commands: a batch and a campaign in order, at the end of their output and one byte short; each wrong shape. -/
theorem test_batches_met :
    let c := cmdOf (descOf 0xF001 0 0 5 0 0 0 128 64 0 8)
    let k := cmdOf (descOf 0xF002 0 0 5 0 0 0 96 64 64 8)
    let tpl := descOf 0x0202 4 0 5 0 77 0 0 0 0 0
    MayStart (withCmd c) 9 c ∧ c.op = 0xF001 ∧ c.inLen = 64 * 2 ∧ c.auxLen = 0 ∧ leAt c.desc 48 8 % 8 = 0 ∧ 32 * 2 ≤ c.cap ∧
    buffer c.inAddr c.inLen [] = .ok [(0x1000, 128)] ∧ buffer c.auxAddr c.auxLen [] = .ok [] ∧ buffer c.outAddr c.cap [] = .ok [(0x2000, 64)] ∧
    k.op = 0xF002 ∧ k.inLen = 48 * 2 ∧ k.auxLen = 64 ∧ 32 * 2 ≤ k.cap ∧ (cmdOf (descOf 0xF001 0 0 5 0 0 0 128 63 0 8)).cap < 32 * 2 ∧
    (cmdOf (descOf 0xF001 0 0 5 0 0 0 100 64 0 8)).inLen ≠ 64 * (100 / 64) ∧
    (cmdOf (descOf 0xF001 0 0 5 0 0 0 128 64 4 8)).auxLen ≠ 0 ∧ c.h2 = 0 ∧ c.h1 ≠ PUBLIC_IN_AUX ∧ c.note = [] ∧
    (let t : List Byte := (tpl.take 16) ++ zeros 32 ++ zeros 12
     let b := t ++ natLE 4 (crc32c t)
     leAt b 60 4 = crc32c (b.take 60) ∧ (leAt b 2 1).testBit 2 = true ∧ 0x0100 ≤ leAt b 0 2 ∧ leAt b 0 2 ≤ 0x1FFF ∧ leAt b 16 32 = 0 ∧ leAt b 56 4 = 0) := by
  unfold MayStart Started
  decide +kernel

/-- A batch of two members. -/
def batch0 : Batch where
  total := 2
  next := 0
  done := []
  campaign := false
  template := []
  bitmap := 8
  succ := 0
  other := 0
  rejected := 0
  firstBad := none
  aborted := false
  tag := 5
  chain := none
  results := []

/-- Batches, members and ABORT_BATCH: a record in order, a campaign record in order, no member left, a batch of the tag and none. -/
theorem test_members_met :
    let c := { cmdOf (descOf 0xF001 0 0 5 0 0 0 128 64 0 8) with phase := .batch }
    let r := descOf 0x0F30 4 0 1 0 0 0 0 32 0 0
    let s : State := { withCmd c with batches := [(9, batch0)] }
    let a := cmdOf (descOf 0xF010 0 0 6 0 0 0 0 0 0 5)
    let m := campaignDesc (descOf 0x0F30 4 0 1 0 0 0 0 32 0 0) (zeros 48)
    mget s.batches 9 = some batch0 ∧ mget s.cmds 9 = some c ∧ c.phase = .batch ∧ batch0.next < batch0.total ∧ s.qpOpen 0 0 = true ∧ s.roomFor 0 = true ∧
    leAt r 60 4 = crc32c (r.take 60) ∧ (leAt r 2 1).testBit 0 = false ∧ (leAt r 2 1).testBit 2 = true ∧ opcodeOk 0 (leAt r 0 2) true = true ∧
    MayStart (withCmd a) 9 a ∧ leAt (zeros 48) 42 1 < 2 ∧ leAt (zeros 48) 43 5 = 0 ∧ (leAt m 2 1).testBit 2 = true ∧ opcodeOk 0 (leAt m 0 2) true = true ∧
    ({ batch0 with next := 2 } : Batch).total ≤ 2 ∧ a.op = 0xF010 ∧ keysRise s.batches = true ∧ batch0.tag = leAt a.desc 48 2 ∧ a.flag 0 = false ∧
    a.flag 4 = false ∧ leAt a.desc 50 6 = 0 ∧ a.inLen = 0 ∧ a.auxLen = 0 ∧ a.cap = 0 ∧
    (s.cmds.filter (fun x => x.2.phase == .held)).length = 0 ∧ (withCmd { c with phase := .held }).cmds.any (fun x => x.2.phase == .held && x.2.note == []) = true ∧
    batch0.next ≠ batch0.total ∧ ({ batch0 with next := 2 } : Batch).next = batch0.total ∧ (cmdOf (descOf 0xF010 0 0 6 0 0 0 4 0 0 5)).inLen ≠ 0 ∧
    (cmdOf (descOf 0xF010 0 0 6 0 0 0 0 0 4 5)).auxLen ≠ 0 ∧
    (cmdOf (descOf 0xF010 1 0 6 0 0 0 0 0 0 5)).flag 0 = true ∧ batch0.tag ≠ 6 := by
  unfold MayStart Started
  decide +kernel

/-- A leg on the PVCs that waits for two runs, and a result. -/
def leg0 : Leg := ⟨.pvc, 2, [], [], none, [], []⟩
def res0 (n : Nat) : RunResult := ⟨0, natLE 4 n, none, none, zeros 16, [], 0, 0, true⟩

/-- A run of the leg on a unit, ended with a result or going on. -/
def runOn (u n : Nat) (r : Option RunResult) : Run := ⟨u, n, none, r⟩

/-- A verification with one leg. -/
def legCmd (l : Leg) : Cmd := { cmdOf (descOf 0x0202 0 2 1 0 0 0 0 0 0 0) with phase := .running, legs := [l] }

/-- DuplicatedRuns, placement: a free unit, one that is not eligible, a leg that needs a unit it used, a class without units, a turn of two commands. -/
theorem test_runPlace_met :
    let c := legCmd leg0
    let s := withCmd c
    let l : Leg := ⟨.pvc, 2, [runOn 0 0 none], [0], none, [], []⟩
    let k : Leg := ⟨.hte, 3, [runOn 108 0 (some (res0 1)), runOn 109 1 (some (res0 2))], [108, 109], none, [108], [108]⟩
    let left := fun (e : Eng) (u : Nat) => (unitsOf e).map (fun v => (v, { EUnit.off with service := v == u, booted := v == u, retired := v != u }))
    let one : State := { s with units := left .hte 108 }
    c.legs[0]? = some leg0 ∧ c.phase = .running ∧ leg0.decided = none ∧ s.eligible c leg0 95 = true ∧ s.freeFor 9 95 = true ∧ c.goesOn = false ∧ s.preferred c leg0 95 = true ∧
    leg0.runs.length < leg0.want ∧ s.itsTurn .pvc c = true ∧ leg0.runs = [] ∧
    s.eligible (legCmd l) l 1 = false ∧ s.eligible (legCmd l) l 8 = true ∧ s.noUnits c leg0 = false ∧ s.maskless c .pvc = false ∧
    one.eligible (legCmd k) k 108 = true ∧ k.usedGroup 108 = true ∧ k.cls ≠ .chk ∧ leg0.want < 3 ∧ one.freeFor 9 108 = true ∧ k.runs.length < k.want ∧ leg0.cls ≠ .bne ∧
    ({ s with units := (List.range 96).map (fun u => (u, { EUnit.off with retired := true })) } : State).noUnits c leg0 = true ∧
    ({ s with units := left .bne 124 } : State).noUnits c ⟨.bne, 2, [], [], none, [], []⟩ = true := by decide +kernel

/-- DuplicatedRuns, masks: a signature is held where every expander of the PVCs is at its limit. -/
theorem test_maskless_met :
    let c := cmdOf (descOf 0x0203 0 2 1 0 0 0 0 0 0 0)
    let s := State.wr { dev with units := [(0, { EUnit.off with service := true, booted := true })] } 0 Reg.NRG_EXP 0xFFFFFFFF
    c.usesMasks = true ∧ s.maskless c .pvc = true ∧ s.noUnits c leg0 = false := by
  decide +kernel

/-- Generation of an elliptic-curve key that has no bytes yet. -/
def genCmd : Cmd := { cmdOf (descOf 0x0F01 0 0 1 0 0 0 0 0 0 0) with aux := natLE 1 0x0A ++ [1] ++ zeros 30, phase := .running, legs := [leg0] }

/-- DuplicatedRuns, the vote: the first result, two that differ, three that all differ, two that agree, one whose own check failed. -/
theorem test_runFinish_met :
    let l1 : Leg := ⟨.pvc, 2, [runOn 0 0 none, runOn 8 1 none], [0, 8], none, [], []⟩
    let l2 : Leg := ⟨.pvc, 2, [runOn 0 0 (some (res0 1)), runOn 8 1 none], [0, 8], none, [], []⟩
    let l3 : Leg := ⟨.pvc, 3, [runOn 0 0 (some (res0 1)), runOn 8 1 (some (res0 2)), runOn 16 2 none], [0, 8, 16], none, [], []⟩
    (l1.runs.find? (fun r => r.unit == 8 && r.res.isNone) = some (runOn 8 1 none)) ∧ (runOn 8 1 none).kres = none ∧ (legCmd l1).kern = false ∧
    (legCmd l1).op / 256 ≠ 0x0C ∧ ((withCmd (legCmd l1)).legResult (legCmd l1) 0).isSome = true ∧ l1.cls ≠ .chk ∧ (dev.unit 8).corrupt = none ∧ 2 ≤ l1.want ∧
    [res0 1].length < l1.want ∧ ([res0 1, res0 2].filter (·.own)).Nodup ∧ ([res0 1, res0 2, res0 3].filter (·.own)).Nodup ∧ l3.want = 3 ∧
    l2.want ≤ [res0 1, res0 1].length ∧ (res0 1).own = true ∧ (∀ y ∈ [runOn 0 0 (some (res0 1)), runOn 8 1 (some (res0 1))], y.res = some (res0 1)) ∧
    ({ res0 1 with own := false } : RunResult).own = false ∧ (withCmd genCmd).legResult genCmd 0 = none ∧ (legCmd l1).test = false ∧ (legCmd l1).stream < 4096 ∧ dev.nrgDown = false ∧ dev.masksFor (legCmd l1) 8 = true ∧
    (legCmd l1).chunk = [] ∧ dev.nrg.queue.any (fun r => r.who == .chunk 9) = false := by
  decide +kernel


/-! Witnesses: keys. -/

/-- A generation: number, leaf counters from next to last under a ceiling. -/
def gen0 (n next ceil last : Nat) : KeyGen where
  gen := n
  par := 1
  priv := zeros 32
  pub := zeros 64
  next := next
  ceil := ceil
  last := last
  raising := none
  seqNo := 0
  curve := 0
  uid := n
  stuck := false
  trees := []
  links := []

/-- An object of a family with policy 2 and flags, its active generation 1. -/
def obj0 (fam flags : Nat) (g : KeyGen) : KeyObj where
  attrs := natLE 1 fam ++ [1] ++ natLE 2 0xFFF ++ [2] ++ natLE 1 flags ++ zeros 26
  act := g
  staged := none
  stAttrs := []
  verified := false
  frozen := false
  retiring := []
  unsealed := true
  rebuild := false

/-- The device with one object at handle 1, in the seal state NORMAL, and a command. -/
def withKey (o : KeyObj) (c : Cmd) : State :=
  ({ withCmd c with ks := { (withCmd c).ks with objs := [(1, o)] } }).wrF Reg.KST_STAT 5 4 1

/-- EngineCommands: an operation of each row passes its test of the opcode. -/
theorem test_engineOpcodes_met :
    (∀ op ∈ [0x0110, 0x0111, 0x0112, 0x0113, 0x0220, 0x0221, 0x0222, 0x0223, 0x0224, 0x0228, 0x0229, 0x022A, 0x0A30, 0x0A31, 0x0940, 0x0941, 0x0944,
      0x0945, 0x0946, 0x0947, 0x0190], algOpOk op = true) ∧ decide (128 ≤ 0x0190 % 256) = true ∧ algOpOk 0x0125 = false ∧
    ¬ (0x8000 ≤ 0x0F80 ∧ 0x0F80 ≤ 0x8FFF) := by decide +kernel

/-- A validation fails with a status, or passes with a command that meets p. -/
def fails (r : Except Done Cmd) (st : Nat) : Bool := match r with | .error d => d.status == st | .ok _ => false
def passes (r : Except Done Cmd) (p : Cmd → Bool) : Bool := match r with | .error _ => false | .ok c => p c

/-- EngineCommands: a command that fails a check, one that draws bytes, one that waits for unsealing, one that draws none; FAULT and not. -/
theorem test_engineCommands_met :
    let bad := cmdOf (descOf 0x0E01 0 1 0 0 0 0 0 32 0 32)
    let good := cmdOf (descOf 0x0E01 0 0 0 0 0 0 0 32 0 32)
    let der := cmdOf (descOf 0x0F10 0 0 0 0 1 0 0 0 0 (0x0C * 2 ^ 56 % 2 ^ 8 + 16 * 2 ^ 8 + 0x01 * 2 ^ 32))
    MayStart (withCmd good) 9 good ∧ Started (withCmd good) 9 good ∧
    ((withCmd good).setCmd 8 good).behind 9 good = true ∧ State.vendorKernel { withCmd good with kernels := [{ kern with opcode := 0x0E01 }] } 0x0E01 = true ∧
    fails ((withCmd bad).randomVal bad noHost) St.BAD_FIELD ∧
    passes ((withCmd good).randomVal good noHost) (fun c => c.codeKey == none && !c.wantsLeaf && c.need == 32) ∧
    fails ((withKey { obj0 0x0C 0 (gen0 1 0 0 0) with unsealed := false } der).deriveVal der noHost) 0x100 ∧
    passes ((withKey (obj0 0x0C 0 (gen0 1 0 0 0)) der).deriveVal der noHost) (fun c => c.codeKey == none && !c.wantsLeaf && c.need == 0) ∧
    dev.rdF Reg.NRG_STAT 1 0 ≠ 2 ∧ (dev.wrF Reg.NRG_STAT 1 0 2).rdF Reg.NRG_STAT 1 0 = 2 := by
  unfold MayStart Started
  decide +kernel

/-- A command that signs with generation 1 of a stateful key. -/
def signCmd : Cmd := { cmdOf (descOf 0x0520 0 1 0 0 1 0 0 0 0 0) with k1 := some ((gen0 1 0 4 9).mat 1 (obj0 5 0 (gen0 1 0 4 9)).attrs) }

/-- LeavesAndCodeKeys, leaves: a leaf to give, a ceiling reached, a rebuild, an exhausted, a frozen and a stuck key, a generation that is gone. -/
theorem test_leaves_met :
    let s := fun (o : KeyObj) => withKey o signCmd
    signCmd.codeKey = none ∧ signCmd.wantsLeaf = true ∧ signCmd.leaf = none ∧ signCmd.k1.isSome = true ∧ signCmd.need = 0 ∧
    (s (obj0 5 0 (gen0 1 3 4 9))).findGen 1 1 = some (gen0 1 3 4 9) ∧ (s (obj0 5 0 (gen0 2 3 4 9))).findGen 1 1 = none ∧
    (s (obj0 5 0 (gen0 1 3 4 9))).holder 1 1 = some (obj0 5 0 (gen0 1 3 4 9)) ∧
    (gen0 1 3 4 9).next < (gen0 1 3 4 9).ceil ∧ (gen0 1 4 4 9).ceil ≤ (gen0 1 4 4 9).next ∧ (gen0 1 3 4 9).stuck = false ∧
    (gen0 1 9 10 9).next ≤ (gen0 1 9 10 9).last ∧ (gen0 1 10 10 9).last < (gen0 1 10 10 9).next ∧ ({ gen0 1 0 4 9 with stuck := true } : KeyGen).stuck = true ∧
    ({ obj0 5 0 (gen0 1 0 4 9) with frozen := true } : KeyObj).frozen = true ∧ ({ obj0 5 0 (gen0 1 0 4 9) with rebuild := true } : KeyObj).rebuild = true := by
  decide +kernel

/-- LeavesAndCodeKeys, events: a ceiling write with and without a spare block, of a key that holds and of one destroyed; a rebuild in its turn. -/
theorem test_journal_met :
    let g := { gen0 1 4 4 9 with raising := some 8 }
    let o := obj0 5 0 g
    let s := withKey o cmd0
    let d : State := { withCmd cmd0 with ks := { dev.ks with dying := [(1, g)] } }
    let b := withKey { o with rebuild := true } cmd0
    (∀ x ∈ s.cmds, x.2.phase ≠ .waitLeaf) ∧ dev.raisingGen 1 = none ∧ s.raisingGen 1 = some g ∧ g.raising = some 8 ∧ s.findGen 1 g.uid = some g ∧
    d.raisingGen 1 = some g ∧ d.findGen 1 g.uid = some g ∧ s.holder 1 g.uid = some o ∧
    s.ks.hbsSpare = 0 ∧ 0 < ({ s.ks with hbsSpare := 1 } : KeyStore).hbsSpare ∧
    mget b.ks.objs 1 = some { o with rebuild := true } ∧ (b.rebuildOrder.take (((unitsOf .hte).filter b.isFree).length / 2)).contains 1 = true ∧
    (s.rebuildOrder.take (((unitsOf .hte).filter s.isFree).length / 2)).contains 1 = false := by decide +kernel

/-- LeavesAndCodeKeys, the code-key cache: a portion to come and the last one, an entry that serves, room for a load, a generation in use and not. -/
theorem test_codeKeys_met :
    let s := withKey (obj0 5 0 (gen0 1 4 4 9)) cmd0
    let use := { cmdOf (descOf 0x0710 0 1 0 0 1 0 0 0 0 0) with k1 := some ((gen0 1 0 0 0).mat 1 (obj0 7 0 (gen0 1 0 0 0)).attrs) }
    let w := withKey (obj0 7 0 (gen0 1 0 0 0)) { use with phase := .waitLoad }
    let s1 : State := { w with cmds := mput w.cmds 9 { use with phase := .waitLoad, since := w.now } }
    (∀ x ∈ s.cmds, x.2.phase ≠ .waitLoad) ∧ (∀ x ∈ s.pvcs, ∀ y ∈ [x.2.stall], y = none) ∧ [ck0].find? (fun x => x.handle == 1 && x.loading) = some ck0 ∧
    ck0.loaded + 4 < ck0.gran ∧ ck0.gran ≤ ({ ck0 with loaded := 4 } : CodeKey).loaded + 4 ∧
    [{ ck0 with loading := false }].find? (fun x => x.handle == 1 && !x.loading) = some { ck0 with loading := false } ∧ use.codeKey = some 1 ∧ use.need = 0 ∧
    w.ks.codeKeys.any (fun k => k.loading) = false ∧ w.cmds.find? (fun c => c.2.phase == .waitLoad) = some (9, { use with phase := .waitLoad }) ∧
    evict s1.readsCode (granules 1) 61 [] = some [] ∧ [ck0].any (fun k => k.loading) = true ∧
    (withKey (obj0 7 0 (gen0 1 0 0 0)) use).genInUse 1 = true ∧ s.genInUse 2 = false := by decide +kernel

/-- KeyOperationsAtOnce: fields in order and not; staged generations; sessions. -/
theorem test_keyAtOnce_met :
    let c := fun (op : Nat) => cmdOf (descOf op 0 0 0 3 1 0 0 0 0 0)
    let z := fun (op ctx : Nat) => cmdOf (descOf op 0 0 0 ctx 0 0 0 0 0 0)
    let o := obj0 0x0C 0 (gen0 1 0 0 0)
    let st := { o with staged := some (gen0 2 0 0 0), verified := true }
    let q := obj0 0x0C 2 (gen0 1 0 0 0)
    let s := withKey st (c 0x0F33)
    MayStart s 9 (c 0x0F33) ∧ s.curveHolds (st.act.mat 1 st.attrs) = true ∧ s.curveHolds ((gen0 2 0 0 0).mat 1 st.stAttrs) = true ∧ leAt (c 0x0F33).desc 48 8 = 0 ∧ (c 0x0F33).h2 = 0 ∧ (c 0x0F33).h1 = 1 ∧ (c 0x0F33).inLen = 0 ∧ (c 0x0F33).auxLen = 0 ∧
    (c 0x0F33).cap = 0 ∧ s.resolve 0 1 [] = .key (st.act.mat 1 st.attrs) (some st) ∧ s.groupOf 1 = none ∧ s.committing 1 = false ∧ st.staged = some (gen0 2 0 0 0) ∧
    attrPersist st.attrs = false ∧ s.noDsk = false ∧ s.dskPending = false ∧ handleClass 1 = 0 ∧ attrQuorum q.attrs = true ∧ s.quorumOpen = false ∧ (z 0x0F41 0).h1 = 0 ∧
    (z 0x0F50 1023).ctx < (s.fn 0).ctx ∧ (s.fn 0).ctx ≤ (z 0x0F50 1024).ctx ∧ leAt (cmdOf (descOf 0x0F33 0 0 0 0 1 0 0 0 0 1)).desc 48 8 ≠ 0 ∧ (c 0x0F41).h1 ≠ 0 ∧
    (let b := cmdOf (descOf 0x0F70 0 0 0 0 0 0 0 0 0 (2 ^ 40 * 262144))
     leAt b.desc 48 5 = 0 ∧ leAt b.desc 53 3 = 262144 ∧ b.inAddr % 4096 = 0) ∧
    (let e := cmdOf (descOf 0x0F60 0 0 0 0 1 0 0 64 0 0)
     0 < (gen0 1 0 0 0).pub.length ∧ (gen0 1 0 0 0).pub.length ≤ e.cap ∧ (cmdOf (descOf 0x0F60 0 0 0 0 1 0 0 63 0 0)).cap < (gen0 1 0 0 0).pub.length ∧
       ((obj0 1 0 (gen0 1 0 0 0)).act.mat 1 (obj0 1 0 (gen0 1 0 0 0)).attrs).fam ≠ 0x0C) := by
  unfold MayStart Started
  decide +kernel

/-- ForeignKeysAreAbsent: a handle of function 1 in a command of PF0, for a key operation and for each algorithm operation's checks before step 5. -/
theorem test_foreign_met :
    handleFn (2 ^ 20 + 1) ≠ 0 ∧ (cmdOf (descOf 0x0F33 0 0 0 0 (2 ^ 20 + 1) 0 0 0 0 0)).h1 = 2 ^ 20 + 1 ∧
    (let c := cmdOf (descOf 0x0220 0 0 0 0 (2 ^ 20 + 1) 0 0 0 0 0)
     MayStart (withCmd c) 9 c ∧ hybLegs c.fam c.par = none ∧ algOpOk c.op = true ∧ c.op % 256 < 128 ∧ isCtxOp c.o = false ∧ ((withCmd c).noDsk && handleClass c.h1 == 1) = false ∧ c.h1 ≠ PUBLIC_IN_AUX ∧
       parOk c.fam c.o c.par (withCmd c).curveSpec = true ∧ byte48Ok c.fam c.o c.par (c.b 48) = true ∧ byte49Ok c.fam c.o (c.b 49) = true) := by
  unfold MayStart Started
  decide +kernel

/-! Witnesses: the digest engine. -/

/-- An open, resident SHA-256 context. -/
def dctx0 : Dctx where
  state := .opened
  alg := 1
  keyed := none
  gen := 0
  uid := 0
  total := none
  count := 0
  chainv := []
  part := []
  outer := []
  custom := false
  resident := true
  spillAt := 0
  used := 0

/-- DigestCommands: an earlier command on the context, checks that fail and pass, slots free, bytes to draw, an open context and none. -/
theorem test_digestCommands_met :
    let one := cmdOf (descOf 0x0C01 0 1 0 0 0 0 0 64 0 0)
    let upd := cmdOf (descOf 0x0C11 0 0 0 3 0 0 0 0 0 0)
    let rel := cmdOf (descOf 0x0C1A 0 0 0 4095 0 0 0 0 0 0)
    let s := withCmd upd
    let open_ : State := { s with dg := { s.dg with ctxs := [(3, dctx0)] } }
    MayStart s 9 upd ∧ upd.op = 0x0C11 ∧ s.dctxBusy 9 upd = false ∧ (s.setCmd 8 upd).dctxBusy 9 upd = true ∧
    fails ((withCmd upd).contVal { upd with desc := descOf 0x0C11 0 0 0 3 0 0 0 0 0 1 } noHost) St.BAD_FIELD ∧
    passes ((withCmd one).oneShotVal one noHost) (fun c => c.k1 == none && c.need == 0 && c.op == 0x0C01) ∧
    passes (open_.contVal upd noHost) (fun c => c.k1 == none && c.need == 0) ∧
    s.dctxOpen 0 3 = none ∧ open_.dctxOpen 0 3 = some dctx0 ∧ dctx0.resident = true ∧ s.slotsUsed < 1024 ∧ rel.op = 0x0C1A ∧ rel.ctx < 4096 ∧ rel.dgPlain = true ∧
    rel.par = 0 ∧ 4096 ≤ (cmdOf (descOf 0x0C1A 0 0 0 4096 0 0 0 0 0 0)).ctx ∧ ({ one with phase := .waitSlot } : Cmd).ownSlot = true ∧
    s.nrg.queue = [] ∧ s.nrgDown = false ∧
    ({ s with dg := { s.dg with ctxs := (List.range 1024).map (fun k => (k, dctx0)) } } : State).slotsUsed = 1024 := by
  unfold MayStart Started
  decide +kernel

/-- A MAC with the keyed-state cache's key at handle 1, on text of 10,000 bytes. -/
def macCmd : Cmd := { cmdOf (descOf 0x0C02 0 32 0 0 1 0 0 64 0 0) with
  k1 := some ((gen0 1 0 0 0).mat 1 (obj0 0x0C 0 (gen0 1 0 0 0)).attrs), phase := .running, inp := zeros 10000 }

/-- DigestCommands, the keyed-state cache: a command that reads it, one that does not, a slot that serves and none. -/
theorem test_ksc_met :
    let slot : KscSlot := ⟨1, 1, 32, [], [], 0⟩
    macCmd.k1.isSome = true ∧ macCmd.usesKsc = true ∧ ({ macCmd with k1 := none } : Cmd).usesKsc = false ∧
    [slot].any (fun x => x.serves macCmd) = true ∧ dev.dg.ksc.any (fun x => x.serves macCmd) = false ∧ dev.dg.ksc.length < 256 ∧
    [slot].find? (fun x => x.serves macCmd) = some slot := by decide +kernel

/-- DigestTurns: a turn on one pipeline and the second of two; a last turn and one before it; contexts and none; blobs that open are in the statement. -/
theorem test_digestTurns_met :
    let run := runOn 140 0 none
    let l1 : Leg := ⟨.dge, 1, [run], [140], none, [], []⟩
    let l2 := fun (r : RunResult) => (⟨.dge, 2, [runOn 132 0 (some r), run], [132, 140], none, [], []⟩ : Leg)
    let c := { cmdOf (descOf 0x0C01 0 1 0 0 0 0 0 64 0 0) with phase := .running, legs := [l1] }
    let long := { c with inp := zeros 10000 }
    let t := { dctx0 with total := some 5 }
    mget (withCmd c).cmds 9 = some c ∧ c.kern = false ∧ c.op / 256 = 0x0C ∧ c.legs = [l1] ∧ l1.decided = none ∧ run.unit = 140 ∧ run.res = none ∧ (dev.unit 140).retired = false ∧
    (dev.unit 140).corrupt = none ∧ l1.want = 1 ∧ (l2 (res0 1)).want = 2 ∧ (runOn 132 0 none).unit ≠ 140 ∧
    leAt c.note 0 4 + 1 < (withCmd long).dgTurns long ∧ (withCmd c).dgTurns c ≤ leAt c.note 0 4 + 1 ∧ c.op ≤ 0x0C10 ∧
    (∀ x ∈ (withCmd c).dg.ksc, x.serves c = false) ∧ c.aux.take (c.b 51) = [] ∧ t.total ≠ none ∧ t.total ≠ some (t.count + 0) ∧ dctx0.total = none ∧
    dctx0.keyed = none ∧ ({ withCmd c with dg := { dev.dg with ctxs := [(0, dctx0)] } } : State).dctxOpen 0 0 = some dctx0 ∧ (withCmd c).dctxOpen 0 0 = none ∧
    (∀ y ∈ dev.dg.saved, y.1 ≠ slice c.inp 44 32) ∧ (some (res0 1) : Option RunResult) = some (res0 1) ∧ (∀ l ∈ cmd0.legs, ∀ r ∈ l.runs, r.unit ≠ 140) ∧
    0 < (dgHash 1 false).rate := by decide +kernel

/-- DigestTurns: the first of two runs gave what this one gives, or something else. -/
theorem test_digestPair_met (s : State) (c : Cmd) :
    (runOn 132 0 (some (s.turnResult c))).res = some (s.turnResult c) ∧ ({ s.turnResult c with trap := (s.turnResult c).trap + 1 } : RunResult) ≠ s.turnResult c := by
  refine ⟨rfl, fun h => ?_⟩
  have := congrArg RunResult.trap h
  simp at this

/-- DigestTurns: a blob of a context that SAVE sealed opens again. -/
theorem test_openDctx_met : ∃ x, dev.openDctx 1 0 3 (dev.sealDctx 1 0 3 dctx0 (zeros 32)) = some x := by
  have hd : (dgHead 1 0 3 dctx0 (dev.saveEpochOf 0) (zeros 32)).length = 76 := rfl
  have hp : (dgPack dctx0).length = 916 := fixLen_length 916 _
  have hl := sealBytes_length (zeros 32) (dgHead 1 0 3 dctx0 (dev.saveEpochOf 0) (zeros 32)) (dgPack dctx0) "EBLOS-DGST"
  have ho := openBytes_sealBytes (zeros 32) (dgHead 1 0 3 dctx0 (dev.saveEpochOf 0) (zeros 32)) (dgPack dctx0) "EBLOS-DGST"
  rw [hp] at hl
  have hk : dev.ks.dsk = some (zeros 32) := rfl
  generalize he : sealBytes (zeros 32) (dgHead 1 0 3 dctx0 (dev.saveEpochOf 0) (zeros 32)) (dgPack dctx0) "EBLOS-DGST" = e at hl ho
  have hb : dev.sealDctx 1 0 3 dctx0 (zeros 32) = dgHead 1 0 3 dctx0 (dev.saveEpochOf 0) (zeros 32) ++ (e.1 ++ e.2) := by
    simp [State.sealDctx, hk, he]
  have h76 : (dev.sealDctx 1 0 3 dctx0 (zeros 32)).take 76 = dgHead 1 0 3 dctx0 (dev.saveEpochOf 0) (zeros 32) := by
    rw [hb, List.take_left' hd]
  have hc : slice (dev.sealDctx 1 0 3 dctx0 (zeros 32)) 76 916 = e.1 := by
    rw [slice, hb, List.drop_left' hd, List.take_left' hl.1]
  have ht : (dev.sealDctx 1 0 3 dctx0 (zeros 32)).drop 992 = e.2 := by
    rw [hb, ← List.append_assoc, List.drop_left' (by simp [hd, hl.1])]
  refine ⟨dgUnpack (dgHead 1 0 3 dctx0 (dev.saveEpochOf 0) (zeros 32)) (dgPack dctx0), ?_⟩
  unfold State.openDctx
  simp only [hk, h76, hc, ht, ho]
  rw [if_pos ⟨by simp [hb, hd, hl.1, hl.2], rfl, rfl, rfl, rfl⟩]
  rfl

/-! Witnesses: results, operand memory, check channels, the noise random generator. -/

/-- ReleasedResults: two decided legs that pass, one that fails, one leg; GENERATE with a free handle and beyond a quota. -/
theorem test_released_met :
    let legs := fun (l : List RunResult) => l.map (fun r => ({ leg0 with decided := some r } : Leg))
    let c := fun (op : Nat) (l : List RunResult) => { cmdOf (descOf op 0 1 0 0 1 0 0 0 0 0) with legs := legs l, k2 := some ((gen0 1 0 0 0).mat 1 []) }
    (c 0x1010 [res0 1, res0 2]).legs.map (·.decided) = [res0 1, res0 2].map some ∧ [{ res0 1 with status := 0x20 }].find? (fun x => x.status != 0) =
      some { res0 1 with status := 0x20 } ∧ (∀ r ∈ [res0 1, res0 2], r.status = 0) ∧ (c 0x1010 []).kern = false ∧ (res0 1).secret.length ≤ 128 ∧ isVerify (c 0x0228 []).o = true ∧ isSign (c 0x0220 []).o = true ∧
    (∀ op ∈ [0x0A30, 0x0940, 0x0941, 0x0110, 0x0112, 0x0111, 0x0113, 0x0A31, 0x1010, 0x0228, 0x0220], algOpOk op = true) ∧ (c 0x1010 []).o = 0x10 ∧
    (c 0x1010 []).k2.isSome = true ∧ (c 0x0A31 []).o = 0x31 ∧
    (let g := { c 0x0F01 [res0 1] with aux := (obj0 1 0 (gen0 1 0 0 0)).attrs }
     let s := withCmd g
     g.op = 0x0F01 ∧ s.quotaHit 0 0 true = 0 ∧ attrPersist g.aux = false ∧ s.sealState ≠ Seal.LOST ∧ s.freeHandle 0 = some 1 ∧ attrFam g.aux ≠ 0x07 ∧
       (s.setFn 0 { s.fn 0 with keyObj := 0 }).quotaHit 0 0 true ≠ 0) := by decide +kernel

/-- OperandMemoryAndChannels: lengths at the ends of their range and beyond, no partition, a small one; slots of each kind; channels on and off. -/
theorem test_opm_met :
    let c := fun (par : Nat) => cmdOf (descOf 0x0F88 0 par 0 0 0 0 0 0 0 0)
    let s := withCmd (c 32)
    let part : OpmPart := ⟨0, 32, false, [(1, ⟨false, 5, false⟩), (2, ⟨true, 0, false⟩)]⟩
    let o : State := { s with opm := [(0, part)] }
    MayStart s 9 (c 32) ∧ s.opmBusy 9 (c 32) = false ∧ (s.setCmd 8 (c 1)).opmBusy 9 (c 32) = true ∧ (c 32).par % 64 = 32 ∧ (c 32).par / 64 % 2 = 0 ∧
    ¬ (c 33).par % 64 ≤ 32 ∧ ¬ 1 ≤ (c 0).par % 64 ∧ 32 * 32 ≤ (s.fn 0).opm4k * 4096 ∧ (s.setFn 0 { s.fn 0 with opm4k := 0 }).fn 0 = { s.fn 0 with opm4k := 0 } ∧
    o.opmPart 0 = part ∧ part.slotLen % 4 = 0 ∧ 28 < part.slotLen ∧ (1023 + 1) * part.slotLen ≤ (s.fn 0).opm4k * 4096 ∧
    mget part.slots 1 = some ⟨false, 5, false⟩ ∧ mget part.slots 2 = some ⟨true, 0, false⟩ ∧ ({ part with sealed := true } : OpmPart).sealed = true ∧
    bitAt ((s.wr 0 (0x481000 + 0x40 * 63) 0x80000000).rd 0 (0x481000 + 0x40 * 63)) 31 = true ∧ bitAt (s.rd 0 (0x481000 + 0x40 * 63)) 31 = false ∧
    fld 0x80040000 18 16 = 4 ∧ bitAt (s.rd 0 (Reg.CHK_POLY_LO 63)) 0 = false ∧ bitAt ((s.wr 0 (Reg.CHK_POLY_LO 63) 1).rd 0 (Reg.CHK_POLY_LO 63)) 0 = true := by
  unfold MayStart Started
  decide +kernel

/-- NoiseGenerator: each state, groups up, lanes of both kinds, windows without samples and one of a cell that does not move, a start-up with
retries left and without, requests with and without their blocks, seeded expanders. -/
theorem test_noise_met :
    let run := dev.wrF Reg.NRG_STAT 1 0 1
    let start := dev.wrF Reg.NRG_STAT 1 0 0
    let req : NrgReq := ⟨2, 23, .cmd 9, 32, 0⟩
    let q : State := { (withCmd { cmdOf (descOf 0x0220 0 0 0 0 1 0 0 0 0 0) with need := 32 }) with nrg := { dev.nrg with queue := [req] } }
    let still := [(96, zeros 128)]
    let retry := fun (n : Nat) => ({ start with nrg := { dev.nrg with retries := [(3, n), (4, 0)] } } : State)
    fld ((dev.wrF Reg.NRG_STAT 1 0 2).rd 0 Reg.NRG_STAT) 1 0 = 2 ∧ 2 ≤ fld ((dev.wrF Reg.NRG_STAT 1 0 3).rd 0 Reg.NRG_STAT) 1 0 ∧
    fld (run.rd 0 Reg.NRG_STAT) 1 0 = 1 ∧ run.grpsUp ≠ [] ∧ run.nrg.discard = 0 ∧ run.nrg.pend.length < 1024 ∧ run.nrg.lanes = 3 ∧ run.nrg.queue = [] ∧
    bitAt (run.rd 0 Reg.FLT_CTRL) 7 = false ∧ run.cmds = [] ∧ (∀ g ∈ List.range 16, run.grpUp g = true ∧ run.windowTests [] g = []) ∧
    run.readyBlocks + run.nrg.pend.length ≤ 512 ∧ (run.fltSrc 246).active = false ∧ run.grpUp 3 = true ∧ 5 ≤ run.grpsUp.length ∧
    fld (run.rd 0 Reg.NRG_STAT) 15 14 < 2 ∧ run.windowTests still 3 = [(1, 0)] ++ [(2, 0)] ∧
    (∀ k ∈ List.range 16, k ≠ 3 → run.windowTests still k = []) ∧ fld (start.rd 0 Reg.NRG_STAT) 1 0 = 0 ∧ mget (retry 2).nrg.retries 3 = some 2 ∧
    (mget (retry 3).nrg.retries 4).isSome = true ∧ (retry 3).windowTests still 3 ≠ [] ∧ (retry 3).windowTests [] 3 = [] ∧
    fld ((retry 3).rd 0 (Reg.NRG_GRP 3)) 31 30 ≠ 3 ∧ mget (retry 3).nrg.retries 5 = none ∧
    q.nrg.queue = req :: [] ∧ (∀ x ∈ [⟨2, 23, .chunk 8, 64, 0⟩], NrgReq.before x req = false) ∧ (mget q.cmds 9).map (·.need) = some req.left ∧
    ({ run.nrg with lanes := 2 } : Nrg).lanes ≠ 3 ∧ 0 < ({ run.nrg with discard := 16 } : Nrg).discard ∧ (req.left + 31) / 32 ≤ q.nrg.ready.length ∧
    (∀ b ∈ q.nrg.ready, b.length = 32) ∧ ({ q.nrg with ready := [] } : Nrg).ready.length < (req.left + 31) / 32 ∧
    (∃ r ∈ q.nrg.queue, r.who = .cmd 9) ∧ (∀ r ∈ q.nrg.queue, r.who ≠ .chunk 9) ∧ dev.nrg.queue = [] ∧ 20 ∈ dev.nrg.seeded ∧ 22 ∉ State.reset.nrg.seeded ∧
    (∀ u ∈ unitsFed 20, dev.runsOn u = []) := by decide +kernel

/-- NoiseGenerator, RAW_CAPTURE: a request in order in TEST_OPEN, one of too few bits, a capture of its group under way. -/
theorem test_raw_met :
    let c := fun (n : Nat) => cmdOf (descOf 0x0E20 0 0 0 0 0 0 0 128 0 (n * 2 ^ 32))
    let s : State := { (withCmd (c 1024)).wrF Reg.NRG_STAT 1 0 1 with lc := { dev.lc with slots := [2 ^ 32 - 1], testOpen := true } }
    let r := s.setCmd 8 { c 1024 with phase := .running }
    MayStart s 9 (c 1024) ∧ (c 1024).op = 0x0E20 ∧ fails (s.rawVal (c 1016) noHost) St.BAD_FIELD ∧ s.lcc = Lc.TEST_OPEN ∧ passes (s.rawVal (c 1024) noHost) (fun _ => true) ∧
    s.captured (c 1024).par = false ∧ r.captured (c 1024).par = true ∧ (mget r.cmds 8).map (·.phase) = some .running ∧
    (cmdOf (descOf 0x0E20 0 0 0 0 0 0 0 128 0 (1024 * 2 ^ 32 + 2 ^ 16))).b 50 = 1 ∧ leAt (c 1024).desc 48 2 ≠ 0xFFFF := by
  unfold MayStart Started
  decide +kernel

/-- NoiseGenerator, the samples of a block: one cell and its samples. -/
theorem test_blockSamples_met : 575 < 576 ∧ [0, 1] ≠ ([] : List Nat) := by decide

/-! Witnesses: the VF manager. -/

/-- Two VFs enabled. -/
def vfs : State := { dev with link := { dev.link with vfEnable := true, numVfs := 2 } }

/-- Allotments: selections at both sides of 2,048, groups that pass and fail, busy and quiescing, a change of dedicated clusters under way. -/
theorem test_allotments_met :
    let s := vfs.wr 0 Reg.VFM_SEL 1
    let d := s.setCluster 0 { s.cluster 0 with owner := some 1, draining := some 1 }
    let r := (d.setUnit 0 { d.unit 0 with busy := some 9, fn := 2 }).setCmd 9 { legCmd { leg0 with runs := [runOn 0 0 none] } with fn := 2 }
    fld 2047 11 0 < 2048 ∧ 2048 ≤ fld 0xFFF 11 0 ∧ fld (s.rd 0 Reg.VFM_SEL) 11 0 = 1 ∧ bitAt (s.rd 0 Reg.VFM_APPLY_STAT) 0 = false ∧
    bitAt ((s.wr 0 Reg.VFM_APPLY_STAT 1).rd 0 Reg.VFM_APPLY_STAT) 0 = true ∧ (s.fn 1).quiescing = false ∧
    ((s.setFn 1 { s.fn 1 with quiescing := true }).fn 1).quiescing = true ∧ (∀ c ∈ s.clusters, c.2.draining = none) ∧
    (let t := ((((s.wr 0 Reg.VFM_ST_ALLOT 0x100021).wr 0 Reg.VFM_ST_CTX 16).wr 0 Reg.VFM_ST_INFLIGHT 64).wr 0 Reg.VFM_ST_KEY 0).wr 0 Reg.VFM_ST_CLUSTERS 7
     (∀ k ∈ [1, 2, 3, 4, 5, 6, 7], t.checkGroup 1 k = 0) ∧ fld (t.rd 0 Reg.VFM_ST_OPM) 8 0 = 0 ∧
       fld ((t.wr 0 Reg.VFM_ST_OPM 1).rd 0 Reg.VFM_ST_OPM) 8 0 = 1 ∧ (t.wr 0 Reg.VFM_ST_OPM 1).checkGroup 1 6 = 0 ∧ (t.fn 1).opm4k ≠ 1) ∧
    (s.wr 0 Reg.VFM_ST_INFLIGHT 0x7FFF).checkGroup 1 3 ≠ 0 ∧ (d.cluster 0).draining = some 1 ∧ (∀ c ∈ List.range 12, d.drained c = true) ∧ d.link.flrAfter = [] ∧
    (r.unit 0).busy ≠ none ∧ (r.unit 0).fn ≠ 1 ∧ r.runsOn 0 ≠ [] ∧ s.link.vfEnable = true ∧ dev.link.vfEnable = false := by decide +kernel

/-- FunctionResets: a calm VF, one of each stage, PF0 in reset, a function that is not enabled. -/
theorem test_resets_met :
    let s := vfs
    let f := fun (n : Nat) (g : Fn → Fn) => s.setFn n (g (s.fn n))
    (∀ c ∈ s.clusters, c.2.draining = none) ∧ s.enabled 2 = true ∧ s.enabled 3 = false ∧ (s.fn 2).quiescing = false ∧ (s.fn 2).quiesced = false ∧ (s.fn 2).flr = false ∧
    (∀ m ∈ s.mbx, ¬ (m.2.started = true ∧ m.2.code = 0x0201 ∧ leAt m.2.inl 0 2 = 2)) ∧ fld 2 11 0 = 2 ∧ bitAt 2 30 = false ∧ bitAt 2 31 = false ∧
    ((f 2 (fun g => { g with flr := true, quiescing := true })).fn 2).flr = true ∧ ((f 0 (fun g => { g with flr := true })).fn 0).flr = true ∧
    ((f 2 (fun g => { g with quiescing := true })).fn 2).quiescing = true ∧ ((f 2 (fun g => { g with quiesced := true })).fn 2).quiesced = true ∧
    (f 2 (fun g => { g with quiesced := true })).enabled 2 = true ∧ (s.fn 0).quiescing = false ∧ s.link.flrAfter = [] ∧ (∀ m ∈ s.mbx, m.2.started = false) ∧ s.applying 2 = false ∧
    (s.setCluster 0 { s.cluster 0 with owner := some 2, draining := some 2 }).applying 2 = true ∧ keysRise s.cmds = true ∧ s.fab.commits = [] ∧ s.link.vfEnable = true ∧
    dev.link.vfEnable = false := by decide +kernel

/-! Witnesses: mailboxes. -/

/-- A request with EXT and REXT as bits 0 and 1 of `ext`, and its inline payload. -/
def reqOf (code ext : Nat) (l : List Byte) : MbxReq where
  words := [BitVec.ofNat 32 code, BitVec.ofNat 32 (l.length + ext * 65536)] ++
    (List.range 14).map (fun i => BitVec.ofNat 32 (leAt (fixLen 56 l) (4 * i) 4))
  reqAddr := 0x4000
  reqLen := 2592
  respAddr := 0x5000
  respCap := 4096
  started := false
  commit := false
  noBuf := false
  rand := []

/-- The device with a request accepted on channel 0 of PF0. -/
def withReq (r : MbxReq) : State := { dev with mbx := [(0, r)] }

/-- The same with key objects, in a seal state. -/
def withReqKeys (r : MbxReq) (objs : List (Nat × KeyObj)) (st : Nat) : State :=
  ({ withReq r with ks := { dev.ks with objs := objs } }).wrF Reg.KST_STAT 5 4 st

/-- MailboxProtocol: served and not; idle, BUSY, DONE; a code a VF may not use; a request in order and one that is not; each cancellable code;
records of this request, of another and none; a fenced function. -/
theorem test_mailbox_met :
    let go := (dev.mwr 0 3 0x100 0x0100)
    let bad := (dev.mwr 0 3 0x100 0x9999)
    let vf := vfs.mwr 2 0 0x100 0x0700
    mbxChan 0 3 = true ∧ mbxChan 2 0 = true ∧ State.reset.served 0 0 = false ∧ go.served 0 3 = true ∧ go.mstat 0 3 1 = false ∧ go.mstat 0 3 2 = false ∧
    go.mbxCheck 0 (go.mbxCopy 0 3) = 0 ∧ bad.mbxCheck 0 (bad.mbxCopy 0 3) ≠ 0 ∧ vf.served 2 0 = true ∧
    (vf.mbxCopy 2 0).code ∉ [0x0100, 0x0103, 0x0200, 0x0300, 0x0301, 0x0403, 0x0500, 0x0501, 0x0502] ∧ (go.setMstat 0 3 1 true).mstat 0 3 1 = true ∧
    (go.setMstat 0 3 2 true).mstat 0 3 2 = true ∧ mget go.mbx (mbxKey 0 3) = none ∧ mget (withReq (reqOf 0x0802 0 [])).mbx (mbxKey 0 0) = some (reqOf 0x0802 0 []) ∧
    (∀ k ∈ [0x0802, 0x0900, 0x0902, 0x0903, 0x0A00], (reqOf k 0 []).code = k ∧ (reqOf k 0 []).started = false) ∧ (reqOf 0x0700 0 []).code = 0x0700 ∧
    (go.vecMasked 0 1 = true ∧ State.vecMasked { go with link := { go.link with msix := [(28, 0)] } } 0 1 = false) ∧
    ({ reqOf 0x0802 0 [] with started := true } : MbxReq).started = true ∧ ({ reqOf 0x0700 0 [] with commit := true } : MbxReq).commit = true ∧
    (let o : Option Nat → Outcome := fun w => ⟨7, 1, 0, [], 0, w⟩
     (o (some (mbxKey 0 0))).owner = some (mbxKey 0 0) ∧ (o (some 5)).owner ≠ some (mbxKey 0 0) ∧ mget dev.outcomes 0x0700 = none) ∧
    go.fenced 0 = false ∧ (vfs.setFn 2 { vfs.fn 2 with quiescing := true }).fenced 2 = true := by decide +kernel

/-- Every statement on a mailbox command: each code accepted on channel 0 of PF0. -/
theorem test_accepted_met (code : Nat) (h : code ∈ mbxCodes.map (·.code)) : Accepted (withReq (reqOf code 3 (zeros 52))) 0 0 code (reqOf code 3 (zeros 52)) := by
  have k : ∀ c ∈ mbxCodes.map (·.code), (reqOf c 3 (zeros 52)).code = c := by decide +kernel
  exact ⟨rfl, k code h, rfl⟩

/-- MailboxReports: payloads at the ends of their lengths, records present and absent, a loaded configuration, pages of the logs. -/
theorem test_reports_met :
    let o : Outcome := ⟨7, 2, 0, zeros 40, 0, none⟩
    let s := { withReq (reqOf 0x0103 0 (natLE 2 0x0700)) with outcomes := [(0x0700, o)] }
    let l := { dev.boot with sillage := [zeros 64, zeros 64], cfgLoaded := some 1 }
    (reqOf 0x0103 0 (natLE 2 0x0700)).inl.length = 2 ∧ (reqOf 0x0103 0 [0]).inl.length < 2 ∧ mget s.outcomes (0 * 65536 + leAt (natLE 2 0x0700) 0 2) = some o ∧
    mget dev.outcomes (0x0700) = none ∧ dev.boot.cfgLoaded = none ∧ l.cfgLoaded = some 1 ∧ (reqOf 0x0101 2 []).rext = true ∧ (reqOf 0x0101 0 []).rext = false ∧
    2048 ≤ leAt (reqOf 0x0200 0 (natLE 2 2048)).inl 0 2 ∧ leAt (reqOf 0x0300 0 (natLE 2 2047)).inl 0 2 < 2048 ∧
    (let q := reqOf 0x0501 0 (natLE 2 0 ++ natLE 2 2)
     4 ≤ q.inl.length ∧ 0 < leAt q.inl 2 2 ∧ leAt q.inl 0 2 + leAt q.inl 2 2 ≤ l.sillage.length) ∧
    l.sillage.length < leAt (reqOf 0x0501 0 (natLE 2 1 ++ natLE 2 2)).inl 0 2 + leAt (reqOf 0x0501 0 (natLE 2 1 ++ natLE 2 2)).inl 2 2 ∧
    (reqOf 0x0500 0 (zeros 8)).ext = false ∧ (reqOf 0x0500 0 (zeros 8)).inl.length = 8 ∧ (reqOf 0x0500 0 (zeros 7)).inl.length < 8 ∧
    (let a := reqOf 0x0500 1 []
     let p := natLE 2 0 ++ natLE 2 1 ++ natLE 4 1 ++ zeros 8
     let k := { dev with ks := { dev.ks with objs := [(1, obj0 1 0 (gen0 1 0 0 0))] } }
     a.ext = true ∧ dev.nrgDown = false ∧ (dev.wrF Reg.NRG_STAT 1 0 2).nrgDown = true ∧ dev.nrg.queue = [] ∧ a.rand.length < 88 ∧
       88 ≤ ({ a with rand := zeros 88 } : MbxReq).rand.length ∧ 16 ≤ a.reqLen ∧ ({ a with reqLen := 16 } : MbxReq).reqLen ≤ 72 ∧ leAt p 2 1 = 1 ∧ leAt p 4 4 = 1 ∧ dev.noDsk = false ∧ handleClass 1 ≠ 1 ∧
       k.resolve 0 1 [(handleIdx 1, [])] = .key ((gen0 1 0 0 0).mat 1 (obj0 1 0 (gen0 1 0 0 0)).attrs) (some (obj0 1 0 (gen0 1 0 0 0))) ∧
       k.curveHolds ((gen0 1 0 0 0).mat 1 (obj0 1 0 (gen0 1 0 0 0)).attrs) = true) ∧
    (let q := reqOf 0x0702 2 (natLE 4 1 ++ [64])
     5 ≤ q.inl.length ∧ 1 ≤ leAt q.inl 4 1 ∧ leAt q.inl 4 1 ≤ 64) ∧ 64 < leAt (reqOf 0x0702 2 (natLE 4 1 ++ [65])).inl 4 1 := by decide +kernel

/-- KeyAdministration: flagged keys with and without a session, policies that are looser and not, blocks at both ends, each seal state. -/
theorem test_keyAdmin_met :
    let q := obj0 0x0C 2 (gen0 1 0 0 0)
    let p := obj0 0x0C 0 (gen0 1 0 0 0)
    let st := obj0 5 0 (gen0 1 0 4 9)
    let w := fun (sub h x y : Nat) => reqOf 0x0302 0 (natLE 4 sub ++ natLE 4 h ++ [BitVec.ofNat 8 x, BitVec.ofNat 8 y])
    (∃ x ∈ (withReqKeys (reqOf 0x0301 0 [0, 0]) [(1, q)] 1).ks.objs, handleFn x.1 = 0 ∧ attrQuorum x.2.attrs = true) ∧
    (withReqKeys (reqOf 0x0301 0 [0, 0]) [(1, q)] 1).quorumOpen = false ∧ ¬ (∃ x ∈ (withReqKeys (reqOf 0x0301 0 [0, 0]) [(1, p)] 1).ks.objs, attrQuorum x.2.attrs = true) ∧
    (let s := withReqKeys (w 1 1 2 0) [(1, p)] 1
     s.pfObj 1 = some p ∧ p.unsealed = true ∧ p.attrs.length = 32 ∧ leAt (w 1 1 2 0).inl 0 1 = 1 ∧ leAt (w 1 1 2 0).inl 8 1 = 2 ∧ attrPolicy p.attrs = 2 ∧
       s.pfObj 2 = none) ∧ (attrQuorum q.attrs = true ∧ leAt (w 1 1 2 0).inl 9 1 = 0) ∧
    (6 ≤ leAt (w 2 0 6 0).inl 8 1 ∧ leAt (w 2 0 16 0).inl 8 1 ≤ 16 ∧ leAt (w 2 0 5 0).inl 8 1 < 6 ∧ 16 < leAt (w 2 0 17 0).inl 8 1 ∧ leAt (w 2 0 6 0).inl 4 4 = 0) ∧
    isStateful (attrFam st.attrs) = true ∧ isStateful (attrFam p.attrs) = false ∧ (withReqKeys (w 2 1 6 0) [(1, st)] 1).pfObj 1 = some st ∧
    (withReqKeys (w 3 0 0 0) [] 2).sealState = Seal.LOST ∧ (withReqKeys (w 3 0 0 0) [] 1).sealState ≠ Seal.LOST ∧
    bitAt ((withReqKeys (w 3 0 0 0) [] 2).rd 0 Reg.TMP_STAT) 1 = false ∧ bitAt (((withReqKeys (w 3 0 0 0) [] 2).wr 0 Reg.TMP_STAT 2).rd 0 Reg.TMP_STAT) 1 = true ∧ leAt (w 3 0 0 0).inl 0 1 = 3 ∧
    (16 ≤ leAt (w 4 0 16 0).inl 8 2 ∧ leAt (w 4 0 0 1).inl 8 2 = 256) ∧ dev.ks.ckFlash = [] ∧ ({ dev.ks with ckFlash := [1] } : KeyStore).ckFlash ≠ [] := by
  decide +kernel

/-- An image of an owner kernel: 4 bytes of code, one parameter entry, no windows, a trailer with a signature of zeros. -/
def image0 : List Byte :=
  let body := ascii "EBKN" ++ [1, 1] ++ natLE 2 0x8000 ++ natLE 4 (128 + 16 + 4 + 28 + 4627) ++ natLE 4 4 ++ natLE 4 0 ++ natLE 4 0xFFFFFFFF ++ natLE 4 0 ++
    natLE 4 0 ++ natLE 4 0 ++ [0, 1, 0, 0] ++ natLE 4 0 ++ natLE 4 1 ++ natLE 4 1 ++ natLE 4 0 ++ zeros 40 ++ zeros 32 ++ zeros 16 ++ zeros 4
  body ++ ascii "EBKS" ++ [1] ++ zeros 3 ++ zeros 16 ++ natLE 4 4627 ++ zeros 4627

/-- KernelManagement: an image in order, unsigned, an older one, no room, a full log; kernels current, in use and unloaded; grants; signer slots. -/
theorem test_kernels_met :
    let o := { kern with kind := 1, svn := 1 }
    let r := { reqOf 0x0400 1 [] with reqLen := image0.length }
    let s := withReq r
    let two := { s with kernels := [o, { o with opcode := 0x8001, current := false }] }
    let g := reqOf 0x0402 0 ([1, 0] ++ natLE 2 0x8000 ++ natLE 2 2047)
    r.ext = true ∧ imageOk (r.payload image0) = true ∧ imageOk [] = false ∧ s.imageSigned image0 = false ∧ leAt image0 36 1 < o.svn ∧
    s.freeTwiddles 0x8000 1 0 = some [] ∧ s.cacheTakes 0x8000 1 (kernelOfImage image0 false none []).cached = true ∧ s.boot.sillage.length < 4096 ∧
    two.ownerKernel 0x8000 = some o ∧ two.ownerKernel 0x8002 = none ∧ leAt g.inl 2 2 = 0x8000 ∧ leAt g.inl 4 2 = 2047 ∧ 6 ≤ g.inl.length ∧
    leAt (reqOf 0x0402 0 ([1, 0] ++ natLE 2 0x8000 ++ natLE 2 0xFFFF)).inl 4 2 = 0xFFFF ∧
    ({ two with mbx := [(0, { reqOf 0x0401 0 (natLE 2 0x8001) with started := true })] } : State).mbx.find?
      (fun x => x.2.started && x.2.code == 0x0401 && leAt x.2.inl 0 2 == 0x8001) = some (0, { reqOf 0x0401 0 (natLE 2 0x8001) with started := true }) ∧
    (two.kernels.any (fun k => k.opcode == 0x8000 && k.persist) = false ∧ ({ o with persist := true } : Kernel).persist = true) ∧
    two.kernelUsed { o with opcode := 0x8001, current := false } = false ∧ s.signerQuorum = false ∧
    (let t := reqOf 0x0402 1 [0x10, 3]
     t.reqLen = 2592 ∧ leAt t.inl 0 1 = 0x10 ∧ leAt t.inl 1 1 = 3) ∧
    vfs.enabled 2 = true ∧ (vfs.fn 2).quiesced = false ∧ leAt (reqOf 0x0201 0 (natLE 2 2)).inl 0 2 = 2 := by decide +kernel

/-- KernelManagement, the session that SIGNER_SET needs: in DEPLOYED a quorum session in force with that purpose; the key then fits. -/
theorem test_signers_met :
    let q : Quorum := ⟨true, 0xFF, 60, 60, [], false, [], 0, [], 0⟩
    let s := { withReq (reqOf 0x0402 1 [0x10, 3]) with cards := { dev.cards with quorum := some q } }
    s.signerQuorum = true ∧ (match (s.clearSigner 3).newObj 0 signerAttrs [] (zeros 2592) with | .ok _ => true | .error _ => false) = true := by decide +kernel

/-! Witnesses: firmware, boot, life cycle. -/

/-- The device in a boot stage, its bank B in a state. -/
def booting (st : Stage) (b : FwState) : State :=
  { dev with boot := { dev.boot with stage := st, banks := [.blank, { FwBank.blank with state := b }] } }

/-- FirmwareAndBoot, banks: chunks at both ends, each state of a bank, a trial that runs. -/
theorem test_firmware_met :
    let s := booting .ready .staged
    let run := { s with boot := { s.boot with trial := true, banks := [{ FwBank.blank with state := .trial }, .blank] } }
    let conf := { s with boot := { s.boot with banks := [{ FwBank.blank with state := .confirmed }, .blank] } }
    let r := { reqOf 0x0A00 1 (natLE 4 (32 * 2 ^ 20 - 64)) with reqLen := 64 }
    s.boot.banks.length = 2 ∧ s.boot.bank ≤ 1 ∧ r.ext = true ∧ 4 ≤ r.inl.length ∧ leAt r.inl 0 4 + r.reqLen = 32 * 2 ^ 20 ∧
    32 * 2 ^ 20 < leAt r.inl 0 4 + ({ r with reqLen := 65 } : MbxReq).reqLen ∧ (s.bank 1).state = .staged ∧ (dev.bank 1).state ≠ .staged ∧
    run.boot.trial = true ∧ (run.bank run.boot.bank).state = .trial ∧ s.boot.trial = false ∧ (conf.bank conf.boot.bank).state = .confirmed ∧
    conf.boot.pushed = false ∧ (s.bank s.boot.bank).state ≠ .confirmed ∧ ({ run with boot := { run.boot with stage := .firmware } } : State).boot.stage = .firmware := by
  decide +kernel

/-- FirmwareAndBoot, the signature's answer is uninterpreted (log entry 16): with either one, VERIFY and KINDLING_LOAD go their way. -/
theorem test_fwCheck_met (img : List Byte) :
    (Config.fwSigned img = false → dev.fwCheck img ≠ 0) ∧ (Config.fwSigned img = true → dev.fwCheck img = 0) := by
  have h : dev.lc.minSvn = 0 := rfl
  refine ⟨fun k => ?_, fun k => ?_⟩
  · simp [State.fwCheck, k, AUTH_FAILED]
  · simp [State.fwCheck, k, h]

/-- FirmwareAndBoot, Hearth and the boot: a pair in step, resynchronising, retired; expiries near and far; Kindling with and without power. -/
theorem test_boot_met :
    let sb := fun (n : Nat) => dev.wrF Reg.HRT_STAT 3 2 n
    let ex := { dev with boot := { dev.boot with dispExp := some 0 }, now := 10 ^ 9 + 1 }
    let k : State := { booting .kindling .invalid with pwr := { dev.pwr with powered := [164] } }
    dev.hearthRuns = true ∧ State.reset.hearthRuns = false ∧ (sb Sb.SYNC).standby = Sb.SYNC ∧ (sb Sb.RESYNC).standby = Sb.RESYNC ∧
    (sb Sb.RETIRED).standby ≠ Sb.SYNC ∧ dev.boot.dispExp = none ∧ 10 ^ 9 < ex.now - 0 ∧ ({ ex with now := 10 ^ 9 } : State).now - 0 ≤ 10 ^ 9 ∧
    k.pwr.vin = true ∧ k.boot.stage = .kindling ∧ 164 ∈ k.pwr.powered ∧ 164 ∉ State.reset.pwr.powered ∧ (booting .firmware .invalid).boot.stage = .firmware ∧
    (booting .firmware .invalid).cfgPick = none ∧ (booting .firmware .invalid).boot.newState = false ∧
    (booting .firmware .invalid).boot.steps = false ∧ ({ dev.boot with steps := true } : Boot).steps = true ∧ dev.lc.code ≠ Lc.SCRAP ∧
    (booting .firmware .invalid).testsDone = true ∧ State.testsDone { booting .firmware .invalid with pwr := { dev.pwr with powered := [136] }, units := [] } = false ∧
    (let b := withKey { obj0 1 1 (gen0 1 0 0 0) with unsealed := false } cmd0
     b.sealState = Seal.NORMAL ∧ ∃ o ∈ b.ks.objs, o.2.unsealed = false) ∧
    ({ dev.boot with newState := true } : Boot).newState = true ∧ dev.sealState = Seal.UNSEALING ∧ dev.noDskState = false ∧ keysRise dev.ks.flash = true ∧
    (let u := { dev with pwr := { dev.pwr with powered := [136] }, units := [] }
     feedOf 229 ∈ u.pwr.powered ∧ (u.unit 229).service = false ∧ (u.unit 229).retired = false ∧ (u.unit 229).selftest = false ∧ u.lc.code ≠ Lc.SCRAP) ∧
    (let c := { dev with boot := { dev.boot with curveNew := [(0, [])] } }
     mget c.boot.curveNew 0 = some [] ∧ mget c.curves 0 = none ∧ mget dev.boot.curveNew 0 = none ∧ c.curveTurn 0 [] = true ∧ State.curveTurn { c with units := [], boot := { dev.boot with curveNew := [(0, [1])] } } 0 [1] = false ∧ (∀ x ∈ c.cmds, x.2.onCurveIdx 0 = false)) ∧
    (legCmd leg0 |> fun c => ({ c with desc := descOf 0x0A30 0 0x80 0 0 1 0 0 0 0 0 } : Cmd)).op = 0x0A30 ∧ dev.boot.cfgBanks.length = 2 ∧
    (reqOf 0x0102 1 []).ext = true ∧ dev.pushCheck [] ≠ 0 := by decide +kernel

/-- LifeCycleAndDebug, blocks: lengths, states, nonces, keys and permitted targets; a spent token and a fresh one. -/
theorem test_lifeCycle_met :
    let n : Nonce := ⟨zeros 32, 0⟩
    let lc := fun (f : LifeCycle → LifeCycle) => ({ dev with lc := f dev.lc } : State)
    (reqOf 0x0600 1 []).ext = true ∧ ((reqOf 0x0600 1 []).payload (zeros 112)).length = 2592 ∧ (lc (fun l => { l with block := [0] })).lc.block ≠ [] ∧
    dev.lc.block = [] ∧ dev.lc.code = Lc.DEPLOYED ∧ dev.lc.code ≠ Lc.LOCKED_INVALID ∧ dev.transBlockOk (zeros 112) = false ∧
    namesNonce dev.lc.nonceLc (zeros 32) = false ∧ namesNonce dev.lc.nonceDbg (zeros 32) = false ∧ namesNonce (some n) (zeros 32) = true ∧ dev.nonceOk (some n) (zeros 32) = true ∧
    lcPermitted Lc.DEPLOYED Lc.TEST = false ∧ lcPermitted Lc.DEPLOYED Lc.ANALYSIS = true ∧ lcPermitted Lc.DEPLOYED Lc.SCRAP = true ∧
    lcNeedsQuorum Lc.DEPLOYED Lc.ANALYSIS 0 = true ∧ lcNeedsQuorum Lc.DEPLOYED Lc.SCRAP 0 = false ∧ dev.quorumFor 5 = false ∧
    (lc (fun l => { l with slots := [0xFFFFFFFF, 0x0000FFFF, 0, 0, 0] })).lc.code = Lc.LOCKED_INVALID ∧
    (lc (fun l => { l with slots := [0xFFFFFFFF, 0, 0, 0, 0] })).lc.code = Lc.TEST ∧ dev.lc.markers.getD 23 0 = 0 ∧
    (dev.lc.markers.set 23 15).getD 23 0 ≠ 0 ∧ dev.lc.hashes.getD 23 [] = zeros 16 := by decide +kernel

/-- LifeCycleAndDebug: a block whose identity and signature the uninterpreted parts accept (log entry 4) passes; its identity has its place. -/
theorem test_genuine_met (id v : List Byte) (hi : id.length = 32) (hv : v.length = 32) :
    let b := ascii "EBLA" ++ [0, 0x33, 1, 1, 1, 0] ++ zeros 6 ++ id ++ v ++ zeros 32 ++ zeros 5261
    b.length = 5373 ∧ b.take 4 = ascii "EBLA" ∧ slice b 16 32 = id ∧ slice b 48 32 = v ∧ slice b 80 32 = zeros 32 ∧ leAt b 8 2 = 1 ∧ leAt b 5 1 = Lc.DEPLOYED := by
  obtain ⟨w, hw⟩ : ∃ w, w = zeros 5261 := ⟨_, rfl⟩
  have hl : (zeros 5261).length = 5261 := List.length_replicate
  rw [← hw] at hl ⊢
  simp only [slice, leAt]
  refine ⟨?_, ?_, ?_, ?_, ?_, rfl, rfl⟩ <;> simp [ascii, zeros, hi, hv, hl, List.drop_append, List.take_append]

/-- LifeCycleAndDebug, challenges and sessions: each purpose, with and without its bytes, minutes at both ends, scopes, SCRAP, the key of the
write that ends a session. -/
theorem test_debug_met :
    leAt (reqOf 0x0601 0 [0]).inl 0 1 = 0 ∧ leAt (reqOf 0x0601 0 [1]).inl 0 1 = 1 ∧ 1 < leAt (reqOf 0x0601 0 [2]).inl 0 1 ∧
    (reqOf 0x0601 0 [0]).rand.length < 32 ∧ 32 ≤ ({ reqOf 0x0601 0 [0] with rand := zeros 32 } : MbxReq).rand.length ∧ dev.nrgDown = false ∧
    (dev.wrF Reg.NRG_STAT 1 0 2).nrgDown = true ∧ dev.nrg.queue = [] ∧
    ({ dev with lc := { dev.lc with slots := List.replicate 5 0xFFFFFFFF } } : State).lc.code = Lc.SCRAP ∧
    dev.lc.code ∉ [Lc.LOCKED_INVALID, Lc.TEST_OPEN, Lc.BLANK] ∧ 1 &&& (255 - dev.grantable 1) = 0 ∧ (0x10).testBit 4 = true ∧
    (0x30) &&& (255 - ({ dev with lc := { dev.lc with slots := [0xFFFFFFFF, 0, 0, 0, 0] } } : State).grantable 1) = 0 ∧
    fld 0x71440001 31 16 = 0x7144 ∧ bitAt 0x71440001 0 = true ∧ fld 0x71450001 31 16 ≠ 0x7144 ∧ bitAt 0x71440000 0 = false := by decide +kernel

/-! Witnesses: fabric. -/

/-- A fabric that is on, with port 0 in a state, one peer, a group of two. -/
def fabOf (port : Nat) (sh : Shaker) : State :=
  ({ dev with
    pwr := { dev.pwr with powered := [138, 154, 155] }
    fab := { dev.fab with
      cfg := List.replicate 16 1 ++ [1, 0] ++ zeros 30
      ports := [(0, { WPort.fresh with sh := sh })]
      peers := [⟨[1], none, none, false, none, { Shaker.idle with stage := .done }, false, []⟩]
      groups := [(5, ⟨[[1], [2]], 0, [[1], [2]]⟩)] } }).wrF (Reg.FAB_PORT 0) 31 29 port

/-- FabricManagement: off and on, each subcommand's payload, groups known and not, a key that may be added, SEALED-LOST. -/
theorem test_fabricManagement_met :
    let s := fabOf Ps.UP .idle
    let r := fun (code sub : Nat) (l : List Byte) => reqOf code 1 (natLE 4 sub ++ l)
    dev.fabOn = false ∧ s.fabOn = true ∧ (∀ k ∈ [1, 2, 3], leAt (r 0x0800 k []).inl 0 1 = k) ∧ (∀ k ∈ [1, 2, 3, 4, 5], leAt (r 0x0801 k []).inl 0 1 = k) ∧
    leAt (r 0x0800 1 (natLE 2 2047 ++ [1])).inl 4 2 < 2048 ∧ leAt (r 0x0800 1 (natLE 2 2047 ++ [1])).inl 6 1 ≤ 1 ∧ 2048 ≤ leAt (r 0x0800 1 (natLE 2 2048 ++ [1])).inl 4 2 ∧
    s.nrgDown = false ∧ s.fab.spilled = [] ∧ s.fab.commits = [] ∧ s.fab.remote = [] ∧ s.portState 0 = Ps.UP ∧ mget s.fab.groups 5 = some ⟨[[1], [2]], 0, [[1], [2]]⟩ ∧ mget s.fab.groups 6 = none ∧ s.fab.groups.length < 64 ∧
    Group.whole ⟨[[1], [2]], 0, [[1], [2]]⟩ = true ∧ Group.whole ⟨[[1], [2]], 0, [[1]]⟩ = false ∧ s.fab.adding = none ∧ s.sealState ≠ Seal.LOST ∧
    (s.wrF Reg.KST_STAT 5 4 2).sealState = Seal.LOST ∧ s.rdB Reg.TMP_STAT 1 = false ∧ s.fab.restore = none ∧ leAt (r 0x0801 3 (natLE 4 5 ++ natLE 4 1)).inl 8 4 = 1 ∧
    (let o := obj0 1 0 (gen0 1 0 0 0)
     s.arrives 0 (obj0 0x0C 0 (gen0 1 0 0 0)).attrs (zeros 16) [] none = 0 ∧ s.arrives 0 (obj0 0x0C 0 (gen0 1 0 0 0)).attrs (zeros 32) [] none ≠ 0 ∧
       attrPersist (obj0 1 1 (gen0 1 0 0 0)).attrs = true ∧ attrQuorum o.attrs = false ∧ attrQuorum (obj0 1 2 (gen0 1 0 0 0)).attrs = true ∧ s.quorumOpen = false ∧
       s.noDsk = false ∧ s.dskPending = false ∧ ({ s with ks := { s.ks with dsk := none } } : State).dskPending = true ∧
       ({ s with lc := { s.lc with rootKill := 1 } } : State).noDsk = true ∧
       attrPolicy o.attrs = 2 ∧ isStateful (attrFam o.attrs) = false ∧ s.quotaHit 0 32 true = 0 ∧ mget s.ks.objs (mkHandle 0 2 0) = none ∧ s.marked 5 0 1 = false ∧
       State.marked { s with fab := { s.fab with destroyed := [(markKey 5 0, 1)] } } 5 0 1 = true ∧
       attrPolicy (obj0 5 0 (gen0 1 0 0 0)).attrs ≠ 0 ∧ isStateful (attrFam (obj0 5 0 (gen0 1 0 0 0)).attrs) = true) ∧
    (2 ≤ 64 / 32 ∧ 64 / 32 ≤ 16 ∧ (5 : Nat) ≠ 0) := by decide +kernel

/-- FabricManagement: every index of a group's keys marked, and none free. -/
theorem test_allTaken_met (i : Nat) (hi : i < 32768) :
    State.marked { dev with fab := { dev.fab with destroyed := (List.range 32768).map (fun j => (markKey 5 j, 1)) } } 5 i 1 = true := by
  have key : ∀ (l : List (Nat × Nat)) (k : Nat), (∀ x ∈ l, x.2 = 1) → k ∈ l.map (·.1) → mget l k = some 1 := by
    intro l k
    induction l with
    | nil => intro _ m; simp at m
    | cons a t ih =>
      intro h m
      obtain ⟨x, y⟩ := a
      have hy : y = 1 := h _ List.mem_cons_self
      simp only [mget]
      split
      · rw [hy]
      · next ne =>
        refine ih (fun z hz => h z (List.mem_cons_of_mem _ hz)) ?_
        rw [List.map_cons, List.mem_cons] at m
        exact m.resolve_left (fun e => ne e.symm)
  have k := key ((List.range 32768).map (fun j => (markKey 5 j, 1))) (markKey 5 i) (by simp) (by simp only [List.map_map, List.mem_map, List.mem_range]; exact ⟨i, hi, rfl⟩)
  simp only [State.marked, k]
  rfl

/-- FabricManagement: a list of two members of which this device is one. -/
theorem test_members_formed (d : List Byte) (h : d.length = 32) :
    (List.range 2).map (fun i => slice (d ++ zeros 32) (32 * i) 32) = [d, zeros 32] := by
  simp [List.range, List.range.loop, slice, zeros, h, List.drop_append, List.take_append]

/-- FabricEvents: each state of a port, a statement refused and accepted, sequence numbers, messages known and not, SYNC by position. -/
theorem test_fabricEvents_met :
    let s := fabOf Ps.UP .idle
    let hs := fabOf Ps.HANDSHAKE { Shaker.idle with stage := .identity, peerId := [1] }
    let st : PeerStmt := ⟨true, [1], 0x33, 0, List.replicate 16 1, [7], false⟩
    let m : E2e := ⟨[1], .work 3 0, true, 4⟩
    (fabOf Ps.TRAINING .idle).portPower 0 = true ∧ s.fab.portEn 0 = true ∧ s.boot.hold = false ∧ (fabOf Ps.TRAINING .idle).portState 0 = Ps.TRAINING ∧
    ({ WPort.fresh with fails := 2 } : WPort).fails = 2 ∧ (s.wport 0).fails < 2 ∧ hs.portState 0 = Ps.HANDSHAKE ∧ (hs.wport 0).sh.stage = Shake.identity ∧
    (hs.wport 0).sh.peerId ≠ [] ∧ (hs.wport 0).sh.held = none ∧ hs.refusal (hs.wport 0).sh st [7] = 0 ∧ hs.refusal (hs.wport 0).sh st [8] ≠ 0 ∧ s.portState 1 ≠ Ps.UP ∧
    (zeros 256).length = 256 ∧ 8 < 9 ∧ (leAt (zeros 256) 2 2).testBit 12 = false ∧ leAt (zeros 256) 0 2 % 4096 = (s.wport 0).rxSeq ∧
    s.fab.fabId = List.replicate 16 1 ∧ s.fab.addr ≠ some 4095 ∧ mget s.fab.states 4095 ≠ some [] ∧ mget s.fab.e2e 0 = none ∧ 4 ≤ m.tries ∧ m.body = .work 3 0 ∧
    ({ m with tries := 3 } : E2e).tries < 4 ∧ s.peer [9] = none ∧ (s.peer [1]).isSome = true ∧ s.fab.fixedAddr = none ∧ s.fab.addr = none ∧
    s.marked 5 0 1 = false ∧ mget s.ks.objs (mkHandle 0 2 0) = none ∧ s.rdF Reg.RST_STRAP 10 8 = 0 ∧ (s.wrF Reg.RST_STRAP 10 8 1).rdF Reg.RST_STRAP 10 8 ≠ 0 ∧
    s.lowPorts = true ∧ State.reset.lowPorts = false ∧ s.fab.synced = false ∧ s.fab.commits = [] ∧ s.fab.remote = [] ∧
    s.fab.syncNext = none ∧ ({ s.fab with syncNext := some 9, spilled := [(3, [1])] } : Fabric).syncNext = some 9 ∧ mget s.fab.spilled 3 = none := by decide +kernel

/-- FabricEvents: the flit check's answer is uninterpreted; with either one a flit is bad or not. -/
theorem test_flit_met (k n f : List Byte) : (8 < 9 ∨ Config.flitOk k n f = false) ∧ (Config.flitOk k n f = true → ¬ (8 < 8 ∨ Config.flitOk k n f = false)) :=
  ⟨.inl (by decide), fun h => by simp [h]⟩

/-! Witnesses: cards. -/

/-- A session open for every purpose but ROSTER. -/
def quorum0 (inForce : Bool) : Quorum := ⟨inForce, 0x3F, 60, 60, [], false, [], 0, [], 0⟩

/-- The device with its card domain, port 0 in a state, MC0 in a state, a session. -/
def cardsOf (sc mc : Nat) (q : Option Quorum) : State :=
  (({ dev with
    pwr := { dev.pwr with powered := [155] }
    boot := { dev.boot with cfgLoaded := some 0 }
    cards := { dev.cards with quorum := q, roster := [zeros 16, List.replicate 16 1], mq := 2 } }).wrF (Reg.CRD_SC_STAT 0) 31 28 sc).wrF Reg.CRD_MC_STAT 31 28 mc

/-- CardsAndEscrow, sessions: free and not, fields at both ends, a roster and none, buffers at the size and one less. -/
theorem test_quorum_met :
    let s := cardsOf Sc.EMPTY Mc.READY none
    let i := [BitVec.ofNat 8 0x3F, 0] ++ natLE 2 60 ++ natLE 2 3600 ++ zeros 2
    let had := ({ reqOf 0x0900 2 i with rand := zeros 32 } : MbxReq)
    let busy := { s with mbx := [(0, { reqOf 0x0900 2 i with started := true })] }
    s.cardCmd = none ∧ busy.cardCmd ≠ none ∧ s.cards.quorum = none ∧ 8 ≤ i.length ∧ leAt i 0 1 < 128 ∧ leAt i 1 1 = 0 ∧ leAt i 6 2 = 0 ∧ 1 ≤ leAt i 2 2 ∧ leAt i 2 2 ≤ 60 ∧
    10 ≤ leAt i 4 2 ∧ leAt i 4 2 ≤ 3600 ∧ (reqOf 0x0900 2 i).rand.length < 32 ∧ 32 ≤ had.rand.length ∧ s.nrgDown = false ∧
    (s.wrF Reg.NRG_STAT 1 0 2).nrgDown = true ∧ s.nrg.queue = [] ∧ (leAt i 0 1).testBit 6 = false ∧ s.cards.roster ≠ [] ∧ dev.cards.roster = [] ∧ 16 * s.cards.mq ≤ (reqOf 0x0900 2 i).respCap ∧
    ({ reqOf 0x0900 2 i with respCap := 31 } : MbxReq).respCap < 16 * s.cards.mq ∧ (quorum0 true).inForce = true ∧ (quorum0 false).inForce = false ∧
    (cardsOf 0 0 (some (quorum0 true))).quorumFor 0 = true ∧ (cardsOf 0 0 (some (quorum0 true))).quorumFor 1 = true ∧ s.quorumFor 0 = false := by decide +kernel

/-- A volume header, and one record of 96 bytes whose header names its data's hash. -/
def volume0 : List (Nat × List Byte) :=
  let d : List Byte := [0x45, 0x42, 0x45, 0x31, 2] ++ zeros 91
  [(0, [0x45, 0x42, 0x45, 0x56, 1, 0, 0, 0] ++ zeros 504),
   (8, [0x45, 0x42, 0x52, 0x48, 1, 0, 0, 0] ++ zeros 24 ++ natLE 4 1 ++ natLE 8 96 ++ sha3_256 d ++ zeros 436), (9, d ++ zeros 416)]

/-- CardsAndEscrow, escrow: requests in order, flagged keys, a volume, a record that reads and one that does not. -/
theorem test_escrow_met :
    let s := cardsOf Sc.EMPTY Mc.READY (some (quorum0 true))
    let b := [2, 2, 0, 0] ++ zeros 16 ++ natLE 2 1 ++ natLE 2 0 ++ zeros 16 ++ List.replicate 16 1 ++ natLE 2 0
    s.noDsk = false ∧ s.dskPending = false ∧ ({ s with ks := { s.ks with dsk := none } } : State).dskPending = true ∧ s.cardCmd = none ∧ s.escrowOk b = true ∧ s.escrowOk [] = false ∧ s.escrowKeys (escrowLists b).2.1 = [] ∧ writeDraw b = 64 ∧ s.mcState = Mc.READY ∧ leAt b 2 1 = 0 ∧
    volOk volume0 = true ∧ s.lc.code = Lc.DEPLOYED ∧ s.rdB Reg.TMP_STAT 1 = false ∧ 33 ≤ (zeros 33).length ∧ leAt (zeros 33) 16 1 ≤ 16 ∧
    (recData volume0 8).isSome = true ∧ recData (volume0.map (fun x => (x.1, if x.1 = 9 then zeros 512 else x.2))) 8 = none := by decide +kernel

/-- CardsAndEscrow, ports: each state, a gated domain, answers of both protocols and of neither, steps with and without their end, good and bad
answers in T=0 and T=1, recoveries of each kind left and none. -/
theorem test_ports_met :
    let s := cardsOf Sc.ACTIVATING Mc.READY none
    let p := { ScPort.idle with step := .authenticate, ins := 0x88 }
    let atr := s.wrF (Reg.CRD_SC_STAT 0) 27 26 3
    let t1 := s.wrB (Reg.CRD_SC_STAT 0) 25 true
    let ans : CardAnswer := ⟨[0x90, 0x00], [], [0x60, 0x88, 0x77], 0, []⟩
    s.looped 17 = false ∧ s.cardsOn = true ∧ ({ s with pwr := { s.pwr with powered := [] } } : State).cardsOn = false ∧
    (cardsOf Sc.EMPTY 0 none).scState 0 = Sc.EMPTY ∧ s.scState 0 = Sc.ACTIVATING ∧ (s.scPort 0).pps = none ∧
    1 < atr.rdF (Reg.CRD_SC_STAT 0) 27 26 ∧ (s.wrF (Reg.CRD_SC_STAT 0) 27 26 1).rdF (Reg.CRD_SC_STAT 0) 27 26 ≤ 1 ∧ (parseAtr [0x3B, 0x00]).cls = none ∧
    0 ∈ (parseAtr [0x3B, 0x00]).protos ∧ 1 ∈ (parseAtr [0x3B, 0x80, 0x01, 0x81]).protos ∧ 0 ∉ (parseAtr [0x3B, 0x80, 0x02]).protos ∧ 1 ∉ (parseAtr [0x3B, 0x80, 0x02]).protos ∧
    (parseAtr [0x3B, 0x00]).ta2 = none ∧ ({ ScPort.idle with noPps := true } : ScPort).noPps = true ∧ s.wantsCards = false ∧
    ((s.setSc 0 p).scPort 0).asked = true ∧ (s.scPort 0).asked = false ∧ ({ p with drawing := true } : ScPort).asked = false ∧ p.step ≠ .relay ∧
    s.blockProto 0 = false ∧ t1.blockProto 0 = true ∧ ans.bad0 p.ins = false ∧ ({ ans with errors := [5] } : CardAnswer).bad0 p.ins = true ∧
    ({ ans with procs := [0x12] } : CardAnswer).bad0 p.ins = true ∧ ans.bad = 0 ∧ ans.wtx = [] ∧ 2 ≤ ans.resp.length ∧
    beAt [0x6A, 0x82] 0 2 ≠ 0x9000 ∧ beAt [0x6A, 0x82] 0 2 / 256 ≠ 0x61 ∧ beAt [0x90, 0x00] 0 2 = 0x9000 ∧ (zeros 3309).length = 3309 ∧
    s.quorumMet (quorum0 false) = false ∧ s.quorumMet { quorum0 false with counted := s.cards.roster } = true ∧ p.retries < 3 ∧
    3 ≤ ({ p with retries := 5 } : ScPort).retries ∧ ({ p with retries := 5 } : ScPort).retries < 6 ∧ 6 ≤ ({ p with retries := 6 } : ScPort).retries ∧
    (cardsOf Sc.BUSY Mc.READY none).scState 0 ≠ Sc.ACTIVATING ∧ ({ ScPort.idle with pps := some [] } : ScPort).pps ≠ none ∧
    (∀ x ∈ [Mc.READY, Mc.BUSY, Mc.SLEEP, Mc.LOCKED, Mc.REJECTED], (cardsOf 0 x none).mc0On = true) := by
  decide +kernel

/-- CardsAndEscrow, MC0: empty and not, idle, writing, a ceremony in its record phase. -/
theorem test_mc0_met :
    let c : Ceremony := ⟨true, 2, [], [], [], [], [], [], 1, 8, 2, false, 0⟩
    let s := cardsOf 0 Mc.READY none
    let w := { cardsOf 0 Mc.BUSY none with cards := { s.cards with mc0Busy := true, ceremony := some c } }
    s.looped 19 = false ∧ (cardsOf 0 Mc.EMPTY none).mcState = Mc.EMPTY ∧ s.cardsOn = true ∧ s.cards.ceremony = none ∧ s.cards.mc0Busy = false ∧
    (s.wrF Reg.CRD_MC_CFG 15 0 5).rdF Reg.CRD_MC_CFG 15 0 ≠ 0 ∧ w.cards.mc0Busy = true ∧ w.mcState = Mc.BUSY ∧ w.cards.ceremony = some c ∧ c.phase = 2 := by decide +kernel

/-! Witnesses: power and resets. -/

/-- PowerAndWake: supplies present and not, queued, ramping and idle domains, loads at and above the limit, each state of the permit, a trip. -/
theorem test_power_met :
    let off := { dev with pwr := { dev.pwr with vin := false, vioOk := false } }
    let ramp := { dev with pwr := { dev.pwr with ramping := [164, 5] } }
    let on := { dev with pwr := { dev.pwr with powered := [5, 164] } }
    let pos := { dev with pwr := { dev.pwr with strap := some 1 } }
    let cut := { dev with pwr := { dev.pwr with vioOk := false } }
    dev.pwr.vin = true ∧ off.pwr.vin = false ∧ off.pwr.vioOk = false ∧ 0 < 12000 ∧ 12000 < 65536 ∧ dev.cmds = [] ∧ 164 ∈ ramp.pwr.ramping ∧ 5 ∉ dev.pwr.ramping ∧
    on.rdF Reg.PWR_IDLE 15 0 = dev.rdF Reg.PWR_IDLE 15 0 ∧ ((on.wrF Reg.PWR_IDLE 15 0 7).rdF Reg.PWR_IDLE 15 0 ≠ 0 ∧ 5 ∈ on.pwr.powered ∧ on.idleDomain 5 = true) ∧
    ¬ loadLimit 12000 < dev.admitted ∧ loadLimit 0 < on.admitted ∧ dev.pwr.waking = true ∧ pos.follows = true ∧ dev.follows = false ∧ cut.pwr.vioOk = false ∧ cut.pwr.vin = true ∧ dev.permit = Pm.WAITING ∧
    (∀ x ∈ [Pm.HELD, Pm.PASSED, Pm.TIMEOUT], (dev.wrF Reg.PWR_STAT 5 4 x).permit = x) ∧ ({ dev.pwr with thermal := true } : Power).thermal = true ∧ dev.pwr.thermal = false ∧ dev.pwr.queues.length = 4 ∧ dev.boot.stage ≠ .heldOff ∧
    State.gated { dev with pwr := { dev.pwr with queues := [[], [], [], []] } } 5 = true ∧ 5 ∈ (queuesWith dev.firstPort).flatten ∧
    dev.now ≥ dev.pwr.pause ∧ dev.pwr.burst = false := by decide +kernel

/-- ResetsAndLink: each boot stage, supplies, pins and the mode of PERST_N, keyed writes, reads and writes that fail at each place. -/
theorem test_resetsAndLink_met :
    let up := { dev with pwr := { dev.pwr with resetN := true, perstN := true, powered := [154, 164] }, link := { dev.link with up := true } }
    let held := booting .heldOff .invalid
    let w := withCmd { cmdOf (descOf 0x0F30 0 0 0 0 0 0 0 0 0 0) with phase := .running, outMap := [(0, 1)] }
    dev.boot.stage ∉ [Stage.inReset, .heldOff, .off] ∧ State.reset.boot.stage = .inReset ∧ State.reset.pwr.resetN = false ∧ held.boot.stage = .heldOff ∧
    State.reset.pwr.strapped = false ∧ ({ dev.pwr with strapped := true } : Power).strapped = true ∧
    (let w7 := { withReq { reqOf 0x0700 0 [] with commit := true } with pwr := { dev.pwr with swReset := some 7 } }
     (∃ r ∈ w7.mbx, r.2.commit = true) ∧ w7.now < w7.pwr.swAt + 2 * 10 ^ 8 ∧ (∀ r ∈ dev.mbx, r.2.commit = false)) ∧
    ({ cmd0 with phase := .waitSlot } : Cmd).phase = .waitSlot ∧ up.pwr.perstN = true ∧ up.rdB Reg.RST_CFG 0 = false ∧
    (up.wrB Reg.RST_CFG 0 true).rdB Reg.RST_CFG 0 = true ∧ 154 ∈ up.pwr.powered ∧ up.hearthRuns = true ∧ up.link.up = true ∧ dev.link.up = false ∧
    fld 0x71440001 31 16 = 0x7144 ∧ bitAt 0x71440001 0 = true ∧ bitAt 0x71440002 0 = false ∧ bitAt 0x71440002 1 = true ∧ fld 0x1 31 16 ≠ 0x7144 ∧
    dev.pwr.swReset = none ∧ ({ dev.pwr with swReset := some 8 } : Power).swReset = some 8 ∧ (withQp pair0).qpOpen 0 0 = true ∧ dev.qpOpen 0 0 = false ∧
    mget dev.cmds 9 = none ∧ (mget w.cmds 9).isSome = true ∧ mget dev.mbx (mbxKey 0 0) = none ∧ mget (withReq (reqOf 0x0100 0 [])).mbx (mbxKey 0 0) = some (reqOf 0x0100 0 []) := by
  decide +kernel

/-! Witnesses: tamper sources, the peat domain, faults, test paths, registers, steps. -/

/-- The device in TEST, and in ANALYSIS's place a session with every scope. -/
def inTest : State := { dev with lc := { dev.lc with slots := [0xFFFFFFFF, 0, 0, 0, 0] } }
def inSession : State := { dev with lc := { dev.lc with session := some ⟨63, false, 10, false⟩ } }

/-- A source's value: enabled, N, W of one unit, a response. -/
def srcWord (n r : Nat) : Word := BitVec.ofNat 32 (2 ^ 31 + 2 ^ 12 + n * 16 + r)

/-- TamperAndPeat, configuration: locked and not, lengths and values in order and not, the fixed sources and the hard ones at their last number. -/
theorem test_tmpConfig_met :
    let one := natLE 4 14 ++ natLE 4 (srcWord 1 1).toNat
    let locked := dev.wrB Reg.TMP_STAT 0 true
    let q := fun (n : Nat) => ({ reqOf 0x0700 1 [] with reqLen := n } : MbxReq)
    dev.tmpLocked = false ∧ locked.tmpLocked = true ∧ ((q 8).payload one).length = 8 ∧ (q 8).ext = true ∧ (reqOf 0x0700 0 []).ext = false ∧
    ((q 520).payload (zeros 520)).length = 520 ∧ ((q 7).payload one).length % 8 ≠ 0 ∧ ((q 0).payload one).length < 8 ∧
    tmpOk dev.lcc 14 (srcWord 1 1) = true ∧ tmpOk dev.lcc 14 (srcWord 0 1) = false ∧ tmpOk dev.lcc 35 (srcWord 1 1) = false ∧ tmpOk dev.lcc 12 (srcWord 4 9) = true ∧
    tmpOk dev.lcc 12 (srcWord 5 9) = false ∧ tmpOk dev.lcc 14 (srcWord 5 1) = true ∧ tmpOk dev.lcc 13 0 = true ∧ tmpOk dev.lcc 53 0 = true := by decide +kernel

/-- TamperAndPeat, events: below and at N, each response, an unarmed source, one that has reset already, two sources at once, in Kindling; the
erase line held and not, with its sources quiet and not. -/
theorem test_tamperEvent_met :
    let s := fun (i n r : Nat) => dev.wr 0 (Reg.TMP_SRC i) (srcWord n r)
    let wait := { s 14 1 1 with tmp := [(14, ⟨[0], some 0, false, false, 0⟩)] }
    let again := { s 14 1 5 with tmp := [(14, ⟨[], some 0, true, true, 0⟩)] }
    let two := (s 14 1 9).wr 0 (Reg.TMP_SRC 15) (srcWord 1 5)
    let held := (s 14 1 9).wrB Reg.TMP_STAT 1 true
    dev.pwr.vin = true ∧ 14 ∈ tmpSources ∧ 35 ∉ tmpSources ∧ bitAt ((s 14 1 1).tmpReg 14) 31 = true ∧ (s 14 1 1).tmpChans 14 1 = 1 ∧ (s 14 1 1).tmpChans 14 0 = 0 ∧
    (s 14 1 1).tmpChans 14 3 = 3 ∧ ((s 14 1 1).tmpSrc 14).armed = true ∧ tmpN ((s 14 2 1).tmpReg 14) = 2 ∧ (wait.tmpSrc 14).armed = false ∧ wait.tmpQuietFor 14 (tmpW (wait.tmpReg 14)) = false ∧
    (∀ r ∈ [1, 9, 5, 13], fld ((s 14 1 r).tmpReg 14) 3 0 = r) ∧ (again.tmpSrc 14).reset = true ∧ again.tmpQuietFor 14 (10 ^ 8) = false ∧
    dev.boot.stage ∉ [Stage.inReset, .heldOff, .off] ∧ dev.inKindling = false ∧ (booting .kindling .invalid).inKindling = true ∧
    bitAt (two.tmpReg 14) 31 = true ∧ bitAt (two.tmpReg 15) 31 = true ∧ (two.tmpSrc 15).armed = true ∧ bitAt (two.tmpReg 14) 3 = true ∧ bitAt (two.tmpReg 15) 2 = true ∧
    two.tmpChans 15 1 ≠ 0 ∧ dev.rdB Reg.TMP_STAT 1 = false ∧ held.rdB Reg.TMP_STAT 1 = true ∧
    State.erasersQuiet { held with now := 10 ^ 6 } = true ∧ State.erasersQuiet { held with tmp := [(14, ⟨[0], some 0, false, false, 0⟩)] } = false ∧
    dev.peat.slsValid = false ∧ dev.noDskState = false ∧
    ({ dev with peat := { dev.peat with sls := some (zeros 32), checked := zeros 32 } } : State).peat.slsValid = true := by decide +kernel

/-- TamperAndPeat, tests: timed and not, a test by either and its channel's bit clear, one that waits, an injection, numbers at both ends. -/
theorem test_tmpTest_met :
    let on := dev.wrF Reg.TMP_CTRL 15 8 1
    let x : TmpTest := ⟨14, 0, true, false⟩
    let series := { on with tmpTest := some { x with byPf := false }, tmpNext := [x], tmpSeries := some 28 }
    (dev.wrF Reg.TMP_CTRL 15 8 0).rdF Reg.TMP_CTRL 15 8 = 0 ∧ on.rdF Reg.TMP_CTRL 15 8 ≠ 0 ∧ on.boot.stage = .ready ∧ on.tmpTest = none ∧ on.tmpNext = [] ∧
    on.tmpSeries = none ∧ series.tmpNext = x :: [] ∧ dev.rdB Reg.TMP_TEST 0 = false ∧ (dev.wrB Reg.TMP_TEST 0 true).rdB Reg.TMP_TEST 0 = true ∧
    tmpSources.find? (fun i => bitAt (on.tmpReg i) 31) = some 0 ∧ 229 < 230 ∧ ({ dev with tmpTest := some x } : State).tmpTest = some x ∧ bitAt (dev.tmpReg 14) 21 = false ∧
    (x.byPf = true ∨ x.inj = true) ∧ ¬ ({ x with byPf := false } : TmpTest).byPf = true ∧
    bitAt (0x80003500 : Word) 31 = true ∧ fld (0x80003500 : Word) 13 8 = 53 ∧ 53 ∈ tmpSources ∧ fld (0x80003F00 : Word) 13 8 ∉ tmpSources ∧ bitAt (0x3500 : Word) 31 = false := by
  decide +kernel

/-- TamperAndPeat, the peat domain alone and not: a first failing scan and a second, the sources that only record, both alarms of the cell, each
counter write; the two writes of the clock, with the second ignored and taken. -/
theorem test_peat_met :
    let off := { dev with pwr := { dev.pwr with vin := false }, peat := { dev.peat with vbat := true } }
    let two := { off with peat := { off.peat with fails := [(12, 1)] } }
    let late := { dev with peat := { dev.peat with secs := 2 ^ 32 + 61 } }
    off.pwr.vin = false ∧ off.peat.vbat = true ∧ ({ off with peat := { off.peat with vbat := false } } : State).peat.vbat = false ∧ mget off.peat.fails 12 = none ∧
    mget two.peat.fails 12 = some 1 ∧ mget off.peat.fails 38 = none ∧ mget off.peat.fails 40 = none ∧ off.peat.counters.length = 8 ∧
    fld (0x71440003 : Word) 31 16 = 0x7144 ∧ fld (0x71440003 : Word) 2 0 < 4 ∧ 4 ≤ fld (0x71440004 : Word) 2 0 ∧ 4 ≤ fld (0x71440007 : Word) 2 0 ∧
    late.lcc = Lc.DEPLOYED ∧ fld (1 : Word) 7 0 * 2 ^ 32 + (0 : Word).toNat + 60 < late.peat.secs ∧
    late.peat.secs ≤ fld (1 : Word) 7 0 * 2 ^ 32 + (1 : Word).toNat + 60 ∧ inTest.lcc ≠ Lc.DEPLOYED := by decide +kernel

/-- FaultsAndTestPaths, faults: classes that a source has and has not, the first record empty and full, the pin, key objects, three transfer errors, self-tests. -/
theorem test_faults_met :
    let pf := dev.wrB Reg.FLT_CTRL 7 true
    let ks := withReqKeys (reqOf 0x0100 0 []) [(3, obj0 0x0C 0 (gen0 1 0 0 0))] 0
    let u := fun (f : EUnit → EUnit) => dev.setUnit 229 (f (dev.unit 229))
    (fltClasses 0).testBit 0 = true ∧ (fltClasses 229).testBit 1 = true ∧ (fltClasses 229).testBit 2 = false ∧ (fltClasses 259).testBit 2 = true ∧
    dev.rdB Reg.FLT_FIRST 31 = false ∧ (dev.wrB Reg.FLT_FIRST 31 true).rdB Reg.FLT_FIRST 31 = true ∧ dev.rdB Reg.FLT_CTRL 6 = false ∧ dev.pwr.vioOk = true ∧ dev.boot.stage ∉ [Stage.inReset, .heldOff, .off] ∧
    bitAt ((dev.wrF Reg.FLT_PIN_MASK 2 0 7).rd 0 Reg.FLT_PIN_MASK) 0 = true ∧ pf.rdB Reg.FLT_CTRL 7 = true ∧ dev.rdB Reg.FLT_CTRL 7 = false ∧
    (mget ks.ks.objs 3).isSome = true ∧ (mget dev.pwr.flue (23 * 65536)).isNone = true ∧ 24 ≤ 24 ∧ 23 ∉ dev.pwr.islands ∧ 23 ∈ ({ dev.pwr with islands := [23] } : Power).islands ∧
    ((({ dev.pwr with flue := [(23 * 65536, [0, 0])] } : Power).flue.map (·.2.length)) = [2]) ∧ dev.nrg.lanes ≤ 3 ∧
    ({ dev with nrg := { dev.nrg with lanes := 2 } } : State).nrg.lanes < 3 ∧ ({ dev with nrg := { dev.nrg with lanes := 3 } } : State).nrg.lanes = 3 ∧
    ({ dev with test := { dev.test with unit := some 229 } } : State).test.unit = some 229 ∧ dev.test.unit = none ∧ (dev.unit 229).selftest = false ∧
    ((u (fun x => { x with selftest := true })).unit 229).selftest = true ∧ 0 < dev.rdF Reg.FLT_RETIRE 3 0 ∧
    ((dev.wrF Reg.FLT_RETIRE 3 0 0).rdF Reg.FLT_RETIRE 3 0 ≤ ((dev.unit 229).outvotes.filter (fun x => decide (dev.now - x ≤ 6 * 10 ^ 9))).length) := by decide +kernel

/-- FaultsAndTestPaths, test paths: loopbacks of each kind that open and one that does not, units that may be tested, injections by each of their reasons. -/
theorem test_testPaths_met :
    let ports := fun (n : Nat) => dev.wrF (Reg.FAB_PORT 15) 31 29 n
    let ctl := fun (i d : Nat) => BitVec.ofNat 32 (i * 2 ^ 16 + d * 2 ^ 10)
    let inj := fun (c n : Nat) => BitVec.ofNat 32 (c * 2 ^ 26 + n * 2 ^ 9)
    fld (ctl 16 3) 23 16 = 16 ∧ fld (ctl 16 3) 11 10 = 3 ∧ (ports Ps.UP).portState 15 = Ps.UP ∧ (ports Ps.DISABLED).portState 15 = Ps.DISABLED ∧
    (dev.wrF (Reg.CRD_SC_STAT 1) 31 28 Sc.EMPTY).scState 1 = Sc.EMPTY ∧ (dev.wrF Reg.CRD_MC_STAT 31 28 Mc.EMPTY).mcState = Mc.EMPTY ∧ dev.gpioFn 31 = 0 ∧
    bitAt (dev.tmpReg 31) 31 = false ∧ bitAt (BitVec.ofNat 32 (leAt dev.boot.lowSpeed 128 1)) 7 = false ∧ dev.openState = false ∧
    ({ dev with lc := { dev.lc with slots := [0, 0, 0, 0, 0] } } : State).openState = true ∧ dev.link.up = false ∧ dev.test.loop = none ∧
    ({ dev with test := { dev.test with loop := some (22, 2) } } : State).test.loop ≠ none ∧ dev.rdB Reg.SRD_UNIT_TEST 0 = false ∧
    (dev.wrB Reg.SRD_UNIT_TEST 0 true).rdB Reg.SRD_UNIT_TEST 0 = true ∧ testUnit (fld (0x04003F00 : Word) 27 24) (fld (0x04003F00 : Word) 14 8) = some 227 ∧
    testUnit (fld (0x05000000 : Word) 27 24) 0 = none ∧ (dev.unit 227).retired = false ∧ 3 ≤ ((classOf 227).filter (fun x => x != 227 && (dev.unit x).service)).length ∧
    (inSession.scope 3 || inSession.openState) = true ∧ (dev.scope 3 || dev.openState) = false ∧ inTest.lcc ∈ [Lc.TEST, Lc.TEST_OPEN, Lc.ANALYSIS] ∧
    inSession.lcc ∉ [Lc.TEST, Lc.TEST_OPEN, Lc.ANALYSIS] ∧ fld (inj 0 5) 27 26 = 0 ∧ fld (inj 3 5) 27 26 = 3 ∧ fld (inj 2 229) 17 9 = 229 ∧
    fltClasses 229 ≠ 0 ∧ fltClasses 315 = 0 ∧ ¬ (100 < 96 ∨ (108 ≤ 100 ∧ 100 < 230)) ∧ 53 ∈ tmpSources ∧ 54 ∉ tmpSources ∧ bitAt (inSession.tmpReg 0) 3 = true ∧
    bitAt ((inSession.wr 0 (Reg.TMP_SRC 14) 0x80000001).tmpReg 14) 3 = false := by decide +kernel

/-- RegistersAndViews: functions that are there and not, offsets of each kind, windows, masked bytes, views that write and read, the test ports. -/
theorem test_registers_met :
    let v := { dev with link := { dev.link with vfEnable := true, numVfs := 2047 } }
    let bus := { dev with boot := { dev.boot with lowSpeed := [3, 2] ++ zeros 126 ++ [0x80, 0] ++ zeros 30, hold := false, cfgLoaded := some 0 } }
    let flash := { inTest with boot := { inTest.boot with banks := [.blank, .blank], cfgBanks := [⟨[], []⟩, ⟨[], []⟩] } }
    v.link.vfEnable = true ∧ 2047 ≤ v.link.numVfs ∧ dev.link.vfEnable = false ∧ regSpec 0 0x3 = none ∧ (regSpec 0 Reg.GLB_GPIO_OUT).isSome = true ∧
    (regSpec 0 Reg.HRT_WDT).isSome = true ∧ inOpm 0x700000 = true ∧ inOpm 0x800000 = false ∧ inView 0x1040000 = true ∧ inView 0x1070000 = false ∧
    msixAt 2047 252 = true ∧ msixAt 2047 256 = false ∧ msixAt 0 1020 = true ∧ (15 : Nat).testBit 3 = true ∧ (1 : Nat).testBit 3 = false ∧
    (regSpec 0 Reg.FLT_CTRL).isSome = true ∧ mget pfWrites Reg.FLT_CTRL = none ∧
    Reg.FLT_CTRL ∉ [Reg.FLT_STICKY 0, Reg.FLT_FIRST, Reg.TMP_FIRST, Reg.TMP_STICKY 0, Reg.CMD_QPERR 0] ∧
    (0 * 65536 + 28 / 16 ∉ dev.link.pba ∧ 28 % 16 = 12 ∧ bitAt (0 : Word) 0 = false ∧ 1 ∈ ({ dev.link with pba := [1] } : Link).pba) ∧
    ((regSpec 0 0x80110).map (·.base) = some (Reg.MBX_REQ 0 0) ∧ dev.mstat 0 0 1 = false ∧ (dev.setMstat 0 0 1 true).mstat 0 0 1 = true) ∧
    inTest.lcc = Lc.TEST ∧ (inTest.unit 88).idle = true ∧ ({ EUnit.off with retired := true } : EUnit).idle = false ∧ mget inTest.pvcs 88 = none ∧ 8 * 11 + inTest.rdF (Reg.CL_DIAG 11) 2 0 = 88 ∧ dev.scope 2 = false ∧
    run0.kern.secret.has (0x10300 + 60) 4 = true ∧ bus.portsOn = true ∧ bus.gpioFn 0 = 3 ∧ bus.lowPorts = true ∧ State.reset.lowPorts = false ∧ dev.fenced 0 = false ∧
    State.fenced (dev.setFn 2 { dev.fn 2 with quiescing := true }) 2 = true ∧ (leAt bus.boot.lowSpeed 128 1).testBit 7 = true ∧
    (leAt bus.boot.lowSpeed 129 1).testBit 7 = false ∧ inSession.scope 0 = true ∧ dev.scope 0 = false ∧ flash.boot.banks.length = 2 ∧ flash.boot.cfgBanks.length = 2 ∧
    dev.lcc ∉ [Lc.BLANK, Lc.TEST, Lc.TEST_OPEN, Lc.FACTORY] := by decide +kernel

/-- StepRunsTheFrontCommand: a queue with a command and an empty one; the clock before and at the end of its second; a tick without VIO that
is one of the loops', and one that is not. -/
theorem test_step_met :
    let cut := { dev with pwr := { dev.pwr with vioOk := false }, now := dev.loopPeriod - 1 }
    State.reset.pending = [] ∧ ({ State.reset with pending := [.pf0Flr, .helloTimer] } : State).pending = [.pf0Flr, .helloTimer] ∧
    State.reset.peat.frac < 10 ^ 8 ∧ ({ State.reset.peat with frac := 10 ^ 8 - 1 } : Peat).frac + 1 = 10 ^ 8 ∧ State.reset.pwr.vioOk = true ∧
    cut.pwr.vin = true ∧ cut.pwr.vioOk = false ∧ (cut.now + 1) % cut.loopPeriod = 0 := by decide +kernel

/-- FusesAreNeverRestored: a state in the form whose fuses are not all intact, and a debug instruction in front that is opened. -/
theorem test_fuses_met : FuseForm dev ∧ FuseForm { inSession with pending := [.jtagTapAccess false (.priv 0) []] } ∧ inSession.scope 0 = true ∧
    dev.lc.slots.getD 0 0 ≠ 0 := by
  refine ⟨?_, ?_, ?_, ?_⟩ <;> first | decide +kernel | (unfold FuseForm; decide +kernel)

/-! WellFormed refuses: one ill-formed term for each check. -/

theorem test_wf_core : Instr.wf (.nop 96 0 0 0) = false ∧ Instr.wf (.nop 95 0 0 0) = true := ⟨rfl, rfl⟩
theorem test_wf_cluster : Instr.wf (.spongeClaimGrant 12) = false ∧ Instr.wf (.spongeClaimGrant 11) = true := ⟨rfl, rfl⟩
theorem test_wf_fn : Instr.wf (.flr 2048) = false ∧ Instr.wf (.flr 2047) = true := ⟨rfl, rfl⟩
theorem test_wf_ch : Instr.wf (.mbxGo 0 4) = false ∧ Instr.wf (.mbxGo 0 3) = true ∧ Instr.wf (.mbxGo 1 1) = false := ⟨rfl, rfl, rfl⟩
theorem test_wf_qp : Instr.wf (.coalTimeout 0 16) = false ∧ Instr.wf (.coalTimeout 0 15) = true ∧ Instr.wf (.coalTimeout 1 8) = false := ⟨rfl, rfl, rfl⟩
theorem test_wf_vfs : Instr.wf (.numvfsWrite 2048) = false ∧ Instr.wf (.numvfsWrite 2047) = true := ⟨rfl, rfl⟩
theorem test_wf_hearth : Instr.wf (.dispatchWatchdog 8 []) = false := rfl
theorem test_wf_curve : Instr.wf (.curveSwitch 16) = false := rfl
theorem test_wf_tamper : Instr.wf (.tamperEvent [64] [1]) = false ∧ Instr.wf (.tamperEvent [63] [1]) = true := ⟨rfl, rfl⟩
theorem test_wf_channels : Instr.wf (.tamperEvent [0] [4]) = false ∧ Instr.wf (.tamperEvent [0, 1] [1]) = false := ⟨rfl, rfl⟩
theorem test_wf_fault : Instr.wf (.fltEvent 315 0 0) = false ∧ Instr.wf (.fltEvent 314 0 0) = true := ⟨rfl, rfl⟩
theorem test_wf_class : Instr.wf (.fltEvent 0 3 0) = false := rfl
theorem test_wf_region : Instr.wf (.flueTransferError 24 0) = false := rfl
theorem test_wf_unit : Instr.wf (.unitSelftestDone 230 true) = false ∧ Instr.wf (.unitSelftestDone 247 true) = true := ⟨rfl, rfl⟩
theorem test_wf_group : Instr.wf (.nrgStartupDone 16 [] []) = false ∧ Instr.wf (.nrgStartupDone 15 [(0, 32)] []) = false := ⟨rfl, rfl⟩
theorem test_wf_cell : Instr.wf (.nrgBlock ⟨[(512, [])], true⟩) = false := rfl
theorem test_wf_window : Instr.wf (.nrgWindowEnd [(0, [])]) = false := rfl
theorem test_wf_test : Instr.wf (.rawCapture 0 noHost [] [(0, 5, 0)] []) = false := rfl
theorem test_wf_expander : Instr.wf (.expanderUrgent 21) = false := rfl
theorem test_wf_domain : Instr.wf (.idleGate 165) = false := rfl
theorem test_wf_bar : Instr.wf (.rcRead 0 6 0 15) = false := rfl
theorem test_wf_enables : Instr.wf (.rcRead 0 0 0 16) = false := rfl
theorem test_wf_purpose : Instr.wf (.nonceExpiry 2) = false := rfl
theorem test_wf_bus : Instr.wf (.smbusRead 2 0) = false := rfl
theorem test_wf_port : Instr.wf (.linkRekeyTimer 16) = false := rfl
theorem test_wf_cardPort : Instr.wf (.scPresence 3) = false := rfl

/-! Instruction words, bit by bit from the formats of R196 and the encoding tables of spec file 07. -/

/-- The all-zero word is NOP (R197). -/
theorem test_decode_nop : decodePvc 5 0 = some (.nop 5 0 0 0) := by decide +kernel
/-- EXIT, SR 0x00 func 0x001: a is S2, b is S3. -/
theorem test_decode_exit : decodePvc 5 0b000000_00000_00010_00011_00000000001 = some (.exit 5 0 2 3) := by decide +kernel
/-- SUB S1, S2, S3: SR 0x01, func 0x001. -/
theorem test_decode_sub : decodePvc 5 0b000001_00001_00010_00011_00000000001 = some (.sub 5 1 2 3) := by decide +kernel
/-- XOR, the last of func 0x000 to 0x004. -/
theorem test_decode_xor : decodePvc 5 0b000001_11111_00010_00011_00000000100 = some (.xor 5 31 2 3) := by decide +kernel
/-- ADDI S4, S5, -2: SI 0x02. -/
theorem test_decode_addi : decodePvc 5 0b000010_00100_00101_1111111111111110 = some (.addi 5 4 5 0xFFFE) := by decide +kernel
/-- LHU, the third of SI 0x08 to 0x0B. -/
theorem test_decode_lhu : decodePvc 5 0b001010_00100_00101_0000000000001000 = some (.lhu 5 4 5 8) := by decide +kernel
/-- BLT, the third of B 0x10 to 0x15; bits 25:21 are a, bits 20:16 b. -/
theorem test_decode_blt : decodePvc 5 0b010010_00100_00101_1111111111111111 = some (.blt 5 4 5 0xFFFF) := by decide +kernel
/-- JAL: J 0x17. -/
theorem test_decode_jal : decodePvc 5 0b010111_10000000000000000000000001 = some (.jal 5 0x2000001) := by decide +kernel
/-- FMUL, func 0x002 of SR 0x1C. -/
theorem test_decode_fmul : decodePvc 5 0b011100_00001_00010_00011_00000000010 = some (.fmul 5 1 2 3) := by decide +kernel
/-- VSUB.lw W1, W2, W3 ?p5: V 0x20, func 0x01. -/
theorem test_decode_vsub : decodePvc 5 0b100000_00001_00010_00011_101_1_1_000001 = some (.vsub 5 1 2 3 5 true true) := by decide +kernel
/-- VADDI, VI 0x21 func 0, short, 16-bit elements. -/
theorem test_decode_vaddi : decodePvc 5 0b100001_00001_00010_011_0_0_000_11111111 = some (.vaddi 5 1 2 3 false false 0xFF) := by decide +kernel
/-- VCMP.LTU, the fifth of V 0x22 func 0 to 5. -/
theorem test_decode_vcmp : decodePvc 5 0b100010_00001_00010_00011_000_0_1_000100 = some (.vcmpLtu 5 1 2 3 0 false true) := by decide +kernel
/-- VMULM with Q2: V 0x23, func 4 × 3 + 2. -/
theorem test_decode_vmulm : decodePvc 5 0b100011_00001_00010_00011_000_1_0_001110 = some (.vmulm 5 2 1 2 3 0 true false) := by decide +kernel
/-- VDECOMPR with Q1 and c = 10: VI 0x24, func bit 10 set. -/
theorem test_decode_vdecompr : decodePvc 5 0b100100_00001_00010_000_1_0_101_00001010 = some (.vdecompr 5 1 1 2 0 true false 10) := by decide +kernel
/-- VUNPACK: VI 0x25, func 1. -/
theorem test_decode_vunpack : decodePvc 5 0b100101_00001_00010_000_1_0_001_00001100 = some (.vunpack 5 1 2 0 true false 12) := by decide +kernel
/-- PXOR, V 0x26 func 2. -/
theorem test_decode_pxor : decodePvc 5 0b100110_00001_00010_00011_000_0_0_000010 = some (.pxor 5 1 2 3 0 false false) := by decide +kernel
/-- VST: M 0x29, off11 = -1. -/
theorem test_decode_vst : decodePvc 5 0b101001_00001_00010_000_1_1_11111111111 = some (.vst 5 1 2 0 true true 0x7FF) := by decide +kernel
/-- SCLAIM, V 0x30; a word of major 0x3F, and a func that SR 0x01 does not define, name nothing. -/
theorem test_decode_sclaim : decodePvc 5 0b110000_00000_00010_00011_000_0_0_000000 = some (.sclaim 5 0 2 3 0 false false) := by decide +kernel
theorem test_decode_undefined : decodePvc 5 0b111111_00000_00000_00000_00000000000 = none ∧ decodePvc 5 0b000001_00001_00010_00011_00000010001 = none := by decide +kernel
/-- InstructionWordsDecode: an instruction that has a word, and the word it has. -/
theorem test_encode_sub : encodePvc (.sub 5 1 2 3) = some 0b000001_00001_00010_00011_00000000001 := by decide +kernel
/-- The table gives no row any bits. -/
theorem test_table_words : decodeTableWord 32 0 = none := rfl

/-! A few effects, with values taken from the rules. -/

/-- ADD S3, S1, S2 wraps modulo 2^32 (R199). -/
theorem test_add_wraps : (match execAdd 0 3 1 2 (onCore (withS3 0xFFFFFFFF 2 0)) with | .next t => (mget t.pvcs 0).map (fun p => (p.getS 3).v) | _ => none) = some 1 := by
  decide +kernel
/-- MULHU writes bits 63:32 of the unsigned product (R199). -/
theorem test_mulhu : (match execMulhu 0 3 1 2 (onCore (withS3 0xFFFFFFFF 0xFFFFFFFF 0)) with | .next t => (mget t.pvcs 0).map (fun p => (p.getS 3).v) | _ => none) =
    some 0xFFFFFFFE := by decide +kernel
/-- SRA keeps the sign and uses the low 5 bits of the amount (R199). -/
theorem test_sra : (match execSra 0 3 1 2 (onCore (withS3 0x80000000 0x24 0)) with | .next t => (mget t.pvcs 0).map (fun p => (p.getS 3).v) | _ => none) =
    some 0xF8000000 := by decide +kernel
/-- JAL -1 from 8: S31 = 12, pc = 4 (R216). -/
theorem test_jal : (match execJal 0 0x3FFFFFF (onCore { run0 with pc := 8 }) with | .next t => (mget t.pvcs 0).map (fun p => ((p.getS 31).v, p.pc)) | _ => none) =
    some (12, 4) := by decide +kernel
/-- The CRC32C of "123456789" (R96). -/
theorem test_crc32c : crc32c (ascii "123456789") = 0xE3069283 := by decide +kernel

end Sys2Proof.Tests
end

section
/-!
SUPPORT. The state after power-on reset: every register holds the reset word of its table.
-/
namespace Sys2Proof.Machine
open Sys2Proof

/-- No register is listed, so each holds the reset word of its table. -/
theorem rd_reset (fn off : Nat) : State.reset.rd fn off = regReset fn off := rfl

theorem regReset_tmpSrc : ∀ i < 64, regReset 0 (Reg.TMP_SRC i) = tmpDefault i := by decide +kernel

theorem tmpSources_lt : ∀ i ∈ tmpSources, i < 64 := by decide

/-- Every tamper source stands at its default of R328. -/
theorem tmpReg_reset (i : Nat) (h : i ∈ tmpSources) : State.reset.tmpReg i = tmpDefault i := by
  have hw : State.reset.tmpReg i = State.reset.rd 0 (Reg.TMP_SRC i) := rfl
  rw [hw, rd_reset, regReset_tmpSrc i (tmpSources_lt i h)]

/-- No unit has passed its boot self-test, so GLB_CAPS counts none. -/
theorem capsWord_reset : State.reset.capsWord = 0 := by decide +kernel

theorem look_caps (s : State) : s.look 0 Reg.GLB_CAPS = s.capsWord := BitVec.and_allOnes

theorem regReset_rstCause : regReset 0 Reg.RST_CAUSE = 1 := by decide +kernel

theorem regReset_rstLast : regReset 0 Reg.RST_LAST = 0 := by decide +kernel

theorem regReset_glbId : regReset 0 Reg.GLB_ID = 0x714410C1 := by decide +kernel

/-- The key store is unsealing, the permit waits, the random generator is off and the tamper settings are not locked. -/
theorem states_reset : State.reset.sealState = Seal.UNSEALING ∧ State.reset.permit = Pm.WAITING ∧ State.reset.rdF Reg.NRG_STAT 1 0 = 3 ∧
    State.reset.rdB Reg.TMP_STAT 0 = false := by
  simp only [State.sealState, State.permit, State.rdF, State.rdB, rd_reset]
  decide +kernel

/-- Settles O57: fields by their value in State.reset, registers by the reset words of their tables. -/
theorem powerOnReset : Obligations.PowerOnReset := by
  unfold Obligations.PowerOnReset
  intro s
  obtain ⟨hseal, hpermit, hnrg, hlock⟩ := states_reset
  have hid : s.rd 0 Reg.GLB_ID = 0x714410C1 := regReset_glbId
  refine ⟨rfl, rfl, rfl, rfl, rfl, rfl, rfl, rfl, rfl, rfl, rfl, rfl, rfl, rfl, rfl, rfl, ?registers⟩
  refine ⟨regReset_rstCause, regReset_rstLast, hseal, hpermit, hnrg, rfl, fun _ => rfl, hlock, ?allotments⟩
  refine ⟨rfl, rfl, rfl, rfl, rfl, rfl, rfl, tmpReg_reset, (look_caps s).trans capsWord_reset, ?part, ?vendor, ?log, rfl⟩
  case part =>
    rw [State.rdF, hid]
    decide
  case vendor =>
    rw [State.rdF, hid]
    decide
  case log =>
    intro e he
    obtain rfl : e = powerOnEntry := List.mem_singleton.mp he
    decide

end Sys2Proof.Machine
end

section
/-!
SUPPORT. Accesses from outside (spec files 00, 02, 06, 12, 14 and 18): what a read or a write of a register, of the MSI-X tables and of the
diagnostic view does, and what the GPIO pins, SMBus, the TAP and the boot flash answer.
-/
namespace Sys2Proof.Machine
open Sys2Proof

/-! Bytes. -/

/-- What was written from an address on is read there. -/
theorem readBytes_writeBytes (l : List Byte) (m : Memory) (a : Nat) : readBytes (writeBytes m a l) a l.length = l := by
  induction l generalizing m a with
  | nil => rfl
  | cons b t ih =>
    have head : readByte (writeBytes m a (b :: t)) a = b := readByte_writeBytes_same (b :: t) m a 0 (by simp)
    rw [List.length_cons, readBytes, head, writeBytes, ih]

theorem leNat_natLE (n v : Nat) : leNat (natLE n v) = v % 256 ^ n := by
  induction n generalizing v with
  | zero => simp [natLE, leNat, Nat.mod_one]
  | succ n ih =>
    rw [natLE, leNat, ih, BitVec.toNat_ofNat, show 256 ^ (n + 1) = 256 * 256 ^ n from Nat.pow_succ', Nat.mod_mul]

theorem leNat_natLE_word (w : Word) : leNat (natLE 4 w.toNat) = w.toNat := by
  rw [leNat_natLE]
  exact Nat.mod_eq_of_lt w.isLt

theorem leAt_append_left {l m : List Byte} {n : Nat} (h : l.length = n) : leAt (l ++ m) 0 n = leNat l := by
  simp [leAt, slice, ← h]

theorem leAt_append_right {l m : List Byte} {k : Nat} (h : l.length = k) (off n : Nat) : leAt (l ++ m) (k + off) n = leAt m off n := by
  rw [leAt, leAt, slice, slice, ← h, List.drop_length_add_append]

/-! Bits of words. -/

theorem bitAt_and_not (a b : Word) (n : Nat) (h : n < 32) : bitAt (a &&& ~~~ b) n = (bitAt a n && !bitAt b n) := by
  simp [bitAt, h]

theorem bitAt_or_and (a b c : Word) (n : Nat) : bitAt (a ||| (b &&& c)) n = (bitAt a n || (bitAt b n && bitAt c n)) := by
  simp [bitAt]

theorem bitAt_enabledBytes (be k i : Nat) (hk : k < 4) (hi : i < 8) : bitAt (enabledBytes be) (8 * k + i) = be.testBit k := by
  have step (w : Word) (j : Nat) (hj : j < 4) :
      bitAt (if be.testBit j then w ||| fieldMask (8 * j + 7) (8 * j) else w) (8 * k + i) = (bitAt w (8 * k + i) || (decide (j = k) && be.testBit j)) := by
    split <;> rename_i h
    · have hm := bitAt_fieldMask (8 * j + 7) (8 * j) (8 * k + i) (by omega) (by omega)
      have hd : (decide (8 * j ≤ 8 * k + i) && decide (8 * k + i ≤ 8 * j + 7)) = decide (j = k) := by
        rw [← Bool.decide_and, decide_eq_decide]
        omega
      rw [h, Bool.and_true, ← hd, ← hm]
      exact BitVec.getLsbD_or
    · simp [h]
  have zero : bitAt (0 : Word) (8 * k + i) = false := by simp [bitAt]
  have hr : List.range 4 = [0, 1, 2, 3] := rfl
  simp only [enabledBytes, hr, List.foldl_cons, List.foldl_nil, step _ 0 (by omega), step _ 1 (by omega), step _ 2 (by omega), step _ 3 (by omega), zero]
  obtain rfl | rfl | rfl | rfl : k = 0 ∨ k = 1 ∨ k = 2 ∨ k = 3 := by omega
  all_goals simp

/-- Of a word masked by byte enables, the bytes that they select stay and the others read 0 (R13). -/
theorem fld_and_enabledBytes (w : Word) (be k : Nat) (hk : k < 4) :
    fld (w &&& enabledBytes be) (8 * k + 7) (8 * k) = if be.testBit k then fld w (8 * k + 7) (8 * k) else 0 := by
  apply Nat.eq_of_testBit_eq
  intro i
  rw [testBit_fld, Nat.add_sub_cancel_left]
  by_cases hi : i < 8
  · have hb : bitAt (w &&& enabledBytes be) (8 * k + i) = (bitAt w (8 * k + i) && be.testBit k) := by
      rw [← bitAt_enabledBytes be k i hk hi]
      exact BitVec.getLsbD_and
    rw [hb]
    split <;> rename_i h <;> simp [h, hi, testBit_fld]
  · split <;> simp [hi, testBit_fld]

/-! Accesses: which function answers, and where its registers lie. -/

theorem answers_iff (s : State) (fn : Nat) : s.answers fn = true ↔ fn = 0 ∨ (s.link.vfEnable = true ∧ fn ≤ s.link.numVfs ∧ fn < 2048) := by
  unfold State.answers State.enabled
  by_cases h : fn = 0
  · simp [h]
  · simp [h, and_assoc]

/-- An offset of a function's BAR0 outside PF0's windows of the operand memory and of the diagnostic views (R10). -/
abbrev OutsideWindows (fn off : Nat) : Prop := ¬ (fn = 0 ∧ (inOpm off = true ∨ inView off = true))

theorem OutsideWindows.not_inOpm {fn off : Nat} (h : OutsideWindows fn off) : ¬ (decide (fn = 0) && inOpm off) = true :=
  fun c => h ⟨by simpa using (Bool.and_eq_true_iff.mp c).1, .inl (Bool.and_eq_true_iff.mp c).2⟩

theorem OutsideWindows.not_inView {fn off : Nat} (h : OutsideWindows fn off) : ¬ (decide (fn = 0) && inView off) = true :=
  fun c => h ⟨by simpa using (Bool.and_eq_true_iff.mp c).1, .inr (Bool.and_eq_true_iff.mp c).2⟩

/-! Reads (R13, R14, R62). -/

theorem clearRc_of_partial (s : State) {fn off be : Nat} (h : be ≠ 15 ∨ fn ≠ 0) : s.clearRc fn off be = s := by
  have h2 : ¬ (fn = 0 ∧ be = 15) := fun ⟨a, b⟩ => h.elim (fun c => c b) (fun c => c a)
  unfold State.clearRc
  split
  · exact if_neg h2
  · rfl

/-- A read clears nothing but stored fields and the time from which the peak temperature counts. -/
theorem clearRc_frame (s : State) (fn off be : Nat) : s.clearRc fn off be =
    { s with regs := (s.clearRc fn off be).regs, pwr := { s.pwr with tempFrom := (s.clearRc fn off be).pwr.tempFrom } } := by
  unfold State.clearRc
  split
  · split
    · dsimp only
      split <;> rfl
    · rfl
  · rfl

theorem rd_clearRc (s : State) {off : Nat} {x : RegSpec} (h : regSpec 0 off = some x) :
    (s.clearRc 0 off 15).rd 0 off = s.rd 0 off &&& ~~~ x.mask (fun a => a == .rc) := by
  unfold State.clearRc
  simp only [h, and_self, if_true]
  split <;> exact rd_wr_same s 0 off _

theorem clearRc_temp (s : State) : (s.clearRc 0 Reg.GLB_TEMP 15).pwr.tempFrom = s.now / 100000 := rfl

theorem clearRc_pwr (s : State) {fn off be : Nat} (h : off ≠ Reg.GLB_TEMP) : (s.clearRc fn off be).pwr = s.pwr := by
  unfold State.clearRc
  simp only [if_neg h]
  split
  · split <;> rfl
  · rfl

theorem access_reg (s : State) {fn off : Nat} (be : Nat) (h : OutsideWindows fn off) : s.access fn 0 off be = (s.clearRc fn off be, s.look fn off) := by
  unfold State.access
  rw [if_neg (by decide), if_neg (by decide), if_neg h.not_inOpm, if_neg h.not_inView]

theorem exec_rcRead_silent (s : State) {fn off : Nat} (bar be : Nat) (h : ¬ (s.answers fn = true ∧ off % 4 = 0)) :
    exec (.rcRead fn bar off be) s = .next s := by
  refine if_neg ?_
  simpa using h

theorem exec_rcRead_answers (s : State) {fn off : Nat} (bar be : Nat) (h : s.answers fn = true) (ha : off % 4 = 0) :
    exec (.rcRead fn bar off be) s =
      .next ((s.access fn bar off be).1.emit (.readData fn off ((s.access fn bar off be).2 &&& enabledBytes be))) := by
  refine if_pos ?_
  simp [h, ha]

/-! Writes (R13, R14). -/

theorem exec_registerWrite (s : State) (fn bar off : Nat) (v : Word) (be : Nat) :
    exec (.registerWrite fn bar off v be) s = execRegisterWrite fn bar off v be s := rfl

theorem exec_registerWrite_silent (s : State) {fn off be : Nat} (bar : Nat) (v : Word) (h : ¬ (s.answers fn = true ∧ off % 4 = 0 ∧ be = 15)) :
    exec (.registerWrite fn bar off v be) s = .next s := by
  refine if_neg ?_
  simpa [and_assoc] using h

theorem exec_registerWrite_msix (s : State) {fn off : Nat} (v : Word) (h : s.answers fn = true) (ha : off % 4 = 0) :
    exec (.registerWrite fn 2 off v 15) s = .next (s.msixWrite fn off v) := by
  refine if_pos ?_
  simp [h, ha]

theorem exec_registerWrite_noBar (s : State) {bar : Nat} (fn off : Nat) (v : Word) (be : Nat) (h0 : bar ≠ 0) (h2 : bar ≠ 2) :
    exec (.registerWrite fn bar off v be) s = .next s := by
  rw [exec_registerWrite, execRegisterWrite, if_neg h2, if_pos h0, ite_self]

theorem exec_registerWrite_reg (s : State) {fn off : Nat} (v : Word) (h : s.answers fn = true) (ha : off % 4 = 0) (hw : OutsideWindows fn off) :
    exec (.registerWrite fn 0 off v 15) s = .next (s.regWrite fn off v) := by
  have hc : (s.answers fn && off % 4 == 0 && 15 == 15) = true := by simp [h, ha]
  rw [exec_registerWrite, execRegisterWrite, if_pos hc, if_neg (by decide), if_neg (by decide), if_neg hw.not_inOpm, if_neg hw.not_inView]

/-- Where no register lies, a write does nothing (R10, R61). -/
theorem exec_registerWrite_none (s : State) {fn off : Nat} (v : Word) (be : Nat) (h : regSpec fn off = none) (hw : OutsideWindows fn off) :
    exec (.registerWrite fn 0 off v be) s = .next s := by
  by_cases hc : s.answers fn = true ∧ off % 4 = 0 ∧ be = 15
  · obtain ⟨hf, ha, rfl⟩ := hc
    rw [exec_registerWrite_reg s v hf ha hw, State.regWrite, h]
  · exact exec_registerWrite_silent s 0 v hc

theorem regWrite_pf (s : State) {off : Nat} {x : RegSpec} {f : State → Nat → Nat → Word → State} (v : Word) (h : regSpec 0 off = some x)
    (hf : mget pfWrites x.base = some f) : s.regWrite 0 off v = f s (x.index off).1 off v := by
  simp only [State.regWrite, h, if_true, hf]

theorem regWrite_plain (s : State) {off : Nat} {x : RegSpec} (v : Word) (h : regSpec 0 off = some x) (hf : mget pfWrites x.base = none) :
    s.regWrite 0 off v = s.plainWrite 0 off x v := by
  simp only [State.regWrite, h, if_true, hf]

/-- Registers of PF0 whose W1C fields take more with them than their own bits (CMD_QPERR of spec file 03; R331, R361, R362). -/
def guardedW1c : List Nat := [Reg.FLT_STICKY 0, Reg.FLT_FIRST, Reg.TMP_FIRST, Reg.TMP_STICKY 0, Reg.CMD_QPERR 0]

/-- A write by the access codes alone: its fields are set and its W1C bits cleared. -/
theorem plainWrite_ordinary (s : State) (off : Nat) {x : RegSpec} (v : Word) (h : x.base ∉ guardedW1c) :
    s.plainWrite 0 off x v = (s.put 0 off x v).wr 0 off ((s.put 0 off x v).rd 0 off &&& ~~~ (x.mask (fun a => a == .w1c) &&& v)) := by
  simp only [guardedW1c, List.mem_cons, List.not_mem_nil, or_false, not_or] at h
  obtain ⟨hSticky, hFirst, hTmpFirst, hTmpSticky, hQperr⟩ := h
  simp only [State.plainWrite, State.clearable, hSticky, hFirst, hTmpFirst, hTmpSticky, hQperr, ne_eq, not_true_eq_false, if_false]

theorem bitAt_plainWrite (s : State) (off : Nat) {x : RegSpec} (v : Word) (h : x.base ∉ guardedW1c) (n : Nat) (hn : n < 32) :
    bitAt ((s.plainWrite 0 off x v).rd 0 off) n =
      if bitAt (x.mask (fun a => a == .w1c)) n && bitAt v n then false
      else if bitAt (s.writable x) n then bitAt v n
      else bitAt (s.rd 0 off) n := by
  have hput : bitAt ((s.put 0 off x v).rd 0 off) n = if bitAt (s.writable x) n then bitAt v n else bitAt (s.rd 0 off) n := by
    rw [State.put, rd_wr_same, bitAt_or_and, bitAt_and_not _ _ _ hn]
    cases bitAt (s.writable x) n <;> simp
  have hclear : bitAt (x.mask (fun a => a == .w1c) &&& v) n = (bitAt (x.mask (fun a => a == .w1c)) n && bitAt v n) := BitVec.getLsbD_and
  rw [plainWrite_ordinary s off v h, rd_wr_same, bitAt_and_not _ _ _ hn, hput, hclear]
  cases bitAt (x.mask fun a => a == .w1c) n && bitAt v n <;> simp

theorem rd_plainWrite_other (s : State) {off o : Nat} {x : RegSpec} (v : Word) (h : x.base ∉ guardedW1c) (ho : o ≠ off) :
    (s.plainWrite 0 off x v).rd 0 o = s.rd 0 o := by
  rw [plainWrite_ordinary s off v h, rd_wr_pf _ _ _ _ ho, State.put, rd_wr_pf _ _ _ _ ho]

theorem plainWrite_frame (s : State) (off : Nat) {x : RegSpec} (v : Word) (h : x.base ∉ guardedW1c) :
    s.plainWrite 0 off x v = { s with regs := (s.plainWrite 0 off x v).regs } := by
  rw [plainWrite_ordinary s off v h]
  rfl

/-! The MSI-X tables (R60, R61, R75). -/

theorem aligned_of_msixAt {fn off : Nat} (h : msixAt fn off = true) : off % 4 = 0 := by
  simpa using (Bool.and_eq_true_iff.mp h).2

/-- A write that clears the mask of a vector with a pending message, of a function that is not fenced. -/
def Unmasks (s : State) (fn off : Nat) (v : Word) : Prop :=
  off % 16 = 12 ∧ bitAt v 0 = false ∧ fn * 65536 + off / 16 ∈ s.link.pba ∧ s.fenced fn = false

/-- A message of an unmasked vector leaves the device, but not from a fenced function. -/
theorem msix_unmasked {s : State} {fn vec : Nat} (hf : s.fenced fn = false) (hm : s.vecMasked fn vec = false) :
    s.msix fn vec = s.emit (.msix fn vec) := by
  simp [State.msix, hf, hm]

theorem msixWrite_sends (s : State) {fn off : Nat} {v : Word} (h : msixAt fn off = true) (hs : Unmasks s fn off v) :
    s.msixWrite fn off v = { s with
      link := { s.link with msix := mput s.link.msix (fn * 65536 + off) v, pba := s.link.pba.filter (fun x => x != fn * 65536 + off / 16) }
      tx := s.tx ++ [.msix fn (off / 16)] } := by
  have hc : off % 16 = 12 ∧ (!bitAt v 0) = true ∧ s.link.pba.contains (fn * 65536 + off / 16) = true ∧ (!s.fenced fn) = true := by
    simpa [Unmasks] using hs
  obtain ⟨hmask, hv, -, hf⟩ := hs
  have hkey : fn * 65536 + 16 * (off / 16) + 12 = fn * 65536 + off := by omega
  rw [State.msixWrite, if_pos h]
  refine (if_pos hc).trans ?_
  rw [msix_unmasked]
  · rfl
  · exact hf
  · rw [State.vecMasked, hkey, mget_mput_same]
    exact hv

theorem msixWrite_quiet (s : State) {fn off : Nat} {v : Word} (h : msixAt fn off = true) (hs : ¬ Unmasks s fn off v) :
    s.msixWrite fn off v = { s with link := { s.link with msix := mput s.link.msix (fn * 65536 + off) v } } := by
  have hc : ¬ (off % 16 = 12 ∧ (!bitAt v 0) = true ∧ s.link.pba.contains (fn * 65536 + off / 16) = true ∧ (!s.fenced fn) = true) := by
    simpa [Unmasks] using hs
  rw [State.msixWrite, if_pos h]
  exact if_neg hc

theorem msixRead_of_written {s : State} {fn off : Nat} {v : Word} {m : List (Nat × Word)} (h : msixAt fn off = true)
    (hm : s.link.msix = mput m (fn * 65536 + off) v) : s.msixRead fn off = v := by
  rw [State.msixRead, if_pos h, hm, mget_mput_same]
  rfl

/-! Registers with an effect of their own. -/

/-- A request word takes a write while its channel is not BUSY (R114). -/
theorem regWrite_mbxReq (s : State) {off : Nat} {x : RegSpec} (v : Word) (h : regSpec 0 off = some x) (hx : x.base = Reg.MBX_REQ 0 0) :
    s.regWrite 0 off v = if s.mstat 0 (x.index off).1 1 then s else s.wr 0 off v :=
  regWrite_pf s v h (f := fun s i off v => s.mbxReqWrite 0 i off v) (by rw [hx]; rfl)

/-- Registers of PF0 whose write is a command of its own. -/
def commandRegs : List Nat := [Reg.RST_CTRL, Reg.TMP_TEST, Reg.PEAT_RTC_LO, Reg.PEAT_RTC_HI, Reg.PEAT_CNT_INC, Reg.LCS_DBG_END]

theorem commandRegs_spec : ∀ off ∈ commandRegs, (regSpec 0 off).map (·.base) = some off ∧ off % 4 = 0 ∧ OutsideWindows 0 off := by decide +kernel

/-- A write of a register whose effect is that of a command, which always ends in a state, is that command. -/
theorem exec_write_command (s : State) {off : Nat} (v : Word) (cmd : Word → State → Host.Outcome State Fault Refusal) (h : off ∈ commandRegs)
    (hf : mget pfWrites off = some (fun s _ _ v => s.after (cmd v s))) (hn : ∃ t, cmd v s = .next t) :
    exec (.registerWrite 0 0 off v 15) s = cmd v s := by
  obtain ⟨hbase, ha, hw⟩ := commandRegs_spec off h
  obtain ⟨x, hx, hxo⟩ := Option.map_eq_some_iff.mp hbase
  obtain ⟨t, ht⟩ := hn
  rw [exec_registerWrite_reg s v rfl ha hw, regWrite_pf s v hx (hxo ▸ hf)]
  simp only [ht, State.after]

theorem tmpTestGo_next (v : Word) (s : State) : ∃ t, execTmpTestGo v s = .next t := by
  unfold execTmpTestGo
  split <;> exact ⟨_, rfl⟩

theorem peatRtcLoWrite_next (v : Word) (s : State) : ∃ t, execPeatRtcLoWrite v s = .next t := by
  unfold execPeatRtcLoWrite
  dsimp only
  split <;> exact ⟨_, rfl⟩

theorem peatCntInc_next (v : Word) (s : State) : ∃ t, execPeatCntInc v s = .next t := by
  unfold execPeatCntInc
  split <;> exact ⟨_, rfl⟩

/-! GPIO (R325, R326). -/

theorem portsOn_vin {s : State} (h : s.portsOn = true) : s.pwr.vin = true := by
  simp only [State.portsOn, State.lowPorts, Bool.and_eq_true] at h
  exact h.1.1.1.1

/-- A push-pull pin follows its bit of GLB_GPIO_OUT, inverted where its flag says so. -/
theorem pad_pushPull {s : State} {n : Nat} (hn : n < 32) (hp : s.portsOn = true) (hf : s.gpioFn n = 3) :
    s.pad (.gpio n) = if bitAt (s.rd 0 Reg.GLB_GPIO_OUT) n != s.gpioFlag n 1 then .high else .low := by
  simp [State.pad, portsOn_vin hp, hp, hn, State.gpioPad, hf, State.rdB]

/-- The row of GLB_GPIO_OUT (spec file 12). -/
def gpioOutSpec : RegSpec := ⟨"GLB_GPIO_OUT", Reg.GLB_GPIO_OUT, 0x0, 1, 0x0, 1, .hio, [⟨"LEVEL", 31, 0, .rw, 0x0⟩]⟩

theorem regSpec_gpioOut : regSpec 0 Reg.GLB_GPIO_OUT = some gpioOutSpec := by decide +kernel

theorem gpioOut_ordinary : gpioOutSpec.base ∉ guardedW1c := by decide

theorem exec_write_gpioOut (s : State) (v : Word) :
    exec (.registerWrite 0 0 Reg.GLB_GPIO_OUT v 15) s = .next (s.plainWrite 0 Reg.GLB_GPIO_OUT gpioOutSpec v) := by
  rw [exec_registerWrite_reg s v rfl rfl (by decide), regWrite_plain s v regSpec_gpioOut rfl]

theorem rd_write_gpioOut (s : State) (v : Word) (n : Nat) (hn : n < 32) :
    bitAt ((s.plainWrite 0 Reg.GLB_GPIO_OUT gpioOutSpec v).rd 0 Reg.GLB_GPIO_OUT) n = bitAt v n := by
  have hclear : gpioOutSpec.mask (fun a => a == .w1c) = 0 := by decide
  have hset : s.writable gpioOutSpec = fieldMask 31 0 := by
    unfold State.writable
    cases s.tmpLocked <;> decide
  have hall : bitAt (fieldMask 31 0) n = true := by
    rw [bitAt_fieldMask 31 0 n (by omega) (by omega)]
    simp
    omega
  rw [bitAt_plainWrite s _ v gpioOut_ordinary n hn, hclear, hset, hall]
  simp [bitAt]

theorem pad_write_gpioOut {s : State} (v : Word) {n : Nat} (hn : n < 32) (hp : s.portsOn = true) (hf : s.gpioFn n = 3) :
    (s.plainWrite 0 Reg.GLB_GPIO_OUT gpioOutSpec v).pad (.gpio n) = if bitAt v n != s.gpioFlag n 1 then .high else .low := by
  have frame := plainWrite_frame s Reg.GLB_GPIO_OUT v gpioOut_ordinary
  have hp' : (s.plainWrite 0 Reg.GLB_GPIO_OUT gpioOutSpec v).portsOn = true := by rw [frame]; exact hp
  have hf' : (s.plainWrite 0 Reg.GLB_GPIO_OUT gpioOutSpec v).gpioFn n = 3 := by rw [frame]; exact hf
  have hflag : (s.plainWrite 0 Reg.GLB_GPIO_OUT gpioOutSpec v).gpioFlag n 1 = s.gpioFlag n 1 := by rw [frame]; rfl
  rw [pad_pushPull hn hp' hf', rd_write_gpioOut s v n hn, hflag]

/-! The diagnostic view (R194). -/

/-- What a written word reads back from a core's data memory. -/
theorem word_writeBytes (m : Memory) (a : Nat) (v : Word) :
    BitVec.ofNat 32 (leNat (readBytes (writeBytes m a (natLE 4 v.toNat)) a 4)) = v := by
  have h := readBytes_writeBytes (natLE 4 v.toNat) m a
  rw [natLE_length] at h
  rw [h, leNat_natLE_word, BitVec.ofNat_toNat, BitVec.setWidth_eq]

/-- The device and the core take writes through the view. -/
def ViewTakes (s : State) (cl off : Nat) : Prop :=
  cl < 12 ∧ 0x40000 ≤ off ∧ off < 0x70000 ∧ off % 4 = 0 ∧ (s.lcc = Lc.TEST ∨ s.lcc = Lc.TEST_OPEN) ∧
    (s.unit (s.viewCore cl)).idle = true ∧ mget s.pvcs (s.viewCore cl) = none

theorem viewWrite_ignored {s : State} {cl off : Nat} (v : Word) (h : ¬ ViewTakes s cl off) : s.viewWrite cl off v = s := by
  refine if_neg ?_
  rwa [Option.isNone_iff_eq_none]

theorem viewWrite_taken {s : State} {cl off : Nat} (v : Word) (h : ViewTakes s cl off) : s.viewWrite cl off v =
    { s with test := { s.test with
      views := mput s.test.views (s.viewCore cl)
        (writeBytes ((mget s.test.views (s.viewCore cl)).getD []) (off - 0x30000) (natLE 4 v.toNat)) } } := by
  refine if_pos ?_
  rwa [Option.isNone_iff_eq_none]

theorem viewWrite_frame (s : State) (cl off : Nat) (v : Word) :
    s.viewWrite cl off v = { s with test := { s.test with views := (s.viewWrite cl off v).test.views } } := by
  by_cases h : ViewTakes s cl off
  · rw [viewWrite_taken v h]
  · rw [viewWrite_ignored v h]

theorem labState_iff (s : State) : s.labState = true ↔ s.lcc ∈ [Lc.TEST, Lc.TEST_OPEN, Lc.ANALYSIS] := by
  simp [State.labState, or_assoc]

theorem viewRead_closed {s : State} (cl off : Nat) (h : s.lcc ∉ [Lc.TEST, Lc.TEST_OPEN, Lc.ANALYSIS]) (hs : s.scope 2 = false) :
    s.viewRead cl off = 0 := by
  have hl : s.labState = false := by rwa [← Bool.not_eq_true, labState_iff]
  refine if_neg ?_
  simp [hl, Scope.PVC_VIEW, hs]

theorem viewRead_tagged {s : State} {cl off : Nat} {p : Pvc} (h : mget s.pvcs (s.viewCore cl) = some p)
    (ht : p.kern.secret.has (off - 0x30000) 4 = true) : s.viewRead cl off = 0 := by
  simp [State.viewRead, h, ht]

/-- An idle core's memory shows what the host's writes left there. -/
theorem viewRead_idle {s : State} {cl off : Nat} (h : s.labState = true) (hp : mget s.pvcs (s.viewCore cl) = none) :
    s.viewRead cl off = BitVec.ofNat 32 (leNat (readBytes ((mget s.test.views (s.viewCore cl)).getD []) (off - 0x30000) 4)) := by
  simp [State.viewRead, h, hp]

theorem viewRead_viewWrite {s : State} {cl off : Nat} (v : Word) (h : ViewTakes s cl off) : (s.viewWrite cl off v).viewRead cl off = v := by
  obtain ⟨-, -, -, -, hlcc, -, hp⟩ := id h
  have hw := viewWrite_taken v h
  have hcore : (s.viewWrite cl off v).viewCore cl = s.viewCore cl := by rw [hw]; rfl
  have hlab : (s.viewWrite cl off v).labState = true := by
    have hs : s.labState = true := by
      rw [labState_iff]
      obtain hl | hl := hlcc <;> simp [hl]
    rw [hw]
    exact hs
  have hrun : mget (s.viewWrite cl off v).pvcs ((s.viewWrite cl off v).viewCore cl) = none := by
    rw [hcore, hw]
    exact hp
  rw [viewRead_idle hlab hrun, hcore, hw, mget_mput_same]
  exact word_writeBytes _ _ v

/-! SMBus (R326). -/

/-- No field of GLB_STAT_LS is write-only, so its view is read whole. -/
theorem look_statLs (s : State) : s.look 0 Reg.GLB_STAT_LS = s.statLs := BitVec.and_allOnes

/-- The block that an SMBus target answers with: a count and three words. -/
def smbusBlock (s : State) : List Byte :=
  natLE 4 (s.look 0 Reg.GLB_ID).toNat ++ natLE 4 (s.look 0 Reg.GLB_VERSION).toNat ++ natLE 4 s.statLs.toNat

theorem smbusBlock_length (s : State) : (smbusBlock s).length = 12 := by simp [smbusBlock]

theorem leAt_words (a b c : Word) : let l := natLE 4 a.toNat ++ natLE 4 b.toNat ++ natLE 4 c.toNat
    leAt l 0 4 = a.toNat ∧ leAt l 4 4 = b.toNat ∧ leAt l 8 4 = c.toNat := by
  refine ⟨?_, ?_, ?_⟩
  · rw [List.append_assoc, leAt_append_left (natLE_length 4 _), leNat_natLE_word]
  · rw [List.append_assoc, leAt_append_right (natLE_length 4 _) 0 4, leAt_append_left (natLE_length 4 _), leNat_natLE_word]
  · rw [List.append_assoc, leAt_append_right (natLE_length 4 _) 4 4, leAt_append_right (natLE_length 4 _) 0 4, ← List.append_nil (natLE 4 c.toNat),
      leAt_append_left (natLE_length 4 _), leNat_natLE_word]

/-- The target of a bus is enabled and answers (R326). -/
def SmbusTarget (s : State) (bus code : Nat) : Prop :=
  bus < 2 ∧ code = 0 ∧ (leAt s.boot.lowSpeed (128 + bus) 1).testBit 7 = true ∧ s.portsOn = true

theorem exec_smbusRead_silent {s : State} {bus code : Nat} (h : ¬ SmbusTarget s bus code) : exec (.smbusRead bus code) s = .next s := if_neg h

theorem exec_smbusRead_target {s : State} {bus code : Nat} (h : SmbusTarget s bus code) :
    exec (.smbusRead bus code) s = .next (s.emit (.smbus (BitVec.ofNat 8 12 :: smbusBlock s))) := if_pos h

/-! The TAP (R356, R358). -/

theorem bscanOpen_iff (s : State) : s.bscanOpen = true ↔ s.openState = true ∨ s.lcc = Lc.TEST ∨ s.scope 0 = true := by
  simp [State.bscanOpen, Scope.BSCAN, or_assoc]

/-- A boundary scan of n bytes: what it captures are free values. -/
def boundaryScan (s : State) (n : Nat) : List Byte := (List.range n).map (fun i => Config.boundary (s.free + i))

theorem exec_jtag_silent (s : State) (trst : Bool) (ins : JtagIns) (data : List Byte) (h : trst = true ∨ s.lowPorts = false) :
    exec (.jtagTapAccess trst ins data) s = .next s := by
  refine if_pos ?_
  obtain h | h := h <;> simp [h]

/-- The TAP is not held: TRST_N is high and the low-speed ports act. -/
theorem tap_runs {s : State} (h : s.lowPorts = true) : ¬ (false || !s.lowPorts) = true := by simp [h]

theorem exec_jtag_idcode {s : State} (data : List Byte) (h : s.lowPorts = true) :
    exec (.jtagTapAccess false .idcode data) s = .next (s.emit (.jtag (natLE 4 (s.look 0 Reg.GLB_ID).toNat))) := if_neg (tap_runs h)

theorem exec_jtag_bypass {s : State} (data : List Byte) (h : s.lowPorts = true) :
    exec (.jtagTapAccess false .bypass data) s = .next (s.emit (.jtag (bypassed data))) := if_neg (tap_runs h)

theorem exec_jtag_scan {s : State} {ins : JtagIns} (data : List Byte) (h : s.lowPorts = true) (hi : ins = .extest ∨ ins = .sample ∨ ins = .preload) :
    exec (.jtagTapAccess false ins data) s =
      if s.bscanOpen then .next ((s.used data.length).emit (.jtag (boundaryScan s data.length))) else .next (s.emit (.jtag (bypassed data))) := by
  obtain rfl | rfl | rfl := hi <;> exact if_neg (tap_runs h)

theorem exec_jtag_priv {s : State} (n : Nat) (data : List Byte) (h : s.lowPorts = true) :
    exec (.jtagTapAccess false (.priv n) data) s =
      if s.openState || s.scope n then .refused .debugUnit else .next (s.emit (.jtag (bypassed data))) := if_neg (tap_runs h)

/-! The boot flash (R312). -/

theorem spiOpen_iff (s : State) : s.spiOpen = true ↔ s.lcc ∈ [Lc.BLANK, Lc.TEST, Lc.TEST_OPEN, Lc.FACTORY] := List.contains_iff_mem

/-- The state that a programmer's write of an item leaves. -/
def State.flashed (s : State) : FlashItem → State
  | .firmware b m img => s.setBank (b % 2) { state := fwMark m, image := writeBytes [] 0 img, len := img.length, failed := m == 4 }
  | .prefer b => { s with boot := { s.boot with prefer := b % 2 } }
  | .config b img com => { s with boot := { s.boot with cfgBanks := s.boot.cfgBanks.set (b % 2) ⟨img, com⟩ } }

theorem exec_bootSpi_closed {s : State} (item : FlashItem) (h : ¬ (s.spiOpen = true ∧ s.lowPorts = true)) : exec (.bootSpiAccess item) s = .next s := by
  refine if_pos ?_
  rw [← Bool.not_and, Bool.not_eq_true', ← Bool.not_eq_true, Bool.and_eq_true]
  exact h

theorem exec_bootSpi_open {s : State} (item : FlashItem) (h : s.spiOpen = true) (hp : s.lowPorts = true) :
    exec (.bootSpiAccess item) s = .next (s.flashed item) := by
  refine (if_neg (by simp [h, hp])).trans ?_
  cases item <;> rfl

theorem flashed_frame (s : State) (item : FlashItem) : s.flashed item =
    { s with boot := { s.boot with banks := (s.flashed item).boot.banks, prefer := (s.flashed item).boot.prefer, cfgBanks := (s.flashed item).boot.cfgBanks } } := by
  cases item <;> rfl

/-- Of a list of two, the element written and the one beside it. -/
theorem getD_set_of_two {α : Type} {l : List α} (h : l.length = 2) (b : Nat) (x d : α) :
    (l.set (b % 2) x).getD (b % 2) d = x ∧ (l.set (b % 2) x).getD (1 - b % 2) d = l.getD (1 - b % 2) d := by
  have hb : b % 2 < l.length := by omega
  have hne : b % 2 ≠ 1 - b % 2 := by omega
  simp [List.getD, hb, hne]

theorem flashed_firmware {s : State} (b m : Nat) (img : List Byte) (h : s.boot.banks.length = 2) :
    ((s.flashed (.firmware b m img)).bank (b % 2)).bytes = img ∧ ((s.flashed (.firmware b m img)).bank (b % 2)).state = fwMark m ∧
      (s.flashed (.firmware b m img)).bank (1 - b % 2) = s.bank (1 - b % 2) := by
  have two := getD_set_of_two h b ⟨fwMark m, writeBytes [] 0 img, img.length, m == 4⟩ FwBank.blank
  have hbank : (s.flashed (.firmware b m img)).bank (b % 2) = ⟨fwMark m, writeBytes [] 0 img, img.length, m == 4⟩ := two.1
  refine ⟨?_, ?_, two.2⟩
  · rw [hbank]
    exact readBytes_writeBytes img [] 0
  · rw [hbank]

/-! The obligation. -/

/-- Settles O55, clause by clause from the laws of reads, writes, views and ports above. -/
theorem registersAndViews : Obligations.RegistersAndViews := by
  intro s on window
  have answers (fn : Nat) : s.answers fn = true ↔ on fn := answers_iff s fn
  refine ⟨?reads, ?writes, ?plain, ?gpio, ?own, ?view, fun _ => rfl, ?smbus, ?jtag, ?flash⟩
  case reads =>
    intro fn bar off be found
    refine ⟨fun h => exec_rcRead_silent s bar be (by rwa [answers]), fun hfn ha hbar => ?_⟩
    refine ⟨_, (s.access fn bar off be).2 &&& enabledBytes be, exec_rcRead_answers s bar be ((answers fn).mpr hfn) ha, ?_⟩
    obtain rfl | ⟨rfl, hw⟩ := hbar
    · exact ⟨rfl, rfl, fun k hk => fld_and_enabledBytes _ be k hk, fun _ => rfl, fun _ _ _ h => absurd h (by decide), fun _ => rfl,
        fun _ _ h => absurd h (by decide)⟩
    · rw [access_reg s be hw]
      refine ⟨?_, ?_, fun k hk => fld_and_enabledBytes _ be k hk, fun h => ?_, ?_, fun h => clearRc_pwr s h, ?_⟩
      · rw [clearRc_frame]; rfl
      · rw [clearRc_frame]; rfl
      · rw [clearRc_of_partial s (by simpa using h)]; rfl
      · rintro rfl rfl rfl -
        exact clearRc_temp s
      · rintro x rfl - rfl hx
        exact rd_clearRc s hx
  case writes =>
    intro fn bar off v be
    refine ⟨fun h => exec_registerWrite_silent s bar v (by rwa [answers]), ?_, exec_registerWrite_noBar s fn off v be, ?msix, ?request⟩
    · rintro rfl hx hw
      exact exec_registerWrite_none s v be hx hw
    case msix =>
      rintro hfn rfl rfl hm
      refine ⟨_, exec_registerWrite_msix s v ((answers fn).mpr hfn) (aligned_of_msixAt hm), ?_⟩
      by_cases hs : Unmasks s fn off v
      · rw [msixWrite_sends s hm hs]
        exact ⟨msixRead_of_written hm rfl, rfl, fun h => absurd hs h, fun _ => ⟨rfl, rfl⟩⟩
      · rw [msixWrite_quiet s hm hs]
        exact ⟨msixRead_of_written hm rfl, rfl, fun _ => ⟨rfl, rfl⟩, fun h => absurd h hs⟩
    case request =>
      intro off x hx hbase ha hw
      rw [exec_registerWrite_reg s v rfl ha hw, regWrite_mbxReq s v hx hbase]
  case plain =>
    intro off v x hx ha hw hf hbase
    refine ⟨s.plainWrite 0 off x v, ?_, plainWrite_frame s off v hbase, bitAt_plainWrite s off v hbase,
      fun o ho _ => rd_plainWrite_other s v hbase ho⟩
    rw [exec_registerWrite_reg s v rfl ha hw, regWrite_plain s v hx hf]
  case gpio => exact fun v n hn hp hf => ⟨_, exec_write_gpioOut s v, pad_write_gpioOut v hn hp hf⟩
  case own =>
    intro v p hp
    simp only [List.mem_cons, List.not_mem_nil, or_false] at hp
    obtain rfl | rfl | rfl | rfl | rfl | rfl := hp
    · exact exec_write_command s (off := Reg.RST_CTRL) v execRstCtrlFull (by decide) rfl ⟨_, rfl⟩
    · exact exec_write_command s (off := Reg.TMP_TEST) v execTmpTestGo (by decide) rfl (tmpTestGo_next v s)
    · exact exec_write_command s (off := Reg.PEAT_RTC_LO) v execPeatRtcLoWrite (by decide) rfl (peatRtcLoWrite_next v s)
    · exact exec_write_command s (off := Reg.PEAT_RTC_HI) v execPeatRtcHiWrite (by decide) rfl ⟨_, rfl⟩
    · exact exec_write_command s (off := Reg.PEAT_CNT_INC) v execPeatCntInc (by decide) rfl (peatCntInc_next v s)
    · exact exec_write_command s (off := Reg.LCS_DBG_END) v execLcsDbgEnd (by decide) rfl ⟨_, rfl⟩
  case view =>
    intro cl off v u takes
    exact ⟨fun h => congrArg _ (viewWrite_ignored v h), fun h => ⟨_, rfl, viewRead_viewWrite v h, viewWrite_frame s cl off v⟩,
      viewRead_closed cl off, fun p => viewRead_tagged⟩
  case smbus =>
    intro bus code target
    refine ⟨exec_smbusRead_silent, fun h => ⟨smbusBlock s, exec_smbusRead_target h, smbusBlock_length s, ?_⟩⟩
    rw [look_statLs]
    exact leAt_words _ _ _
  case jtag =>
    intro ins data n out late scan
    refine ⟨exec_jtag_silent s _ ins data (.inl rfl), fun h => exec_jtag_silent s _ ins data (.inr h), fun h => ?_⟩
    refine ⟨exec_jtag_idcode data h, exec_jtag_bypass data h, fun hins => ?_, fun ho hs => ?_, fun hs => ?_⟩
    · rw [exec_jtag_scan data h hins]
      refine ⟨fun hc => if_neg (by rwa [bscanOpen_iff]), fun hc => ⟨boundaryScan s data.length, ?_, by simp [boundaryScan]⟩⟩
      exact if_pos ((bscanOpen_iff s).mpr hc)
    · exact (exec_jtag_priv n data h).trans (if_neg (by simp [ho, hs]))
    · exact (exec_jtag_priv n data h).trans (if_pos (by simpa using hs))
  case flash =>
    intro item programs
    have hprograms : (s.spiOpen = true ∧ s.lowPorts = true) ↔ programs := and_congr_left' (spiOpen_iff s)
    refine ⟨fun h => exec_bootSpi_closed item (by rwa [hprograms]), fun h => ?_⟩
    obtain ⟨hopen, hports⟩ := hprograms.mpr h
    refine ⟨s.flashed item, exec_bootSpi_open item hopen hports, flashed_frame s item, ?_, ?_, ?_⟩
    · rintro b m img rfl hl
      obtain ⟨hbytes, hstate, hother⟩ := flashed_firmware b m img hl
      exact ⟨hbytes, hstate, hother, rfl⟩
    · rintro b rfl
      exact ⟨rfl, rfl⟩
    · rintro b img com rfl hl
      exact getD_set_of_two hl b ⟨img, com⟩ ⟨[], []⟩

end Sys2Proof.Machine
end

section
/-!
SUPPORT. Commands that run on engines (spec files 01, 05, 06, 09 and 10): what the row of an operation answers to a started command, and how a
validated command is taken in.
-/
namespace Sys2Proof.Machine
open Sys2Proof

/-! Sparse maps. -/

/-- Of two writes at one key the later one stays. -/
theorem mput_mput_same {α : Type} (m : List (Nat × α)) (k : Nat) (v w : α) : mput (mput m k v) k w = mput m k w := by
  induction m with
  | nil => simp [mput]
  | cons x t ih =>
    obtain ⟨a, b⟩ := x
    by_cases hlt : k < a
    · simp [mput, hlt]
    · by_cases heq : k = a <;> simp [mput, hlt, heq, ih]

/-! Rows of operations. -/

section
variable {s : State} {id : Nat} {c : Cmd}

theorem startRow_eq {f : Cmd → Bool} {g : Cmd → State} (h : Started s id c) :
    startRow id f g s = if f c && !s.behind id c then .next (g c) else .next s := by
  obtain ⟨hget, hphase⟩ := h
  simp [startRow, hget, hphase]

theorem opRow_eq {f : Cmd → Bool} {g : Cmd → State} (h : Started s id c) (hv : s.vendorKernel c.op = false) :
    opRow id f g s = if f c && !s.behind id c then .next (g c) else .next s := by
  unfold opRow
  rw [startRow_eq h]
  simp [hv]

end

/-- The rows of the public-key operations, with their operation codes (R16). -/
def algRows (id : Nat) (h : HostRead) : List (Instr × Nat) :=
  [(.encaps id h, Op.ENCAPS), (.encapsCtx id h, Op.ENCAPS_CTX), (.decaps id h, Op.DECAPS), (.decapsCtx id h, Op.DECAPS_CTX),
    (.sign id h, Op.SIGN), (.signDet id h, Op.SIGN_DET), (.signPh id h, Op.SIGN_PH), (.signMu id h, Op.SIGN_MU),
    (.signDetPh id h, Op.SIGN_DET_PH), (.verify id h, Op.VERIFY), (.verifyPh id h, Op.VERIFY_PH), (.verifyMu id h, Op.VERIFY_MU),
    (.agree id h, Op.AGREE), (.agreeCtx id h, Op.AGREE_CTX), (.encryptOaep id h, Op.ENCRYPT_OAEP), (.decryptOaep id h, Op.DECRYPT_OAEP),
    (.signPkcs1 id h, Op.SIGN_PKCS1), (.signPss id h, Op.SIGN_PSS), (.verifyPkcs1 id h, Op.VERIFY_PKCS1), (.verifyPss id h, Op.VERIFY_PSS)]

theorem exec_algRows (s : State) (id : Nat) (h : HostRead) : ∀ p ∈ algRows id h, exec p.1 s = algRow p.2 id h s := by
  simp only [algRows, List.forall_mem_cons]
  exact ⟨rfl, rfl, rfl, rfl, rfl, rfl, rfl, rfl, rfl, rfl, rfl, rfl, rfl, rfl, rfl, rfl, rfl, rfl, rfl, rfl, List.forall_mem_nil _⟩

/-- The rows of key, random and check operations that run on engines, with their opcodes and validations. -/
noncomputable def engineRows (s : State) (id : Nat) (h : HostRead) : List (Instr × Nat × (Cmd → Except Done Cmd)) :=
  [(.generate id h, 0x0F01, fun c => s.generateVal c h), (.generateBlob id h, 0x0F02, fun c => s.generateVal c h),
    (.import id h, 0x0F08, fun c => s.importVal c h), (.derive id h, 0x0F10, fun c => s.deriveVal c h),
    (.wrap id h, 0x0F20, fun c => s.wrapVal c h), (.unwrap id h, 0x0F21, fun c => s.unwrapVal c h),
    (.stageGenerate id h, 0x0F30, fun c => s.stageGenerateVal c h), (.stageUnwrap id h, 0x0F31, fun c => s.stageUnwrapVal c h),
    (.stageVerify id h, 0x0F32, fun c => s.stageVerifyVal c h), (.random id h, 0x0E01, fun c => s.randomVal c h),
    (.randomCtx id h, 0x0E02, fun c => s.randomCtxVal c), (.check id h, 0x0D01, fun c => s.checkVal c h),
    (.checkVerify id h, 0x0D02, fun c => s.checkVal c h)]

theorem exec_engineRows (s : State) (id : Nat) (h : HostRead) :
    ∀ p ∈ engineRows s id h, exec p.1 s = keyRow p.2.1 id p.2.2 s ∧ p.2.1 ≠ 0x0F80 := by
  simp only [engineRows, List.forall_mem_cons]
  refine ⟨⟨rfl, ?_⟩, ⟨rfl, ?_⟩, ⟨rfl, ?_⟩, ⟨rfl, ?_⟩, ⟨rfl, ?_⟩, ⟨rfl, ?_⟩, ⟨rfl, ?_⟩, ⟨rfl, ?_⟩, ⟨rfl, ?_⟩, ⟨rfl, ?_⟩, ⟨rfl, ?_⟩, ⟨rfl, ?_⟩,
    ⟨rfl, ?_⟩, List.forall_mem_nil _⟩ <;> decide

/-- A public-key operation lies in none of the digest, check and key families (R16). -/
theorem family_of_algOpOk {op : Nat} (h : algOpOk op = true) : op / 256 ≠ 0x0C ∧ op / 256 ≠ 0x0D ∧ op / 256 ≠ 0x0F := by
  obtain ⟨hops, -⟩ := Bool.and_eq_true_iff.mp h
  generalize op / 256 = fam at hops
  simp only [famOps] at hops
  split at hops <;> simp at hops ⊢

/-! Taking in a validated command (R25, R31, R32, R36, R276). -/

section
variable {s : State} {id : Nat} {c : Cmd}

/-- Without code key and leaf the command goes on to its key-grade bytes. -/
theorem takeIn_plain (s : State) (id : Nat) (hcode : c.codeKey = none) (hleaf : c.wantsLeaf = false ∨ c.leaf ≠ none) :
    s.takeIn id c = if 0 < c.need then ({ s with cmds := mput s.cmds id c } : State).askRand id c
      else { s with cmds := mput s.cmds id { c with phase := .ready } } := by
  have hno : ¬ (c.wantsLeaf = true ∧ c.leaf = none) := by
    obtain h | h := hleaf <;> simp [h]
  simp [State.takeIn, State.advance, mget_mput_same, hcode, hno, State.setCmd, mput_mput_same]

theorem askRand_up (s : State) (id : Nat) (c : Cmd) (h : s.rdF Reg.NRG_STAT 1 0 ≠ 2) :
    s.askRand id c = { s with
      cmds := mput s.cmds id { c with phase := .waitRand, since := s.now }
      nrg := { s.nrg with queue := s.nrg.queue ++ [⟨2, 23, .cmd id, c.ask, s.now⟩] } } := by
  refine if_neg ?_
  simpa [State.nrgDown] using h

theorem askRand_down (s : State) (id : Nat) (c : Cmd) (h : s.rdF Reg.NRG_STAT 1 0 = 2) :
    s.askRand id c = s.complete id ⟨St.ENTROPY_FAULT, 0, none, [], true⟩ := by
  refine if_pos ?_
  simpa [State.nrgDown] using h

end

/-! What a row does with a validation's answer. -/

/-- The state in which a command that passed its validation is taken in: an OPM_RUN has taken its SEALED partition (R262). -/
def State.opmTaken (s : State) (c : Cmd) : State :=
  if c.op = 0x0F80 ∧ (s.opmPart c.fn).sealed = true then { s with opm := mput s.opm c.fn { s.opmPart c.fn with slots := [] } } else s

theorem opmTaken_frame (s : State) (c : Cmd) : s.opmTaken c = { s with opm := (s.opmTaken c).opm } := by
  unfold State.opmTaken
  split <;> rfl

theorem opmTaken_of_ne {s : State} {c : Cmd} (h : c.op ≠ 0x0F80) : s.opmTaken c = s := if_neg (fun hc => h hc.1)

/-- Where a validation's answer leads: the command is taken in, ends, or waits to be validated again. -/
def State.enters (s : State) (id : Nat) (c : Cmd) (r : Except Done Cmd) : State :=
  match r with
  | .ok c1 => (s.opmTaken c).takeIn id c1
  | .error d => s.validated id c (.error d)

theorem enters_of_ne {s : State} {id : Nat} {c : Cmd} (r : Except Done Cmd) (h : c.op ≠ 0x0F80) : s.enters id c r = s.validated id c r := by
  unfold State.enters
  rw [opmTaken_of_ne h]
  cases r <;> rfl

/-- The row of a command answers by its test and its validation. -/
def RowAnswers (s : State) (id : Nat) (c : Cmd) (i : Instr) (ok : Bool) (r : Except Done Cmd) : Prop :=
  exec i s = if ok && !s.behind id c then .next (s.enters id c r) else .next s

section
variable {s : State} {id : Nat} {c : Cmd}

/-- A row without an effect of its own before the command is taken in. -/
theorem rowAnswers_of_validated {i : Instr} {ok : Bool} {r : Except Done Cmd} (hop : ok = true → c.op ≠ 0x0F80)
    (hexec : exec i s = if ok && !s.behind id c then .next (s.validated id c r) else .next s) : RowAnswers s id c i ok r := by
  refine hexec.trans ?_
  cases ok with
  | false => rfl
  | true => rw [enters_of_ne r (hop rfl)]

theorem not_opmRun_of_algOpOk (h : algOpOk c.op = true) : c.op ≠ 0x0F80 := by
  obtain ⟨-, -, hkey⟩ := family_of_algOpOk h
  omega

theorem rowAnswers_alg (h : Started s id c) (hv : s.vendorKernel c.op = false) (host : HostRead) (p : Instr × Nat) (hp : p ∈ algRows id host) :
    RowAnswers s id c p.1 (algOpOk c.op && c.op % 256 == p.2) (s.algValidate c host) := by
  refine rowAnswers_of_validated (fun hok => not_opmRun_of_algOpOk (Bool.and_eq_true_iff.mp hok).1) ?_
  rw [exec_algRows s id host p hp]
  exact opRow_eq h hv

theorem rowAnswers_engine (h : Started s id c) (hv : s.vendorKernel c.op = false) (host : HostRead)
    (p : Instr × Nat × (Cmd → Except Done Cmd)) (hp : p ∈ engineRows s id host) : RowAnswers s id c p.1 (c.op == p.2.1) (p.2.2 c) := by
  obtain ⟨hexec, hne⟩ := exec_engineRows s id host p hp
  refine rowAnswers_of_validated (fun hok => by rwa [beq_iff_eq.mp hok]) ?_
  rw [hexec]
  exact opRow_eq h hv

theorem rowAnswers_testVariant (h : Started s id c) (hv : s.vendorKernel c.op = false) (host : HostRead) :
    RowAnswers s id c (.testVariant id host) (algOpOk c.op && decide (128 ≤ c.op % 256)) (s.algValidate c host) :=
  rowAnswers_of_validated (fun hok => not_opmRun_of_algOpOk (Bool.and_eq_true_iff.mp hok).1) (opRow_eq h hv)

theorem exec_kernelCommand (h : Started s id c) (host : HostRead) : exec (.kernelCommand id host) s =
    if ((decide (0x8000 ≤ c.op) && decide (c.op ≤ 0x8FFF)) || s.vendorKernel c.op) && !s.behind id c then
      .next (s.validated id c (s.kernelVal c host)) else .next s := startRow_eq h

theorem rowAnswers_kernelCommand (h : Started s id c) (hv : s.vendorKernel c.op = false) (host : HostRead) :
    RowAnswers s id c (.kernelCommand id host) (decide (0x8000 ≤ c.op) && decide (c.op ≤ 0x8FFF)) (s.kernelVal c host) := by
  refine rowAnswers_of_validated (fun hok => ?_) ?_
  · have := of_decide_eq_true (Bool.and_eq_true_iff.mp hok).1
    omega
  · rw [exec_kernelCommand h, hv, Bool.or_false]

/-- An OPM_RUN that starts is one that its validation let through, with its partition taken. -/
theorem opmStart_eq (host : HostRead) (hop : c.op = 0x0F80) : s.opmStart id c host = s.enters id c (s.opmRunVal c host) := by
  have htaken : s.opmTaken c = if (s.opmPart c.fn).sealed then s.setOpm c.fn { s.opmPart c.fn with slots := [] } else s := by
    simp [State.opmTaken, hop, State.setOpm]
  unfold State.opmStart State.enters
  rw [htaken]
  cases s.opmRunVal c host <;> rfl

theorem rowAnswers_opmRun (h : Started s id c) (hv : s.vendorKernel c.op = false) (host : HostRead) :
    RowAnswers s id c (.opmRun id host) (c.op == 0x0F80 && !s.opmBusy id c) (s.opmRunVal c host) := by
  have hexec : exec (.opmRun id host) s = if (c.op == 0x0F80 && !s.opmBusy id c) && !s.behind id c then .next (s.opmStart id c host) else .next s :=
    opRow_eq h hv
  refine hexec.trans ?_
  by_cases hop : c.op = 0x0F80
  · rw [opmStart_eq host hop]
  · simp [hop]

/-- What the obligation asks of a row whose test and validation are known. -/
theorem engineCommand_of_rowAnswers {i : Instr} {ok : Bool} {r : Except Done Cmd} (h : RowAnswers s id c i ok r) :
    (ok = false ∨ s.behind id c = true → exec i s = .next s) ∧
    (ok = true → s.behind id c = false →
      (∀ d, r = .error d → d.status ≠ 0x100 → exec i s = .next (s.complete id d)) ∧
      (∀ d, r = .error d → d.status = 0x100 → exec i s = .next { s with cmds := mput s.cmds id { c with phase := .waitUnseal, since := s.now } }) ∧
      (∀ c1, r = .ok c1 → exec i s = .next ((s.opmTaken c).takeIn id c1))) := by
  refine ⟨fun hno => h.trans (if_neg ?_), fun hok hbehind => ?_⟩
  · obtain hno | hno := hno <;> simp [hno]
  · have hgo : exec i s = _ := h.trans (if_pos (by simp [hok, hbehind]))
    refine ⟨?_, ?_, ?_⟩
    · rintro d rfl hd
      exact hgo.trans (congrArg _ (if_neg hd))
    · rintro d rfl hd
      exact hgo.trans (congrArg _ (if_pos hd))
    · rintro c1 rfl
      exact hgo

end

/-- Settles O30: each row answers by its test and its validation, and a command that passed goes on by `takeIn_plain`. -/
theorem engineCommands : Obligations.EngineCommands := by
  refine ⟨?rows, ?kernel⟩
  case rows =>
    intro s id c h hst hv i ok r hmem part base
    have hrow : RowAnswers s id c i ok r := by
      have hsplit : (i, ok, r) ∈ (algRows id h).map (fun p => (p.1, algOpOk c.op && c.op % 256 == p.2, s.algValidate c h)) ++
          ((Instr.testVariant id h, algOpOk c.op && decide (128 ≤ c.op % 256), s.algValidate c h) ::
            ((engineRows s id h).map (fun p => (p.1, c.op == p.2.1, p.2.2 c)) ++
              [(Instr.kernelCommand id h, decide (0x8000 ≤ c.op) && decide (c.op ≤ 0x8FFF), s.kernelVal c h),
                (Instr.opmRun id h, c.op == 0x0F80 && !s.opmBusy id c, s.opmRunVal c h)])) := hmem
      simp only [List.mem_append, List.mem_cons, List.mem_map, List.not_mem_nil, or_false, Prod.mk.injEq] at hsplit
      obtain ⟨p, hp, rfl, rfl, rfl⟩ | ⟨rfl, rfl, rfl⟩ | ⟨p, hp, rfl, rfl, rfl⟩ | ⟨rfl, rfl, rfl⟩ | ⟨rfl, rfl, rfl⟩ := hsplit
      · exact rowAnswers_alg hst hv h p hp
      · exact rowAnswers_testVariant hst hv h
      · exact rowAnswers_engine hst hv h p hp
      · exact rowAnswers_kernelCommand hst hv h
      · exact rowAnswers_opmRun hst hv h
    have hbase : base = { s with opm := base.opm } := opmTaken_frame s c
    obtain ⟨hidle, hgo⟩ := engineCommand_of_rowAnswers hrow
    refine ⟨hidle, fun hok hbehind => ?_⟩
    obtain ⟨hfails, hwaits, hpasses⟩ := hgo hok hbehind
    refine ⟨hfails, hwaits, hpasses, fun c1 hr hcode hleaf => ?_⟩
    have htake : exec i s = .next (base.takeIn id c1) := hpasses c1 hr
    rw [htake, takeIn_plain base id hcode hleaf]
    refine ⟨fun hneed => ?_, fun hneed hup => ?_, fun hneed hdown => ?_⟩
    · rw [if_neg (by omega), hbase]
    · rw [if_pos hneed, askRand_up _ _ _ (by rw [hbase]; exact hup), hbase, mput_mput_same]
      rfl
    · rw [if_pos hneed, askRand_down _ _ _ (by rw [hbase]; exact hdown), hbase]
  case kernel =>
    intro s id c h hst hbehind hv
    have hexec : exec (.kernelCommand id h) s = .next (s.validated id c (s.kernelVal c h)) :=
      (exec_kernelCommand hst h).trans (if_pos (by simp [hv, hbehind]))
    refine ⟨fun d hd hne => ?_, fun c1 hc1 => ?_⟩
    · rw [hexec, hd]
      exact congrArg _ (if_neg hne)
    · rw [hexec, hc1]
      rfl

end Sys2Proof.Machine
end

section
/-!
SUPPORT. Handles of other functions (spec file 05): what they resolve to, and how the operations on them end.
-/
namespace Sys2Proof.Machine
open Sys2Proof

/-! Checks of a validation in a row. -/

theorem need_true {b : Bool} {status : Nat} (h : b = true) : need b status = .ok () := if_pos h

theorem ok_bind {ε α β : Type} (a : α) (f : α → Except ε β) : (Except.ok a >>= f) = f a := rfl

theorem error_bind {ε α β : Type} (e : ε) (f : α → Except ε β) : (Except.error e >>= f) = .error e := rfl

/-! Handles of another function (R131). -/

theorem resolve_foreign (s : State) {fn h : Nat} (blobs : List (Nat × List Byte)) (hne : handleFn h ≠ fn) : s.resolve fn h blobs = .absent :=
  if_pos (.inr (.inr (.inl hne)))

theorem findKey_foreign (s : State) {fn h : Nat} (blobs : List (Nat × List Byte)) (fam : Nat → Bool) (hne : handleFn h ≠ fn) :
    s.findKey fn h blobs fam = .error (.err St.KEY_ABSENT) := by
  simp [State.findKey, resolve_foreign s blobs hne]

theorem anyObj_foreign (s : State) {fn h : Nat} (hne : handleFn h ≠ fn) (hblob : (s.noDsk && handleClass h == 1) = false) :
    s.anyObj fn h = .error (.err St.KEY_ABSENT) := by
  have hno : ¬ (s.noDsk = true ∧ handleClass h = 1) := by simpa using hblob
  simp [State.anyObj, hno, resolve_foreign s [] hne]

/-- What a handle names depends on the objects of its own function alone. -/
theorem resolve_objs (s : State) (objs : List (Nat × KeyObj)) (fn h : Nat) (blobs : List (Nat × List Byte))
    (hown : ∀ k, handleFn k = fn → mget objs k = mget s.ks.objs k) :
    ({ s with ks := { s.ks with objs := objs } } : State).resolve fn h blobs = s.resolve fn h blobs := by
  by_cases hfn : handleFn h = fn
  · unfold State.resolve
    simp only [hown h hfn]
    rfl
  · rw [resolve_foreign _ _ hfn, resolve_foreign _ _ hfn]

section
variable {s : State} {c : Cmd}

theorem fields_ok (h48 : leAt c.desc 48 8 = 0) (hh2 : c.h2 = 0) (hpub : c.h1 ≠ PUBLIC_IN_AUX) : c.fields true = .ok () :=
  need_true (by simp [h48, hh2, hpub])

/-- The operations on a resident object that resolve it first. -/
theorem keyOps_foreign (host : HostRead) (hne : handleFn c.h1 ≠ c.fn) (hblob : (s.noDsk && handleClass c.h1 == 1) = false)
    (hfields : c.fields true = .ok ()) :
    s.commitOp c host = .error (.err St.KEY_ABSENT) ∧ s.discardOp c host = .error (.err St.KEY_ABSENT) ∧
      s.destroyOp c host = .error (.err St.KEY_ABSENT) ∧ s.stageVerifyVal c host = .error (.err St.KEY_ABSENT) := by
  have hobj : s.anyObj c.fn c.h1 = .error (.err St.KEY_ABSENT) := anyObj_foreign s hne hblob
  refine ⟨?_, ?_, ?_, ?_⟩ <;>
    simp only [State.commitOp, State.discardOp, State.destroyOp, State.stageVerifyVal, hfields, hobj, ok_bind, error_bind]

/-- A public-key operation of a simple family that passes steps 3 and 4 resolves its key at step 5 (R25). -/
theorem algKeys_foreign (blobs : List (Nat × List Byte)) (hne : handleFn c.h1 ≠ c.fn) (hleg : hybLegs c.fam c.par = none) :
    s.algKeys c blobs = .error (.err St.KEY_ABSENT) := by
  simp only [State.algKeys, hleg, findKey_foreign s blobs _ hne, error_bind]

/-- Steps 3 and 4 of a public-key operation of a simple family that names a resident key or a sealed blob and no context (R25). -/
structure PassesToKeys (s : State) (c : Cmd) : Prop where
  par : parOk c.fam c.o c.par s.curveSpec = true
  b48 : byte48Ok c.fam c.o c.par (c.b 48) = true
  b49 : byte49Ok c.fam c.o (c.b 49) = true
  zero : leAt c.desc 50 6 = 0
  simple : hybLegs c.fam c.par = none
  named : c.h1 ≠ PUBLIC_IN_AUX
  single : c.h2 = 0
  noCtx : isCtxOp c.o = false
  noTest : c.op % 256 < 128
  blob : (s.noDsk && handleClass c.h1 == 1) = false

theorem algValidate_foreign (host : HostRead) (h : PassesToKeys s c) (hne : handleFn c.h1 ≠ c.fn) :
    s.algValidate c host = .error (.err St.KEY_ABSENT) := by
  obtain ⟨hpar, h48, h49, hzero, hsimple, hnamed, hsingle, hctx, htest, hblob⟩ := h
  have hpub : c.usesPublic = false := beq_false_of_ne hnamed
  have hnotest : c.test = false := by simp [Cmd.test, Nat.not_le.mpr htest]
  have hclass : handleClass 0 = 0 := rfl
  simp [State.algValidate, State.needBlob, need, ok_bind, error_bind, hpar, h48, h49, hzero, hsimple, hsingle, hctx, hnotest, hblob, hpub, hclass,
    algKeys_foreign host.blobs hne hsimple]

end

section
variable {s : State} {id : Nat} {c : Cmd}

/-- A row that applies to a command in its turn. -/
theorem opRow_next {f : Cmd → Bool} {g : Cmd → State} (h : MayStart s id c) (hf : f c = true) : opRow id f g s = .next (g c) := by
  obtain ⟨hst, hbehind, hv⟩ := h
  exact (opRow_eq hst hv).trans (if_pos (by simp [hf, hbehind]))

theorem exec_commit_error {d : Done} {host : HostRead} (h : MayStart s id c) (hop : c.op = 0x0F33) (hd : s.commitOp c host = .error d) :
    exec (.commit id host) s = .next (s.atOnce id c (.error d)) := by
  refine (opRow_next (f := fun c => c.op == 0x0F33) h (beq_iff_eq.mpr hop)).trans ?_
  rw [hd]

theorem exec_destroy_error {d : Done} {host : HostRead} (h : MayStart s id c) (hop : c.op = 0x0F40) (hd : s.destroyOp c host = .error d) :
    exec (.destroy id host) s = .next (s.atOnce id c (.error d)) := by
  refine (opRow_next (f := fun c => c.op == 0x0F40) h (beq_iff_eq.mpr hop)).trans ?_
  rw [hd]

theorem exec_discard {host : HostRead} (h : MayStart s id c) (hop : c.op = 0x0F34) :
    exec (.discard id host) s = .next (s.atOnce id c (s.discardOp c host)) := opRow_next h (beq_iff_eq.mpr hop)

theorem exec_stageVerify {host : HostRead} (h : MayStart s id c) (hop : c.op = 0x0F32) :
    exec (.stageVerify id host) s = .next (s.validated id c (s.stageVerifyVal c host)) := opRow_next h (beq_iff_eq.mpr hop)

theorem algRow_next {host : HostRead} (h : MayStart s id c) (halg : algOpOk c.op = true) :
    algRow (c.op % 256) id host s = .next (s.validated id c (s.algValidate c host)) := opRow_next h (by simp [halg])

end

/-- Settles O33: a handle of another function resolves to nothing, so step 5 ends each operation. -/
theorem foreignKeysAreAbsent : Obligations.ForeignKeysAreAbsent := by
  refine ⟨?resolves, ?stores, ?keyOps, ?algOps⟩
  case resolves => exact fun s fn h blobs => resolve_foreign s blobs
  case stores =>
    intro s t fn h blobs hown ht
    rw [ht]
    exact resolve_objs s t.ks.objs fn h blobs hown
  case keyOps =>
    intro s id c h hmay hne hblob h48 hh2 hpub i op hmem hop
    obtain ⟨hcommit, hdiscard, hdestroy, hverify⟩ := keyOps_foreign h hne hblob (fields_ok h48 hh2 hpub)
    simp only [List.mem_cons, List.not_mem_nil, or_false, Prod.mk.injEq] at hmem
    obtain ⟨rfl, rfl⟩ | ⟨rfl, rfl⟩ | ⟨rfl, rfl⟩ | ⟨rfl, rfl⟩ := hmem
    · exact exec_commit_error hmay hop hcommit
    · exact (exec_discard hmay hop).trans (by rw [hdiscard]; rfl)
    · exact exec_destroy_error hmay hop hdestroy
    · exact (exec_stageVerify hmay hop).trans (by rw [hverify]; rfl)
  case algOps =>
    intro s id c h hmay hne hblob hpub hleg halg htest hctx hpar h48 h49 hzero hh2 i o hmem hop
    have hrow : (i, o) ∈ (algRows id h).filter (fun p => !isCtxOp p.2) := hmem
    rw [exec_algRows s id h (i, o) (List.mem_of_mem_filter hrow), ← hop, algRow_next hmay halg,
      algValidate_foreign h ⟨hpar, h48, h49, hzero, hleg, hpub, hh2, hctx, htest, hblob⟩ hne]
    rfl

end Sys2Proof.Machine
end

section
/-!
SUPPORT. What a command releases once its legs have decided (spec files 01 and 05): outputs, contexts, verdicts, and the object of a GENERATE.
-/
namespace Sys2Proof.Machine
open Sys2Proof

theorem memWrites_ks (fn : Nat) (relaxed : Bool) (l : List (Nat × List Byte)) (s : State) :
    (l.foldl (fun (x : State) p => x.memWrite fn p.1 p.2 relaxed) s).ks = s.ks := by
  induction l generalizing s with
  | nil => rfl
  | cons p t ih => exact (ih _).trans (State.memWrite_ks _ _ _ _ _)

/-- Writing output leaves the key store. -/
@[simp] theorem writeOut_ks (s : State) (c : Cmd) (off : Nat) (data : List Byte) (relaxed : Bool) : (s.writeOut c off data relaxed).ks = s.ks :=
  memWrites_ks c.fn relaxed _ s

/-- A context takes a value of at most 128 bytes whole (R141). -/
theorem setCtx_short (s : State) (fn i : Nat) {v : List Byte} (op : Nat) (h : v.length ≤ 128) :
    s.setCtx fn i v op = { s with ks := { s.ks with ctxs := mput s.ks.ctxs (fn * 65536 + i) ⟨v, op⟩ } } := by
  unfold State.setCtx
  rw [if_pos h]
  rfl

/-! The release of a command by its family (R34). -/

theorem decided_of_map {legs : List Leg} {rs : List RunResult} (h : legs.map (·.decided) = rs.map some) :
    legs.all (fun l => l.decided.isSome) = true ∧ legs.filterMap (·.decided) = rs := by
  constructor
  · rw [List.all_eq_true]
    intro l hl
    have hmem : l.decided ∈ rs.map some := h ▸ List.mem_map_of_mem hl
    obtain ⟨r, -, hr⟩ := List.mem_map.mp hmem
    simp [← hr]
  · have hid := congrArg (List.filterMap id) h
    simpa [List.filterMap_map, Function.comp_def] using hid

theorem no_failed_leg {rs : List RunResult} (h : ∀ r ∈ rs, r.status = 0) : rs.find? (fun r => r.status != 0) = none := by
  simpa using h

section
variable {s : State} {id : Nat} {c : Cmd} {rs : List RunResult}

theorem finish_alg (hget : mget s.cmds id = some c) (hkern : c.kern = false) (hdec : c.legs.map (·.decided) = rs.map some)
    (hop : algOpOk c.op = true) : s.finish id = s.algFinish id c rs := by
  obtain ⟨hall, hrs⟩ := decided_of_map hdec
  obtain ⟨hdge, hchk, hkey⟩ := family_of_algOpOk hop
  have hopm : c.op ≠ 0x0F80 := not_opmRun_of_algOpOk hop
  simp [State.finish, hget, hall, hrs, hkern, hdge, hchk, hopm, hkey]

theorem finish_generate (hget : mget s.cmds id = some c) (hkern : c.kern = false) (hdec : c.legs.map (·.decided) = rs.map some)
    (hop : c.op = 0x0F01) (hpass : ∀ r ∈ rs, r.status = 0) :
    s.finish id = s.deliverObj id c c.aux (rs.flatMap (·.secret)) (rs.flatMap (·.out)) (rs.flatMap (·.out)) := by
  obtain ⟨hall, hrs⟩ := decided_of_map hdec
  have hbad := no_failed_leg hpass
  simp [State.finish, State.keyFinish, Cmd.attrRec, hget, hall, hrs, hkern, hop, hbad]

/-! The release of a public-key operation. -/

theorem algFinish_failed {r : RunResult} (h : rs.find? (fun x => x.status != 0) = some r) :
    s.algFinish id c rs = s.complete id ⟨r.status, 0, none, r.inline, true⟩ := by
  simp [State.algFinish, h]

/-- A KEM's ciphertext, with its secret or with the context that takes it (R23, R34). -/
theorem algFinish_kem (hpass : ∀ r ∈ rs, r.status = 0) (ho : isEncaps c.o = true ∨ isDecaps c.o = true) (hctx : isCtxOp c.o = false) :
    s.algFinish id c rs = (s.writeOut c 0 ((s.kemResult c rs).1 ++ (s.kemResult c rs).2) true).complete id
      (.ok ((s.kemResult c rs).1 ++ (s.kemResult c rs).2).length (c.algInline rs)) := by
  have hbad := no_failed_leg hpass
  simp [State.algFinish, hbad, ho, hctx]

theorem algFinish_kemCtx (hpass : ∀ r ∈ rs, r.status = 0) (ho : isEncaps c.o = true ∨ isDecaps c.o = true) (hctx : isCtxOp c.o = true) :
    s.algFinish id c rs = ((s.writeOut c 0 (s.kemResult c rs).1 true).setCtx c.fn c.ctx (s.kemResult c rs).2 c.op).complete id
      (.ok (s.kemResult c rs).1.length (c.algInline rs)) := by
  have hbad := no_failed_leg hpass
  simp [State.algFinish, hbad, ho, hctx]

theorem algFinish_agreeCtx (hpass : ∀ r ∈ rs, r.status = 0) (ho : c.o = 0x31) :
    s.algFinish id c rs = (s.setCtx c.fn c.ctx (rs.flatMap (·.secret)) c.op).complete id (.ok 0 (c.algInline rs)) := by
  have hbad := no_failed_leg hpass
  simp [State.algFinish, hbad, ho, isEncaps, isDecaps]

theorem algFinish_verify (hpass : ∀ r ∈ rs, r.status = 0) (ho : isVerify c.o = true) :
    s.algFinish id c rs = s.complete id ⟨St.SUCCESS, 0, some (rs.all (fun r => r.verdict == some true)), c.algInline rs, true⟩ := by
  have hbad := no_failed_leg hpass
  have hclass : isEncaps c.o = false ∧ isDecaps c.o = false ∧ c.o ≠ 0x31 := by
    simp [isVerify, isEncaps, isDecaps] at ho ⊢
    omega
  obtain ⟨henc, hdec, hne⟩ := hclass
  simp [State.algFinish, hbad, henc, hdec, hne, ho]

theorem algFinish_output (hpass : ∀ r ∈ rs, r.status = 0) (ho : isSign c.o = true ∨ c.o = 0x30 ∨ c.o = 0x40 ∨ c.o = 0x41) :
    s.algFinish id c rs = (s.writeOut c 0 (rs.flatMap (·.out)) true).complete id (.ok (rs.flatMap (·.out)).length (c.algInline rs)) := by
  have hbad := no_failed_leg hpass
  have hclass : isEncaps c.o = false ∧ isDecaps c.o = false ∧ c.o ≠ 0x31 ∧ isVerify c.o = false := by
    simp [isSign, isVerify, isEncaps, isDecaps] at ho ⊢
    omega
  obtain ⟨henc, hdec, hne, hver⟩ := hclass
  simp [State.algFinish, hbad, henc, hdec, hne, hver]

theorem kemResult_simple (s : State) (c : Cmd) (r : RunResult) : s.kemResult c [r] = (r.out, r.secret) := rfl

/-- The two legs of a hybrid ENCAPS (R49). -/
theorem kemResult_hybrid (s : State) {c : Cmd} (p t : RunResult) {k : KeyMat} (ho : c.o = 0x10) (hk : c.k2 = some k) :
    s.kemResult c [p, t] = (p.out ++ t.out, c.combine p.secret t.secret t.out k.pub) := by
  simp [State.kemResult, ho, hk, isEncaps]

end

/-! The object that GENERATE makes (R136, R146). -/

section
variable {s : State}

/-- Standing before a leaf changes nothing but the counter and the trees of a generation. -/
theorem at_frame (g : KeyGen) (fam q : Nat) :
    g.at_ fam q = { g with next := q, trees := (g.at_ fam q).trees, links := (g.at_ fam q).links } := by
  unfold KeyGen.at_
  split <;> rfl

theorem freshObj_act (s : State) (a priv pub : List Byte) :
    (s.freshObj a priv pub).act.gen = 1 ∧ (s.freshObj a priv pub).act.uid = s.ks.uids ∧ (s.freshObj a priv pub).act.priv = priv ∧
      (s.freshObj a priv pub).act.pub = pub := by
  simp only [State.freshObj, State.genFor]
  rw [at_frame]
  exact ⟨rfl, rfl, rfl, rfl⟩

/-- A new object that is neither PERSISTENT nor a Classic McEliece key takes its place and the next number. -/
theorem storeObj_volatile (s : State) (h : Nat) (a priv pub : List Byte) (hvol : attrPersist a = false) (hfam : attrFam a ≠ 0x07) :
    s.storeObj h (s.freshObj a priv pub) =
      { s with ks := { s.ks with uids := s.ks.uids + 1, objs := mput s.ks.objs h (s.freshObj a priv pub) } } := by
  obtain ⟨-, huid, -, -⟩ := freshObj_act s a priv pub
  have hattrs : (s.freshObj a priv pub).attrs = a := rfl
  simp [State.storeObj, State.setObj, huid, hattrs, hvol, hfam]

theorem newObj_quota (s : State) (fn : Nat) (a priv pub : List Byte) (h : s.quotaHit fn (privBytes (attrFam a) (attrPar a) priv) true ≠ 0) :
    s.newObj fn a priv pub = .error (.fail St.QUOTA [BitVec.ofNat 8 (s.quotaHit fn (privBytes (attrFam a) (attrPar a) priv) true)]) := if_pos h

theorem newObj_volatile {fn h : Nat} {a : List Byte} (priv pub : List Byte)
    (hq : s.quotaHit fn (privBytes (attrFam a) (attrPar a) priv) true = 0) (hvol : attrPersist a = false) (hfam : attrFam a ≠ 0x07)
    (hlost : s.sealState ≠ Seal.LOST) (hfree : s.freeHandle fn = some h) :
    s.newObj fn a priv pub = .ok (s.storeObj h (s.freshObj a priv pub), h) := by
  have hroom : s.ckFull (attrFam a) pub.length none = false := by simp [State.ckFull, hfam]
  simp [State.newObj, hq, hroom, hvol, hlost, hfree]

theorem deliverObj_error {a priv pub : List Byte} (id : Nat) (c : Cmd) (out : List Byte) {d : Done} (h : s.newObj c.fn a priv pub = .error d) :
    s.deliverObj id c a priv pub out = s.complete id { d with timed := true } := by
  unfold State.deliverObj
  rw [h]
  rfl

/-- The public key is written before the completion that carries the handle (R34, R146). -/
theorem deliverObj_ok {a priv pub : List Byte} (id : Nat) (c : Cmd) (out : List Byte) {t : State} {h : Nat}
    (hnew : s.newObj c.fn a priv pub = .ok (t, h)) :
    s.deliverObj id c a priv pub out = (t.writeOut c 0 out true).complete id (.ok out.length (natLE 4 h)) := by
  unfold State.deliverObj
  rw [hnew]

end

/-- Settles O36, clause by clause from the releases above. -/
theorem releasedResults : Obligations.ReleasedResults := by
  intro s id c rs hget hkern hdec
  refine ⟨fun hop => ?alg, fun hop hpass => ?generate⟩
  case alg =>
    rw [finish_alg hget hkern hdec hop]
    refine ⟨fun r => algFinish_failed, fun hpass => ?_⟩
    refine ⟨fun ho => ⟨_, algFinish_verify hpass ho⟩, fun ho => ⟨_, algFinish_output hpass ho⟩, ?kem, ?kemCtx, ?hybrid, ?agreeCtx⟩
    case kem =>
      rintro r rfl ho
      have hfin := algFinish_kem (s := s) (id := id) (c := c) hpass (by obtain ho | ho := ho <;> simp [ho, isEncaps, isDecaps])
        (by obtain ho | ho := ho <;> simp [ho, isCtxOp])
      rw [kemResult_simple] at hfin
      exact ⟨_, hfin⟩
    case kemCtx =>
      rintro r rfl ho hlen
      have hfin := algFinish_kemCtx (s := s) (id := id) (c := c) hpass (by obtain ho | ho := ho <;> simp [ho, isEncaps, isDecaps])
        (by obtain ho | ho := ho <;> simp [ho, isCtxOp])
      rw [kemResult_simple, setCtx_short _ _ _ _ hlen, writeOut_ks] at hfin
      exact ⟨_, hfin⟩
    case hybrid =>
      rintro p t k rfl ho hk
      have hfin := algFinish_kem (s := s) (id := id) (c := c) hpass (by simp [ho, isEncaps]) (by simp [ho, isCtxOp])
      rw [kemResult_hybrid s p t ho hk] at hfin
      exact ⟨_, hfin⟩
    case agreeCtx =>
      rintro r rfl ho hlen
      have hfin := algFinish_agreeCtx (s := s) (id := id) (c := c) hpass ho
      rw [List.flatMap_singleton, setCtx_short _ _ _ _ hlen] at hfin
      exact ⟨_, hfin⟩
  case generate =>
    rw [finish_generate hget hkern hdec hop hpass]
    intro priv pub q
    refine ⟨fun hq => ?_, fun hq hvol hlost h hfree hfam => ?_⟩
    · have hend := deliverObj_error id c pub (newObj_quota s c.fn c.aux priv pub hq)
      exact hend
    obtain ⟨hgen, huid, hpriv, hpub⟩ := freshObj_act s c.aux priv pub
    refine ⟨s.freshObj c.aux priv pub, rfl, hgen, huid, hpriv, hpub, rfl, rfl, ?_⟩
    rw [← storeObj_volatile s h c.aux priv pub hvol hfam]
    exact deliverObj_ok id c pub (newObj_volatile priv pub hq hvol hfam hlost hfree)

end Sys2Proof.Machine
end

section
/-!
SUPPORT. Leaves of stateful keys, the code-key cache and the generations that retire (spec files 01, 05 and 08): what each event does to the key
store, and what a class D fault leaves.
-/
namespace Sys2Proof.Machine
open Sys2Proof

/-! Maps and lists. -/

theorem mget_mmod_same {α : Type} (m : List (Nat × α)) (k : Nat) (f : α → α) : mget (mmod m k f) k = (mget m k).map f := by
  induction m with
  | nil => rfl
  | cons x t ih =>
    obtain ⟨a, b⟩ := x
    simp only [mmod, List.map_cons] at ih ⊢
    by_cases ha : a = k <;> simp [ha, mget, ih]

theorem mget_mmod_of_mget {α : Type} {m : List (Nat × α)} {k : Nat} {v : α} (f : α → α) (h : mget m k = some v) :
    mget (mmod m k f) k = some (f v) := by rw [mget_mmod_same, h]; rfl

theorem mem_of_mget {α : Type} {m : List (Nat × α)} {k : Nat} {v : α} (h : mget m k = some v) : (k, v) ∈ m := by
  induction m with
  | nil => simp [mget] at h
  | cons x t ih =>
    obtain ⟨a, b⟩ := x
    by_cases ha : a = k
    · simp_all [mget]
    · rw [mget, if_neg ha] at h
      exact List.mem_cons_of_mem _ (ih h)

/-- A change of the elements that pass a test, which they go on to pass, changes the first of them. -/
theorem find?_map_where {α : Type} (p : α → Bool) (f : α → α) (hf : ∀ a, p a = true → p (f a) = true) (l : List α) :
    (l.map (fun a => if p a then f a else a)).find? p = (l.find? p).map f := by
  induction l with
  | nil => rfl
  | cons a t ih =>
    cases ha : p a with
    | true => simp [ha, hf a ha]
    | false => simpa [ha] using ih

/-! Generations. -/

section
variable {uid : Nat} {f : KeyGen → KeyGen}

theorem genOf_modGen (o : KeyObj) (hf : ∀ g, (f g).uid = g.uid) : (o.modGen uid f).genOf uid = (o.genOf uid).map f := by
  have hret := find?_map_where (fun g : KeyGen => g.uid == uid) f (fun g hg => by rw [hf]; exact hg) o.retiring
  simp only [beq_iff_eq] at hret
  by_cases ha : o.act.uid = uid
  · simp [KeyObj.genOf, KeyObj.modGen, ha, hf]
  · simp [KeyObj.genOf, KeyObj.modGen, ha, hret]

/-- A generation changed without its number is found changed. -/
theorem findGen_modGen (s : State) (h : Nat) (hf : ∀ g, (f g).uid = g.uid) :
    (s.modGen h uid f).findGen h uid = (s.findGen h uid).map f := by
  have hdying := find?_map_where (fun x : Nat × KeyGen => x.1 == h && x.2.uid == uid) (fun x => (x.1, f x.2))
    (fun x hx => by rw [hf]; exact hx) s.ks.dying
  simp only [Bool.and_eq_true, beq_iff_eq] at hdying
  simp only [State.findGen, State.modGen, mget_mmod_same, hdying]
  cases ho : mget s.ks.objs h with
  | none => simp [Function.comp_def]
  | some o =>
    simp only [Option.map_some, Option.bind_some, genOf_modGen o hf]
    cases o.genOf uid <;> simp [Function.comp_def]

end

/-! The next leaf (R155). -/

section
variable {s : State} {id : Nat} {c : Cmd} {k : KeyMat} {g : KeyGen}

/-- The command takes a leaf of the generation that its key names. -/
structure NeedsLeaf (c : Cmd) (k : KeyMat) : Prop where
  noCode : c.codeKey = none
  wants : c.wantsLeaf = true
  notYet : c.leaf = none
  key : c.k1 = some k

/-- The key can give no leaf, now or later (R156). -/
def State.noLeafLeft (s : State) (k : KeyMat) (g : KeyGen) : Prop :=
  (s.holder k.handle k.uid).any (·.frozen) = true ∨ g.stuck = true ∨ g.last < g.next

/-- The key gives no leaf for now: its state is being rebuilt, or the counter stands at its ceiling. -/
def State.leafWaits (s : State) (k : KeyMat) (g : KeyGen) : Prop :=
  (s.holder k.handle k.uid).any (·.rebuild) = true ∨ g.ceil ≤ g.next

theorem not_noLeafLeft (hfrozen : (s.holder k.handle k.uid).any (·.frozen) = false) (hstuck : g.stuck = false) (hlast : g.next ≤ g.last) :
    ¬ s.noLeafLeft k g := by simp [State.noLeafLeft, hfrozen, hstuck, hlast]

theorem not_leafWaits (hrebuild : (s.holder k.handle k.uid).any (·.rebuild) = false) (hceil : g.next < g.ceil) : ¬ s.leafWaits k g := by
  simp [State.leafWaits, hrebuild, hceil]

/-- Leaves of a reservation block of the key's object. -/
def State.leafBlock (s : State) (k : KeyMat) : Nat := s.blockOf (((s.holder k.handle k.uid).map (·.attrs)).getD k.attrs)

/-- The generation once a command waits for one of its leaves: a ceiling write may be due, but in a rebuild. -/
def State.leafDue (s : State) (k : KeyMat) (g : KeyGen) : KeyGen :=
  if (s.holder k.handle k.uid).any (·.rebuild) then g else g.raise (s.leafBlock k)

/-- The generation once its next leaf is given. -/
def State.leafGiven (s : State) (k : KeyMat) (g : KeyGen) : KeyGen := (g.at_ k.fam (g.next + 1)).raise (s.leafBlock k)

/-- A ceiling write that becomes due changes nothing else of a generation. -/
theorem raise_fields (g : KeyGen) (block : Nat) :
    (g.raise block).next = g.next ∧ (g.raise block).ceil = g.ceil ∧ (g.raise block).priv = g.priv ∧ (g.raise block).uid = g.uid := by
  unfold KeyGen.raise
  split <;> exact ⟨rfl, rfl, rfl, rfl⟩

theorem leafDue_fields (s : State) (k : KeyMat) (g : KeyGen) :
    (s.leafDue k g).next = g.next ∧ (s.leafDue k g).ceil = g.ceil ∧ (s.leafDue k g).uid = g.uid := by
  obtain ⟨hnext, hceil, -, huid⟩ := raise_fields g (s.leafBlock k)
  unfold State.leafDue
  split
  · exact ⟨rfl, rfl, rfl⟩
  · exact ⟨hnext, hceil, huid⟩

theorem leafGiven_fields (s : State) (k : KeyMat) (g : KeyGen) : (s.leafGiven k g).next = g.next + 1 ∧ (s.leafGiven k g).ceil = g.ceil ∧
    (s.leafGiven k g).priv = g.priv ∧ (s.leafGiven k g).uid = g.uid := by
  have hraise := raise_fields (g.at_ k.fam (g.next + 1)) (s.leafBlock k)
  rw [at_frame] at hraise
  unfold State.leafGiven
  rw [at_frame]
  exact hraise

theorem takeIn_leaf_absent (id : Nat) (hc : NeedsLeaf c k) (hg : s.findGen k.handle k.uid = none) :
    s.takeIn id c = (s.setCmd id c).complete id (.late St.KEY_ABSENT) := by
  have hg' : (s.setCmd id c).findGen k.handle k.uid = none := hg
  obtain ⟨hcode, hwants, hleaf, hkey⟩ := hc
  change (s.setCmd id c).advance id = _
  simp [State.advance, mget_mput_same, hcode, hwants, hleaf, hkey, hg']

theorem takeIn_leaf_exhausted (id : Nat) (hc : NeedsLeaf c k) (hg : s.findGen k.handle k.uid = some g) (hno : s.noLeafLeft k g) :
    s.takeIn id c = (s.setCmd id c).complete id (.late St.KEY_EXHAUSTED) := by
  have hg' : (s.setCmd id c).findGen k.handle k.uid = some g := hg
  have hno' : (s.setCmd id c).noLeafLeft k g := hno
  obtain ⟨hcode, hwants, hleaf, hkey⟩ := hc
  change (s.setCmd id c).advance id = _
  simp only [State.advance, State.setCmd_cmds, mget_mput_same, hcode, hwants, hleaf, hkey, hg', and_self, if_true]
  exact if_pos hno'

theorem takeIn_leaf_waits (id : Nat) (hc : NeedsLeaf c k) (hg : s.findGen k.handle k.uid = some g) (hleft : ¬ s.noLeafLeft k g)
    (hw : s.leafWaits k g) : s.takeIn id c =
      ((s.setCmd id c).modGen k.handle k.uid (s.leafDue k)).setCmd id { c with phase := .waitLeaf, since := s.now } := by
  have hg' : (s.setCmd id c).findGen k.handle k.uid = some g := hg
  have hleft' : ¬ (s.setCmd id c).noLeafLeft k g := hleft
  have hw' : (s.setCmd id c).leafWaits k g := hw
  obtain ⟨hcode, hwants, hleaf, hkey⟩ := hc
  change (s.setCmd id c).advance id = _
  simp only [State.advance, State.setCmd_cmds, mget_mput_same, hcode, hwants, hleaf, hkey, hg', and_self, if_true]
  exact (if_neg hleft').trans (if_pos hw')

theorem takeIn_leaf_given (id : Nat) (hc : NeedsLeaf c k) (hg : s.findGen k.handle k.uid = some g) (hleft : ¬ s.noLeafLeft k g)
    (hw : ¬ s.leafWaits k g) (hneed : c.need = 0) : s.takeIn id c =
      ((s.setCmd id c).modGen k.handle k.uid (s.leafGiven k)).setCmd id
        { c with leaf := some g.next, k1 := some { k with trees := g.trees, links := g.links }, phase := .ready } := by
  have hg' : (s.setCmd id c).findGen k.handle k.uid = some g := hg
  have hleft' : ¬ (s.setCmd id c).noLeafLeft k g := hleft
  have hw' : ¬ (s.setCmd id c).leafWaits k g := hw
  obtain ⟨hcode, hwants, hleaf, hkey⟩ := hc
  change (s.setCmd id c).advance id = _
  simp only [State.advance, State.setCmd_cmds, mget_mput_same, hcode, hwants, hleaf, hkey, hg', and_self, if_true]
  exact ((if_neg hleft').trans (if_neg hw')).trans (if_neg (by simp [hneed]))

end

/-! A class D fault. -/

/-- A class D fault is recorded, and a message may go out; commands, keys and cores stay. -/
theorem flt1_classD_frame (s : State) (src : Nat) :
    (s.flt1 src 1).ks = s.ks ∧ (s.flt1 src 1).cmds = s.cmds ∧ (s.flt1 src 1).pvcs = s.pvcs := by
  unfold State.flt1 State.fault
  simp only [clsF, show ¬ (1 = 2) by decide, if_false]
  (repeat' split) <;> simp

/-- The registers in which a fault of a source is recorded (R361, R362). -/
def faultRegs (src : Nat) : List Nat := [Reg.FLT_STICKY (src / 32), Reg.FLT_CNT0, Reg.FLT_FIRST, Reg.FLT_FIRST_TS 0, Reg.FLT_FIRST_TS 1]

theorem rd_msix (s : State) (fn vec gn off : Nat) : (s.msix fn vec).rd gn off = s.rd gn off := by
  unfold State.rd
  rw [State.msix_regs]

theorem rd_flt1_classD (s : State) (src off : Nat) (h : off ∉ faultRegs src) : (s.flt1 src 1).rd 0 off = s.rd 0 off := by
  simp only [faultRegs, List.mem_cons, List.not_mem_nil, or_false, not_or] at h
  obtain ⟨hsticky, hcnt, hfirst, hts0, hts1⟩ := h
  unfold State.flt1 State.fault
  simp only [clsF, show ¬ (1 = 2) by decide, if_false]
  (repeat' split) <;> simp [rd_msix, State.wrB, State.wrF, State.incF, rd_wr_pf, hsticky, hcnt, hfirst, hts0, hts1] <;> rfl

/-! Events that no command waits for. -/

theorem advanceAll_idle {s : State} {f : Cmd → Bool} (h : ∀ x ∈ s.cmds, f x.2 = false) : s.advanceAll f = s := by
  have hnone : s.cmds.filter (fun x => f x.2) = [] := by simpa using h
  simp [State.advanceAll, hnone]

theorem waitsFor_idle {c : Cmd} (h : Nat) (hc : c.phase ≠ .waitLoad) : c.waitsFor h = false := by simp [Cmd.waitsFor, hc]

theorem advanceAll_waitsLeaf_idle {s : State} (h : Nat) (hidle : ∀ x ∈ s.cmds, x.2.phase ≠ .waitLeaf) : s.advanceAll (·.waitsLeaf h) = s :=
  advanceAll_idle (fun x hx => by simp [Cmd.waitsLeaf, hidle x hx])

theorem advanceAll_waitsFor_idle {s : State} (h : Nat) (hidle : ∀ x ∈ s.cmds, x.2.phase ≠ .waitLoad) : s.advanceAll (·.waitsFor h) = s :=
  advanceAll_idle (fun x hx => waitsFor_idle h (hidle x hx))

theorem nextLoad_idle {s : State} (h : s.ks.codeKeys.any (fun k => k.loading) = true ∨ ∀ x ∈ s.cmds, x.2.phase ≠ .waitLoad) :
    s.nextLoad = s := by
  unfold State.nextLoad
  obtain hload | hidle := h
  · rw [if_pos hload]
  · have hnone : s.cmds.find? (fun c => c.2.phase == .waitLoad) = none := by simpa using hidle
    simp [hnone]

/-! Ceiling writes (R155, R156). -/

/-- The generation once its ceiling write has ended well. -/
def KeyGen.ceilAt (g : KeyGen) (v : Nat) : KeyGen := { g with ceil := v, raising := none, seqNo := g.seqNo + 1 }

/-- The generation once no block is left in which to journal it. -/
def KeyGen.stick (g : KeyGen) : KeyGen := { g with raising := none, stuck := true }

/-- A ceiling write of a generation has ended well: the journal record stands in flash. -/
def State.ceilRaised (s : State) (h uid v : Nat) : State :=
  let s1 := s.modGen h uid (fun x => x.ceilAt v)
  { s1 with ks := { s1.ks with flash := mmod s1.ks.flash h (fun f => if f.obj.act.uid = uid then { f with ceil := v } else f) } }

/-- A ceiling write of a generation has failed for good: the object that still holds it is FROZEN. -/
def State.ceilStuck (s : State) (h uid : Nat) : State :=
  let s1 := s.modGen h uid KeyGen.stick
  match s.holder h uid with
  | some o => if o.frozen then s1 else
      ({ s1 with ks := { s1.ks with
        objs := mmod s1.ks.objs h (fun o => { o with frozen := true })
        flash := mmod s1.ks.flash h (fun f => { f with obj := { f.obj with frozen := true } }) } }).incF Reg.KST_HBS 15 5 1
  | none => s1

section
variable {s : State} {h : Nat} {g : KeyGen}

theorem exec_journalWriteDone_none (ok : Bool) (hr : s.raisingGen h = none) : exec (.journalWriteDone h ok) s = .next s := by
  change execJournalWriteDone h ok s = _
  simp [execJournalWriteDone, hr]

theorem exec_journalWriteDone_ok {v : Nat} (hidle : ∀ x ∈ s.cmds, x.2.phase ≠ .waitLeaf) (hr : s.raisingGen h = some g)
    (hv : g.raising = some v) : exec (.journalWriteDone h true) s = .next (s.ceilRaised h g.uid v) := by
  change execJournalWriteDone h true s = _
  simp only [execJournalWriteDone, hr, hv, if_true]
  exact congrArg Host.Outcome.next (advanceAll_waitsLeaf_idle (s := s.ceilRaised h g.uid v) h hidle)

theorem exec_journalWriteDone_spare (hr : s.raisingGen h = some g) (hs : 0 < s.ks.hbsSpare) :
    exec (.journalWriteDone h false) s =
      .next (({ s with ks := { s.ks with hbsSpare := s.ks.hbsSpare - 1 } } : State).wrF Reg.KST_HBS 23 16 (s.ks.hbsSpare - 1)) := by
  change execJournalWriteDone h false s = _
  simp [execJournalWriteDone, hr, hs]

theorem ceilStuck_cmds (s : State) (h uid : Nat) : (s.ceilStuck h uid).cmds = s.cmds := by
  unfold State.ceilStuck
  split
  · split <;> rfl
  · rfl

/-- What a failed ceiling write leaves of the state, its fault recorded. -/
theorem ceilStuck_fault_frame (s : State) (h uid : Nat) : ((s.ceilStuck h uid).flt1 260 1).ks = (s.ceilStuck h uid).ks ∧
    ((s.ceilStuck h uid).flt1 260 1).cmds = s.cmds := by
  obtain ⟨hks, hcmds, -⟩ := flt1_classD_frame (s.ceilStuck h uid) 260
  exact ⟨hks, hcmds.trans (ceilStuck_cmds s h uid)⟩

theorem exec_journalWriteDone_stuck (hidle : ∀ x ∈ s.cmds, x.2.phase ≠ .waitLeaf) (hr : s.raisingGen h = some g) (hs : s.ks.hbsSpare = 0) :
    exec (.journalWriteDone h false) s = .next ((s.ceilStuck h g.uid).flt1 260 1) := by
  obtain ⟨-, hcmds⟩ := ceilStuck_fault_frame s h g.uid
  change execJournalWriteDone h false s = _
  simp only [execJournalWriteDone, hr, hs]
  exact congrArg Host.Outcome.next (advanceAll_waitsLeaf_idle (s := (s.ceilStuck h g.uid).flt1 260 1) h (hcmds ▸ hidle))

theorem findGen_ceilRaised (s : State) (h uid v : Nat) :
    (s.ceilRaised h uid v).findGen h uid = (s.findGen h uid).map (fun x => x.ceilAt v) := findGen_modGen s h (fun _ => rfl)

theorem ceilRaised_flash {uid : Nat} (v : Nat) {f : FlashKey} (hf : mget s.ks.flash h = some f) (huid : f.obj.act.uid = uid) :
    mget (s.ceilRaised h uid v).ks.flash h = some { f with ceil := v } := by
  simp [State.ceilRaised, State.modGen, mget_mmod_same, hf, huid]

/-- Freezing an object leaves its generations. -/
theorem findGen_freeze (s : State) (h uid : Nat) (flash : List (Nat × FlashKey)) :
    ({ s with ks := { s.ks with objs := mmod s.ks.objs h (fun o => { o with frozen := true }), flash := flash } } : State).findGen h uid =
      s.findGen h uid := by
  simp only [State.findGen, mget_mmod_same]
  cases mget s.ks.objs h <;> rfl

theorem findGen_ceilStuck (s : State) (h uid : Nat) : (s.ceilStuck h uid).findGen h uid = (s.findGen h uid).map KeyGen.stick := by
  have hmod : (s.modGen h uid KeyGen.stick).findGen h uid = (s.findGen h uid).map KeyGen.stick := findGen_modGen s h (fun _ => rfl)
  unfold State.ceilStuck
  split
  · split
    · exact hmod
    · exact (findGen_freeze _ h uid _).trans hmod
  · exact hmod

theorem mget_of_holder {uid : Nat} {o : KeyObj} (ho : s.holder h uid = some o) : mget s.ks.objs h = some o := by
  obtain ⟨p, hp, hsome⟩ := Option.bind_eq_some_iff.mp ho
  split at hsome <;> simp_all

/-- The object that holds a stuck generation is FROZEN. -/
theorem ceilStuck_freezes {uid : Nat} {o : KeyObj} (ho : s.holder h uid = some o) :
    ∃ p, mget (s.ceilStuck h uid).ks.objs h = some p ∧ p.frozen = true ∧ p.attrs = o.attrs := by
  have hget : mget s.ks.objs h = some o := mget_of_holder ho
  unfold State.ceilStuck
  simp only [ho]
  split
  · next hfrozen => exact ⟨o.modGen uid KeyGen.stick, by simp [State.modGen, mget_mmod_same, hget], hfrozen, rfl⟩
  · exact ⟨{ o.modGen uid KeyGen.stick with frozen := true }, by simp [State.incF, State.modGen, mget_mmod_same, hget], rfl, rfl⟩

end

/-! Rebuilds (R223). -/

theorem exec_hteRebuildDone {s : State} {h : Nat} {o : KeyObj} (hidle : ∀ x ∈ s.cmds, x.2.phase ≠ .waitLeaf) (hget : mget s.ks.objs h = some o) :
    exec (.hteRebuildDone h) s = if (s.rebuildOrder.take (((unitsOf .hte).filter s.isFree).length / 2)).contains h then
      .next (s.setObj h { o with rebuild := false, act := o.act.at_ (attrFam o.attrs) o.act.next }) else .next s := by
  have hrest := advanceAll_waitsLeaf_idle (s := s.setObj h { o with rebuild := false, act := o.act.at_ (attrFam o.attrs) o.act.next }) h hidle
  change execHteRebuildDone h s = _
  simp only [execHteRebuildDone, hget, hrest]

/-! The code-key cache (R139, R140). -/

/-- An entry of the cache replaced. -/
def State.putCode (s : State) (h : Nat) (k : CodeKey) : State :=
  { s with ks := { s.ks with codeKeys := s.ks.codeKeys.map (fun (x : CodeKey) => if x.handle = h then k else x) } }

/-- An entry of the cache dropped, its failed check reported. -/
def State.codeFailed (s : State) (h : Nat) : State :=
  ({ s with ks := { s.ks with codeKeys := s.ks.codeKeys.filter (fun x => x.handle != h) } }.wrB Reg.KST_STAT 6 false).flt1 260 1

section
variable {s : State} {h : Nat} {k : CodeKey}

theorem exec_codeKeyPortion_last (hidle : ∀ x ∈ s.cmds, x.2.phase ≠ .waitLoad)
    (hk : s.ks.codeKeys.find? (fun x => x.handle == h && x.loading) = some k) (hl : k.gran ≤ k.loaded + 4) : exec (.codeKeyPortion h true) s =
      .next ((s.putCode h { k with loaded := max k.loaded k.gran, loading := false }).wrB Reg.KST_STAT 6 false) := by
  have hn : k.loaded + Nat.min 4 (k.gran - k.loaded) = max k.loaded k.gran := by
    have : Nat.min 4 (k.gran - k.loaded) = k.gran - k.loaded := Nat.min_eq_right (by omega)
    omega
  have hlast : ¬ max k.loaded k.gran < k.gran := by omega
  have hrest : (((s.putCode h { k with loaded := max k.loaded k.gran, loading := false }).wrB Reg.KST_STAT 6 false).advanceAll (·.waitsFor h)).nextLoad =
      (s.putCode h { k with loaded := max k.loaded k.gran, loading := false }).wrB Reg.KST_STAT 6 false := by
    rw [advanceAll_waitsFor_idle h (by exact hidle), nextLoad_idle (.inr (by exact hidle))]
  change execCodeKeyPortion h true s = _
  simp only [execCodeKeyPortion, hk, hn, hlast, decide_false, Bool.false_eq_true, if_true, if_false]
  exact congrArg Host.Outcome.next hrest

theorem exec_codeKeyPortion_more (hk : s.ks.codeKeys.find? (fun x => x.handle == h && x.loading) = some k) (hl : k.loaded + 4 < k.gran) :
    exec (.codeKeyPortion h true) s = .next (s.putCode h { k with loaded := k.loaded + 4, loading := true }) := by
  have hn : Nat.min 4 (k.gran - k.loaded) = 4 := Nat.min_eq_left (by omega)
  change execCodeKeyPortion h true s = _
  simp [execCodeKeyPortion, hk, hn, hl, State.putCode]

theorem codeFailed_frame (s : State) (h : Nat) :
    (s.codeFailed h).ks = { s.ks with codeKeys := s.ks.codeKeys.filter (fun x => x.handle != h) } ∧ (s.codeFailed h).cmds = s.cmds ∧
      (s.codeFailed h).pvcs = s.pvcs := flt1_classD_frame _ 260

theorem rdB_codeFailed (s : State) (h : Nat) : (s.codeFailed h).rdB Reg.KST_STAT 6 = false := by
  unfold State.rdB State.codeFailed
  rw [rd_flt1_classD _ _ _ (by decide)]
  exact rdB_wrB_same _ _ 6 false (by decide)

/-- No command waits for a load, and no core for that of the key. -/
theorem wantsLoad_idle (id : Nat) (hcmds : ∀ x ∈ s.cmds, x.2.phase ≠ .waitLoad)
    (hcores : ∀ x ∈ s.pvcs, ∀ a b l r, x.2.stall = some (.kld a b l (some r)) → r.1 ≠ h) : s.wantsLoad h id = false := by
  unfold State.wantsLoad
  rw [Bool.or_eq_false_iff, List.any_eq_false]
  refine ⟨?_, fun x hx hwaits => ?_⟩
  · split
    · next c hc => exact waitsFor_idle h (hcmds _ (mem_of_mget hc))
    · rfl
  · obtain ⟨-, hkld⟩ := Bool.and_eq_true_iff.mp hwaits
    split at hkld
    · next a b l r hstall => exact hcores x hx a b l r hstall (beq_iff_eq.mp hkld)
    · cases hkld

theorem exec_codeKeyPortion_failed (hidle : ∀ x ∈ s.cmds, x.2.phase ≠ .waitLoad)
    (hcores : ∀ x ∈ s.pvcs, ∀ a b l r, x.2.stall = some (.kld a b l (some r)) → r.1 ≠ h)
    (hk : s.ks.codeKeys.find? (fun x => x.handle == h && x.loading) = some k) : exec (.codeKeyPortion h false) s = .next (s.codeFailed h) := by
  obtain ⟨-, hcmds, hpvcs⟩ := codeFailed_frame s h
  have hidle' : ∀ x ∈ (s.codeFailed h).cmds, x.2.phase ≠ .waitLoad := hcmds ▸ hidle
  have hwants : (s.codeFailed h).wantsLoad h k.cause = false := wantsLoad_idle k.cause hidle' (hpvcs ▸ hcores)
  have hrest : (if (s.codeFailed h).wantsLoad h k.cause then (s.codeFailed h).complete k.cause (.late St.KEY_ABSENT) else s.codeFailed h).nextLoad =
      s.codeFailed h := by
    rw [hwants, if_neg Bool.false_ne_true, nextLoad_idle (.inr hidle')]
  change execCodeKeyPortion h false s = _
  simp only [execCodeKeyPortion, hk, Bool.false_eq_true, if_false]
  exact congrArg Host.Outcome.next hrest

end

/-- The oldest waiting load starts: the command waits on, and its key's entry follows those that stay (R139, R140). -/
theorem nextLoad_starts {s : State} {id h : Nat} {c : Cmd} {k : KeyMat} {l : List CodeKey} (hfree : s.ks.codeKeys.any (fun k => k.loading) = false)
    (hfind : s.cmds.find? (fun c => c.2.phase == .waitLoad) = some (id, c)) (hget : mget s.cmds id = some c) (hcode : c.codeKey = some h)
    (hkey : c.k1 = some k) (habsent : ∀ x ∈ s.ks.codeKeys, x.handle ≠ h)
    (hevict : evict (s.setCmd id { c with phase := .waitLoad, since := s.now }).readsCode (granules k.par) 61 s.ks.codeKeys = some l) :
    s.nextLoad = ({ s.setCmd id { c with phase := .waitLoad, since := s.now } with
      ks := { s.ks with codeKeys := l ++ [⟨h, granules k.par, true, 0, s.ks.useClock, id⟩] } } : State).wrB Reg.KST_STAT 6 true := by
  have hno : s.ks.codeKeys.find? (fun k => k.handle == h && !k.loading) = none := by
    simp only [List.find?_eq_none, Bool.and_eq_true, beq_iff_eq, not_and]
    exact fun x hx hx' => absurd hx' (habsent x hx)
  have hnone : s.ks.codeKeys.any (fun k => k.handle == h) = false := by simpa using habsent
  unfold State.nextLoad
  rw [if_neg (by simp [hfree])]
  simp only [hkey] at hevict
  simp only [hfind, State.advance, hget, hcode, hno, State.setCmd_ks, hnone, State.startLoad, hfree, hkey, hevict]
  rfl

/-- A resident code key that is whole serves the command, and was used last (R41). -/
theorem takeIn_code {s : State} {c : Cmd} {h : Nat} {k : CodeKey} (id : Nat) (hcode : c.codeKey = some h) (hneed : c.need = 0)
    (hk : s.ks.codeKeys.find? (fun x => x.handle == h && !x.loading) = some k) :
    s.takeIn id c = ((s.setCmd id c).touchCode h).setCmd id { c with phase := .ready } := by
  change (s.setCmd id c).advance id = _
  simp only [State.advance, State.setCmd_cmds, mget_mput_same, hcode, State.setCmd_ks, hk, hneed]
  rfl

/-- Settles O31, clause by clause from the laws above. -/
theorem leavesAndCodeKeys : Obligations.LeavesAndCodeKeys := by
  refine ⟨?leaf, ?code, ?ceiling, ?rebuild, ?portion, ?freed, ?load, ?retire⟩
  case leaf =>
    intro s id c k hcode hwants hleaf hkey s0 t frozen rebuild
    have hc : NeedsLeaf c k := ⟨hcode, hwants, hleaf, hkey⟩
    refine ⟨takeIn_leaf_absent id hc, fun g hg => ?_⟩
    refine ⟨takeIn_leaf_exhausted id hc hg, fun hfrozen hstuck hlast hwait => ?_, fun hfrozen hstuck hlast hrebuild hceil hneed => ?_⟩
    · have ht : t = _ := takeIn_leaf_waits id hc hg (not_noLeafLeft hfrozen hstuck hlast) hwait
      have hfound := findGen_modGen (uid := k.uid) (s.setCmd id c) k.handle (fun g => (leafDue_fields s k g).2.2)
      obtain ⟨hnext, hceil, -⟩ := leafDue_fields s k g
      rw [ht]
      exact ⟨mget_mput_same _ _ _, rfl, rfl, _, hfound.trans (congrArg (Option.map _) hg), hnext, hceil⟩
    · have ht : t = _ := takeIn_leaf_given id hc hg (not_noLeafLeft hfrozen hstuck hlast) (not_leafWaits hrebuild hceil) hneed
      have hfound := findGen_modGen (uid := k.uid) (s.setCmd id c) k.handle (fun g => (leafGiven_fields s k g).2.2.2)
      obtain ⟨hnext, hceil', hpriv, -⟩ := leafGiven_fields s k g
      rw [ht]
      exact ⟨mget_mput_same _ _ _, rfl, rfl, _, hfound.trans (congrArg (Option.map _) hg), hnext, hceil', hpriv⟩
  case code =>
    intro s id c h k hcode hneed hk
    rw [takeIn_code id hcode hneed hk]
    exact ⟨mget_mput_same _ _ _, rfl, rfl⟩
  case ceiling =>
    intro s h hidle
    refine ⟨fun hr ok => exec_journalWriteDone_none ok hr, fun g v hr hv hg => ⟨?_, fun hspare => ?_, fun hspare => ?_⟩⟩
    · have hfound : (s.ceilRaised h g.uid v).findGen h g.uid = some (g.ceilAt v) := by
        rw [findGen_ceilRaised, hg]
        rfl
      exact ⟨_, _, exec_journalWriteDone_ok hidle hr hv, rfl, rfl, hfound, rfl, fun f hf huid => ceilRaised_flash v hf huid⟩
    · exact ⟨_, exec_journalWriteDone_spare hr hspare, rfl, rfl⟩
    · obtain ⟨hks, hcmds⟩ := ceilStuck_fault_frame s h g.uid
      refine ⟨_, _, exec_journalWriteDone_stuck hidle hr hspare, hcmds, ?_, rfl, fun o ho => ?_⟩
      · have hfound : (s.ceilStuck h g.uid).findGen h g.uid = some g.stick := by
          rw [findGen_ceilStuck, hg]
          rfl
        rw [State.findGen, hks]
        exact hfound
      · rw [hks]
        exact ceilStuck_freezes ho
  case rebuild =>
    intro s h o hget hidle mine
    have hexec := exec_hteRebuildDone hidle hget
    exact ⟨fun hmine => hexec.trans (if_pos hmine), fun hmine => hexec.trans (if_neg (Bool.eq_false_iff.mp hmine))⟩
  case portion =>
    intro s h k hk hidle
    refine ⟨fun hl => ⟨_, exec_codeKeyPortion_last hidle hk hl, rfl⟩, exec_codeKeyPortion_more hk, fun hcores => ?_⟩
    obtain ⟨hks, -, -⟩ := codeFailed_frame s h
    exact ⟨_, exec_codeKeyPortion_failed hidle hcores hk, hks, rdB_codeFailed s h⟩
  case freed => exact fun s h => congrArg Host.Outcome.next (nextLoad_idle h)
  case load =>
    intro s id c h k l hfree hfind hget hcode hkey habsent s1 hevict
    refine ⟨_, congrArg Host.Outcome.next (nextLoad_starts hfree hfind hget hcode hkey habsent hevict), rfl, rfl, ?_⟩
    exact rdB_wrB_same _ _ 6 true (by decide)
  case retire =>
    intro s h gen
    refine ⟨_, rfl, rfl, rfl, fun o ho => ?_, fun x => ?_⟩
    · have hleft : mget (mmod s.ks.objs h (fun o => { o with retiring := o.retiring.filter (fun g => g.gen != gen || s.genInUse g.uid) })) h = _ :=
        mget_mmod_of_mget _ ho
      exact ⟨_, hleft, rfl, rfl, fun g => by simp⟩
    · simp [imp_iff_not_or]

end Sys2Proof.Machine
end

section
/-!
SUPPORT. Erasures of the state: two states with one erasure differ at most in the fields erased. What the operations on commands, runs and
mailbox requests leave is said once by an erasure.
-/
namespace Sys2Proof.Machine
open Sys2Proof

/-! Sparse maps. -/

theorem mget_isSome_of_mem {α : Type} {m : List (Nat × α)} {x : Nat × α} (h : x ∈ m) : (mget m x.1).isSome = true := by
  induction m with
  | nil => simp at h
  | cons y t ih =>
    obtain ⟨a, b⟩ := y
    by_cases ha : a = x.1
    · simp [mget, ha]
    · rw [mget, if_neg ha]
      exact ih ((List.mem_cons.mp h).resolve_left (fun hx => ha (by rw [hx])))

/-- Where the keys rise, every entry is the one found at its key. -/
theorem mget_of_mem {α : Type} {m : List (Nat × α)} (hm : keysRise m = true) {x : Nat × α} (h : x ∈ m) : mget m x.1 = some x.2 := by
  induction m with
  | nil => simp at h
  | cons y t ih =>
    obtain ⟨a, b⟩ := y
    obtain ⟨hlt, ht⟩ := (keysRise_cons a b t).mp hm
    obtain rfl | hx := List.mem_cons.mp h
    · simp [mget]
    · rw [mget, if_neg (Nat.ne_of_lt (hlt x hx))]
      exact ih ht hx

/-- Entries at a key that a change of the map leaves are found as before. -/
theorem mget_map_of_eq {α : Type} {g : Nat × α → Nat × α} (hkey : ∀ x, (g x).1 = x.1) {k : Nat} (hk : ∀ x, x.1 = k → g x = x)
    (m : List (Nat × α)) : mget (m.map g) k = mget m k := by
  induction m with
  | nil => rfl
  | cons x t ih =>
    obtain ⟨a, b⟩ := x
    have hg := hkey (a, b)
    by_cases ha : a = k
    · rw [List.map_cons, hk _ ha, mget, mget, if_pos ha, if_pos ha]
    · rw [List.map_cons, mget, mget, if_neg ha, if_neg (by rwa [hg]), ih]

theorem mget_filter_of_true {α : Type} {p : Nat × α → Bool} {k : Nat} (hk : ∀ x, x.1 = k → p x = true) (m : List (Nat × α)) :
    mget (m.filter p) k = mget m k := by
  induction m with
  | nil => rfl
  | cons x t ih =>
    obtain ⟨a, b⟩ := x
    by_cases ha : a = k
    · rw [List.filter_cons_of_pos (hk _ ha), mget, mget, if_pos ha, if_pos ha]
    · rw [List.filter_cons, mget, if_neg ha]
      split
      · rw [mget, if_neg ha, ih]
      · exact ih

/-! Erasures. -/

/-- The state without its registers. -/
def State.sansRegs (s : State) : State := { s with regs := [] }

/-- The state without commands in flight and what they use of the engines. -/
def State.sansWork (s : State) : State :=
  { s with cmds := [], batches := [], pvcs := [], clusters := [], units := [], nrg := .off, regs := [], sched := [], opm := [] }

/-- The state without mailbox requests, the fabric and what was sent. -/
def State.sansMessages (s : State) : State :=
  { s with mbx := [], outcomes := [], fab := State.reset.fab, nrg := .off, tx := [], cards := State.reset.cards }

/-- The state without its registers, fault records and what it reports outward. -/
def State.sansReports (s : State) : State :=
  { s with regs := [], tx := [], free := 0, flt := [], link := { s.link with pba := [], aer := [] } }

/-- A field that is not erased. -/
theorem field_of_erased {β : Type} {e : State → State} {s t : State} (h : e t = e s) (π : State → β)
    (keeps : ∀ x, π (e x) = π x := by intro _; rfl) : π t = π s := by
  rw [← keeps t, h, keeps s]

theorem eq_of_sansRegs {s t : State} (h : t.sansRegs = s.sansRegs) : t = { s with regs := t.regs } :=
  congrArg (fun x : State => { x with regs := t.regs }) h

/-! Registers. -/

@[simp] theorem sansRegs_wr (s : State) (fn off : Nat) (v : Word) : (s.wr fn off v).sansRegs = s.sansRegs := rfl
@[simp] theorem sansRegs_wrF (s : State) (off hi lo v : Nat) : (s.wrF off hi lo v).sansRegs = s.sansRegs := rfl
@[simp] theorem sansRegs_wrB (s : State) (off i : Nat) (b : Bool) : (s.wrB off i b).sansRegs = s.sansRegs := rfl
@[simp] theorem sansRegs_incF (s : State) (off hi lo k : Nat) : (s.incF off hi lo k).sansRegs = s.sansRegs := rfl

/-- A run of register writes. -/
theorem sansRegs_foldl {β : Type} (f : State → β → State) (h : ∀ x a, (f x a).sansRegs = x.sansRegs) (l : List β) (s : State) :
    (l.foldl f s).sansRegs = s.sansRegs := foldl_keep State.sansRegs f h l s

/-! Reports (R54, R109, R361). -/

@[simp] theorem sansReports_wr (s : State) (fn off : Nat) (v : Word) : (s.wr fn off v).sansReports = s.sansReports := rfl
@[simp] theorem sansReports_wrF (s : State) (off hi lo v : Nat) : (s.wrF off hi lo v).sansReports = s.sansReports := rfl
@[simp] theorem sansReports_wrB (s : State) (off i : Nat) (b : Bool) : (s.wrB off i b).sansReports = s.sansReports := rfl
@[simp] theorem sansReports_incF (s : State) (off hi lo k : Nat) : (s.incF off hi lo k).sansReports = s.sansReports := rfl
@[simp] theorem sansReports_fresh (s : State) : s.fresh.sansReports = s.sansReports := rfl

@[simp] theorem sansReports_msix (s : State) (fn vec : Nat) : (s.msix fn vec).sansReports = s.sansReports := by
  unfold State.msix
  (repeat' split) <;> rfl

/-- A fault of class C or D is recorded and reported, and does nothing else (R361, R362). -/
theorem sansReports_fault {cls : Nat} (h : cls ≠ clsF) (s : State) (src : Nat) (active rail respond : Bool) :
    (s.fault src cls active rail respond).sansReports = s.sansReports := by
  have hrecord : ∀ r : FltSrc, ({ s with flt := mput s.flt src r } : State).sansReports = s.sansReports := fun _ => rfl
  unfold State.fault
  simp only [if_neg h]
  (repeat' split) <;> simp [hrecord]

/-! Commands dropped with no completion (R86, R87). -/

@[simp] theorem unreserve_sansWork (s : State) (blocks : List (List Byte)) : (s.unreserve blocks).sansWork = s.sansWork := by
  unfold State.unreserve
  split <;> rfl

@[simp] theorem unreserve_cmds (s : State) (blocks : List (List Byte)) : (s.unreserve blocks).cmds = s.cmds := by
  unfold State.unreserve
  split <;> rfl

@[simp] theorem unreserve_clusters (s : State) (blocks : List (List Byte)) : (s.unreserve blocks).clusters = s.clusters := by
  unfold State.unreserve
  split <;> rfl

@[simp] theorem endRaw_sansWork (s : State) (c : Cmd) : (s.endRaw c).sansWork = s.sansWork := by
  unfold State.endRaw
  split
  · dsimp only
    split <;> rfl
  · rfl

@[simp] theorem endRaw_cmds (s : State) (c : Cmd) : (s.endRaw c).cmds = s.cmds := by
  unfold State.endRaw
  split
  · dsimp only
    split <;> rfl
  · rfl

@[simp] theorem endRaw_clusters (s : State) (c : Cmd) : (s.endRaw c).clusters = s.clusters := by
  unfold State.endRaw
  split
  · dsimp only
    split <;> rfl
  · rfl

@[simp] theorem dropReqs_sansWork (s : State) (id : Nat) : (s.dropReqs id).sansWork = s.sansWork := by
  unfold State.dropReqs
  split
  · simp only [endRaw_sansWork, unreserve_sansWork]
    rfl
  · rfl

@[simp] theorem dropReqs_cmds (s : State) (id : Nat) : (s.dropReqs id).cmds = s.cmds := by
  unfold State.dropReqs
  split
  · simp
  · rfl

@[simp] theorem dropReqs_clusters (s : State) (id : Nat) : (s.dropReqs id).clusters = s.clusters := by
  unfold State.dropReqs
  split
  · simp
  · rfl

@[simp] theorem letGo_sansWork (s : State) (id : Nat) : (s.letGo id).sansWork = s.sansWork :=
  (dropReqs_sansWork (s.dropRuns id) id).trans rfl

@[simp] theorem letGo_cmds (s : State) (id : Nat) : (s.letGo id).cmds = s.cmds := dropReqs_cmds (s.dropRuns id) id

@[simp] theorem letGo_clusters (s : State) (id : Nat) : (s.letGo id).clusters = (s.dropRuns id).clusters := dropReqs_clusters _ id

@[simp] theorem opmAbort_sansWork (s : State) (c : Cmd) : (s.opmAbort c).sansWork = s.sansWork := by
  unfold State.opmAbort
  split <;> rfl

@[simp] theorem opmAbort_cmds (s : State) (c : Cmd) : (s.opmAbort c).cmds = s.cmds := by
  unfold State.opmAbort
  split <;> rfl

@[simp] theorem opmAbort_clusters (s : State) (c : Cmd) : (s.opmAbort c).clusters = s.clusters := by
  unfold State.opmAbort
  split <;> rfl

theorem dropCmd_sansWork (s : State) (id : Nat) : (s.dropCmd id).sansWork = s.sansWork := by
  unfold State.dropCmd
  split
  · exact (opmAbort_sansWork (s.letGo id) _).trans (letGo_sansWork s id)
  · exact letGo_sansWork s id

theorem dropCmd_cmds (s : State) (id : Nat) : (s.dropCmd id).cmds = mdel s.cmds id := by
  unfold State.dropCmd
  split <;> simp

/-- No change of dedicated clusters is under way (R73). -/
def State.settled (s : State) : Prop := ∀ c ∈ s.clusters, c.2.draining = none

theorem dropCmd_settled {s : State} (h : s.settled) (id : Nat) : (s.dropCmd id).settled := by
  have hruns : (s.dropRuns id).settled := fun c hc => by
    obtain ⟨x, hx, rfl⟩ := List.mem_map.mp hc
    exact h x hx
  have hclusters : (s.dropCmd id).clusters = (s.dropRuns id).clusters := by
    unfold State.dropCmd
    split <;> simp
  intro c hc
  exact hruns c (hclusters ▸ hc)

theorem dropCmds_sansWork (s : State) (f : Cmd → Bool) : (s.dropCmds f).sansWork = s.sansWork :=
  foldl_keep State.sansWork State.dropCmd dropCmd_sansWork _ s

theorem dropEach_cmds (l : List Nat) (s : State) : (l.foldl State.dropCmd s).cmds = s.cmds.filter (fun x => !l.contains x.1) := by
  induction l generalizing s with
  | nil => simp
  | cons id l ih =>
    rw [List.foldl_cons, ih, dropCmd_cmds, mdel, List.filter_filter]
    refine List.filter_congr (fun x _ => ?_)
    rw [Bool.eq_iff_iff]
    simp [and_comm]

theorem dropEach_settled (l : List Nat) {s : State} (h : s.settled) : (l.foldl State.dropCmd s).settled := by
  induction l generalizing s with
  | nil => exact h
  | cons id l ih => exact ih (dropCmd_settled h id)

theorem dropCmds_settled {s : State} (h : s.settled) (f : Cmd → Bool) : (s.dropCmds f).settled := dropEach_settled _ h

/-- No command that passes the test is left. -/
theorem dropCmds_gone {s : State} {f : Cmd → Bool} {id : Nat} {c : Cmd} (h : mget (s.dropCmds f).cmds id = some c) : f c = false := by
  have hmem := mem_of_mget h
  rw [State.dropCmds, dropEach_cmds, List.mem_filter] at hmem
  obtain ⟨hin, hnot⟩ := hmem
  refine Bool.eq_false_iff.mpr (fun hf => ?_)
  simp only [Bool.not_eq_true', List.contains_eq_mem, decide_eq_false_iff_not] at hnot
  exact hnot (List.mem_map.mpr ⟨(id, c), List.mem_filter.mpr ⟨hin, hf⟩, rfl⟩)

/-- A command that fails the test stays. -/
theorem dropCmds_stays {s : State} {f : Cmd → Bool} {id : Nat} {c : Cmd} (hrise : keysRise s.cmds = true) (h : mget s.cmds id = some c)
    (hf : f c = false) : mget (s.dropCmds f).cmds id = some c := by
  rw [State.dropCmds, dropEach_cmds, mget_filter_of_true, h]
  rintro x rfl
  simp only [Bool.not_eq_true', List.contains_eq_mem, decide_eq_false_iff_not, List.mem_map, List.mem_filter, not_exists, not_and]
  rintro ⟨j, d⟩ ⟨hin, hd⟩ rfl
  have hget := mget_of_mem hrise hin
  simp_all

/-! Requests, and what runs for them (R119, R297). -/

@[simp] theorem keepReqs_sansMessages (s : State) (gone : Nat → Bool) : (s.keepReqs gone).sansMessages = s.sansMessages := by
  refine foldl_keep State.sansMessages _ (fun x r => ?_) _ s
  split
  · split
    · split <;> rfl
    · rfl
  · rfl

@[simp] theorem orphans_sansMessages (s : State) : s.orphans.sansMessages = s.sansMessages := rfl

@[simp] theorem keepReqs_tx (s : State) (gone : Nat → Bool) : (s.keepReqs gone).tx = s.tx := by
  refine foldl_keep State.tx _ (fun x r => ?_) _ s
  split
  · split
    · split <;> rfl
    · rfl
  · rfl

/-- What goes out over the fabric's ports alone. -/
def FlitsOnly (s t : State) : Prop :=
  t.sansMessages = s.sansMessages ∧ ∃ l, t.tx = s.tx ++ l ∧ ∀ o ∈ l, ∃ k n v m, o = .wolum k n v m

theorem FlitsOnly.refl (s : State) : FlitsOnly s s := ⟨rfl, [], by simp, by simp⟩

theorem FlitsOnly.trans {s t u : State} (h : FlitsOnly s t) (k : FlitsOnly t u) : FlitsOnly s u := by
  obtain ⟨hst, l, hl, hflits⟩ := h
  obtain ⟨htu, m, hm, kflits⟩ := k
  refine ⟨htu.trans hst, l ++ m, by rw [hm, hl, List.append_assoc], fun o ho => ?_⟩
  exact (List.mem_append.mp ho).elim (hflits o) (kflits o)

theorem FlitsOnly.foldl {β : Type} {f : State → β → State} (h : ∀ x a, FlitsOnly x (f x a)) (l : List β) (s : State) :
    FlitsOnly s (l.foldl f s) := by
  induction l generalizing s with
  | nil => exact .refl s
  | cons a l ih => exact (h s a).trans (ih _)

theorem FlitsOnly.ite {s t : State} {c : Prop} [Decidable c] (h : FlitsOnly s t) : FlitsOnly s (if c then t else s) := by
  split
  · exact h
  · exact .refl s

/-- A change of the fabric alone. -/
theorem FlitsOnly.fab (s : State) (f : Fabric) : FlitsOnly s { s with fab := f } := ⟨rfl, [], by simp, by simp⟩

theorem sendOnes_flits (k : Nat) (l : List (Nat × PortMsg)) (x : WPort × List (Nat × PortMsg) × List LinkOut)
    (h : ∀ o ∈ x.2.2, ∃ k n v m, o = LinkOut.wolum k n v m) :
    ∀ o ∈ (l.foldl (fun x m => sendOne x k m) x).2.2, ∃ k n v m, o = LinkOut.wolum k n v m := by
  induction l generalizing x with
  | nil => exact h
  | cons m l ih =>
    refine ih _ ?_
    unfold sendOne
    dsimp only
    split
    · intro o ho
      obtain ho | ho := List.mem_append.mp ho
      · exact h o ho
      · exact ⟨_, _, _, _, List.mem_singleton.mp ho⟩
    · exact h

theorem flush_flits (s : State) (k : Nat) : FlitsOnly s (s.flush k) := by
  have hsent := sendOnes_flits k (s.wport k).waiting (s.wport k, [], []) (by simp)
  have hemit : ∀ (l : List LinkOut) (u : State), (l.foldl State.emit u).sansMessages = u.sansMessages ∧ (l.foldl State.emit u).tx = u.tx ++ l := by
    intro l
    induction l with
    | nil => simp
    | cons o l ih =>
      intro u
      obtain ⟨hsans, htx⟩ := ih (u.emit o)
      exact ⟨hsans, htx.trans (List.append_assoc u.tx [o] l)⟩
  obtain ⟨hsans, htx⟩ := hemit _ (s.setWport k { ((s.wport k).waiting.foldl (fun x m => sendOne x k m) (s.wport k, [], [])).1 with
    waiting := ((s.wport k).waiting.foldl (fun x m => sendOne x k m) (s.wport k, [], [])).2.1 })
  exact ⟨hsans, _, htx, hsent⟩

theorem sendPort_flits (s : State) (k vc : Nat) (m : PortMsg) : FlitsOnly s (s.sendPort k vc m) :=
   .ite (.trans (.fab s _) (flush_flits _ k))

theorem transmit_flits (s : State) (id : Nat) (m : E2e) : FlitsOnly s (s.transmit id m) := by
  unfold State.transmit
  dsimp only
  split
  · split
    · exact .ite (.trans (.fab s _) (sendPort_flits _ _ _ _))
    · exact .refl s
  · exact .refl s

theorem sendMsg_flits (s : State) (dest : List Byte) (body : FabMsg) : FlitsOnly s (s.sendMsg dest body) := by
  have hsent := FlitsOnly.trans (.fab s { s.fab with
    nextMsg := s.fab.nextMsg + 1, e2e := mput s.fab.e2e s.fab.nextMsg { dest := dest, body := body, sent := false, tries := 0 } })
    (transmit_flits _ s.fab.nextMsg { dest := dest, body := body, sent := false, tries := 0 })
  unfold State.sendMsg
  dsimp only
  split
  · exact hsent.trans (.fab _ _)
  · exact hsent

theorem sendMembers_flits (s : State) (gid : Nat) (body : FabMsg) : FlitsOnly s (s.sendMembers gid body) := by
  unfold State.sendMembers
  split
  · exact .foldl (fun x m => sendMsg_flits x m body) _ s
  · exact .refl s

end Sys2Proof.Machine
end

section
/-!
SUPPORT. Function-level reset and quiesce (spec file 02, R75 to R80): what steps 2 to 7 of the reset table do to the function and leave of every
other, and how a reset, a quiesce and a release end.
-/
namespace Sys2Proof.Machine
open Sys2Proof

/-! Steps 2 to 7 of the reset table (R75, R76). -/

/-- The function is fenced: its commands end with no completion, its contexts, digest contexts and operand slots are gone, its pairs take nothing
more; commands, contexts and pairs of every other function stay, and nothing is sent but messages of a COMMIT that is dropped. -/
structure Fenced (s t : State) (n : Nat) (flr : Bool) : Prop where
  quiescing : (t.fn n).quiescing = true
  reset : (t.fn n).flr = flr
  sent : ∃ l, t.tx = s.tx ++ l ∧ (s.fab.commits = [] → l = []) ∧ ∀ o ∈ l, ∀ f a b x, o ≠ .mem f a b x
  gone : ∀ id c, mget t.cmds id = some c → c.fn ≠ n
  stay : keysRise s.cmds = true → ∀ id c, mget s.cmds id = some c → c.fn ≠ n → mget t.cmds id = some c
  ctxsGone : ∀ x ∈ t.ks.ctxs, x.1 / 65536 ≠ n
  ctxsStay : ∀ k, k / 65536 ≠ n → mget t.ks.ctxs k = mget s.ks.ctxs k
  digestsGone : ∀ x ∈ t.dg.ctxs, x.1 / 4096 ≠ n
  digestsStay : ∀ k, k / 4096 ≠ n → mget t.dg.ctxs k = mget s.dg.ctxs k
  slotsGone : ∀ p, mget t.opm n = some p → p.slots = [] ∧ p.slotLen = 0
  pairsClosed : ∀ x ∈ t.qps, x.1 / 16 = n → x.2.state = .off ∨ x.2.state = .deleting
  pairsStay : ∀ k, k / 16 ≠ n → mget t.qps k = mget s.qps k
  fnsStay : ∀ k, k ≠ n → mget t.fns k = mget s.fns k
  boot : t.boot = s.boot
  settled : s.settled → t.settled

theorem fn_of_fns {s : State} {n : Nat} {f : Fn} (h : mget s.fns n = some f) : s.fn n = f := by simp [State.fn, h]

/-- Records of functions that an operation leaves. -/
theorem fn_congr {s t : State} {n : Nat} (hfns : mget t.fns n = mget s.fns n) (hboot : t.boot = s.boot) : t.fn n = s.fn n := by
  rw [State.fn, State.fn, hfns, hboot]

/-- The function marked, and its commands dropped. -/
def State.fnMarked (s : State) (n : Nat) : State :=
  (s.setFn n { s.fn n with quiescing := true, quiesced := false }).dropCmds (fun c => c.fn == n)

/-- A pair of a fenced function takes nothing more. -/
def QPair.fence (p : QPair) : QPair :=
  if p.state = .off then p else { p with state := .deleting, waiting := [], pendCnt := 0, chain := none, chainRes := none, firstFail := none }

theorem fence_state (p : QPair) : p.fence.state = .off ∨ p.fence.state = .deleting := by
  unfold QPair.fence
  split
  · next h => exact .inl h
  · exact .inr rfl

/-- Before requests and fabric messages are seen to, what the fence leaves of the stores. -/
structure FenceStores (s u : State) (n : Nat) : Prop where
  fns : u.fns = s.fns
  boot : u.boot = s.boot
  cmds : u.cmds = s.cmds
  clusters : u.clusters = s.clusters
  tx : u.tx = s.tx
  ctxs : u.ks.ctxs = s.ks.ctxs.filter (fun c => c.1 / 65536 != n)
  digests : u.dg.ctxs = s.dg.ctxs.filter (fun c => c.1 / 4096 != n)
  opm : u.opm = mmod s.opm n (fun p => { p with slotLen := 0, sealed := false, slots := [] })
  qps : u.qps = s.qps.map (fun x => if x.1 / 16 = n then (x.1, x.2.fence) else x)

/-- The requests of the function and what ran for them end after its stores are cleared; only then members hear of a dropped COMMIT. -/
theorem requestsEnd_flits (u : State) (gone : Nat → Bool) (l : List RCommit) :
    FlitsOnly u ((l.foldl (fun (x : State) (r : RCommit) => x.sendMembers r.group (.unstage r.group r.idx r.gen)) (u.keepReqs gone)).orphans) := by
  have hkeep : FlitsOnly u (u.keepReqs gone) := ⟨keepReqs_sansMessages u gone, [], by simp, by simp⟩
  have hsend := hkeep.trans (.foldl (fun x (r : RCommit) => sendMembers_flits x r.group (.unstage r.group r.idx r.gen)) l _)
  exact hsend.trans ⟨orphans_sansMessages _, [], by simp [State.orphans], by simp⟩

theorem requestsEnd_silent (u : State) (gone : Nat → Bool) {l : List RCommit} (h : l = []) :
    ((l.foldl (fun (x : State) (r : RCommit) => x.sendMembers r.group (.unstage r.group r.idx r.gen)) (u.keepReqs gone)).orphans).tx = u.tx := by
  subst h
  exact keepReqs_tx u gone

/-- The check results of the function cleared. -/
def State.fnChecked (s : State) (n : Nat) : State :=
  ((List.range 64).filter (fun k => (s.fnMarked n).rdF (Reg.CHK_LAST k) 27 16 == n)).foldl (fun (x : State) k =>
    ((x.wr 0 (Reg.CHK_RESULT k) 0).wr 0 (Reg.CHK_RESULTH k) 0).wr 0 (Reg.CHK_LAST k) 0) (s.fnMarked n)

theorem fnChecked_sansRegs (s : State) (n : Nat) : (s.fnChecked n).sansRegs = (s.fnMarked n).sansRegs := by
  unfold State.fnChecked
  exact sansRegs_foldl _ (by simp) _ _

theorem fnChecked_fields (s : State) (n : Nat) : let t := s.fnChecked n
    let u := s.fnMarked n
    t.fns = u.fns ∧ t.boot = u.boot ∧ t.cmds = u.cmds ∧ t.clusters = u.clusters ∧ t.tx = u.tx ∧ t.ks = u.ks ∧ t.dg = u.dg ∧ t.opm = u.opm ∧
      t.qps = u.qps ∧ t.fab = u.fab := by
  have h := fnChecked_sansRegs s n
  exact ⟨field_of_erased h State.fns, field_of_erased h State.boot, field_of_erased h State.cmds, field_of_erased h State.clusters, field_of_erased h State.tx,
    field_of_erased h State.ks, field_of_erased h State.dg, field_of_erased h State.opm, field_of_erased h State.qps, field_of_erased h State.fab⟩

theorem fnClear_shape (s : State) (n : Nat) : ∃ u, FlitsOnly u (s.fnClear n) ∧ FenceStores (s.fnChecked n) u n ∧
    ((s.fnChecked n).fab.commits = [] → (s.fnClear n).tx = u.tx) :=
  ⟨_, requestsEnd_flits _ _ _, ⟨rfl, rfl, rfl, rfl, rfl, rfl, rfl, rfl, rfl⟩,
    fun hnone => requestsEnd_silent _ _ (congrArg (List.filter _) hnone)⟩

/-- The function's mark, and what dropping its commands leaves. -/
theorem fnMarked_fields (s : State) (n : Nat) : let t := s.fnMarked n
    mget t.fns n = some { s.fn n with quiescing := true, quiesced := false } ∧ (∀ k, k ≠ n → mget t.fns k = mget s.fns k) ∧ t.boot = s.boot ∧
      t.tx = s.tx ∧ t.ks = s.ks ∧ t.dg = s.dg ∧ t.qps = s.qps ∧ t.fab = s.fab := by
  have h := dropCmds_sansWork (s.setFn n { s.fn n with quiescing := true, quiesced := false }) (fun c => c.fn == n)
  have hfns : (s.fnMarked n).fns = mput s.fns n { s.fn n with quiescing := true, quiesced := false } := field_of_erased h State.fns
  refine ⟨by rw [hfns, mget_mput_same], fun k hk => by rw [hfns, mget_mput_other _ _ _ _ hk], field_of_erased h State.boot,
    field_of_erased h State.tx, field_of_erased h State.ks, field_of_erased h State.dg, field_of_erased h State.qps, field_of_erased h State.fab⟩

theorem fnClear_fenced (s : State) (n : Nat) : mget (s.fnClear n).fns n = some { s.fn n with quiescing := true, quiesced := false } ∧
    Fenced s (s.fnClear n) n (s.fn n).flr := by
  obtain ⟨u, ⟨hsame, l, hl, hflits⟩, hu, hsilent⟩ := fnClear_shape s n
  obtain ⟨cfns, cboot, ccmds, cclusters, ctx, cks, cdg, copm, cqps, cfab⟩ := fnChecked_fields s n
  obtain ⟨mfn, mfns, mboot, mtx, mks, mdg, mqps, mfab⟩ := fnMarked_fields s n
  have hfns : (s.fnClear n).fns = (s.fnMarked n).fns := (field_of_erased hsame State.fns).trans (hu.fns.trans cfns)
  have hboot : (s.fnClear n).boot = s.boot := (field_of_erased hsame State.boot).trans (hu.boot.trans (cboot.trans mboot))
  have hcmds : (s.fnClear n).cmds = (s.fnMarked n).cmds := (field_of_erased hsame State.cmds).trans (hu.cmds.trans ccmds)
  have hclusters : (s.fnClear n).clusters = (s.fnMarked n).clusters := (field_of_erased hsame State.clusters).trans (hu.clusters.trans cclusters)
  have hctxs : (s.fnClear n).ks.ctxs = s.ks.ctxs.filter (fun c => c.1 / 65536 != n) := by
    rw [field_of_erased hsame State.ks, hu.ctxs, cks, mks]
  have hdigests : (s.fnClear n).dg.ctxs = s.dg.ctxs.filter (fun c => c.1 / 4096 != n) := by
    rw [field_of_erased hsame State.dg, hu.digests, cdg, mdg]
  have hopm : (s.fnClear n).opm = mmod (s.fnMarked n).opm n (fun p => { p with slotLen := 0, sealed := false, slots := [] }) := by
    rw [field_of_erased hsame State.opm, hu.opm, copm]
  have hqps : (s.fnClear n).qps = s.qps.map (fun x => if x.1 / 16 = n then (x.1, x.2.fence) else x) := by
    rw [field_of_erased hsame State.qps, hu.qps, cqps, mqps]
  have htx : u.tx = s.tx := hu.tx.trans (ctx.trans mtx)
  have hmine : mget (s.fnClear n).fns n = some { s.fn n with quiescing := true, quiesced := false } := by rw [hfns, mfn]
  refine ⟨hmine, ?_⟩
  constructor
  case quiescing => rw [fn_of_fns hmine]
  case reset => rw [fn_of_fns hmine]
  case sent =>
    by_cases hnone : s.fab.commits = []
    · exact ⟨[], by rw [hsilent (by rw [cfab, mfab, hnone]), htx, List.append_nil], fun _ => rfl, by simp⟩
    · refine ⟨l, hl.trans (by rw [htx]), fun h => absurd h hnone, fun o ho f a b x hmem => ?_⟩
      obtain ⟨k, v, i, m, rfl⟩ := hflits o ho
      exact LinkOut.noConfusion hmem
  case gone =>
    intro id c hget
    rw [hcmds] at hget
    simpa using dropCmds_gone hget
  case stay =>
    intro hrise id c hget hne
    rw [hcmds]
    exact dropCmds_stays hrise hget (by simpa using hne)
  case ctxsGone =>
    intro x hx
    rw [hctxs, List.mem_filter] at hx
    exact bne_iff_ne.mp hx.2
  case ctxsStay =>
    intro k hk
    rw [hctxs, mget_filter_of_true]
    rintro x rfl
    simpa using hk
  case digestsGone =>
    intro x hx
    rw [hdigests, List.mem_filter] at hx
    exact bne_iff_ne.mp hx.2
  case digestsStay =>
    intro k hk
    rw [hdigests, mget_filter_of_true]
    rintro x rfl
    simpa using hk
  case slotsGone =>
    intro p hp
    rw [hopm, mget_mmod_same] at hp
    obtain ⟨q, -, rfl⟩ := Option.map_eq_some_iff.mp hp
    exact ⟨rfl, rfl⟩
  case pairsClosed =>
    intro x hx hfn
    obtain ⟨y, -, rfl⟩ := List.mem_map.mp (hqps ▸ hx)
    by_cases hy : y.1 / 16 = n
    · rw [if_pos hy]
      exact fence_state y.2
    · rw [if_neg hy] at hfn
      exact absurd hfn hy
  case pairsStay =>
    intro k hk
    rw [hqps]
    refine mget_map_of_eq (fun x => by split <;> rfl) (fun x hx => if_neg (by rwa [hx])) _
  case fnsStay => exact fun k hk => by rw [hfns, mfns k hk]
  case boot => exact hboot
  case settled =>
    intro hs c hc
    exact dropCmds_settled (s := s.setFn n { s.fn n with quiescing := true, quiesced := false }) hs _ c (hclusters ▸ hc)

/-- Registers of the fenced function's state may change. -/
theorem Fenced.of_sansRegs {s t u : State} {n : Nat} {flr : Bool} (h : Fenced s t n flr) (he : u.sansRegs = t.sansRegs) : Fenced s u n flr := by
  rw [eq_of_sansRegs he]
  exact { h with }

/-- So may those of the state before. -/
theorem Fenced.from_sansRegs {s t u : State} {n : Nat} {flr : Bool} (h : Fenced u t n flr) (he : u.sansRegs = s.sansRegs) : Fenced s t n flr := by
  rw [eq_of_sansRegs he] at h
  exact { h with }

/-- A fenced function marked for its reset. -/
theorem Fenced.setFlr {s t : State} {n : Nat} {b : Bool} (h : Fenced s t n b) (flr : Bool) :
    Fenced s (t.setFn n { t.fn n with flr := flr }) n flr := by
  have hfn : (t.setFn n { t.fn n with flr := flr }).fn n = { t.fn n with flr := flr } := fn_of_fns (mget_mput_same _ _ _)
  refine { h with quiescing := ?_, reset := ?_, fnsStay := fun k hk => ?_ }
  · rw [hfn]
    exact h.quiescing
  · rw [hfn]
  · exact (mget_mput_other _ _ _ _ hk).trans (h.fnsStay k hk)

@[simp] theorem quiesceStat_sansRegs (s : State) (n : Nat) : (s.quiesceStat n false).sansRegs = s.sansRegs := sansRegs_wr _ _ _ _

/-! The start of a reset (R75, R80) and of a quiesce (R78). -/

/-- A function that no reset, quiesce or release concerns. -/
structure Calm (s : State) (n : Nat) : Prop where
  quiescing : (s.fn n).quiescing = false
  quiesced : (s.fn n).quiesced = false
  flr : (s.fn n).flr = false

theorem applying_of_settled {s : State} (h : s.settled) (n : Nat) : s.applying n = false := by
  rw [State.applying, List.any_eq_false]
  intro c hc
  simp [h c hc]

theorem flrStart_calm {s : State} {n : Nat} (hs : s.settled) (hc : Calm s n) : Fenced s (s.flrStart n) n true := by
  have heq : s.flrStart n = ((s.fnClear n).setFn n { (s.fnClear n).fn n with flr := true }).quiesceStat n false := by
    simp [State.flrStart, hc.flr, hc.quiescing, hc.quiesced, applying_of_settled hs]
  rw [heq]
  exact ((fnClear_fenced s n).2.setFlr true).of_sansRegs (quiesceStat_sansRegs _ n)

theorem quiesceStart_calm {s : State} {n : Nat} (hq : s.quiesceable n = true) (hc : Calm s n) : Fenced s (s.quiesceStart n) n false := by
  have heq : s.quiesceStart n = (s.fnClear n).quiesceStat n false := by
    simp [State.quiesceStart, hq, hc.quiescing, hc.quiesced]
  have hfenced := (fnClear_fenced s n).2
  rw [hc.flr] at hfenced
  rw [heq]
  exact hfenced.of_sansRegs (quiesceStat_sansRegs _ n)

/-- Whatever stood before, after a start of its quiesce a function that is not QUIESCED is quiescing. -/
theorem quiesceStart_quiescing {s : State} {n : Nat} (hq : s.quiesceable n = true) (hnot : (s.fn n).quiesced = false) :
    ((s.quiesceStart n).fn n).quiescing = true := by
  cases hquiet : (s.fn n).quiescing with
  | true => simp [State.quiesceStart, hquiet]
  | false =>
    have heq : s.quiesceStart n = (s.fnClear n).quiesceStat n false := by simp [State.quiesceStart, hq, hquiet, hnot]
    rw [heq]
    exact ((fnClear_fenced s n).2.of_sansRegs (quiesceStat_sansRegs _ n)).quiescing

theorem quiesceable_iff (s : State) (n : Nat) : s.quiesceable n = true ↔ 1 ≤ n ∧ n ≤ 2047 ∧ s.enabled n = true := by
  simp [State.quiesceable, and_assoc]

/-- The start of a reset of any function, while no dedication is being applied. -/
theorem flrStart_resets {s : State} (hs : s.settled) (n : Nat) : ((s.flrStart n).fn n).flr = true ∧ (s.flrStart n).settled ∧
    (∀ k, k ≠ n → mget (s.flrStart n).fns k = mget s.fns k) ∧ (s.flrStart n).boot = s.boot := by
  by_cases hflr : (s.fn n).flr = true
  · have heq : s.flrStart n = s := by simp [State.flrStart, hflr]
    rw [heq]
    exact ⟨hflr, hs, fun _ _ => rfl, rfl⟩
  by_cases hquiet : (s.fn n).quiescing = true ∨ (s.fn n).quiesced = true
  · have heq : s.flrStart n = (s.setFn n { s.fn n with quiescing := true, quiesced := false, flr := true }).quiesceStat n false := by
      simp [State.flrStart, hflr, hquiet, applying_of_settled hs]
    have hsame := quiesceStat_sansRegs (s.setFn n { s.fn n with quiescing := true, quiesced := false, flr := true }) n
    have hfns : (s.flrStart n).fns = mput s.fns n { s.fn n with quiescing := true, quiesced := false, flr := true } := by
      rw [heq]
      exact field_of_erased hsame State.fns
    have hclusters : (s.flrStart n).clusters = s.clusters := by
      rw [heq]
      exact field_of_erased hsame State.clusters
    have hboot : (s.flrStart n).boot = s.boot := by
      rw [heq]
      exact field_of_erased hsame State.boot
    refine ⟨?_, fun c hc => hs c (hclusters ▸ hc), fun k hk => by rw [hfns, mget_mput_other _ _ _ _ hk], hboot⟩
    rw [fn_of_fns (by rw [hfns]; exact mget_mput_same _ _ _)]
  · obtain ⟨hq, hqd⟩ := not_or.mp hquiet
    have hfenced := flrStart_calm hs ⟨Bool.eq_false_iff.mpr hq, Bool.eq_false_iff.mpr hqd, Bool.eq_false_iff.mpr hflr⟩
    exact ⟨hfenced.reset, hfenced.settled hs, hfenced.fnsStay, hfenced.boot⟩

/-- Every function of a list is in reset once the resets of all have started. -/
theorem flrStarts_reset (l : List Nat) {s : State} (hs : s.settled) :
    ∀ n, n ∈ l ∨ (s.fn n).flr = true → ((l.foldl State.flrStart s).fn n).flr = true := by
  induction l generalizing s with
  | nil => exact fun n h => h.resolve_left List.not_mem_nil
  | cons m l ih =>
    intro n h
    obtain ⟨hreset, hsettled, hstay, hboot⟩ := flrStart_resets hs m
    refine ih hsettled n ?_
    by_cases hnm : n = m
    · exact .inr (hnm ▸ hreset)
    · rw [fn_congr (hstay n hnm) hboot]
      exact h.imp_left (fun hn => (List.mem_cons.mp hn).resolve_left hnm)

/-! The ends (R75, R78, R79). -/

@[simp] theorem quiesceStat_sansReports (s : State) (n : Nat) (done : Bool) : (s.quiesceStat n done).sansReports = s.sansReports := by
  cases done
  · exact sansReports_wr _ _ _ _
  · exact (sansReports_wr _ _ _ _).trans (sansReports_fresh s)

@[simp] theorem flrBit_sansReports (s : State) (n : Nat) : (s.flrBit n).sansReports = s.sansReports := by
  unfold State.flrBit
  dsimp only
  split
  · rfl
  · split <;> simp

/-- The function's bit of VFM_FLR_DONE is set. -/
theorem rd_flrBit (s : State) {n : Nat} (hn : n ≠ 0) : bitAt ((s.flrBit n).rd 0 (Reg.VFM_FLR_DONE (n / 32))) (n % 32) = true := by
  have hbit : ∀ x : State, bitAt (x.rd 0 (Reg.VFM_FLR_DONE (n / 32))) (n % 32) = x.rdB (Reg.VFM_FLR_DONE (n / 32)) (n % 32) := fun _ => rfl
  have hset := rdB_wrB_same s (Reg.VFM_FLR_DONE (n / 32)) (n % 32) true (Nat.mod_lt _ (by decide))
  by_cases hs : s.rdB (Reg.VFM_FLR_DONE (n / 32)) (n % 32) = true
  · have heq : s.flrBit n = s := by simp [State.flrBit, hs]
    rw [heq, hbit, hs]
  · have heq : s.flrBit n = let u := s.wrB (Reg.VFM_FLR_DONE (n / 32)) (n % 32) true
        if u.rdB Reg.VFM_EVT_VEC 6 then u.msix 0 (u.rdF Reg.VFM_EVT_VEC 5 0) else u := by simp [State.flrBit, hn, hs]
    rw [heq]
    dsimp only
    split
    · rw [rd_msix, hbit, hset]
    · rw [hbit, hset]

/-- No request waits for the quiesce of the function. -/
def State.unasked (s : State) (n : Nat) : Prop := ∀ m ∈ s.mbx, ¬ (m.2.started = true ∧ m.2.code = 0x0201 ∧ leAt m.2.inl 0 2 = n)

theorem answerQuiesce_unasked {s : State} {n : Nat} (h : s.unasked n) : s.answerQuiesce n = s := by
  have hnone : s.mbx.filter (fun m => m.2.started && m.2.code == 0x0201 && leAt m.2.inl 0 2 == n) = [] := by
    refine List.filter_eq_nil_iff.mpr (fun m hm => ?_)
    simpa [and_assoc] using h m hm
  simp [State.answerQuiesce, hnone]

/-- A state that differs in what it reports alone. -/
theorem unasked_of_sansReports {s t : State} {n : Nat} (h : t.sansReports = s.sansReports) (hs : s.unasked n) : t.unasked n := by
  have hmbx : t.mbx = s.mbx := field_of_erased h State.mbx
  intro m hm
  exact hs m (hmbx ▸ hm)

/-- What step 8 leaves of a function: it is ACTIVE and its pairs are gone. -/
structure Restored (s t : State) (n : Nat) : Prop where
  quiescing : (t.fn n).quiescing = false
  quiesced : (t.fn n).quiesced = false
  flr : (t.fn n).flr = false
  pairsGone : ∀ x ∈ t.qps, x.1 / 16 ≠ n
  pairsStay : ∀ k, k / 16 ≠ n → mget t.qps k = mget s.qps k

theorem fnStep8_restored (s : State) (n : Nat) : Restored s (s.fnStep8 n) n := by
  have hfn : (s.fnStep8 n).fn n = { s.fn n with quiescing := false, quiesced := false, flr := false } := fn_of_fns (mget_mput_same _ _ _)
  have hqps : (s.fnStep8 n).qps = s.qps.filter (fun x => x.1 / 16 != n) := rfl
  refine ⟨by rw [hfn], by rw [hfn], by rw [hfn], fun x hx => ?_, fun k hk => ?_⟩
  · rw [hqps, List.mem_filter] at hx
    exact bne_iff_ne.mp hx.2
  · rw [hqps, mget_filter_of_true]
    rintro x rfl
    simpa using hk

theorem Restored.congr {s t u : State} {n : Nat} (h : Restored s t n) (hfn : u.fn n = t.fn n) (hqps : u.qps = t.qps) : Restored s u n := by
  obtain ⟨hquiescing, hquiesced, hflr, hgone, hstay⟩ := h
  exact ⟨hfn ▸ hquiescing, hfn ▸ hquiesced, hfn ▸ hflr, hqps ▸ hgone, hqps ▸ hstay⟩

theorem fn_of_sansReports {s t : State} (h : t.sansReports = s.sansReports) (n : Nat) : t.fn n = s.fn n :=
  fn_congr (by rw [field_of_erased h State.fns]) (field_of_erased h State.boot)

theorem exec_flrDone_vf {s : State} {n : Nat} (hn : n ≠ 0) (hasked : s.unasked n) (hflr : (s.fn n).flr = true) : ∃ t,
    exec (.flrDone n) s = .next t ∧ Restored s t n ∧ bitAt (t.rd 0 (Reg.VFM_FLR_DONE (n / 32))) (n % 32) = true := by
  have hsame : (((s.flrEnd n).quiesceStat n true).flrBit n).sansReports = (s.flrEnd n).sansReports := by simp
  have hend : (((s.flrEnd n).quiesceStat n true).flrBit n).answerQuiesce n = ((s.flrEnd n).quiesceStat n true).flrBit n :=
    answerQuiesce_unasked (unasked_of_sansReports hsame hasked)
  refine ⟨((s.flrEnd n).quiesceStat n true).flrBit n, ?_, ?_, rd_flrBit _ hn⟩
  · change execFlrDone n s = _
    simp [execFlrDone, hflr, hn, hend]
  · exact (fnStep8_restored s n).congr (fn_of_sansReports hsame n) (field_of_erased hsame State.qps)

theorem exec_flrDone_idle {s : State} {n : Nat} (hflr : (s.fn n).flr = false) : exec (.flrDone n) s = .next s := by
  change execFlrDone n s = _
  simp [execFlrDone, hflr]

theorem mget_map_snd {α β : Type} (f : α → β) (m : List (Nat × α)) (k : Nat) : mget (m.map (fun x => (x.1, f x.2))) k = (mget m k).map f := by
  induction m with
  | nil => rfl
  | cons x t ih =>
    obtain ⟨a, b⟩ := x
    by_cases ha : a = k <;> simp [mget, ha, ih]

/-- Clusters that every reset of PF0 leaves to all functions. -/
theorem owner_none_of_map {u : State} {m : List (Nat × Cluster)}
    (h : u.clusters = m.map (fun x => (x.1, { x.2 with owner := none, draining := none }))) (c : Nat) : (u.cluster c).owner = none := by
  have hget := mget_map_snd (fun x : Cluster => { x with owner := none, draining := none }) m c
  rw [← h] at hget
  rw [State.cluster, hget]
  cases mget m c <;> rfl

/-- Everything a reset of PF0 returns to the template (R66, R79). -/
theorem exec_flrDone_pf0 {s : State} (hflr : (s.fn 0).flr = true) (hafter : s.link.flrAfter = []) : ∃ t, exec (.flrDone 0) s = .next t ∧
    t.fns = [] ∧ t.opm = [] ∧ t.link.vfEnable = false ∧ t.link.numVfs = 0 ∧ ∀ c, (t.cluster c).owner = none := by
  have hgo : ((s.fn 0).flr && ((0 : Nat) != 0 || s.link.flrAfter.isEmpty)) = true := by simp [hflr, hafter]
  have hsame : ∀ u : State, ((u.wrB Reg.VFM_APPLY_STAT 0 false).quiesceStat 0 true).sansReports = u.sansReports := fun u => by simp
  refine ⟨_, (if_pos hgo).trans (if_pos rfl), field_of_erased (hsame _) State.fns, field_of_erased (hsame _) State.opm,
    field_of_erased (hsame _) (fun x => x.link.vfEnable), field_of_erased (hsame _) (fun x => x.link.numVfs), owner_none_of_map (field_of_erased (hsame _) State.clusters)⟩

theorem exec_quiesceDone {s : State} {n : Nat} (hasked : s.unasked n) (hq : (s.fn n).quiescing = true) (hflr : (s.fn n).flr = false) : ∃ t,
    exec (.quiesceDone n) s = .next t ∧ (t.fn n).quiescing = false ∧ (t.fn n).quiesced = true ∧ t.qps = s.qps ∧ t.cmds = s.cmds := by
  let u := s.setFn n { s.fn n with quiescing := false, quiesced := true }
  have hsame : ((u.quiesceStat n true).flrBit n).sansReports = u.sansReports := by simp
  have hend : ((u.quiesceStat n true).flrBit n).answerQuiesce n = (u.quiesceStat n true).flrBit n :=
    answerQuiesce_unasked (unasked_of_sansReports hsame hasked)
  have hfn : ((u.quiesceStat n true).flrBit n).fn n = { s.fn n with quiescing := false, quiesced := true } :=
    (fn_of_sansReports hsame n).trans (fn_of_fns (mget_mput_same _ _ _))
  refine ⟨(u.quiesceStat n true).flrBit n, ?_, by rw [hfn], by rw [hfn], field_of_erased hsame State.qps, field_of_erased hsame State.cmds⟩
  change execQuiesceDone n s = _
  have hgo : (s.fn n).quiescing = true ∧ (!(s.fn n).flr) = true := by simp [hq, hflr]
  exact (if_pos hgo).trans (congrArg _ hend)

theorem exec_quiesceRelease {s : State} {n : Nat} {v : Word} (hq : s.quiesceable n = true) (hn : n ≠ 0) (hquiesced : (s.fn n).quiesced = true)
    (hv : fld v 11 0 = n) (hbit : bitAt v 31 = false) : ∃ t, exec (.quiesceRelease v) s = .next t ∧ Restored s t n ∧
      bitAt (t.rd 0 (Reg.VFM_FLR_DONE (n / 32))) (n % 32) = true ∧ t.link.relaxed = s.link.relaxed := by
  have hsame : ((s.fnStep8 n).flrBit n).sansReports = (s.fnStep8 n).sansReports := by simp
  have h30 : bitAt (setBit v 30 true) 30 = true := by rw [bitAt_setBit _ _ _ _ (by decide), if_pos rfl]
  have h31 : bitAt (setBit v 30 true) 31 = false := by rw [bitAt_setBit _ _ _ _ (by decide), if_neg (by decide), hbit]
  have hname : fld (setBit v 30 true) 11 0 = n :=
    (fld_setBits_other v 30 30 _ 11 0 (by decide) (by decide) (by decide) (by decide)).trans hv
  refine ⟨(s.fnStep8 n).flrBit n, ?_, ?_, rd_flrBit _ hn, field_of_erased hsame (fun x => x.link.relaxed)⟩
  · change execQuiesceRelease v s = _
    simp [execQuiesceRelease, State.vfmQuiesce, h30, h31, hname, State.quiesceRelease, hq, hquiesced]
  · exact (fnStep8_restored s n).congr (fn_of_sansReports hsame n) (field_of_erased hsame State.qps)

theorem exec_quiesceStart {s : State} {n : Nat} {v : Word} (hv : fld v 11 0 = n) (hbit : bitAt v 30 = false) :
    exec (.quiesceStart v) s = .next (s.quiesceStart n) := by
  have h31 : bitAt (setBit v 31 true) 31 = true := by rw [bitAt_setBit _ _ _ _ (by decide), if_pos rfl]
  have h30 : bitAt (setBit v 31 true) 30 = false := by rw [bitAt_setBit _ _ _ _ (by decide), if_neg (by decide), hbit]
  have hname : fld (setBit v 31 true) 11 0 = n :=
    (fld_setBits_other v 31 31 _ 11 0 (by decide) (by decide) (by decide) (by decide)).trans hv
  change execQuiesceStart v s = _
  simp [execQuiesceStart, State.vfmQuiesce, h30, h31, hname]

theorem exec_flr {s : State} {n : Nat} (h : 1 ≤ n ∧ n ≤ 2047 ∧ s.enabled n = true) : exec (.flr n) s = .next (s.flrStart n) := if_pos h

theorem exec_readDrainTimeout_idle {s : State} {n : Nat} (h : (s.fn n).quiescing = false) : exec (.readDrainTimeout n) s = .next s := by
  change execReadDrainTimeout n s = _
  simp [execReadDrainTimeout, State.dropCmds, h]

theorem exec_readDrainTimeout_drops {s : State} {n : Nat} (h : (s.fn n).quiescing = true) :
    ∃ t, exec (.readDrainTimeout n) s = .next t ∧ t.tx = s.tx ∧ ∀ id c, mget t.cmds id = some c → c.fn ≠ n := by
  refine ⟨_, rfl, field_of_erased (dropCmds_sansWork s _) State.tx, fun id c hget => ?_⟩
  simpa [h] using dropCmds_gone hget

@[simp] theorem loadStaging_sansRegs (s : State) : s.loadStaging.sansRegs = s.sansRegs := sansRegs_foldl _ (by simp) _ _

theorem Calm.of_sansRegs {s t : State} {n : Nat} (he : t.sansRegs = s.sansRegs) (h : Calm s n) : Calm t n := by
  have hfn : t.fn n = s.fn n := fn_congr (by rw [field_of_erased he State.fns]) (field_of_erased he State.boot)
  obtain ⟨hquiescing, hquiesced, hflr⟩ := h
  exact ⟨hfn ▸ hquiescing, hfn ▸ hquiesced, hfn ▸ hflr⟩

theorem exec_pf0Flr {s : State} (hs : s.settled) (hvf : s.link.vfEnable = false) (hc : Calm s 0) :
    ∃ t, exec .pf0Flr s = .next t ∧ Fenced s t 0 true := by
  let u := (s.vfmReset.foldl (fun (x : State) r => x.wr 0 r (regReset 0 r)) s).loadStaging
  have hregs : u.sansRegs = s.sansRegs := (loadStaging_sansRegs _).trans (sansRegs_foldl _ (by simp) _ _)
  have hsettled : u.settled := by
    have hclusters : u.clusters = s.clusters := field_of_erased hregs State.clusters
    exact fun c hc => hs c (hclusters ▸ hc)
  refine ⟨u.flrStart 0, ?_, (flrStart_calm hsettled (hc.of_sansRegs hregs)).from_sansRegs hregs⟩
  change execPf0Flr s = _
  simp [execPf0Flr, hvf, u]

theorem exec_vfEnableClear {s : State} (hs : s.settled) (hvf : s.link.vfEnable = true) : ∃ t, exec .vfEnableClear s = .next t ∧
    t.link.vfEnable = false ∧ ∀ n, 1 ≤ n → n ≤ s.link.numVfs → (t.fn n).flr = true := by
  refine ⟨_, if_pos hvf, rfl, fun n hn hle => flrStarts_reset s.vfList hs n (.inl ?_)⟩
  exact List.mem_map.mpr ⟨n - 1, List.mem_range.mpr (by omega), by omega⟩

/-- Settles O40, from the fence of steps 2 to 7 and the ends above. -/
theorem functionResets : Obligations.FunctionResets := by
  refine ⟨fun s n hlo hhi hen hflr happ => ?waits, fun s hs => ?_⟩
  case waits =>
    rw [exec_flr ⟨hlo, hhi, hen⟩]
    simp [State.flrStart, hflr, happ]
  intro calm noReq start
  have hstart : ∀ {n flr t}, Fenced s t n flr → start n flr t := fun h => ⟨h.quiescing, h.reset, h.sent, h.gone, h.stay, h.ctxsGone, h.ctxsStay,
    h.digestsGone, h.digestsStay, h.slotsGone, h.pairsClosed, h.pairsStay, h.fnsStay⟩
  refine ⟨?flr, fun n h => if_neg h, ?quiesce, ?flrDone, fun hflr hafter _ => exec_flrDone_pf0 hflr hafter, fun n => exec_flrDone_idle,
    fun n => exec_quiesceDone, ?release, fun n => exec_readDrainTimeout_idle, fun n => exec_readDrainTimeout_drops, ?pf0,
    fun h => if_neg (by simp [h]), exec_vfEnableClear hs⟩
  case flr =>
    rintro n ⟨hlo, hhi, hen, hq, hqd, hflr⟩
    exact ⟨_, exec_flr ⟨hlo, hhi, hen⟩, hstart (flrStart_calm hs ⟨hq, hqd, hflr⟩)⟩
  case quiesce =>
    rintro n v ⟨hlo, hhi, hen, hq, hqd, hflr⟩ hv hbit
    exact ⟨_, exec_quiesceStart hv hbit, hstart (quiesceStart_calm ((quiesceable_iff s n).mpr ⟨hlo, hhi, hen⟩) ⟨hq, hqd, hflr⟩)⟩
  case flrDone =>
    intro n hn hasked hflr
    obtain ⟨t, hexec, hrest, hbit⟩ := exec_flrDone_vf hn hasked hflr
    exact ⟨t, hexec, hrest.quiescing, hrest.quiesced, hrest.flr, hrest.pairsGone, hrest.pairsStay, fun _ => hbit⟩
  case release =>
    intro n v hlo hhi hen hqd hv hbit
    obtain ⟨t, hexec, hrest, hdone, hrelaxed⟩ :=
      exec_quiesceRelease ((quiesceable_iff s n).mpr ⟨hlo, hhi, hen⟩) (by omega) hqd hv hbit
    exact ⟨t, hexec, hrest.quiesced, hrest.quiescing, hrest.pairsGone, hdone, hrelaxed⟩
  case pf0 =>
    intro hvf hq hqd hflr
    obtain ⟨t, hexec, hfenced⟩ := exec_pf0Flr hs hvf ⟨hq, hqd, hflr⟩
    exact ⟨t, hexec, hstart hfenced⟩

end Sys2Proof.Machine
end

section
/-!
SUPPORT. Rows of management commands, and key administration through the mailbox (spec files 04 and 05, R77, R133 to R159).
-/
namespace Sys2Proof.Machine
open Sys2Proof

/-! Rows of management commands. -/

/-- A channel holds an accepted request with a code and a subcommand, of which nothing was done yet. -/
abbrev AcceptedSub (s : State) (fn ch code sub : Nat) (r : MbxReq) : Prop := Accepted s fn ch code r ∧ leAt r.inl 0 1 = sub

section
variable {s t : State} {fn ch code sub st : Nat} {r : MbxReq} {f : MbxReq → Course} {p : Reply}

/-- A reply without a buffer is always delivered. -/
theorem answer_noBuf (s t : State) (fn ch : Nat) (r : MbxReq) (h : p.buf = []) : answer s t fn ch r p = t.mbxEnd (mbxKey fn ch) p :=
  if_pos (.inl h)

theorem mbxRow1_inline (h : Accepted s fn ch code r) (hf : f r = .done t p) (hp : p.buf = []) :
    mbxRow1 code fn ch f s = .next (t.mbxEnd (mbxKey fn ch) p) := by
  rw [mbxRow1_done h hf, answer_noBuf s t fn ch r hp]

/-- An accepted request whose operation runs on. -/
theorem mbxRow1_runs (h : Accepted s fn ch code r) (hf : f r = .runs t) : mbxRow1 code fn ch f s = runsOn t fn ch := by
  obtain ⟨hget, hcode, hstart⟩ := h
  simp [mbxRow1, mbxRow, runsOn, hget, hcode, hstart, hf]

theorem mbxRow2_inline (h : AcceptedSub s fn ch code sub r) (hf : f r = .done t p) (hp : p.buf = []) :
    mbxRow2 code sub fn ch f s = .next (t.mbxEnd (mbxKey fn ch) p) := by
  obtain ⟨⟨hget, hcode, hstart⟩, hsub⟩ := h
  simp [mbxRow2, mbxRow, hget, hcode, hstart, hsub, hf, Reply.fits, hp]

theorem mbxRow2_bad (h : AcceptedSub s fn ch code sub r) (hf : f r = .bad st) : mbxRow2 code sub fn ch f s = refuse s fn ch st := by
  obtain ⟨⟨hget, hcode, hstart⟩, hsub⟩ := h
  simp [mbxRow2, mbxRow, refuse, hget, hcode, hstart, hsub, hf, Course.bad, Reply.err]

end

/-! KEY_DESTROY_FN (R77, R135). -/

theorem mem_mdel {α : Type} {m : List (Nat × α)} {k : Nat} {x : Nat × α} (h : x ∈ mdel m k) : x ∈ m ∧ x.1 ≠ k := by
  simpa [mdel] using h

/-- An object that leaves takes its record along; other objects, contexts, epochs, commands and queue pairs stay. -/
theorem dropObj_frame (s : State) (h : Nat) :
    (s.dropObj h).ks.objs = mdel s.ks.objs h ∧ (s.dropObj h).ks.ctxs = s.ks.ctxs ∧ (s.dropObj h).ks.blobEpoch = s.ks.blobEpoch ∧
      (s.dropObj h).cmds = s.cmds ∧ (s.dropObj h).qps = s.qps ∧ (s.dropObj h).kernels = s.kernels ∧ (s.dropObj h).signers = s.signers := by
  have hgone : mget s.ks.objs h = none → mdel s.ks.objs h = s.ks.objs := fun hn => by
    refine List.filter_eq_self.mpr (fun x hx => ?_)
    have := mget_isSome_of_mem hx
    have hne : x.1 ≠ h := fun he => by simp [he, hn] at this
    simpa using hne
  unfold State.dropObj
  split
  · next hn => exact ⟨(hgone hn).symm, rfl, rfl, rfl, rfl, rfl, rfl⟩
  · dsimp only
    split <;> exact ⟨rfl, rfl, rfl, rfl, rfl, rfl, rfl⟩

theorem dropObj_flash (s : State) (h : Nat) (x : Nat × FlashKey) (hx : x ∈ (s.dropObj h).ks.flash) :
    x ∈ s.ks.flash ∧ ((mget s.ks.objs h).isSome = true → x.1 ≠ h) := by
  unfold State.dropObj at hx
  split at hx
  · next hn => exact ⟨hx, by simp [hn]⟩
  · dsimp only at hx
    have hmem : x ∈ mdel s.ks.flash h := by split at hx <;> exact hx
    exact ⟨(mem_mdel hmem).1, fun _ => (mem_mdel hmem).2⟩

/-- The objects of a list of handles leave. -/
theorem dropObjs_frame (l : List Nat) (s : State) : let t := l.foldl State.dropObj s
    (∀ x, mget t.ks.objs x = if x ∈ l then none else mget s.ks.objs x) ∧ t.ks.ctxs = s.ks.ctxs ∧ t.ks.blobEpoch = s.ks.blobEpoch ∧
      t.cmds = s.cmds ∧ t.qps = s.qps ∧ (∀ x ∈ t.ks.flash, x ∈ s.ks.flash ∧ ((mget s.ks.objs x.1).isSome = true → x.1 ∉ l)) := by
  induction l generalizing s with
  | nil => exact ⟨fun _ => rfl, rfl, rfl, rfl, rfl, fun x hx => ⟨hx, fun _ => List.not_mem_nil⟩⟩
  | cons h l ih =>
    obtain ⟨hobjs, hctxs, hepoch, hcmds, hqps, -, -⟩ := dropObj_frame s h
    obtain ⟨iobjs, ictxs, iepoch, icmds, iqps, iflash⟩ := ih (s.dropObj h)
    refine ⟨fun x => ?_, ictxs.trans hctxs, iepoch.trans hepoch, icmds.trans hcmds, iqps.trans hqps, fun x hx => ?_⟩
    · rw [List.foldl_cons, iobjs x, hobjs]
      by_cases hxh : x = h
      · simp [hxh, mget_mdel_same]
      · simp [hxh, mget_mdel_other _ _ _ hxh]
    · obtain ⟨hmem, hnot⟩ := iflash x hx
      obtain ⟨hmem', hne⟩ := dropObj_flash s h x hmem
      refine ⟨hmem', fun hsome hin => ?_⟩
      by_cases hxh : x.1 = h
      · exact hne (hxh ▸ hsome) hxh
      · refine hnot (by rwa [hobjs, mget_mdel_other _ _ _ hxh]) ((List.mem_cons.mp hin).resolve_left hxh)

/-- The handles of a function's objects. -/
theorem mem_objsOf_keys {s : State} {f x : Nat} (h : (mget s.ks.objs x).isSome = true) : x ∈ (s.objsOf f).map (·.1) ↔ handleFn x = f := by
  obtain ⟨o, ho⟩ := Option.isSome_iff_exists.mp h
  simp only [State.objsOf, List.mem_map, List.mem_filter, beq_iff_eq]
  exact ⟨fun ⟨p, ⟨_, hp⟩, hpx⟩ => hpx ▸ hp, fun hx => ⟨(x, o), ⟨mem_of_mget ho, hx⟩, rfl⟩⟩

theorem destroyFn_frame (s : State) (f : Nat) : let t := s.destroyFn f
    (∀ x, mget t.ks.objs x = if handleFn x = f then none else mget s.ks.objs x) ∧ (∀ x ∈ t.ks.ctxs, x.1 / 65536 ≠ f) ∧
      mget t.ks.blobEpoch f = some (((mget s.ks.blobEpoch f).getD 0 + 1) % 2 ^ 32) ∧
      (∀ x ∈ t.ks.flash, (mget s.ks.objs x.1).isSome = true → handleFn x.1 ≠ f) ∧ t.cmds = s.cmds ∧ t.qps = s.qps := by
  obtain ⟨hobjs, -, hepoch, hcmds, hqps, hflash⟩ := dropObjs_frame ((s.objsOf f).map (·.1)) s
  refine ⟨fun x => (hobjs x).trans ?_, fun x hx => by simpa using (List.mem_filter.mp hx).2, ?_, fun x hx hsome hfn => ?_, hcmds, hqps⟩
  · cases hx : mget s.ks.objs x with
    | none => simp
    | some o => simp only [mem_objsOf_keys (s := s) (f := f) (x := x) (by simp [hx])]
  · simp only [State.destroyFn, hepoch]
    exact mget_mput_same _ _ _
  · exact (hflash x hx).2 hsome ((mem_objsOf_keys hsome).mpr hfn)

theorem quorum_flagged_iff (s : State) (f : Nat) :
    (s.objsOf f).any (fun o => attrQuorum o.2.attrs) = true ↔ ∃ x ∈ s.ks.objs, handleFn x.1 = f ∧ attrQuorum x.2.attrs = true := by
  simp only [State.objsOf, List.any_filter, List.any_eq_true, Bool.and_eq_true, beq_iff_eq]

/-! Attribute records (R132, R133). -/

/-- The first eight bytes of a record, which hold its fields. -/
theorem exists_attr_bytes {a : List Byte} (h : a.length = 32) : ∃ b0 b1 b2 b3 b4 b5 b6 b7 t, a = b0 :: b1 :: b2 :: b3 :: b4 :: b5 :: b6 :: b7 :: t := by
  match a, h with
  | b0 :: b1 :: b2 :: b3 :: b4 :: b5 :: b6 :: b7 :: t, _ => exact ⟨b0, b1, b2, b3, b4, b5, b6, b7, t, rfl⟩

/-- The record with another policy and QUORUM flag. -/
def withPolicy (a : List Byte) (p q : Nat) : List Byte :=
  a.take 4 ++ [BitVec.ofNat 8 p, BitVec.ofNat 8 (attrFlags a % 2 + 2 * q)] ++ a.drop 6

theorem withPolicy_fields {a : List Byte} (h : a.length = 32) {p q : Nat} (hp : p ≤ 2) (hq : q ≤ 1) :
    attrPolicy (withPolicy a p q) = p ∧ attrFlags (withPolicy a p q) = attrFlags a % 2 + 2 * q ∧ attrFam (withPolicy a p q) = attrFam a ∧
      attrUse (withPolicy a p q) = attrUse a := by
  obtain ⟨b0, b1, b2, b3, b4, b5, b6, b7, t, rfl⟩ := exists_attr_bytes h
  have hpolicy : p % 256 = p := by omega
  have hflags : (b5.toNat % 2 + 2 * q) % 256 = b5.toNat % 2 + 2 * q := by omega
  simp [withPolicy, attrPolicy, attrFlags, attrFam, attrUse, leAt, slice, leNat, hpolicy, hflags]

theorem withPolicy_flags {a : List Byte} (h : a.length = 32) {p q : Nat} (hp : p ≤ 2) (hq : q ≤ 1) :
    (attrQuorum (withPolicy a p q) = true ↔ q = 1) ∧ attrPersist (withPolicy a p q) = attrPersist a := by
  obtain ⟨-, hflags, -, -⟩ := withPolicy_fields h hp hq
  rw [attrQuorum, attrPersist, attrPersist, hflags]
  obtain rfl | rfl : q = 0 ∨ q = 1 := by omega
  all_goals simp [Nat.testBit_eq_decide_div_mod_eq]

/-- The record with another reservation block. -/
def withLeafBlock (a : List Byte) (n : Nat) : List Byte := a.take 6 ++ natLE 2 n ++ a.drop 8

theorem withLeafBlock_fields {a : List Byte} (h : a.length = 32) {n : Nat} (hn : n ≤ 16) :
    attrLeafBlock (withLeafBlock a n) = n ∧ attrFlags (withLeafBlock a n) = attrFlags a := by
  obtain ⟨b0, b1, b2, b3, b4, b5, b6, b7, t, rfl⟩ := exists_attr_bytes h
  have hlow : n % 256 = n := by omega
  have hhigh : n / 256 % 256 = 0 := by omega
  simp [withLeafBlock, attrLeafBlock, attrFlags, leAt, slice, leNat, natLE, hlow, hhigh]

/-! KEY_ADMIN (R133, R140, R156, R159). -/

/-- An object whose attributes change keeps its generations, and every other object stays. -/
theorem setAttrs_objs (s : State) (h : Nat) (o : KeyObj) (a : List Byte) :
    mget (s.setAttrs h o a).ks.objs h = some { o with attrs := a } ∧ ∀ x, x ≠ h → mget (s.setAttrs h o a).ks.objs x = mget s.ks.objs x :=
  ⟨mget_mput_same _ _ _, fun _ hx => mget_mput_other _ _ _ _ hx⟩

section
variable {s : State} {fn ch : Nat} {r : MbxReq}

/-- The change that SET_POLICY asks for loosens the policy, clears QUORUM, or gives a record that R133 does not allow. -/
def PolicyRefused (a : List Byte) (p q : Nat) : Prop :=
  attrPolicy a < p ∨ (attrQuorum a = true ∧ q = 0) ∨ (q = 1 ∧ p = 0) ∨ (isStateful (attrFam a) = true ∧ p = 1)

theorem setPolicy_good_fields {r : MbxReq} (hlen : 10 ≤ r.inl.length) (hp : leAt r.inl 8 1 ≤ 2) (hq : leAt r.inl 9 1 ≤ 1) :
    ¬ (r.inl.length < 10 ∨ leAt r.inl 8 1 > 2 ∨ leAt r.inl 9 1 > 1) := by omega

theorem exec_setPolicy_absent (h : AcceptedSub s fn ch 0x0302 1 r) (hlen : 10 ≤ r.inl.length) (hp : leAt r.inl 8 1 ≤ 2) (hq : leAt r.inl 9 1 ≤ 1)
    (hno : s.pfObj (leAt r.inl 4 4) = none) : exec (.setPolicy fn ch) s = refuse s fn ch St.KEY_ABSENT := by
  change execSetPolicy fn ch s = _
  refine mbxRow2_bad h ?_
  simp only [if_neg (setPolicy_good_fields hlen hp hq), hno]

theorem exec_setPolicy_refused {o : KeyObj} (h : AcceptedSub s fn ch 0x0302 1 r) (hlen : 10 ≤ r.inl.length) (hp : leAt r.inl 8 1 ≤ 2)
    (hq : leAt r.inl 9 1 ≤ 1) (ho : s.pfObj (leAt r.inl 4 4) = some o) (hu : o.unsealed = true)
    (hbad : PolicyRefused o.attrs (leAt r.inl 8 1) (leAt r.inl 9 1)) : exec (.setPolicy fn ch) s = refuse s fn ch St.KEY_USAGE := by
  change execSetPolicy fn ch s = _
  refine mbxRow2_bad h ?_
  simp only [if_neg (setPolicy_good_fields hlen hp hq), ho, hu]
  exact if_pos hbad

theorem exec_setPolicy_done {o : KeyObj} (h : AcceptedSub s fn ch 0x0302 1 r) (hlen : 10 ≤ r.inl.length) (hp : leAt r.inl 8 1 ≤ 2)
    (hq : leAt r.inl 9 1 ≤ 1) (ho : s.pfObj (leAt r.inl 4 4) = some o) (hu : o.unsealed = true)
    (hgood : ¬ PolicyRefused o.attrs (leAt r.inl 8 1) (leAt r.inl 9 1)) : exec (.setPolicy fn ch) s =
      .next ((s.setAttrs (leAt r.inl 4 4) o (withPolicy o.attrs (leAt r.inl 8 1) (leAt r.inl 9 1))).mbxEnd (mbxKey fn ch)
        ⟨0, [], [], 0, attrPersist o.attrs⟩) := by
  change execSetPolicy fn ch s = _
  refine mbxRow2_inline h ?_ rfl
  simp only [if_neg (setPolicy_good_fields hlen hp hq), ho, hu]
  refine (if_neg hgood).trans ?_
  cases attrPersist o.attrs <;> rfl

theorem setLeafBlock_good_fields {r : MbxReq} (hlen : 9 ≤ r.inl.length) (hlo : 6 ≤ leAt r.inl 8 1) (hhi : leAt r.inl 8 1 ≤ 16) :
    ¬ (r.inl.length < 9 ∨ leAt r.inl 8 1 < 6 ∨ leAt r.inl 8 1 > 16) := by omega

theorem exec_setLeafBlock_device (h : AcceptedSub s fn ch 0x0302 2 r) (hlen : 9 ≤ r.inl.length) (hlo : 6 ≤ leAt r.inl 8 1)
    (hhi : leAt r.inl 8 1 ≤ 16) (h0 : leAt r.inl 4 4 = 0) : exec (.setLeafBlock fn ch) s =
      .next ((s.wrF Reg.KST_HBS 4 0 (leAt r.inl 8 1)).mbxEnd (mbxKey fn ch) ⟨0, [], [], 0, false⟩) := by
  change execSetLeafBlock fn ch s = _
  refine mbxRow2_inline h ?_ rfl
  simp only [if_neg (setLeafBlock_good_fields hlen hlo hhi), if_pos h0]
  rfl

theorem exec_setLeafBlock_stateless {o : KeyObj} (h : AcceptedSub s fn ch 0x0302 2 r) (hlen : 9 ≤ r.inl.length) (hlo : 6 ≤ leAt r.inl 8 1)
    (hhi : leAt r.inl 8 1 ≤ 16) (h0 : leAt r.inl 4 4 ≠ 0) (ho : s.pfObj (leAt r.inl 4 4) = some o) (hu : o.unsealed = true)
    (hfam : isStateful (attrFam o.attrs) = false) : exec (.setLeafBlock fn ch) s = refuse s fn ch St.KEY_USAGE := by
  change execSetLeafBlock fn ch s = _
  refine mbxRow2_bad h ?_
  simp [if_neg (setLeafBlock_good_fields hlen hlo hhi), h0, ho, hu, hfam]

theorem exec_setLeafBlock_stateful {o : KeyObj} (h : AcceptedSub s fn ch 0x0302 2 r) (hlen : 9 ≤ r.inl.length) (hlo : 6 ≤ leAt r.inl 8 1)
    (hhi : leAt r.inl 8 1 ≤ 16) (h0 : leAt r.inl 4 4 ≠ 0) (ho : s.pfObj (leAt r.inl 4 4) = some o) (hu : o.unsealed = true)
    (hfam : isStateful (attrFam o.attrs) = true) : exec (.setLeafBlock fn ch) s =
      .next ((s.setAttrs (leAt r.inl 4 4) o (withLeafBlock o.attrs (leAt r.inl 8 1))).mbxEnd (mbxKey fn ch) ⟨0, [], [], 0, true⟩) := by
  change execSetLeafBlock fn ch s = _
  refine mbxRow2_inline h ?_ rfl
  simp only [if_neg (setLeafBlock_good_fields hlen hlo hhi), h0, ho, hu, hfam]
  rfl

theorem exec_setLeafBlock_bad (h : AcceptedSub s fn ch 0x0302 2 r) (hbad : r.inl.length < 9 ∨ leAt r.inl 8 1 < 6 ∨ 16 < leAt r.inl 8 1) :
    exec (.setLeafBlock fn ch) s = refuse s fn ch St.BAD_FIELD := by
  change execSetLeafBlock fn ch s = _
  exact mbxRow2_bad h (if_pos hbad)

theorem exec_ackLost_bad (h : AcceptedSub s fn ch 0x0302 3 r) (hbad : s.sealState ≠ Seal.LOST ∨ bitAt (s.rd 0 Reg.TMP_STAT) 1 = true) :
    exec (.ackLost fn ch) s = refuse s fn ch St.STATE := by
  change execAckLost fn ch s = _
  refine mbxRow2_bad h (if_neg ?_)
  simp only [State.rdB, Bool.not_eq_true', not_and, Bool.not_eq_false]
  exact hbad.resolve_left ∘ not_not_intro

theorem exec_ackLost_done (h : AcceptedSub s fn ch 0x0302 3 r) (hlost : s.sealState = Seal.LOST) (hheld : bitAt (s.rd 0 Reg.TMP_STAT) 1 = false) :
    exec (.ackLost fn ch) s = .next (s.endLost.mbxEnd (mbxKey fn ch) ⟨0, [], [], 0, true⟩) := by
  change execAckLost fn ch s = _
  refine mbxRow2_inline h (if_pos ⟨hlost, ?_⟩) rfl
  rw [State.rdB, hheld]
  rfl

theorem endLost_flash (s : State) : s.endLost.ks.flash = s.ks.flash.filter (fun x => decide (s.ks.dsk = some x.2.dsk)) := by
  refine List.filter_congr (fun x _ => ?_)
  rw [Bool.eq_iff_iff, beq_iff_eq, decide_eq_true_eq, eq_comm]

theorem endLost_sealState (s : State) : s.endLost.sealState = if s.endLost.ks.flash = [] then Seal.EMPTY else Seal.NORMAL := by
  have hset : ∀ v, v < 4 → (s.wrF Reg.KST_STAT 5 4 v).sealState = v := fun v hv => rdF_wrF_same s _ 5 4 v (by decide) (by decide) hv
  have hstat : s.endLost.sealState = (s.wrF Reg.KST_STAT 5 4 (if s.endLost.ks.flash.isEmpty then Seal.EMPTY else Seal.NORMAL)).sealState := rfl
  rw [hstat]
  by_cases hnone : s.endLost.ks.flash = []
  · rw [if_pos hnone, if_pos (by simp [hnone]), hset _ (by decide)]
  · rw [if_neg hnone, if_neg (by simpa using hnone), hset _ (by decide)]

end

/-- Settles O43: each subcommand answers by its row, and what it changes is said by the laws of records and objects above. -/
theorem keyAdministration : Obligations.KeyAdministration := by
  intro s fn ch r ok h sub f flagged
  have htarget : r.target fn = f := rfl
  refine ⟨?destroy, ?policy, ?policyAbsent, ?leafDevice, ?leafKey, fun hsub => exec_setLeafBlock_bad hsub, fun hsub => exec_ackLost_bad hsub, ?lost, ?area⟩
  case destroy =>
    intro hacc hf hlen
    have hgood : ¬ (f ≥ 2048 ∨ (fn = 0 ∧ r.inl.length < 2)) := by omega
    have hflag : (s.objsOf f).any (fun o => attrQuorum o.2.attrs) = true ↔ flagged := quorum_flagged_iff s f
    refine ⟨fun hfl hq => ?_, fun hfree => ⟨s.destroyFn f, ?_, destroyFn_frame s f⟩⟩
    · change execKeyDestroyFn fn ch s = _
      refine mbxRow1_bad hacc ?_
      simp only [htarget, if_neg hgood, hflag.mpr hfl, hq]
      rfl
    · change execKeyDestroyFn fn ch s = _
      refine mbxRow1_inline hacc ?_ rfl
      have hpass : ((s.objsOf f).any (fun o => attrQuorum o.2.attrs) && !s.quorumOpen) = false := by
        obtain hno | hq := hfree
        · rw [Bool.eq_false_iff.mpr (fun hfl => hno (hflag.mp hfl)), Bool.false_and]
        · rw [hq, Bool.not_true, Bool.and_false]
      simp only [htarget, if_neg hgood, hpass]
      rfl
  case policy =>
    intro o hsub ho hu hattrs hlen hp hq p q bad
    refine ⟨exec_setPolicy_refused hsub hlen hp hq ho hu, fun hgood => ?_⟩
    obtain ⟨hpol, -, hfam, huse⟩ := withPolicy_fields hattrs hp hq
    obtain ⟨hquorum, hpersist⟩ := withPolicy_flags hattrs hp hq
    obtain ⟨hsame, hother⟩ := setAttrs_objs s h o (withPolicy o.attrs p q)
    exact ⟨_, _, exec_setPolicy_done hsub hlen hp hq ho hu hgood, hsame, hpol, hquorum, hfam, huse, hpersist, rfl, hother⟩
  case policyAbsent => exact fun hsub ho hlen hp hq => exec_setPolicy_absent hsub hlen hp hq ho
  case leafDevice =>
    intro hsub hlen hlo hhi h0
    exact ⟨_, exec_setLeafBlock_device hsub hlen hlo hhi h0, rdF_wrF_same s _ 4 0 _ (by decide) (by decide) (by omega), rfl⟩
  case leafKey =>
    intro o hsub hlen hlo hhi h0 ho hu hattrs
    refine ⟨exec_setLeafBlock_stateless hsub hlen hlo hhi h0 ho hu, fun hfam => ?_⟩
    obtain ⟨hblock, hflags⟩ := withLeafBlock_fields hattrs hhi
    obtain ⟨hsame, hother⟩ := setAttrs_objs s h o (withLeafBlock o.attrs (leAt r.inl 8 1))
    exact ⟨_, _, exec_setLeafBlock_stateful hsub hlen hlo hhi h0 ho hu hfam, hsame, hblock, hflags, rfl, hother⟩
  case lost => exact fun hsub hl hheld => ⟨_, exec_ackLost_done hsub hl hheld, endLost_flash s, endLost_sealState s, rfl⟩
  case area =>
    intro hsub hlen hlo hhi
    have hgood : ¬ (r.inl.length < 10 ∨ leAt r.inl 8 2 < 16 ∨ leAt r.inl 8 2 > 256) := by omega
    refine ⟨fun hfull => ?_, fun hempty => ?_⟩
    · change execCkArea fn ch s = _
      refine mbxRow2_bad hsub ?_
      simp only [if_neg hgood]
      exact if_pos (by simpa using hfull)
    · change execCkArea fn ch s = _
      refine mbxRow2_inline hsub ?_ rfl
      simp only [if_neg hgood]
      exact if_neg (by simp [hempty])

end Sys2Proof.Machine
end

section
/-!
SUPPORT. Kernels, grants and signers through the mailbox, and FN_QUIESCE (spec file 06, R176, R187 to R190; spec file 02, R78).
-/
namespace Sys2Proof.Machine
open Sys2Proof

/-! KERNEL_LOAD (R187, R190). -/

/-- The installed kernel is the one current kernel of its opcode; kernels of other opcodes stay. -/
theorem install_kernels (s : State) (k : Kernel) : k ∈ (s.install k).kernels ∧
    (∀ x ∈ (s.install k).kernels, x.opcode = k.opcode → x.current = true → x = k) ∧ (∀ x ∈ s.kernels, x.opcode ≠ k.opcode → x ∈ (s.install k).kernels) := by
  refine ⟨List.mem_append_right _ (List.mem_singleton_self k), fun x hx hop hcur => ?_, fun x hx hop => ?_⟩
  · obtain hold | hnew := List.mem_append.mp hx
    · obtain ⟨y, -, rfl⟩ := List.mem_map.mp hold
      by_cases hy : y.opcode = k.opcode
      · simp [hy] at hcur
      · simp [hy] at hop
    · exact List.mem_singleton.mp hnew
  · exact List.mem_append_left _ (List.mem_map.mpr ⟨x, hx, if_neg hop⟩)

/-- A kernel of an opcode that an image with the security version `svn` may not replace. -/
def State.newerThan (s : State) (op svn : Nat) : Bool :=
  s.kernels.any (fun k => k.opcode == op && (k.current || k.persist) && decide (svn < k.svn))

theorem newerThan_iff (s : State) (op svn : Nat) :
    s.newerThan op svn = true ↔ ∃ k ∈ s.kernels, k.opcode = op ∧ (k.current = true ∨ k.persist = true) ∧ svn < k.svn := by
  simp [State.newerThan, and_assoc]

/-- Grants that a new kernel of an opcode takes over. -/
def State.grantsFor (s : State) (op : Nat) : Option (List Nat) :=
  match s.kernels.find? (fun k => k.opcode == op && k.current && k.kind == 1) with | some k => k.grants | none => some []

/-- The kernel of a request's image, as KERNEL_LOAD installs it. -/
def State.loadedKernel (s : State) (r : MbxReq) (b : List Byte) (slots : List Nat) : Kernel :=
  kernelOfImage b ((leAt r.inl 0 1).testBit 0) (s.grantsFor (leAt b 6 2)) slots

section
variable {s : State} {fn ch : Nat} {r : MbxReq} {req : List Byte}

theorem exec_kernelLoad_malformed (h : Accepted s fn ch 0x0400 r) (hbad : r.ext = false ∨ imageOk (r.payload req) = false) :
    exec (.kernelLoad fn ch req) s = refuse s fn ch St.BAD_FIELD := by
  change execKernelLoad fn ch req s = _
  exact mbxRow1_bad h (if_pos (by simpa using hbad))

section
variable (h : Accepted s fn ch 0x0400 r) (hext : r.ext = true) (hok : imageOk (r.payload req) = true)
include h hext hok

theorem exec_kernelLoad_unsigned (hsig : s.imageSigned (r.payload req) = false) :
    exec (.kernelLoad fn ch req) s = refuse s fn ch AUTH_FAILED := by
  change execKernelLoad fn ch req s = _
  refine mbxRow1_bad h ?_
  simp [hext, hok, hsig]

variable (hsig : s.imageSigned (r.payload req) = true)
include hsig

theorem exec_kernelLoad_older (hold : s.newerThan (leAt (r.payload req) 6 2) (leAt (r.payload req) 36 1) = true) :
    exec (.kernelLoad fn ch req) s = refuse s fn ch ROLLBACK := by
  change execKernelLoad fn ch req s = _
  refine mbxRow1_bad h ?_
  dsimp only
  rw [hext, hok, hsig]
  exact if_pos hold

variable (hold : s.newerThan (leAt (r.payload req) 6 2) (leAt (r.payload req) 36 1) = false)
include hold

theorem exec_kernelLoad_noSlots (hslots : s.freeTwiddles (leAt (r.payload req) 6 2) (leAt (r.payload req) 5 1) (leAt (r.payload req) 38 1) = none) :
    exec (.kernelLoad fn ch req) s = refuse s fn ch St.QUOTA := by
  change execKernelLoad fn ch req s = _
  refine mbxRow1_bad h ?_
  dsimp only
  rw [hext, hok, hsig, hslots]
  exact if_neg (Bool.eq_false_iff.mp hold)

variable {slots : List Nat}
  (hslots : s.freeTwiddles (leAt (r.payload req) 6 2) (leAt (r.payload req) 5 1) (leAt (r.payload req) 38 1) = some slots)
include hslots

theorem exec_kernelLoad_noRoom (hroom : s.cacheTakes (leAt (r.payload req) 6 2) (leAt (r.payload req) 5 1)
    (s.loadedKernel r (r.payload req) slots).cached = false) : exec (.kernelLoad fn ch req) s = refuse s fn ch St.QUOTA := by
  change execKernelLoad fn ch req s = _
  refine mbxRow1_bad h ?_
  dsimp only
  rw [hext, hok, hsig, hslots]
  refine (if_neg (Bool.eq_false_iff.mp hold)).trans (if_pos ?_)
  rw [Bool.not_eq_true']
  exact hroom

variable (hroom : s.cacheTakes (leAt (r.payload req) 6 2) (leAt (r.payload req) 5 1) (s.loadedKernel r (r.payload req) slots).cached = true)
include hroom

theorem exec_kernelLoad_logFull (hfull : 4096 ≤ s.boot.sillage.length) : exec (.kernelLoad fn ch req) s = refuse s fn ch St.STATE := by
  change execKernelLoad fn ch req s = _
  refine mbxRow1_bad h ?_
  dsimp only
  rw [hext, hok, hsig, hslots]
  refine (if_neg (Bool.eq_false_iff.mp hold)).trans ((if_neg ?_).trans (if_pos hfull))
  rw [Bool.not_eq_true', Bool.not_eq_false]
  exact hroom

theorem exec_kernelLoad_done (hlog : s.boot.sillage.length < 4096) : exec (.kernelLoad fn ch req) s =
    .next (((s.measure (3 + leAt (r.payload req) 5 1) (leAt (r.payload req) 36 1) (leAt (r.payload req) 6 2)
      (sha3_384 ((r.payload req).take (imageBody (r.payload req))))).install (s.loadedKernel r (r.payload req) slots)).mbxEnd (mbxKey fn ch)
      ⟨0, natLE 2 (leAt (r.payload req) 6 2) ++ [BitVec.ofNat 8 (leAt (r.payload req) 36 1), 0] ++
        sha3_384 ((r.payload req).take (imageBody (r.payload req))), [], 0, true⟩) := by
  change execKernelLoad fn ch req s = _
  refine mbxRow1_inline h ?_ rfl
  dsimp only
  rw [hext, hok, hsig, hslots]
  refine (if_neg (Bool.eq_false_iff.mp hold)).trans ((if_neg ?_).trans (if_neg (Nat.not_le.mpr hlog)))
  rw [Bool.not_eq_true', Bool.not_eq_false]
  exact hroom

end

/-! KERNEL_UNLOAD (R190). -/

/-- A kernel that later commands do not find, out of flash. -/
def Kernel.unloaded (k : Kernel) (op : Nat) : Kernel := if k.opcode = op then { k with current := false, persist := false } else k

theorem unloaded_opcode (k : Kernel) (op : Nat) : (k.unloaded op).opcode = k.opcode := by
  unfold Kernel.unloaded
  split <;> rfl

theorem exec_kernelUnload_bad (h : Accepted s fn ch 0x0401 r) (hbad : r.inl.length < 2 ∨ s.ownerKernel (leAt r.inl 0 2) = none) :
    exec (.kernelUnload fn ch) s = refuse s fn ch St.BAD_FIELD := by
  change execKernelUnload fn ch s = _
  exact mbxRow1_bad h (if_pos (by simpa using hbad))

theorem exec_kernelUnload_runs {k : Kernel} (h : Accepted s fn ch 0x0401 r) (hlen : 2 ≤ r.inl.length)
    (hk : s.ownerKernel (leAt r.inl 0 2) = some k) : exec (.kernelUnload fn ch) s =
      runsOn { (if s.persisted (leAt r.inl 0 2) = true then s.mbxCommit (mbxKey fn ch) else s) with
        kernels := s.kernels.map (fun (x : Kernel) => x.unloaded (leAt r.inl 0 2)) } fn ch := by
  change execKernelUnload fn ch s = _
  refine mbxRow1_runs h (if_neg ?_)
  simp [hk, Nat.not_lt.mpr hlen]

theorem exec_kernelUnloadDone_unasked {n : Nat} (h : ∀ m ∈ s.mbx, ¬ (m.2.started = true ∧ m.2.code = 0x0401 ∧ leAt m.2.inl 0 2 = n)) :
    exec (.kernelUnloadDone n) s = .next s := by
  have hnone : s.mbx.find? (fun x => x.2.started && x.2.code == 0x0401 && leAt x.2.inl 0 2 == n) = none := by
    refine List.find?_eq_none.mpr (fun m hm => ?_)
    simpa [and_assoc] using h m hm
  change execKernelUnloadDone n s = _
  simp only [execKernelUnloadDone, hnone]

section
variable {n : Nat} {m : Nat × MbxReq} (hm : s.mbx.find? (fun x => x.2.started && x.2.code == 0x0401 && leAt x.2.inl 0 2 == n) = some m)
include hm

theorem exec_kernelUnloadDone_used (hused : ∃ k ∈ s.kernels, k.opcode = n ∧ k.current = false ∧ s.kernelUsed k = true) :
    exec (.kernelUnloadDone n) s = .next s := by
  change execKernelUnloadDone n s = _
  simp only [execKernelUnloadDone, hm]
  refine if_pos (List.any_eq_true.mpr ?_)
  simpa [and_assoc] using hused

theorem exec_kernelUnloadDone_unused (hfree : ∀ k ∈ s.kernels, k.opcode = n → k.current = false → s.kernelUsed k = false) :
    exec (.kernelUnloadDone n) s = .next ({ s with kernels := s.kernels.filter (fun k => k.opcode != n || k.current || k.persist) }.mbxEnd m.1
      ⟨0, [], [], 0, false⟩) := by
  change execKernelUnloadDone n s = _
  simp only [execKernelUnloadDone, hm]
  refine if_neg (Bool.eq_false_iff.mp (List.any_eq_false.mpr (fun k hk => ?_)))
  simpa [imp_iff_not_or, or_assoc] using hfree k hk

end

/-! GRANT and REVOKE (R190). -/

/-- The kernel after a change of its grants. -/
def Kernel.regrant (k : Kernel) (op f : Nat) (on : Bool) : Kernel := if k.opcode = op then { k with grants := grantTo k.grants f on } else k

/-- A change for one function settles its grant and no other's. -/
theorem regrant_one {k : Kernel} {op f : Nat} {on : Bool} (hop : k.opcode = op) (hkind : k.kind ≠ 0) (hf : f < 2048) :
    (k.regrant op f on).granted f = on ∧ ∀ g, g < 2048 → g ≠ f → (k.regrant op f on).granted g = k.granted g := by
  have hall : f ≠ 0xFFFF := by omega
  have heq : k.regrant op f on = { k with grants := grantTo k.grants f on } := if_pos hop
  rw [heq]
  cases hg : k.grants with
  | none =>
    cases on <;> simp [Kernel.granted, grantTo, hkind, hall, hg]
    exact fun g hlt hne => ⟨hlt, hne⟩
  | some l =>
    cases on with
    | false => simp +contextual [Kernel.granted, grantTo, hkind, hall, hg]
    | true =>
      by_cases hin : f ∈ l
      · simp [Kernel.granted, grantTo, hall, hg, hin]
      · simp +contextual [Kernel.granted, grantTo, hall, hg, hin]

/-- A change for all functions settles every grant. -/
theorem regrant_all {k : Kernel} {op : Nat} {on : Bool} (hop : k.opcode = op) (hkind : k.kind ≠ 0) (g : Nat) :
    (k.regrant op 0xFFFF on).granted g = on := by
  cases on <;> simp [Kernel.regrant, Kernel.granted, grantTo, hop, hkind]

theorem regrant_other {k : Kernel} {op f : Nat} {on : Bool} (hop : k.opcode ≠ op) : k.regrant op f on = k := if_neg hop

theorem regrant_keys (k : Kernel) (op f : Nat) (on : Bool) : (k.regrant op f on).opcode = k.opcode ∧ (k.regrant op f on).kind = k.kind := by
  unfold Kernel.regrant
  split <;> exact ⟨rfl, rfl⟩

section
variable {i : Instr} {c : Nat} {on : Bool} (hi : exec i s = mbxRow2 0x0402 c fn ch (fun r => s.grantRow r on) s) (h : AcceptedSub s fn ch 0x0402 c r)
include hi h

theorem exec_grants_bad
    (hbad : r.inl.length < 6 ∨ s.ownerKernel (leAt r.inl 2 2) = none ∨ (2048 ≤ leAt r.inl 4 2 ∧ leAt r.inl 4 2 ≠ 0xFFFF)) :
    exec i s = refuse s fn ch St.BAD_FIELD := by
  rw [hi]
  exact mbxRow2_bad h (if_pos (by simpa using hbad))

theorem exec_grants_done {k : Kernel} (hlen : 6 ≤ r.inl.length) (hk : s.ownerKernel (leAt r.inl 2 2) = some k) (hf : leAt r.inl 4 2 < 2048 ∨ leAt r.inl 4 2 = 0xFFFF) :
    exec i s = .next ({ s with kernels := s.kernels.map (fun (x : Kernel) => x.regrant (leAt r.inl 2 2) (leAt r.inl 4 2) on) }.mbxEnd (mbxKey fn ch)
      ⟨0, [], [], 0, s.persisted (leAt r.inl 2 2)⟩) := by
  rw [hi]
  refine mbxRow2_inline h ((if_neg ?_).trans ?_) rfl
  · simp only [hk, Option.isNone_some, Bool.false_eq_true, false_or]
    omega
  · cases s.persisted (leAt r.inl 2 2) <;> rfl

end

/-! SIGNER_SET and SIGNER_CLEAR (R190, R381). -/

theorem clearSigner_frame (s : State) (slot : Nat) : let t := s.clearSigner slot
    mget t.signers slot = none ∧ (∀ k, k ≠ slot → mget t.signers k = mget s.signers k) ∧
      (∀ h, mget s.signers slot = some h → mget t.ks.objs h = none) ∧ t.kernels = s.kernels := by
  cases hslot : mget s.signers slot with
  | none => simp [State.clearSigner, hslot]
  | some h =>
    have heq : s.clearSigner slot = { (s.dropObj h) with signers := mdel s.signers slot } := by simp [State.clearSigner, hslot]
    obtain ⟨hobjs, -, -, -, -, hkernels, -⟩ := dropObj_frame s h
    rw [heq]
    refine ⟨mget_mdel_same _ _, fun k hk => mget_mdel_other _ _ _ hk, fun x hx => ?_, hkernels⟩
    obtain rfl := Option.some.inj hx
    exact (congrArg (mget · h) hobjs).trans (mget_mdel_same _ _)

theorem sealObj_frame (s : State) (h : Nat) (o : KeyObj) :
    (s.sealObj h o).ks.objs = s.ks.objs ∧ (s.sealObj h o).signers = s.signers ∧ (s.sealObj h o).kernels = s.kernels := by
  unfold State.sealObj
  split
  · exact ⟨rfl, rfl, rfl⟩
  · dsimp only
    split <;> exact ⟨rfl, rfl, rfl⟩

theorem storeObj_frame (s : State) (h : Nat) (o : KeyObj) :
    mget (s.storeObj h o).ks.objs h = some o ∧ (s.storeObj h o).signers = s.signers ∧ (s.storeObj h o).kernels = s.kernels := by
  have hseal : ∀ u : State, mget u.ks.objs h = some o ∧ u.signers = s.signers ∧ u.kernels = s.kernels →
      let t := if attrPersist o.attrs then u.sealObj h o else u
      mget t.ks.objs h = some o ∧ t.signers = s.signers ∧ t.kernels = s.kernels := fun u hu => by
    obtain ⟨hobjs, hsigners, hkernels⟩ := sealObj_frame u h o
    dsimp only
    split
    · rwa [hobjs, hsigners, hkernels]
    · exact hu
  refine hseal _ ?_
  have hset := mget_mput_same s.ks.objs h o
  dsimp only
  split <;> exact ⟨hset, rfl, rfl⟩

theorem newObj_stores {u : State} {f h : Nat} {a priv pub : List Byte} (hnew : s.newObj f a priv pub = .ok (u, h)) :
    u = s.storeObj h (s.freshObj a priv pub) := by
  unfold State.newObj at hnew
  dsimp only at hnew
  split at hnew
  · cases hnew
  split at hnew
  · cases hnew
  split at hnew
  · cases hnew
  split at hnew
  · cases hnew
  split at hnew
  · cases hnew
  · cases hnew
    rfl

theorem exec_signerSet_noQuorum (h : AcceptedSub s fn ch 0x0402 0x10 r) (hgood : 2 ≤ r.inl.length ∧ leAt r.inl 1 1 ≤ 3 ∧ r.ext = true ∧ r.reqLen = 2592)
    (hq : s.signerQuorum = false) : exec (.signerSet fn ch req) s = refuse s fn ch St.QUORUM_REQUIRED := by
  obtain ⟨hlen, hslot, hext, hreq⟩ := hgood
  change execSignerSet fn ch req s = _
  refine mbxRow2_bad h ?_
  simp [hext, hreq, hq, Nat.not_lt.mpr hlen, Nat.not_lt.mpr hslot]

theorem exec_signerSet_done {u : State} {x : Nat} (h : AcceptedSub s fn ch 0x0402 0x10 r)
    (hgood : 2 ≤ r.inl.length ∧ leAt r.inl 1 1 ≤ 3 ∧ r.ext = true ∧ r.reqLen = 2592) (hq : s.signerQuorum = true)
    (hnew : (s.clearSigner (leAt r.inl 1 1)).newObj 0 signerAttrs [] (r.payload req) = .ok (u, x)) : exec (.signerSet fn ch req) s =
      .next ({ u with signers := mput u.signers (leAt r.inl 1 1) x }.mbxEnd (mbxKey fn ch) ⟨0, [], [], 0, true⟩) := by
  obtain ⟨hlen, hslot, hext, hreq⟩ := hgood
  change execSignerSet fn ch req s = _
  refine mbxRow2_inline h ?_ rfl
  simp [hext, hreq, hq, Nat.not_lt.mpr hlen, Nat.not_lt.mpr hslot, hnew, Reply.okC, St.SUCCESS]

theorem exec_signerClear_noQuorum (h : AcceptedSub s fn ch 0x0402 0x11 r) (hlen : 2 ≤ r.inl.length) (hslot : leAt r.inl 1 1 ≤ 3)
    (hq : s.signerQuorum = false) : exec (.signerClear fn ch) s = refuse s fn ch St.QUORUM_REQUIRED := by
  change execSignerClear fn ch s = _
  refine mbxRow2_bad h ?_
  simp [hq, Nat.not_lt.mpr hlen, Nat.not_lt.mpr hslot]

theorem exec_signerClear_done (h : AcceptedSub s fn ch 0x0402 0x11 r) (hlen : 2 ≤ r.inl.length) (hslot : leAt r.inl 1 1 ≤ 3)
    (hq : s.signerQuorum = true) : exec (.signerClear fn ch) s =
      .next ((s.clearSigner (leAt r.inl 1 1)).mbxEnd (mbxKey fn ch) ⟨0, [], [], 0, (mget s.signers (leAt r.inl 1 1)).isSome⟩) := by
  change execSignerClear fn ch s = _
  refine mbxRow2_inline h ((if_neg (by omega)).trans ((if_neg (by simp [hq])).trans ?_)) rfl
  cases (mget s.signers (leAt r.inl 1 1)).isSome <;> rfl

/-! FN_QUIESCE (R78). -/

theorem exec_fnQuiesce_bad (h : Accepted s fn ch 0x0201 r) (hbad : s.quiesceable (leAt r.inl 0 2) = false) :
    exec (.fnQuiesce fn ch) s = refuse s fn ch St.BAD_FIELD := by
  change execFnQuiesce fn ch s = _
  exact mbxRow1_bad h (if_pos (.inr (by simp [hbad])))

theorem exec_fnQuiesce_quiesced (h : Accepted s fn ch 0x0201 r) (hlen : 2 ≤ r.inl.length) (hq : s.quiesceable (leAt r.inl 0 2) = true)
    (hdone : (s.fn (leAt r.inl 0 2)).quiesced = true) : exec (.fnQuiesce fn ch) s = .next (s.mbxEnd (mbxKey fn ch) ⟨0, [], [], 0, false⟩) := by
  change execFnQuiesce fn ch s = _
  refine mbxRow1_inline h ?_ rfl
  simp [hq, hdone, Nat.not_lt.mpr hlen, Reply.ok, St.SUCCESS]

theorem exec_fnQuiesce_runs (h : Accepted s fn ch 0x0201 r) (hlen : 2 ≤ r.inl.length) (hq : s.quiesceable (leAt r.inl 0 2) = true)
    (hnot : (s.fn (leAt r.inl 0 2)).quiesced = false) : exec (.fnQuiesce fn ch) s = runsOn (s.quiesceStart (leAt r.inl 0 2)) fn ch := by
  change execFnQuiesce fn ch s = _
  refine mbxRow1_runs h ?_
  simp [hq, hnot, Nat.not_lt.mpr hlen]

end

/-- Settles O44: each request answers by its row, and the laws above say what it changes. -/
theorem kernelManagement : Obligations.KernelManagement := by
  intro s fn ch r req key okC ok kept b op older sub
  have holder : s.newerThan op (leAt b 36 1) = true ↔ older := newerThan_iff s op (leAt b 36 1)
  have hyoung : ¬ older → s.newerThan op (leAt b 36 1) = false := fun h => Bool.eq_false_iff.mpr (fun ht => h (holder.mp ht))
  refine ⟨exec_kernelLoad_malformed, fun hacc hext hok => ⟨exec_kernelLoad_unsigned hacc hext hok,
    fun hsig hold => exec_kernelLoad_older hacc hext hok hsig (holder.mpr hold),
    fun hsig hold => exec_kernelLoad_noSlots hacc hext hok hsig (hyoung hold), fun slots hsig hold hslots => ?load⟩,
    exec_kernelUnload_bad, ?unload, fun n => exec_kernelUnloadDone_unasked,
    fun n m hm => ⟨exec_kernelUnloadDone_used hm, exec_kernelUnloadDone_unused hm⟩, ?grants, ⟨?_, ?signerSet, ?_, ?signerClear⟩, ?quiesce⟩
  case load =>
    refine ⟨exec_kernelLoad_noRoom hacc hext hok hsig (hyoung hold) hslots, exec_kernelLoad_logFull hacc hext hok hsig (hyoung hold) hslots,
      fun hroom hlog => ?_⟩
    obtain ⟨hmem, hone, hother⟩ := install_kernels (s.measure (3 + leAt b 5 1) (leAt b 36 1) op (sha3_384 (b.take (imageBody b)))) (s.loadedKernel r b slots)
    exact ⟨_, s.loadedKernel r b slots, exec_kernelLoad_done hacc hext hok hsig (hyoung hold) hslots hroom hlog, hmem, rfl, rfl, rfl, rfl, rfl,
      hone, hother, ⟨_, rfl, rfl⟩, rfl, rfl⟩
  case unload =>
    intro k hacc hlen hk
    refine ⟨_, exec_kernelUnload_runs hacc hlen hk, rfl, fun x hx hop => ?_, fun x hx hop => List.mem_map.mpr ⟨x, hx, if_neg hop⟩⟩
    obtain ⟨y, -, rfl⟩ := List.mem_map.mp hx
    rw [unloaded_opcode] at hop
    simp [Kernel.unloaded, hop]
  case grants =>
    intro i c on hmem hsub o f
    have hi : exec i s = mbxRow2 0x0402 c fn ch (fun r => s.grantRow r on) s := by
      simp only [List.mem_cons, List.not_mem_nil, or_false, Prod.mk.injEq] at hmem
      obtain ⟨rfl, rfl, rfl⟩ | ⟨rfl, rfl, rfl⟩ := hmem <;> rfl
    refine ⟨exec_grants_bad hi hsub, fun k hlen hk hf => ?_, fun k hlen hk hf => ?_⟩
    · refine ⟨_, exec_grants_done hi hsub hlen hk (.inl hf), rfl, by simp, fun n x y hx hy => ?_⟩
      rw [List.getElem?_map, hx] at hy
      obtain rfl := Option.some.inj hy
      exact ⟨regrant_other, fun hop hkind => regrant_one hop hkind hf⟩
    · refine ⟨_, exec_grants_done hi hsub hlen hk (.inr hf), fun x hx hop hkind g => ?_⟩
      obtain ⟨y, -, rfl⟩ := List.mem_map.mp hx
      obtain ⟨hkop, hkkind⟩ := regrant_keys y o f on
      rw [hkop] at hop
      rw [hkkind] at hkind
      change (y.regrant o f on).granted g = on
      rw [show f = 0xFFFF from hf]
      exact regrant_all hop hkind g
  case signerSet =>
    intro u x hsub hlen hslot hext hreq hq hnew
    obtain ⟨-, hkept, -, hkernels⟩ := clearSigner_frame s (leAt r.inl 1 1)
    obtain ⟨hobj, hsigners, hkernels'⟩ := storeObj_frame (s.clearSigner (leAt r.inl 1 1)) x ((s.clearSigner (leAt r.inl 1 1)).freshObj signerAttrs [] b)
    rw [← newObj_stores hnew] at hobj hsigners hkernels'
    refine ⟨_, exec_signerSet_done hsub ⟨hlen, hslot, hext, hreq⟩ hq hnew, mget_mput_same _ _ _,
      ⟨_, hobj, rfl, (freshObj_act _ signerAttrs [] b).2.2.2⟩, fun k hk => ?_, hkernels'.trans hkernels⟩
    exact (mget_mput_other _ _ _ _ hk).trans (by rw [hsigners, hkept k hk])
  case signerClear =>
    intro hsub hlen hslot hq
    exact ⟨_, exec_signerClear_done hsub hlen hslot hq, clearSigner_frame s (leAt r.inl 1 1)⟩
  case quiesce =>
    intro n hacc hlen
    have hable := quiesceable_iff s n
    refine ⟨fun hbad => exec_fnQuiesce_bad hacc (Bool.eq_false_iff.mpr (fun h => hbad (hable.mp h))),
      fun hlo hhi hen hdone => exec_fnQuiesce_quiesced hacc hlen (hable.mpr ⟨hlo, hhi, hen⟩) hdone, fun hlo hhi hen hnot => ?_⟩
    exact ⟨_, exec_fnQuiesce_runs hacc hlen (hable.mpr ⟨hlo, hhi, hen⟩) hnot, quiesceStart_quiescing (hable.mpr ⟨hlo, hhi, hen⟩) hnot⟩
  · exact fun hsub hlen hslot hext hreq => exec_signerSet_noQuorum hsub ⟨hlen, hslot, hext, hreq⟩
  · exact exec_signerClear_noQuorum

end Sys2Proof.Machine
end

section
/-!
SUPPORT. Allotments and dedicated clusters (spec file 02, R55, R67 to R73): the selection, the groups of an apply, the end of a change of the
dedication, and the runs that are taken off a cluster.
-/
namespace Sys2Proof.Machine
open Sys2Proof

/-! VFM_SEL (R67). -/

/-- A run of register writes leaves every register that none of them names. -/
theorem rd_writes_other (l : List (Nat × Word)) {o : Nat} (h : o ∉ l.map (·.1)) (s : State) :
    (l.foldl (fun (x : State) r => x.wr 0 r.1 r.2) s).rd 0 o = s.rd 0 o := by
  induction l generalizing s with
  | nil => rfl
  | cons a l ih =>
    simp only [List.map_cons, List.mem_cons, not_or] at h
    exact (ih h.2 _).trans (rd_wr_pf s a.1 o a.2 h.1)

/-- Of writes to distinct registers each stands. -/
theorem rd_writes {l : List (Nat × Word)} (hl : (l.map (·.1)).Nodup) (s : State) :
    ∀ r ∈ l, (l.foldl (fun (x : State) r => x.wr 0 r.1 r.2) s).rd 0 r.1 = r.2 := by
  induction l generalizing s with
  | nil => simp
  | cons a l ih =>
    obtain ⟨hnot, hl⟩ := List.nodup_cons.mp hl
    intro r hr
    obtain rfl | hr := List.mem_cons.mp hr
    · exact (rd_writes_other l hnot _).trans (rd_wr_same s 0 r.1 r.2)
    · exact ih hl _ r hr

/-- The selection's own register and the link's note, before the staging registers are loaded. -/
def State.selected (s : State) (n : Nat) : State :=
  { s.wr 0 Reg.VFM_SEL (BitVec.ofNat 32 n) with link := { s.link with stLoaded := s.stagingOf n } }

theorem vfmSel_eq {s : State} {v : Word} (h : fld v 11 0 < 2048) :
    s.vfmSel v = (s.stagingOf (fld v 11 0)).foldl (fun (x : State) r => x.wr 0 r.1 r.2) (s.selected (fld v 11 0)) := if_pos h

theorem vfmSel_shows {s : State} {v : Word} (h : fld v 11 0 < 2048) : let t := s.vfmSel v
    let n := fld v 11 0
    t = { s with regs := t.regs, link := { s.link with stLoaded := t.link.stLoaded } } ∧ (t.rd 0 Reg.VFM_SEL).toNat = n ∧
      ∀ r ∈ s.stagingOf n, t.rd 0 r.1 = r.2 := by
  have hnodup : ((s.stagingOf (fld v 11 0)).map (·.1)).Nodup :=
    show [Reg.VFM_ST_ALLOT, Reg.VFM_ST_CTX, Reg.VFM_ST_INFLIGHT, Reg.VFM_ST_KEY, Reg.VFM_ST_CLUSTERS, Reg.VFM_ST_OPM, Reg.VFM_ST_SPILL_LO,
      Reg.VFM_ST_SPILL_HI, Reg.VFM_ST_SPILL_LEN].Nodup by decide
  have hsel : Reg.VFM_SEL ∉ (s.stagingOf (fld v 11 0)).map (·.1) :=
    show Reg.VFM_SEL ∉ [Reg.VFM_ST_ALLOT, Reg.VFM_ST_CTX, Reg.VFM_ST_INFLIGHT, Reg.VFM_ST_KEY, Reg.VFM_ST_CLUSTERS, Reg.VFM_ST_OPM,
      Reg.VFM_ST_SPILL_LO, Reg.VFM_ST_SPILL_HI, Reg.VFM_ST_SPILL_LEN] by decide
  have hmine := rd_writes hnodup (s.selected (fld v 11 0))
  have hregs : (s.vfmSel v).sansRegs = (s.selected (fld v 11 0)).sansRegs := by
    rw [vfmSel_eq h]
    exact sansRegs_foldl _ (by simp) _ _
  refine ⟨?_, ?_, fun r hr => by rw [vfmSel_eq h]; exact hmine r hr⟩
  · refine (eq_of_sansRegs hregs).trans ?_
    rw [show (s.vfmSel v).link = (s.selected (fld v 11 0)).link from field_of_erased hregs State.link]
    rfl
  · have hown : (s.selected (fld v 11 0)).rd 0 Reg.VFM_SEL = BitVec.ofNat 32 (fld v 11 0) := rd_wr_same s 0 Reg.VFM_SEL _
    rw [vfmSel_eq h, rd_writes_other _ hsel, hown, BitVec.toNat_ofNat]
    exact Nat.mod_eq_of_lt (by omega)

/-! A write of VFM_APPLY (R67, R68). -/

/-- The groups that a word names, in their order. -/
def groupsOf (v : Word) : List Nat := [1, 2, 3, 4, 5, 6, 7].filter (fun i => bitAt v i)

/-- The first of a rising list that passes a test. -/
theorem find?_least {l : List Nat} {q : Nat → Bool} {k : Nat} (hl : l.Pairwise (· < ·)) (hk : k ∈ l) (hq : q k = true)
    (hleast : ∀ j ∈ l, j < k → q j = false) : l.find? q = some k := by
  induction l with
  | nil => simp at hk
  | cons a l ih =>
    obtain ⟨ha, hl⟩ := List.pairwise_cons.mp hl
    obtain rfl | hk := List.mem_cons.mp hk
    · exact List.find?_cons_of_pos hq
    · rw [List.find?_cons_of_neg (by simp [hleast a List.mem_cons_self (ha k hk)])]
      exact ih hl hk (fun j hj => hleast j (List.mem_cons_of_mem a hj))

theorem mem_groupsOf {v : Word} {k : Nat} : k ∈ groupsOf v ↔ (1 ≤ k ∧ k ≤ 7) ∧ bitAt v k = true := by
  simp only [groupsOf, List.mem_filter, List.mem_cons, List.not_mem_nil, or_false]
  exact and_congr_left' (by omega)

/-- The function that VFM_SEL names. -/
def State.sel (s : State) : Nat := s.rdF Reg.VFM_SEL 11 0

section
variable {s : State} {v : Word}

theorem vfmApply_ignored (h : bitAt v 0 = false ∨ s.rdB Reg.VFM_APPLY_STAT 0 = true) : s.vfmApply v = s := if_pos (by simpa using h)

variable (hgo : bitAt v 0 = true) (hidle : s.rdB Reg.VFM_APPLY_STAT 0 = false)
include hgo hidle

theorem vfmApply_quiescing (hq : (s.fn s.sel).quiescing = true) : s.vfmApply v = s.applyStat false Ap.BUSY 0 :=
  (if_neg (by simp [hgo, hidle])).trans (if_pos hq)

variable (hq : (s.fn s.sel).quiescing = false)
include hq

theorem vfmApply_eq : s.vfmApply v = match (groupsOf v).find? (fun i => s.checkGroup s.sel i != 0) with
    | some i => s.applyStat false (s.checkGroup s.sel i) i
    | none =>
      let s1 := (groupsOf v).foldl (fun (x : State) i => x.applyGroup s.sel i) s
      s1.applyStat (s1.clusters.any (fun c => c.2.draining.isSome)) 0 0 :=
  (if_neg (by simp [hgo, hidle])).trans (if_neg (Bool.eq_false_iff.mp hq))

/-- The first failing group is reported. -/
theorem vfmApply_fails {k : Nat} (hk : k ∈ groupsOf v) (hbad : s.checkGroup s.sel k ≠ 0)
    (hfirst : ∀ j ∈ groupsOf v, j < k → s.checkGroup s.sel j = 0) : s.vfmApply v = s.applyStat false (s.checkGroup s.sel k) k := by
  have hrise : (groupsOf v).Pairwise (· < ·) := List.Pairwise.filter _ (by decide)
  rw [vfmApply_eq hgo hidle hq, find?_least hrise hk (by simpa using hbad) (fun j hj hlt => by simpa using hfirst j hj hlt)]

/-- One group that passes takes effect. -/
theorem vfmApply_takes {b : Nat} (hb : groupsOf v = [b]) (hpass : s.checkGroup s.sel b = 0) : s.vfmApply v =
    (s.applyGroup s.sel b).applyStat ((s.applyGroup s.sel b).clusters.any (fun c => c.2.draining.isSome)) 0 0 := by
  rw [vfmApply_eq hgo hidle hq, hb, List.find?_cons_of_neg (by simp [hpass]), List.find?_nil]
  rfl

end

/-- The seven instructions of an apply, each with its group. -/
theorem exec_apply {v : Word} {i : Instr} {b : Nat} (h : (i, b) ∈ [(Instr.applyAllot v, 1), (.applyCtx v, 2), (.applyInflight v, 3), (.applyKey v, 4),
    (.applyClusters v, 5), (.applyOpm v, 6), (.applySpill v, 7)]) (s : State) : exec i s = .next (s.vfmApply (setBit v b true)) ∧ 1 ≤ b ∧ b ≤ 7 := by
  simp only [List.mem_cons, List.not_mem_nil, or_false, Prod.mk.injEq] at h
  obtain ⟨rfl, rfl⟩ | ⟨rfl, rfl⟩ | ⟨rfl, rfl⟩ | ⟨rfl, rfl⟩ | ⟨rfl, rfl⟩ | ⟨rfl, rfl⟩ | ⟨rfl, rfl⟩ := h
  all_goals exact ⟨rfl, by decide, by decide⟩

/-- GO with one group's bit names that group alone. -/
theorem groupsOf_one : ∀ b, 1 ≤ b → b ≤ 7 → groupsOf (setBit 1 b true) = [b] := by
  intro b hlo hhi
  obtain rfl | rfl | rfl | rfl | rfl | rfl | rfl : b = 1 ∨ b = 2 ∨ b = 3 ∨ b = 4 ∨ b = 5 ∨ b = 6 ∨ b = 7 := by omega
  all_goals decide

theorem exec_applyOne {s : State} {i : Instr} {b : Nat} (h : (i, b) ∈ [(Instr.applyAllot 1, 1), (.applyCtx 1, 2), (.applyInflight 1, 3), (.applyKey 1, 4),
    (.applyClusters 1, 5), (.applyOpm 1, 6), (.applySpill 1, 7)]) (hidle : s.rdB Reg.VFM_APPLY_STAT 0 = false)
    (hq : (s.fn s.sel).quiescing = false) (hpass : s.checkGroup s.sel b = 0) : exec i s =
      .next ((s.applyGroup s.sel b).applyStat ((s.applyGroup s.sel b).clusters.any (fun c => c.2.draining.isSome)) 0 0) := by
  obtain ⟨hexec, hlo, hhi⟩ := exec_apply h s
  have hgo : bitAt (setBit 1 b true) 0 = true := by
    rw [bitAt_setBit _ _ _ _ (by omega), if_neg (by omega)]
    decide
  rw [hexec, vfmApply_takes hgo hidle hq (groupsOf_one b hlo hhi) hpass]

/-! The groups. -/

/-- The state without the places of operand partitions and the dedication. -/
def State.sansPlaces (s : State) : State := { s with opm := [], clusters := [] }

theorem dedicate_sansPlaces (s : State) (fn : Nat) : (s.dedicate fn).sansPlaces = s.sansPlaces := by
  unfold State.dedicate
  refine foldl_keep State.sansPlaces _ (fun x c => ?_) _ s
  dsimp only
  (repeat' split) <;> rfl

/-- The partitions take the places of a plan. -/
def State.rebase (s : State) (plan : List (Nat × Nat)) : State :=
  plan.foldl (fun (x : State) p => x.setOpm p.1 { x.opmPart p.1 with base := p.2 }) s

theorem rebase_sansPlaces (s : State) (plan : List (Nat × Nat)) : (s.rebase plan).sansPlaces = s.sansPlaces :=
  foldl_keep State.sansPlaces (fun (x : State) (p : Nat × Nat) => x.setOpm p.1 { x.opmPart p.1 with base := p.2 }) (fun _ _ => rfl) plan s

/-- A partition that moves keeps its slots. -/
theorem rebase_keeps (plan : List (Nat × Nat)) {s : State} {k : Nat} {p : OpmPart} (h : mget s.opm k = some p) :
    ∃ q, mget (s.rebase plan).opm k = some q ∧ q.slots = p.slots ∧ q.slotLen = p.slotLen := by
  induction plan generalizing s p with
  | nil => exact ⟨p, h, rfl, rfl⟩
  | cons a plan ih =>
    by_cases ha : k = a.1
    · have hpart : s.opmPart a.1 = p := by rw [State.opmPart, ← ha, h, Option.getD_some]
      obtain ⟨q, hq, hslots, hlen⟩ := ih (s := s.setOpm a.1 { s.opmPart a.1 with base := a.2 }) (p := { s.opmPart a.1 with base := a.2 })
        (by rw [ha]; exact mget_mput_same _ _ _)
      rw [hpart] at hslots hlen
      exact ⟨q, hq, hslots, hlen⟩
    · exact ih (s := s.setOpm a.1 { s.opmPart a.1 with base := a.2 }) ((mget_mput_other _ _ _ _ ha).trans h)

/-- The operand partitions once the group has taken effect (R260, R262). -/
def State.opmApplied (s : State) (fn n : Nat) : State :=
  let s1 := s.rebase ((s.opmPlan fn n).getD [])
  if n = 0 then { s1 with opm := mdel s1.opm fn }
  else if n = (s.fn fn).opm4k then s1
  else s1.setOpm fn { s1.opmPart fn with slotLen := 0, sealed := false, slots := [] }

theorem applyGroup_opm (s : State) (fn : Nat) : s.applyGroup fn 6 =
    (s.opmApplied fn (s.rdF Reg.VFM_ST_OPM 8 0)).setFn fn { s.fn fn with opm4k := s.rdF Reg.VFM_ST_OPM 8 0 } := rfl

theorem opmApplied_sansPlaces (s : State) (fn n : Nat) : (s.opmApplied fn n).sansPlaces = s.sansPlaces := by
  rw [← rebase_sansPlaces s ((s.opmPlan fn n).getD [])]
  unfold State.opmApplied
  dsimp only
  (repeat' split) <;> rfl

theorem opmApplied_opm (s : State) (fn n : Nat) : let t := s.opmApplied fn n
    (n = 0 → mget t.opm fn = none) ∧ (n ≠ 0 → n ≠ (s.fn fn).opm4k → ∀ q, mget t.opm fn = some q → q.slotLen = 0 ∧ q.slots = []) ∧
      ∀ k p, mget s.opm k = some p → k ≠ fn ∨ (n ≠ 0 ∧ n = (s.fn fn).opm4k) → ∃ q, mget t.opm k = some q ∧ q.slots = p.slots ∧ q.slotLen = p.slotLen := by
  have hkeeps := @rebase_keeps ((s.opmPlan fn n).getD []) s
  unfold State.opmApplied
  dsimp only
  split
  · next h0 =>
    refine ⟨fun _ => mget_mdel_same _ _, fun hn => absurd h0 hn, fun k p hp hk => ?_⟩
    rw [mget_mdel_other _ _ _ (hk.resolve_right (fun h => h.1 h0))]
    exact hkeeps hp
  split
  · next h0 hsame => exact ⟨fun h => absurd h h0, fun _ hne => absurd hsame hne, fun k p hp _ => hkeeps hp⟩
  · next h0 hsize =>
    refine ⟨fun h => absurd h h0, fun _ _ q hq => ?_, fun k p hp hk => ?_⟩
    · obtain rfl := Option.some.inj ((mget_mput_same _ _ _).symm.trans hq)
      exact ⟨rfl, rfl⟩
    · exact (mget_mput_other _ _ _ _ (hk.resolve_right (fun h => hsize h.2))).symm ▸ hkeeps hp

/-- What no group touches. -/
structure GroupKeeps (s t : State) (fn : Nat) : Prop where
  fns : ∀ k, k ≠ fn → mget t.fns k = mget s.fns k
  qps : t.qps = s.qps
  cmds : t.cmds = s.cmds
  ks : t.ks = s.ks

theorem GroupKeeps.setFn {s t : State} {fn : Nat} (h : t.sansPlaces = s.sansPlaces) (f : Fn) : GroupKeeps s (t.setFn fn f) fn :=
  ⟨fun k hk => (mget_mput_other _ _ _ _ hk).trans (by rw [field_of_erased h State.fns]), field_of_erased h State.qps, field_of_erased h State.cmds,
    field_of_erased h State.ks⟩

theorem applyGroup_keeps (s : State) (fn i : Nat) : GroupKeeps s (s.applyGroup fn i) fn := by
  have hplaces := dedicate_sansPlaces s fn
  have hopm : GroupKeeps s (s.applyGroup fn 6) fn := by
    rw [applyGroup_opm]
    exact .setFn (opmApplied_sansPlaces s fn _) _
  unfold State.applyGroup
  dsimp only
  split
  · exact .setFn rfl _
  · exact .setFn rfl _
  · exact .setFn rfl _
  · exact .setFn rfl _
  · exact ⟨fun k _ => by rw [field_of_erased hplaces State.fns], field_of_erased hplaces State.qps, field_of_erased hplaces State.cmds,
      field_of_erased hplaces State.ks⟩
  · exact hopm
  · exact .setFn rfl _

theorem applyStat_quiet (s : State) (result failed : Nat) :
    s.applyStat false result failed = s.wr 0 Reg.VFM_APPLY_STAT (BitVec.ofNat 32 (failed * 65536 + result * 256)) := by
  simp [State.applyStat, b2n]

theorem applyStat_result (s : State) (busy : Bool) : fld ((s.applyStat busy 0 0).rd 0 Reg.VFM_APPLY_STAT) 15 8 = 0 := by
  rw [State.applyStat, rd_wr_same]
  cases busy <;> decide

/-! Clusters, one at a time (R71, R73). -/

/-- A change of every cluster of a list, each by itself. -/
theorem foldl_clusters {f : State → Nat → State} {g : Nat → Cluster → Cluster} (hsame : ∀ x c, (f x c).cluster c = g c (x.cluster c))
    (hother : ∀ x c d, d ≠ c → (f x c).cluster d = x.cluster d) {l : List Nat} (hl : l.Nodup) (s : State) {c : Nat} (hc : c ∈ l) :
    (l.foldl f s).cluster c = g c (s.cluster c) := by
  have hout : ∀ (l : List Nat) (s : State), c ∉ l → (l.foldl f s).cluster c = s.cluster c := by
    intro l
    induction l with
    | nil => exact fun _ _ => rfl
    | cons a l ih =>
      intro s hc
      simp only [List.mem_cons, not_or] at hc
      exact (ih _ hc.2).trans (hother s a c hc.1)
  induction l generalizing s with
  | nil => simp at hc
  | cons a l ih =>
    obtain ⟨ha, hl⟩ := List.nodup_cons.mp hl
    obtain rfl | hc := List.mem_cons.mp hc
    · exact (hout l _ ha).trans (hsame s c)
    · rw [List.foldl_cons, ih hl _ hc, hother s a c (fun h => ha (h ▸ hc))]

theorem cluster_setCluster_same (s : State) (c : Nat) (x : Cluster) : (s.setCluster c x).cluster c = x := by
  simp [State.cluster, State.setCluster, mget_mput_same]

theorem cluster_setCluster_other (s : State) {c d : Nat} (h : d ≠ c) (x : Cluster) : (s.setCluster c x).cluster d = s.cluster d := by
  simp [State.cluster, State.setCluster, mget_mput_other _ _ _ _ h]

/-- A cluster as a change of the dedication leaves it, where it is among the function's (`m`) or not. -/
def Cluster.dedicated (y : Cluster) (fn : Nat) (m : Bool) : Cluster :=
  if m then (if y.owner = some fn then y else { y with owner := some fn, draining := some fn })
  else if y.owner = some fn then { y with draining := some 2048 } else y

theorem dedicate_cluster (s : State) (fn : Nat) {c : Nat} (hc : c < 12) :
    (s.dedicate fn).cluster c = (s.cluster c).dedicated fn (bitAt (s.rd 0 Reg.VFM_ST_CLUSTERS) c) := by
  have hbit : (bitsOf (s.rdF Reg.VFM_ST_CLUSTERS 11 0)).contains c = bitAt (s.rd 0 Reg.VFM_ST_CLUSTERS) c := by
    rw [Bool.eq_iff_iff, List.contains_iff_mem, bitsOf, List.mem_filter, List.mem_range, State.rdF, testBit_fld]
    simp [hc]
  rw [← hbit]
  unfold State.dedicate
  refine foldl_clusters (g := fun d y => y.dedicated fn ((bitsOf (s.rdF Reg.VFM_ST_CLUSTERS 11 0)).contains d)) (fun x d => ?_) (fun x d e hne => ?_)
    List.nodup_range s (List.mem_range.mpr hc)
  · dsimp only [Cluster.dedicated]
    split <;> split
    · rfl
    · exact cluster_setCluster_same _ _ _
    · exact cluster_setCluster_same _ _ _
    · rfl
  · dsimp only
    split <;> split
    · rfl
    · exact cluster_setCluster_other _ hne _
    · exact cluster_setCluster_other _ hne _
    · rfl

/-! The end of a change (R73). -/

/-- A cluster when its change ends. -/
def Cluster.drainEnds (y : Cluster) : Cluster :=
  match y.draining with
  | none => y
  | some f => { y with draining := none, owner := if f < 2048 then some f else none }

/-- The isolation check marks functions and records a fault of class D. -/
theorem isoCheck_keeps {β : Type} (π : State → β) (hset : ∀ s n f, π (State.setFn s n f) = π s)
    (hfault : ∀ s, π (State.fault s 285 1 true false false) = π s) (hactive : ∀ s b, π (State.fltActive s 285 b) = π s) (s : State) : π s.isoCheck = π s := by
  refine foldl_keep π _ (fun x fn => ?_) _ s
  dsimp only
  (repeat' split) <;> simp [hset, hfault, hactive]

theorem rd_fault_classD (s : State) (src off : Nat) (active rail respond : Bool) (h : off ∉ faultRegs src) :
    (s.fault src 1 active rail respond).rd 0 off = s.rd 0 off := by
  simp only [faultRegs, List.mem_cons, List.not_mem_nil, or_false, not_or] at h
  obtain ⟨hsticky, hcnt, hfirst, hts0, hts1⟩ := h
  unfold State.fault
  simp only [clsF, show ¬ (1 = 2) by decide, if_false]
  (repeat' split) <;> simp [rd_msix, State.wrB, State.wrF, State.incF, rd_wr_pf, hsticky, hcnt, hfirst, hts0, hts1] <;> rfl

theorem isoFault_sansReports (s : State) : (s.fault 285 1 true false false).sansReports = s.sansReports :=
  sansReports_fault (by decide) s 285 true false false

theorem isoCheck_cluster (s : State) (c : Nat) : s.isoCheck.cluster c = s.cluster c := by
  have hkeep := isoCheck_keeps State.clusters (fun _ _ _ => rfl)
    (fun s => field_of_erased (isoFault_sansReports s) State.clusters) (fun _ _ => rfl) s
  rw [State.cluster, hkeep, State.cluster]

theorem isoCheck_flrAfter (s : State) : s.isoCheck.link.flrAfter = s.link.flrAfter :=
  isoCheck_keeps (fun x => x.link.flrAfter) (fun _ _ _ => rfl)
    (fun s => field_of_erased (isoFault_sansReports s) (fun x => x.link.flrAfter)) (fun _ _ => rfl) s

theorem isoCheck_rd (s : State) {off : Nat} (h : off ∉ faultRegs 285) : s.isoCheck.rd 0 off = s.rd 0 off :=
  isoCheck_keeps (fun x => x.rd 0 off) (fun _ _ _ => rfl) (fun s => rd_fault_classD s 285 off true false false h) (fun _ _ => rfl) s

theorem applyStat_idle (s : State) : (s.applyStat false 0 0).rd 0 Reg.VFM_APPLY_STAT = 0 := by
  rw [State.applyStat, rd_wr_same]
  rfl

/-- Every change of the dedication has ended, and nothing has been reported of it yet. -/
def State.drainsEnd (s : State) : State :=
  (List.range 12).foldl (fun (x : State) c =>
    match (x.cluster c).draining with
    | none => x
    | some f => x.setCluster c { x.cluster c with draining := none, owner := if f < 2048 then some f else none }) s

theorem drainsEnd_cluster (s : State) {c : Nat} (hc : c < 12) : s.drainsEnd.cluster c = (s.cluster c).drainEnds := by
  refine foldl_clusters (g := fun _ y => y.drainEnds) (fun x d => ?_) (fun x d e hne => ?_) List.nodup_range s (List.mem_range.mpr hc)
  · dsimp only [Cluster.drainEnds]
    split
    · rfl
    · exact cluster_setCluster_same _ _ _
  · split
    · rfl
    · exact cluster_setCluster_other _ hne _

theorem drainsEnd_link (s : State) : s.drainsEnd.link = s.link := by
  refine foldl_keep State.link _ (fun x c => ?_) _ s
  split <;> rfl

theorem dedicateEnd_shape (s : State) : ∃ u, s.dedicateEnd = State.isoCheck u ∧ u.clusters = s.drainsEnd.clusters ∧ u.link = s.drainsEnd.link ∧
    u.rd 0 Reg.VFM_APPLY_STAT = 0 := by
  unfold State.dedicateEnd State.drainsEnd
  generalize List.range 12 = l
  exact ⟨_, rfl, rfl, rfl, applyStat_idle _⟩

theorem dedicateEnd_ends (s : State) : (∀ c, c < 12 → s.dedicateEnd.cluster c = (s.cluster c).drainEnds) ∧
    s.dedicateEnd.link.flrAfter = s.link.flrAfter ∧ s.dedicateEnd.rd 0 Reg.VFM_APPLY_STAT = 0 := by
  obtain ⟨u, heq, hclusters, hlink, hstat⟩ := dedicateEnd_shape s
  rw [heq]
  refine ⟨fun c hc => ?_, ?_, (isoCheck_rd u (by decide)).trans hstat⟩
  · rw [isoCheck_cluster, State.cluster, hclusters]
    exact drainsEnd_cluster s hc
  · rw [isoCheck_flrAfter, hlink, drainsEnd_link]

theorem exec_applyClustersDone_settled {s : State} (h : s.settled) : exec .applyClustersDone s = .next s := by
  have hnone : s.clusters.any (fun c => c.2.draining.isSome) = false := List.any_eq_false.mpr (fun c hc => by simp [h c hc])
  change execApplyClustersDone s = _
  simp [execApplyClustersDone, hnone]

theorem exec_applyClustersDone_drained {s : State} (hsome : ∃ c ∈ s.clusters, c.2.draining ≠ none) (hdrained : ∀ c, c < 12 → s.drained c = true)
    (hafter : s.link.flrAfter = []) :
    exec .applyClustersDone s = .next { s.dedicateEnd with link := { s.dedicateEnd.link with flrAfter := [] } } := by
  have hany : s.clusters.any (fun c => c.2.draining.isSome) = true := by
    simpa [List.any_eq_true, Option.isSome_iff_ne_none] using hsome
  have hall : (List.range 12).all s.drained = true := List.all_eq_true.mpr (fun c hc => hdrained c (List.mem_range.mp hc))
  have hwait : s.dedicateEnd.flrWaiting = { s.dedicateEnd with link := { s.dedicateEnd.link with flrAfter := [] } } := by
    rw [State.flrWaiting, (dedicateEnd_ends s).2.1, hafter, List.foldl_nil]
  change execApplyClustersDone s = _
  rw [execApplyClustersDone, hany, hall, hwait]
  rfl

/-! Runs taken off a cluster (R73). -/

/-- Runs taken off the units of a list: nothing is sent, no command goes, and every other unit is as it was. -/
structure Pulled (s t : State) (us : List Nat) : Prop where
  tx : t.tx = s.tx
  regs : t.regs = s.regs
  cmds : ∀ id, (mget t.cmds id).isSome = (mget s.cmds id).isSome
  draining : ∀ c, (t.cluster c).draining = (s.cluster c).draining
  units : ∀ v, v ∉ us → t.unit v = s.unit v
  runs : ∀ v, v ∉ us → t.runsOn v = s.runsOn v

theorem Pulled.refl (s : State) (us : List Nat) : Pulled s s us := ⟨rfl, rfl, fun _ => rfl, fun _ => rfl, fun _ _ => rfl, fun _ _ => rfl⟩

theorem Pulled.trans {s t u : State} {us : List Nat} (h : Pulled s t us) (k : Pulled t u us) : Pulled s u us :=
  ⟨k.tx.trans h.tx, k.regs.trans h.regs, fun id => (k.cmds id).trans (h.cmds id), fun c => (k.draining c).trans (h.draining c),
    fun v hv => (k.units v hv).trans (h.units v hv), fun v hv => (k.runs v hv).trans (h.runs v hv)⟩

theorem Pulled.mono {s t : State} {us vs : List Nat} (h : Pulled s t us) (hsub : us ⊆ vs) : Pulled s t vs :=
  { h with units := fun v hv => h.units v (fun hu => hv (hsub hu)), runs := fun v hv => h.runs v (fun hu => hv (hsub hu)) }

/-- A leg without the unfinished runs of a unit. -/
def Leg.pulled (l : Leg) (u : Nat) : Leg :=
  { l with runs := l.runs.filter (fun r => !(r.unit == u && r.res.isNone)), used := l.used.filter (· != u) }

/-- The command as a run of one of its legs is taken off a unit. -/
def Cmd.pulled (c : Cmd) (leg u : Nat) : Cmd := { c with replayed := true, legs := c.legs.modify leg (fun l => l.pulled u) }

/-- The runs of a list of legs that still go on a unit. -/
def Cmd.goingOn (c : Cmd) (id v : Nat) : List (Nat × Nat × Nat) :=
  (List.range c.legs.length).flatMap (fun i =>
    match c.legs[i]? with
    | some l => (l.runs.filter (fun r => r.unit == v && r.res.isNone)).map (fun r => (id, i, r.start))
    | none => [])

theorem pulled_runs (l : Leg) {u v : Nat} (h : v ≠ u) :
    (l.pulled u).runs.filter (fun r => r.unit == v && r.res.isNone) = l.runs.filter (fun r => r.unit == v && r.res.isNone) := by
  rw [Leg.pulled, List.filter_filter]
  refine List.filter_congr (fun r _ => ?_)
  by_cases hr : r.unit = v
  · simp [hr, h]
  · simp [hr]

theorem pulled_goingOn (c : Cmd) (k leg : Nat) {u v : Nat} (h : v ≠ u) : (c.pulled leg u).goingOn k v = c.goingOn k v := by
  unfold Cmd.goingOn
  have hlen : (c.pulled leg u).legs.length = c.legs.length := List.length_modify _ _ _
  rw [hlen]
  refine List.flatMap_congr (fun i _ => ?_)
  have hleg : (c.pulled leg u).legs[i]? = (fun l : Leg => if leg = i then l.pulled u else l) <$> c.legs[i]? := List.getElem?_modify _ _ _ _
  rw [hleg]
  cases c.legs[i]? with
  | none => rfl
  | some l =>
    by_cases hi : leg = i
    · simp [hi, pulled_runs l h]
    · simp [hi]

theorem runsOn_modCmd_pulled (s : State) (id leg : Nat) {u v : Nat} (h : v ≠ u) : (s.modCmd id (fun c => c.pulled leg u)).runsOn v = s.runsOn v := by
  have hruns : ∀ x : State, x.runsOn v = x.cmds.flatMap (fun c => c.2.goingOn c.1 v) := fun _ => rfl
  rw [hruns, hruns, State.modCmd, mmod, List.flatMap_map]
  refine List.flatMap_congr (fun x _ => ?_)
  split
  · exact pulled_goingOn x.2 x.1 leg h
  · rfl

/-- Nothing of a cluster but its queues of waiting cores changes. -/
def Cluster.without (x : Cluster) (u : Nat) : Cluster := { x with spQueue := x.spQueue.filter (· != u), sramQueue := x.sramQueue.filter (· != u) }

/-- The cluster's queues forget a core. -/
def State.unqueue (s : State) (u : Nat) : State :=
  let x := s.cluster (clusterOf u)
  if u < 96 ∧ (x.spQueue.contains u ∨ x.sramQueue.contains u) then s.setCluster (clusterOf u) (x.without u) else s

theorem unqueue_draining (s : State) (u c : Nat) : ((s.unqueue u).cluster c).draining = (s.cluster c).draining := by
  unfold State.unqueue
  dsimp only
  split
  · by_cases hc : c = clusterOf u
    · rw [hc, cluster_setCluster_same]
      rfl
    · rw [cluster_setCluster_other _ hc]
  · rfl

/-- The state without its clusters. -/
def State.sansClusters (s : State) : State := { s with clusters := [] }

theorem unqueue_sansClusters (s : State) (u : Nat) : (s.unqueue u).sansClusters = s.sansClusters := by
  unfold State.unqueue
  dsimp only
  split <;> rfl

/-- The core's run has ended. -/
def State.coreStops (s : State) (u : Nat) : State :=
  { s with pvcs := s.pvcs.map (fun (p : Nat × Pvc) => if p.1 = u then (p.1, { p.2 with stall := some .ended, sp := Vector.replicate 2 none }) else p) }

theorem pullRun_eq (s : State) (id leg : Nat) {u : Nat} (hu : u < 96) : s.pullRun id leg u =
    let t := ((s.modCmd id (fun c => c.pulled leg u)).unqueue u).coreStops u
    t.setUnit u { t.unit u with scrub := true } := by
  change State.freeUnit (((s.modCmd id (fun c => c.pulled leg u)).unqueue u).coreStops u) u id = _
  simp [State.freeUnit, hu]

theorem unit_setUnit_same (s : State) (u : Nat) (e : EUnit) : (s.setUnit u e).unit u = e := by
  simp [State.unit, State.setUnit, mget_mput_same]

theorem unit_setUnit_other (s : State) {u v : Nat} (h : v ≠ u) (e : EUnit) : (s.setUnit u e).unit v = s.unit v := by
  simp [State.unit, State.setUnit, mget_mput_other _ _ _ _ h]

theorem pullRun_pulled (s : State) (id leg : Nat) {u : Nat} (hu : u < 96) : Pulled s (s.pullRun id leg u) [u] := by
  have hsame := unqueue_sansClusters (s.modCmd id (fun c => c.pulled leg u)) u
  have hcmds : ((s.modCmd id (fun c => c.pulled leg u)).unqueue u).cmds = (s.modCmd id (fun c => c.pulled leg u)).cmds :=
    field_of_erased hsame State.cmds
  have hunits : ((s.modCmd id (fun c => c.pulled leg u)).unqueue u).units = s.units := field_of_erased hsame State.units
  rw [pullRun_eq s id leg hu]
  refine ⟨field_of_erased hsame State.tx, field_of_erased hsame State.regs, fun k => ?_, fun c => ?_, fun v hv => ?_, fun v hv => ?_⟩
  · change (mget ((s.modCmd id (fun c => c.pulled leg u)).unqueue u).cmds k).isSome = _
    rw [hcmds, State.modCmd]
    by_cases hk : k = id
    · rw [hk, mget_mmod_same, Option.isSome_map]
    · rw [mget_mmod_other _ _ _ _ hk]
  · exact unqueue_draining (s.modCmd id (fun c => c.pulled leg u)) u c
  · rw [unit_setUnit_other _ (by simpa using hv), State.unit, State.unit]
    exact congrArg (fun m => (mget m v).getD .off) hunits
  · have hne : v ≠ u := by simpa using hv
    refine Eq.trans ?_ (runsOn_modCmd_pulled s id leg hne)
    exact congrArg (fun m : List (Nat × Cmd) => m.flatMap (fun c => c.2.goingOn c.1 v)) hcmds

theorem pullRun_scrub (s : State) (id leg : Nat) {u : Nat} (hu : u < 96) : ((s.pullRun id leg u).unit u).scrub = true := by
  rw [pullRun_eq s id leg hu, unit_setUnit_same]

theorem pullUnit_pulled (s : State) {u : Nat} (hu : u < 96) : Pulled s (s.pullUnit u) [u] := by
  have hall : ∀ (l : List (Nat × Nat × Nat)) (s : State), Pulled s (l.foldl (fun (x : State) r => x.pullRun r.1 r.2.1 u) s) [u] := by
    intro l
    induction l with
    | nil => exact fun s => .refl s _
    | cons r l ih => exact fun s => (pullRun_pulled s r.1 r.2.1 hu).trans (ih _)
  exact hall _ s

theorem pullUnit_scrub {s : State} {u : Nat} (hu : u < 96) (hruns : s.runsOn u ≠ []) : ((s.pullUnit u).unit u).scrub = true := by
  obtain h | ⟨l, r, h⟩ := List.eq_nil_or_concat (s.runsOn u)
  · exact absurd h hruns
  · rw [State.pullUnit, h, List.concat_eq_append, List.foldl_append]
    exact pullRun_scrub _ r.1 r.2.1 hu

/-- A unit of a cluster that joins gives up the runs of other functions. -/
def State.drainUnit (s : State) (u : Nat) : State :=
  match (s.cluster (clusterOf u)).draining with
  | some f => if f < 2048 ∧ (s.unit u).busy.isSome ∧ (s.unit u).fn ≠ f then s.pullUnit u else s
  | none => s

theorem drainNow_eq (s : State) : s.drainNow = (List.range 96).foldl State.drainUnit s := rfl

theorem drainUnit_pulled (s : State) {u : Nat} (hu : u < 96) : Pulled s (s.drainUnit u) [u] := by
  unfold State.drainUnit
  split
  · split
    · exact pullUnit_pulled s hu
    · exact .refl s _
  · exact .refl s _

theorem drainUnit_scrub {s : State} {u f : Nat} (hu : u < 96) (hf : f < 2048) (hd : (s.cluster (clusterOf u)).draining = some f)
    (hbusy : (s.unit u).busy ≠ none) (hfn : (s.unit u).fn ≠ f) (hruns : s.runsOn u ≠ []) : ((s.drainUnit u).unit u).scrub = true := by
  have heq : s.drainUnit u = s.pullUnit u := by simp [State.drainUnit, hd, hf, hfn, Option.isSome_iff_ne_none, hbusy]
  rw [heq]
  exact pullUnit_scrub hu hruns

theorem drainUnits_pulled {l : List Nat} (hl : ∀ u ∈ l, u < 96) (s : State) : Pulled s (l.foldl State.drainUnit s) l := by
  induction l generalizing s with
  | nil => exact .refl s _
  | cons a l ih =>
    have hfirst := (drainUnit_pulled s (hl a List.mem_cons_self)).mono (vs := a :: l) (by simp)
    exact hfirst.trans ((ih (fun u hu => hl u (List.mem_cons_of_mem a hu)) _).mono (List.subset_cons_self a l))

/-- A unit that holds a foreign run in a cluster that joins goes to scrub, whatever units come before it. -/
theorem drainUnits_scrub {l : List Nat} (hnodup : l.Nodup) (hl : ∀ u ∈ l, u < 96) {s : State} {u f : Nat} (hu : u ∈ l) (hf : f < 2048)
    (hd : (s.cluster (clusterOf u)).draining = some f) (hbusy : (s.unit u).busy ≠ none) (hfn : (s.unit u).fn ≠ f) (hruns : s.runsOn u ≠ []) :
    ((l.foldl State.drainUnit s).unit u).scrub = true := by
  induction l generalizing s with
  | nil => simp at hu
  | cons a l ih =>
    obtain ⟨hnot, hnodup⟩ := List.nodup_cons.mp hnodup
    have hrest : ∀ v ∈ l, v < 96 := fun v hv => hl v (List.mem_cons_of_mem a hv)
    have hstep := drainUnit_pulled s (hl a List.mem_cons_self)
    by_cases hua : u = a
    · subst hua
      rw [List.foldl_cons, (drainUnits_pulled hrest (s.drainUnit u)).units u hnot]
      exact drainUnit_scrub (hl u List.mem_cons_self) hf hd hbusy hfn hruns
    · have hout : u ∉ [a] := by simpa using hua
      refine ih hnodup hrest ((List.mem_cons.mp hu).resolve_left hua) ?_ ?_ ?_ ?_
      · rw [hstep.draining, hd]
      · rwa [hstep.units u hout]
      · rwa [hstep.units u hout]
      · rwa [hstep.runs u hout]

theorem drainNow_settled {s : State} (h : s.settled) : s.drainNow = s := by
  have hnone : ∀ c, (s.cluster c).draining = none := fun c => by
    cases hc : mget s.clusters c with
    | none => simp [State.cluster, hc, Cluster.idle]
    | some x => simpa [State.cluster, hc] using h (c, x) (mem_of_mget hc)
  rw [drainNow_eq]
  exact List.foldl_fixed' (fun u => by simp [State.drainUnit, hnone]) _

/-! The obligation's clauses. -/

section
variable {s : State}

theorem exec_vfmSel_shows {v : Word} (h : fld v 11 0 < 2048) : ∃ t, exec (.vfmSel v) s = .next t ∧
    t = { s with regs := t.regs, link := { s.link with stLoaded := t.link.stLoaded } } ∧ (t.rd 0 Reg.VFM_SEL).toNat = fld v 11 0 ∧
      (t.rd 0 Reg.VFM_ST_CTX).toNat = (s.fn (fld v 11 0)).ctx % 2 ^ 32 ∧ (t.rd 0 Reg.VFM_ST_INFLIGHT).toNat = (s.fn (fld v 11 0)).cap % 2 ^ 32 := by
  obtain ⟨heq, hsel, hshown⟩ := vfmSel_shows (s := s) h
  refine ⟨s.vfmSel v, rfl, heq, hsel, ?_, ?_⟩
  · rw [hshown (Reg.VFM_ST_CTX, _) (.tail _ (.head _)), BitVec.toNat_ofNat]
  · rw [hshown (Reg.VFM_ST_INFLIGHT, _) (.tail _ (.tail _ (.head _))), BitVec.toNat_ofNat]

section
variable (hidle : s.rdB Reg.VFM_APPLY_STAT 0 = false) (hq : (s.fn s.sel).quiescing = false)
include hidle hq

/-- A group of the function's own record, while no change of dedication is under way. -/
theorem exec_applyOne_setFn (hs : s.settled) {i : Instr} {b : Nat} {g : Fn} (h : (i, b) ∈ [(Instr.applyAllot 1, 1), (.applyCtx 1, 2),
    (.applyInflight 1, 3), (.applyKey 1, 4), (.applyClusters 1, 5), (.applyOpm 1, 6), (.applySpill 1, 7)])
    (hgroup : s.applyGroup s.sel b = s.setFn s.sel g) (hpass : s.checkGroup s.sel b = 0) :
    exec i s = .next (({ s with fns := mput s.fns s.sel g } : State).wr 0 Reg.VFM_APPLY_STAT (BitVec.ofNat 32 0)) := by
  have hnone : (s.setFn s.sel g).clusters.any (fun c => c.2.draining.isSome) = false := List.any_eq_false.mpr (fun c hc => by simp [hs c hc])
  rw [exec_applyOne h hidle hq hpass, hgroup, hnone]
  rfl

theorem exec_applyOpm_done (hpass : s.checkGroup s.sel 6 = 0) : let n := s.rdF Reg.VFM_ST_OPM 8 0
    ∃ t, exec (.applyOpm 1) s = .next t ∧ t.fn s.sel = { s.fn s.sel with opm4k := n } ∧ (n = 0 → mget t.opm s.sel = none) ∧
      (n ≠ 0 → n ≠ (s.fn s.sel).opm4k → ∀ q, mget t.opm s.sel = some q → q.slotLen = 0 ∧ q.slots = []) ∧
      ∀ k p, mget s.opm k = some p → k ≠ s.sel ∨ (n ≠ 0 ∧ n = (s.fn s.sel).opm4k) → ∃ q, mget t.opm k = some q ∧ q.slots = p.slots ∧
        q.slotLen = p.slotLen := by
  have hexec := exec_applyOne (i := .applyOpm 1) (b := 6) (by simp) hidle hq hpass
  rw [applyGroup_opm] at hexec
  exact ⟨_, hexec, fn_of_fns (mget_mput_same _ _ _), opmApplied_opm s s.sel (s.rdF Reg.VFM_ST_OPM 8 0)⟩

theorem exec_applyClusters_done (hpass : s.checkGroup s.sel 5 = 0) : ∃ t, exec (.applyClusters 1) s = .next t ∧
    ∀ c, c < 12 → t.cluster c = (s.cluster c).dedicated s.sel (bitAt (s.rd 0 Reg.VFM_ST_CLUSTERS) c) :=
  ⟨_, exec_applyOne (i := .applyClusters 1) (b := 5) (by simp) hidle hq hpass, fun _ hc => dedicate_cluster s s.sel hc⟩

end

theorem applyGroup_allot {fn : Nat} (h : fn ≠ 0) : s.applyGroup fn 1 = s.setFn fn { s.fn fn with
    weight := fld (s.rd 0 Reg.VFM_ST_ALLOT) 23 16
    qps := fld (s.rd 0 Reg.VFM_ST_ALLOT) 3 0
    vecs := fld (s.rd 0 Reg.VFM_ST_ALLOT) 8 4 } := by
  simp only [State.applyGroup, if_neg h]

theorem exec_applyClustersDone_ends (hsome : ∃ c ∈ s.clusters, c.2.draining ≠ none) (hdrained : ∀ c, c < 12 → s.drained c = true)
    (hafter : s.link.flrAfter = []) : ∃ t, exec .applyClustersDone s = .next t ∧ t.rd 0 Reg.VFM_APPLY_STAT = 0 ∧
      ∀ c, c < 12 → ∀ f, (s.cluster c).draining = some f → (t.cluster c).draining = none ∧
        (t.cluster c).owner = if f < 2048 then some f else none := by
  obtain ⟨hclusters, -, hstat⟩ := dedicateEnd_ends s
  have hexec := exec_applyClustersDone_drained hsome hdrained hafter
  generalize s.dedicateEnd = u at hclusters hstat hexec
  refine ⟨_, hexec, hstat, fun c hc f hf => ?_⟩
  have hend : u.cluster c = { s.cluster c with draining := none, owner := if f < 2048 then some f else none } := by
    rw [hclusters c hc, Cluster.drainEnds, hf]
  exact ⟨congrArg Cluster.draining hend, congrArg Cluster.owner hend⟩

theorem exec_dedicationDrainTimeout_pulls : ∃ t, exec .dedicationDrainTimeout s = .next t ∧ t.tx = s.tx ∧ t.regs = s.regs ∧
    (∀ id, (mget t.cmds id).isSome = (mget s.cmds id).isSome) ∧
    ∀ u f, u < 96 → f < 2048 → (s.cluster (u / 8)).draining = some f → (s.unit u).busy ≠ none → (s.unit u).fn ≠ f → s.runsOn u ≠ [] →
      (t.unit u).scrub = true := by
  have hunits : ∀ u ∈ List.range 96, u < 96 := fun u => List.mem_range.mp
  obtain ⟨htx, hregs, hcmds, -⟩ := drainUnits_pulled hunits s
  exact ⟨s.drainNow, rfl, htx, hregs, hcmds, fun u f hu hf hd hbusy hfn hruns =>
    drainUnits_scrub List.nodup_range hunits (List.mem_range.mpr hu) hf hd hbusy hfn hruns⟩

end

/-- Settles O39, from the laws of the groups and of the clusters above. -/
theorem allotments : Obligations.Allotments := by
  intro s
  refine ⟨fun v => ⟨fun h => ?ignored, exec_vfmSel_shows⟩, ?apply, fun h => ⟨exec_applyClustersDone_settled h, ?still⟩,
    exec_applyClustersDone_ends, exec_dedicationDrainTimeout_pulls, rfl,
    fun n => ⟨fun h => if_pos h, fun hvf hn => if_neg (by simp [hvf, hn])⟩⟩
  case ignored => exact congrArg Host.Outcome.next (if_neg (Nat.not_lt.mpr h))
  case still => exact congrArg Host.Outcome.next (drainNow_settled h)
  case apply =>
    intro fn f busy stat still set
    refine ⟨fun v i b hi => ?_, fun hidle hq hstill => ⟨?_, ?_, ?_, ?_, ?_, exec_applyOpm_done hidle hq, exec_applyClusters_done hidle hq⟩⟩
    · obtain ⟨hexec, hlo, hhi⟩ := exec_apply hi s
      have hgo : bitAt (setBit v b true) 0 = bitAt v 0 := by rw [bitAt_setBit _ _ _ _ (by omega), if_neg (by omega)]
      have hbit : ∀ k, bitAt (setBit v b true) k = true ↔ k = b ∨ bitAt v k = true := fun k => by
        rw [bitAt_setBit _ _ _ _ (by omega)]
        by_cases hk : k = b <;> simp [hk]
      refine ⟨fun h => ?_, fun hv hidle hq => ?_, fun k hv hidle hq h1 h7 hk hbad hfirst => ?_, fun hv hidle hq hpass => ?_⟩
      · rw [hexec, vfmApply_ignored (by rwa [hgo])]
      · rw [hexec, vfmApply_quiescing (hgo.trans hv) hidle hq]
        rfl
      · rw [hexec, vfmApply_fails (hgo.trans hv) hidle hq (mem_groupsOf.mpr ⟨⟨h1, h7⟩, (hbit k).mpr hk⟩) hbad (fun j hj hlt => ?_)]
        · have hsel : s.sel = fn := rfl
          rw [applyStat_quiet, hsel]
        · obtain ⟨⟨hj1, -⟩, hjb⟩ := mem_groupsOf.mp hj
          exact hfirst j hj1 hlt ((hbit j).mp hjb)
      · subst hv
        obtain ⟨hfns, hqps, hcmds, hks⟩ := applyGroup_keeps s s.sel b
        exact ⟨_, exec_applyOne hi hidle hq hpass, applyStat_result _ _, hfns, hqps, hcmds, hks⟩
    · exact exec_applyOne_setFn hidle hq hstill (b := 2) (by simp) rfl
    · exact exec_applyOne_setFn hidle hq hstill (b := 3) (by simp) rfl
    · exact exec_applyOne_setFn hidle hq hstill (b := 4) (by simp) rfl
    · exact fun hpass hfn => exec_applyOne_setFn hidle hq hstill (b := 1) (by simp) (applyGroup_allot hfn) hpass
    · exact exec_applyOne_setFn hidle hq hstill (b := 7) (by simp) rfl

end Sys2Proof.Machine
end

section
/-!
SUPPORT. The two kinds of reset, RESET_N, PERST_N, the host link and its errors (spec file 11, R291 to R297, R306; spec file 02, R59).
-/
namespace Sys2Proof.Machine
open Sys2Proof

/-! The record of a reset (R297, R343). -/

/-- The state without its registers and the peat domain's log and counters. -/
def State.sansNote (s : State) : State :=
  { s with regs := [], peat := { s.peat with counters := [], flashCnt := [], log := [], lostCnt := 0 } }

/-- A reset's cause stands in RST_CAUSE, RST_LAST and the last entry of the peat log; nothing else has changed. -/
structure Noted (s t : State) (c : Nat) : Prop where
  cause : t.rdB Reg.RST_CAUSE c = true
  last : t.rdF Reg.RST_LAST 3 0 = c
  entry : ∃ e, t.peat.log.getLast? = some e ∧ leAt e 7 1 = 2 ∧ leAt e 8 1 = c
  same : t.sansNote = s.sansNote

theorem rd_of_regs {s t : State} (h : t.regs = s.regs) (o : Nat) : t.rd 0 o = s.rd 0 o := by rw [State.rd, h, State.rd]

/-- The kind and the source of a log entry (R343). -/
theorem entry_fields (secs subsec : Nat) {kind src : Nat} (l : List Byte) (hkind : kind < 256) (hsrc : src < 256) :
    let e := natLE 5 secs ++ natLE 2 subsec ++ (BitVec.ofNat 8 kind :: BitVec.ofNat 8 src :: l)
    leAt e 7 1 = kind ∧ leAt e 8 1 = src := by
  simp [natLE, leAt, slice, leNat, Nat.mod_eq_of_lt hkind, Nat.mod_eq_of_lt hsrc]

/-- The new entry is the last, and its fields are the numbers given. -/
theorem peatLog_entry (s : State) {kind src : Nat} (resp chans : Nat) (hkind : kind < 256) (hsrc : src < 256) :
    ∃ e, (s.peatLog kind src resp chans).peat.log.getLast? = some e ∧ leAt e 7 1 = kind ∧ leAt e 8 1 = src := by
  unfold State.peatLog
  dsimp only
  generalize (s.peatCount 0).peat.counters.getD 0 0 = n
  rw [List.getLast?_concat, List.map_cons, List.map_cons, List.append_assoc]
  exact ⟨_, rfl, entry_fields _ _ _ hkind hsrc⟩

theorem peatLog_sansNote (s : State) (kind src resp chans : Nat) : (s.peatLog kind src resp chans).sansNote = s.sansNote := rfl

theorem peatLog_regs (s : State) (kind src resp chans : Nat) : (s.peatLog kind src resp chans).regs = s.regs := rfl

theorem sansNote_of_sansRegs {s t : State} (h : t.sansRegs = s.sansRegs) : t.sansNote = s.sansNote := by
  rw [eq_of_sansRegs h]
  rfl

theorem noteReset_noted (s : State) {c : Nat} (hc : c ≤ 15) : Noted s (s.noteReset [c]) c := by
  have hmin : Nat.min 15 c = c := Nat.min_eq_right hc
  have heq : s.noteReset [c] = (((s.wrB Reg.RST_CAUSE c true).wrF Reg.RST_LAST 3 0 c).peatLog 0x02 c 0 0) := by
    rw [State.noteReset, List.foldl_cons, List.foldl_nil, List.foldl_cons, List.foldl_nil, hmin]
  have hcause : ((s.wrB Reg.RST_CAUSE c true).wrF Reg.RST_LAST 3 0 c).rdB Reg.RST_CAUSE c = true := by
    rw [rdB_wrF_other _ _ _ _ _ _ _ (by decide), rdB_wrB_same _ _ _ _ (by omega)]
  have hlast : ((s.wrB Reg.RST_CAUSE c true).wrF Reg.RST_LAST 3 0 c).rdF Reg.RST_LAST 3 0 = c :=
    rdF_wrF_same _ _ 3 0 c (by decide) (by decide) (Nat.lt_succ_of_le hc)
  have hregs := peatLog_regs ((s.wrB Reg.RST_CAUSE c true).wrF Reg.RST_LAST 3 0 c) 0x02 c 0 0
  rw [heq]
  refine ⟨?_, ?_, peatLog_entry _ 0 0 (by decide) (by omega), ?_⟩
  · rw [State.rdB, rd_of_regs hregs]
    exact hcause
  · rw [State.rdF, rd_of_regs hregs]
    exact hlast
  · rw [peatLog_sansNote, sansNote_of_sansRegs (sansRegs_wrF _ _ _ _ _), sansNote_of_sansRegs (sansRegs_wrB _ _ _ _)]

/-! What both resets do to the host's side (R297). -/

/-- The registers that note a reset. -/
def noteRegs : List Nat := [Reg.RST_CAUSE, Reg.RST_LAST]

theorem noteRegs_low {o : Nat} (h : o ∈ noteRegs) : o < Reg.PWR_VIN := by
  simp only [noteRegs, List.mem_cons, List.not_mem_nil, or_false] at h
  obtain rfl | rfl := h <;> decide

/-- The commands' blocks and groups are given back. -/
def State.giveBack (s : State) : State := s.cmds.foldl (fun (x : State) c => (x.unreserve c.2.chunk).endRaw c.2) s

theorem giveBack_sansWork (s : State) : s.giveBack.sansWork = s.sansWork := foldl_keep State.sansWork _ (by simp) _ s

theorem rd_unreserve (s : State) (blocks : List (List Byte)) (o : Nat) : (s.unreserve blocks).rd 0 o = s.rd 0 o := by
  unfold State.unreserve
  split <;> rfl

theorem rd_endRaw (s : State) (c : Cmd) {o : Nat} (h : o < Reg.NRG_GRP 0) : (s.endRaw c).rd 0 o = s.rd 0 o := by
  unfold State.endRaw
  split
  · dsimp only
    split
    · exact rd_wr_pf _ _ _ _ (by simp only [Reg.NRG_GRP] at h ⊢; omega)
    · rfl
  · rfl

theorem rd_giveBack (s : State) {o : Nat} (h : o < Reg.NRG_GRP 0) : s.giveBack.rd 0 o = s.rd 0 o :=
  foldl_keep (fun x : State => x.rd 0 o) _ (fun x c => by rw [rd_endRaw _ _ h, rd_unreserve]) _ s

/-- Commands, pairs and contexts are gone; keys, life cycle, power and the record of the reset stay. -/
structure HostDropped (s t : State) : Prop where
  cmds : t.cmds = []
  qps : t.qps = []
  ctxs : t.ks.ctxs = []
  objs : t.ks.objs = s.ks.objs
  dsk : t.ks.dsk = s.ks.dsk
  flash : t.ks.flash = s.ks.flash
  stage : t.boot.stage = s.boot.stage
  fw : t.boot.fw = s.boot.fw
  pwr : t.pwr = s.pwr
  lc : t.lc = s.lc
  peat : t.peat = s.peat
  up : t.link.up = s.link.up

theorem dropHost_shape (s : State) : HostDropped s.giveBack s.dropHost ∧ s.dropHost.regs = s.giveBack.regs :=
  ⟨⟨rfl, rfl, rfl, rfl, rfl, rfl, rfl, rfl, rfl, rfl, rfl, rfl⟩, rfl⟩

theorem dropHost_dropped (s : State) : HostDropped s s.dropHost := by
  have hsame := giveBack_sansWork s
  have hks : s.giveBack.ks = s.ks := field_of_erased hsame State.ks
  have hboot : s.giveBack.boot = s.boot := field_of_erased hsame State.boot
  obtain ⟨hcmds, hqps, hctxs, hobjs, hdsk, hflash, hstage, hfw, hpwr, hlc, hpeat, hup⟩ := (dropHost_shape s).1
  rw [hks] at hobjs hdsk hflash
  rw [hboot] at hstage hfw
  exact ⟨hcmds, hqps, hctxs, hobjs, hdsk, hflash, hstage, hfw, hpwr.trans (field_of_erased hsame State.pwr),
    hlc.trans (field_of_erased hsame State.lc), hpeat.trans (field_of_erased hsame State.peat),
    hup.trans (field_of_erased hsame (fun x => x.link.up))⟩

theorem rd_dropHost (s : State) {o : Nat} (h : o < Reg.NRG_GRP 0) : s.dropHost.rd 0 o = s.rd 0 o := by
  rw [State.rd, (dropHost_shape s).2]
  exact rd_giveBack s h

/-! Registers through a reset (R15). -/

/-- The registers that note a reset survive all but the loss of VIN. -/
theorem noteRegs_survive {o : Nat} (h : o ∈ noteRegs) : (regSpec 0 o).any (fun x => x.survive == .allButVin) = true := by
  simp only [noteRegs, List.mem_cons, List.not_mem_nil, or_false] at h
  obtain rfl | rfl := h <;> decide +kernel

theorem rd_keepRegs (s : State) {keep : Survive → Bool} (hkeep : keep .allButVin = true) {o : Nat} (h : o ∈ noteRegs) :
    (s.keepRegs keep).rd 0 o = s.rd 0 o := by
  have hlow : o < 2 ^ 28 := Nat.lt_trans (noteRegs_low h) (by decide)
  obtain ⟨x, hx, hsurvive⟩ := Option.any_eq_true .. |>.mp (noteRegs_survive h)
  have hfilter := mget_filter_of_true (k := regKey 0 o) (m := s.regs) (p := fun r =>
    match regSpec (r.1 / 2 ^ 28) (r.1 % 2 ^ 28) with | some x => keep x.survive | none => false) (by
      rintro r hr
      have hfn : r.1 / 2 ^ 28 = 0 := by simp only [regKey] at hr; omega
      have hoff : r.1 % 2 ^ 28 = o := by simp only [regKey] at hr; omega
      simp only [hfn, hoff, hx, eq_of_beq hsurvive, hkeep])
  rw [State.rd, State.rd]
  exact congrArg (fun v => v.getD (regReset 0 o)) hfilter

theorem rd_loadStaging (s : State) {o : Nat} (h : o < Reg.VFM_ST_ALLOT) : s.loadStaging.rd 0 o = s.rd 0 o := by
  refine rd_writes_other _ (fun hmem => ?_) s
  obtain ⟨r, hr, rfl⟩ := List.mem_map.mp hmem
  have hin := (List.mem_filter.mp hr).2
  simp only [Bool.and_eq_true, decide_eq_true_eq] at hin
  omega

theorem readAs_eq (s before : State) (l : List Nat) :
    s.readAs before l = (l.map (fun r => (r, before.rd 0 r))).foldl (fun (x : State) r => x.wr 0 r.1 r.2) s := by
  rw [List.foldl_map]
  rfl

theorem rd_readAs_other (s before : State) {l : List Nat} {o : Nat} (h : o ∉ l) : (s.readAs before l).rd 0 o = s.rd 0 o := by
  rw [readAs_eq]
  exact rd_writes_other _ (by simpa using h) s

theorem rd_readAs_mem (s before : State) {l : List Nat} (hl : l.Nodup) {o : Nat} (h : o ∈ l) : (s.readAs before l).rd 0 o = before.rd 0 o := by
  rw [readAs_eq]
  exact rd_writes (by simpa [Function.comp_def] using hl) s (o, before.rd 0 o) (List.mem_map.mpr ⟨o, h, rfl⟩)

@[simp] theorem readAs_sansRegs (s before : State) (l : List Nat) : (s.readAs before l).sansRegs = s.sansRegs := sansRegs_foldl _ (by simp) l s

@[simp] theorem afterReset_sansRegs (s before : State) : (s.afterReset before).sansRegs = s.sansRegs := by
  simp only [State.afterReset, sansRegs_wrF, readAs_sansRegs, loadStaging_sansRegs]

theorem rd_afterReset (s before : State) {o : Nat} (h : o ∈ noteRegs) : (s.afterReset before).rd 0 o = s.rd 0 o := by
  have hlow := noteRegs_low h
  have hvin : o ≠ Reg.PWR_VIN := Nat.ne_of_lt hlow
  have hmeasured : o ∉ measuredRegs := by
    simp only [measuredRegs, List.mem_singleton]
    exact Nat.ne_of_lt (Nat.lt_trans hlow (by decide))
  rw [State.afterReset, State.wrF, rd_wr_pf _ _ _ _ hvin, rd_readAs_other _ _ hmeasured,
    rd_loadStaging _ (Nat.lt_trans hlow (by decide))]

/-! The host-interface-only reset (R291, R297). -/

/-- The state without its registers, mailbox requests and messages. -/
def State.sansHost (s : State) : State := s.sansRegs.sansMessages

theorem sansHost_of_sansRegs {s t : State} (h : t.sansRegs = s.sansRegs) : t.sansHost = s.sansHost := congrArg State.sansMessages h

theorem sansHost_of_sansMessages {s t : State} (h : t.sansMessages = s.sansMessages) : t.sansHost = s.sansHost := congrArg State.sansRegs h

theorem HostDropped.of_sansHost {s t u : State} (h : HostDropped s t) (he : u.sansHost = t.sansHost) : HostDropped s u := by
  have hks : u.ks = t.ks := field_of_erased he State.ks
  have hboot : u.boot = t.boot := field_of_erased he State.boot
  obtain ⟨hcmds, hqps, hctxs, hobjs, hdsk, hflash, hstage, hfw, hpwr, hlc, hpeat, hup⟩ := h
  rw [← hks] at hctxs hobjs hdsk hflash
  rw [← hboot] at hstage hfw
  exact ⟨(field_of_erased he State.cmds).trans hcmds, (field_of_erased he State.qps).trans hqps, hctxs, hobjs, hdsk, hflash, hstage, hfw,
    (field_of_erased he State.pwr).trans hpwr, (field_of_erased he State.lc).trans hlc, (field_of_erased he State.peat).trans hpeat,
    (field_of_erased he (fun x => x.link.up)).trans hup⟩

/-- The registers that a host-interface-only reset keeps. -/
def keepsHio (k : Survive) : Bool := match k with | .none => false | _ => true

/-- After the registers: the units' tests end, requests go, and the measured and the live registers read again. -/
def State.hioTail (s before : State) : State :=
  ((({ s with
    test := { s.test with loop := none, unit := none, pending := none }
    units := s.units.map (fun (u : Nat × EUnit) => (u.1, { u.2 with corrupt := none, tested := false, fn := 0, opcode := 0 })) } : State).keepReqs
      (fun _ => true)).afterReset before).readAs before liveRegs |>.orphans

theorem hioReset_eq (s : State) (causes : List Nat) : s.hioReset causes = (((s.noteReset causes).dropHost).keepRegs keepsHio).hioTail s := rfl

theorem hioTail_dropped {s t before : State} (h : HostDropped s t) : HostDropped s (t.hioTail before) := by
  have htests : HostDropped s { t with
      test := { t.test with loop := none, unit := none, pending := none }
      units := t.units.map (fun (u : Nat × EUnit) => (u.1, { u.2 with corrupt := none, tested := false, fn := 0, opcode := 0 })) } := { h with }
  refine htests.of_sansHost ?_
  unfold State.hioTail
  rw [sansHost_of_sansMessages (orphans_sansMessages _), sansHost_of_sansRegs (readAs_sansRegs _ _ _), sansHost_of_sansRegs (afterReset_sansRegs _ _),
    sansHost_of_sansMessages (keepReqs_sansMessages _ _)]

theorem rd_hioTail (s before : State) {o : Nat} (h : o ∈ noteRegs) : (s.hioTail before).rd 0 o = s.rd 0 o := by
  have hlive : o ∉ liveRegs := by
    simp only [noteRegs, List.mem_cons, List.not_mem_nil, or_false] at h
    obtain rfl | rfl := h <;> decide
  unfold State.hioTail
  rw [rd_of_regs (field_of_erased (orphans_sansMessages _) State.regs), rd_readAs_other _ _ hlive, rd_afterReset _ _ h,
    rd_of_regs (field_of_erased (keepReqs_sansMessages _ _) State.regs)]
  rfl

theorem sealState_hioTail (s before : State) : (s.hioTail before).sealState = before.sealState := by
  have hstat : (s.hioTail before).rd 0 Reg.KST_STAT = before.rd 0 Reg.KST_STAT := by
    unfold State.hioTail
    rw [rd_of_regs (field_of_erased (orphans_sansMessages _) State.regs), rd_readAs_mem _ _ (by decide) (by decide)]
  rw [State.sealState, State.rdF, hstat]
  rfl

/-- What a host-interface-only reset by a cause does. -/
structure HioDone (s t : State) (c : Nat) : Prop where
  stage : t.boot.stage = s.boot.stage
  cmds : t.cmds = []
  qps : t.qps = []
  ctxs : t.ks.ctxs = []
  objs : t.ks.objs = s.ks.objs
  dsk : t.ks.dsk = s.ks.dsk
  fw : t.boot.fw = s.boot.fw
  pwr : t.pwr = s.pwr
  lc : t.lc = s.lc
  sealed : t.sealState = s.sealState
  cause : t.rdB Reg.RST_CAUSE c = true
  up : t.link.up = s.link.up

theorem hioReset_done (s : State) {c : Nat} (hc : c ≤ 15) : HioDone s (s.hioReset [c]) c := by
  obtain ⟨hcause, -, -, hsame⟩ := noteReset_noted s hc
  have hks : (s.noteReset [c]).ks = s.ks := field_of_erased hsame State.ks
  have hboot : (s.noteReset [c]).boot = s.boot := field_of_erased hsame State.boot
  have hkept : HostDropped (s.noteReset [c]) ((s.noteReset [c]).dropHost.keepRegs keepsHio) := { dropHost_dropped (s.noteReset [c]) with }
  obtain ⟨hcmds, hqps, hctxs, hobjs, hdsk, -, hstage, hfw, hpwr, hlc, -, hup⟩ := hioTail_dropped (before := s) hkept
  rw [hks] at hobjs hdsk
  rw [hboot] at hstage hfw
  have hmem : Reg.RST_CAUSE ∈ noteRegs := List.mem_cons_self
  have hrd : ((s.noteReset [c]).dropHost.keepRegs keepsHio |>.hioTail s).rd 0 Reg.RST_CAUSE = (s.noteReset [c]).rd 0 Reg.RST_CAUSE := by
    rw [rd_hioTail _ _ hmem, rd_keepRegs _ rfl hmem, rd_dropHost _ (by decide)]
  rw [hioReset_eq]
  exact ⟨hstage, hcmds, hqps, hctxs, hobjs, hdsk, hfw, hpwr.trans (field_of_erased hsame State.pwr), hlc.trans (field_of_erased hsame State.lc),
    sealState_hioTail _ s, by rw [State.rdB, hrd]; exact hcause, hup.trans (field_of_erased hsame (fun x => x.link.up))⟩

/-! The full reset (R291, R292, R297). -/

/-- No reset is under way in which a full reset's cause could join. -/
def Stage.runs (x : Stage) : Prop := x ∉ [Stage.inReset, .heldOff, .off]

/-- What a full reset by a cause does. -/
structure FullDone (s t : State) (c : Nat) : Prop where
  stage : t.boot.stage = .inReset
  cmds : t.cmds = []
  qps : t.qps = []
  mbx : t.mbx = []
  outcomes : t.outcomes = []
  objs : t.ks.objs = []
  ctxs : t.ks.ctxs = []
  flash : t.ks.flash = s.ks.flash
  slots : t.lc.slots = s.lc.slots
  session : t.lc.session = none
  sls : t.peat.sls = s.peat.sls
  up : t.link.up = false
  cause : t.rdB Reg.RST_CAUSE c = true
  last : t.rdF Reg.RST_LAST 3 0 = c
  entry : ∃ e, t.peat.log.getLast? = some e ∧ leAt e 7 1 = 2 ∧ leAt e 8 1 = c

/-- The registers that a full reset keeps. -/
def keepsFull (k : Survive) : Bool := match k with | .none => false | .hio => false | _ => true

/-- Full resets are counted in RST_LAST. -/
def State.countFull (s : State) : State := s.wrF Reg.RST_LAST 31 16 (satAdd 16 (s.rdF Reg.RST_LAST 31 16) 1)

/-- The state that a full reset leaves before its registers are settled: `d` is what is left of the host's side. -/
structure Restarted (s d u : State) : Prop where
  stage : u.boot.stage = .inReset
  cmds : u.cmds = d.cmds
  qps : u.qps = d.qps
  mbx : u.mbx = []
  outcomes : u.outcomes = []
  objs : u.ks.objs = []
  ctxs : u.ks.ctxs = d.ks.ctxs
  flash : u.ks.flash = d.ks.flash
  slots : u.lc.slots = s.lc.slots
  session : u.lc.session = none
  peat : u.peat = d.peat
  up : u.link.up = false
  swReset : u.pwr.swReset = none
  perstN : u.pwr.perstN = s.pwr.perstN
  regs : u.regs = (d.countFull.keepRegs keepsFull).regs

theorem fullReset_shape {s : State} (h : s.boot.stage.runs) (causes : List Nat) : ∃ u, Restarted s (s.noteReset causes).dropHost u ∧
    s.fullReset causes = (u.afterReset s).wr 0 Reg.KST_STAT (setBits (s.rd 0 Reg.KST_STAT) 6 4 0) := by
  have hnot : ¬ (s.boot.stage = .inReset ∨ s.boot.stage = .heldOff ∨ s.boot.stage = .off) := by simpa [Stage.runs] using h
  rw [State.fullReset, if_neg hnot]
  generalize (s.noteReset causes).dropHost = d
  refine ⟨_, ?_, rfl⟩
  exact ⟨rfl, rfl, rfl, rfl, rfl, rfl, rfl, rfl, rfl, rfl, rfl, rfl, rfl, rfl, rfl⟩

theorem countFull_cause (s : State) (c : Nat) : s.countFull.rdB Reg.RST_CAUSE c = s.rdB Reg.RST_CAUSE c := rdB_wrF_other _ _ _ _ _ _ _ (by decide)

theorem countFull_last (s : State) : s.countFull.rdF Reg.RST_LAST 3 0 = s.rdF Reg.RST_LAST 3 0 :=
  rdF_wrF_beside _ _ _ _ _ _ _ (by decide) (by decide) (by decide) (by decide)

theorem fullReset_done {s : State} (h : s.boot.stage.runs) {c : Nat} (hc : c ≤ 15) :
    FullDone s (s.fullReset [c]) c ∧ (s.fullReset [c]).pwr.swReset = none ∧ (s.fullReset [c]).pwr.perstN = s.pwr.perstN := by
  obtain ⟨hcause, hlast, hentry, hsame⟩ := noteReset_noted s hc
  have hdropped := dropHost_dropped (s.noteReset [c])
  obtain ⟨u, ⟨ustage, ucmds, uqps, umbx, uoutcomes, uobjs, uctxs, uflash, uslots, usession, upeat, uup, uswReset, uperstN, uregs⟩, heq⟩ :=
    fullReset_shape h [c]
  have hks : (s.noteReset [c]).ks = s.ks := field_of_erased hsame State.ks
  have hpeat : u.peat = (s.noteReset [c]).peat := upeat.trans hdropped.peat
  have hsls : (s.noteReset [c]).peat.sls = s.peat.sls := field_of_erased hsame (fun x => x.peat.sls)
  have hrd : ∀ o ∈ noteRegs, (s.fullReset [c]).rd 0 o = (s.noteReset [c]).dropHost.countFull.rd 0 o := fun o ho => by
    rw [heq, rd_wr_pf _ _ _ _ (Nat.ne_of_lt (Nat.lt_trans (noteRegs_low ho) (by decide))), rd_afterReset _ _ ho, rd_of_regs uregs,
      rd_keepRegs _ rfl ho]
  have hregs : (s.fullReset [c]).sansRegs = u.sansRegs := by
    rw [heq]
    simp
  have hc1 : (s.fullReset [c]).rdB Reg.RST_CAUSE c = true := by
    rw [State.rdB, hrd _ List.mem_cons_self]
    refine (countFull_cause _ c).trans ?_
    rw [State.rdB, rd_dropHost _ (by decide)]
    exact hcause
  have hl1 : (s.fullReset [c]).rdF Reg.RST_LAST 3 0 = c := by
    rw [State.rdF, hrd _ (List.mem_cons_of_mem _ List.mem_cons_self)]
    refine (countFull_last _).trans ?_
    rw [State.rdF, rd_dropHost _ (by decide)]
    exact hlast
  have hfks : (s.fullReset [c]).ks = u.ks := field_of_erased hregs State.ks
  have hflc : (s.fullReset [c]).lc = u.lc := field_of_erased hregs State.lc
  have hfpeat : (s.fullReset [c]).peat = (s.noteReset [c]).peat := (field_of_erased hregs State.peat).trans hpeat
  rw [← hfks] at uobjs uctxs uflash
  rw [← hflc] at uslots usession
  refine ⟨⟨(field_of_erased hregs (fun x => x.boot.stage)).trans ustage, (field_of_erased hregs State.cmds).trans (ucmds.trans hdropped.cmds),
    (field_of_erased hregs State.qps).trans (uqps.trans hdropped.qps), (field_of_erased hregs State.mbx).trans umbx,
    (field_of_erased hregs State.outcomes).trans uoutcomes, uobjs, uctxs.trans hdropped.ctxs, uflash.trans (hdropped.flash.trans (by rw [hks])),
    uslots, usession, by rw [hfpeat, hsls], (field_of_erased hregs (fun x => x.link.up)).trans uup, hc1, hl1, by rw [hfpeat]; exact hentry⟩,
    (field_of_erased hregs (fun x => x.pwr.swReset)).trans uswReset, (field_of_erased hregs (fun x => x.pwr.perstN)).trans uperstN⟩

/-- The causes of a reset in progress join (R292). -/
theorem fullReset_joins {s : State} (h : ¬ s.boot.stage.runs) {c : Nat} (hc : c < 32) :
    (s.fullReset [c]).sansRegs = s.sansRegs ∧ (s.fullReset [c]).rdB Reg.RST_CAUSE c = true := by
  have hin : s.boot.stage = .inReset ∨ s.boot.stage = .heldOff ∨ s.boot.stage = .off := by
    simpa using not_not.mp (show ¬ s.boot.stage ∉ [Stage.inReset, .heldOff, .off] from h)
  have heq : s.fullReset [c] = (s.wrB Reg.RST_CAUSE c true).wrF Reg.RST_LAST 3 0 (Nat.min (s.rdF Reg.RST_LAST 3 0) c) := if_pos hin
  rw [heq]
  exact ⟨by simp, (rdB_wrF_other _ _ _ _ _ _ _ (by decide)).trans (rdB_wrB_same _ _ _ _ hc)⟩

/-! RESET_N (R292, R293). -/

theorem exec_resetNAssert_ignored {s : State} (h : ¬ (s.pwr.vin = true ∧ s.pwr.vioOk = true)) : exec .resetNAssert s = .next s := by
  change execResetNAssert s = _
  exact if_neg (by simpa using h)

theorem exec_resetNAssert_resets {s : State} (hvin : s.pwr.vin = true) (hvio : s.pwr.vioOk = true) : ∃ t, exec .resetNAssert s = .next t ∧
    t.pwr.resetN = false ∧ t.rdB Reg.RST_CAUSE 1 = true ∧ (s.boot.stage.runs → FullDone s t 1) ∧
      (¬ s.boot.stage.runs → t.boot = s.boot ∧ t.cmds = s.cmds) := by
  have hexec : exec .resetNAssert s = .next { s.fullReset [1] with pwr := { (s.fullReset [1]).pwr with resetN := false } } := by
    change execResetNAssert s = _
    exact if_pos (by simp [hvin, hvio])
  have hruns := @fullReset_done s
  have hjoins := @fullReset_joins s
  generalize hu : s.fullReset [1] = u at hexec
  refine ⟨_, hexec, rfl, ?_, fun h => ?_, fun h => ?_⟩
  · by_cases h : s.boot.stage.runs
    · exact hu ▸ (hruns h (c := 1) (by decide)).1.cause
    · exact hu ▸ (hjoins h (c := 1) (by decide)).2
  · have hdone := (hruns h (c := 1) (by decide)).1
    rw [hu] at hdone
    exact { hdone with }
  · have hsame := (hjoins h (c := 1) (by decide)).1
    rw [hu] at hsame
    exact ⟨field_of_erased hsame State.boot, field_of_erased hsame State.cmds⟩

/-- The state without the strap's samples and the permit. -/
def State.sansStrap (s : State) : State := { s with regs := [], pwr := { s.pwr with strap := none, strapped := false, heldAt := none } }

theorem sansStrap_of_sansRegs {s t : State} (h : t.sansRegs = s.sansRegs) : t.sansStrap = s.sansStrap := by
  rw [eq_of_sansRegs h]
  rfl

theorem takePermit_keeps (s : State) : s.takePermit.sansStrap = s.sansStrap ∧ s.takePermit.rdF Reg.RST_STRAP 5 0 = s.rdF Reg.RST_STRAP 5 0 :=
  ⟨rfl, rdF_wrF_other s Reg.PWR_STAT Reg.RST_STRAP 5 4 Pm.HELD 5 0 (by decide)⟩

/-- The strap read, before the permit is looked at. -/
def State.strapRead (s : State) (m : Nat) : State :=
  let s1 := (s.wrF Reg.RST_STRAP 5 0 m).wrF Reg.RST_STRAP 11 8 (m / 4)
  { s1 with pwr := { s1.pwr with strap := some (m / 4 % 8), strapped := true } }

theorem strapRead_does (s : State) {m : Nat} (hm : m < 64) : (s.strapRead m).sansStrap = s.sansStrap ∧ (s.strapRead m).rdF Reg.RST_STRAP 5 0 = m := by
  have hread : ∀ u : State, ({ u with pwr := { u.pwr with strap := some (m / 4 % 8), strapped := true } } : State).sansStrap = u.sansStrap :=
    fun _ => rfl
  have hbeside := rdF_wrF_beside (s.wrF Reg.RST_STRAP 5 0 m) Reg.RST_STRAP 11 8 (m / 4) 5 0 (by decide) (by decide) (by decide) (by decide)
  exact ⟨(hread _).trans (sansStrap_of_sansRegs (by simp)), hbeside.trans (rdF_wrF_same s Reg.RST_STRAP 5 0 m (by decide) (by decide) hm)⟩

theorem sampleStrap_does (s : State) (a b c : Nat) :
    (s.sampleStrap a b c).sansStrap = s.sansStrap ∧ (s.sampleStrap a b c).rdF Reg.RST_STRAP 5 0 = median3 a b c % 64 := by
  have hread := strapRead_does s (Nat.mod_lt (median3 a b c) (by decide : 0 < 64))
  have heq : s.sampleStrap a b c = let u := s.strapRead (median3 a b c % 64)
      if u.pwr.waking && median3 a b c % 64 / 4 % 8 == 0 && u.permit == Pm.WAITING then u.takePermit else u := rfl
  generalize s.strapRead (median3 a b c % 64) = u at hread heq
  obtain ⟨hsame, hstrap⟩ := takePermit_keeps u
  rw [heq]
  dsimp only
  split
  · exact ⟨hsame.trans hread.1, hstrap.trans hread.2⟩
  · exact hread

/-- The state without its registers, the noise generator and the records of faults. -/
def State.sansNoise (s : State) : State := { s with regs := [], nrg := .off, flt := [] }

theorem askSeeds_keeps (s : State) : s.askSeeds.sansNoise = s.sansNoise ∧ s.askSeeds.regs = s.regs := by
  have hseed : ∀ (x : State) (e c : Nat), (x.askSeed e c).sansNoise = x.sansNoise ∧ (x.askSeed e c).regs = x.regs := fun x e c => by
    unfold State.askSeed
    split <;> exact ⟨rfl, rfl⟩
  constructor
  · refine foldl_keep State.sansNoise _ (fun x e => ?_) _ s
    split
    · exact (hseed x e 1).1
    · split
      · exact (hseed x e 3).1
      · rfl
  · refine foldl_keep State.regs _ (fun x e => ?_) _ s
    split
    · exact (hseed x e 1).2
    · split
      · exact (hseed x e 3).2
      · rfl

theorem sansNoise_of_sansRegs {s t : State} (h : t.sansRegs = s.sansRegs) : t.sansNoise = s.sansNoise := by
  rw [eq_of_sansRegs h]
  rfl

theorem fltEnd_sansNoise (s : State) (src : Nat) : (s.fltEnd src).sansNoise = s.sansNoise := rfl

/-- Groups of the noise generator put in service. -/
def State.grpsStart (s : State) (gs : List Nat) : State :=
  gs.foldl (fun (x : State) g => ((x.wrF (Reg.NRG_GRP g) 31 30 Grp.IN_SERVICE).wrF (Reg.NRG_GRP g) 29 28 0).fltEnd (230 + g)) s

theorem grpsStart_keeps (s : State) (gs : List Nat) :
    (s.grpsStart gs).sansNoise = s.sansNoise ∧ (s.grpsStart gs).rd 0 Reg.RST_STRAP = s.rd 0 Reg.RST_STRAP := by
  constructor
  · refine foldl_keep State.sansNoise _ (fun x g => ?_) gs s
    rw [fltEnd_sansNoise, sansNoise_of_sansRegs (sansRegs_wrF _ _ _ _ _), sansNoise_of_sansRegs (sansRegs_wrF _ _ _ _ _)]
  · refine foldl_keep (fun x : State => x.rd 0 Reg.RST_STRAP) _ (fun x g => ?_) gs s
    have hne : Reg.RST_STRAP ≠ Reg.NRG_GRP g := by simp only [Reg.RST_STRAP, Reg.NRG_GRP]; omega
    exact (rd_wr_pf _ _ _ _ hne).trans (rd_wr_pf _ _ _ _ hne)

theorem nrgStart_shape (s : State) : ∃ (u : State) (gs : List Nat), s.nrgStart = u.askSeeds ∧
    u.sansNoise = (((s.grpsStart gs).wrF Reg.NRG_STAT 1 0 0).wrF Reg.NRG_STAT 15 14 0).sansNoise ∧
    u.regs = (((s.grpsStart gs).wrF Reg.NRG_STAT 1 0 0).wrF Reg.NRG_STAT 15 14 0).regs := by
  unfold State.nrgStart
  generalize (List.range 16).filter (fun g => s.grpSt g != Grp.RETIRED && !s.captured g) = gs
  exact ⟨_, gs, rfl, rfl, rfl⟩

theorem nrgStart_keeps (s : State) : s.nrgStart.sansNoise = s.sansNoise ∧ s.nrgStart.rd 0 Reg.RST_STRAP = s.rd 0 Reg.RST_STRAP := by
  obtain ⟨u, gs, heq, hsame, hregs⟩ := nrgStart_shape s
  obtain ⟨gsame, gstrap⟩ := grpsStart_keeps s gs
  obtain ⟨asame, aregs⟩ := askSeeds_keeps u
  rw [heq]
  rw [sansNoise_of_sansRegs (sansRegs_wrF _ _ _ _ _), sansNoise_of_sansRegs (sansRegs_wrF _ _ _ _ _)] at hsame
  refine ⟨asame.trans (hsame.trans gsame), ?_⟩
  rw [rd_of_regs aregs, rd_of_regs hregs, State.wrF, rd_wr_pf _ _ _ _ (by decide), State.wrF, rd_wr_pf _ _ _ _ (by decide), gstrap]

/-- The reset's end: Kindling starts, the device drives RESET_N no longer, and the strap is that of `u`. -/
structure Exited (s t u : State) : Prop where
  stage : t.boot.stage = .kindling
  resetN : t.pwr.resetN = true
  drive : t.pwr.drive = none
  flash : t.ks.flash = s.ks.flash
  strap : t.rd 0 Reg.RST_STRAP = u.rd 0 Reg.RST_STRAP

/-- RESET_N released, and Kindling begun. -/
def State.released (s u : State) : State :=
  let s2 := if s.wakeReset then u else { u with pwr := { u.pwr with vinAt := s.now } }
  { s2 with pwr := { s2.pwr with resetN := true, drive := none }, boot := { s2.boot with stage := .kindling, since := s.now } }

theorem released_exited (s : State) {u : State} (h : u.ks.flash = s.ks.flash) : Exited s (s.released u) u := by
  unfold State.released
  dsimp only
  split <;> exact ⟨rfl, rfl, rfl, h, rfl⟩

/-- The noise generator starts with Kindling where its domain is powered and the reset is not one of a wake. -/
def State.exited (s u : State) : State :=
  if !s.wakeReset ∧ (s.released u).pwr.powered.contains 137 then (s.released u).nrgStart else s.released u

theorem exited_does (s : State) {u : State} (h : u.ks.flash = s.ks.flash) : Exited s (s.exited u) u := by
  have hbase := released_exited s h
  unfold State.exited
  generalize s.released u = x at hbase ⊢
  split
  · obtain ⟨hsame, hstrap⟩ := nrgStart_keeps x
    exact ⟨(field_of_erased hsame (fun x => x.boot.stage)).trans hbase.stage, (field_of_erased hsame (fun x => x.pwr.resetN)).trans hbase.resetN,
      (field_of_erased hsame (fun x => x.pwr.drive)).trans hbase.drive, (field_of_erased hsame (fun x => x.ks.flash)).trans hbase.flash,
      hstrap.trans hbase.strap⟩
  · exact hbase

theorem exec_resetExit_idle {s : State} {a b c : Nat} (h : s.boot.stage ≠ .inReset) : exec (.resetExit a b c) s = .next s := if_neg h

theorem exec_resetExit_exits {s : State} (a b c : Nat) (h : s.boot.stage = .inReset) : ∃ t, exec (.resetExit a b c) s = .next t ∧
    t.boot.stage = .kindling ∧ t.pwr.resetN = true ∧ t.pwr.drive = none ∧ t.ks.flash = s.ks.flash ∧
      (s.pwr.strapped = false → t.rdF Reg.RST_STRAP 5 0 = median3 a b c % 64) ∧
      (s.pwr.strapped = true → t.rd 0 Reg.RST_STRAP = s.rd 0 Reg.RST_STRAP) := by
  obtain ⟨hsame, hsampled⟩ := sampleStrap_does s a b c
  have hexec : exec (.resetExit a b c) s = .next (s.exited (if s.pwr.strapped then s else s.sampleStrap a b c)) := if_pos h
  cases hs : s.pwr.strapped with
  | false =>
    rw [hs, if_neg Bool.false_ne_true] at hexec
    obtain ⟨hstage, hresetN, hdrive, hflash, hstrap⟩ := exited_does s (u := s.sampleStrap a b c) (field_of_erased hsame (fun x => x.ks.flash))
    refine ⟨_, hexec, hstage, hresetN, hdrive, hflash, fun _ => ?_, nofun⟩
    rw [State.rdF, hstrap]
    exact hsampled
  | true =>
    rw [hs, if_pos rfl] at hexec
    obtain ⟨hstage, hresetN, hdrive, hflash, hstrap⟩ := exited_does s (u := s) rfl
    exact ⟨_, hexec, hstage, hresetN, hdrive, hflash, nofun, fun _ => hstrap⟩

theorem exec_heldOff_idle {s : State} (h : ¬ (s.boot.stage = .inReset ∧ s.pwr.resetN = false)) : exec .heldOff s = .next s := by
  change execHeldOff s = _
  exact if_neg (by simpa using h)

theorem exec_heldOff_gates {s : State} (hstage : s.boot.stage = .inReset) (hlow : s.pwr.resetN = false) : ∃ t, exec .heldOff s = .next t ∧
    t.boot.stage = .heldOff ∧ t.pwr.powered = [] ∧ t.pwr.ramping = [] ∧ t.pwr.queues.flatten = [] ∧ t.rdB Reg.RST_CAUSE 1 = true ∧ t.tx = s.tx ∧
      (s.pwr.vin = true → s.pwr.vioOk = true → t.pad .wakePermitOut = .low ∧ t.pad .resetN = .z) := by
  refine ⟨_, if_pos ⟨hstage, by rw [hlow]; rfl⟩, rfl, rfl, rfl, rfl, rdB_wrB_same _ _ _ _ (by decide), rfl, fun hvin hvio => ?_⟩
  simp [State.pad, hvin, hvio, openDrain]

theorem exec_heldOffRelease_idle {s : State} {a b c : Nat} (h : s.boot.stage ≠ .heldOff) : exec (.heldOffRelease a b c) s = .next s := if_neg h

theorem exec_heldOffRelease_wakes {s : State} (a b c : Nat) (h : s.boot.stage = .heldOff) : ∃ t, exec (.heldOffRelease a b c) s = .next t ∧
    t.boot.stage = .inReset ∧ t.pwr.waking = true ∧ t.pwr.queues = (if s.pwr.thermal then [[164], [], [], []] else wakeQueues) ∧
      t.pwr.resetN = true ∧ t.rdF Reg.RST_STRAP 5 0 = median3 a b c % 64 := by
  obtain ⟨hsame, hsampled⟩ := sampleStrap_does { s.beginWake [1] with pwr := { (s.beginWake [1]).pwr with resetN := true } } a b c
  exact ⟨_, if_pos h, field_of_erased hsame (fun x => x.boot.stage), field_of_erased hsame (fun x => x.pwr.waking),
    field_of_erased hsame (fun x => x.pwr.queues), field_of_erased hsame (fun x => x.pwr.resetN), hsampled⟩

/-! PERST_N and the host link (R59, R294, R306). -/

/-- The edge as the link takes it: the level is low and the link down. -/
def State.perstLow (s : State) : State := { s with pwr := { s.pwr with perstN := false }, link := { s.link with up := false } }

/-- PERST_MODE asks for the narrow reset, which it cannot in HOLD (R294). -/
def State.perstNarrow (s : State) : Bool := s.rdB Reg.RST_CFG 0 && !s.boot.hold

section
variable {s : State}

theorem exec_perstNFall_ignored (hvin : s.pwr.vin = true) (h : ¬ (s.pwr.vin = true ∧ s.pwr.vioOk = true ∧ s.pwr.perstN = true)) :
    exec .perstNFall s = .next s := by
  change execPerstNFall s = _
  have hnot : ¬ (s.pwr.vioOk && s.pwr.perstN) = true := by simpa [hvin] using h
  exact (if_neg (by simp [hvin])).trans (if_neg hnot)

theorem exec_perstNFall_noVin (hvin : s.pwr.vin = false) : exec .perstNFall s = .next { s with pwr := { s.pwr with perstN := false } } := by
  change execPerstNFall s = _
  exact if_pos (by simp [hvin])

section
variable (h : s.pwr.vin = true ∧ s.pwr.vioOk = true ∧ s.pwr.perstN = true)
include h

theorem exec_perstNFall_eq : exec .perstNFall s =
    if s.boot.stage = .kindlingMbx then
      .next (if s.perstNarrow then (s.perstLow.wrB Reg.RST_CAUSE 2 true).wrF Reg.RST_LAST 3 0 2 else s.perstLow.kindlingAgain)
    else if s.boot.stage = .firmware ∨ s.boot.stage = .ready then
      .next (if s.perstNarrow then s.perstLow.hioReset [2] else s.perstLow.fullReset [2])
    else .next s.perstLow := by
  obtain ⟨hvin, hvio, hhigh⟩ := h
  have hmode : (s.boot.hold || !s.perstLow.rdB Reg.RST_CFG 0) = !s.perstNarrow := by
    change (s.boot.hold || !s.rdB Reg.RST_CFG 0) = !(s.rdB Reg.RST_CFG 0 && !s.boot.hold)
    cases s.boot.hold <;> cases s.rdB Reg.RST_CFG 0 <;> rfl
  change execPerstNFall s = _
  refine (if_neg (by simp [hvin])).trans ((if_pos (by simp [hvio, hhigh])).trans ?_)
  change (if s.boot.stage = .kindlingMbx then Host.Outcome.next (if (s.boot.hold || !s.perstLow.rdB Reg.RST_CFG 0) = true then _ else _)
    else if s.boot.stage = .firmware ∨ s.boot.stage = .ready then
      .next (if (s.boot.hold || !s.perstLow.rdB Reg.RST_CFG 0) = true then s.perstLow.fullReset [2] else s.perstLow.hioReset [2])
    else .next s.perstLow) = _
  rw [hmode]
  cases s.perstNarrow <;> rfl

theorem exec_perstNFall_running (hstage : s.boot.stage = .firmware ∨ s.boot.stage = .ready) : exec .perstNFall s =
    .next (if s.perstNarrow then s.perstLow.hioReset [2] else s.perstLow.fullReset [2]) := by
  rw [exec_perstNFall_eq h, if_neg (by obtain hs | hs := hstage <;> rw [hs] <;> decide), if_pos hstage]

theorem exec_perstNFall_mailbox (hstage : s.boot.stage = .kindlingMbx) : exec .perstNFall s =
    .next (if s.perstNarrow then (s.perstLow.wrB Reg.RST_CAUSE 2 true).wrF Reg.RST_LAST 3 0 2 else s.perstLow.kindlingAgain) := by
  rw [exec_perstNFall_eq h, if_pos hstage]

theorem exec_perstNFall_before (hmbx : s.boot.stage ≠ .kindlingMbx) (hrun : ¬ (s.boot.stage = .firmware ∨ s.boot.stage = .ready)) :
    exec .perstNFall s = .next s.perstLow := by
  rw [exec_perstNFall_eq h, if_neg hmbx, if_neg hrun]

end

/-- What the resets do is said of the state before the edge as well. -/
theorem FullDone.of_perstLow {t : State} {c : Nat} (h : FullDone s.perstLow t c) : FullDone s t c := { h with }

theorem rdB_perstNoted (s : State) : ((s.wrB Reg.RST_CAUSE 2 true).wrF Reg.RST_LAST 3 0 2).rdB Reg.RST_CAUSE 2 = true := by
  rw [rdB_wrF_other _ _ _ _ _ _ _ (by decide), rdB_wrB_same _ _ _ _ (by decide)]

theorem kindlingAgain_does (s : State) : s.kindlingAgain.rdB Reg.RST_CAUSE 2 = true ∧ s.kindlingAgain.boot.stage = .kindling ∧
    s.kindlingAgain.mbx = [] ∧ s.kindlingAgain.pwr = s.pwr ∧ s.kindlingAgain.link = s.link := by
  have hregs : s.kindlingAgain.regs = ((s.wrB Reg.RST_CAUSE 2 true).wrF Reg.RST_LAST 3 0 2).regs := rfl
  refine ⟨?_, rfl, rfl, rfl, rfl⟩
  rw [State.rdB, rd_of_regs hregs]
  exact rdB_perstNoted s

/-- What the edge does under PERST_MODE, by the boot's stage. -/
theorem exec_perstNFall_edge (h : s.pwr.vin = true ∧ s.pwr.vioOk = true ∧ s.pwr.perstN = true) : ∃ t, exec .perstNFall s = .next t ∧
    t.pwr.perstN = false ∧ t.link.up = false ∧
    (s.boot.stage = .firmware ∨ s.boot.stage = .ready → (s.perstNarrow = false → FullDone s t 2) ∧ (s.perstNarrow = true → HioDone s.perstLow t 2)) ∧
    (s.boot.stage = .kindlingMbx → t.rdB Reg.RST_CAUSE 2 = true ∧ (s.perstNarrow = false → t.boot.stage = .kindling ∧ t.mbx = []) ∧
      (s.perstNarrow = true → t.boot = s.boot ∧ t.mbx = s.mbx)) ∧
    (s.boot.stage ∈ [Stage.off, .inReset, .heldOff, .kindling] → t.boot = s.boot ∧ t.regs = s.regs) := by
  by_cases hrun : s.boot.stage = .firmware ∨ s.boot.stage = .ready
  · have hmbx : s.boot.stage ≠ .kindlingMbx := by obtain hs | hs := hrun <;> rw [hs] <;> decide
    have hlate : s.boot.stage ∉ [Stage.off, .inReset, .heldOff, .kindling] := by obtain hs | hs := hrun <;> rw [hs] <;> decide
    have hruns : s.perstLow.boot.stage.runs := by
      change s.boot.stage ∉ [Stage.inReset, .heldOff, .off]
      obtain hs | hs := hrun <;> rw [hs] <;> decide
    have hexec := exec_perstNFall_running h hrun
    cases hmode : s.perstNarrow with
    | false =>
      obtain ⟨hdone, -, hperst⟩ := fullReset_done hruns (c := 2) (by decide)
      rw [hmode] at hexec
      exact ⟨_, hexec, hperst, hdone.up, fun _ => ⟨fun _ => hdone.of_perstLow, nofun⟩, fun hs => absurd hs hmbx, fun hs => absurd hs hlate⟩
    | true =>
      have hdone := hioReset_done s.perstLow (c := 2) (by decide)
      rw [hmode] at hexec
      exact ⟨_, hexec, congrArg Power.perstN hdone.pwr, hdone.up, fun _ => ⟨nofun, fun _ => hdone⟩, fun hs => absurd hs hmbx,
        fun hs => absurd hs hlate⟩
  by_cases hmbx : s.boot.stage = .kindlingMbx
  · have hlate : s.boot.stage ∉ [Stage.off, .inReset, .heldOff, .kindling] := by rw [hmbx]; decide
    have hexec := exec_perstNFall_mailbox h hmbx
    cases hmode : s.perstNarrow with
    | false =>
      obtain ⟨hcause, hstage, hreqs, hpwr, hlink⟩ := kindlingAgain_does s.perstLow
      rw [hmode] at hexec
      exact ⟨_, hexec, congrArg Power.perstN hpwr, congrArg Link.up hlink, fun hs => absurd hs hrun,
        fun _ => ⟨hcause, fun _ => ⟨hstage, hreqs⟩, nofun⟩, fun hs => absurd hs hlate⟩
    | true =>
      rw [hmode] at hexec
      exact ⟨_, hexec, rfl, rfl, fun hs => absurd hs hrun,
        fun _ => ⟨rdB_perstNoted s.perstLow, nofun, fun _ => ⟨rfl, rfl⟩⟩, fun hs => absurd hs hlate⟩
  · exact ⟨_, exec_perstNFall_before h hmbx hrun, rfl, rfl, fun hs => absurd hs hrun, fun hs => absurd hs hmbx, fun _ => ⟨rfl, rfl⟩⟩

theorem exec_pcieLinkUp_iff : let trains := s.pwr.perstN = true ∧ s.pwr.vin = true ∧ 154 ∈ s.pwr.powered ∧ s.hearthRuns = true
    (¬ trains → exec .pcieLinkUp s = .next s) ∧ (trains → exec .pcieLinkUp s = .next { s with link := { s.link with up := true } }) := by
  have hcond : (s.pwr.perstN = true ∧ s.pwr.vin = true ∧ s.pwr.powered.contains 154 = true ∧ s.hearthRuns = true) ↔
      (s.pwr.perstN = true ∧ s.pwr.vin = true ∧ 154 ∈ s.pwr.powered ∧ s.hearthRuns = true) := by rw [List.contains_iff_mem]
  exact ⟨fun h => if_neg (fun k => h (hcond.mp k)), fun h => if_pos (hcond.mpr h)⟩

theorem linkReset_idle {c : Nat} (h : s.link.up = false) : s.linkReset c = s := if_neg (by simp [h])

theorem linkReset_does {c : Nat} (hc : c ≤ 15) (h : s.link.up = true) : HioDone { s with link := { s.link with up := false } } (s.linkReset c) c := by
  have heq : s.linkReset c = { s.hioReset [c] with link := { (s.hioReset [c]).link with up := false } } := if_pos h
  have hdone := hioReset_done s hc
  rw [heq]
  generalize s.hioReset [c] = u at hdone ⊢
  exact { hdone with up := rfl }

end

/-! Software resets (R291, R295). -/

section
variable {s : State} {v : Word}

theorem rstCtrl_ignored (h : fld v 31 16 ≠ 0x7144 ∨ s.hearthRuns = false ∨ (bitAt v 0 = false ∧ bitAt v 1 = false)) : s.rstCtrl v = s := by
  by_cases hkey : fld v 31 16 = 0x7144 ∧ s.hearthRuns = true
  · obtain ⟨h0, h1⟩ := (h.resolve_left (fun h => h hkey.1)).resolve_left (by simp [hkey.2])
    exact (if_pos hkey).trans ((if_neg (by simp [h0])).trans (if_neg (by simp [h1])))
  · exact if_neg hkey

theorem rstCtrl_full (hkey : fld v 31 16 = 0x7144) (hrun : s.hearthRuns = true) (h0 : bitAt v 0 = true) : s.rstCtrl v =
    { s with pwr := { s.pwr with swReset := some (s.pwr.swReset.getD 7), swAt := if s.pwr.swReset.isSome then s.pwr.swAt else s.now } } :=
  (if_pos ⟨hkey, hrun⟩).trans (if_pos h0)

theorem rstCtrl_hio (hkey : fld v 31 16 = 0x7144) (hrun : s.hearthRuns = true) (h0 : bitAt v 0 = false) (h1 : bitAt v 1 = true) :
    s.rstCtrl v = s.hioReset [7] :=
  (if_pos ⟨hkey, hrun⟩).trans ((if_neg (by simp [h0])).trans (if_pos h1))

/-- Both rows write the register (R291). -/
theorem exec_rstCtrl {i : Instr} (h : i ∈ [Instr.rstCtrlFull v, .rstCtrlHio v]) : exec i s = .next (s.rstCtrl v) := by
  simp only [List.mem_cons, List.not_mem_nil, or_false] at h
  obtain rfl | rfl := h <;> rfl

theorem exec_softwareResetStart_none (h : s.pwr.swReset = none) : exec .softwareResetStart s = .next s := by
  change execSoftwareResetStart s = _
  rw [execSoftwareResetStart, h]

theorem exec_softwareResetStart_some {c : Nat} (h : s.pwr.swReset = some c) : exec .softwareResetStart s =
    if s.mbx.any (fun r => r.2.commit) ∧ s.now < s.pwr.swAt + 2 * 10 ^ 8 then .next s else .next (s.fullReset [c]) := by
  change execSoftwareResetStart s = _
  rw [execSoftwareResetStart, h]

end

/-! Errors on the host link (R59). -/

section
variable {s : State}

/-- A pair that takes an error drops its commands (R84). -/
theorem qpError_does (s : State) (fn q cause : Nat) : let t := s.qpError fn q cause
    (t.qp fn q).state = .error ∧ (t.qp fn q).err = cause ∧ bitAt (t.rd 0 (Reg.CMD_QPERR (fn / 32))) (fn % 32) = true ∧
      ∀ id c, mget t.cmds id = some c → ¬ (c.fn = fn ∧ c.qp = q) := by
  intro t
  have hqp : t.qp fn q = { (s.dropCmds (fun c => c.fn == fn && c.qp == q)).qp fn q with
      state := .error, err := cause, waiting := [], pendCnt := 0, chain := none, chainRes := none } := by
    rw [State.qp]
    exact congrArg (fun p => Option.getD p QPair.off) (mget_mput_same _ _ _)
  refine ⟨by rw [hqp], by rw [hqp], rdB_wrB_same _ _ _ _ (Nat.mod_lt _ (by decide)), fun id c hc => ?_⟩
  simpa using dropCmds_gone hc

theorem exec_linkFail_descriptor {fn q : Nat} : exec (.linkReadFail (.descriptor fn q)) s =
    .next (if s.qpOpen fn q then (s.aerReport fn).qpError fn q 6 else s) := rfl

theorem exec_linkFail_completion {fn q : Nat} : exec (.linkWriteFail (.completion fn q)) s =
    .next (if s.qpOpen fn q then s.qpError fn q 7 else s) := rfl

section
variable {id : Nat} {c : Cmd} (hc : mget s.cmds id = some c)
include hc

theorem exec_linkFail_waiting (h : c.phase = .held ∨ c.phase = .waitCq) :
    exec (.linkReadFail (.command id)) s = .next s ∧ exec (.linkWriteFail (.output id)) s = .next s := by
  obtain h | h := h
  all_goals
    exact ⟨congrArg Host.Outcome.next (show s.readFail id = s by simp only [State.readFail, hc, h]),
      congrArg Host.Outcome.next (show s.outputFail id = s by simp only [State.outputFail, hc, h])⟩

theorem exec_linkReadFail_started (h : c.phase = .started) (hop : absorbs c.op = false) :
    exec (.linkReadFail (.command id)) s = .next ((s.aerReport c.fn).complete id (.aborted 1)) := by
  refine congrArg Host.Outcome.next (show s.readFail id = _ from ?_)
  simp only [State.readFail, hc, h, hop, Bool.false_eq_true, if_false]

theorem exec_linkReadFail_running (h : c.phase = .running) (hop : absorbs c.op = false) :
    exec (.linkReadFail (.command id)) s = .next ((s.aerReport c.fn).complete id (.abortedLate 1)) := by
  refine congrArg Host.Outcome.next (show s.readFail id = _ from ?_)
  simp only [State.readFail, hc, h, hop, Bool.false_eq_true, if_false]

theorem exec_linkReadFail_noRestore (h : c.phase ≠ .waitSlot) : exec (.linkReadFail (.restore id)) s = .next s := by
  refine congrArg Host.Outcome.next (show s.restoreFail id = _ from ?_)
  simp only [State.restoreFail, hc, if_neg h]

theorem exec_linkReadFail_restore (h : c.phase = .waitSlot) : exec (.linkReadFail (.restore id)) s =
    .next ((((s.aerReport 0).spoil c.fn c.ctx).incF Reg.DGE_SPILL_ERR 31 16 1).complete id (.abortedLate 1)) := by
  refine congrArg Host.Outcome.next (show s.restoreFail id = _ from ?_)
  simp only [State.restoreFail, hc, if_pos h]

theorem exec_linkWriteFail_output (h : c.phase = .running) (hout : c.outMap ≠ []) :
    exec (.linkWriteFail (.output id)) s = .next ((s.aerReport c.fn).complete id (.abortedLate 6)) := by
  refine congrArg Host.Outcome.next (show s.outputFail id = _ from ?_)
  simp only [State.outputFail, hc, h]
  exact if_neg (by simpa using hout)

theorem exec_linkWriteFail_results : exec (.linkWriteFail (.results id)) s =
    .next (if c.phase = .batch ∧ s.qpOpen c.fn c.qp = true then s.qpError c.fn c.qp 7 else s) := by
  change execLinkWriteFail (.results id) s = _
  simp only [execLinkWriteFail, hc]

end

theorem exec_linkFail_gone {id : Nat} (hc : mget s.cmds id = none) : ∀ i ∈ [Instr.linkReadFail (.command id), .linkReadFail (.restore id),
    .linkWriteFail (.output id), .linkWriteFail (.results id)], exec i s = .next s := by
  intro i hi
  simp only [List.mem_cons, List.not_mem_nil, or_false] at hi
  obtain rfl | rfl | rfl | rfl := hi
  · exact congrArg Host.Outcome.next (show s.readFail id = s by simp only [State.readFail, hc])
  · exact congrArg Host.Outcome.next (show s.restoreFail id = s by simp only [State.restoreFail, hc])
  · exact congrArg Host.Outcome.next (show s.outputFail id = s by simp only [State.outputFail, hc])
  · change execLinkWriteFail (.results id) s = _
    simp only [execLinkWriteFail, hc]

section
variable {fn ch : Nat}

theorem exec_linkFail_noRequest (h : mget s.mbx (mbxKey fn ch) = none) :
    exec (.linkReadFail (.mailbox fn ch)) s = .next s ∧ exec (.linkWriteFail (.mailbox fn ch)) s = .next s := by
  constructor
  · change execLinkReadFail (.mailbox fn ch) s = _
    simp only [execLinkReadFail, h]
  · exact congrArg Host.Outcome.next (if_pos (by rw [h]; rfl))

theorem exec_linkReadFail_request {r : MbxReq} (h : mget s.mbx (mbxKey fn ch) = some r) : exec (.linkReadFail (.mailbox fn ch)) s =
    .next (if r.started then s else (s.aerReport fn).mbxEnd (mbxKey fn ch) (.aborted 1)) := by
  change execLinkReadFail (.mailbox fn ch) s = _
  simp only [execLinkReadFail, h]

theorem exec_linkWriteFail_response {r : MbxReq} (h : mget s.mbx (mbxKey fn ch) = some r) : ∃ t, exec (.linkWriteFail (.mailbox fn ch)) s = .next t ∧
    mget t.mbx (mbxKey fn ch) = some { r with noBuf := true } ∧ t = { s.aerReport fn with mbx := t.mbx } :=
  ⟨_, congrArg Host.Outcome.next (if_neg (by rw [h]; exact Bool.false_ne_true)),
    mget_mmod_of_mget (fun r => { r with noBuf := true }) h, rfl⟩

end

end

theorem absorbs_false {op : Nat} (h : op ∉ [0x0C11, 0x0C12, 0x0C13]) : absorbs op = false := by simpa [absorbs, and_assoc] using h

/-- Settles O51, from the two resets and the laws of their sources above. -/
theorem resetsAndLink : Obligations.ResetsAndLink := by
  intro s runs full hio
  have hfull : ∀ {t c}, FullDone s t c → full t c := fun h => ⟨h.stage, h.cmds, h.qps, h.mbx, h.outcomes, h.objs, h.ctxs, h.flash, h.slots,
    h.session, h.sls, h.up, h.cause, h.last, h.entry⟩
  have hhio : ∀ {u t c}, HioDone u t c → u.boot = s.boot → u.ks = s.ks → u.pwr.powered = s.pwr.powered → u.lc = s.lc → u.regs = s.regs →
      hio t c := fun {u t c} h hboot hks hpwr hlc hregs => by
    obtain ⟨hstage, hcmds, hqps, hctxs, hobjs, hdsk, hfw, hp, hl, hsealed, hcause, -⟩ := h
    have hseal : u.sealState = s.sealState := by rw [State.sealState, State.rdF, rd_of_regs hregs]; rfl
    rw [hboot] at hstage hfw
    rw [hks] at hobjs hdsk
    exact ⟨hstage, hcmds, hqps, hctxs, hobjs, hdsk, hfw, (congrArg Power.powered hp).trans hpwr, hl.trans hlc, hsealed.trans hseal, hcause⟩
  refine ⟨exec_resetNAssert_ignored, ?resetN, fun a b c => ⟨exec_resetExit_idle, exec_resetExit_exits a b c⟩, exec_heldOff_idle,
    exec_heldOff_gates, fun a b c => ⟨exec_heldOffRelease_idle, exec_heldOffRelease_wakes a b c⟩,
    ⟨exec_perstNFall_ignored, exec_perstNFall_noVin, ?perst, rfl⟩, exec_pcieLinkUp_iff, ?link, ?rstCtrl, exec_softwareResetStart_none, ?software,
    ?pair, ?command, ?mailbox⟩
  case resetN =>
    intro hvin hvio
    obtain ⟨t, hexec, hlow, hcause, hdone, hjoin⟩ := exec_resetNAssert_resets hvin hvio
    exact ⟨t, hexec, hlow, hcause, fun h => hfull (hdone h), hjoin⟩
  case perst =>
    intro hedge
    obtain ⟨t, hexec, hlow, hup, hrun, hmbx, hbefore⟩ := exec_perstNFall_edge hedge
    exact ⟨t, hexec, hlow, hup, fun h => ⟨fun hm => hfull ((hrun h).1 hm), fun hm => hhio ((hrun h).2 hm) rfl rfl rfl rfl rfl⟩, hmbx, hbefore⟩
  case link =>
    intro i c hi
    have hexec : exec i s = .next (s.linkReset c) ∧ c ≤ 15 := by
      simp only [List.mem_cons, List.not_mem_nil, or_false, Prod.mk.injEq] at hi
      obtain ⟨rfl, rfl⟩ | ⟨rfl, rfl⟩ := hi
      · exact ⟨rfl, by decide⟩
      · exact ⟨rfl, by decide⟩
    refine ⟨fun h => hexec.1.trans (congrArg _ (linkReset_idle h)), fun h => ?_⟩
    have hdone := linkReset_does hexec.2 h
    exact ⟨_, hexec.1, hhio hdone rfl rfl rfl rfl rfl, hdone.up⟩
  case rstCtrl =>
    intro v i hi
    rw [exec_rstCtrl hi]
    refine ⟨fun h => by rw [rstCtrl_ignored h], fun hkey hrun h0 => by rw [rstCtrl_full hkey hrun h0], fun hkey hrun h0 h1 => ?_⟩
    rw [rstCtrl_hio hkey hrun h0 h1]
    exact ⟨_, rfl, hhio (hioReset_done s (by decide)) rfl rfl rfl rfl rfl⟩
  case software =>
    intro waits c hc hsome
    have hwaits : (s.mbx.any (fun r => r.2.commit) = true ∧ s.now < s.pwr.swAt + 2 * 10 ^ 8) ↔ waits := and_congr_left' List.any_eq_true
    rw [exec_softwareResetStart_some hsome]
    refine ⟨fun h => if_pos (hwaits.mpr h), fun h hrun => ?_⟩
    obtain ⟨hdone, hsw, -⟩ := fullReset_done (s := s) hrun (c := c) (by omega)
    exact ⟨_, if_neg (fun k => h (hwaits.mp k)), hfull hdone, hsw⟩
  case pair =>
    intro fn q i e hi
    simp only [List.mem_cons, List.not_mem_nil, or_false, Prod.mk.injEq] at hi
    obtain ⟨rfl, rfl⟩ | ⟨rfl, rfl⟩ := hi
    · rw [exec_linkFail_descriptor]
      exact ⟨fun h => by rw [h]; rfl, fun h => ⟨_, by rw [h]; rfl, qpError_does _ fn q 6⟩⟩
    · rw [exec_linkFail_completion]
      exact ⟨fun h => by rw [h]; rfl, fun h => ⟨_, by rw [h]; rfl, qpError_does _ fn q 7⟩⟩
  case command =>
    refine fun id => ⟨exec_linkFail_gone, fun c hc => ⟨exec_linkFail_waiting hc, fun h hop => exec_linkReadFail_started hc h (absorbs_false hop),
      fun h hop => exec_linkReadFail_running hc h (absorbs_false hop), exec_linkReadFail_noRestore hc, exec_linkReadFail_restore hc,
      exec_linkWriteFail_output hc, fun h => ?_, fun h hopen => ?_⟩⟩
    · rw [exec_linkWriteFail_results hc, if_neg (fun k => h k.1)]
    · obtain ⟨hstate, herr, -⟩ := qpError_does s c.fn c.qp 7
      exact ⟨_, by rw [exec_linkWriteFail_results hc, if_pos ⟨h, hopen⟩], hstate, herr⟩
  case mailbox =>
    refine fun fn ch => ⟨exec_linkFail_noRequest, fun r hr => ⟨fun h => ?_, fun h => ?_, exec_linkWriteFail_response hr⟩⟩
    · rw [exec_linkReadFail_request hr, if_pos h]
    · rw [exec_linkReadFail_request hr, if_neg (by simp [h])]

end Sys2Proof.Machine
end

section
/-!
SUPPORT. Ends of commands (spec file 03): what a command that ends leaves on the engines, the entry written for it, and what an end leaves of
the in-flight table.
-/
namespace Sys2Proof.Machine
open Sys2Proof

/-! Queue pairs. -/

@[simp] theorem qp_setQp_same (s : State) (fn q : Nat) (p : QPair) : (s.setQp fn q p).qp fn q = p := by
  rw [State.qp, State.setQp_qps, mget_mput_same]
  rfl

theorem qp_of_qps {s t : State} (h : t.qps = s.qps) (fn q : Nat) : t.qp fn q = s.qp fn q := by rw [State.qp, h, State.qp]

@[simp] theorem qp_msix (s : State) (a b fn q : Nat) : (s.msix a b).qp fn q = s.qp fn q := qp_of_qps (State.msix_qps s a b) fn q

/-! What a message adds to what is sent (R60, R109). -/

theorem msix_tx (s : State) (fn vec : Nat) : ∃ m, (s.msix fn vec).tx = s.tx ++ m ∧ (m = [] ∨ m = [.msix fn vec]) := by
  unfold State.msix
  split
  · exact ⟨[], by simp⟩
  · split
    · exact ⟨[], by simp⟩
    · exact ⟨_, rfl, .inr rfl⟩

theorem msix_masked {s : State} {fn vec : Nat} (hf : s.fenced fn = false) (hm : s.vecMasked fn vec = true) :
    (s.msix fn vec).tx = s.tx ∧ fn * 65536 + vec ∈ (s.msix fn vec).link.pba := by simp [State.msix, hf, hm]

/-- A function with an open pair is fenced by no reset and no quiesce. -/
theorem fenced_of_qpOpen {s : State} {fn q : Nat} (h : s.qpOpen fn q = true) : s.fenced fn = false := by
  unfold State.fenced
  cases hf : mget s.fns fn with
  | none => rfl
  | some f =>
    simp only [State.qpOpen, State.fnActive, fn_of_fns hf, Bool.and_eq_true, Bool.not_eq_true'] at h
    obtain ⟨⟨-, ⟨-, hquiescing⟩, hquiesced⟩, -⟩ := h
    simp [hquiescing, hquiesced]

/-! Completions that count as pending (R109). -/

/-- The pair after a completion is counted: what is pending, and the configuration in force from now on. -/
def QPair.counted (p : QPair) (n since : Nat) : QPair := { p with pendCnt := n, pendSince := since, irqCfg := p.cfg }

/-- Counting changes the pending fields of the pair, and may send its message. -/
theorem countIrq_does (s : State) (fn q : Nat) (irq : Bool) : let t := s.countIrq fn q irq
    t.cmds = s.cmds ∧ t.nextCmd = s.nextCmd ∧ (∃ n since, t.qp fn q = (s.qp fn q).counted n since) ∧
      ∃ m, t.tx = s.tx ++ m ∧ (m = [] ∨ m = [.msix fn (fld (s.qp fn q).cfg 13 8)]) := by
  simp only [State.countIrq]
  split
  · obtain ⟨m, hm, hcases⟩ := msix_tx (s.setQp fn q { s.qp fn q with pendCnt := 0, irqCfg := (s.qp fn q).cfg }) fn (fld (s.qp fn q).cfg 13 8)
    exact ⟨by simp, by simp, ⟨0, (s.qp fn q).pendSince, by simp [QPair.counted]⟩, m, hm, hcases⟩
  · exact ⟨rfl, rfl, ⟨_, _, qp_setQp_same _ _ _ _⟩, [], by simp, .inl rfl⟩

/-! Entries of the CQ (R100, R101). -/

/-- Flag bits 1 and 2 of a completion: whether there is a verdict, and which. -/
def verdictBits : Option Bool → Nat
  | some v => 2 + 4 * b2n v
  | none => 0

theorem flags_byte (verdict : Option Bool) (replayed phase : Bool) :
    BitVec.ofNat 8 (verdictBits verdict + 8 * b2n replayed) ||| BitVec.ofNat 8 (b2n phase) =
      BitVec.ofNat 8 (b2n phase + verdictBits verdict + 8 * b2n replayed) := by
  revert verdict replayed phase
  decide

theorem natLE_two (v : Nat) : natLE 2 v = [BitVec.ofNat 8 v, BitVec.ofNat 8 (v / 256)] := rfl

theorem mkEntry_eq (tag q : Nat) (d : Done) (replayed : Bool) (time : Word) : mkEntry tag q d replayed time =
    natLE 2 tag ++ natLE 2 q ++ [BitVec.ofNat 8 d.status, BitVec.ofNat 8 (verdictBits d.verdict + 8 * b2n replayed)] ++ zeros 2 ++ natLE 4 d.bytes ++
      natLE 4 time.toNat ++ fixLen 16 d.inline := rfl

/-- The 32 bytes of an entry as it is written. -/
theorem stampEntry_mkEntry (tag q : Nat) (d : Done) (replayed : Bool) (time : Word) (phase : Bool) (head : Nat) (h : d.inline.length ≤ 16) :
    stampEntry (mkEntry tag q d replayed time) phase head =
      natLE 2 tag ++ natLE 2 q ++ [BitVec.ofNat 8 d.status, BitVec.ofNat 8 (b2n phase + verdictBits d.verdict + 8 * b2n replayed)] ++
        natLE 2 head ++ natLE 4 d.bytes ++ natLE 4 time.toNat ++ d.inline ++ List.replicate (16 - d.inline.length) 0 := by
  rw [← flags_byte, mkEntry_eq]
  simp [stampEntry, natLE_two, zeros, fixLen, List.take_of_length_le h]

theorem stampEntry_length {e : List Byte} (phase : Bool) (head : Nat) (h : e.length = 32) : (stampEntry e phase head).length = 32 := by
  simp [stampEntry, h]

theorem stampEntry_ne_nil (e : List Byte) (phase : Bool) (head : Nat) : (stampEntry e phase head).isEmpty = false := by
  simp [stampEntry, natLE_two]

/-! Successors in a chain (R104). -/

/-- A command that sees how its predecessor ended. -/
def Cmd.told (id : Nat) (ok : Bool) (c : Cmd) : Cmd := if c.pred = some id then { c with predRes := some ok } else c

theorem tellSuccessors_eq (id : Nat) (ok : Bool) (m : List (Nat × Cmd)) : tellSuccessors id ok m = m.map (fun x => (x.1, x.2.told id ok)) := by
  refine List.map_congr_left (fun x _ => ?_)
  unfold Cmd.told
  split <;> rfl

/-- The entries beside the one that is freed are still there. -/
theorem isSome_freed {id j : Nat} (h : j ≠ id) (ok : Bool) (m : List (Nat × Cmd)) :
    (mget (mdel (tellSuccessors id ok m) id) j).isSome = (mget m j).isSome := by
  rw [mget_mdel_other _ _ _ h, tellSuccessors_eq, mget_map_snd, Option.isSome_map]

/-! Writing an entry (R90, R91). -/

/-- The pair after an entry is written: tail and phase bit, and what fences and chains look at. -/
def QPair.wrote (p : QPair) (id : Nat) (ok : Bool) : QPair :=
  let t := (p.cqTail + 1) % p.cqLen
  { p with
    cqTail := t
    phase := if t = 0 then !p.phase else p.phase
    chainRes := if p.chain = some id then some ok else p.chainRes
    firstFail := if ok then p.firstFail else some (match p.firstFail with | some f => Nat.min f id | none => id) }

/-- The state with the entry at the tail and the in-flight entry freed, before the completion is counted. -/
def State.entryWritten (s : State) (fn q id : Nat) (entry : List Byte) (ok : Bool) : State :=
  let p := s.qp fn q
  { (s.memWrite fn (p.cqSlot p.cqTail) (stampEntry entry p.phase p.head) false).setQp fn q (p.wrote id ok) with
    cmds := mdel (tellSuccessors id ok s.cmds) id }

theorem writeCq_eq (s : State) (fn q id : Nat) (entry : List Byte) (irq ok : Bool) :
    s.writeCq fn q id entry irq ok = (s.entryWritten fn q id entry ok).countIrq fn q irq := by
  simp only [State.writeCq, State.memWrite_cmds]
  rfl

theorem entryWritten_does (s : State) (fn q id : Nat) (entry : List Byte) (ok : Bool) : let p := s.qp fn q
    let t := s.entryWritten fn q id entry ok
    t.cmds = mdel (tellSuccessors id ok s.cmds) id ∧ t.nextCmd = s.nextCmd ∧ t.qp fn q = p.wrote id ok ∧
      t.tx = s.tx ++ [.mem fn (p.cqSlot p.cqTail) (stampEntry entry p.phase p.head) false] :=
  ⟨rfl, State.memWrite_nextCmd _ _ _ _ _, qp_setQp_same _ fn q _, (State.memWrite_tx _ _ _ _ _).trans (by simp [stampEntry_ne_nil])⟩

theorem writeCq_does (s : State) (fn q id : Nat) (entry : List Byte) (irq ok : Bool) : let p := s.qp fn q
    let t := s.writeCq fn q id entry irq ok
    t.cmds = mdel (tellSuccessors id ok s.cmds) id ∧ t.nextCmd = s.nextCmd ∧ (∃ n since, t.qp fn q = (p.wrote id ok).counted n since) ∧
      ∃ m, t.tx = s.tx ++ .mem fn (p.cqSlot p.cqTail) (stampEntry entry p.phase p.head) false :: m ∧ (m = [] ∨ m = [.msix fn (fld p.cfg 13 8)]) := by
  intro p t
  obtain ⟨wcmds, wnext, wqp, wtx⟩ := entryWritten_does s fn q id entry ok
  obtain ⟨hcmds, hnext, ⟨n, since, hqp⟩, m, htx, hm⟩ := countIrq_does (s.entryWritten fn q id entry ok) fn q irq
  rw [← writeCq_eq] at hcmds hnext hqp htx
  rw [wqp] at hqp hm
  refine ⟨hcmds.trans wcmds, hnext.trans wnext, ⟨n, since, hqp⟩, m, htx.trans ?_, hm⟩
  rw [wtx, List.append_assoc, List.singleton_append]

/-! The end of a command outside a batch (R90). -/

section
variable {s : State} {id : Nat}

theorem completeTop_isSome {j : Nat} (h : j ≠ id) (s : State) (c : Cmd) (entry : List Byte) (ok : Bool) :
    (mget (s.completeTop id c entry ok).cmds j).isSome = (mget s.cmds j).isSome := by
  simp only [State.completeTop]
  split
  · split
    · rw [State.setQp_cmds, mget_mput_other _ _ _ _ h]
    · rw [(writeCq_does s c.fn c.qp id entry _ ok).1, isSome_freed h]
  · exact congrArg Option.isSome (mget_mdel_other _ _ _ h)

theorem completeTop_nextCmd (s : State) (id : Nat) (c : Cmd) (entry : List Byte) (ok : Bool) : (s.completeTop id c entry ok).nextCmd = s.nextCmd := by
  simp only [State.completeTop]
  split
  · split
    · rfl
    · exact (writeCq_does s c.fn c.qp id entry _ ok).2.1
  · rfl

theorem completeTop_room {c : Cmd} (entry : List Byte) (ok : Bool) (hactive : (s.qp c.fn c.qp).state = .active)
    (hroom : ((s.qp c.fn c.qp).cqTail + 1) % (s.qp c.fn c.qp).cqLen ≠ (s.qp c.fn c.qp).cqHead) (hnone : (s.qp c.fn c.qp).waiting = []) :
    s.completeTop id c entry ok = s.writeCq c.fn c.qp id entry (c.flag 1 || !ok) ok := by
  simp [State.completeTop, hactive, QPair.cqFull, hroom, hnone]

theorem completeTop_full {c : Cmd} (entry : List Byte) (ok : Bool) (hactive : (s.qp c.fn c.qp).state = .active)
    (hfull : ((s.qp c.fn c.qp).cqTail + 1) % (s.qp c.fn c.qp).cqLen = (s.qp c.fn c.qp).cqHead) :
    s.completeTop id c entry ok = (s.setCmd id { c with phase := .waitCq, legs := [], chunk := [] }).setQp c.fn c.qp
      { s.qp c.fn c.qp with waiting := (s.qp c.fn c.qp).waiting ++ [WaitEntry.mk id entry (c.flag 1 || !ok) ok] } := by
  simp [State.completeTop, hactive, QPair.cqFull, hfull]
  rfl

/-! The end of a member (R107). -/

theorem writeOut_keeps (s : State) (c : Cmd) (off : Nat) (data : List Byte) (relaxed : Bool) :
    (s.writeOut c off data relaxed).cmds = s.cmds ∧ (s.writeOut c off data relaxed).nextCmd = s.nextCmd :=
  ⟨foldl_keep State.cmds _ (fun _ _ => State.memWrite_cmds _ _ _ _ _) _ s, foldl_keep State.nextCmd _ (fun _ _ => State.memWrite_nextCmd _ _ _ _ _) _ s⟩

theorem summary_nextCmd (s : State) (bid : Nat) (b : Batch) : (s.summary bid b).nextCmd = s.nextCmd := by
  unfold State.summary
  split
  · rfl
  · exact completeTop_nextCmd _ _ _ _ _

/-- A summary takes the batch's own entry alone. -/
theorem summary_none {j : Nat} (bid : Nat) (b : Batch) (h : mget s.cmds j = none) : mget (s.summary bid b).cmds j = none := by
  unfold State.summary
  split
  · exact h
  · rename_i c hc
    have hne : j ≠ bid := by
      rintro rfl
      simp [h] at hc
    rw [← Option.isNone_iff_eq_none, ← Option.not_isSome, completeTop_isSome hne]
    simp [h]

theorem memberDone_nextCmd (s : State) (bid i tag : Nat) (d : Done) (replayed : Bool) (time : Word) :
    (s.memberDone bid i tag d replayed time).nextCmd = s.nextCmd := by
  unfold State.memberDone
  split
  · dsimp only
    split <;> simp [summary_nextCmd, writeOut_keeps]
  · rfl

theorem memberDone_none {j : Nat} (bid i tag : Nat) (d : Done) (replayed : Bool) (time : Word) (h : mget s.cmds j = none) :
    mget (s.memberDone bid i tag d replayed time).cmds j = none := by
  unfold State.memberDone
  split
  · dsimp only
    split
    · exact summary_none _ _ (by simpa [writeOut_keeps] using h)
    · simpa [writeOut_keeps] using h
  · exact h

/-! The end of any command. -/

/-- A status that says the command was cut off. -/
def Done.cut (d : Done) : Bool := d.status == St.ABORTED || d.status == St.DEVICE_FAULT || d.status == St.ENTROPY_FAULT || d.status == St.KERNEL_FAULT

/-- The state once a command that ends has let go of the engines. -/
def State.ended (s : State) (id : Nat) (c : Cmd) (d : Done) : State :=
  let s0 := if d.cut then (s.letGo id).opmAbort c else s.letGo id
  if d.timed then s0.fresh else s0

/-- The engine time of a completion (R100). -/
def State.timeOf (s : State) (d : Done) : Word := if d.timed then Config.engineTime s.free else 0

/-- The status is SUCCESS. -/
def Done.good (d : Done) : Bool := d.status == St.SUCCESS

theorem ended_sansWork (s : State) (id : Nat) (c : Cmd) (d : Done) : ({ s.ended id c d with free := s.free } : State).sansWork = s.sansWork := by
  have hcut : ∀ x : State, x.sansWork = s.sansWork → ({ (if d.timed then x.fresh else x) with free := s.free } : State).sansWork = s.sansWork := by
    intro x hx
    have hfree : ({ (if d.timed then x.fresh else x) with free := s.free } : State).sansWork = { x.sansWork with free := s.free } := by split <;> rfl
    rw [hfree, hx]
    rfl
  refine hcut _ ?_
  split <;> simp

theorem ended_cmds (s : State) (id : Nat) (c : Cmd) (d : Done) : (s.ended id c d).cmds = s.cmds := by
  simp only [State.ended]
  (repeat' split) <;> simp

theorem ended_qp (s : State) (id : Nat) (c : Cmd) (d : Done) (fn q : Nat) : (s.ended id c d).qp fn q = s.qp fn q :=
  field_of_erased (ended_sansWork s id c d) (fun x => x.qp fn q)

theorem ended_tx (s : State) (id : Nat) (c : Cmd) (d : Done) : (s.ended id c d).tx = s.tx := field_of_erased (ended_sansWork s id c d) State.tx

theorem ended_nextCmd (s : State) (id : Nat) (c : Cmd) (d : Done) : (s.ended id c d).nextCmd = s.nextCmd :=
  field_of_erased (ended_sansWork s id c d) State.nextCmd

theorem complete_top {c : Cmd} (d : Done) (hc : mget s.cmds id = some c) (hm : c.member = none) :
    s.complete id d = (s.ended id c d).completeTop id c (mkEntry c.tag c.qp d c.replayed (s.timeOf d)) d.good := by
  simp only [State.complete, State.completeTag, hc, hm]
  rfl

theorem complete_member {c : Cmd} {b i : Nat} (d : Done) (hc : mget s.cmds id = some c) (hm : c.member = some (b, i)) :
    s.complete id d = ({ s.ended id c d with cmds := mdel (tellSuccessors id d.good (s.ended id c d).cmds) id } : State).memberDone b i c.tag d c.replayed
      (s.timeOf d) := by
  simp only [State.complete, State.completeTag, hc, hm]
  rfl

theorem completeTag_nextCmd (s : State) (id tag : Nat) (d : Done) : (s.completeTag id tag d).nextCmd = s.nextCmd := by
  cases hc : mget s.cmds id with
  | none => simp only [State.completeTag, hc]
  | some c =>
    simp only [State.completeTag, hc]
    split
    · exact (memberDone_nextCmd _ _ _ _ _ _ _).trans (ended_nextCmd s id c d)
    · exact (completeTop_nextCmd _ _ _ _ _).trans (ended_nextCmd s id c d)

theorem complete_nextCmd (s : State) (id : Nat) (d : Done) : (s.complete id d).nextCmd = s.nextCmd := by
  unfold State.complete
  split
  · rfl
  · exact completeTag_nextCmd s id _ d

/-- The end of a command outside a batch keeps every other entry; a member's end leaves it no entry of its own. -/
theorem complete_keeps_or_gone {c : Cmd} {j : Nat} (d : Done) (hc : mget s.cmds id = some c) (hj : j ≠ id) (hs : (mget s.cmds j).isSome = true) :
    (mget (s.complete id d).cmds j).isSome = true ∨ mget (s.complete id d).cmds id = none := by
  cases hm : c.member with
  | none =>
    left
    rw [complete_top d hc hm, completeTop_isSome hj, ended_cmds, hs]
  | some m =>
    right
    rw [complete_member d hc hm]
    exact memberDone_none _ _ _ _ _ _ (mget_mdel_same _ _)

end

end Sys2Proof.Machine
end

section
/-!
SUPPORT. A queue pair that is deleted under a raw capture (spec files 03 and 10, R87 and R279).
-/
namespace Sys2Proof.Machine
open Sys2Proof

/-- PF0's pair 0 is ACTIVE, and a raw capture of a RETIRED generator group that came through it is under way. -/
def capturing : State :=
  { State.reset with
    qps := [(0, { QPair.off with cfg := 0x80000000, state := .active })]
    cmds := [(0, { newCmd 0 0 0 [0x20, 0x0E] none none none false false 0 with phase := .running, note := [1] })] }

/-- The capture ends with its command, and its group shows RETIRED again. -/
theorem exec_qpDelete_capturing : ∃ t, exec (.qpDelete 0 0 0) capturing = .next t ∧ t.regs ≠ capturing.regs :=
  ⟨capturing.qpCfg 0 0 (setBit 0 31 false), rfl, by decide +kernel⟩

/-- Refutes O25: a deletion that frees a raw capture of a RETIRED group writes that group's register, so the registers do not stay. -/
theorem not_queuePairs : ¬ Obligations.QueuePairs := by
  intro h
  obtain ⟨-, -, hdelete, -⟩ := h capturing 0 0 0 (by decide)
  obtain ⟨t, hexec, -, -, -, hregs⟩ := hdelete (.inl rfl) (by decide)
  obtain ⟨u, hexec', hne⟩ := exec_qpDelete_capturing
  obtain rfl := Host.Outcome.next.inj (hexec.symm.trans hexec')
  exact hne hregs

end Sys2Proof.Machine
end

section
/-!
SUPPORT. The fetch of descriptors and the start of commands (spec file 03): what a fresh in-flight entry leaves, which commands start, and how
a held one goes on.
-/
namespace Sys2Proof.Machine
open Sys2Proof

/-! Buffers and maps. -/

theorem fixLen_of_length {n : Nat} {l : List Byte} (h : l.length = n) : fixLen n l = l := by
  subst h
  simp [fixLen]

theorem mem_mput_of_ne {α : Type} {m : List (Nat × α)} {k : Nat} {x : Nat × α} (v : α) (h : x ∈ m) (hne : x.1 ≠ k) : x ∈ mput m k v := by
  induction m with
  | nil => simp at h
  | cons y t ih =>
    obtain ⟨a, b⟩ := y
    unfold mput
    split
    · exact List.mem_cons_of_mem _ h
    · split
      · rename_i hka
        refine List.mem_cons_of_mem _ ((List.mem_cons.mp h).resolve_left ?_)
        rintro rfl
        exact hne hka.symm
      · exact List.mem_cons.mpr ((List.mem_cons.mp h).imp_right ih)

/-! The scheduler of in-flight entries (R64). -/

/-- The state without what the schedulers keep. -/
def State.sansTurns (s : State) : State := { s with sched := [], turn := [] }

theorem chargeEntry_sansTurns (s : State) (fn : Nat) : (s.chargeEntry fn).sansTurns = s.sansTurns := by
  simp only [State.chargeEntry]
  split <;> rfl

@[simp] theorem chargeEntry_cmds (s : State) (fn : Nat) : (s.chargeEntry fn).cmds = s.cmds :=
  field_of_erased (chargeEntry_sansTurns s fn) State.cmds

@[simp] theorem chargeEntry_nextCmd (s : State) (fn : Nat) : (s.chargeEntry fn).nextCmd = s.nextCmd :=
  field_of_erased (chargeEntry_sansTurns s fn) State.nextCmd

@[simp] theorem chargeEntry_qps (s : State) (fn : Nat) : (s.chargeEntry fn).qps = s.qps := field_of_erased (chargeEntry_sansTurns s fn) State.qps

@[simp] theorem chargeEntry_tx (s : State) (fn : Nat) : (s.chargeEntry fn).tx = s.tx := field_of_erased (chargeEntry_sansTurns s fn) State.tx

/-! A fresh entry (R93). -/

@[simp] theorem addCmd_cmds (s : State) (c : Cmd) : (s.addCmd c).cmds = mput s.cmds s.nextCmd c := rfl

@[simp] theorem addCmd_nextCmd (s : State) (c : Cmd) : (s.addCmd c).nextCmd = s.nextCmd + 1 := rfl

@[simp] theorem addCmd_qps (s : State) (c : Cmd) : (s.addCmd c).qps = s.qps := rfl

@[simp] theorem addCmd_tx (s : State) (c : Cmd) : (s.addCmd c).tx = s.tx := rfl

/-! The start of a command (R25, R95, R103, R104). -/

section
variable {s : State} {id : Nat} {c : Cmd}

/-- A command that passes chain and fence and validation steps 1 and 2. -/
structure Startable (s : State) (id : Nat) (c : Cmd) : Prop where
  note : c.note = []
  chain : c.predRes ≠ some false
  fence : c.fence = true → s.earlierFailed id c = false
  op : opcodeOk c.fn c.op c.member.isSome = true
  member : c.flag 2 = c.member.isSome
  flags : c.flags < 32

theorem start_startable (hc : mget s.cmds id = some c) (h : Startable s id c) : s.start id = s.setCmd id { c with phase := .started } := by
  obtain ⟨hnote, hchain, hfence, hop, hmember, hflags⟩ := h
  have hfenced : (c.fence && s.earlierFailed id c) = false := by
    rw [Bool.and_eq_false_imp]
    exact hfence
  simp [State.start, hc, hnote, badCrc, badRec, hchain, hfenced, hop, hmember, Nat.div_eq_of_lt hflags]

theorem start_chainFailed (hc : mget s.cmds id = some c) (hnote : c.note = []) (hchain : c.predRes = some false) :
    s.start id = s.complete id (.fail St.ABORTED [2]) := by
  simp only [State.start, hc, hnote, badCrc, hchain]
  rfl

theorem start_fenced (hc : mget s.cmds id = some c) (hnote : c.note = []) (hchain : c.predRes ≠ some false) (hfence : c.fence = true)
    (hfailed : s.earlierFailed id c = true) : s.start id = s.complete id (.err St.FENCED) := by
  simp [State.start, hc, hnote, badCrc, hchain, hfence, hfailed]

theorem started_setCmd (s : State) (id : Nat) (c : Cmd) : Started (s.setCmd id { c with phase := .started }) id { c with phase := .started } :=
  ⟨mget_mput_same _ _ _, rfl⟩

/-- Whether it starts or ends, the count of entries stays. -/
theorem start_nextCmd (s : State) (id : Nat) : (s.start id).nextCmd = s.nextCmd := by
  unfold State.start
  split
  · rfl
  · (repeat' split) <;> simp [complete_nextCmd, completeTag_nextCmd]

/-! Held commands (R103, R104). -/

theorem isHeld_iff : s.isHeld id c = true ↔ (c.pred.isSome = true ∧ c.predRes = none) ∨ (c.fence = true ∧ s.earlierLive id c = true) := by
  simp [State.isHeld]

theorem exec_release {i : Instr} (hi : i ∈ [Instr.fenceStart id, .chainSuccessorStart id]) : exec i s = .next (s.release id) := by
  simp only [List.mem_cons, List.not_mem_nil, or_false] at hi
  obtain rfl | rfl := hi <;> rfl

theorem release_held (hc : mget s.cmds id = some c) (h : s.isHeld id c = true) : s.release id = s := by simp [State.release, hc, h]

theorem release_free (hc : mget s.cmds id = some c) (hphase : c.phase = .held) (h : s.isHeld id c = false) : s.release id = s.start id := by
  simp [State.release, hc, hphase, h]

theorem isHeld_false (hpred : c.pred = none ∨ c.predRes ≠ none) (hfence : c.fence = true → s.earlierLive id c = false) : s.isHeld id c = false := by
  rw [Bool.eq_false_iff, Ne, isHeld_iff]
  rintro (⟨hsome, hnone⟩ | ⟨hf, hlive⟩)
  · rcases hpred with hp | hp
    · simp [hp] at hsome
    · exact hp hnone
  · simp [hfence hf] at hlive

end

/-! The fetch (R88, R93, R96). -/

section
variable {s : State} {fn q : Nat} {d : List Byte}

/-- The entry of a descriptor in order that follows no chain. -/
def State.fetchedCmd (s : State) (fn q : Nat) (d : List Byte) : Cmd :=
  newCmd fn q (s.qp fn q).head d none none none ((leAt d 2 1).testBit 0) false s.now

/-- The state with that entry taken and the head moved on. -/
def State.fetched (s : State) (fn q : Nat) (d : List Byte) : State :=
  let p := s.qp fn q
  ((s.chargeEntry fn).setQp fn q { p with
    head := (p.head + 1) % p.sqLen
    chain := if (leAt d 2 1).testBit 4 then some s.nextCmd else none
    chainRes := none }).addCmd (s.fetchedCmd fn q d)

theorem exec_descriptorFetch_noRoom (h : s.roomFor fn = false) : exec (.descriptorFetch fn q d) s = .next s := if_neg (by simp [h])

theorem exec_descriptorFetch_right (hlen : d.length = 64) (hopen : s.qpOpen fn q = true) (hwaits : (s.qp fn q).head ≠ (s.qp fn q).tail)
    (hroom : s.roomFor fn = true) (hcrc : leAt d 60 4 = crc32c (d.take 60)) (hop : leAt d 0 2 ≠ 0xF010) (hchain : (s.qp fn q).chain = none)
    (hres : (s.qp fn q).chainRes = none) : exec (.descriptorFetch fn q d) s =
      .next (if (s.fetched fn q d).isHeld s.nextCmd (s.fetchedCmd fn q d) then s.fetched fn q d else (s.fetched fn q d).start s.nextCmd) := by
  have hgo : (s.qpOpen fn q && (s.qp fn q).head != (s.qp fn q).tail && s.roomFor fn) = true := by simp [hopen, hwaits, hroom]
  have hright : crcOk d = true := beq_iff_eq.mpr hcrc
  have hbit : (leAt d 2 1 % 2 == 1) = (leAt d 2 1).testBit 0 := by simp [Nat.testBit_zero, beq_eq_decide]
  change execDescriptorFetch fn q d s = _
  simp only [execDescriptorFetch, hgo, fixLen_of_length hlen, hright, beq_false_of_ne hop, hbit, hchain, hres]
  simp [State.fetched, State.fetchedCmd]

theorem fetched_cmd (s : State) (fn q : Nat) (d : List Byte) : mget (s.fetched fn q d).cmds s.nextCmd = some (s.fetchedCmd fn q d) := by
  simp [State.fetched, mget_mput_same]

theorem fetched_nextCmd (s : State) (fn q : Nat) (d : List Byte) : (s.fetched fn q d).nextCmd = s.nextCmd + 1 := by simp [State.fetched]

theorem fetched_tx (s : State) (fn q : Nat) (d : List Byte) : (s.fetched fn q d).tx = s.tx := by simp [State.fetched]

theorem fetched_qp (s : State) (fn q : Nat) (d : List Byte) : (s.fetched fn q d).qp fn q = { s.qp fn q with
    head := ((s.qp fn q).head + 1) % (s.qp fn q).sqLen
    chain := if (leAt d 2 1).testBit 4 then some s.nextCmd else none
    chainRes := none } := qp_setQp_same (s.chargeEntry fn) fn q _

theorem fetched_earlierLive (h : ∃ x ∈ s.cmds, x.1 < s.nextCmd ∧ x.2.member = none ∧ x.2.fn = fn ∧ x.2.qp = q) :
    (s.fetched fn q d).earlierLive s.nextCmd (s.fetchedCmd fn q d) = true := by
  obtain ⟨x, hx, hlt, hmember, hfn, hqp⟩ := h
  refine List.any_eq_true.mpr ⟨x, ?_, ?_⟩
  · simpa [State.fetched] using mem_mput_of_ne _ hx (Nat.ne_of_lt hlt)
  · simp [hlt, hmember, hfn, hqp, State.fetchedCmd, newCmd]

end

/-- Settles O26: the fetch from the entry it takes, and a held command by the conditions that hold it. -/
theorem fetchAndStart : Obligations.FetchAndStart := by
  refine ⟨fun s fn q d hlen hopen hwaits => ⟨exec_descriptorFetch_noRoom, fun hroom hcrc hop hchain hres => ?fetch⟩,
    fun s id c hc hphase i hi => ⟨fun hheld => ?held, fun hpred hfence hnote => ?goes⟩⟩
  case fetch =>
    refine ⟨_, exec_descriptorFetch_right hlen hopen hwaits hroom hcrc hop hchain hres, ?next, fun hnofence hnomember hflags hknown => ?starts,
      fun hfenced hearlier => ?holds⟩
    case next => split <;> simp [start_nextCmd, fetched_nextCmd]
    case starts =>
      have hfence : (s.fetchedCmd fn q d).fence ≠ true := by simpa [State.fetchedCmd, newCmd] using hnofence
      have hfree : (s.fetched fn q d).isHeld s.nextCmd (s.fetchedCmd fn q d) = false := isHeld_false (.inl rfl) (fun h => absurd h hfence)
      have hstart := start_startable (fetched_cmd s fn q d) ⟨rfl, nofun, fun h => absurd h hfence, hknown, hnomember, hflags⟩
      rw [hfree, if_neg Bool.false_ne_true, hstart]
      refine ⟨⟨_, started_setCmd _ _ _, rfl, rfl, rfl, rfl⟩, ?_, ?_, fetched_tx s fn q d⟩
      · exact congrArg QPair.head (fetched_qp s fn q d)
      · exact congrArg QPair.chain (fetched_qp s fn q d)
    case holds =>
      have hheld : (s.fetched fn q d).isHeld s.nextCmd (s.fetchedCmd fn q d) = true := isHeld_iff.mpr (.inr ⟨hfenced, fetched_earlierLive hearlier⟩)
      rw [if_pos hheld]
      exact ⟨_, fetched_cmd s fn q d, rfl, hfenced, rfl, fetched_tx s fn q d⟩
  case held => rw [exec_release hi, release_held hc (isHeld_iff.mpr hheld)]
  case goes =>
    rw [exec_release hi, release_free hc hphase (isHeld_false hpred hfence)]
    refine ⟨fun hfailed => by rw [start_chainFailed hc hnote hfailed], fun hok hf hfailed => by rw [start_fenced hc hnote hok hf hfailed],
      fun hok hf hknown hmember hflags => ?_⟩
    exact ⟨_, by rw [start_startable hc ⟨hnote, hok, hf, hknown, hmember, hflags⟩], started_setCmd s id c, rfl⟩

end Sys2Proof.Machine
end

section
/-!
SUPPORT. The completion queue (spec file 03): a command that ends with room and without, the oldest waiting completion, and the time of pending
completions.
-/
namespace Sys2Proof.Machine
open Sys2Proof

section
variable {s : State} {id : Nat} {c : Cmd} {d : Done}

/-- With room and nothing waiting, an end writes its entry at the tail (R90 to R92). -/
theorem complete_room (hc : mget s.cmds id = some c) (hm : c.member = none) (hactive : (s.qp c.fn c.qp).state = .active)
    (hroom : ((s.qp c.fn c.qp).cqTail + 1) % (s.qp c.fn c.qp).cqLen ≠ (s.qp c.fn c.qp).cqHead) (hnone : (s.qp c.fn c.qp).waiting = []) :
    s.complete id d = (s.ended id c d).writeCq c.fn c.qp id (mkEntry c.tag c.qp d c.replayed (s.timeOf d)) (c.flag 1 || !d.good) d.good := by
  rw [complete_top d hc hm]
  exact completeTop_room _ _ (by rwa [ended_qp]) (by rwa [ended_qp]) (by rwa [ended_qp])

/-- With the CQ full, the entry waits behind those that wait, and the command keeps its place in flight (R90). -/
theorem complete_full (hc : mget s.cmds id = some c) (hm : c.member = none) (hactive : (s.qp c.fn c.qp).state = .active)
    (hfull : ((s.qp c.fn c.qp).cqTail + 1) % (s.qp c.fn c.qp).cqLen = (s.qp c.fn c.qp).cqHead) :
    (s.complete id d).tx = s.tx ∧ mget (s.complete id d).cmds id = some { c with phase := .waitCq, legs := [], chunk := [] } ∧
      ((s.complete id d).qp c.fn c.qp).waiting = (s.qp c.fn c.qp).waiting ++
        [⟨id, mkEntry c.tag c.qp d c.replayed (s.timeOf d), c.flag 1 || !d.good, d.good⟩] := by
  rw [complete_top d hc hm, completeTop_full _ _ (by rwa [ended_qp]) (by rwa [ended_qp])]
  exact ⟨ended_tx s id c d, mget_mput_same _ _ _, by rw [qp_setQp_same, ended_qp]⟩

end

section
variable {s : State} {fn q : Nat} {w : WaitEntry} {l : List WaitEntry}

theorem exec_pendingCompletionWrite_full (hw : (s.qp fn q).waiting = w :: l) (hfull : ((s.qp fn q).cqTail + 1) % (s.qp fn q).cqLen = (s.qp fn q).cqHead) :
    exec (.pendingCompletionWrite fn q) s = .next s := by
  change execPendingCompletionWrite fn q s = _
  simp [execPendingCompletionWrite, hw, QPair.cqFull, hfull]

theorem exec_pendingCompletionWrite_room (hopen : s.qpOpen fn q = true) (hw : (s.qp fn q).waiting = w :: l)
    (hroom : ((s.qp fn q).cqTail + 1) % (s.qp fn q).cqLen ≠ (s.qp fn q).cqHead) :
    exec (.pendingCompletionWrite fn q) s = .next ((s.setQp fn q { s.qp fn q with waiting := l }).writeCq fn q w.cmd w.entry w.irq w.ok) := by
  change execPendingCompletionWrite fn q s = _
  simp [execPendingCompletionWrite, hw, hopen, QPair.cqFull, hroom]

theorem exec_coalTimeout_due (hopen : s.qpOpen fn q = true) (hien : bitAt (s.qp fn q).irqCfg 15 = true) (hpend : 0 < (s.qp fn q).pendCnt)
    (htime : fld (s.qp fn q).irqCfg 30 24 ≠ 0) :
    exec (.coalTimeout fn q) s = .next ((s.setQp fn q { s.qp fn q with pendCnt := 0 }).msix fn (fld (s.qp fn q).cfg 13 8)) :=
  if_pos (by simp [hopen, hien, hpend, htime])

end

/-- Settles O27, from what writing an entry does to the pair and to what is sent. -/
theorem commandEnds : Obligations.CommandEnds := by
  refine ⟨?ends, ?waiting, ?pending⟩
  case ends =>
    intro s id c d hc hm hactive hinline p t
    refine ⟨fun hroom hnone => ?_, fun hfull => ?_⟩
    · have ht : t = _ := complete_room hc hm hactive hroom hnone
      obtain ⟨hcmds, -, ⟨n, since, hqp⟩, m, htx, hmsg⟩ := writeCq_does (s.ended id c d) c.fn c.qp id
        (mkEntry c.tag c.qp d c.replayed (s.timeOf d)) (c.flag 1 || !d.good) d.good
      rw [← ht, ended_qp] at hqp htx
      rw [← ht] at hcmds
      rw [ended_qp] at hmsg
      rw [ended_tx] at htx
      refine ⟨by rw [hcmds, mget_mdel_same], by rw [hqp]; rfl, by rw [hqp]; rfl, s.timeOf d, _, m, htx, hmsg, fun h => if_neg (by simp [h]),
        stampEntry_mkEntry _ _ _ _ _ _ _ hinline⟩
    · obtain ⟨htx, hcmd, hwaiting⟩ := complete_full (d := d) hc hm hactive hfull
      exact ⟨htx, ⟨_, hcmd, rfl⟩, _, hwaiting, rfl⟩
  case waiting =>
    intro s fn q w l hopen hw p
    refine ⟨exec_pendingCompletionWrite_full hw, fun hroom => ?_⟩
    obtain ⟨hcmds, -, ⟨n, since, hqp⟩, m, htx, -⟩ := writeCq_does (s.setQp fn q { p with waiting := l }) fn q w.cmd w.entry w.irq w.ok
    rw [qp_setQp_same] at hqp htx
    exact ⟨_, _, m, exec_pendingCompletionWrite_room hopen hw hroom, htx, by rw [hqp]; rfl, by rw [hcmds, mget_mdel_same], by rw [hqp]; rfl,
      stampEntry_length _ _⟩
  case pending =>
    intro s fn q hopen hien hpend htime vec
    have hf : s.fenced fn = false := fenced_of_qpOpen hopen
    refine ⟨_, exec_coalTimeout_due hopen hien hpend htime, by simp, by simp, by simp, fun h => ?_, fun h => ?_⟩
    · exact congrArg State.tx (State.msix_open (s := s.setQp fn q { s.qp fn q with pendCnt := 0 }) hf h)
    · exact msix_masked (s := s.setQp fn q { s.qp fn q with pendCnt := 0 }) hf h

end Sys2Proof.Machine
end

section
/-!
SUPPORT. A batch that shares its number in the in-flight table with another entry, under ABORT_BATCH (spec file 03, R108).
-/
namespace Sys2Proof.Machine
open Sys2Proof

/-- The batch of entry 5: one member, not yet dispatched. -/
def soleBatch : Batch where
  total := 1
  next := 0
  done := []
  campaign := false
  template := []
  bitmap := 0
  succ := 0
  other := 0
  rejected := 0
  firstBad := none
  aborted := false
  tag := 0
  chain := none
  results := []

/-- A command of PF0's pair 0, held; what the descriptor leaves out reads as zero, its tag too. -/
def queued (desc : List Byte) : Cmd := newCmd 0 0 0 desc none none none false false 0

/-- An ABORT_BATCH of tag 0 that has started. -/
def abortTag0 : Cmd := { queued [0x10, 0xF0] with phase := .started }

/-- Two entries of the in-flight table stand under number 5, a batch that runs and a batch that is held; entry 9 is the ABORT_BATCH of their tag.
The CQ has room for one entry. -/
def doubled : State :=
  { State.reset with
    qps := [(0, { QPair.off with cfg := 0x80000000, state := .active, cqHead := 2 })]
    cmds := [(5, { queued [] with phase := .batch }), (5, queued [0x01, 0xF0]), (9, abortTag0)]
    batches := [(5, soleBatch)] }

/-- Nothing is read from the host. -/
def noHost : HostRead := ⟨[], [], [], [], [], []⟩

/-- The summary of the batch that runs frees both entries, and the completion of the ABORT_BATCH waits for room. -/
theorem exec_abortBatch_doubled : ∃ t, exec (.abortBatch 9 noHost) doubled = .next t ∧ mget t.cmds 5 = none ∧ mget t.cmds 9 ≠ none := by
  refine ⟨doubled.abortBatch 9 abortTag0 noHost, rfl, ?_, ?_⟩ <;> decide +kernel

/-- Refutes O28: the batches' numbers rise, but those of the in-flight table need not, and where a held batch stands under the number of a
running one the end of the running one frees both, so no state before the completion has the held one marked. -/
theorem not_batches : ¬ Obligations.Batches := by
  rintro ⟨-, -, h⟩
  have hstart : MayStart doubled 9 abortTag0 := ⟨⟨rfl, rfl⟩, rfl, rfl⟩
  obtain ⟨-, hbufs⟩ := h doubled 9 _ noHost hstart rfl rfl
  obtain ⟨-, -, -, hfound⟩ := hbufs [] [] [] (by decide) rfl rfl rfl
  obtain ⟨u, hexec, -, -, ⟨x, hx, -⟩, hearly, -⟩ := hfound rfl rfl (.inl (by decide))
  obtain ⟨y, hy, -⟩ := hearly 5 (by decide)
  obtain ⟨t, hexec', hgone, hwaits⟩ := exec_abortBatch_doubled
  obtain rfl := Host.Outcome.next.inj (hexec.symm.trans hexec')
  rcases complete_keeps_or_gone _ hx (by decide : 5 ≠ 9) (by rw [hy]; rfl) with hkept | hnone
  · rw [hgone] at hkept
    cases hkept
  · exact hwaits hnone

end Sys2Proof.Machine
end

section
/-!
SUPPORT. The mailbox protocol (spec file 04, R113 to R121): the registers of a channel, how a response reaches it, what the end of a request
leaves of the machine, and what GO, ACK and CANCEL do.
-/
namespace Sys2Proof.Machine
open Sys2Proof

/-! Registers of a channel (R113, R118). -/

section
variable {s : State} {fn ch : Nat}

@[simp] theorem mrd_mwr_same (s : State) (fn ch o : Nat) (v : Word) : (s.mwr fn ch o v).mrd fn ch o = v := rd_wr_same _ _ _ _

theorem mrd_mwr_other (s : State) (fn ch : Nat) {o a : Nat} (v : Word) (h : a ≠ o) : (s.mwr fn ch o v).mrd fn ch a = s.mrd fn ch a :=
  rd_wr_other _ _ _ _ _ _ (by simp only [regKey]; omega)

@[simp] theorem sansRegs_mwr (s : State) (fn ch o : Nat) (v : Word) : (s.mwr fn ch o v).sansRegs = s.sansRegs := rfl

@[simp] theorem sansRegs_setMstat (s : State) (fn ch i : Nat) (b : Bool) : (s.setMstat fn ch i b).sansRegs = s.sansRegs := rfl

theorem mrd_setMstat (s : State) (fn ch i : Nat) (b : Bool) {a : Nat} (h : a ≠ 0x00C) : (s.setMstat fn ch i b).mrd fn ch a = s.mrd fn ch a :=
  mrd_mwr_other _ _ _ _ h

/-- A bit of MBX_STAT set leaves the others. -/
theorem mstat_setMstat (s : State) (fn ch : Nat) {i : Nat} (b : Bool) (j : Nat) (hi : i < 32) :
    (s.setMstat fn ch i b).mstat fn ch j = if j = i then b else s.mstat fn ch j := by
  rw [State.mstat, State.setMstat, mrd_mwr_same, bitAt_setBit _ _ _ _ hi, State.mstat]

theorem mrd_of_regs {s t : State} (h : t.regs = s.regs) (fn ch o : Nat) : t.mrd fn ch o = s.mrd fn ch o := by
  rw [State.mrd, State.rd, h, State.mrd, State.rd]

theorem mstat_of_regs {s t : State} (h : t.regs = s.regs) (fn ch i : Nat) : t.mstat fn ch i = s.mstat fn ch i := by
  rw [State.mstat, mrd_of_regs h, State.mstat]

/-- The first n response words. -/
def State.putWords (s : State) (fn ch : Nat) (f : Nat → Word) (n : Nat) : State :=
  (List.range n).foldl (fun (x : State) i => x.mwr fn ch (0x200 + 4 * i) (f i)) s

theorem putWords_succ (s : State) (fn ch : Nat) (f : Nat → Word) (n : Nat) :
    s.putWords fn ch f (n + 1) = (s.putWords fn ch f n).mwr fn ch (0x200 + 4 * n) (f n) := by
  simp [State.putWords, List.range_succ]

@[simp] theorem sansRegs_putWords (s : State) (fn ch : Nat) (f : Nat → Word) (n : Nat) : (s.putWords fn ch f n).sansRegs = s.sansRegs :=
  sansRegs_foldl (fun (x : State) i => x.mwr fn ch (0x200 + 4 * i) (f i)) (fun _ _ => rfl) _ s

theorem mrd_putWords_word (s : State) (fn ch : Nat) (f : Nat → Word) {n i : Nat} (h : i < n) :
    (s.putWords fn ch f n).mrd fn ch (0x200 + 4 * i) = f i := by
  induction n with
  | zero => omega
  | succ n ih =>
    rw [putWords_succ]
    obtain rfl | hne := eq_or_ne i n
    · exact mrd_mwr_same _ _ _ _ _
    · rw [mrd_mwr_other _ _ _ _ (by omega), ih (by omega)]

theorem mrd_putWords_below (s : State) (fn ch : Nat) (f : Nat → Word) (n : Nat) {a : Nat} (h : a < 0x200) :
    (s.putWords fn ch f n).mrd fn ch a = s.mrd fn ch a :=
  foldl_keep (fun x : State => x.mrd fn ch a) _ (fun x i => mrd_mwr_other _ _ _ _ (by omega)) _ s

end

/-! The end of a request (R118 to R120). -/

section
variable {s : State} {fn ch : Nat}

/-- A function that the device has and a channel of it. -/
structure OnChannel (fn ch : Nat) : Prop where
  fn : fn < 2048
  ch : ch < 4

theorem mbxChan_onChannel (hfn : fn < 2048) (h : mbxChan fn ch = true) : OnChannel fn ch := by
  refine ⟨hfn, ?_⟩
  simp only [mbxChan, decide_eq_true_eq] at h
  split at h <;> omega

/-- A key gives its function and its channel back. -/
theorem mbxKey_parts (h : OnChannel fn ch) : mbxKey fn ch % 65536 / 4 = fn ∧ mbxKey fn ch % 65536 % 4 = ch ∧ mbxKey fn ch < 65536 := by
  obtain ⟨hfn, hch⟩ := h
  simp only [mbxKey]
  omega

/-- The record of a command's outcome that has passed its commit point (R120). -/
def MbxReq.record (r : MbxReq) (p : Reply) : Outcome := ⟨r.seq, 2, p.status, p.inline.take 40, p.buf.length, none⟩

/-- The outcome of the last command of the code to pass its commit point is this request's. -/
def State.ownsOutcome (s : State) (fn key : Nat) (r : MbxReq) : Bool :=
  match mget s.outcomes (fn * 65536 + r.code) with | some o => o.owner == some key | none => false

/-- The request's draws withdrawn and its outcome recorded. -/
def State.mbxNoted (s : State) (fn key : Nat) (r : MbxReq) (p : Reply) : State :=
  if (r.commit && s.ownsOutcome fn key r) || (p.commit && !r.commit) then (s.dropWho (.mailbox key)).outcome fn r.code (r.record p)
  else s.dropWho (.mailbox key)

theorem mbxEnd_eq {r : MbxReq} (h : OnChannel fn ch) (hr : mget s.mbx (mbxKey fn ch) = some r) (p : Reply) :
    s.mbxEnd (mbxKey fn ch) p = (s.mbxNoted fn (mbxKey fn ch) r p).deliver fn ch r p := by
  obtain ⟨hfn, hch, hlt⟩ := mbxKey_parts h
  simp only [State.mbxEnd, hr, hfn, hch, if_pos hlt]
  rfl

/-- The state without what the end of a request touches. -/
def State.sansReply (s : State) : State :=
  { s with regs := [], mbx := [], outcomes := [], tx := [], nrg := .off, link := { s.link with pba := [] } }

theorem sansReply_of_sansRegs {t : State} (h : t.sansRegs = s.sansRegs) : t.sansReply = s.sansReply := by
  rw [eq_of_sansRegs h]
  rfl

@[simp] theorem sansReply_msix (s : State) (f vec : Nat) : (s.msix f vec).sansReply = s.sansReply := by
  unfold State.msix
  (repeat' split) <;> rfl

@[simp] theorem sansReply_memWrite (s : State) (f addr : Nat) (l : List Byte) (b : Bool) : (s.memWrite f addr l b).sansReply = s.sansReply := by
  unfold State.memWrite
  split <;> rfl

/-- The buffer written first (R118). -/
def State.mbxBuffer (s : State) (fn : Nat) (r : MbxReq) (p : Reply) : State := if r.noBuf then s else s.memWrite fn r.respAddr p.buf false

/-- The response before its message: buffer, words and status. -/
def State.mbxShown (s : State) (fn ch : Nat) (r : MbxReq) (p : Reply) : State :=
  ((((s.mbxBuffer fn r p).putWords fn ch (fun i => (p.wordsOf r).getD i 0) 16).setMstat fn ch 1 false).setMstat fn ch 2 true).setMstat fn ch 3 false

/-- The channel's message, where its control register asks for one (R118). -/
def State.mbxTell (s : State) (fn ch : Nat) : State :=
  let c := s.mrd fn ch 0x004
  if bitAt c 6 && decide (fld c 5 0 < s.vecs fn) then s.msix fn (fld c 5 0) else s

theorem deliver_eq (s : State) (fn ch : Nat) (r : MbxReq) (p : Reply) : s.deliver fn ch r p =
    { (s.mbxShown fn ch r p).mbxTell fn ch with mbx := mdel ((s.mbxShown fn ch r p).mbxTell fn ch).mbx (mbxKey fn ch) } := rfl

/-- The fields of a state through the buffer. -/
theorem mbxBuffer_fields (s : State) (fn : Nat) (r : MbxReq) (p : Reply) : let t := s.mbxBuffer fn r p
    t.regs = s.regs ∧ t.mbx = s.mbx ∧ t.outcomes = s.outcomes ∧ t.sansReply = s.sansReply ∧
      t.tx = s.tx ++ (if r.noBuf = true ∨ p.buf = [] then [] else [.mem fn r.respAddr p.buf false]) := by
  unfold State.mbxBuffer
  by_cases hno : r.noBuf = true
  · simp [hno]
  · by_cases hbuf : p.buf = [] <;> simp [hno, hbuf]

theorem mbxShown_sansRegs (s : State) (fn ch : Nat) (r : MbxReq) (p : Reply) : (s.mbxShown fn ch r p).sansRegs = (s.mbxBuffer fn r p).sansRegs := by
  simp [State.mbxShown]

theorem mbxShown_registers (s : State) (fn ch : Nat) (r : MbxReq) (p : Reply) : let t := s.mbxShown fn ch r p
    (∀ i, i < 16 → t.mrd fn ch (0x200 + 4 * i) = (p.wordsOf r).getD i 0) ∧ t.mstat fn ch 1 = false ∧ t.mstat fn ch 2 = true ∧
      t.mstat fn ch 3 = false ∧ t.mrd fn ch 0x004 = s.mrd fn ch 0x004 := by
  unfold State.mbxShown
  refine ⟨fun i hi => ?_, ?_, ?_, ?_, ?_⟩
  · rw [mrd_setMstat _ _ _ _ _ (by omega), mrd_setMstat _ _ _ _ _ (by omega), mrd_setMstat _ _ _ _ _ (by omega), mrd_putWords_word _ _ _ _ hi]
  · simp [mstat_setMstat]
  · simp [mstat_setMstat]
  · simp [mstat_setMstat]
  · rw [mrd_setMstat _ _ _ _ _ (by decide), mrd_setMstat _ _ _ _ _ (by decide), mrd_setMstat _ _ _ _ _ (by decide),
      mrd_putWords_below _ _ _ _ _ (by decide), mrd_of_regs (mbxBuffer_fields s fn r p).1]

/-- What the message leaves. -/
theorem mbxTell_fields (s : State) (fn ch : Nat) : let t := s.mbxTell fn ch
    t.regs = s.regs ∧ t.mbx = s.mbx ∧ t.outcomes = s.outcomes ∧ t.sansReply = s.sansReply ∧ let c := s.mrd fn ch 0x004
      t.tx = s.tx ++ (if bitAt c 6 = true ∧ fld c 5 0 < s.vecs fn ∧ s.vecMasked fn (fld c 5 0) = false ∧ s.fenced fn = false then
        [.msix fn (fld c 5 0)] else []) := by
  unfold State.mbxTell
  dsimp only
  split
  · next h =>
    obtain ⟨hasks, hvec⟩ : bitAt (s.mrd fn ch 0x004) 6 = true ∧ fld (s.mrd fn ch 0x004) 5 0 < s.vecs fn := by simpa using h
    refine ⟨by simp, by simp, by simp, by simp, ?_⟩
    unfold State.msix
    cases hfence : s.fenced fn <;> cases hmask : s.vecMasked fn (fld (s.mrd fn ch 0x004) 5 0) <;> simp [hasks, hvec]
  · next h =>
    refine ⟨rfl, rfl, rfl, rfl, ?_⟩
    have hno : ¬ (bitAt (s.mrd fn ch 0x004) 6 = true ∧ fld (s.mrd fn ch 0x004) 5 0 < s.vecs fn) := by simpa using h
    rw [if_neg (fun hall => hno ⟨hall.1, hall.2.1⟩), List.append_nil]

theorem deliver_fields (s : State) (fn ch : Nat) (r : MbxReq) (p : Reply) : let t := s.deliver fn ch r p
    t.mbx = mdel s.mbx (mbxKey fn ch) ∧ t.outcomes = s.outcomes ∧ t.sansReply = s.sansReply ∧ let c := s.mrd fn ch 0x004
      t.tx = s.tx ++ (if r.noBuf = true ∨ p.buf = [] then [] else [.mem fn r.respAddr p.buf false]) ++
        (if bitAt c 6 = true ∧ fld c 5 0 < s.vecs fn ∧ s.vecMasked fn (fld c 5 0) = false ∧ s.fenced fn = false then [.msix fn (fld c 5 0)] else []) := by
  obtain ⟨-, bmbx, boutcomes, bsame, btx⟩ := mbxBuffer_fields s fn r p
  obtain ⟨-, tmbx, toutcomes, tsame, ttx⟩ := mbxTell_fields (s.mbxShown fn ch r p) fn ch
  have hsame := mbxShown_sansRegs s fn ch r p
  have hshown : (s.mbxShown fn ch r p).sansReply = s.sansReply := (sansReply_of_sansRegs hsame).trans bsame
  have hvecs : (s.mbxShown fn ch r p).vecs fn = s.vecs fn := field_of_erased hshown (fun x => x.vecs fn)
  have hmask : ∀ v, (s.mbxShown fn ch r p).vecMasked fn v = s.vecMasked fn v := fun v => field_of_erased hshown (fun x => x.vecMasked fn v)
  have hfence : (s.mbxShown fn ch r p).fenced fn = s.fenced fn := field_of_erased hshown (fun x => x.fenced fn)
  rw [deliver_eq]
  refine ⟨?_, ?_, tsame.trans hshown, ?_⟩
  · rw [tmbx, field_of_erased hsame State.mbx, bmbx]
  · exact toutcomes.trans ((field_of_erased hsame State.outcomes).trans boutcomes)
  · refine ttx.trans ?_
    rw [(mbxShown_registers s fn ch r p).2.2.2.2, hvecs, hmask, hfence, field_of_erased hsame State.tx, btx]

theorem deliver_responded (s : State) (fn ch : Nat) (r : MbxReq) (p : Reply) : Responded (s.deliver fn ch r p) fn ch r p := by
  obtain ⟨hwords, hbusy, hdone, hearly, -⟩ := mbxShown_registers s fn ch r p
  have hregs : (s.deliver fn ch r p).regs = (s.mbxShown fn ch r p).regs := (mbxTell_fields (s.mbxShown fn ch r p) fn ch).1
  refine ⟨fun i hi => (mrd_of_regs hregs _ _ _).trans (hwords i hi), (mstat_of_regs hregs _ _ _).trans hbusy,
    (mstat_of_regs hregs _ _ _).trans hdone, (mstat_of_regs hregs _ _ _).trans hearly, ?_⟩
  rw [(deliver_fields s fn ch r p).1, mget_mdel_same]

theorem mbxNoted_fields (s : State) (fn key : Nat) (r : MbxReq) (p : Reply) : let t := s.mbxNoted fn key r p
    t.mbx = s.mbx ∧ t.tx = s.tx ∧ t.regs = s.regs ∧ t.sansReply = s.sansReply ∧ t.outcomes =
      (if (r.commit && s.ownsOutcome fn key r) || (p.commit && !r.commit) then mput s.outcomes (fn * 65536 + r.code) (r.record p) else s.outcomes) := by
  unfold State.mbxNoted
  split <;> exact ⟨rfl, rfl, rfl, rfl, rfl⟩

section
variable {r : MbxReq} (h : OnChannel fn ch) (hr : mget s.mbx (mbxKey fn ch) = some r) (p : Reply)
include h hr

/-- A request that ends leaves its response on its channel. -/
theorem mbxEnd_responded : Responded (s.mbxEnd (mbxKey fn ch) p) fn ch r p := by
  rw [mbxEnd_eq h hr]
  exact deliver_responded _ _ _ _ _

theorem mbxEnd_mbx : (s.mbxEnd (mbxKey fn ch) p).mbx = mdel s.mbx (mbxKey fn ch) := by
  rw [mbxEnd_eq h hr, (deliver_fields _ _ _ _ _).1, (mbxNoted_fields _ _ _ _ _).1]

theorem mbxEnd_outcomes : (s.mbxEnd (mbxKey fn ch) p).outcomes =
    if (r.commit && s.ownsOutcome fn (mbxKey fn ch) r) || (p.commit && !r.commit) then mput s.outcomes (fn * 65536 + r.code) (r.record p)
    else s.outcomes := by
  rw [mbxEnd_eq h hr, (deliver_fields _ _ _ _ _).2.1, (mbxNoted_fields _ _ _ _ _).2.2.2.2]

theorem mbxEnd_sansReply_on : (s.mbxEnd (mbxKey fn ch) p).sansReply = s.sansReply := by
  rw [mbxEnd_eq h hr, (deliver_fields _ _ _ _ _).2.2.1, (mbxNoted_fields _ _ _ _ _).2.2.2.1]

/-- The buffer, then the message (R118). -/
theorem mbxEnd_tx : let c := s.mrd fn ch 0x004
    (s.mbxEnd (mbxKey fn ch) p).tx = s.tx ++ (if r.noBuf = true ∨ p.buf = [] then [] else [.mem fn r.respAddr p.buf false]) ++
      (if bitAt c 6 = true ∧ fld c 5 0 < s.vecs fn ∧ s.vecMasked fn (fld c 5 0) = false ∧ s.fenced fn = false then [.msix fn (fld c 5 0)] else []) := by
  obtain ⟨-, ntx, nregs, nsame, -⟩ := mbxNoted_fields s fn (mbxKey fn ch) r p
  have hvecs := field_of_erased nsame (fun x => x.vecs fn)
  have hmask : ∀ v, (s.mbxNoted fn (mbxKey fn ch) r p).vecMasked fn v = s.vecMasked fn v := fun v => field_of_erased nsame (fun x => x.vecMasked fn v)
  have hfence := field_of_erased nsame (fun x => x.fenced fn)
  intro c
  refine (congrArg State.tx (mbxEnd_eq h hr p)).trans ((deliver_fields _ _ _ _ _).2.2.2.trans ?_)
  rw [ntx, mrd_of_regs nregs, hvecs, hmask, hfence]

end

/-- Whatever request ends, the machine is left but for responses, records and messages. -/
theorem mbxEnd_sansReply (s : State) (key : Nat) (p : Reply) : (s.mbxEnd key p).sansReply = s.sansReply := by
  unfold State.mbxEnd
  split
  · rfl
  · next r hr =>
    have hnoted := (mbxNoted_fields s (key % 65536 / 4) key r p).2.2.2.1
    dsimp only
    split
    · exact ((deliver_fields _ _ _ r p).2.2.1).trans hnoted
    · exact hnoted

end

/-! GO and ACK (R118). -/

section
variable {s : State} {fn ch : Nat}

/-- The request taken, before its checks. -/
def State.mbxTaken (s : State) (fn ch : Nat) : State :=
  let r := s.mbxCopy fn ch
  let s1 := { (s.setMstat fn ch 1 true) with mbx := mput s.mbx (mbxKey fn ch) r }
  if r.code = 0x0A00 then s1 else { s1 with boot := { s1.boot with staging := false } }

theorem exec_mbxGo_unserved (h : s.served fn ch = false) : exec (.mbxGo fn ch) s = .next s :=
  congrArg Host.Outcome.next (if_neg (by simp [h]))

theorem exec_mbxGo_overrun (h : s.served fn ch = true) (hbusy : ¬ (s.mstat fn ch 1 = false ∧ s.mstat fn ch 2 = false)) :
    exec (.mbxGo fn ch) s = .next (s.setMstat fn ch 4 true) := by
  refine congrArg Host.Outcome.next ((if_pos h).trans (if_pos ?_))
  rw [Bool.or_eq_true]
  by_contra hno
  simp [not_or] at hno
  exact hbusy hno

section
variable (h : s.served fn ch = true) (hidle : s.mstat fn ch 1 = false ∧ s.mstat fn ch 2 = false)
include h hidle

theorem exec_mbxGo_idle : exec (.mbxGo fn ch) s = .next (if s.mbxCheck fn (s.mbxCopy fn ch) = 0 then s.mbxTaken fn ch
    else (s.mbxTaken fn ch).mbxEnd (mbxKey fn ch) (.err (s.mbxCheck fn (s.mbxCopy fn ch)))) :=
  congrArg Host.Outcome.next ((if_pos h).trans (if_neg (by simp [hidle])))

theorem exec_mbxGo_good (hok : s.mbxCheck fn (s.mbxCopy fn ch) = 0) : exec (.mbxGo fn ch) s = .next (s.mbxTaken fn ch) := by
  rw [exec_mbxGo_idle h hidle, if_pos hok]

theorem exec_mbxGo_bad (hbad : s.mbxCheck fn (s.mbxCopy fn ch) ≠ 0) : exec (.mbxGo fn ch) s =
    .next ((s.mbxTaken fn ch).mbxEnd (mbxKey fn ch) (.err (s.mbxCheck fn (s.mbxCopy fn ch)))) := by
  rw [exec_mbxGo_idle h hidle, if_neg hbad]

end

theorem mbxTaken_fields (s : State) (fn ch : Nat) : let t := s.mbxTaken fn ch
    t.mbx = mput s.mbx (mbxKey fn ch) (s.mbxCopy fn ch) ∧ t.mstat fn ch 1 = true ∧ t.tx = s.tx ∧ t.outcomes = s.outcomes ∧ t.ks = s.ks ∧ t.lc = s.lc ∧
      t.boot = if (s.mbxCopy fn ch).code = 0x0A00 then s.boot else { s.boot with staging := false } := by
  have hbusy : (s.setMstat fn ch 1 true).mstat fn ch 1 = true := by simp [mstat_setMstat]
  unfold State.mbxTaken
  dsimp only
  split <;> exact ⟨rfl, hbusy, rfl, rfl, rfl, rfl, rfl⟩

/-- The codes that a VF may use (R121). -/
theorem vfCodes (code : Nat) (m : MbxCode) (h : mbxCode code = some m)
    (hno : code ∉ [0x0100, 0x0103, 0x0200, 0x0300, 0x0301, 0x0403, 0x0500, 0x0501, 0x0502]) : m.vf = false := by
  have hall : ∀ c ∈ mbxCodes, c.code ∉ [0x0100, 0x0103, 0x0200, 0x0300, 0x0301, 0x0403, 0x0500, 0x0501, 0x0502] → c.vf = false := by decide
  obtain rfl : m.code = code := by simpa using List.find?_some h
  exact hall m (List.mem_of_find?_eq_some h) hno

/-- A code that a VF may not use, defined or not, answers alike (R117). -/
theorem mbxCheck_foreign (r : MbxReq) (hvf : fn ≠ 0) (h : s.served fn ch = true)
    (hno : r.code ∉ [0x0100, 0x0103, 0x0200, 0x0300, 0x0301, 0x0403, 0x0500, 0x0501, 0x0502]) : s.mbxCheck fn r = St.BAD_OPCODE := by
  have hstage : s.boot.stage ≠ .kindlingMbx := fun hk => by simp [State.served, hk, hvf] at h
  unfold State.mbxCheck
  simp only [if_neg hstage]
  split
  · rfl
  · next m hm => exact if_pos ⟨hvf, by rw [vfCodes _ m hm hno]; rfl⟩

theorem exec_mbxAck_idle (h : s.mstat fn ch 2 = false) : exec (.mbxAck fn ch) s = .next s :=
  congrArg Host.Outcome.next (if_neg (by simp [h]))

theorem mbxAck_eq (s : State) (fn ch : Nat) : s.mbxAck fn ch = if mbxChan fn ch && s.mstat fn ch 2 then
    ((s.putWords fn ch (fun _ => 0) 16).setMstat fn ch 2 false).setMstat fn ch 3 true else s := rfl

/-- ACK clears the words and DONE (R118). -/
theorem exec_mbxAck_done (hch : mbxChan fn ch = true) (h : s.mstat fn ch 2 = true) : ∃ t, exec (.mbxAck fn ch) s = .next t ∧ t = { s with regs := t.regs } ∧
    (∀ i, i < 16 → t.mrd fn ch (0x200 + 4 * i) = 0) ∧ t.mstat fn ch 2 = false ∧ t.mstat fn ch 1 = s.mstat fn ch 1 := by
  have hack : s.mbxAck fn ch = ((s.putWords fn ch (fun _ => 0) 16).setMstat fn ch 2 false).setMstat fn ch 3 true := by
    rw [mbxAck_eq, if_pos (by simp [hch, h])]
  refine ⟨_, congrArg Host.Outcome.next hack, eq_of_sansRegs (by rw [sansRegs_setMstat, sansRegs_setMstat, sansRegs_putWords]), fun i hi => ?_, ?_, ?_⟩
  · rw [mrd_setMstat _ _ _ _ _ (by omega), mrd_setMstat _ _ _ _ _ (by omega), mrd_putWords_word _ _ _ _ hi]
  · simp [mstat_setMstat]
  · simp only [mstat_setMstat _ _ _ _ _ (by decide : 2 < 32), mstat_setMstat _ _ _ _ _ (by decide : 3 < 32), if_neg (by decide : 1 ≠ 2), if_neg (by decide : 1 ≠ 3)]
    rw [State.mstat, mrd_putWords_below _ _ _ _ _ (by decide), State.mstat]

end

/-! CANCEL (R118). -/

section
variable {s : State} {fn ch : Nat}

/-- The codes that can be cancelled (R121). -/
theorem cancellable_iff (code : Nat) : (match mbxCode code with | some m => m.canc | none => false) = true ↔
    code ∈ [0x0802, 0x0900, 0x0902, 0x0903, 0x0A00] := by
  constructor
  · have hall : ∀ c ∈ mbxCodes, c.canc = true → c.code ∈ [0x0802, 0x0900, 0x0902, 0x0903, 0x0A00] := by decide
    intro h
    split at h
    · next m hm =>
      obtain rfl : m.code = code := by simpa using List.find?_some hm
      exact hall m (List.mem_of_find?_eq_some hm) h
    · exact absurd h Bool.false_ne_true
  · have hall : ∀ c ∈ [0x0802, 0x0900, 0x0902, 0x0903, 0x0A00], (match mbxCode c with | some m => m.canc | none => false) = true := by decide
    exact hall code

theorem exec_mbxCancel_none (h : mget s.mbx (mbxKey fn ch) = none) : exec (.mbxCancel fn ch) s = .next s := by
  refine congrArg Host.Outcome.next ?_
  rw [State.mbxCancel, h]

section
variable {r : MbxReq} (hr : mget s.mbx (mbxKey fn ch) = some r)
include hr

theorem exec_mbxCancel_not (h : r.code ∉ [0x0802, 0x0900, 0x0902, 0x0903, 0x0A00]) : exec (.mbxCancel fn ch) s = .next s := by
  refine congrArg Host.Outcome.next ?_
  rw [State.mbxCancel, hr]
  refine if_pos ?_
  rw [Bool.not_eq_true', Bool.eq_false_iff]
  exact fun hc => h ((cancellable_iff _).mp hc)

variable (h : r.code ∈ [0x0802, 0x0900, 0x0902, 0x0903, 0x0A00])
include h

theorem mbxCancel_eq : s.mbxCancel fn ch = if r.started = false then s.mbxEnd (mbxKey fn ch) (.aborted 4)
    else if r.code = 0x0802 then { s with fab := { s.fab with restore := none } }.mbxEnd (mbxKey fn ch) (.aborted 4)
    else s.endCardCmd (.aborted 4) := by
  rw [State.mbxCancel, hr]
  refine (if_neg ?_).trans ?_
  · rw [Bool.not_eq_true', Bool.eq_false_iff, not_not]
    exact (cancellable_iff _).mpr h
  · cases r.started <;> rfl

theorem exec_mbxCancel_waiting (hst : r.started = false) : exec (.mbxCancel fn ch) s = .next (s.mbxEnd (mbxKey fn ch) (.aborted 4)) :=
  congrArg Host.Outcome.next ((mbxCancel_eq hr h).trans (if_pos hst))

theorem exec_mbxCancel_card (hst : r.started = true) (hcode : r.code ≠ 0x0802) : exec (.mbxCancel fn ch) s = .next (s.endCardCmd (.aborted 4)) :=
  congrArg Host.Outcome.next ((mbxCancel_eq hr h).trans ((if_neg (by simp [hst])).trans (if_neg hcode)))

end

theorem exec_mbxCancel_restore {r : MbxReq} (hr : mget s.mbx (mbxKey fn ch) = some r) (hcode : r.code = 0x0802) (hst : r.started = true) :
    exec (.mbxCancel fn ch) s = .next ({ s with fab := { s.fab with restore := none } }.mbxEnd (mbxKey fn ch) (.aborted 4)) :=
  congrArg Host.Outcome.next ((mbxCancel_eq hr (by simp [hcode])).trans ((if_neg (by simp [hst])).trans (if_pos hcode)))

/-- The state without its registers, draws and card ports. -/
def State.sansCards (s : State) : State := { s with regs := [], nrg := .off, cards := { s.cards with ports := [] } }

theorem sansCards_setScState (s : State) (p v : Nat) : (s.setScState p v).sansCards = s.sansCards := by
  unfold State.setScState State.scField
  split <;> rfl

/-- A port whose step ends, a relayed one apart. -/
def State.portStops (s : State) (p : Nat) : State :=
  if (s.scPort p).step = .relay then s
  else { s with cards := { s.cards with ports := mmod s.cards.ports p (fun q =>
    { q with step := .none, out := [], resp := [], ident := [], challenge := [], seed := [], share := 0, drawing := false }) } }

/-- A port that was BUSY with its own step is READY. -/
def State.portReadies (s : State) (p : Nat) : State :=
  if s.scState p = Sc.BUSY ∧ (s.scPort p).step ≠ .relay then s.setScState p Sc.READY else s

theorem endSteps_eq (s : State) : s.endSteps =
    s.cardPorts.foldl (fun (x : State) p => ((x.portStops p).dropWho (.card p)).portReadies p) s := rfl

theorem sansCards_portStops (s : State) (p : Nat) : (s.portStops p).sansCards = s.sansCards := by
  unfold State.portStops
  split <;> rfl

theorem sansCards_portReadies (s : State) (p : Nat) : (s.portReadies p).sansCards = s.sansCards := by
  unfold State.portReadies
  split
  · exact sansCards_setScState s p _
  · rfl

/-- Steps with cards that end touch the ports and their draws alone. -/
theorem endSteps_sansCards (s : State) : s.endSteps.sansCards = s.sansCards := by
  rw [endSteps_eq]
  exact foldl_keep State.sansCards _ (fun x p => (sansCards_portReadies ((x.portStops p).dropWho (.card p)) p).trans (sansCards_portStops x p)) _ s

/-- A card command that ends: no ceremony is left, a session in force stays, and keys are untouched. -/
theorem endCardCmd_does (s : State) (p : Reply) : (s.endCardCmd p).cards.ceremony = none ∧
    (∀ q, (s.endCardCmd p).cards.quorum = some q → q.inForce = true ∧ s.cards.quorum = some q) ∧ (s.endCardCmd p).ks = s.ks := by
  let kept := match s.cards.quorum with | some q => if q.inForce then some q else none | none => none
  let u : State := { s with cards := { s.cards with quorum := kept, ceremony := none } }
  have hsteps := endSteps_sansCards u
  have hend : ∃ t : State, s.endCardCmd p = t ∧ t.sansReply.sansCards = u.endSteps.sansReply.sansCards := by
    refine ⟨_, rfl, ?_⟩
    unfold State.endCardCmd
    dsimp only
    split
    · exact congrArg State.sansCards (mbxEnd_sansReply _ _ _)
    · rfl
  obtain ⟨t, ht, hsame⟩ := hend
  rw [ht]
  refine ⟨?_, fun q hq => ?_, ?_⟩
  · exact (field_of_erased hsame (fun x => x.cards.ceremony)).trans (field_of_erased hsteps (fun x => x.cards.ceremony))
  · have hkept : kept = some q := ((field_of_erased hsteps (fun x => x.cards.quorum)).symm.trans
      (field_of_erased hsame (fun x => x.cards.quorum)).symm).trans hq
    simp only [kept] at hkept
    split at hkept
    · next q' hq' =>
      split at hkept
      · next hforce =>
        obtain rfl := Option.some.inj hkept
        exact ⟨hforce, hq'⟩
      · cases hkept
    · cases hkept
  · exact (field_of_erased hsame State.ks).trans (field_of_erased hsteps State.ks)

end

/-! The obligation's clauses. -/

section
variable {s : State} {fn ch : Nat}

/-- GO on an idle channel with a request in order. -/
theorem exec_mbxGo_accepts (h : s.served fn ch = true) (hidle : s.mstat fn ch 1 = false ∧ s.mstat fn ch 2 = false)
    (hok : s.mbxCheck fn (s.mbxCopy fn ch) = 0) : ∃ t, exec (.mbxGo fn ch) s = .next t ∧ mget t.mbx (mbxKey fn ch) = some (s.mbxCopy fn ch) ∧
      t.mstat fn ch 1 = true ∧ t.tx = s.tx ∧ t.outcomes = s.outcomes ∧
      t.boot = (if (s.mbxCopy fn ch).code = 0x0A00 then s.boot else { s.boot with staging := false }) ∧
      ∀ k, k ≠ mbxKey fn ch → mget t.mbx k = mget s.mbx k := by
  obtain ⟨hmbx, hbusy, htx, houtcomes, -, -, hboot⟩ := mbxTaken_fields s fn ch
  exact ⟨_, exec_mbxGo_good h hidle hok, by rw [hmbx, mget_mput_same], hbusy, htx, houtcomes, hboot, fun k hk => by rw [hmbx, mget_mput_other _ _ _ _ hk]⟩

/-- GO on an idle channel with a request that fails a check. -/
theorem exec_mbxGo_rejects (hon : OnChannel fn ch) (h : s.served fn ch = true) (hidle : s.mstat fn ch 1 = false ∧ s.mstat fn ch 2 = false)
    (hbad : s.mbxCheck fn (s.mbxCopy fn ch) ≠ 0) : ∃ t, exec (.mbxGo fn ch) s = .next t ∧
      Responded t fn ch (s.mbxCopy fn ch) (.err (s.mbxCheck fn (s.mbxCopy fn ch))) ∧ t.outcomes = s.outcomes ∧ t.ks = s.ks ∧ t.lc = s.lc ∧
      ∀ k, k ≠ mbxKey fn ch → mget t.mbx k = mget s.mbx k := by
  obtain ⟨hmbx, -, -, houtcomes, hks, hlc, -⟩ := mbxTaken_fields s fn ch
  have hr : mget (s.mbxTaken fn ch).mbx (mbxKey fn ch) = some (s.mbxCopy fn ch) := by rw [hmbx, mget_mput_same]
  have hsame := mbxEnd_sansReply (s.mbxTaken fn ch) (mbxKey fn ch) (.err (s.mbxCheck fn (s.mbxCopy fn ch)))
  refine ⟨_, exec_mbxGo_bad h hidle hbad, mbxEnd_responded hon hr _, ?_, (field_of_erased hsame State.ks).trans hks,
    (field_of_erased hsame State.lc).trans hlc, fun k hk => ?_⟩
  · exact (mbxEnd_outcomes hon hr _).trans ((if_neg (by simp [State.mbxCopy, Reply.err])).trans houtcomes)
  · rw [mbxEnd_mbx hon hr, mget_mdel_other _ _ _ hk, hmbx, mget_mput_other _ _ _ _ hk]

variable {r : MbxReq} (hon : OnChannel fn ch) (hr : mget s.mbx (mbxKey fn ch) = some r)
include hon hr

/-- The outcome of a command that ends: recorded where it passes its commit point, or where none of its code has passed one since its own (R120). -/
theorem mbxEnd_recorded (p : Reply) : let t := s.mbxEnd (mbxKey fn ch) p
    let old := mget s.outcomes (fn * 65536 + r.code)
    (r.commit = false → p.commit = false → t.outcomes = s.outcomes) ∧
    (r.commit = false → p.commit = true → mget t.outcomes (fn * 65536 + r.code) = some (r.record p)) ∧
    (r.commit = true → (∃ o, old = some o ∧ o.owner = some (mbxKey fn ch)) → mget t.outcomes (fn * 65536 + r.code) = some (r.record p)) ∧
    (r.commit = true → (∀ o, old = some o → o.owner ≠ some (mbxKey fn ch)) → t.outcomes = s.outcomes) := by
  intro t old
  have hout : t.outcomes = _ := mbxEnd_outcomes hon hr p
  refine ⟨fun hrc hpc => ?_, fun hrc hpc => ?_, fun hrc ⟨o, ho, hown⟩ => ?_, fun hrc hnot => ?_⟩
  · rw [hout, if_neg (by simp [hrc, hpc])]
  · rw [hout, if_pos (by simp [hrc, hpc]), mget_mput_same]
  · have howns : s.ownsOutcome fn (mbxKey fn ch) r = true := by simp [State.ownsOutcome, show mget s.outcomes _ = _ from ho, hown]
    rw [hout, if_pos (by simp [hrc, howns]), mget_mput_same]
  · have hnone : s.ownsOutcome fn (mbxKey fn ch) r = false := by
      unfold State.ownsOutcome
      split
      · next o ho => simpa using hnot o ho
      · rfl
    rw [hout, if_neg (by simp [hrc, hnone])]

end

/-- Settles O41, from the end of a request and the three commands above. -/
theorem mailboxProtocol : Obligations.MailboxProtocol := by
  intro s fn ch hfn hch r key idle
  have hon := mbxChan_onChannel hfn hch
  refine ⟨exec_mbxGo_unserved, exec_mbxGo_overrun, fun h hidle hvf hno => ?foreign, exec_mbxGo_accepts, exec_mbxGo_rejects hon, exec_mbxAck_idle,
    exec_mbxAck_done hch, exec_mbxCancel_none, fun r' hr => ⟨fun p => ?ends, exec_mbxCancel_not hr, exec_mbxCancel_waiting hr,
      fun hcode hst => ?restore, fun hcode hst => ?card⟩⟩
  case foreign =>
    have hcheck := mbxCheck_foreign r hvf h hno
    obtain ⟨t, hexec, hresp, -⟩ := exec_mbxGo_rejects hon h hidle (by rw [hcheck]; decide)
    exact ⟨t, hexec, hcheck ▸ hresp⟩
  case ends =>
    obtain ⟨hsame, hcommits, howned, hlost⟩ := mbxEnd_recorded hon hr p
    exact ⟨mbxEnd_responded hon hr p, fun k hk => by rw [mbxEnd_mbx hon hr, mget_mdel_other _ _ _ hk], mbxEnd_tx hon hr p, hsame, hcommits, howned, hlost⟩
  case restore =>
    have hsame := mbxEnd_sansReply { s with fab := { s.fab with restore := none } } key (.aborted 4)
    exact ⟨_, exec_mbxCancel_restore hr hcode hst, mbxEnd_responded (s := { s with fab := { s.fab with restore := none } }) hon hr _,
      field_of_erased hsame (fun x => x.fab.restore),
      field_of_erased hsame State.ks⟩
  case card =>
    have hcanc : r'.code ∈ [0x0802, 0x0900, 0x0902, 0x0903, 0x0A00] := by
      simp only [List.mem_cons, List.not_mem_nil, or_false] at hcode ⊢
      tauto
    have hne : r'.code ≠ 0x0802 := fun h => by simp [h] at hcode
    obtain ⟨hceremony, hquorum, hks⟩ := endCardCmd_does s (.aborted 4)
    exact ⟨_, exec_mbxCancel_card hr hcanc hst hne, hceremony, hquorum, hks⟩

end Sys2Proof.Machine
end

section
/-!
SUPPORT. Management commands that report (spec files 04, 05, 06, 11 and 13): DEV_INFO, CONFIG_READ, OUTCOME_QUERY, the lists, the logs, the
certificates and the attestation statement.
-/
namespace Sys2Proof.Machine
open Sys2Proof

/-! Rows that report. -/

section
variable {s : State} {fn ch code : Nat} {r : MbxReq} {f : MbxReq → Course}

/-- A row that reports data, inline where they fit (R118). -/
theorem mbxRow1_data {l : List Byte} (h : Accepted s fn ch code r) (hf : f r = .done s (.data l)) : mbxRow1 code fn ch f s =
    .next (answer s s fn ch r (if l.length ≤ 52 then ⟨0, l, [], 0, false⟩ else ⟨0, [], l, 0, false⟩)) := mbxRow1_done h hf

/-- A row that asks for key-grade bytes first (R271). -/
theorem mbxRow1_ask {n : Nat} (h : Accepted s fn ch code r) (hf : f r = .ask n) :
    mbxRow1 code fn ch f s = .next (s.mbxAsk (mbxKey fn ch) n) := by
  obtain ⟨hget, hcode, hstart⟩ := h
  simp [mbxRow1, mbxRow, hget, hcode, hstart, hf]

/-- A generator in FAULT gives nothing (R274). -/
theorem mbxAsk_down (key n : Nat) (h : s.nrgDown = true) : s.mbxAsk key n = s.mbxEnd key (.err St.ENTROPY_FAULT) := if_pos h

/-- The first draw of a request joins the queue; nothing else changes. -/
theorem mbxAsk_joins {key : Nat} (n : Nat) (h : s.nrgDown = false) (hfirst : ∀ q ∈ s.nrg.queue, q.who ≠ .mailbox key) :
    s.mbxAsk key n = { s with nrg := { s.nrg with queue := s.nrg.queue ++ [⟨2, 21, .mailbox key, n, s.now⟩] } } := by
  have hnone : ¬ (s.nrg.queue.any (fun r => r.who == .mailbox key)) = true := by simpa using hfirst
  exact (if_neg (by simp [h])).trans (if_neg hnone)

end

/-! The device and its configuration (R122, R305). -/

section
variable {s : State} {fn ch : Nat} {r : MbxReq}

theorem exec_devInfo (h : Accepted s fn ch 0x0100 r) : exec (.devInfo fn ch) s = .next (answer s s fn ch r ⟨0, natLE 4 (s.look 0 Reg.GLB_ID).toNat ++
    natLE 4 (s.look 0 Reg.GLB_VERSION).toNat ++ natLE 4 s.capsWord.toNat ++ natLE 4 s.lc.code ++ natLE 4 s.boot.svn ++
    fixLen 32 (Config.subjectKeyId s.identityPub), [], 0, false⟩) := by
  change execDevInfo fn ch s = _
  exact mbxRow1_done h rfl

/-- The inline part of CONFIG_READ: the bank in force, what the two banks hold, the least version and the signer. -/
def State.cfgReport (s : State) (i : Nat) : List Byte :=
  let seq := fun (i : Nat) => if s.cfgValid (s.cfgBank i) then imgSeq (s.cfgBank i).image else 0
  let valid := fun (i : Nat) => (if s.cfgValid (s.cfgBank i) then 1 else 0 : Byte)
  [BitVec.ofNat 8 i, valid 0, valid 1, BitVec.ofNat 8 s.boot.cfgMin] ++ natLE 4 (seq 0) ++ natLE 4 (seq 1) ++
    ((s.boot.signer.map (·.take 16)).getD (zeros 16)) ++ zeros 4

theorem ofNat_b2n (b : Bool) : BitVec.ofNat 8 (b2n b) = if b = true then 1 else 0 := by cases b <;> rfl

/-- The image goes to the response buffer where there is one. -/
def State.cfgBytes (s : State) (r : MbxReq) : List Byte :=
  match s.boot.cfgLoaded with | some i => if r.rext then (s.cfgBank i).image ++ (s.cfgBank i).commit else [] | none => []

theorem exec_configRead (h : Accepted s fn ch 0x0101 r) : exec (.configRead fn ch) s =
    .next (answer s s fn ch r ⟨0, s.cfgReport (s.boot.cfgLoaded.getD 0xFF), s.cfgBytes r, 0, false⟩) := by
  change execConfigRead fn ch s = _
  refine mbxRow1_done h (congrArg (fun l => Course.done s ⟨0, l, s.cfgBytes r, 0, false⟩) ?_)
  dsimp only [State.cfgReport]
  rw [List.map_cons, List.map_cons, List.map_cons, ofNat_b2n, ofNat_b2n]
  cases s.boot.cfgLoaded <;> cases s.boot.signer <;> rfl

theorem cfgBytes_none (h : s.boot.cfgLoaded = none ∨ r.rext = false) : s.cfgBytes r = [] := by
  unfold State.cfgBytes
  split
  · next i hi => simp [h.resolve_left (by simp [hi])]
  · rfl

theorem cfgBytes_some {i : Nat} (h : s.boot.cfgLoaded = some i) (hr : r.rext = true) : s.cfgBytes r = (s.cfgBank i).image ++ (s.cfgBank i).commit := by
  simp [State.cfgBytes, h, hr]

/-! Outcomes and allotments (R63, R120). -/

theorem exec_outcomeQuery_short (h : Accepted s fn ch 0x0103 r) (hlen : r.inl.length < 2) : exec (.outcomeQuery fn ch) s = refuse s fn ch St.BAD_FIELD := by
  change execOutcomeQuery fn ch s = _
  exact mbxRow1_bad h (if_pos hlen)

/-- An outcome that is not there shows as zeros. -/
theorem noOutcome_bytes : natLE 2 0 ++ [BitVec.ofNat 8 0, BitVec.ofNat 8 (if 0 = 2 then 0 else 0)] ++ zeros 2 ++ fixLen 40 [] ++ natLE 4 0 = zeros 50 := by
  decide

/-- The answer shows the record under the code, zeros where there is none. -/
theorem exec_outcomeQuery (h : Accepted s fn ch 0x0103 r) (hlen : 2 ≤ r.inl.length) {o : Outcome}
    (ho : (mget s.outcomes (fn * 65536 + leAt r.inl 0 2)).getD ⟨0, 0, 0, [], 0, none⟩ = o) : exec (.outcomeQuery fn ch) s =
      .next (answer s s fn ch r ⟨0, natLE 2 (leAt r.inl 0 2) ++ natLE 2 o.seq ++ [BitVec.ofNat 8 o.state, BitVec.ofNat 8 (if o.state = 2 then o.status else 0)] ++
        zeros 2 ++ fixLen 40 o.inline ++ natLE 4 o.bytes, [], 0, false⟩) := by
  subst ho
  change execOutcomeQuery fn ch s = _
  exact mbxRow1_done h (if_neg (Nat.not_lt.mpr hlen))

theorem exec_resQuery_vf (h : Accepted s fn ch 0x0200 r) (hvf : fn ≠ 0) (hfn : fn < 2048) : let f := s.fn fn
    exec (.resQuery fn ch) s = .next (answer s s fn ch r ⟨0, natLE 4 fn ++ natLE 4 f.qps ++ natLE 4 (s.vecs fn) ++ natLE 4 f.weight ++ natLE 4 f.ctx ++
      natLE 4 f.cap ++ natLE 4 f.key4k ++ natLE 4 f.keyObj ++ natLE 4 f.opm4k ++ natLE 8 f.spillAddr ++ natLE 4 f.spillLen ++
      natLE 4 (bitmapOf 12 (s.dedicated fn)), [], 0, false⟩) := by
  change execResQuery fn ch s = _
  refine mbxRow1_done h ?_
  simp only [if_neg hvf, if_neg (Nat.not_le.mpr hfn)]
  rfl

theorem exec_resQuery_bad (h : Accepted s fn ch 0x0200 r) (hpf : fn = 0) (hbad : 2048 ≤ leAt r.inl 0 2) :
    exec (.resQuery fn ch) s = refuse s fn ch St.BAD_FIELD := by
  change execResQuery fn ch s = _
  exact mbxRow1_bad h (if_pos (by rwa [if_pos hpf]))

/-! Lists and logs (R162, R163, R190, R343). -/

theorem exec_keyList_bad (h : Accepted s fn ch 0x0300 r) (hbad : 2048 ≤ r.target fn) : exec (.keyList fn ch) s = refuse s fn ch St.BAD_FIELD := by
  change execKeyList fn ch s = _
  exact mbxRow1_bad h (if_pos hbad)

theorem exec_keyList (h : Accepted s fn ch 0x0300 r) (hf : r.target fn < 2048) {l : List Byte}
    (hl : (((s.objsOf (r.target fn)).drop (128 * leAt r.inl 2 2)).take 128).flatMap (fun o => natLE 4 o.1 ++ o.2.record) = l) : exec (.keyList fn ch) s =
      .next (answer s s fn ch r (if l.length ≤ 52 then ⟨0, l, [], 0, false⟩ else ⟨0, [], l, 0, false⟩)) := by
  subst hl
  change execKeyList fn ch s = _
  exact mbxRow1_data h (if_neg (Nat.not_le.mpr hf))

theorem exec_kernelList (h : Accepted s fn ch 0x0403 r) : exec (.kernelList fn ch) s = .next (answer s s fn ch r
    ⟨0, natLE 4 (s.kernels.filter (·.current)).length, (s.kernels.filter (·.current)).flatMap Kernel.entry64, 0, false⟩) := by
  change execKernelList fn ch s = _
  exact mbxRow1_done h rfl

theorem exec_sillageRead (h : Accepted s fn ch 0x0501 r) (hlen : 4 ≤ r.inl.length) (hn : 0 < leAt r.inl 2 2)
    (hin : leAt r.inl 0 2 + leAt r.inl 2 2 ≤ s.boot.sillage.length) {l : List Byte}
    (hl : ((s.boot.sillage.drop (leAt r.inl 0 2)).take (leAt r.inl 2 2)).flatten = l) : exec (.sillageRead fn ch) s =
      .next (answer s s fn ch r (if l.length ≤ 52 then ⟨0, l, [], 0, false⟩ else ⟨0, [], l, 0, false⟩)) := by
  subst hl
  change execSillageRead fn ch s = _
  exact mbxRow1_data h (if_neg (by omega))

theorem exec_sillageRead_beyond (h : Accepted s fn ch 0x0501 r) (hout : s.boot.sillage.length < leAt r.inl 0 2 + leAt r.inl 2 2) :
    exec (.sillageRead fn ch) s = refuse s fn ch St.BAD_FIELD := by
  change execSillageRead fn ch s = _
  exact mbxRow1_bad h (if_pos (.inr (.inr hout)))

theorem exec_certRead (h : Accepted s fn ch 0x0502 r) {l : List Byte} (hl : Config.certificates s.identityPub s.aliasPub s.boot.fw s.lc.code = l) :
    exec (.certRead fn ch) s = .next (answer s s fn ch r (if l.length ≤ 52 then ⟨0, l, [], 0, false⟩ else ⟨0, [], l, 0, false⟩)) := by
  subst hl
  change execCertRead fn ch s = _
  exact mbxRow1_data h rfl

theorem exec_fwStatus (h : Accepted s fn ch 0x0A05 r) : let b := s.bank (1 - s.boot.bank)
    exec (.fwStatus fn ch) s = .next (answer s s fn ch r ⟨0, ([s.boot.bank, if b.failed = true then 4 else b.state.code, s.lc.minSvn, s.boot.svn,
      if b.state = .invalid then 0xFF else (Config.fwSvn b.bytes).toNat].map (BitVec.ofNat 8)) ++ zeros 3 ++ natLE 4 b.len, [], 0, false⟩) := by
  change execFwStatus fn ch s = _
  exact mbxRow1_done h rfl

theorem exec_peatLogRead (h : Accepted s fn ch 0x0702 r) (hlen : 5 ≤ r.inl.length) (hlo : 1 ≤ leAt r.inl 4 1) (hhi : leAt r.inl 4 1 ≤ 64) :
    let l := s.peat.log.filter (fun e => decide (leAt r.inl 0 4 ≤ leAt e 12 4) && decide (leAt e 12 4 < leAt r.inl 0 4 + leAt r.inl 4 1))
    exec (.peatLogRead fn ch) s = .next (answer s s fn ch r ⟨0, [BitVec.ofNat 8 l.length], l.flatten, 0, false⟩) := by
  change execPeatLogRead fn ch s = _
  exact mbxRow1_done h (if_neg (by omega))

theorem exec_peatLogRead_bad (h : Accepted s fn ch 0x0702 r) (hbad : r.inl.length < 5 ∨ leAt r.inl 4 1 = 0 ∨ 64 < leAt r.inl 4 1) :
    exec (.peatLogRead fn ch) s = refuse s fn ch St.BAD_FIELD := by
  change execPeatLogRead fn ch s = _
  exact mbxRow1_bad h (if_pos hbad)

/-! The attestation statement (R163, R164). -/

section
variable {host : HostRead} (h : Accepted s fn ch 0x0500 r)
include h

section
variable (hext : r.ext = false)
include hext

theorem exec_attest_nonce (hbad : r.inl.length < 8 ∨ 64 < r.inl.length) : exec (.attest fn ch host) s = refuse s fn ch St.BAD_FIELD := by
  change execAttest fn ch host s = _
  refine mbxRow1_bad h ?_
  simp only [hext, MbxReq.payload, Bool.false_and, Bool.false_eq_true, if_false]
  exact if_pos (by omega)

variable (hlo : 8 ≤ r.inl.length) (hhi : r.inl.length ≤ 64) (hfn : fn < 2048)
include hlo hhi hfn

theorem exec_attest_inline (hrand : 88 ≤ r.rand.length) : exec (.attest fn ch host) s =
    .next (answer s s fn ch r (.data (s.statement r.rand (s.claims r.inl fn none)))) := by
  change execAttest fn ch host s = _
  refine mbxRow1_done h ?_
  simp only [hext, MbxReq.payload, Bool.false_and, Bool.false_eq_true, if_false]
  exact (if_neg (by omega)).trans (if_neg (by omega))

theorem exec_attest_asks (hrand : r.rand.length < 88) : exec (.attest fn ch host) s = .next (s.mbxAsk (mbxKey fn ch) 88) := by
  change execAttest fn ch host s = _
  refine mbxRow1_ask h ?_
  simp only [hext, MbxReq.payload, Bool.false_and, Bool.false_eq_true, if_false]
  exact (if_neg (by omega)).trans (if_pos hrand)

end

/-- The record of a key found, resident or a blob. -/
def attested (m : KeyMat) (o : Option KeyObj) : List Byte := match o with | some x => x.record | none => m.attrs

/-- With a buffer that names a key, its record stands among the claims. -/
theorem exec_attest_key {m : KeyMat} {o : Option KeyObj} {p : List Byte} (hp : fixLen r.reqLen host.input = p) (hext : r.ext = true) (hvf : fn ≠ 0)
    (hfn : fn < 2048) (hlo : 16 ≤ r.reqLen) (hhi : r.reqLen ≤ 72) (hnames : leAt p 2 1 = 1) (hblob : s.noDsk = true → handleClass (leAt p 4 4) ≠ 1)
    (hkey : s.resolve fn (leAt p 4 4) host.blobs = .key m o) (hcurve : s.curveHolds m = true) (hrand : 88 ≤ r.rand.length) :
    exec (.attest fn ch host) s = .next (answer s s fn ch r (.data (s.statement r.rand (s.claims (p.drop 8) fn
      (some (leAt p 4 4, attested m o, m.pub)))))) := by
  have hlen : (p.drop 8).length = r.reqLen - 8 := by rw [← hp, List.length_drop, fixLen_length]
  have hno : (fn == 0) = false := beq_eq_false_iff_ne.mpr hvf
  have hone : (leAt p 2 1 == 1) = true := beq_iff_eq.mpr hnames
  change execAttest fn ch host s = _
  refine mbxRow1_done h ?_
  simp only [MbxReq.payload, hext, if_true, hp, hno, hone, Bool.and_false, Bool.and_true, Bool.false_eq_true, if_false]
  refine (if_neg (by omega)).trans ((if_neg (fun hb => hblob hb.1 hb.2)).trans ?_)
  rw [hkey]
  simp only [hcurve, Bool.not_true, Bool.false_eq_true, if_false, if_neg (Nat.not_lt.mpr hrand)]
  rfl

end

end

/-- Settles O42, row by row. -/
theorem mailboxReports : Obligations.MailboxReports := by
  intro s fn ch r host ans ok data bank other seq valid cfg
  refine ⟨exec_devInfo, fun h hnone => ?noImage, fun i h hi hrext => ?image, exec_outcomeQuery_short, fun o h hlen ho => ?outcome, fun h hlen ho => ?noOutcome,
    exec_resQuery_vf, exec_resQuery_bad, exec_keyList_bad, fun h hf => exec_keyList h hf rfl, exec_kernelList, fun h hlen hn hin => exec_sillageRead h hlen hn hin rfl,
    exec_sillageRead_beyond, fun h => exec_certRead h rfl, exec_fwStatus, fun h hext hlo hhi hfn => ⟨?signed, fun hrand hup hfirst => ?asks, fun hrand hdown => ?down⟩,
    exec_attest_nonce, ?key, exec_peatLogRead, exec_peatLogRead_bad⟩
  case noImage =>
    rw [exec_configRead h, cfgBytes_none hnone]
    rfl
  case image =>
    rw [exec_configRead h, cfgBytes_some hi hrext, hi]
    rfl
  case outcome => exact exec_outcomeQuery h hlen (by rw [ho]; rfl)
  case noOutcome =>
    rw [exec_outcomeQuery h hlen (o := ⟨0, 0, 0, [], 0, none⟩) (by rw [ho]; rfl), ← noOutcome_bytes]
    simp only [List.append_assoc]
    rfl
  case signed => exact exec_attest_inline h hext hlo hhi hfn
  case asks => rw [exec_attest_asks h hext hlo hhi hfn hrand, mbxAsk_joins 88 hup hfirst]
  case down =>
    rw [exec_attest_asks h hext hlo hhi hfn hrand, mbxAsk_down _ _ hdown]
    rfl
  case key =>
    intro m o h hext hvf hfn p k hlo hhi hnames hblob hkey hcurve hrand
    exact exec_attest_key h rfl hext hvf hfn hlo hhi hnames hblob hkey hcurve hrand

end Sys2Proof.Machine
end

section
/-!
SUPPORT. Firmware banks (spec file 04, R123, R124; spec file 11, R299, R300): the commands that take a bank through its states, a host-pushed
image, and the end of a trial.
-/
namespace Sys2Proof.Machine
open Sys2Proof

/-! Banks. -/

/-- The device has its two banks, and one of them runs. -/
structure TwoBanks (s : State) : Prop where
  length : s.boot.banks.length = 2
  running : s.boot.bank ≤ 1

section
variable {s : State}

theorem bank_of_boot {t : State} (h : t.boot.banks = s.boot.banks) (i : Nat) : t.bank i = s.bank i := by rw [State.bank, h, State.bank]

theorem bank_setBank_same {i : Nat} (h : i < s.boot.banks.length) (b : FwBank) : (s.setBank i b).bank i = b := by
  simp [State.bank, State.setBank, h]

theorem bank_setBank_other {i j : Nat} (h : j ≠ i) (b : FwBank) : (s.setBank i b).bank j = s.bank j := by
  simp [State.bank, State.setBank, List.getElem?_set_ne h.symm]

variable (hb : TwoBanks s)
include hb

theorem otherBank_ne : s.boot.bank ≠ s.otherBank := by
  have := hb.running
  unfold State.otherBank
  omega

theorem otherBank_lt : s.otherBank < s.boot.banks.length := by
  have := hb.length
  unfold State.otherBank
  omega

theorem running_lt : s.boot.bank < s.boot.banks.length := by
  have := hb.length
  have := hb.running
  omega

/-- The bank that is not running takes a value; the running one stays. -/
theorem setBank_otherBank (b : FwBank) : (s.setBank s.otherBank b).bank s.otherBank = b ∧
    (s.setBank s.otherBank b).bank s.boot.bank = s.bank s.boot.bank :=
  ⟨bank_setBank_same (otherBank_lt hb) b, bank_setBank_other (otherBank_ne hb) b⟩

/-- The running bank takes a value; the other one stays. -/
theorem setBank_running (b : FwBank) : (s.setBank s.boot.bank b).bank s.boot.bank = b ∧
    (s.setBank s.boot.bank b).bank s.otherBank = s.bank s.otherBank :=
  ⟨bank_setBank_same (running_lt hb) b, bank_setBank_other (otherBank_ne hb).symm b⟩

end

/-! FW_STAGE (R123). -/

section
variable {s : State} {fn ch : Nat} {r : MbxReq} {req : List Byte}

theorem exec_fwStage_bad (h : Accepted s fn ch 0x0A00 r) (hbad : r.ext = false ∨ r.inl.length < 4 ∨ 32 * 2 ^ 20 < leAt r.inl 0 4 + r.reqLen) :
    exec (.fwStage fn ch req) s = refuse s fn ch St.BAD_FIELD := by
  change execFwStage fn ch req s = _
  exact mbxRow1_bad h (if_pos (by simpa using hbad))

/-- The bank with a chunk written at an offset; one that starts a staging is blank before. -/
def State.stagedBank (s : State) (off len : Nat) (chunk : List Byte) : FwBank :=
  let b := if s.boot.staging then s.bank s.otherBank else .blank
  { state := .invalid, image := writeBytes b.image off chunk, len := Nat.max b.len (off + len), failed := false }

/-- What the chunk does not name reads as before, or as zero where the staging starts. -/
theorem stagedBank_outside (s : State) {off len a : Nat} {chunk : List Byte} (hlen : chunk.length = len) (h : a < off ∨ off + len ≤ a) :
    readByte (s.stagedBank off len chunk).image a = if s.boot.staging then readByte (s.bank s.otherBank).image a else 0 := by
  refine (readByte_writeBytes_other _ _ _ _ (hlen ▸ h)).trans ?_
  split <;> rfl

theorem exec_fwStage_done (h : Accepted s fn ch 0x0A00 r) (hb : TwoBanks s) (hext : r.ext = true) (hlen : 4 ≤ r.inl.length)
    (hfits : leAt r.inl 0 4 + r.reqLen ≤ 32 * 2 ^ 20) : ∃ t : State, exec (.fwStage fn ch req) s = .next (t.mbxEnd (mbxKey fn ch) ⟨0, [], [], 0, false⟩) ∧
      t.bank s.otherBank = s.stagedBank (leAt r.inl 0 4) r.reqLen (r.payload req) ∧ t.boot.staging = true ∧
      t.bank s.boot.bank = s.bank s.boot.bank ∧ t.boot.bank = s.boot.bank := by
  let t := s.setBank s.otherBank (s.stagedBank (leAt r.inl 0 4) r.reqLen (r.payload req))
  obtain ⟨hother, hrunning⟩ := setBank_otherBank hb (s.stagedBank (leAt r.inl 0 4) r.reqLen (r.payload req))
  refine ⟨{ t with boot := { t.boot with staging := true } }, ?_, hother, rfl, hrunning, rfl⟩
  change execFwStage fn ch req s = _
  refine mbxRow1_inline h (if_neg ?_) rfl
  simp only [hext, Bool.not_true, Bool.false_eq_true, false_or]
  omega

theorem payload_length (hext : r.ext = true) : (r.payload req).length = r.reqLen := by simp [MbxReq.payload, hext]

/-! FW_VERIFY, FW_ACTIVATE, FW_CONFIRM and FW_COMMIT_SVN (R123, R124). -/

theorem exec_fwVerify_bad (h : Accepted s fn ch 0x0A01 r) (hbad : s.fwCheck (s.bank s.otherBank).bytes ≠ 0) :
    exec (.fwVerify fn ch) s = refuse s fn ch (s.fwCheck (s.bank s.otherBank).bytes) := by
  change execFwVerify fn ch s = _
  exact mbxRow1_bad h (if_pos hbad)

theorem exec_fwVerify_done (h : Accepted s fn ch 0x0A01 r) (hok : s.fwCheck (s.bank s.otherBank).bytes = 0) : exec (.fwVerify fn ch) s =
    .next ((s.setBank s.otherBank { s.bank s.otherBank with state := .staged }).mbxEnd (mbxKey fn ch) ⟨0, [], [], 0, false⟩) := by
  change execFwVerify fn ch s = _
  exact mbxRow1_inline h (if_neg (not_not.mpr hok)) rfl

theorem exec_fwActivate_bad (h : Accepted s fn ch 0x0A02 r) (hbad : (s.bank s.otherBank).state ≠ .staged) :
    exec (.fwActivate fn ch) s = refuse s fn ch St.STATE := by
  change execFwActivate fn ch s = _
  exact mbxRow1_bad h (if_neg hbad)

theorem exec_fwActivate_done (h : Accepted s fn ch 0x0A02 r) (hok : (s.bank s.otherBank).state = .staged) : exec (.fwActivate fn ch) s =
    .next ((s.setBank s.otherBank { s.bank s.otherBank with state := .trial }).mbxEnd (mbxKey fn ch) ⟨0, [], [], 0, true⟩) := by
  change execFwActivate fn ch s = _
  exact mbxRow1_inline h (if_pos hok) rfl

theorem exec_fwConfirm_bad (h : Accepted s fn ch 0x0A03 r) (hbad : s.boot.trial = false ∨ (s.bank s.boot.bank).state ≠ .trial) :
    exec (.fwConfirm fn ch) s = refuse s fn ch St.STATE := by
  change execFwConfirm fn ch s = _
  refine mbxRow1_bad h (if_neg ?_)
  rw [Bool.and_eq_true, beq_iff_eq]
  rintro ⟨htrial, hstate⟩
  exact hbad.elim (fun hno => absurd htrial (by simp [hno])) (fun hno => hno hstate)

/-- The state after FW_CONFIRM: the running bank is confirmed and preferred. -/
def State.confirmed (s : State) : State :=
  let t := s.setBank s.boot.bank { s.bank s.boot.bank with state := .confirmed, failed := false }
  { t with boot := { t.boot with trial := false, prefer := s.boot.bank } }

theorem exec_fwConfirm_done (h : Accepted s fn ch 0x0A03 r) (htrial : s.boot.trial = true) (hstate : (s.bank s.boot.bank).state = .trial) :
    exec (.fwConfirm fn ch) s = .next (s.confirmed.mbxEnd (mbxKey fn ch) ⟨0, [], [], 0, true⟩) := by
  change execFwConfirm fn ch s = _
  exact mbxRow1_inline h (if_pos (by simp [htrial, hstate])) rfl

theorem exec_fwCommitSvn_bad (h : Accepted s fn ch 0x0A04 r) (hbad : (s.bank s.boot.bank).state ≠ .confirmed ∨ s.boot.pushed = true) :
    exec (.fwCommitSvn fn ch) s = refuse s fn ch St.STATE := by
  change execFwCommitSvn fn ch s = _
  refine mbxRow1_bad h (if_neg ?_)
  rintro ⟨hstate, hpushed⟩
  exact hbad.elim (fun hno => hno hstate) (fun hno => by simp [hno] at hpushed)

theorem exec_fwCommitSvn_done (h : Accepted s fn ch 0x0A04 r) (hstate : (s.bank s.boot.bank).state = .confirmed) (hpushed : s.boot.pushed = false) :
    exec (.fwCommitSvn fn ch) s =
      .next ({ s with lc := { s.lc with minSvn := max s.lc.minSvn s.boot.svn } }.mbxEnd (mbxKey fn ch) ⟨0, [], [], 0, true⟩) := by
  change execFwCommitSvn fn ch s = _
  exact mbxRow1_inline h (if_pos ⟨hstate, by simp [hpushed]⟩) rfl

/-! A host-pushed image (R300). -/

theorem exec_kindlingLoad_bad (h : Accepted s fn ch 0x0A10 r) (hext : r.ext = false) :
    exec (.kindlingLoad fn ch req) s = refuse s fn ch St.BAD_FIELD := by
  change execKindlingLoad fn ch req s = _
  exact mbxRow1_bad h (if_pos (by simp [hext]))

theorem exec_kindlingLoad_fails (h : Accepted s fn ch 0x0A10 r) (hext : r.ext = true) (hbad : s.fwCheck (r.payload req) ≠ 0) :
    exec (.kindlingLoad fn ch req) s = refuse s fn ch (s.fwCheck (r.payload req)) := by
  change execKindlingLoad fn ch req s = _
  exact mbxRow1_bad h ((if_neg (by simp [hext])).trans (if_pos hbad))

theorem exec_kindlingLoad_done (h : Accepted s fn ch 0x0A10 r) (hext : r.ext = true) (hok : s.fwCheck (r.payload req) = 0) :
    exec (.kindlingLoad fn ch req) s = .next (({ s with boot := { s.boot with pushed := true } }.startImage (r.payload req)).mbxEnd (mbxKey fn ch)
      ⟨0, [], [], 0, false⟩) := by
  change execKindlingLoad fn ch req s = _
  exact mbxRow1_inline h ((if_neg (by simp [hext])).trans (if_neg (not_not.mpr hok))) rfl

/-- An image that starts: the firmware stage, its measurement, and one more log entry; banks and fuses stay. -/
theorem startImage_does (s : State) (img : List Byte) : let t := s.startImage img
    t.boot.stage = .firmware ∧ t.boot.fw = sha3_384 img ∧ t.boot.banks = s.boot.banks ∧ t.boot.bank = s.boot.bank ∧ t.boot.pushed = s.boot.pushed ∧
      t.lc = s.lc ∧ t.peat = s.peat ∧ t.boot.sillage.length = s.boot.sillage.length + 1 :=
  ⟨rfl, rfl, rfl, rfl, rfl, rfl, rfl, List.length_append⟩

/-! Trials (R124). -/

/-- A running trial that is abandoned is marked, and nothing else changes. -/
theorem failTrial_trial (htrial : s.boot.trial = true) (hstate : (s.bank s.boot.bank).state = .trial) : s.failTrial =
    s.setBank s.boot.bank { s.bank s.boot.bank with state := .trialFailed, failed := true } := if_pos ⟨htrial, hstate⟩

/-- The state without its banks. -/
def State.sansBanks (s : State) : State := { s with boot := { s.boot with banks := [] } }

theorem failTrial_sansBanks (s : State) : s.failTrial.sansBanks = s.sansBanks := by
  unfold State.failTrial
  split <;> rfl

theorem exec_trialReadyTimeout_idle (h : s.boot.stage ≠ .firmware ∨ s.boot.trial = false) : exec .trialReadyTimeout s = .next s := by
  refine congrArg Host.Outcome.next ?_
  by_cases hstage : s.boot.stage = .firmware
  · have htrial := h.resolve_left (not_not.mpr hstage)
    exact (if_pos hstage).trans (if_neg (by simp [htrial]))
  · exact if_neg hstage

theorem exec_trialReadyTimeout_fails (hstage : s.boot.stage = .firmware) : exec .trialReadyTimeout s = .next s.failTrial :=
  congrArg Host.Outcome.next (if_pos hstage)

end

end Sys2Proof.Machine
end

section
/-!
SUPPORT. Hearth's failover and the watchdogs (spec file 04, R125 to R127): lockstep mismatches, self-tests of a pair, and the expiries that
retire a dispatcher core or reset the device.
-/
namespace Sys2Proof.Machine
open Sys2Proof

/-! What an event leaves of the boot. -/

section
variable {s : State}

theorem writeCq_boot (s : State) (fn q id : Nat) (entry : List Byte) (irq ok : Bool) : (s.writeCq fn q id entry irq ok).boot = s.boot := by
  have hwritten : (s.entryWritten fn q id entry ok).boot = s.boot := State.memWrite_boot s fn _ _ _
  rw [writeCq_eq]
  unfold State.countIrq
  dsimp only
  (repeat' split) <;> simp [hwritten]

theorem completeTop_boot (s : State) (id : Nat) (c : Cmd) (entry : List Byte) (ok : Bool) : (s.completeTop id c entry ok).boot = s.boot := by
  simp only [State.completeTop]
  split
  · split
    · rfl
    · exact writeCq_boot _ _ _ _ _ _ _
  · rfl

theorem summary_boot (s : State) (bid : Nat) (b : Batch) : (s.summary bid b).boot = s.boot := by
  unfold State.summary
  split
  · rfl
  · exact completeTop_boot _ _ _ _ _

theorem writeOut_boot (s : State) (c : Cmd) (off : Nat) (data : List Byte) (relaxed : Bool) : (s.writeOut c off data relaxed).boot = s.boot :=
  foldl_keep State.boot _ (fun _ _ => State.memWrite_boot _ _ _ _ _) _ s

theorem memberDone_boot (s : State) (bid i tag : Nat) (d : Done) (replayed : Bool) (time : Word) :
    (s.memberDone bid i tag d replayed time).boot = s.boot := by
  unfold State.memberDone
  split
  · dsimp only
    split <;> simp [summary_boot, writeOut_boot]
  · rfl

/-- The end of a command does not concern the boot. -/
theorem complete_boot (s : State) (id : Nat) (d : Done) : (s.complete id d).boot = s.boot := by
  cases hc : mget s.cmds id with
  | none => simp only [State.complete, hc]
  | some c =>
    have hended : (s.ended id c d).boot = s.boot := field_of_erased (ended_sansWork s id c d) State.boot
    cases hm : c.member with
    | none => rw [complete_top d hc hm, completeTop_boot, hended]
    | some m => rw [complete_member d hc hm, memberDone_boot, hended]

/-- Nor does the clear of the digest engines (R242). -/
theorem dgeClear_boot (s : State) : s.dgeClear.boot = s.boot := by
  unfold State.dgeClear
  exact foldl_keep State.boot _ (fun x i => complete_boot x i _) _ _

/-- Any event is recorded and reported; one of class F clears the digest engines, and a full reset may follow (R361, R362). -/
theorem fault_shape (s : State) (src cls : Nat) (active rail respond : Bool) : ∃ u : State, u.sansReports = s.sansReports ∧
    s.fault src cls active rail respond = if cls = clsF then
      (if u.dgeClear.rdB Reg.FLT_CTRL 7 then u.dgeClear.fullReset [6] else u.dgeClear) else u := by
  have hrecord : ∀ r : FltSrc, ({ s with flt := mput s.flt src r } : State).sansReports = s.sansReports := fun _ => rfl
  refine ⟨_, ?_, rfl⟩
  (repeat' split) <;> simp [hrecord]

theorem flt1_fatal_shape (s : State) (src : Nat) : ∃ u : State, u.boot = s.boot ∧ (s.flt1 src clsF = u ∨ s.flt1 src clsF = u.fullReset [6]) := by
  obtain ⟨u, hsame, heq⟩ := fault_shape s src clsF false false false
  refine ⟨u.dgeClear, (dgeClear_boot u).trans (field_of_erased hsame State.boot), ?_⟩
  rw [State.flt1, heq, if_pos rfl]
  split
  · exact .inr rfl
  · exact .inl rfl

end

/-! The full reset (R297). -/

section
variable {s : State}

/-- The device is in reset by a cause, and no command is left. -/
structure InReset (t : State) (c : Nat) : Prop where
  stage : t.boot.stage = .inReset
  cmds : t.cmds = []
  cause : t.rdB Reg.RST_CAUSE c = true

theorem fullReset_inReset (h : s.boot.stage.runs) {c : Nat} (hc : c ≤ 15) : InReset (s.fullReset [c]) c := by
  have hdone := (fullReset_done h hc).1
  exact ⟨hdone.stage, hdone.cmds, hdone.cause⟩

/-- A cause that joins a reset in progress. -/
theorem fullReset_joined {d : Nat} (h : InReset s d) {c : Nat} (hc : c < 32) : InReset (s.fullReset [c]) c := by
  have hstage : ¬ s.boot.stage.runs := by simp [Stage.runs, h.stage]
  obtain ⟨hsame, hcause⟩ := fullReset_joins hstage hc
  exact ⟨(field_of_erased hsame (fun x => x.boot.stage)).trans h.stage, (field_of_erased hsame State.cmds).trans h.cmds, hcause⟩

/-- The firmware banks outlast a full reset. -/
theorem fullReset_banks (h : s.boot.stage.runs) {c : Nat} (hc : c ≤ 15) : (s.fullReset [c]).boot.banks = s.boot.banks := by
  have hnot : ¬ (s.boot.stage = .inReset ∨ s.boot.stage = .heldOff ∨ s.boot.stage = .off) := by simpa [Stage.runs] using h
  have hnoted : (s.noteReset [c]).boot.banks = s.boot.banks := field_of_erased (noteReset_noted s hc).same (fun x => x.boot.banks)
  have hdropped : ∀ x : State, x.dropHost.boot.banks = x.boot.banks := fun x => field_of_erased (giveBack_sansWork x) (fun y => y.boot.banks)
  have hshape : ∃ u : State, s.fullReset [c] = (u.afterReset s).wr 0 Reg.KST_STAT (setBits (s.rd 0 Reg.KST_STAT) 6 4 0) ∧
      u.boot.banks = (s.noteReset [c]).dropHost.boot.banks := by
    rw [State.fullReset, if_neg hnot]
    generalize (s.noteReset [c]).dropHost = d
    exact ⟨_, rfl, rfl⟩
  obtain ⟨u, heq, hu⟩ := hshape
  rw [heq]
  exact (field_of_erased (afterReset_sansRegs u s) (fun x => x.boot.banks)).trans (hu.trans ((hdropped _).trans hnoted))

theorem runs_of_hearthRuns (h : s.hearthRuns = true) : s.boot.stage.runs := by
  intro hmem
  simp only [List.mem_cons, List.not_mem_nil, or_false] at hmem
  obtain h' | h' | h' := hmem <;> simp [State.hearthRuns, h'] at h

theorem failTrial_stage (s : State) : s.failTrial.boot.stage = s.boot.stage := field_of_erased (failTrial_sansBanks s) (fun x => x.boot.stage)

theorem hearthReset_inReset (h : s.boot.stage.runs) : InReset s.hearthReset 3 :=
  fullReset_inReset (s := s.failTrial) (by rwa [failTrial_stage]) (by decide)

/-- A fatal fault before Hearth's reset makes no difference to it. -/
theorem hearthReset_after_fatal (h : s.boot.stage.runs) (src : Nat) : InReset (s.flt1 src clsF).hearthReset 3 := by
  obtain ⟨u, hboot, hu | hu⟩ := flt1_fatal_shape s src
  · rw [hu]
    exact hearthReset_inReset (by rwa [hboot])
  · rw [hu]
    have hin : InReset (u.fullReset [6]) 6 := fullReset_inReset (by rwa [hboot]) (by decide)
    have hsame := failTrial_sansBanks (u.fullReset [6])
    have hin' : InReset (u.fullReset [6]).failTrial 6 := ⟨(failTrial_stage _).trans hin.stage, (field_of_erased hsame State.cmds).trans hin.cmds,
      (field_of_erased hsame (fun x => x.rdB Reg.RST_CAUSE 6)).trans hin.cause⟩
    exact fullReset_joined hin' (by decide)

end

/-! HRT_STAT. -/

section
variable {s : State}

theorem hrtStat_not_faultReg {src : Nat} (h : src < 1024) : Reg.HRT_STAT ∉ faultRegs src := by
  simp only [faultRegs, List.mem_cons, List.not_mem_nil, or_false, not_or, Reg.HRT_STAT, Reg.FLT_STICKY, Reg.FLT_CNT0, Reg.FLT_FIRST, Reg.FLT_FIRST_TS]
  omega

/-- A fault of class C or D writes its own registers alone. -/
theorem rd_fault_low (s : State) {src cls off : Nat} (active rail respond : Bool) (hcls : cls ≤ 1) (h : off ∉ faultRegs src) :
    (s.fault src cls active rail respond).rd 0 off = s.rd 0 off := by
  obtain rfl | rfl := Nat.le_one_iff_eq_zero_or_eq_one.mp hcls
  · simp only [faultRegs, List.mem_cons, List.not_mem_nil, or_false, not_or] at h
    obtain ⟨hsticky, hcnt, hfirst, hts0, hts1⟩ := h
    unfold State.fault
    simp only [clsF, show ¬ (0 = 2) by decide, if_false]
    (repeat' split) <;> simp [rd_msix, State.wrB, State.wrF, State.incF, rd_wr_pf, hsticky, hcnt, hfirst, hts0, hts1] <;> rfl
  · exact rd_fault_classD s src off active rail respond h

/-- The active pair is 0 or 1. -/
theorem activePair_lt (s : State) : s.rdF Reg.HRT_STAT 0 0 < 2 := Nat.mod_lt _ (by decide)

end

/-! Lockstep (R125). -/

section
variable {s : State}

/-- The management role with the other pair, before the channels show it. -/
def State.handedOver (s : State) (next : Nat) : State :=
  ((s.wrF Reg.HRT_STAT 0 0 (1 - s.rdF Reg.HRT_STAT 0 0)).wrF Reg.HRT_STAT 3 2 next).incF Reg.HRT_STAT 23 16 1

/-- The channels of a list of requests show the failover. -/
def State.showFailover (s : State) (l : List (Nat × MbxReq)) : State :=
  l.foldl (fun (x : State) m => x.setMstat (m.1 / 4) (m.1 % 4) 5 true) s

theorem failover_eq (s : State) (next : Nat) :
    s.failover next = (s.handedOver next).showFailover (s.mbx.filter (fun m => decide (m.1 < 65536))) := rfl

theorem showFailover_sansRegs (s : State) (l : List (Nat × MbxReq)) : (s.showFailover l).sansRegs = s.sansRegs :=
  sansRegs_foldl (fun (x : State) (m : Nat × MbxReq) => x.setMstat (m.1 / 4) (m.1 % 4) 5 true) (fun _ _ => rfl) l s

theorem showFailover_hrtStat (s : State) (l : List (Nat × MbxReq)) : (s.showFailover l).rd 0 Reg.HRT_STAT = s.rd 0 Reg.HRT_STAT := by
  refine foldl_keep (fun x : State => x.rd 0 Reg.HRT_STAT) _ (fun x m => rd_wr_other _ _ _ _ _ _ ?_) l s
  simp only [regKey, mbxBase, Reg.HRT_STAT]
  split <;> omega

/-- A bit of MBX_STAT once set stays set while the same bit is set in others. -/
theorem mstat_setMstat_stays {f c g d : Nat} (hc : c < 4) (hd : d < 4) (h : s.mstat f c 5 = true) : (s.setMstat g d 5 true).mstat f c 5 = true := by
  by_cases hkey : regKey f (mbxBase f c + 0x00C) = regKey g (mbxBase g d + 0x00C)
  · have hparts : f = g ∧ mbxBase f c = mbxBase g d := by
      simp only [regKey, mbxBase] at hkey ⊢
      split at hkey <;> split at hkey <;> simp_all <;> omega
    obtain ⟨rfl, hbase⟩ := hparts
    have hsame : ∀ x : State, x.mstat f c 5 = x.mstat f d 5 := fun x => by simp only [State.mstat, State.mrd, hbase]
    rw [hsame, mstat_setMstat _ _ _ _ _ (by decide), if_pos rfl]
  · have hother : (s.setMstat g d 5 true).mrd f c 0x00C = s.mrd f c 0x00C := rd_wr_other _ _ _ _ _ _ hkey
    rw [State.mstat, hother]
    exact h

theorem showFailover_shows (l : List (Nat × MbxReq)) : ∀ (s : State) (f c : Nat), c < 4 →
    (s.mstat f c 5 = true ∨ ∃ m ∈ l, m.1 / 4 = f ∧ m.1 % 4 = c) → (s.showFailover l).mstat f c 5 = true := by
  induction l with
  | nil => exact fun s f c _ h => h.resolve_right (by simp)
  | cons m l ih =>
    intro s f c hc h
    refine ih _ f c hc ?_
    obtain h | ⟨m', hm', rfl, rfl⟩ := h
    · exact .inl (mstat_setMstat_stays hc (Nat.mod_lt _ (by decide)) h)
    · obtain rfl | hin := List.mem_cons.mp hm'
      · exact .inl (by rw [mstat_setMstat _ _ _ _ _ (by decide), if_pos rfl])
      · exact .inr ⟨m', hin, rfl, rfl⟩

/-- The pair that was standby is active, and the failed one is in the state given. -/
theorem handedOver_hrtStat (s : State) {next : Nat} (h : next < 4) :
    (s.handedOver next).rdF Reg.HRT_STAT 0 0 = 1 - s.rdF Reg.HRT_STAT 0 0 ∧ (s.handedOver next).standby = next := by
  have hpair : 1 - s.rdF Reg.HRT_STAT 0 0 < 2 ^ (0 - 0 + 1) := by omega
  unfold State.handedOver State.standby State.incF
  constructor
  · rw [rdF_wrF_beside _ _ _ _ _ _ _ (by decide) (by decide) (by decide) (by decide), rdF_wrF_beside _ _ _ _ _ _ _ (by decide) (by decide) (by decide) (by decide),
      rdF_wrF_same _ _ _ _ _ (by decide) (by decide) hpair]
  · rw [rdF_wrF_beside _ _ _ _ _ _ _ (by decide) (by decide) (by decide) (by decide), rdF_wrF_same _ _ _ _ _ (by decide) (by decide) (by simpa using h)]

theorem exec_hearth_idle (h : s.hearthRuns = false) :
    ∀ i ∈ [Instr.lockstepMismatch, .hearthWatchdog, .dispatchWatchdog 0 []], exec i s = .next s := by
  have hno : ¬ s.hearthRuns = true := by simp [h]
  simp only [List.forall_mem_cons]
  exact ⟨if_neg hno, congrArg Host.Outcome.next (if_neg hno), if_neg (fun hc => hno hc.2), by simp⟩

/-- A standby in step takes over: HRT_STAT and the channels show it. -/
theorem exec_lockstepMismatch_failover (h : s.hearthRuns = true) (hsync : s.standby = Sb.SYNC) : ∃ t, exec .lockstepMismatch s = .next t ∧
    t.rdF Reg.HRT_STAT 0 0 = 1 - s.rdF Reg.HRT_STAT 0 0 ∧ t.standby = Sb.RESYNC ∧ t.cmds = s.cmds ∧ t.boot = s.boot ∧ t.mbx = s.mbx ∧
      ∀ m ∈ s.mbx, m.1 < 65536 → t.mstat (m.1 / 4) (m.1 % 4) 5 = true := by
  have hexec : exec .lockstepMismatch s = .next ((s.fault (248 + s.rdF Reg.HRT_STAT 0 0) 0 false false true).failover Sb.RESYNC) :=
    (if_pos h).trans (if_pos hsync)
  have hlt := activePair_lt s
  have hrec := sansReports_fault (cls := 0) (by decide) s (248 + s.rdF Reg.HRT_STAT 0 0) false false true
  have hrd := rd_fault_low s false false true (Nat.zero_le 1) (hrtStat_not_faultReg (src := 248 + s.rdF Reg.HRT_STAT 0 0) (by omega))
  generalize s.fault (248 + s.rdF Reg.HRT_STAT 0 0) 0 false false true = u at hexec hrec hrd
  obtain ⟨hpair, hnext⟩ := handedOver_hrtStat u (next := Sb.RESYNC) (by decide)
  have hshown := showFailover_hrtStat (u.handedOver Sb.RESYNC) (u.mbx.filter (fun m => decide (m.1 < 65536)))
  have hsame := showFailover_sansRegs (u.handedOver Sb.RESYNC) (u.mbx.filter (fun m => decide (m.1 < 65536)))
  have hmbx : u.mbx = s.mbx := field_of_erased hrec State.mbx
  rw [failover_eq] at hexec
  refine ⟨_, hexec, ?_, ?_, (field_of_erased hsame State.cmds).trans (field_of_erased hrec State.cmds),
    (field_of_erased hsame State.boot).trans (field_of_erased hrec State.boot), (field_of_erased hsame State.mbx).trans hmbx, fun m hm hlow => ?_⟩
  · rw [State.rdF, hshown]
    refine hpair.trans ?_
    rw [State.rdF, hrd, State.rdF]
  · rw [State.standby, State.rdF, hshown]
    exact hnext
  · exact showFailover_shows _ _ _ _ (Nat.mod_lt _ (by decide)) (.inr ⟨m, List.mem_filter.mpr ⟨hmbx ▸ hm, by simpa using hlow⟩, rfl, rfl⟩)

/-- Without one the device resets. -/
theorem exec_lockstepMismatch_resets (h : s.hearthRuns = true) (hsync : s.standby ≠ Sb.SYNC) :
    ∃ t, exec .lockstepMismatch s = .next t ∧ InReset t 3 := by
  refine ⟨_, (if_pos h).trans (if_neg hsync), hearthReset_after_fatal ?_ 250⟩
  have hrec := sansReports_fault (cls := 0) (by decide) s.failTrial (248 + s.rdF Reg.HRT_STAT 0 0) false false false
  have hstage : (s.failTrial.flt1 (248 + s.rdF Reg.HRT_STAT 0 0) 0).boot.stage = s.boot.stage :=
    (field_of_erased hrec (fun x => x.boot.stage)).trans (failTrial_stage s)
  rw [hstage]
  exact runs_of_hearthRuns h

theorem exec_pairSelftestDone_idle (h : s.standby ≠ Sb.RESYNC) (pass : Bool) : exec (.pairSelftestDone pass) s = .next s := if_neg h

/-- The failed pair returns as standby, or is retired. -/
theorem exec_pairSelftestDone_ends (h : s.standby = Sb.RESYNC) (pass : Bool) : ∃ t, exec (.pairSelftestDone pass) s = .next t ∧
    t.standby = (if pass then Sb.SYNC else Sb.RETIRED) ∧ t.cmds = s.cmds := by
  refine ⟨_, if_pos h, ?_, ?_⟩
  · cases pass with
    | true => exact rdF_wrF_same _ _ _ _ _ (by decide) (by decide) (by decide)
    | false =>
      rw [if_neg Bool.false_ne_true, if_neg Bool.false_ne_true, State.standby, State.rdF, State.flt1,
        rd_fault_low _ _ _ _ (Nat.le_refl 1) (hrtStat_not_faultReg (by omega))]
      exact rdF_wrF_same _ _ _ _ _ (by decide) (by decide) (by decide)
  · cases pass with
    | true => rfl
    | false =>
      rw [if_neg Bool.false_ne_true, (flt1_classD_frame _ _).2.1]
      rfl

end

/-! Watchdogs (R126, R127). -/

section
variable {s : State}

/-- The jobs of a list marked as replayed. -/
def State.replayJobs (s : State) (jobs : List Nat) : State :=
  jobs.foldl (fun (x : State) j => x.modCmd j (fun c => { c with replayed := true })) s

theorem replay_cmds (jobs : List Nat) (s : State) {id : Nat} {c : Cmd} (h : mget s.cmds id = some c) :
    mget (s.replayJobs jobs).cmds id = some (if id ∈ jobs then { c with replayed := true } else c) := by
  induction jobs generalizing s c with
  | nil => simpa [State.replayJobs] using h
  | cons j jobs ih =>
    by_cases hj : id = j
    · subst hj
      refine (ih (s.modCmd id (fun c => { c with replayed := true })) (c := { c with replayed := true }) ?_).trans ?_
      · simp only [State.modCmd_cmds, mget_mmod_same, h, Option.map_some]
      · simp
    · refine (ih (s.modCmd j (fun c => { c with replayed := true })) (c := c) ?_).trans ?_
      · simp only [State.modCmd_cmds, mget_mmod_other _ _ _ _ hj, h]
      · simp [hj]

theorem replay_keeps {β : Type} (π : State → β) (hmod : ∀ (x : State) j f, π (x.modCmd j f) = π x) (s : State) (jobs : List Nat) :
    π (s.replayJobs jobs) = π s := foldl_keep π _ (fun x j => hmod x j _) jobs s

/-- The core marked in HRT_STAT. -/
def State.coreRetired (s : State) (core : Nat) : State := s.wrF Reg.HRT_STAT 15 8 (s.rdF Reg.HRT_STAT 15 8 ||| 2 ^ core)

/-- The core retired and its jobs taken over by the spare, at the time of the expiry. -/
def State.dispExpired (s : State) (core : Nat) (jobs : List Nat) : State :=
  let t := ((s.coreRetired core).replayJobs jobs).flt1 (251 + core) 1
  { t with boot := { t.boot with dispExp := some s.now } }

/-- An earlier expiry stands within 10 s. -/
def State.expiredLately (s : State) : Bool := match s.boot.dispExp with | some t => decide (s.now - t ≤ 10 ^ 9) | none => false

theorem exec_dispatchWatchdog {core : Nat} (jobs : List Nat) (hcore : core < 8) (h : s.hearthRuns = true) : exec (.dispatchWatchdog core jobs) s =
    .next (if s.expiredLately then (s.dispExpired core jobs).fullReset [4] else s.dispExpired core jobs) := if_pos ⟨hcore, h⟩

theorem dispExpired_does {core : Nat} (jobs : List Nat) (hcore : core < 8) : let t := s.dispExpired core jobs
    t.boot = { s.boot with dispExp := some s.now } ∧ bitAt (t.rd 0 Reg.HRT_STAT) (8 + core) = true ∧
      ∀ id c, mget s.cmds id = some c → mget t.cmds id = some (if id ∈ jobs then { c with replayed := true } else c) := by
  have hrec := sansReports_fault (cls := 1) (by decide) ((s.coreRetired core).replayJobs jobs) (251 + core) false false false
  have hboot : (((s.coreRetired core).replayJobs jobs).flt1 (251 + core) 1).boot = s.boot :=
    (field_of_erased hrec State.boot).trans (replay_keeps State.boot (fun _ _ _ => rfl) (s.coreRetired core) jobs)
  have hrd : (((s.coreRetired core).replayJobs jobs).flt1 (251 + core) 1).rd 0 Reg.HRT_STAT = (s.coreRetired core).rd 0 Reg.HRT_STAT :=
    (rd_flt1_classD _ _ _ (hrtStat_not_faultReg (by omega))).trans
      (replay_keeps (fun x => x.rd 0 Reg.HRT_STAT) (fun _ _ _ => rfl) (s.coreRetired core) jobs)
  refine ⟨?_, ?_, fun id c hc => ?_⟩
  · simp only [State.dispExpired, hboot]
  · refine (congrArg (fun w => bitAt w (8 + core)) hrd).trans ?_
    rw [State.coreRetired, State.wrF, rd_wr_same, bitAt_setBits _ _ _ _ _ (by decide) (by decide), if_pos (by omega)]
    simp
  · exact (congrArg (fun m => mget m id) (field_of_erased hrec State.cmds)).trans (replay_cmds jobs (s.coreRetired core) hc)

theorem exec_dispatchWatchdog_retires {core : Nat} (jobs : List Nat) (hcore : core < 8) (h : s.hearthRuns = true)
    (hfirst : s.boot.dispExp = none ∨ ∃ at_, s.boot.dispExp = some at_ ∧ 10 ^ 9 < s.now - at_) : ∃ t, exec (.dispatchWatchdog core jobs) s = .next t ∧
      t.boot.dispExp = some s.now ∧ bitAt (t.rd 0 Reg.HRT_STAT) (8 + core) = true ∧
      ∀ id c, mget s.cmds id = some c → mget t.cmds id = some (if id ∈ jobs then { c with replayed := true } else c) := by
  have hlate : s.expiredLately = false := by
    obtain hnone | ⟨t, ht, hlt⟩ := hfirst
    · simp [State.expiredLately, hnone]
    · simp only [State.expiredLately, ht]
      exact decide_eq_false (by omega)
  obtain ⟨hboot, hbit, hcmds⟩ := dispExpired_does (s := s) jobs hcore
  refine ⟨s.dispExpired core jobs, ?_, by rw [hboot], hbit, hcmds⟩
  rw [exec_dispatchWatchdog jobs hcore h, hlate, if_neg Bool.false_ne_true]

theorem exec_dispatchWatchdog_resets {core at_ : Nat} (jobs : List Nat) (hcore : core < 8) (h : s.hearthRuns = true) (hexp : s.boot.dispExp = some at_)
    (hle : s.now - at_ ≤ 10 ^ 9) : ∃ t, exec (.dispatchWatchdog core jobs) s = .next t ∧ InReset t 4 := by
  have hlate : s.expiredLately = true := by simpa [State.expiredLately, hexp] using hle
  have hboot := (dispExpired_does (s := s) jobs hcore).1
  refine ⟨(s.dispExpired core jobs).fullReset [4], ?_, fullReset_inReset ?_ (by decide)⟩
  · rw [exec_dispatchWatchdog jobs hcore h, hlate, if_pos rfl]
  · rw [hboot]
    exact runs_of_hearthRuns h

/-- The reset by Hearth's watchdog abandons a trial that runs (R124). -/
theorem exec_hearthWatchdog_resets (h : s.hearthRuns = true) (hb : TwoBanks s) : ∃ t, exec .hearthWatchdog s = .next t ∧ InReset t 3 ∧
    (s.boot.trial = true → (s.bank s.boot.bank).state = .trial → (t.bank s.boot.bank).state = .trialFailed) := by
  have hruns := runs_of_hearthRuns h
  refine ⟨s.hearthReset, congrArg Host.Outcome.next (if_pos h), hearthReset_inReset hruns, fun htrial hstate => ?_⟩
  have hbanks : s.hearthReset.boot.banks = s.failTrial.boot.banks := fullReset_banks (by rwa [failTrial_stage]) (by decide)
  rw [bank_of_boot hbanks, failTrial_trial htrial hstate, (setBank_running hb _).1]

end

end Sys2Proof.Machine
end

section
/-!
SUPPORT. Kindling (spec file 11, R299): what the life cycle and the seals of a boot leave, and the stage and the image it starts.
-/
namespace Sys2Proof.Machine
open Sys2Proof

/-! What a transition found at boot leaves (R352). -/

section
variable {s : State}

/-- What Kindling has yet to use: the straps, the measurement log and the supplies. -/
def State.strapLog (s : State) : Word × List (List Byte) × Power := (s.rd 0 Reg.RST_STRAP, s.boot.sillage, s.pwr)

theorem rd_lcDestroy (s : State) (user : Bool) : (s.lcDestroy user).rd 0 Reg.RST_STRAP = s.rd 0 Reg.RST_STRAP := by
  unfold State.lcDestroy
  simp only [State.wrF]
  rw [rd_wr_pf _ _ _ _ (by decide), rd_wr_pf _ _ _ _ (by decide)]
  cases user <;> rfl

theorem lcDestroy_strapLog (s : State) (user : Bool) : (s.lcDestroy user).strapLog = s.strapLog := by
  refine congrArg₂ Prod.mk (rd_lcDestroy s user) ?_
  cases user <;> rfl

theorem blowFuses_strapLog (s : State) (to_ dud : Nat) : (s.blowFuses to_ dud).strapLog = s.strapLog := by
  unfold State.blowFuses
  dsimp only
  (repeat' split) <;> rfl

theorem lcFuses_strapLog (s : State) (dud : Nat) : (s.lcFuses dud).strapLog = s.strapLog := by
  have hleft : ∀ (l : LifeCycle) (b : Bool),
      State.strapLog { s.lcDestroy false with lc := l, boot := { (s.lcDestroy false).boot with newState := b } } = s.strapLog :=
    fun _ _ => lcDestroy_strapLog s false
  have hstart : (if s.lc.leftOpen then { s.lcDestroy false with lc := { s.lc with leftOpen := false }, boot := { (s.lcDestroy false).boot with newState := true } }
      else s).strapLog = s.strapLog := by
    split
    · exact hleft _ _
    · rfl
  unfold State.lcFuses
  dsimp only
  generalize (if s.lc.leftOpen then { s.lcDestroy false with lc := { s.lc with leftOpen := false }, boot := { (s.lcDestroy false).boot with newState := true } }
    else s) = x at hstart ⊢
  rw [← hstart]
  cases hrec : x.lc.record with
  | none => rfl
  | some r =>
    have hblown : (if x.lc.block.isEmpty = true then x else x.blowFuses r.target dud).strapLog = x.strapLog := by
      split
      · rfl
      · exact blowFuses_strapLog _ _ _
    dsimp only
    generalize (if x.lc.block.isEmpty = true then x else x.blowFuses r.target dud) = y at hblown ⊢
    rw [← hblown]
    generalize (r.target == Lc.ANALYSIS || r.target == Lc.SCRAP) = user
    have hdone : ∀ (l : LifeCycle) (b : Bool),
        State.strapLog { y.lcDestroy user with lc := l, boot := { (y.lcDestroy user).boot with newState := b } } = y.strapLog :=
      fun _ _ => lcDestroy_strapLog y user
    split <;> split
    · exact hdone _ _
    · rfl
    · exact hdone _ _
    · rfl

theorem lcBoot_strapLog (s : State) (dud : Nat) : (s.lcBoot dud).strapLog = s.strapLog := by
  refine Eq.trans ?_ (lcFuses_strapLog s dud)
  unfold State.lcBoot State.askRoot
  split <;> rfl

end

/-! The seals (R159). -/

section
variable {s : State}

/-- Flash holds the peat counters, and VIN keeps it so (R344). -/
structure Mirrored (s : State) : Prop where
  vin : s.pwr.vin = true
  same : s.peat.flashCnt = s.peat.counters

theorem Mirrored.congr {t : State} (h : Mirrored s) (hpwr : t.pwr = s.pwr) (hpeat : t.peat = s.peat) : Mirrored t :=
  ⟨by rw [hpwr, h.vin], by rw [hpeat, h.same]⟩

theorem Mirrored.peatCount (h : Mirrored s) (n : Nat) : Mirrored (s.peatCount n) :=
  ⟨h.vin, by simp only [State.peatCount, h.vin, if_true, h.same]⟩

theorem Mirrored.peatLog (h : Mirrored s) (kind src resp chans : Nat) : Mirrored (s.peatLog kind src resp chans) :=
  ⟨h.vin, (h.peatCount 0).same⟩

theorem Mirrored.enterLost (h : Mirrored s) : Mirrored s.enterLost := by
  have hcounted : Mirrored (((s.wrF Reg.KST_STAT 5 4 Seal.LOST).wr 0 Reg.KST_LOST (BitVec.ofNat 32 s.peat.secs)).peatCount 2) := by
    refine Mirrored.peatCount ?_ 2
    exact h.congr rfl rfl
  unfold State.enterLost
  refine Mirrored.peatLog ?_ _ _ _ _
  exact hcounted.congr rfl rfl

/-- The state without what the seals of a boot concern. -/
def State.sansSeal (s : State) : State := { s with regs := [], ks := State.reset.ks, peat := State.reset.peat, nrg := .off }

theorem peatCount_sansSeal (s : State) (n : Nat) : (s.peatCount n).sansSeal = s.sansSeal := rfl

theorem peatLog_sansSeal (s : State) (kind src resp chans : Nat) : (s.peatLog kind src resp chans).sansSeal = s.sansSeal := rfl

theorem enterLost_sansSeal (s : State) : s.enterLost.sansSeal = s.sansSeal := by
  unfold State.enterLost
  rw [peatLog_sansSeal]
  exact (peatCount_sansSeal ((s.wrF Reg.KST_STAT 5 4 Seal.LOST).wr 0 Reg.KST_LOST (BitVec.ofNat 32 s.peat.secs)) 2)

theorem rd_enterLost (s : State) : s.enterLost.rd 0 Reg.RST_STRAP = s.rd 0 Reg.RST_STRAP := by
  unfold State.enterLost
  rw [rd_of_regs (peatLog_regs _ _ _ _ _)]
  change State.rd ((s.wrF Reg.KST_STAT 5 4 Seal.LOST).wr 0 Reg.KST_LOST _) 0 Reg.RST_STRAP = _
  rw [State.wrF, rd_wr_pf _ _ _ _ (by decide), rd_wr_pf _ _ _ _ (by decide)]

theorem askSls_frame (s : State) : s.askSls.sansSeal = s.sansSeal ∧ s.askSls.regs = s.regs ∧ s.askSls.peat = s.peat := by
  unfold State.askSls
  split <;> exact ⟨rfl, rfl, rfl⟩

/-- The seals of a boot keep what Kindling has yet to use, the fuses, and flash as the counters' mirror. -/
theorem bootSeal_keeps (h : Mirrored s) :
    s.bootSeal.sansSeal = s.sansSeal ∧ s.bootSeal.rd 0 Reg.RST_STRAP = s.rd 0 Reg.RST_STRAP ∧ Mirrored s.bootSeal := by
  have hlost : ∀ x : State, x.regs = s.regs → x.peat = s.peat → x.sansSeal = s.sansSeal →
      let y := (x.wrF Reg.KST_STAT 5 4 Seal.LOST).wr 0 Reg.KST_LOST (BitVec.ofNat 32 x.ks.lost)
      y.sansSeal = s.sansSeal ∧ y.rd 0 Reg.RST_STRAP = s.rd 0 Reg.RST_STRAP ∧ Mirrored y := by
    intro x hregs hpeat hsame
    refine ⟨hsame, ?_, h.congr (field_of_erased hsame State.pwr) hpeat⟩
    rw [State.wrF, rd_wr_pf _ _ _ _ (by decide), rd_wr_pf _ _ _ _ (by decide), rd_of_regs hregs]
  have hstamped : ∀ (x : State) (n : Nat), x.sansSeal = s.sansSeal → x.rd 0 Reg.RST_STRAP = s.rd 0 Reg.RST_STRAP → Mirrored x →
      let y := State.wr { x with ks := { x.ks with lost := n } } 0 Reg.KST_LOST (BitVec.ofNat 32 n)
      y.sansSeal = s.sansSeal ∧ y.rd 0 Reg.RST_STRAP = s.rd 0 Reg.RST_STRAP ∧ Mirrored y := by
    intro x n hsame hrd hmir
    refine ⟨hsame, ?_, hmir.congr rfl rfl⟩
    rw [rd_wr_pf _ _ _ _ (by decide)]
    exact hrd
  have hentered := hstamped s.deriveDsk.enterLost s.deriveDsk.lostStamp (enterLost_sansSeal _) (rd_enterLost _)
    (Mirrored.enterLost (h.congr rfl rfl))
  have hasked : ∀ y : State, y.sansSeal = s.sansSeal ∧ y.rd 0 Reg.RST_STRAP = s.rd 0 Reg.RST_STRAP ∧ Mirrored y →
      y.askSls.sansSeal = s.sansSeal ∧ y.askSls.rd 0 Reg.RST_STRAP = s.rd 0 Reg.RST_STRAP ∧ Mirrored y.askSls := by
    rintro y ⟨hsame, hrd, hmir⟩
    obtain ⟨hask, hregs, hpeat⟩ := askSls_frame y
    exact ⟨hask.trans hsame, (rd_of_regs hregs _).trans hrd, hmir.congr (field_of_erased hask State.pwr) hpeat⟩
  unfold State.bootSeal
  dsimp only
  split_ifs
  · exact hasked _ (hlost s.deriveDsk rfl rfl rfl)
  · exact hlost s.deriveDsk rfl rfl rfl
  · exact hasked _ hentered
  · exact hentered
  · exact hasked s.deriveDsk ⟨rfl, rfl, h.congr rfl rfl⟩
  · exact ⟨rfl, rfl, h.congr rfl rfl⟩

end

/-! KINDLING_START (R299). -/

section
variable {s : State}

/-- Kindling is to start: VIN is valid, and the domain of the management cores has power. -/
structure Kindles (s : State) : Prop where
  vin : s.pwr.vin = true
  stage : s.boot.stage = .kindling
  power : 164 ∈ s.pwr.powered

/-- Steps 1 and 2: the life cycle, the counters' mirror, the ROM's measurement and the seals. -/
def State.kindled (s : State) (dud : Nat) : State :=
  let t := s.lcBoot dud
  (State.measure { t with peat := { t.peat with flashCnt := t.peat.counters } } 0 0xFF 0 Config.romHash).bootSeal

theorem kindled_does (h : Kindles s) (dud : Nat) : Mirrored (s.kindled dud) ∧ (s.kindled dud).rdB Reg.RST_STRAP 11 = s.rdB Reg.RST_STRAP 11 ∧
    (s.kindled dud).boot.sillage.length = s.boot.sillage.length + 1 := by
  have hlog := lcBoot_strapLog s dud
  obtain ⟨hstrap, hrest⟩ := Prod.mk.inj hlog
  obtain ⟨hsillage, hpwr⟩ := Prod.mk.inj hrest
  let t := s.lcBoot dud
  have hmir : Mirrored (State.measure { t with peat := { t.peat with flashCnt := t.peat.counters } } 0 0xFF 0 Config.romHash) :=
    ⟨(congrArg Power.vin hpwr).trans h.vin, rfl⟩
  obtain ⟨hsame, hrd, hdone⟩ := bootSeal_keeps hmir
  refine ⟨hdone, congrArg (bitAt · 11) (hrd.trans hstrap), ?_⟩
  rw [State.kindled, field_of_erased hsame (fun x => x.boot.sillage), State.measure, List.length_append]
  exact congrArg (List.length · + 1) hsillage

/-- Step 3: an image that may run. -/
def State.bootable (s : State) (i : Nat) : Bool := (s.bank i).state != .invalid && s.fwCheck (s.bank i).bytes == 0

theorem exec_kindlingStart_idle (dud : Nat) (h : ¬ Kindles s) : exec (.kindlingStart dud) s = .next s := by
  refine if_neg fun hc => h ?_
  obtain ⟨hvin, hstage, hpower⟩ := hc
  exact ⟨hvin, hstage, by simpa using hpower⟩

/-- The bank that a boot takes, and its image started. -/
def State.bootBank (s : State) (i : Nat) : State :=
  (State.wrF { s with boot := { s.boot with bank := i, trial := (s.bank i).state == FwState.trial } } Reg.RST_STRAP 17 16 i).startImage (s.bank i).bytes

theorem bootBank_does (s : State) (i : Nat) : (s.bootBank i).boot.stage = .firmware ∧ (s.bootBank i).boot.fw = sha3_384 (s.bank i).bytes ∧
    (s.bootBank i).boot.banks = s.boot.banks ∧ (s.bootBank i).boot.bank = i ∧ (s.bootBank i).lc = s.lc ∧ (s.bootBank i).peat = s.peat ∧
      (s.bootBank i).boot.sillage.length = s.boot.sillage.length + 1 := by
  obtain ⟨hstage, hfw, hbanks, hbank, _, hlc, hpeat, hlen⟩ := startImage_does
    (State.wrF { s with boot := { s.boot with bank := i, trial := (s.bank i).state == FwState.trial } } Reg.RST_STRAP 17 16 i) (s.bank i).bytes
  exact ⟨hstage, hfw, hbanks, hbank, hlc, hpeat, hlen⟩

theorem exec_kindlingStart (h : Kindles s) (dud : Nat) : let k := s.kindled dud
    exec (.kindlingStart dud) s = if k.rdB Reg.RST_STRAP 11 then .next (k.hostPushed 2)
      else match k.bootOrder.find? k.bootable with
        | some i => .next (k.bootBank i)
        | none => .next (k.hostPushed 3) := if_pos ⟨h.vin, h.stage, by simpa using h.power⟩

/-- Kindling waits for the host where the strap says so or no image verifies, else starts one that does; flash mirrors the counters. -/
theorem exec_kindlingStart_does (h : Kindles s) (dud : Nat) : ∃ t, exec (.kindlingStart dud) s = .next t ∧ t.peat.flashCnt = t.peat.counters ∧
    (t.boot.stage = .kindlingMbx ∨ t.boot.stage = .firmware) ∧ (s.rdB Reg.RST_STRAP 11 = true → t.boot.stage = .kindlingMbx) ∧
    (t.boot.stage = .firmware → (t.bank t.boot.bank).state ≠ .invalid ∧ t.fwCheck (t.bank t.boot.bank).bytes = 0 ∧
      t.boot.fw = sha3_384 (t.bank t.boot.bank).bytes ∧ t.boot.sillage.length = s.boot.sillage.length + 2) := by
  obtain ⟨hmir, hstrap, hlen⟩ := kindled_does h dud
  have hexec := exec_kindlingStart h dud
  dsimp only at hexec
  generalize s.kindled dud = k at hmir hstrap hlen hexec
  by_cases hbit : k.rdB Reg.RST_STRAP 11 = true
  · exact ⟨k.hostPushed 2, hexec.trans (if_pos hbit), hmir.same, .inl rfl, fun _ => rfl, fun hno => nomatch hno⟩
  · rw [if_neg hbit] at hexec
    cases hfind : k.bootOrder.find? k.bootable with
    | none => exact ⟨k.hostPushed 3, by rw [hexec, hfind], hmir.same, .inl rfl, fun _ => rfl, fun hno => nomatch hno⟩
    | some i =>
      have hstarts : exec (.kindlingStart dud) s = .next (k.bootBank i) := by rw [hexec, hfind]
      obtain ⟨hvalid, hcheck⟩ : (k.bank i).state ≠ .invalid ∧ k.fwCheck (k.bank i).bytes = 0 := by
        simpa [State.bootable] using List.find?_some hfind
      obtain ⟨hstage, hfw, hbanks, hbank, hlc, hpeat, hone⟩ := bootBank_does k i
      generalize k.bootBank i = t at hstarts hstage hfw hbanks hbank hlc hpeat hone
      have hkept : t.bank t.boot.bank = k.bank i := by rw [bank_of_boot hbanks, hbank]
      refine ⟨t, hstarts, by rw [hpeat, hmir.same], .inr hstage, fun hs => absurd (hstrap.trans hs) hbit, fun _ => ⟨?_, ?_, ?_, ?_⟩⟩
      · rwa [hkept]
      · rwa [hkept, State.fwCheck, hlc]
      · rw [hkept, hfw]
      · rw [hone, hlen]

end

end Sys2Proof.Machine
end

section
/-!
SUPPORT. The configuration image (spec file 11, R302 to R305): what its sections leave unchanged, the load of a bank, and CONFIG_PUSH.
-/
namespace Sys2Proof.Machine
open Sys2Proof

/-! What the sections leave. -/

/-- The state without what the sections of a configuration image set. -/
def State.sansConfig (s : State) : State :=
  { s with regs := [], fns := [], opm := [], clusters := [], fab := State.reset.fab, peat := State.reset.peat, flt := [], nrg := .off,
           test := State.reset.test, pwr := State.reset.pwr,
           boot := { s.boot with template := defaultTemplate, templateNext := defaultTemplate, subsys := 0, subsysNext := 0, curveNew := [], lowSpeed := [] } }

section
variable (s : State)

theorem sansConfig_of_sansRegs {s t : State} (h : t.sansRegs = s.sansRegs) : t.sansConfig = s.sansConfig := by
  rw [eq_of_sansRegs h]
  rfl

theorem fabStat_sansConfig : s.fabStat.sansConfig = s.sansConfig := rfl

theorem lbEnd_sansConfig (i : Nat) : (s.lbEnd i).sansConfig = s.sansConfig := by
  unfold State.lbEnd
  (repeat' split) <;> rfl

theorem wrF_sansConfig (off hi lo v : Nat) : (s.wrF off hi lo v).sansConfig = s.sansConfig := rfl

theorem dropWho_sansConfig (w : NrgWho) : (s.dropWho w).sansConfig = s.sansConfig := rfl

theorem fltActive_sansConfig (src : Nat) (on : Bool) : (s.fltActive src on).sansConfig = s.sansConfig := rfl

theorem setWport_sansConfig (k : Nat) (p : WPort) : (s.setWport k p).sansConfig = s.sansConfig := rfl

theorem nrgAsk_sansConfig (cls reqr : Nat) (who : NrgWho) (amount : Nat) : (s.nrgAsk cls reqr who amount).sansConfig = s.sansConfig := rfl

theorem setPort_sansConfig (k st : Nat) : (s.setPort k st).sansConfig = s.sansConfig := by
  unfold State.setPort
  dsimp only
  split_ifs <;> simp only [setWport_sansConfig, fltActive_sansConfig, dropWho_sansConfig, fabStat_sansConfig, wrF_sansConfig, lbEnd_sansConfig]

theorem enqueue_sansConfig (d : Nat) : (s.enqueue d).sansConfig = s.sansConfig := by
  unfold State.enqueue
  split <;> rfl

theorem applyPorts_sansConfig : s.applyPorts.sansConfig = s.sansConfig := by
  refine foldl_keep State.sansConfig _ (fun x k => ?_) _ s
  have hqueued : ((if x.queued (138 + k) then x.dequeue (138 + k) else x).enqueue (138 + k)).sansConfig = x.sansConfig := by
    rw [enqueue_sansConfig]
    split <;> rfl
  have hdown : (if x.portState k = Ps.DISABLED then x else x.setPort k Ps.DISABLED).sansConfig = x.sansConfig := by
    split
    · rfl
    · exact setPort_sansConfig x k _
  dsimp only
  generalize (if x.queued (138 + k) then x.dequeue (138 + k) else x).enqueue (138 + k) = y at hqueued ⊢
  generalize (if x.portState k = Ps.DISABLED then x else x.setPort k Ps.DISABLED) = z at hdown ⊢
  split
  · rw [← hqueued]
    split
    · exact setPort_sansConfig y k _
    · rfl
  · exact hdown

theorem startShake_sansConfig (k : Nat) : (s.startShake k).sansConfig = s.sansConfig := by
  unfold State.startShake
  dsimp only
  split
  · exact setWport_sansConfig s k _
  · rw [nrgAsk_sansConfig, dropWho_sansConfig, setWport_sansConfig]

theorem relink_sansConfig : s.relink.sansConfig = s.sansConfig := by
  refine foldl_keep State.sansConfig _ (fun x k => ?_) _ s
  split
  · rw [startShake_sansConfig, setPort_sansConfig]
  · rfl

theorem applyFabric_sansConfig (b : List Byte) : (s.applyFabric b).sansConfig = s.sansConfig := by
  unfold State.applyFabric
  rw [fabStat_sansConfig, applyPorts_sansConfig]
  split
  · rfl
  · rw [relink_sansConfig]
    rfl

theorem setWake_sansRegs (off hi lo v min max : Nat) : (s.setWake off hi lo v min max).sansRegs = s.sansRegs := by
  unfold State.setWake
  split <;> rfl

theorem applyGeneral_sansConfig (b : List Byte) : (s.applyGeneral b).sansConfig = s.sansConfig := by
  unfold State.applyGeneral
  dsimp only
  split
  · rfl
  · change State.sansConfig (State.setWake _ _ _ _ _ _ _) = _
    refine sansConfig_of_sansRegs ?_
    rw [setWake_sansRegs, setWake_sansRegs, setWake_sansRegs]
    rfl

theorem setTmpSrc_sansRegs (i : Nat) (v : Word) : (s.setTmpSrc i v).sansRegs = s.sansRegs := rfl

theorem tmpLock_sansConfig : s.tmpLock.sansConfig = s.sansConfig := rfl

theorem applyTamper_sansConfig (b : List Byte) : (s.applyTamper b).sansConfig = s.sansConfig := by
  have hsources : (tmpSources.foldl (fun (x : State) i => x.setTmpSrc i (BitVec.ofNat 32 (leAt b (4 * i) 4))) s).sansConfig = s.sansConfig :=
    sansConfig_of_sansRegs (sansRegs_foldl _ (fun x i => setTmpSrc_sansRegs x i _) _ s)
  unfold State.applyTamper
  dsimp only
  generalize tmpSources.foldl (fun (x : State) i => x.setTmpSrc i (BitVec.ofNat 32 (leAt b (4 * i) 4))) s = x at hsources ⊢
  split_ifs
  · rfl
  · rw [tmpLock_sansConfig, wrF_sansConfig, wrF_sansConfig, hsources]
  · rw [wrF_sansConfig, wrF_sansConfig, hsources]

theorem applyLow_sansConfig (b : List Byte) : (s.applyLow b).sansConfig = s.sansConfig := rfl

theorem applyCurves_sansConfig (b : List Byte) : (s.applyCurves b).sansConfig = s.sansConfig := by
  have hnew : ∀ (x : State) (l : List (Nat × List Byte)), State.sansConfig { x with boot := { x.boot with curveNew := l } } = x.sansConfig :=
    fun _ _ => rfl
  unfold State.applyCurves
  rw [hnew]
  refine sansConfig_of_sansRegs ?_
  rw [sansRegs_wr, sansRegs_wr, sansRegs_wrF]

theorem chkGuard_sansRegs (n : Nat) : (s.chkGuard n).sansRegs = s.sansRegs := by
  unfold State.chkGuard
  dsimp only
  split <;> rfl

theorem applyChk_sansConfig (b : List Byte) : (s.applyChk b).sansConfig = s.sansConfig := by
  refine sansConfig_of_sansRegs (sansRegs_foldl _ (fun x n => ?_) _ s)
  rw [chkGuard_sansRegs]
  refine sansRegs_foldl _ (fun _ _ => ?_) _ x
  rfl

/-- A section that an image may hold takes effect. -/
def State.takeSection (s : State) (b : List Byte) (ty : Nat) (f : State → List Byte → State) : State :=
  match imgSection b ty with
  | some c => f s c
  | none => s

theorem takeSection_keeps {β : Type} (π : State → β) (b : List Byte) (ty : Nat) {f : State → List Byte → State} (hf : ∀ x c, π (f x c) = π x) :
    π (s.takeSection b ty f) = π s := by
  unfold State.takeSection
  split
  · exact hf _ _
  · rfl

theorem applyNow_eq (b : List Byte) : s.applyNow b = ((((s.takeSection b 1 State.applyGeneral).applyCurves ((imgSection b 4).getD [])).takeSection b 5
    State.applyFabric).takeSection b 6 State.applyTamper).takeSection b 7 State.applyLow := rfl

theorem applyNow_sansConfig (b : List Byte) : (s.applyNow b).sansConfig = s.sansConfig := by
  rw [applyNow_eq, takeSection_keeps _ State.sansConfig _ _ applyLow_sansConfig, takeSection_keeps _ State.sansConfig _ _ applyTamper_sansConfig,
    takeSection_keeps _ State.sansConfig _ _ applyFabric_sansConfig, applyCurves_sansConfig,
    takeSection_keeps _ State.sansConfig _ _ applyGeneral_sansConfig]

theorem allotAnew_sansConfig : s.allotAnew.sansConfig = s.sansConfig := rfl

end

/-! A bank is loaded (R303). -/

section
variable {s : State}

/-- The bank is bound: HOLD ends, its signer stands, and the minimum rises. -/
def State.bound (s : State) (i : Nat) : State :=
  { s with boot := { s.boot with
    cfgLoaded := some i
    hold := false
    cfgMin := Nat.max s.boot.cfgMin (imgSvn (s.cfgBank i).image)
    signer := some (sha3_256 (imgSigner (s.cfgBank i).image)) } }

/-- A template in force; one that ends HOLD makes it the allotments. -/
def State.withTemplate (hold : Bool) (s : State) (c : List Byte) : State :=
  let t := { s with boot := { s.boot with template := templateOf c, templateNext := templateOf c } }
  if hold then t.allotAnew else t

/-- The subsystem IDs in force. -/
def State.withSubsys (s : State) (c : List Byte) : State :=
  { s with boot := { s.boot with subsys := BitVec.ofNat 32 (leAt c 0 4), subsysNext := BitVec.ofNat 32 (leAt c 0 4) } }

theorem withTemplate_sansConfig (hold : Bool) (s : State) (c : List Byte) : (State.withTemplate hold s c).sansConfig = s.sansConfig := by
  cases hold with
  | true => exact allotAnew_sansConfig _
  | false => rfl

theorem withSubsys_sansConfig (s : State) (c : List Byte) : (s.withSubsys c).sansConfig = s.sansConfig := rfl

theorem loadImage_eq (s : State) (i : Nat) : s.loadImage i =
    let b := (s.cfgBank i).image
    let t := ((((s.bound i).takeSection b 2 (State.withTemplate s.boot.hold)).takeSection b 1 State.withSubsys).takeSection b 3 State.applyChk).applyNow b
    if (imgSection b 5).isNone then t.applyPorts.fabStat else t := rfl

theorem loadImage_sansConfig (s : State) (i : Nat) : (s.loadImage i).sansConfig = (s.bound i).sansConfig := by
  have hsections : ∀ b, (((((s.bound i).takeSection b 2 (State.withTemplate s.boot.hold)).takeSection b 1 State.withSubsys).takeSection b 3
      State.applyChk).applyNow b).sansConfig = (s.bound i).sansConfig := fun b => by
    rw [applyNow_sansConfig, takeSection_keeps _ State.sansConfig _ _ applyChk_sansConfig, takeSection_keeps _ State.sansConfig _ _ withSubsys_sansConfig,
      takeSection_keeps _ State.sansConfig _ _ (withTemplate_sansConfig _)]
  rw [loadImage_eq]
  dsimp only
  split
  · rw [fabStat_sansConfig, applyPorts_sansConfig, hsections]
  · exact hsections _

/-! CONFIG_PUSH (R305). -/

/-- The bank that a push takes: the one not loaded, or B. -/
def State.pushBank (s : State) : Nat := match s.boot.cfgLoaded with | some i => 1 - i | none => 1

theorem pushBank_le (s : State) : s.pushBank ≤ 1 := by
  unfold State.pushBank
  split <;> omega

/-- A pushed image in its bank, and its signer bound. -/
def State.pushedTo (s : State) (i : Nat) (b : List Byte) : State :=
  { s with boot := { s.boot with cfgBanks := s.boot.cfgBanks.set i ⟨b.take (imgWhole b), b.drop (imgWhole b)⟩, signer := some (sha3_256 (imgSigner b)) } }

theorem pushedTo_bank {i : Nat} (h : i < s.boot.cfgBanks.length) (b : List Byte) :
    (s.pushedTo i b).cfgBank i = ⟨b.take (imgWhole b), b.drop (imgWhole b)⟩ := by
  simp [State.cfgBank, State.pushedTo, h]

theorem pushedTo_otherBank {i j : Nat} (h : j ≠ i) (b : List Byte) : (s.pushedTo i b).cfgBank j = s.cfgBank j := by
  simp [State.cfgBank, State.pushedTo, List.getElem?_set_ne h.symm]

/-- The template and the subsystem IDs of the next boot. -/
def State.nextTemplate (s : State) (c : List Byte) : State := { s with boot := { s.boot with templateNext := templateOf c } }
def State.nextSubsys (s : State) (c : List Byte) : State := { s with boot := { s.boot with subsysNext := BitVec.ofNat 32 (leAt c 0 4) } }

theorem nextTemplate_sansConfig (s : State) (c : List Byte) : (s.nextTemplate c).sansConfig = s.sansConfig := rfl

theorem nextSubsys_sansConfig (s : State) (c : List Byte) : (s.nextSubsys c).sansConfig = s.sansConfig := rfl

theorem afterPush_hold (h : s.boot.hold = true) (i : Nat) (b : List Byte) : s.afterPush i b = (s.pushedTo i b).loadImage i := if_pos h

theorem afterPush_inForce (h : s.boot.hold = false) (i : Nat) (b : List Byte) : s.afterPush i b =
    ((((s.pushedTo i b).takeSection b 2 State.nextTemplate).takeSection b 1 State.nextSubsys).applyNow b) := if_neg (by simp [h])

theorem afterPush_sansConfig (s : State) (i : Nat) (b : List Byte) :
    (s.afterPush i b).sansConfig = (if s.boot.hold then (s.pushedTo i b).bound i else s.pushedTo i b).sansConfig := by
  cases h : s.boot.hold with
  | true => rw [afterPush_hold h, loadImage_sansConfig, if_pos rfl]
  | false =>
    rw [afterPush_inForce h, applyNow_sansConfig, takeSection_keeps _ State.sansConfig _ _ nextSubsys_sansConfig,
      takeSection_keeps _ State.sansConfig _ _ nextTemplate_sansConfig, if_neg Bool.false_ne_true]

variable {fn ch : Nat} {r : MbxReq} {req : List Byte}

theorem exec_configPush_bad (h : Accepted s fn ch 0x0102 r) (hext : r.ext = false) : exec (.configPush fn ch req) s = refuse s fn ch St.BAD_FIELD := by
  change execConfigPush fn ch req s = _
  exact mbxRow1_bad h (if_pos (by simp [hext]))

theorem exec_configPush_fails (h : Accepted s fn ch 0x0102 r) (hext : r.ext = true) (hbad : s.pushCheck (r.payload req) ≠ 0) :
    exec (.configPush fn ch req) s = refuse s fn ch (s.pushCheck (r.payload req)) := by
  change execConfigPush fn ch req s = _
  exact mbxRow1_bad h ((if_neg (by simp [hext])).trans (if_pos hbad))

/-- The image is stored; in HOLD it is loaded too, else its signer is bound and what was loaded stays. -/
theorem exec_configPush_done (h : Accepted s fn ch 0x0102 r) (hext : r.ext = true) (hok : s.pushCheck (r.payload req) = 0)
    (hlen : s.boot.cfgBanks.length = 2) : let b := r.payload req
    ∃ t : State, exec (.configPush fn ch req) s = .next (t.mbxEnd (mbxKey fn ch) ⟨0, [], [], 0, true⟩) ∧
      t.cfgBank s.pushBank = ⟨b.take (imgWhole b), b.drop (imgWhole b)⟩ ∧ t.cfgBank (1 - s.pushBank) = s.cfgBank (1 - s.pushBank) ∧
      (s.boot.hold = true → t.boot.hold = false ∧ t.boot.cfgLoaded = some s.pushBank) ∧
      (s.boot.hold = false → t.boot.cfgLoaded = s.boot.cfgLoaded ∧ t.boot.signer = some (sha3_256 (imgSigner b))) ∧ t.cmds = s.cmds := by
  intro b
  have hexec : exec (.configPush fn ch req) s = .next ((s.afterPush s.pushBank b).mbxEnd (mbxKey fn ch) ⟨0, [], [], 0, true⟩) := by
    change execConfigPush fn ch req s = _
    exact mbxRow1_inline h ((if_neg (by simp [hext])).trans (if_neg (not_not.mpr hok))) rfl
  have hsame := afterPush_sansConfig s s.pushBank b
  have hle := pushBank_le s
  have htarget := pushedTo_bank (s := s) (i := s.pushBank) (by omega) b
  have hother := pushedTo_otherBank (s := s) (i := s.pushBank) (j := 1 - s.pushBank) (by omega) b
  generalize s.afterPush s.pushBank b = t at hexec hsame
  refine ⟨t, hexec, ?_⟩
  cases hhold : s.boot.hold with
  | true =>
    rw [hhold, if_pos rfl] at hsame
    exact ⟨(field_of_erased hsame (fun x => x.cfgBank s.pushBank)).trans htarget, (field_of_erased hsame (fun x => x.cfgBank (1 - s.pushBank))).trans hother,
      fun _ => ⟨field_of_erased hsame (fun x => x.boot.hold), field_of_erased hsame (fun x => x.boot.cfgLoaded)⟩, (fun hno => nomatch hno),
      field_of_erased hsame State.cmds⟩
  | false =>
    rw [hhold, if_neg Bool.false_ne_true] at hsame
    exact ⟨(field_of_erased hsame (fun x => x.cfgBank s.pushBank)).trans htarget, (field_of_erased hsame (fun x => x.cfgBank (1 - s.pushBank))).trans hother,
      (fun hno => nomatch hno), fun _ => ⟨field_of_erased hsame (fun x => x.boot.cfgLoaded), field_of_erased hsame (fun x => x.boot.signer)⟩,
      field_of_erased hsame State.cmds⟩

end

end Sys2Proof.Machine
end

section
/-!
SUPPORT. The firmware's start (spec file 11, R301, R306), the admission of units (R285) and the switch of loaded curves (spec file 09, R259).
-/
namespace Sys2Proof.Machine
open Sys2Proof

/-! READY and full throughput (R301, R306). -/

section
variable (s : State)

/-- The state without its stage, and the note of full throughput. -/
def State.sansReady (s : State) : State := { s with regs := [], boot := { s.boot with stage := .off, fullDone := false } }

theorem noteFull_sansReady : s.noteFull.sansReady = s.sansReady := by
  unfold State.noteFull
  split <;> rfl

theorem noteFull_stage : s.noteFull.boot.stage = s.boot.stage := by
  unfold State.noteFull
  split <;> rfl

theorem noteFull_rd {off : Nat} (h : off ≠ Reg.RST_TIME) : s.noteFull.rd 0 off = s.rd 0 off := by
  unfold State.noteFull
  split
  · exact rd_wr_pf _ _ _ _ h
  · rfl

/-- MBX_STAT.READY is due. -/
def State.readyDue (s : State) : Prop := s.boot.stage = .firmware ∧ s.boot.steps ∧ (s.testsDone ∨ s.lcc = Lc.SCRAP)

/-- The firmware has started. -/
def State.becomeReady (s : State) : State := { s.wrF Reg.RST_TIME 15 0 s.wakeMs with boot := { s.boot with stage := .ready } }

theorem tryReady_due (h : s.readyDue) : s.tryReady = s.becomeReady.noteFull := if_pos h

theorem tryReady_early (h : ¬ s.readyDue) : s.tryReady = s.noteFull := if_neg h

theorem tryReady_sansReady : s.tryReady.sansReady = s.sansReady := by
  by_cases h : s.readyDue
  · rw [tryReady_due s h, noteFull_sansReady]
    rfl
  · rw [tryReady_early s h, noteFull_sansReady]

theorem tryReady_testsDone : s.tryReady.testsDone = s.testsDone := field_of_erased (tryReady_sansReady s) State.testsDone

/-- A start whose own steps are done ends with the tests of the units that have power. -/
theorem tryReady_stage (hstage : s.boot.stage = .firmware) (hsteps : s.boot.steps = true) :
    s.tryReady.boot.stage = if s.testsDone = true ∨ s.lc.code = Lc.SCRAP then .ready else .firmware := by
  by_cases h : s.testsDone = true ∨ s.lc.code = Lc.SCRAP
  · rw [if_pos h, tryReady_due s ⟨hstage, hsteps, h⟩, noteFull_stage]
    rfl
  · rw [if_neg h, tryReady_early s (fun hc => h hc.2.2), noteFull_stage, hstage]

end

/-! The firmware's steps (R301). -/

section
variable {s : State}

/-- How far the firmware has come. -/
structure StartView where
  stage : Stage
  hold : Bool
  loaded : Option Nat
  lc : LifeCycle

def State.startView (s : State) : StartView := ⟨s.boot.stage, s.boot.hold, s.boot.cfgLoaded, s.lc⟩

theorem startUnseal_startView (s : State) : s.startUnseal.startView = s.startView := by
  unfold State.startUnseal
  split <;> rfl

theorem bootKernel_startView (s : State) (k : Kernel) : (s.bootKernel k).startView = s.startView := by
  have hgone : (s.flt1 260 1).startView = s.startView := field_of_erased (sansReports_fault (by decide) s 260 false false false) State.startView
  unfold State.bootKernel
  split
  · exact hgone
  · split
    · rfl
    · exact hgone

theorem scrapGate_startView (s : State) : s.scrapGate.startView = s.startView := by
  unfold State.scrapGate
  split <;> rfl

theorem measure_startView (s : State) (kind svn op : Nat) (hash : List Byte) : (s.measure kind svn op hash).startView = s.startView := rfl

theorem loadImage_startView (s : State) (i : Nat) : (s.loadImage i).startView = ⟨s.boot.stage, false, some i, s.lc⟩ :=
  (field_of_erased (loadImage_sansConfig s i) State.startView).trans rfl

theorem bootConfig_loads {i : Nat} (h : s.cfgPick = some i) : s.bootConfig.startView = ⟨s.boot.stage, false, some i, s.lc⟩ := by
  unfold State.bootConfig
  rw [h]
  dsimp only
  rw [measure_startView, loadImage_startView]

theorem bootConfig_holds (h : s.cfgPick = none) : s.bootConfig.startView = ⟨s.boot.stage, true, s.boot.cfgLoaded, s.lc⟩ := by
  unfold State.bootConfig
  rw [h]
  rfl

/-- The state after the steps of a start, before READY. -/
def State.startSteps (s : State) (found : BootFind) : State :=
  let s0 := found.pairs.foldl (fun (x : State) r => (x.fltEvent r.1 r.2 0 true).flt1 314 0) (s.damage found.records)
  let s1 := s0.bootConfig.startUnseal
  let ks := (s1.kernels.filter (fun k => k.persist && k.kind == 0)) ++ (s1.kernels.filter (fun k => k.persist && k.kind == 1))
  let s2 := ks.foldl State.bootKernel s1
  let s3 := (s2.nrgAsk 2 21 (.management 2) 4).nrgAsk 2 21 (.management 3) 32
  (found.channels.filter (fun f => tmpSources.contains f.1 && decide (f.2 ≤ 1) && bitAt (s3.tmpReg f.1) 31)).foldl (fun (x : State) f => x.tmpFail f.1 f.2) s3.scrapGate

/-- A start that is still the firmware's is done with its steps. -/
def State.stepsDone (s : State) : State := { s with boot := { s.boot with steps := s.boot.stage == Stage.firmware } }

theorem nrgAsk_startView (s : State) (cls reqr : Nat) (who : NrgWho) (amount : Nat) : (s.nrgAsk cls reqr who amount).startView = s.startView := rfl

/-- Where no channel and no collector pair fails its test, only the configuration decides how far the firmware comes. -/
theorem startSteps_startView (s : State) {found : BootFind} (hchannels : found.channels = []) (hpairs : found.pairs = []) :
    (s.startSteps found).startView = (s.damage found.records).bootConfig.startView := by
  unfold State.startSteps
  simp only [hchannels, hpairs, List.filter_nil, List.foldl_nil]
  rw [scrapGate_startView, nrgAsk_startView, nrgAsk_startView, foldl_keep State.startView _ bootKernel_startView, startUnseal_startView]

/-- The firmware is to start. -/
structure Starts (s : State) : Prop where
  stage : s.boot.stage = .firmware
  oldState : s.boot.newState = false
  steps : s.boot.steps = false

theorem exec_firmwareStart_idle (h : s.boot.stage ≠ .firmware ∨ s.boot.newState = true ∨ s.boot.steps = true) (l : BootFind) :
    exec (.firmwareStart l) s = .next s := by
  refine if_neg fun hc => ?_
  obtain ⟨hstage, hstate, hsteps⟩ := hc
  obtain h | h | h := h
  · exact h hstage
  · simp [h] at hstate
  · simp [h] at hsteps

theorem exec_firmwareStart (h : Starts s) (found : BootFind) :
    exec (.firmwareStart found) s = .next (s.startSteps found).stepsDone.tryReady :=
  if_pos ⟨h.stage, by simp [h.oldState], by simp [h.steps]⟩

/-- The start ends at READY, once the units with power are tested; without a valid image it is in HOLD. -/
theorem exec_firmwareStart_does (h : Starts s) (found : BootFind) : ∃ t, exec (.firmwareStart found) s = .next t ∧ (found.channels = [] → found.pairs = [] →
    t.boot.steps = true ∧ t.boot.stage = (if t.testsDone = true ∨ s.lc.code = Lc.SCRAP then .ready else .firmware) ∧
    (s.cfgPick = none → t.boot.hold = true) ∧ (∀ i, s.cfgPick = some i → t.boot.hold = false ∧ t.boot.cfgLoaded = some i)) := by
  refine ⟨_, exec_firmwareStart h found, fun hchannels hpairs => ?_⟩
  have hview := startSteps_startView s hchannels hpairs
  have hloads : ∀ i, s.cfgPick = some i → (s.damage found.records).bootConfig.startView = ⟨s.boot.stage, false, some i, s.lc⟩ :=
    fun i hi => bootConfig_loads (s := s.damage found.records) hi
  have hholds : s.cfgPick = none → (s.damage found.records).bootConfig.startView = ⟨s.boot.stage, true, s.boot.cfgLoaded, s.lc⟩ :=
    fun hnone => bootConfig_holds (s := s.damage found.records) hnone
  generalize s.startSteps found = x at hview ⊢
  rw [← hview] at hloads hholds
  have hsame := tryReady_sansReady x.stepsDone
  obtain ⟨hstage, hlc⟩ : x.boot.stage = .firmware ∧ x.lc = s.lc := by
    cases hpick : s.cfgPick with
    | none => exact ⟨(congrArg StartView.stage (hholds hpick)).trans h.stage, congrArg StartView.lc (hholds hpick)⟩
    | some i => exact ⟨(congrArg StartView.stage (hloads i hpick)).trans h.stage, congrArg StartView.lc (hloads i hpick)⟩
  have hsteps : x.stepsDone.boot.steps = true := by simp [State.stepsDone, hstage]
  have hready := tryReady_stage x.stepsDone hstage hsteps
  rw [← tryReady_testsDone, show x.stepsDone.lc = s.lc from hlc] at hready
  refine ⟨(field_of_erased hsame (fun y => y.boot.steps)).trans hsteps, hready, fun hnone => ?_, fun i hsome => ?_⟩
  · exact (field_of_erased hsame (fun y => y.boot.hold)).trans (congrArg StartView.hold (hholds hnone))
  · exact ⟨(field_of_erased hsame (fun y => y.boot.hold)).trans (congrArg StartView.hold (hloads i hsome)),
      (field_of_erased hsame (fun y => y.boot.cfgLoaded)).trans (congrArg StartView.loaded (hloads i hsome))⟩

end

/-! Admission tests (R285). -/

section
variable {s : State}

/-- The unit is to be tested: its domain has power, and it is neither in service, retired nor in a self-test. -/
structure Tested (s : State) (u : Nat) : Prop where
  lt : u < 230
  power : feedOf u ∈ s.pwr.powered
  stage : s.boot.stage = .firmware ∨ s.boot.stage = .ready
  service : (s.unit u).service = false
  retired : (s.unit u).retired = false
  selftest : (s.unit u).selftest = false
  state : s.lc.code ≠ Lc.SCRAP

theorem exec_admissionTestDone_idle {u : Nat} (h : ¬ Tested s u) (pass : Bool) : exec (.admissionTestDone u pass) s = .next s := by
  refine if_neg fun hc => h ?_
  obtain ⟨hlt, hpower, hstage, hservice, hretired, hselftest, hstate⟩ := hc
  exact ⟨hlt, by simpa using hpower, hstage, by simpa using hservice, by simpa using hretired, by simpa using hselftest, hstate⟩

theorem exec_admissionTestDone {u : Nat} (h : Tested s u) (pass : Bool) : exec (.admissionTestDone u pass) s =
    if pass then .next ((s.setUnit u { s.unit u with service := true, booted := true }).isoCheck).tryReady
    else .next (((s.flt1 289 1).flt1 u 1).retire u).tryReady :=
  if_pos ⟨h.lt, by simpa using h.power, h.stage, by simp [h.service], by simp [h.retired], by simp [h.selftest], h.state⟩

theorem unit_of_units {t : State} (h : t.units = s.units) (k : Nat) : t.unit k = s.unit k := by rw [State.unit, h, State.unit]

theorem isoCheck_units (s : State) : s.isoCheck.units = s.units :=
  isoCheck_keeps State.units (fun _ _ _ => rfl) (fun x => field_of_erased (isoFault_sansReports x) State.units) (fun _ _ => rfl) s

theorem isoCheck_cmds (s : State) : s.isoCheck.cmds = s.cmds :=
  isoCheck_keeps State.cmds (fun _ _ _ => rfl) (fun x => field_of_erased (isoFault_sansReports x) State.cmds) (fun _ _ => rfl) s

/-- Where the self-tests of the unit passed, it serves; no other unit and no command changes. -/
theorem exec_admissionTestDone_passes {u : Nat} (h : Tested s u) : ∃ t, exec (.admissionTestDone u true) s = .next t ∧ (t.unit u).service = true ∧
    (t.unit u).retired = false ∧ t.cmds = s.cmds ∧ ∀ k, k ≠ u → t.unit k = s.unit k := by
  have hsame := tryReady_sansReady ((s.setUnit u { s.unit u with service := true, booted := true }).isoCheck)
  refine ⟨_, (exec_admissionTestDone h true).trans (if_pos rfl), ?_⟩
  have hunit : ∀ k, ((s.setUnit u { s.unit u with service := true, booted := true }).isoCheck.tryReady).unit k =
      (s.setUnit u { s.unit u with service := true, booted := true }).unit k :=
    unit_of_units ((field_of_erased hsame State.units).trans (isoCheck_units _))
  refine ⟨?_, ?_, (field_of_erased hsame State.cmds).trans (isoCheck_cmds _), fun k hk => ?_⟩
  · rw [hunit, unit_setUnit_same]
  · rw [hunit, unit_setUnit_same]
    exact h.retired
  · rw [hunit, unit_setUnit_other s hk]

/-- A retired unit is out of service. -/
theorem retireOne_unit (s : State) (u : Nat) : ((s.retireOne u).unit u).service = false ∧ ((s.retireOne u).unit u).retired = true := by
  have hset : ∀ x : State, ((x.setUnit u { x.unit u with service := false, retired := true, selftest := false, tested := false }).unit u).service = false ∧
      ((x.setUnit u { x.unit u with service := false, retired := true, selftest := false, tested := false }).unit u).retired = true := fun x => by
    rw [unit_setUnit_same]
    exact ⟨rfl, rfl⟩
  unfold State.retireOne
  dsimp only
  split
  · split <;> exact hset _
  · exact hset _

/-- Where they failed, it is retired. -/
theorem exec_admissionTestDone_fails {u : Nat} (h : Tested s u) :
    ∃ t, exec (.admissionTestDone u false) s = .next t ∧ (t.unit u).service = false ∧ (t.unit u).retired = true := by
  refine ⟨_, (exec_admissionTestDone h false).trans (if_neg Bool.false_ne_true), ?_⟩
  have hunit : ∀ x : State, (x.retireOne u).isoCheck.tryReady.unit u = (x.retireOne u).unit u := fun x =>
    unit_of_units ((field_of_erased (tryReady_sansReady _) State.units).trans (isoCheck_units _)) u
  unfold State.retire
  rw [hunit]
  exact retireOne_unit _ u

end

/-! Curves (R259). -/

section
variable {s : State} {n : Nat} {rec : List Byte}

/-- The index holds the new record's curve, or none where the record is empty or fails its checks; other indices stay. -/
structure Switched (s t : State) (n : Nat) (rec : List Byte) : Prop where
  noneWaits : mget t.boot.curveNew n = none
  curve : mget t.curves n = if rec = [] ∨ curveCheck rec ≠ 0 then none else some (curveOf rec)
  others : ∀ k, k ≠ n → mget t.curves k = mget s.curves k

theorem switchCurve_switched (s : State) (n : Nat) (rec : List Byte) : Switched s (s.switchCurve n rec).noteFull n rec := by
  have hsame := noteFull_sansReady (s.switchCurve n rec)
  have hwaits : (s.switchCurve n rec).noteFull.boot.curveNew = mdel s.boot.curveNew n := field_of_erased hsame (fun x => x.boot.curveNew)
  have hcurves : (s.switchCurve n rec).noteFull.curves =
      if rec = [] ∨ curveCheck rec ≠ 0 then mdel s.curves n else mput s.curves n (curveOf rec) := by
    refine (field_of_erased hsame State.curves).trans ?_
    change (if rec.isEmpty || (if rec.isEmpty then 0 else curveCheck rec) != 0 then mdel s.curves n else mput s.curves n (curveOf rec)) = _
    by_cases hempty : rec = []
    · simp [hempty]
    · simp [hempty]
  by_cases hbad : rec = [] ∨ curveCheck rec ≠ 0
  · rw [if_pos hbad] at hcurves
    exact ⟨by rw [hwaits, mget_mdel_same], by rw [hcurves, mget_mdel_same, if_pos hbad], fun k hk => by rw [hcurves, mget_mdel_other _ _ _ hk]⟩
  · rw [if_neg hbad] at hcurves
    exact ⟨by rw [hwaits, mget_mdel_same], by rw [hcurves, mget_mput_same, if_neg hbad], fun k hk => by rw [hcurves, mget_mput_other _ _ _ _ hk]⟩

theorem exec_curves_idle (h : mget s.boot.curveNew n = none) : exec (.curveRecordChecked n) s = .next s ∧ exec (.curveSwitch n) s = .next s := by
  constructor
  · change execCurveRecordChecked n s = _
    simp only [execCurveRecordChecked, h]
  · change execCurveSwitch n s = _
    simp only [execCurveSwitch, h]

theorem exec_curveRecordChecked (h : mget s.boot.curveNew n = some rec) : exec (.curveRecordChecked n) s =
    if s.curveTurn n rec ∧ (mget s.curves n).isNone then .next (s.switchCurve n rec).noteFull else .next s := by
  change execCurveRecordChecked n s = _
  simp only [execCurveRecordChecked, h]

theorem exec_curveSwitch (h : mget s.boot.curveNew n = some rec) : exec (.curveSwitch n) s =
    if !s.curveTurn n rec ∨ s.cmds.any (fun c => c.2.onCurveIdx n) then .next s else .next (s.switchCurve n rec).noteFull := by
  change execCurveSwitch n s = _
  simp only [execCurveSwitch, h]

theorem exec_curveRecordChecked_takes (h : mget s.boot.curveNew n = some rec) (hturn : s.curveTurn n rec = true) (hnone : mget s.curves n = none) :
    ∃ t, exec (.curveRecordChecked n) s = .next t ∧ Switched s t n rec :=
  ⟨_, (exec_curveRecordChecked h).trans (if_pos ⟨hturn, by simp [hnone]⟩), switchCurve_switched s n rec⟩

theorem exec_curveRecordChecked_waits (h : mget s.boot.curveNew n = some rec) (hno : s.curveTurn n rec = false ∨ mget s.curves n ≠ none) :
    exec (.curveRecordChecked n) s = .next s := by
  refine (exec_curveRecordChecked h).trans (if_neg fun hc => ?_)
  obtain ⟨hturn, hnone⟩ := hc
  exact hno.elim (fun hf => absurd hturn (by simp [hf])) (fun hsome => hsome (by simpa using hnone))

theorem exec_curveSwitch_takes (h : mget s.boot.curveNew n = some rec) (hturn : s.curveTurn n rec = true)
    (hnone : ∀ c ∈ s.cmds, c.2.onCurveIdx n = false) : ∃ t, exec (.curveSwitch n) s = .next t ∧ Switched s t n rec := by
  refine ⟨_, (exec_curveSwitch h).trans (if_neg fun hc => ?_), switchCurve_switched s n rec⟩
  obtain hturn' | hany := hc
  · simp [hturn] at hturn'
  · obtain ⟨c, hc, hon⟩ := List.any_eq_true.mp hany
    simp [hnone c hc] at hon

theorem exec_curveSwitch_waits (h : mget s.boot.curveNew n = some rec)
    (hno : s.curveTurn n rec = false ∨ ∃ c ∈ s.cmds, c.2.onCurveIdx n = true) : exec (.curveSwitch n) s = .next s :=
  (exec_curveSwitch h).trans (if_pos (hno.imp (fun hf => by simp [hf]) (fun ⟨c, hc, hon⟩ => List.any_eq_true.mpr ⟨c, hc, hon⟩)))

end

end Sys2Proof.Machine
end

section
/-!
SUPPORT. The end of unsealing (spec file 05, R138; spec file 15, R365): what becomes of each record's object, and the commands that waited.
-/
namespace Sys2Proof.Machine
open Sys2Proof

/-! One record. -/

section
variable {s : State}

/-- The state without the key objects, and what it reports. -/
def State.sansObjs (s : State) : State := { s.sansReports with ks := { s.ks with objs := [] } }

/-- The object at a handle once its record is read: absent where it was still sealed and the record does not open. -/
def KeyObj.afterRecord (o : KeyObj) (dsk : Option (List Byte)) (f : FlashKey) : Option KeyObj :=
  if o.unsealed = false ∧ (f.damaged = true ∨ dsk ≠ some f.dsk) then none else some { o with unsealed := true }

/-- One more record is counted. -/
def State.countUnseal (s : State) : State := s.wrF Reg.KST_UNSEAL 15 0 (s.rdF Reg.KST_UNSEAL 15 0 + 1)

theorem unsealOne_absent (f : FlashKey) {h : Nat} (ho : mget s.ks.objs h = none) : s.unsealOne h f = s := by
  have ho' : mget s.countUnseal.ks.objs h = none := ho
  unfold State.unsealOne
  dsimp only
  rw [← State.countUnseal, ho']

theorem unsealOne_present (f : FlashKey) {h : Nat} {o : KeyObj} (ho : mget s.ks.objs h = some o) : s.unsealOne h f =
    if o.unsealed then s
    else if f.damaged ∨ s.ks.dsk ≠ some f.dsk then
      State.flt1 { s.countUnseal with ks := { s.ks with objs := mdel s.ks.objs h } } 260 1
    else s.countUnseal.setObj h { o with unsealed := true } := by
  have ho' : mget s.countUnseal.ks.objs h = some o := ho
  unfold State.unsealOne
  dsimp only
  rw [← State.countUnseal, ho']
  rfl

theorem flt260_sansReports (s : State) : (s.flt1 260 1).sansReports = s.sansReports := sansReports_fault (by decide) s 260 false false false

theorem sansObjs_of_sansReports {t : State} (h : t.sansReports = s.sansReports) : t.sansObjs = s.sansObjs := by
  rw [State.sansObjs, h, field_of_erased h State.ks, ← State.sansObjs]

theorem unsealOne_sansObjs (s : State) (h : Nat) (f : FlashKey) : (s.unsealOne h f).sansObjs = s.sansObjs := by
  cases ho : mget s.ks.objs h with
  | none => rw [unsealOne_absent f ho]
  | some o =>
    rw [unsealOne_present f ho]
    split_ifs
    · rfl
    · exact (sansObjs_of_sansReports (flt260_sansReports _)).trans rfl
    · rfl

theorem unsealOne_rd (s : State) (h : Nat) (f : FlashKey) {off : Nat} (hunseal : off ≠ Reg.KST_UNSEAL) (hfault : off ∉ faultRegs 260) :
    (s.unsealOne h f).rd 0 off = s.rd 0 off := by
  have hcount : s.countUnseal.rd 0 off = s.rd 0 off := rd_wr_pf _ _ _ _ hunseal
  cases ho : mget s.ks.objs h with
  | none => rw [unsealOne_absent f ho]
  | some o =>
    rw [unsealOne_present f ho]
    split_ifs
    · rfl
    · exact (rd_flt1_classD _ _ _ hfault).trans hcount
    · exact hcount

theorem unsealOne_other (s : State) {h k : Nat} (f : FlashKey) (hk : k ≠ h) : mget (s.unsealOne h f).ks.objs k = mget s.ks.objs k := by
  cases ho : mget s.ks.objs h with
  | none => rw [unsealOne_absent f ho]
  | some o =>
    rw [unsealOne_present f ho]
    split_ifs
    · rfl
    · rw [field_of_erased (flt260_sansReports _) (fun x => x.ks.objs)]
      exact mget_mdel_other _ _ _ hk
    · exact mget_mput_other _ _ _ _ hk

theorem unsealOne_same (f : FlashKey) {h : Nat} {o : KeyObj} (ho : mget s.ks.objs h = some o) :
    mget (s.unsealOne h f).ks.objs h = o.afterRecord s.ks.dsk f := by
  rw [unsealOne_present f ho, KeyObj.afterRecord]
  cases hopen : o.unsealed with
  | true => rw [if_pos rfl, if_neg (fun hno => nomatch hno.1), ho, ← hopen]
  | false =>
    rw [if_neg Bool.false_ne_true]
    by_cases hbad : f.damaged = true ∨ s.ks.dsk ≠ some f.dsk
    · rw [if_pos hbad, if_pos ⟨rfl, hbad⟩, field_of_erased (flt260_sansReports _) (fun x => x.ks.objs)]
      exact mget_mdel_same _ _
    · rw [if_neg hbad, if_neg (fun hno => hbad hno.2)]
      exact mget_mput_same _ _ _

end

/-! Every record. -/

section
variable {s : State}

/-- Every record of a list is read. -/
def State.unsealAll (s : State) (l : List (Nat × FlashKey)) : State := l.foldl (fun (x : State) r => x.unsealOne r.1 r.2) s

theorem unsealAll_sansObjs (s : State) (l : List (Nat × FlashKey)) : (s.unsealAll l).sansObjs = s.sansObjs :=
  foldl_keep State.sansObjs (fun (x : State) (r : Nat × FlashKey) => x.unsealOne r.1 r.2) (fun x r => unsealOne_sansObjs x r.1 r.2) l s

theorem unsealAll_rd (s : State) (l : List (Nat × FlashKey)) {off : Nat} (hunseal : off ≠ Reg.KST_UNSEAL) (hfault : off ∉ faultRegs 260) :
    (s.unsealAll l).rd 0 off = s.rd 0 off :=
  foldl_keep (fun x : State => x.rd 0 off) (fun (x : State) (r : Nat × FlashKey) => x.unsealOne r.1 r.2) (fun x r => unsealOne_rd x r.1 r.2 hunseal hfault) l s

theorem unsealAll_other (l : List (Nat × FlashKey)) {k : Nat} (hk : ∀ r ∈ l, k ≠ r.1) (s : State) :
    mget (s.unsealAll l).ks.objs k = mget s.ks.objs k := by
  induction l generalizing s with
  | nil => rfl
  | cons r l ih =>
    obtain ⟨hr, hl⟩ := List.forall_mem_cons.mp hk
    exact (ih hl _).trans (unsealOne_other s r.2 hr)

/-- Each object is as its own record leaves it. -/
theorem unsealAll_same (l : List (Nat × FlashKey)) (hrise : keysRise l = true) {h : Nat} {f : FlashKey} {o : KeyObj} (hf : (h, f) ∈ l) (s : State)
    (ho : mget s.ks.objs h = some o) : mget (s.unsealAll l).ks.objs h = o.afterRecord s.ks.dsk f := by
  induction l generalizing s with
  | nil => simp at hf
  | cons r l ih =>
    obtain ⟨k, g⟩ := r
    obtain ⟨hlt, hrest⟩ := (keysRise_cons k g l).mp hrise
    obtain heq | hmem := List.mem_cons.mp hf
    · obtain ⟨rfl, rfl⟩ := Prod.mk.inj heq
      exact (unsealAll_other l (fun r hr => Nat.ne_of_lt (hlt r hr)) _).trans (unsealOne_same f ho)
    · have hne : h ≠ k := (Nat.ne_of_lt (hlt _ hmem)).symm
      have hdsk : (s.unsealOne k g).ks.dsk = s.ks.dsk := field_of_erased (unsealOne_sansObjs s k g) (fun x => x.ks.dsk)
      exact (ih hrest hmem (s.unsealOne k g) ((unsealOne_other s g hne).trans ho)).trans (by rw [hdsk])

end

/-! UNSEAL_DONE. -/

section
variable {s : State}

/-- No command waits for unsealing any more. -/
def State.noneWaits (s : State) : Prop := ∀ c ∈ s.cmds, c.2.phase ≠ .waitUnseal

theorem wakeUnseal_noneWaits (s : State) : s.wakeUnseal.noneWaits := by
  intro c hc
  obtain ⟨x, -, rfl⟩ := List.mem_map.mp hc
  dsimp only
  split
  · simp
  · assumption

/-- The boot's unsealing is at its end. -/
structure Unseals (s : State) : Prop where
  store : s.sealState = Seal.UNSEALING
  stage : s.boot.stage = .firmware ∨ s.boot.stage = .ready
  dsk : s.noDskState = false ∨ s.ks.flash = []

/-- Objects are being reloaded. -/
structure Reloads (s : State) : Prop where
  store : s.sealState = Seal.NORMAL
  some : ∃ o ∈ s.ks.objs, o.2.unsealed = false

/-- The condition of execUnsealDone's first branch. -/
theorem unseals_iff : Unseals s ↔
    s.sealState = Seal.UNSEALING ∧ (s.boot.stage = .firmware ∨ s.boot.stage = .ready) ∧ (!(s.noDskState && !s.ks.flash.isEmpty)) = true := by
  have hdsk : (s.noDskState = false ∨ s.ks.flash = []) ↔ (!(s.noDskState && !s.ks.flash.isEmpty)) = true := by
    cases s.noDskState <;> simp
  exact ⟨fun h => ⟨h.store, h.stage, hdsk.mp h.dsk⟩, fun ⟨hseal, hstage, h⟩ => ⟨hseal, hstage, hdsk.mpr h⟩⟩

/-- The condition of its second branch. -/
theorem reloads_iff : Reloads s ↔ s.sealState = Seal.NORMAL ∧ s.ks.objs.any (fun o => !o.2.unsealed) = true := by
  have hany : (∃ o ∈ s.ks.objs, o.2.unsealed = false) ↔ s.ks.objs.any (fun o => !o.2.unsealed) = true := by simp
  exact ⟨fun h => ⟨h.store, hany.mp h.some⟩, fun ⟨hseal, h⟩ => ⟨hseal, hany.mpr h⟩⟩

theorem exec_unsealDone_idle (hunseals : ¬ Unseals s) (hreloads : ¬ Reloads s) : exec .unsealDone s = .next s :=
  (if_neg (fun hc => hunseals (unseals_iff.mpr hc))).trans (if_neg (fun hc => hreloads (reloads_iff.mpr hc)))

/-- The store with the seal state after a boot's unsealing. -/
def State.sealEnds (s : State) : State := s.wrF Reg.KST_STAT 5 4 (if s.ks.flash.isEmpty then Seal.EMPTY else Seal.NORMAL)

theorem exec_unsealDone (h : Unseals s) : exec .unsealDone s = .next (s.unsealAll s.ks.flash).sealEnds.wakeUnseal.noteFull := if_pos (unseals_iff.mp h)

theorem exec_unsealDone_back (h : Reloads s) : exec .unsealDone s =
    .next (State.wr (s.unsealAll s.ks.flash) 0 Reg.KST_UNSEAL (s.rd 0 Reg.KST_UNSEAL)).wakeUnseal := by
  have hno : ¬ Unseals s := fun hc => absurd (h.store.symm.trans hc.store) (by decide)
  exact (if_neg (fun hc => hno (unseals_iff.mpr hc))).trans (if_pos (reloads_iff.mp h))

/-- A reload keeps the seal state and the count. -/
theorem exec_unsealDone_reloads (h : Reloads s) : ∃ t, exec .unsealDone s = .next t ∧ t.sealState = Seal.NORMAL ∧
    t.rd 0 Reg.KST_UNSEAL = s.rd 0 Reg.KST_UNSEAL ∧ t.noneWaits := by
  refine ⟨_, exec_unsealDone_back h, ?_, rd_wr_same _ _ _ _, wakeUnseal_noneWaits _⟩
  refine Eq.trans (congrArg (fun w => fld w 5 4) ?_) h.store
  exact (rd_wr_pf _ _ _ _ (by decide)).trans (unsealAll_rd s _ (by decide) (by decide))

/-- After a boot's unsealing the store is NORMAL, or EMPTY without records. -/
theorem sealEnds_sealState (s : State) : s.sealEnds.wakeUnseal.noteFull.sealState = if s.ks.flash = [] then Seal.EMPTY else Seal.NORMAL := by
  rw [State.sealState, State.rdF, noteFull_rd _ (by decide)]
  change s.sealEnds.rdF Reg.KST_STAT 5 4 = _
  refine (rdF_wrF_same _ _ _ _ _ (by decide) (by decide) ?_).trans ?_
  · split <;> decide
  · simp only [List.isEmpty_iff]

theorem exec_unsealDone_ends (h : Unseals s) (hrise : keysRise s.ks.flash = true) : ∃ t, exec .unsealDone s = .next t ∧
    t.sealState = (if s.ks.flash = [] then Seal.EMPTY else Seal.NORMAL) ∧
    (∀ k f x, (k, f) ∈ s.ks.flash → mget s.ks.objs k = some x → mget t.ks.objs k = x.afterRecord s.ks.dsk f) ∧ t.noneWaits := by
  have hobjs : ∀ k f x, (k, f) ∈ s.ks.flash → mget s.ks.objs k = some x → mget (s.unsealAll s.ks.flash).ks.objs k = x.afterRecord s.ks.dsk f :=
    fun k f x hf hx => unsealAll_same s.ks.flash hrise hf s hx
  have hflash : (s.unsealAll s.ks.flash).ks.flash = s.ks.flash := field_of_erased (unsealAll_sansObjs s s.ks.flash) (fun x => x.ks.flash)
  have hexec := exec_unsealDone h
  generalize s.unsealAll s.ks.flash = u at hexec hobjs hflash
  have hsame := noteFull_sansReady u.sealEnds.wakeUnseal
  refine ⟨_, hexec, ?_, fun k f x hf hx => ?_, ?_⟩
  · rw [sealEnds_sealState, hflash]
  · exact (congrArg (mget · k) (field_of_erased hsame (fun y => y.ks.objs))).trans (hobjs k f x hf hx)
  · intro c hc
    exact wakeUnseal_noneWaits u.sealEnds c (field_of_erased hsame State.cmds ▸ hc)

end

end Sys2Proof.Machine
end

section
namespace Sys2Proof.Machine
open Sys2Proof

/-- Settles O45: each command and event by its own lemma; the banks by `setBank_otherBank` and `setBank_running`, resets by `fullReset_inReset`,
the firmware's start and CONFIG_PUSH by what the sections of an image leave, and unsealing by induction over the records. -/
theorem firmwareAndBoot : Obligations.FirmwareAndBoot := by
  unfold Obligations.FirmwareAndBoot
  intro s fn ch r req ok o banks b inReset off
  have htwo : banks → TwoBanks s := fun hb => ⟨hb.1, hb.2⟩
  have hreset : ∀ {t : State} {c : Nat}, InReset t c → inReset t c := fun h => ⟨h.stage, h.cmds, h.cause⟩
  have hkindles : (s.pwr.vin = true ∧ s.boot.stage = .kindling ∧ 164 ∈ s.pwr.powered) ↔ Kindles s :=
    ⟨fun ⟨hvin, hstage, hpower⟩ => ⟨hvin, hstage, hpower⟩, fun h => ⟨h.vin, h.stage, h.power⟩⟩
  refine ⟨exec_fwStage_bad, fun h hb hext hlen hfits => ?staged, fun h hb => ⟨exec_fwVerify_bad h, fun hok => ?verified⟩, fun h hb => ⟨exec_fwActivate_bad h, fun hok => ?activated⟩,
    fun h hb => ⟨exec_fwConfirm_bad h, fun htrial hstate => ?confirmed⟩, fun h => ⟨exec_fwCommitSvn_bad h, exec_fwCommitSvn_done h⟩,
    fun h => ⟨exec_kindlingLoad_bad h, exec_kindlingLoad_fails h, fun hext hok => ?pushed⟩, fun hb hstage htrial hstate => ?trialEnds, exec_trialReadyTimeout_idle,
    exec_hearth_idle, exec_lockstepMismatch_failover, fun h hsync => ?mismatch, exec_pairSelftestDone_idle, exec_pairSelftestDone_ends,
    fun core jobs hcore h hfirst => exec_dispatchWatchdog_retires jobs hcore h hfirst, fun core jobs at_ hcore h hexp hle => ?expiry, fun h hb => ?watchdog,
    fun dud h => exec_kindlingStart_idle dud (fun hk => h (hkindles.mpr hk)),
    fun dud hvin hstage hpower => exec_kindlingStart_does (hkindles.mp ⟨hvin, hstage, hpower⟩) dud,
    exec_firmwareStart_idle, fun hstage hstate hsteps => exec_firmwareStart_does ⟨hstage, hstate, hsteps⟩, ?unsealing, ?admission, ?curves, ?config⟩
  case staged =>
    obtain ⟨t, hexec, hother, hstaging, hrunning, hbank⟩ := exec_fwStage_done h (htwo hb) hext hlen hfits (req := req)
    have himage : ∀ a, readByte (t.bank o).image a = readByte (s.stagedBank off r.reqLen b).image a :=
      congrFun (congrArg (fun x : FwBank => readByte x.image) hother)
    refine ⟨t, hexec, congrArg FwBank.state hother, congrArg FwBank.failed hother, hstaging, hrunning, hbank, fun k hk => ?_, fun a ha => ?_⟩
    · rw [himage]
      exact readByte_writeBytes_same _ _ _ _ (by rwa [payload_length hext])
    · rw [himage]
      exact stagedBank_outside s (payload_length hext) ha
  case verified =>
    obtain ⟨hother, hrunning⟩ := setBank_otherBank (htwo hb) { s.bank s.otherBank with state := .staged }
    exact ⟨_, exec_fwVerify_done h hok, hother, hrunning⟩
  case activated =>
    obtain ⟨hother, hrunning⟩ := setBank_otherBank (htwo hb) { s.bank s.otherBank with state := .trial }
    exact ⟨_, exec_fwActivate_done h hok, hother, hrunning⟩
  case confirmed =>
    obtain ⟨hrunning, hother⟩ := setBank_running (htwo hb) { s.bank s.boot.bank with state := .confirmed, failed := false }
    exact ⟨_, exec_fwConfirm_done h htrial hstate, hrunning, rfl, rfl, hother⟩
  case pushed => exact ⟨_, exec_kindlingLoad_done h hext hok, rfl, rfl, rfl, rfl⟩
  case trialEnds =>
    obtain ⟨hrunning, hother⟩ := setBank_running (htwo hb) { s.bank s.boot.bank with state := .trialFailed, failed := true }
    have hexec := exec_trialReadyTimeout_fails hstage
    rw [failTrial_trial htrial hstate] at hexec
    exact ⟨_, hexec, by rw [hrunning], by rw [hrunning], hother, rfl⟩
  case mismatch =>
    obtain ⟨t, hexec, hin⟩ := exec_lockstepMismatch_resets h hsync
    exact ⟨t, hexec, hreset hin⟩
  case expiry =>
    obtain ⟨t, hexec, hin⟩ := exec_dispatchWatchdog_resets jobs hcore h hexp hle
    exact ⟨t, hexec, hreset hin⟩
  case watchdog =>
    obtain ⟨t, hexec, hin, htrial⟩ := exec_hearthWatchdog_resets h (htwo hb)
    exact ⟨t, hexec, hreset hin, htrial⟩
  case unsealing =>
    intro unseals back
    have hunseals : unseals → Unseals s := fun ⟨hstore, hstage, hdsk⟩ => ⟨hstore, hstage, hdsk⟩
    exact ⟨fun hno hback => exec_unsealDone_idle (fun h => hno ⟨h.store, h.stage, h.dsk⟩) (fun h => hback ⟨h.store, h.some⟩),
      fun ⟨hstore, hsome⟩ => exec_unsealDone_reloads ⟨hstore, hsome⟩, fun h hrise => exec_unsealDone_ends (hunseals h) hrise⟩
  case admission =>
    intro u pass x tests
    have htests : tests ↔ Tested s u := ⟨fun ⟨hlt, hpower, hstage, hservice, hretired, hselftest, hstate⟩ =>
        ⟨hlt, hpower, hstage, hservice, hretired, hselftest, hstate⟩,
      fun h => ⟨h.lt, h.power, h.stage, h.service, h.retired, h.selftest, h.state⟩⟩
    refine ⟨fun hno => exec_admissionTestDone_idle (fun h => hno (htests.mpr h)) pass, fun h => ?_⟩
    cases pass with
    | true =>
      obtain ⟨t, hexec, hservice, hretired, hcmds, hothers⟩ := exec_admissionTestDone_passes (htests.mp h)
      exact ⟨t, hexec, hservice, hretired, fun _ => ⟨hcmds, hothers⟩⟩
    | false =>
      obtain ⟨t, hexec, hservice, hretired⟩ := exec_admissionTestDone_fails (htests.mp h)
      exact ⟨t, hexec, hservice, hretired, fun hno => nomatch hno⟩
  case curves =>
    intro n rec sw
    have hsw : ∀ {i : Instr}, (∃ t, exec i s = .next t ∧ Switched s t n rec) → ∃ t, exec i s = .next t ∧ sw t :=
      fun ⟨t, hexec, h⟩ => ⟨t, hexec, h.noneWaits, h.curve, h.others⟩
    exact ⟨exec_curves_idle, fun h => ⟨fun hturn hnone => hsw (exec_curveRecordChecked_takes h hturn hnone), exec_curveRecordChecked_waits h,
      fun hturn hnone => hsw (exec_curveSwitch_takes h hturn hnone), exec_curveSwitch_waits h⟩⟩
  case config => exact fun h => ⟨exec_configPush_bad h, exec_configPush_fails h, exec_configPush_done h⟩

end Sys2Proof.Machine
end

section
/-!
SUPPORT. The operations of family 0x0F that end at once (spec file 05, R141 to R154): their fields, the object or key they name, their buffers,
and the rows that run them.
-/
namespace Sys2Proof.Machine
open Sys2Proof

/-! Reserved fields and handles (R143). -/

section
variable {c : Cmd}

theorem fields_unkeyed (h48 : leAt c.desc 48 8 = 0) (hh2 : c.h2 = 0) (hh1 : c.h1 = 0) : c.fields false = .ok () :=
  need_true (by simp [h48, hh2, hh1, PUBLIC_IN_AUX])

theorem fields_bad {key : Bool} (h : ¬ (leAt c.desc 48 8 = 0 ∧ c.h2 = 0 ∧ c.h1 ≠ PUBLIC_IN_AUX) ∨ key = false ∧ c.h1 ≠ 0) :
    c.fields key = .error (.err St.BAD_FIELD) := by
  refine if_neg fun hok => ?_
  simp only [Bool.and_eq_true, beq_iff_eq, bne_iff_ne, Bool.or_eq_true] at hok
  obtain ⟨⟨⟨h48, hh2⟩, hkeyed⟩, hpub⟩ := hok
  obtain hplain | ⟨hkey, hh1⟩ := h
  · exact hplain ⟨h48, hh2, hpub⟩
  · exact hkeyed.elim (fun h => Bool.false_ne_true (hkey.symm.trans h)) hh1

end

/-! Buffers: empty input and auxiliary data, and an output that is empty or flat (R98, R25 steps 8 and 9). -/

theorem buffer_flat {addr len : Nat} (parts : List SgPart) (h : len = 0 ∨ addr < 2 ^ 63) :
    buffer addr len parts = .ok (if len = 0 then [] else [(addr, len)]) := by
  unfold buffer
  by_cases hlen : len = 0
  · rw [if_pos hlen, if_pos hlen]
  · rw [if_neg hlen, if_neg hlen, if_pos (h.resolve_left hlen)]

/-- The command once its buffers are read: no input, and one segment of output where it has any. -/
def Cmd.withFlatOut (c : Cmd) (host : HostRead) : Cmd :=
  { c with inp := fixLen 0 host.input, aux := fixLen 0 host.aux, outMap := if c.cap = 0 then [] else [(c.outAddr, c.cap)] }

section
variable {c : Cmd}

theorem buffers_flatOut (host : HostRead) (n : Nat) (hin : c.inLen = 0) (haux : c.auxLen = 0) (hout : c.cap = 0 ∨ c.outAddr < 2 ^ 63) :
    c.buffers host (· == 0) (· == 0) n = if c.cap < n then .error (tooSmall n) else .ok (c.withFlatOut host) := by
  unfold Cmd.buffers
  rw [buffer_flat _ (.inl hin), buffer_flat _ (.inl haux), buffer_flat _ hout, hin, haux]
  split <;> rfl

theorem bare_empty (host : HostRead) (hin : c.inLen = 0) (haux : c.auxLen = 0) (hcap : c.cap = 0) : c.bare host = .ok (c.withFlatOut host) :=
  (buffers_flatOut host 0 hin haux (.inl hcap)).trans (if_neg (Nat.not_lt_zero _))

/-- Data that fits a flat output goes out in one write. -/
theorem writeOut_withFlatOut (s : State) (host : HostRead) {out : List Byte} (hpos : 0 < out.length) (hfit : out.length ≤ c.cap) :
    s.writeOut (c.withFlatOut host) 0 out true = s.memWrite c.fn c.outAddr out true := by
  have hcap : c.cap ≠ 0 := by omega
  have hmap : (c.withFlatOut host).outMap = [(c.outAddr, c.cap)] := if_neg hcap
  unfold State.writeOut
  rw [hmap]
  simp only [scatter, ge_iff_le, Nat.le_zero, if_neg hcap, Nat.add_zero, Nat.sub_zero, List.take_of_length_le hfit, List.foldl_cons, List.foldl_nil]
  rfl

end

/-! The object or key that a handle names (R131). -/

section
variable {s : State} {fn h : Nat} {blobs : List (Nat × List Byte)} {m : KeyMat} {o : KeyObj}

/-- A handle that resolves to an object is none of a sealed blob, and the object is in the store. -/
theorem resident_of_resolve (hres : s.resolve fn h blobs = .key m (some o)) : handleClass h ≠ 1 ∧ mget s.ks.objs h = some o := by
  simp only [State.resolve] at hres
  split at hres
  · nomatch hres
  split at hres
  next => grind  -- a sealed blob's key comes with no object
  next hclass =>
    split at hres
    · nomatch hres
    split at hres
    next p hget =>
      split at hres
      · simp only [Found.key.injEq, Option.some.injEq] at hres
        exact ⟨hclass, hget.trans (congrArg some hres.2)⟩
      · nomatch hres
    · nomatch hres

theorem anyObj_resident (hres : s.resolve fn h [] = .key m (some o)) (hcurve : s.curveHolds m = true) : s.anyObj fn h = .ok o := by
  obtain ⟨hclass, -⟩ := resident_of_resolve hres
  simp [State.anyObj, hclass, hres, hcurve]

theorem anyKey_resolved {host : HostRead} {x : Option KeyObj} (hres : s.resolve fn h host.blobs = .key m x) (hcurve : s.curveHolds m = true) :
    s.anyKey fn h host = .ok (m, x) := by
  simp [State.anyKey, State.findKey, hres, hcurve, need, ok_bind]

theorem needBlob_resident (hclass : handleClass h ≠ 1) : s.needBlob h = .ok () :=
  need_true (by simp [hclass])

theorem needDsk_ok {b : Bool} (h : b = true → s.noDsk = false ∧ s.dskPending = false) : s.needDsk b = .ok () := by
  cases b with
  | false => rfl
  | true => simp [State.needDsk, h rfl]

end

/-! What each operation yields. -/

section
variable {s : State} {c : Cmd} {host : HostRead} {o : KeyObj}

/-! Reserved fields are looked at before anything else (R25 step 3). -/

section
variable {d : Done} (hbad : c.fields true = .error d)
include hbad

theorem commitOp_badFields : s.commitOp c host = .error d := by rw [State.commitOp, hbad, error_bind]

theorem discardOp_badFields : s.discardOp c host = .error d := by rw [State.discardOp, hbad, error_bind]

theorem destroyOp_badFields : s.destroyOp c host = .error d := by rw [State.destroyOp, hbad, error_bind]

theorem keyBytesOp_badFields (ok : KeyMat → Bool) (f : KeyMat → Option KeyObj → List Byte) : s.keyBytesOp c host ok f = .error d := by
  rw [State.keyBytesOp, hbad, error_bind]

end

theorem blobEpochOp_badFields {d : Done} (hbad : c.fields false = .error d) : s.blobEpochOp c host = .error d := by
  rw [State.blobEpochOp, hbad, error_bind]

theorem ctxClearOp_badFields {d : Done} (hbad : c.fields false = .error d) : s.ctxClearOp c host = .error d := by
  rw [State.ctxClearOp, hbad, error_bind]

/-! An object that the handle names: a staged generation or none, and the quorum (R151 to R154). -/

section
variable (hfields : c.fields true = .ok ()) (hobj : s.anyObj c.fn c.h1 = .ok o)
include hfields hobj

theorem commitOp_unstaged (hnone : o.staged = none) : s.commitOp c host = .error (.err St.STATE) := by
  simp only [State.commitOp, hfields, hobj, ok_bind, hnone]
  rfl

theorem commitOp_staged {g : KeyGen} (hbare : c.bare host = .ok (c.withFlatOut host)) (hstaged : o.staged = some g) (hverified : o.verified = true)
    (hcurve : s.curveHolds (g.mat c.h1 o.stAttrs) = true) (hidle : s.committing c.h1 = false)
    (hdsk : attrPersist o.attrs = true → s.noDsk = false ∧ s.dskPending = false) :
    s.commitOp c host = .ok (s.commitGen c.h1 o g, .ok 0 (natLE 4 g.gen)) := by
  simp only [State.commitOp, hfields, hobj, ok_bind, hstaged, hverified, hcurve, hidle, need_true, needDsk_ok hdsk, hbare, Bool.not_false, Bool.and_self]
  rfl

theorem discardOp_unstaged (hnone : o.staged = none) : s.discardOp c host = .error (.err St.STATE) := by
  simp only [State.discardOp, hfields, hobj, ok_bind, hnone]
  rfl

theorem discardOp_staged (hbare : c.bare host = .ok (c.withFlatOut host)) (hstaged : o.staged ≠ none) (hidle : s.committing c.h1 = false) :
    s.discardOp c host = .ok (s.setObj c.h1 o.discard, .ok 0 []) := by
  have hsome : o.staged.isSome = true := Option.isSome_iff_ne_none.mpr hstaged
  simp only [State.discardOp, hfields, hobj, ok_bind, hsome, hidle, need_true, hbare, Bool.not_false, Bool.and_self]
  rfl

theorem destroyOp_unheld (hquorum : attrQuorum o.attrs = true) (hclosed : s.quorumOpen = false) :
    s.destroyOp c host = .error (.err St.QUORUM_REQUIRED) := by
  simp only [State.destroyOp, hfields, hobj, ok_bind, hquorum, hclosed]
  rfl

theorem destroyOp_free (hbare : c.bare host = .ok (c.withFlatOut host)) (hquorum : attrQuorum o.attrs = true → s.quorumOpen = true) :
    s.destroyOp c host = .ok (s.dropObj c.h1, .ok 0 []) := by
  have hpass : (!attrQuorum o.attrs || s.quorumOpen) = true := by cases hflag : attrQuorum o.attrs <;> simp [hquorum, hflag]
  simp only [State.destroyOp, hfields, hobj, ok_bind, hpass, need_true, hbare]
  rfl

end

/-! The function's epoch, contexts and table, and the bytes of a key (R141, R143, R147, R148). -/

theorem blobEpochOp_bare (hfields : c.fields false = .ok ()) (hbare : c.bare host = .ok (c.withFlatOut host)) :
    let e := ((mget s.ks.blobEpoch c.fn).getD 0 + 1) % 2 ^ 32
    s.blobEpochOp c host = .ok ({ s with ks := { s.ks with blobEpoch := mput s.ks.blobEpoch c.fn e } }, .ok 0 (natLE 4 e)) := by
  simp only [State.blobEpochOp, hfields, hbare, ok_bind]
  rfl

theorem ctxClearOp_inRange (hfields : c.fields false = .ok ()) (hbare : c.bare host = .ok (c.withFlatOut host)) (hctx : c.ctx < (s.fn c.fn).ctx) :
    s.ctxClearOp c host = .ok (s.clearCtx c.fn c.ctx, .ok 0 []) := by
  simp only [State.ctxClearOp, hfields, hbare, hctx, decide_true, need_true, ok_bind]
  rfl

theorem ctxClearOp_beyond (hfields : c.fields false = .ok ()) (hctx : (s.fn c.fn).ctx ≤ c.ctx) :
    s.ctxClearOp c host = .error (.err St.BAD_FIELD) := by
  simp only [State.ctxClearOp, hfields, Nat.not_lt.mpr hctx, decide_false, ok_bind]
  rfl

theorem blobTableOp_good (hbare : c.bare host = .ok (c.withFlatOut host)) (hzero : leAt c.desc 48 5 = 0) (hh1 : c.h1 = 0) (hh2 : c.h2 = 0)
    (hlo : 1 ≤ leAt c.desc 53 3) (hhi : leAt c.desc 53 3 ≤ 262144) (haligned : c.inAddr % 4096 = 0) (haddr : c.inAddr < 2 ^ 63) :
    s.blobTableOp c host = .ok (s.setFn c.fn { s.fn c.fn with blobAddr := c.inAddr, blobCount := leAt c.desc 53 3 }, .ok 0 []) := by
  have hgood : (leAt c.desc 48 5 == 0 && c.h1 == 0 && c.h2 == 0 && 1 ≤ leAt c.desc 53 3 && leAt c.desc 53 3 ≤ 262144 && c.inAddr % 4096 == 0 &&
      c.inAddr < 2 ^ 63) = true := by simpa [hzero, hh1, hh2, hlo, hhi, haligned] using haddr
  simp only [State.blobTableOp, need_true hgood, hbare, ok_bind]
  rfl

/-- Bytes of a key that passes its checks go to a flat output with room for them. -/
theorem keyBytesOp_flatOut {m : KeyMat} {x : Option KeyObj} {ok : KeyMat → Bool} (f : KeyMat → Option KeyObj → List Byte)
    (hfields : c.fields true = .ok ()) (hblob : s.needBlob c.h1 = .ok ()) (hkey : s.anyKey c.fn c.h1 host = .ok (m, x)) (hok : ok m = true)
    (hin : c.inLen = 0) (haux : c.auxLen = 0) (hout : c.outAddr < 2 ^ 63) :
    (0 < (f m x).length → (f m x).length ≤ c.cap →
      s.keyBytesOp c host ok f = .ok (s.memWrite c.fn c.outAddr (f m x) true, .ok (f m x).length [])) ∧
    (c.cap < (f m x).length → s.keyBytesOp c host ok f = .error (tooSmall (f m x).length)) := by
  have hbuffers := buffers_flatOut host (f m x).length hin haux (.inr hout)
  refine ⟨fun hpos hfit => ?_, fun hsmall => ?_⟩
  · rw [if_neg (Nat.not_lt.mpr hfit)] at hbuffers
    rw [← writeOut_withFlatOut s host hpos hfit]
    simp only [State.keyBytesOp, hfields, hblob, hkey, hok, need_true, hbuffers, ok_bind]
    rfl
  · rw [if_pos hsmall] at hbuffers
    simp only [State.keyBytesOp, hfields, hblob, hkey, hok, need_true, hbuffers, ok_bind, error_bind]

end

/-! The rows. -/

section
variable {s t : State} {id : Nat} {c : Cmd} {d : Done} {host : HostRead}

theorem atOnce_fail {status : Nat} (inline : List Byte) (h : status ≠ waitUnsealMark) :
    s.atOnce id c (.error (.fail status inline)) = s.complete id (.fail status inline) := if_neg h

theorem atOnce_err {status : Nat} (h : status ≠ waitUnsealMark) : s.atOnce id c (.error (.err status)) = s.complete id (.err status) :=
  atOnce_fail [] h

theorem keyRow0_next {op : Nat} (h : MayStart s id c) (hop : c.op = op) (f : Cmd → Except Done (State × Done)) :
    keyRow0 op id f s = .next (s.atOnce id c (f c)) := opRow_next h (beq_iff_eq.mpr hop)

theorem exec_blobEpoch (h : MayStart s id c) (hop : c.op = 0x0F41) :
    exec (.blobEpoch id host) s = .next (s.atOnce id c (s.blobEpochOp c host)) := keyRow0_next h hop _

theorem exec_ctxClear (h : MayStart s id c) (hop : c.op = 0x0F50) :
    exec (.ctxClear id host) s = .next (s.atOnce id c (s.ctxClearOp c host)) := keyRow0_next h hop _

theorem exec_blobTable (h : MayStart s id c) (hop : c.op = 0x0F70) :
    exec (.blobTable id host) s = .next (s.atOnce id c (s.blobTableOp c host)) := keyRow0_next h hop _

theorem exec_publicExport (h : MayStart s id c) (hop : c.op = 0x0F60) : exec (.publicExport id host) s =
    .next (s.atOnce id c (s.keyBytesOp c host (fun k => k.fam != 0x0C && k.fam != 0x0F) (fun k _ => k.pub))) := keyRow0_next h hop _

/-- What ATTRIBUTES returns: the record of an object, else the record in a sealed blob (R132, R147). -/
def attributesOut (k : KeyMat) (o : Option KeyObj) : List Byte := match o with | some x => x.record | none => k.attrs

theorem exec_attributes (h : MayStart s id c) (hop : c.op = 0x0F61) : exec (.attributes id host) s =
    .next (s.atOnce id c (s.keyBytesOp c host (fun _ => true) attributesOut)) :=
  keyRow0_next h hop _

/-- How a row ends whose operation returns bytes of a key. -/
theorem exec_keyBytesOp {i : Instr} {m : KeyMat} {x : Option KeyObj} {ok : KeyMat → Bool} {f : KeyMat → Option KeyObj → List Byte}
    (hexec : exec i s = .next (s.atOnce id c (s.keyBytesOp c host ok f)))
    (hfields : c.fields true = .ok ()) (hblob : s.needBlob c.h1 = .ok ()) (hkey : s.anyKey c.fn c.h1 host = .ok (m, x)) (hok : ok m = true)
    (hin : c.inLen = 0) (haux : c.auxLen = 0) (hout : c.outAddr < 2 ^ 63) :
    (0 < (f m x).length → (f m x).length ≤ c.cap →
      exec i s = .next ((s.memWrite c.fn c.outAddr (f m x) true).complete id (.ok (f m x).length []))) ∧
    (c.cap < (f m x).length → exec i s = .next (s.complete id (tooSmall (f m x).length))) := by
  obtain ⟨hwrites, hsmall⟩ := keyBytesOp_flatOut f hfields hblob hkey hok hin haux hout
  refine ⟨fun hpos hfit => ?_, fun hlt => ?_⟩
  · rw [hexec, hwrites hpos hfit]
    rfl
  · rw [hexec, hsmall hlt]
    exact congrArg _ (atOnce_fail _ (by decide))

/-- A COMMIT of a key that no fabric group replicates ends at once (R153). -/
theorem exec_commit_alone (h : MayStart s id c) (hop : c.op = 0x0F33) (halone : s.groupOf c.h1 = none) (hd : s.commitOp c host = .ok (t, d)) :
    exec (.commit id host) s = .next (t.complete id d) := by
  refine (opRow_next (f := fun c => c.op == 0x0F33) h (beq_iff_eq.mpr hop)).trans ?_
  rw [hd, halone]
  rfl

/-- A DESTROY of a resident object of class 0 that no COMMIT holds ends at once (R154). -/
theorem exec_destroy_resident {o : KeyObj} (h : MayStart s id c) (hop : c.op = 0x0F40) (hget : mget s.ks.objs c.h1 = some o)
    (hidle : s.committing c.h1 = false) (hclass : handleClass c.h1 = 0) (hd : s.destroyOp c host = .ok (t, d)) :
    exec (.destroy id host) s = .next (t.complete id d) := by
  refine (opRow_next (f := fun c => c.op == 0x0F40) h (beq_iff_eq.mpr hop)).trans ?_
  have hhere : ¬ (handleClass c.h1 = 2 ∧ attrGroup o.attrs ≠ 0) := by simp [hclass]
  simp only [hd, hget, hidle, if_neg hhere]
  rfl

/-- The seven operations with reserved fields at bytes 48 to 55, and whether each names a key in handle 1 (R143). -/
def plainKeyOps (id : Nat) (host : HostRead) : List (Instr × Nat × Bool) :=
  [(.discard id host, 0x0F34, true), (.blobEpoch id host, 0x0F41, false), (.ctxClear id host, 0x0F50, false), (.publicExport id host, 0x0F60, true),
    (.attributes id host, 0x0F61, true), (.destroy id host, 0x0F40, true), (.commit id host, 0x0F33, true)]

theorem exec_plainKeyOps_badFields {i : Instr} {op : Nat} {key : Bool} (h : MayStart s id c) (hmem : (i, op, key) ∈ plainKeyOps id host)
    (hop : c.op = op) (hbad : c.fields key = .error (.err St.BAD_FIELD)) : exec i s = .next (s.complete id (.err St.BAD_FIELD)) := by
  have hend : s.atOnce id c (.error (.err St.BAD_FIELD)) = s.complete id (.err St.BAD_FIELD) := atOnce_err (by decide)
  rw [← hend]
  simp only [plainKeyOps, List.mem_cons, List.not_mem_nil, or_false, Prod.mk.injEq] at hmem
  obtain ⟨rfl, rfl, rfl⟩ | ⟨rfl, rfl, rfl⟩ | ⟨rfl, rfl, rfl⟩ | ⟨rfl, rfl, rfl⟩ | ⟨rfl, rfl, rfl⟩ | ⟨rfl, rfl, rfl⟩ | ⟨rfl, rfl, rfl⟩ := hmem
  · exact (exec_discard h hop).trans (by rw [discardOp_badFields hbad])
  · exact (exec_blobEpoch h hop).trans (by rw [blobEpochOp_badFields hbad])
  · exact (exec_ctxClear h hop).trans (by rw [ctxClearOp_badFields hbad])
  · exact (exec_publicExport h hop).trans (by rw [keyBytesOp_badFields hbad])
  · exact (exec_attributes h hop).trans (by rw [keyBytesOp_badFields hbad])
  · exact exec_destroy_error h hop (destroyOp_badFields hbad)
  · exact exec_commit_error h hop (commitOp_badFields hbad)

end

/-- Settles O32: each operation's row by what the operation yields. -/
theorem keyOperationsAtOnce : Obligations.KeyOperationsAtOnce := by
  intro s id c h hmay plain empty
  have hbare : empty → c.bare h = .ok (c.withFlatOut h) := fun ⟨hin, haux, hcap⟩ => bare_empty h hin haux hcap
  have hkeyed : plain → c.fields true = .ok () := fun ⟨h48, hh2, hpub⟩ => fields_ok h48 hh2 hpub
  have hstate : s.atOnce id c (.error (.err St.STATE)) = s.complete id (.err St.STATE) := atOnce_err (by decide)
  refine ⟨?badFields, ?objects, ?function, ?table, ?bytes⟩
  case badFields => exact fun i op key hmem hop hbad => exec_plainKeyOps_badFields hmay hmem hop (fields_bad hbad)
  case objects =>
    intro hplain hempty m o hres hcurve halone hidle
    obtain ⟨-, hget⟩ := resident_of_resolve hres
    have hobj := anyObj_resident hres hcurve
    refine ⟨fun hop g hstaged hverified hstCurve hdsk => ?commit, fun hop hnone => ?commitNone, fun hop hstaged => ?discard, fun hop hnone => ?discardNone,
      fun hop hclass hquorum => ?destroy, fun hop hclass hquorum hclosed => ?destroyClosed⟩
    case commit => exact exec_commit_alone hmay hop halone (commitOp_staged (hkeyed hplain) hobj (hbare hempty) hstaged hverified hstCurve hidle hdsk)
    case commitNone => rw [exec_commit_error hmay hop (commitOp_unstaged (hkeyed hplain) hobj hnone), hstate]
    case discard =>
      rw [exec_discard hmay hop, discardOp_staged (hkeyed hplain) hobj (hbare hempty) hstaged hidle]
      rfl
    case discardNone => rw [exec_discard hmay hop, discardOp_unstaged (hkeyed hplain) hobj hnone, hstate]
    case destroy => exact exec_destroy_resident hmay hop hget hidle hclass (destroyOp_free (hkeyed hplain) hobj (hbare hempty) hquorum)
    case destroyClosed =>
      rw [exec_destroy_error hmay hop (destroyOp_unheld (hkeyed hplain) hobj hquorum hclosed), atOnce_err (by decide)]
  case function =>
    intro ⟨h48, hh2, _⟩ hempty hh1
    have hfields := fields_unkeyed h48 hh2 hh1
    refine ⟨fun hop => ?epoch, fun hop hctx => ?clear, fun hop hctx => ?beyond⟩
    case epoch =>
      rw [exec_blobEpoch hmay hop, blobEpochOp_bare hfields (hbare hempty)]
      rfl
    case clear =>
      rw [exec_ctxClear hmay hop, ctxClearOp_inRange hfields (hbare hempty) hctx]
      rfl
    case beyond => rw [exec_ctxClear hmay hop, ctxClearOp_beyond hfields hctx, atOnce_err (by decide)]
  case table =>
    intro n hop hempty hh1 hh2 hzero hn hlo hhi haligned haddr
    subst hn
    rw [exec_blobTable hmay hop, blobTableOp_good (hbare hempty) hzero hh1 hh2 hlo hhi haligned haddr]
    rfl
  case bytes =>
    intro hplain hin haux hout m o hres hcurve hclass i op out hmem hop hfam
    have hblob : s.needBlob c.h1 = .ok () := needBlob_resident (by omega)
    have hkey := anyKey_resolved hres hcurve
    simp only [List.mem_cons, List.not_mem_nil, or_false, Prod.mk.injEq] at hmem
    obtain ⟨rfl, rfl, rfl⟩ | ⟨rfl, rfl, rfl⟩ := hmem
    · exact exec_keyBytesOp (exec_publicExport hmay hop) (hkeyed hplain) hblob hkey (by simpa using hfam rfl) hin haux hout
    · exact exec_keyBytesOp (exec_attributes hmay hop) (hkeyed hplain) hblob hkey rfl hin haux hout

end Sys2Proof.Machine
end

section
/-!
SUPPORT. One issued instruction of a vector core by the outcome of its operand form, and fields that its row leaves at zero (spec file 06,
R185, R191; spec file 07, R197).
-/
namespace Sys2Proof.Machine
open Sys2Proof

section
variable {s : State} {c : Nat} {p : Pvc} {f : Pvc → PRes}

/-- An instruction that completes or stalls and draws no masks. -/
theorem pvcPut_maskless {q : Pvc} (hmasks : q.masks = p.masks) : pvcPut c p (.ok q) s = afterStall c q (s.setPvc c q) := by
  simp [pvcPut, hmasks, drawMasks]

/-- An issued instruction that completes and draws no masks. -/
theorem pvcStep_completes (h : Issues s c p) {q : Pvc} (hf : f p = .ok q) (hstall : q.stall = none) (hmasks : q.masks = p.masks) :
    pvcStep c f s = .next (s.setPvc c q) := by
  rw [pvcStep_issues f h, hf, pvcPut_plain hstall hmasks]

/-- An issued instruction that completes while its cluster's expander delivers. -/
theorem pvcStep_draws (h : Issues s c p) (hm : MasksFlow s c) {q : Pvc} (hf : f p = .ok q) (hstall : q.stall = none) :
    pvcStep c f s = .next (drawMasks (clusterOf c) (q.masks - p.masks) (s.setPvc c q)) := by
  rw [pvcStep_issues f h, hf, pvcPut_ok hm hstall]

/-- An issued instruction that runs into a stall and draws no masks. -/
theorem pvcStep_stalls (h : Issues s c p) {q : Pvc} (hf : f p = .ok q) (hmasks : q.masks = p.masks) :
    pvcStep c f s = .next (afterStall c q (s.setPvc c q)) := by
  rw [pvcStep_issues f h, hf, pvcPut_maskless hmasks]

theorem pvcStep_traps (h : Issues s c p) {cause epr ta : Nat} (hf : f p = .trap cause epr ta p) :
    pvcStep c f s = .next (takeTrap c p cause epr p.pc (BitVec.ofNat 32 ta) s) := by
  rw [pvcStep_issues f h, hf, pvcPut_trap]

theorem pvcStep_faults (h : Issues s c p) {cause : Nat} (hf : f p = .fault cause p) :
    pvcStep c f s = .next (takeTrap c p cause 0 p.pc 0 s) := pvcStep_traps h hf

/-- An issued instruction with its row's fields in order does what its form says. -/
theorem legal_of {k : Pvc → PRes} {ok : Bool} (h : ok = true) : legal ok k p = k p := if_pos h

theorem legal_not {k : Pvc → PRes} {ok : Bool} (h : ok = false) : legal ok k p = .fault tcIllegal p := by simp [legal, h]

end
end Sys2Proof.Machine
end


section
/-!
SUPPORT. System instructions: SETLEN and EXIT (spec file 06, R173, R179, R191).
-/
namespace Sys2Proof.Machine
open Sys2Proof

/-! SETLEN. -/

theorem setLen_ok {p : Pvc} {mx : Nat} {d a : R5} (ha : (p.getS a).t = none) : setLen mx d a 0 p =
    .ok (({ p with len := min (p.getS a).v.toNat mx } : Pvc).setS d (BitVec.ofNat 32 (min (p.getS a).v.toNat mx)) none).next := by
  simp [setLen, legal, ha]

theorem setLen_tagged {p : Pvc} {mx : Nat} {d a : R5} (ha : (p.getS a).t.isSome) : setLen mx d a 0 p = .fault tcControl p := by
  simp [setLen, legal, ha]

theorem setLen_illegal {p : Pvc} {mx : Nat} {d a b : R5} (hb : b ≠ 0) : setLen mx d a b p = .fault tcIllegal p :=
  legal_not (by simpa using hb)

/-- Settles O7: SETLEN by its field b and the tag of S[a]. -/
theorem setlenTakesTheLesser : Obligations.SetlenTakesTheLesser := by
  unfold Obligations.SetlenTakesTheLesser
  intro s c p d a b h i mx hi
  have hexec : exec i s = pvcStep c (setLen mx d a b) s := by
    simp only [List.mem_cons, List.not_mem_nil, or_false, Prod.mk.injEq] at hi
    obtain ⟨rfl, rfl⟩ | ⟨rfl, rfl⟩ := hi <;> rfl
  rw [hexec]
  refine ⟨fun hb ha => ?_, fun hb ha => ?_, fun hb => pvcStep_faults h (setLen_illegal hb)⟩
  · subst hb
    exact pvcStep_completes h (setLen_ok ha) (by simp [h.2.1]) (by simp)
  · subst hb
    exact pvcStep_faults h (setLen_tagged ha)

/-! EXIT. -/

section
variable {p : Pvc} {a b : R5}

/-- The byte count, the code and the inline result of an EXIT are public (R179). -/
def ExitClean (p : Pvc) (a b : R5) : Prop := (p.getS a).t = none ∧ (p.getS b).t = none ∧ (p.inl = true → (p.getW 30).t = none)

/-- The byte count of an EXIT is within the parameter entry's limit and the output capacity (R191). -/
def ExitFits (p : Pvc) (a : R5) : Prop := (p.getS a).v.toNat ≤ p.par.out ∧ (p.getS a).v.toNat ≤ p.cap

theorem exitOp_tagged (h : ¬ ExitClean p a b) : exitOp a b p = .fault tcControl p := by
  refine if_pos ?_
  simp only [ExitClean, ← Option.not_isSome_iff_eq_none] at h
  grind

theorem exitOp_clean (h : ExitClean p a b) : exitOp a b p =
    if !(decide ((p.getS b).v.toNat ≤ 2) || (p.getS b).v.toNat == 0x20 || (p.getS b).v.toNat == 0x21) ||
        decide ((p.getS a).v.toNat > p.par.out) || decide ((p.getS a).v.toNat > p.cap) then .fault tcExit p
    else if decide ((p.getS b).v.toNat ≥ 0x20) && !p.valid then .fault tcValidation p
    else .done (exitResult p (p.getS a).v.toNat (p.getS b).v.toNat) p := by
  obtain ⟨ha, hb, hw⟩ := h
  refine if_neg ?_
  cases hi : p.inl
  · simp [ha, hb]
  · simpa [ha, hb] using hw hi

theorem exitOp_refused (h : ExitClean p a b)
    (hbad : ¬ ExitFits p a ∨ ¬ ((p.getS b).v.toNat ≤ 2 ∨ (p.getS b).v.toNat = 0x20 ∨ (p.getS b).v.toNat = 0x21)) :
    exitOp a b p = .fault tcExit p := by
  rw [exitOp_clean h]
  refine if_pos ?_
  simp only [ExitFits] at hbad
  grind

theorem exitOp_late (h : ExitClean p a b) (hfits : ExitFits p a) (hvalid : p.valid = false)
    (hcode : (p.getS b).v.toNat = 0x20 ∨ (p.getS b).v.toNat = 0x21) : exitOp a b p = .fault tcValidation p := by
  rw [exitOp_clean h]
  obtain ⟨hout, hcap⟩ := hfits
  refine (if_neg ?_).trans (if_pos ?_)
  · grind
  · rw [hvalid]
    grind

theorem exitOp_done (h : ExitClean p a b) (hfits : ExitFits p a)
    (hcode : (p.getS b).v.toNat ≤ 2 ∨ (p.valid = true ∧ ((p.getS b).v.toNat = 0x20 ∨ (p.getS b).v.toNat = 0x21))) :
    exitOp a b p = .done (exitResult p (p.getS a).v.toNat (p.getS b).v.toNat) p := by
  rw [exitOp_clean h]
  obtain ⟨hout, hcap⟩ := hfits
  refine (if_neg ?_).trans (if_neg ?_)
  · grind
  · grind

end

/-- Settles O9: EXIT by its field d, its tags, its count and its code. -/
theorem exitEndsTheRun : Obligations.ExitEndsTheRun := by
  unfold Obligations.ExitEndsTheRun
  intro s c p a b h
  have hexec : ∀ d, exec (.exit c d a b) s = pvcStep c (legal (d == 0) (exitOp a b)) s := fun _ => rfl
  have hzero : legal ((0 : R5) == 0) (exitOp a b) p = exitOp a b p := rfl
  refine ⟨fun hclean hfits hcode => ?_, fun hclean hbad => ?_, fun hclean hfits hvalid hcode => ?_, fun htagged => ?_, fun d hd => ?_⟩
  · refine ⟨exitResult p (p.getS a).v.toNat (p.getS b).v.toNat, ?_, rfl, rfl, rfl, rfl, rfl, rfl⟩
    rw [hexec, pvcStep_issues _ h, hzero, exitOp_done hclean hfits hcode, pvcPut_done]
  · exact (hexec 0).trans (pvcStep_faults h (hzero.trans (exitOp_refused hclean hbad)))
  · exact (hexec 0).trans (pvcStep_faults h (hzero.trans (exitOp_late hclean hfits hvalid hcode)))
  · exact (hexec 0).trans (pvcStep_faults h (hzero.trans (exitOp_tagged htagged)))
  · exact (hexec d).trans (pvcStep_faults h (legal_not (by simpa using hd)))

end Sys2Proof.Machine
end

section
/-!
SUPPORT. Traps: the kernel's handler, or the end of the run (spec file 06, R185, R186, R193).
-/
namespace Sys2Proof.Machine
open Sys2Proof

section
variable {s : State} {c : Nat} {p : Pvc} {cause epr : Nat} {tpc ta : Word}

theorem takeTrap_handled {h : Nat} (hout : p.handler = false) (hk : p.kern.handler = some h) (hc : cause = tcAccess ∨ cause = tcMiss) :
    takeTrap c p cause epr tpc ta s = s.setPvc c { p with
      handler := true, epr := epr, tpc := tpc, tcause := cause, taddr := ta, pc := BitVec.ofNat 32 h, resume := false } := by
  simp [takeTrap, hout, hk, hc]

/-- A trap inside the handler, without one, or of a cause it does not take ends the run. -/
theorem takeTrap_ends (h : p.handler = true ∨ p.kern.handler = none ∨ (cause ≠ tcAccess ∧ cause ≠ tcMiss)) :
    takeTrap c p cause epr tpc ta s = endRun c p (trapResult (if p.handler then tcDouble else cause) epr tpc ta) s := by
  unfold takeTrap
  cases hin : p.handler
  case true => rfl
  case false =>
    obtain h | h | ⟨haccess, hmiss⟩ := h
    · simp [hin] at h
    · simp [h]
    · cases p.kern.handler <;> simp [haccess, hmiss]

/-- The run that ended: no sponge unit is its own any more. -/
def Pvc.ended (p : Pvc) : Pvc := { p with stall := some .ended, sp := Vector.replicate 2 none }

theorem ended_unit (p : Pvc) (u : Bool) : p.ended.unit u = none := by cases u <;> rfl

theorem endRun_pvcs (r : RunResult) : (endRun c p r s).pvcs = mput s.pvcs c p.ended := by
  unfold endRun
  dsimp only
  split <;> rfl

theorem endRun_scrub (r : RunResult) : ((endRun c p r s).unit c).scrub = true := by
  simp only [endRun, State.unit, State.incF_units, State.setUnit_units, mget_mput_same, Option.getD_some]

end

/-- Settles O12: what takeTrap does by the handler and the cause, and the frame of endRun. -/
theorem trapsEnterTheHandlerOrEndTheRun : Obligations.TrapsEnterTheHandlerOrEndTheRun := by
  unfold Obligations.TrapsEnterTheHandlerOrEndTheRun
  intro s c p cause epr tpc ta
  refine ⟨fun h hout hk hc => takeTrap_handled hout hk hc, fun h => ?ends, fun r => ?run⟩
  case ends =>
    refine ⟨_, takeTrap_ends h, rfl, ?_, rfl, rfl⟩
    cases p.handler <;> simp [trapResult, tcDouble]
  case run =>
    refine ⟨_, rfl, endRun_scrub r, ⟨p.ended, ?_, rfl, ended_unit p false, ended_unit p true⟩, fun x hx => ?_⟩
    · rw [endRun_pvcs, mget_mput_same]
    · rw [endRun_pvcs, mget_mput_other _ _ _ _ hx]

end Sys2Proof.Machine
end

section
/-!
SUPPORT. Floating-point instructions: the run after an F or an S result, its flags and its masks (spec file 06, R170, R181; spec file 07, R208).
-/
namespace Sys2Proof.Machine
open Sys2Proof

/-- A run after an F result r from operands of wb bytes with tags ts, in a number of gadget operations. -/
def Pvc.withF (p : Pvc) (d : R5) (r : DWord × BitVec 5) (ops wb : Nat) (ts : List Tag) : Pvc :=
  (((p.setF d r.1 (mergeTag ts .bool)).raise r.2 ts).draw (fMasks ops wb ts)).next

/-- A run after an S result. -/
def Pvc.withFS (p : Pvc) (d : R5) (r : Word × BitVec 5) (ops : Nat) (ts : List Tag) : Pvc :=
  (((p.setS d r.1 (mergeTag ts .bool)).raise r.2 ts).draw (fMasks ops 8 ts)).next

/-- An F result keeps the tag of Wd where no operand has one. -/
theorem setF_merged (p : Pvc) (d : R5) (v : DWord) (ts : List Tag) : p.setF d v (mergeTag ts .bool) =
    p.setW d ((((p.getW d).v >>> 64) <<< 64) ||| v.zeroExtend 256) (if ts.any (·.isSome) then some .bool else (p.getW d).t) := by
  unfold Pvc.setF mergeTag
  cases ts.any (·.isSome) <;> rfl

section
variable {s : State} {c : Nat} {p : Pvc} {d : R5} {f : Pvc → PRes} {ops wb : Nat} {ts : List Tag}

theorem pvcStep_fOut {r : DWord × BitVec 5} (h : Issues s c p) (hm : MasksFlow s c) (hf : f p = fOut d r ops wb ts p) :
    pvcStep c f s = .next (drawMasks (clusterOf c) (fMasks ops wb ts) (s.setPvc c (p.withF d r ops wb ts))) := by
  rw [pvcStep_draws h hm hf (by simp [h.2.1])]
  simp [Pvc.withF]

theorem pvcStep_fOutS {r : Word × BitVec 5} (h : Issues s c p) (hm : MasksFlow s c) (hf : f p = fOutS d r ops ts p) :
    pvcStep c f s = .next (drawMasks (clusterOf c) (fMasks ops 8 ts) (s.setPvc c (p.withFS d r ops ts))) := by
  rw [pvcStep_draws h hm hf (by simp [h.2.1])]
  simp [Pvc.withFS]

end

/-- Settles O6: each instruction is one F or S result, or an illegal word. -/
theorem floatResults : Obligations.FloatResults := by
  unfold Obligations.FloatResults
  intro s c p d a b h hm rec_ fa fb fd ta tb tagged masks flags toFrom toF toS
  have hF : ∀ wb r ops ts, toFrom wb r ops ts = drawMasks (clusterOf c) (fMasks ops wb ts) (s.setPvc c (p.withF d r ops wb ts)) := by
    intro wb r ops ts
    rw [Pvc.withF, setF_merged]
    rfl
  have hS : ∀ r ops ts, toS r ops ts = drawMasks (clusterOf c) (fMasks ops 8 ts) (s.setPvc c (p.withFS d r ops ts)) := fun _ _ _ => rfl
  refine ⟨fun i t hi => ?_, fun hb i hi => ?_⟩
  · simp only [toF, hF, hS, List.mem_cons, List.not_mem_nil, or_false, Prod.mk.injEq] at hi
    obtain ⟨rfl, rfl⟩ | ⟨rfl, rfl⟩ | ⟨rfl, rfl⟩ | ⟨rfl, rfl⟩ | ⟨rfl, rfl⟩ | ⟨rfl, rfl⟩ | ⟨rfl, rfl⟩ | ⟨rfl, rfl⟩ | ⟨rfl, rfl⟩ | ⟨rfl, rfl⟩ |
      ⟨rfl, rfl⟩ | ⟨rfl, rfl⟩ | ⟨rfl, rfl⟩ | ⟨rfl, rfl⟩ | ⟨rfl, rfl⟩ | ⟨rfl, rfl⟩ | ⟨rfl, rfl⟩ := hi
    -- eleven F results, five S results, FMV.F
    iterate 11 · exact pvcStep_fOut h hm rfl
    iterate 5 · exact pvcStep_fOutS h hm rfl
    · exact pvcStep_fOut h hm rfl
  · have hexec : ∃ k, exec i s = pvcStep c (legal (b == 0) k) s := by
      simp only [List.mem_cons, List.not_mem_nil, or_false] at hi
      obtain rfl | rfl | rfl | rfl | rfl | rfl | rfl | rfl | rfl := hi <;> exact ⟨_, rfl⟩
    obtain ⟨k, hk⟩ := hexec
    exact hk.trans (pvcStep_faults h (legal_not (by simpa using hb)))

end Sys2Proof.Machine
end

section
/-!
SUPPORT. The instructions that bring data in: KLD, ENT and SLIDE (spec file 06, R177, R179, R182, R183; spec file 07, R210).
-/
namespace Sys2Proof.Machine
open Sys2Proof

/-! What a stall asks for. -/

section
variable {s : State} {c : Nat} {q : Pvc}

theorem afterStall_kld {dst : Nat} {l : List Byte} {sec : Bool} {code : Option (Nat × Nat)} (h : q.stall = some (.kld dst l sec code)) :
    afterStall c q s = s := by simp [afterStall, h]

theorem afterStall_slide {aux : Bool} {off : Nat} (h : q.stall = some (.slide aux off)) : afterStall c q s = s := by simp [afterStall, h]

theorem afterStall_ent {d : R5} {off : Nat} {k : Cmd} (h : q.stall = some (.ent d off)) (hk : mget s.cmds q.cmd = some k) :
    afterStall c q s = s.askChunk q.cmd k := by simp [afterStall, h, hk]

/-- A request for a chunk leaves every run as it is. -/
theorem askChunk_pvcs (id : Nat) (k : Cmd) (h : s.nrgDown = false) : (s.askChunk id k).pvcs = s.pvcs := by
  unfold State.askChunk
  rw [h]
  split
  · contradiction
  · split <;> rfl

theorem askChunk_down (id : Nat) (k : Cmd) (h : s.nrgDown = true) : s.askChunk id k = s.complete id (.late St.ENTROPY_FAULT) := if_pos h

/-- So does an ENT that waits. -/
theorem afterStall_ent_pvcs {d : R5} {off : Nat} (h : q.stall = some (.ent d off)) (hup : s.nrgDown = false) :
    (afterStall c q s).pvcs = s.pvcs := by
  cases hk : mget s.cmds q.cmd
  case none => simp [afterStall, h, hk]
  case some k => rw [afterStall_ent h hk, askChunk_pvcs _ _ hup]

end

/-! KLD. -/

/-- The destination, the offset and the length of a KLD are public (R179). -/
def KldClean (p : Pvc) (d a b : R5) : Prop := (p.getS d).t = none ∧ (p.getS a).t = none ∧ (p.getS b).t = none

/-- Parts that only SECRET takes: the secret halves of keys, and the context (R182). -/
def kldSecret (part : Nat) : Bool := part != 1 && part != 3

/-- The resident key whose code-key cache entry serves a part (R182). -/
def Pvc.kldCached (p : Pvc) (part : Nat) : Option (Nat × Nat) := if part = 1 then p.c1 else if part = 3 then p.c2 else none

/-- The windows that take n bytes of a part at an address. -/
def Pvc.kldTakes (p : Pvc) (sec : Bool) (dst n : Nat) : Bool :=
  if sec then p.kern.secret.has dst n else p.kern.work.has dst n || p.kern.input.has dst n

theorem kldTakes_iff (p : Pvc) (sec : Bool) (dst n : Nat) : p.kldTakes sec dst n = true ↔
    if sec then p.kern.secret.has dst n = true else p.kern.work.has dst n = true ∨ p.kern.input.has dst n = true := by
  cases sec <;> simp [Pvc.kldTakes]

section
variable {p : Pvc} {part : Nat} {d a b : R5}

theorem kldOp_tagged (h : ¬ KldClean p d a b) : kldOp part d a b p = .fault tcAddress p := by
  refine if_pos ?_
  simp only [KldClean, ← Option.not_isSome_iff_eq_none] at h
  grind

variable (h : KldClean p d a b)
include h

theorem kldOp_absent (hpart : kldPart p part = none) : kldOp part d a b p = .fault tcCap p := by
  obtain ⟨hd, ha, hb⟩ := h
  simp [kldOp, hd, ha, hb, hpart]

variable {l : List Byte} (hpart : kldPart p part = some l)
include hpart

theorem kldOp_beyond (hlen : l.length < (p.getS a).v.toNat + (p.getS b).v.toNat) : kldOp part d a b p = .fault tcKeyRange p := by
  obtain ⟨hd, ha, hb⟩ := h
  simp [kldOp, hd, ha, hb, hpart, hlen]

variable (hlen : (p.getS a).v.toNat + (p.getS b).v.toNat ≤ l.length)
include hlen

theorem kldOp_misplaced (hdst : p.kldTakes (kldSecret part) (p.getS d).v.toNat (p.getS b).v.toNat = false) :
    kldOp part d a b p = .trap tcAccess 0 (p.getS d).v.toNat p := by
  obtain ⟨hd, ha, hb⟩ := h
  unfold Pvc.kldTakes kldSecret at hdst
  simp only [kldOp, hd, ha, hb, hpart, hdst]
  simp [hlen]

theorem kldOp_waits (hdst : p.kldTakes (kldSecret part) (p.getS d).v.toNat (p.getS b).v.toNat = true) :
    kldOp part d a b p = .ok { p with
      valid := p.valid && !kldSecret part
      stall := some (.kld (p.getS d).v.toNat ((l.drop (p.getS a).v.toNat).take (p.getS b).v.toNat) (kldSecret part) (p.kldCached part)) } := by
  obtain ⟨hd, ha, hb⟩ := h
  unfold Pvc.kldTakes at hdst
  simp only [kldOp, hd, ha, hb, hpart, ← kldSecret.eq_1, hdst]
  cases kldSecret part <;> simp [Nat.not_lt.mpr hlen, Pvc.endVal, Pvc.kldCached, slice]

end

/-- Which instruction brings which part (R210). -/
theorem exec_kld {s : State} {c : Nat} {p : Pvc} {d a b : R5} {i : Instr} {part : Option (List Byte)} {sec : Bool} {code : Option (Nat × Nat)}
    (hi : (i, part, sec, code) ∈
      [(Instr.kldP1 c d a b, p.k1.map (·.1), true, none), (.kldU1 c d a b, p.k1.map (·.2), false, p.c1),
       (.kldP2 c d a b, p.k2.map (·.1), true, none), (.kldU2 c d a b, p.k2.map (·.2), false, p.c2),
       (.kldC c d a b, if p.kern.caps.testBit 0 ∧ p.par.flags.testBit 3 then some p.src else none, true, none)]) :
    ∃ k, exec i s = pvcStep c (kldOp k d a b) s ∧ kldPart p k = part ∧ kldSecret k = sec ∧ p.kldCached k = code := by
  simp only [List.mem_cons, List.not_mem_nil, or_false, Prod.mk.injEq] at hi
  obtain ⟨rfl, rfl, rfl, rfl⟩ | ⟨rfl, rfl, rfl, rfl⟩ | ⟨rfl, rfl, rfl, rfl⟩ | ⟨rfl, rfl, rfl, rfl⟩ | ⟨rfl, rfl, rfl, rfl⟩ := hi
  · exact ⟨0, rfl, rfl, rfl, rfl⟩
  · exact ⟨1, rfl, rfl, rfl, rfl⟩
  · exact ⟨2, rfl, rfl, rfl, rfl⟩
  · exact ⟨3, rfl, rfl, rfl, rfl⟩
  · exact ⟨4, rfl, by simp [kldPart, Pvc.capBit, Pvc.parBit], rfl, rfl⟩

/-! ENT. -/

section
variable {p : Pvc} {d a : R5}

/-- Where the entropy stream of a run ends (R183). -/
def Pvc.entLimit (p : Pvc) : Nat := if p.test then p.ent.length else 4096

variable (ha : (p.getS a).t = none)
include ha

theorem entOp_uncapable (hcap : p.kern.caps.testBit 1 = false) : entOp d a 0 p = .fault tcCap p := by
  simp [entOp, legal, ha, Pvc.capBit, hcap]

variable (hcap : p.kern.caps.testBit 1 = true)
include hcap

theorem entOp_misaligned (hal : (p.getS a).v.toNat % 32 ≠ 0) : entOp d a 0 p = .fault tcIllegal p := by
  simp [entOp, legal, ha, Pvc.capBit, hcap, hal]

variable (hal : (p.getS a).v.toNat % 32 = 0)
include hal

theorem entOp_beyond (hlim : p.entLimit < (p.getS a).v.toNat + 32) : entOp d a 0 p = .fault tcEntLimit p := by
  unfold Pvc.entLimit at hlim
  simp [entOp, legal, ha, Pvc.capBit, hcap, hal, hlim]

variable (hlim : (p.getS a).v.toNat + 32 ≤ p.entLimit)
include hlim

theorem entOp_waits (hlen : p.ent.length < (p.getS a).v.toNat + 32) :
    entOp d a 0 p = .ok { p with valid := false, stall := some (.ent d (p.getS a).v.toNat) } := by
  unfold Pvc.entLimit at hlim
  simp [entOp, legal, ha, Pvc.capBit, hcap, hal, Nat.not_lt.mpr hlim, hlen, Pvc.endVal]

theorem entOp_there (hlen : (p.getS a).v.toNat + 32 ≤ p.ent.length) : entOp d a 0 p = .ok (p.endVal.entDone d (p.getS a).v.toNat) := by
  unfold Pvc.entLimit at hlim
  simp [entOp, legal, ha, Pvc.capBit, hcap, hal, Nat.not_lt.mpr hlim, Nat.not_lt.mpr hlen]

end

/-! SLIDE. -/

section
variable {p : Pvc} {a x : R5}

theorem slideOp_legal (hx : x = 0 ∨ x = 1) : slideOp 0 a x p =
    if (p.getS a).t.isSome then .fault tcAddress p
    else if (p.getS a).v.toNat % 32 ≠ 0 then .trap tcAccess 0 (p.getS a).v.toNat p
    else .ok { p with stall := some (.slide (x == 1) (p.getS a).v.toNat) } := by
  refine legal_of ?_
  obtain rfl | rfl := hx <;> rfl

end

/-- Settles O10: each source by its operands, its capability and its ranges. -/
theorem secretSources : Obligations.SecretSources := by
  unfold Obligations.SecretSources
  intro s c p d a b h dst off n trap clean
  refine ⟨fun i part sec code hi => ?kld, ?ent, fun x ha hal hx => ?slides, fun x ha hal hx => ?misaligned, fun x ha hx => ?tagged⟩
  case kld =>
    obtain ⟨k, hexec, rfl, rfl, rfl⟩ := exec_kld (s := s) hi
    intro there
    have hthere : p.kldTakes (kldSecret k) dst n = true ↔ there := kldTakes_iff p (kldSecret k) dst n
    rw [hexec]
    refine ⟨fun l hc hl hlen ht => ?_, fun l hc hl hlen ht => ?_, fun l hc hl hlen => ?_, fun hc hl => ?_, fun hc => ?_⟩
    · rw [pvcStep_stalls h (kldOp_waits hc hl hlen (hthere.mpr ht)) rfl, afterStall_kld rfl]
    · exact pvcStep_traps h (kldOp_misplaced hc hl hlen (Bool.eq_false_iff.mpr (mt hthere.mp ht)))
    · exact pvcStep_faults h (kldOp_beyond hc hl hlen)
    · exact pvcStep_faults h (kldOp_absent hc hl)
    · exact pvcStep_faults h (kldOp_tagged hc)
  case ent =>
    intro a0 lim
    have hexec : exec (.ent c d a 0) s = pvcStep c (entOp d a 0) s := rfl
    rw [hexec]
    refine ⟨fun ha hcap hal hlen hlim => ?there, fun ha hcap hal hlen hlim => ?waits, fun ha hcap hal hlim => ?_, fun ha hcap hal => ?_,
      fun ha hcap => ?_⟩
    case there =>
      rw [pvcStep_completes h (entOp_there ha hcap hal hlim hlen) rfl rfl]
      simp only [Pvc.entDone, Pvc.endVal, Pvc.setW, Pvc.next, slice, h.2.1]
      rfl
    case waits =>
      have hstep := pvcStep_stalls h (entOp_waits (d := d) ha hcap hal hlim hlen) rfl
      intro q
      refine ⟨fun hup => ⟨_, hstep, ?_⟩, fun k hk hdown => ?_⟩
      · have hkeep : (afterStall c q (s.setPvc c q)).pvcs = mput s.pvcs c q := afterStall_ent_pvcs rfl hup
        exact (congrArg (fun m => mget m c) hkeep).trans (mget_mput_same _ _ _)
      · have hask : afterStall c q (s.setPvc c q) = (s.setPvc c q).askChunk p.cmd k := afterStall_ent (q := q) rfl hk
        exact hstep.trans (congrArg _ (hask.trans (askChunk_down _ _ hdown)))
    · exact pvcStep_faults h (entOp_beyond ha hcap hal hlim)
    · exact pvcStep_faults h (entOp_misaligned ha hcap hal)
    · exact pvcStep_faults h (entOp_uncapable ha hcap)
  case slides =>
    have hslide := (slideOp_legal (p := p) (a := a) hx).trans ((if_neg (by simp [ha])).trans (if_neg (not_not.mpr hal)))
    exact (pvcStep_stalls h hslide rfl).trans (by rw [afterStall_slide rfl])
  case misaligned =>
    exact pvcStep_traps h ((slideOp_legal hx).trans ((if_neg (by simp [ha])).trans (if_pos hal)))
  case tagged => exact pvcStep_faults h ((slideOp_legal hx).trans (if_pos ha))

end Sys2Proof.Machine
end

section
/-!
SUPPORT. Bytes of memory in runs, lanes of equal length, and what shares recombine to (spec file 06, R180, R184; spec file 07, R210).
-/
namespace Sys2Proof.Machine
open Sys2Proof

/-! Consecutive bytes of a memory. -/

@[simp] theorem readBytes_length (m : Memory) (a n : Nat) : (readBytes m a n).length = n := by
  induction n generalizing a with
  | zero => rfl
  | succ n ih => simp [readBytes, ih]

theorem readBytes_add (m : Memory) (a n k : Nat) : readBytes m a (n + k) = readBytes m a n ++ readBytes m (a + n) k := by
  induction n generalizing a with
  | zero => simp [readBytes]
  | succ n ih =>
    rw [show n + 1 + k = n + k + 1 by omega, readBytes, readBytes, ih, Nat.add_right_comm]
    rfl

theorem slice_readBytes (m : Memory) (a : Nat) {off n k : Nat} (h : off + n ≤ k) : slice (readBytes m a k) off n = readBytes m (a + off) n := by
  obtain ⟨r, rfl⟩ := Nat.exists_eq_add_of_le h
  rw [readBytes_add, readBytes_add, slice, List.append_assoc, List.drop_left' (readBytes_length m a off), List.take_left' (readBytes_length _ _ n)]

/-- Lines of 32 bytes that follow one another. -/
theorem readBytes_lines (m : Memory) (first k : Nat) :
    (List.range k).flatMap (fun i => readBytes m (32 * (first + i)) 32) = readBytes m (32 * first) (32 * k) := by
  induction k with
  | zero => rfl
  | succ k ih => rw [List.range_succ, List.flatMap_append, ih, Nat.mul_succ, readBytes_add, ← Nat.mul_add]; simp

/-! Lanes of w bytes. -/

theorem flatMap_range_length {α : Type} {g : Nat → List α} {w : Nat} (hg : ∀ i, (g i).length = w) (k : Nat) :
    ((List.range k).flatMap g).length = k * w := by
  simp [List.length_flatMap, hg]

theorem slice_flatMap_range {g : Nat → List Byte} {w : Nat} (hg : ∀ i, (g i).length = w) {k n : Nat} (h : k < n) :
    slice ((List.range n).flatMap g) (w * k) w = g k := by
  obtain ⟨r, rfl⟩ := Nat.exists_eq_add_of_lt h
  rw [Nat.add_assoc, List.range_add, List.flatMap_append, slice, List.drop_left' (by rw [flatMap_range_length hg, Nat.mul_comm]),
    List.range_succ_eq_map]
  exact List.take_left' (hg _)

theorem leNat_lt (l : List Byte) : leNat l < 256 ^ l.length := by
  induction l with
  | nil => exact Nat.one_pos
  | cons b t ih =>
    have hb := b.isLt
    rw [leNat, List.length_cons, Nat.pow_succ]
    omega

theorem leAt_lt (l : List Byte) (off n : Nat) : leAt l off n < 256 ^ n :=
  Nat.lt_of_lt_of_le (leNat_lt _) (Nat.pow_le_pow_right (by decide) (by simp [slice]))

/-! Shares. -/

section
variable {p : Pvc}

theorem residues_plain {t : Tag} (h : ∀ m, t ≠ some (.arithq m)) (l : List Byte) : p.residues t l = l := by
  unfold Pvc.residues
  split
  · exact absurd rfl (h _)
  · rfl

/-- Bytes of a lane of ARITHQ shares (log entry 133). -/
def Pvc.laneBytes (p : Pvc) (m : BitVec 2) : Nat := if p.q m < 2 ^ 16 then 2 else 4

theorem residues_arithq {m : BitVec 2} (hq : p.q m ≠ 0) (l : List Byte) : p.residues (some (.arithq m)) l =
    (List.range (l.length / p.laneBytes m)).flatMap (fun i => natLE (p.laneBytes m) (leAt l (p.laneBytes m * i) (p.laneBytes m) % p.q m)) :=
  if_neg hq

/-- The residues of a line or a register are 32 bytes again. -/
theorem residues_length (t : Tag) {l : List Byte} (h : l.length = 32) : (p.residues t l).length = 32 := by
  by_cases ht : ∀ m, t ≠ some (.arithq m)
  · rw [residues_plain ht, h]
  · push Not at ht
    obtain ⟨m, rfl⟩ := ht
    by_cases hq : p.q m = 0
    · rw [← h]
      exact congrArg List.length (if_pos hq)
    · rw [residues_arithq hq, flatMap_range_length (fun _ => natLE_length _ _), h]
      unfold Pvc.laneBytes
      split <;> rfl

/-- Each lane becomes its residue. -/
theorem leAt_residues {m : BitVec 2} {l : List Byte} {k : Nat} (hq : 0 < p.q m) (hl : l.length = 32) (hk : p.laneBytes m * k < 32) :
    leAt (p.residues (some (.arithq m)) l) (p.laneBytes m * k) (p.laneBytes m) = leAt l (p.laneBytes m * k) (p.laneBytes m) % p.q m := by
  have hlane : k < 32 / p.laneBytes m := by
    revert hk
    unfold Pvc.laneBytes
    split <;> omega
  rw [residues_arithq hq.ne', hl, leAt, slice_flatMap_range (fun _ => natLE_length _ _) hlane, leNat_natLE]
  exact Nat.mod_eq_of_lt (Nat.lt_of_le_of_lt (Nat.mod_le _ _) (leAt_lt _ _ _))

/-! SECRET lines. -/

/-- The lines that n bytes at an address touch hold them all. -/
theorem lines_cover {a n : Nat} (h : 0 < n) : a % 32 + n ≤ 32 * ((a + n - 1) / 32 + 1 - a / 32) := by omega

theorem recombined_length (a : Nat) {n : Nat} (h : 0 < n) : (p.recombined a n).length = n := by
  have hcover := lines_cover (a := a) h
  simp only [Pvc.recombined, slice, List.length_take, List.length_drop,
    flatMap_range_length (fun i => residues_length (p := p) (some (p.lineType (32 * (a / 32 + i)))) (readBytes_length p.mem _ 32))]
  omega

theorem lineType_plain (h : ∀ y ∈ p.shares, ∀ m, y.2 ≠ .arithq m) (a : Nat) (m : BitVec 2) : some (p.lineType a) ≠ some (.arithq m) := by
  unfold Pvc.lineType
  cases hx : mget p.shares (a / 32)
  case none => simp
  case some x => simpa using h _ (mem_of_mget hx) m

theorem recombined_plain (h : ∀ y ∈ p.shares, ∀ m, y.2 ≠ .arithq m) (a : Nat) {n : Nat} (hn : 0 < n) : p.recombined a n = readBytes p.mem a n := by
  have hline : ∀ i, p.residues (some (p.lineType (32 * (a / 32 + i)))) (readBytes p.mem (32 * (a / 32 + i)) 32) =
      readBytes p.mem (32 * (a / 32 + i)) 32 := fun i => residues_plain (lineType_plain h _) _
  simp only [Pvc.recombined, hline]
  rw [readBytes_lines, slice_readBytes _ _ (lines_cover hn), Nat.div_add_mod]

end
end Sys2Proof.Machine
end

section
/-!
SUPPORT. The instructions that let data out of SECRET: DCL.W, DCL.M and CTXST (spec file 06, R179, R184; spec file 07, R210).
-/
namespace Sys2Proof.Machine
open Sys2Proof

section
variable {s : State} {c : Nat} {p : Pvc} {d a b : R5}

/-- The run after its bytes l went to an address of OUTPUT (R184, R191). -/
def Pvc.released (p : Pvc) (dst : Nat) (l : List Byte) : Pvc := ({ p with valid := false, mem := writeBytes p.mem dst l } : Pvc).next

theorem dcl_ok {dst n : Nat} {l : List Byte} (hl : l.length = n) (hrel : p.kern.caps.testBit 0 = true)
    (hout : p.kern.output.has dst n = true) : p.dcl dst l = .ok (p.released dst l) := if_pos (by simp [Pvc.capBit, hrel, hl, hout])

theorem dcl_refused {dst n : Nat} {l : List Byte} (hl : l.length = n)
    (h : ¬ p.kern.caps.testBit 0 = true ∨ p.kern.output.has dst n = false) : p.dcl dst l = .fault tcDeclassify p := by
  refine if_neg ?_
  simp only [Pvc.capBit, hl]
  grind

/-- What a released run holds: the bytes at their address, and every other byte as before. -/
theorem released_frame (dst : Nat) (l : List Byte) : let q := p.released dst l
    q = ({ p with valid := false, mem := q.mem } : Pvc).next ∧ (∀ k, k < l.length → readByte q.mem (dst + k) = l.getD k 0) ∧
      (∀ x, x < dst ∨ dst + l.length ≤ x → readByte q.mem x = readByte p.mem x) :=
  ⟨rfl, readByte_writeBytes_same l p.mem dst, fun _ => readByte_writeBytes_other l p.mem dst _⟩

/-- The bytes that DCL.W releases. -/
def Pvc.wordBytes (p : Pvc) (b : R5) : List Byte := p.residues (p.getW b).t (natLE 32 (p.getW b).v.toNat)

theorem wordBytes_length : (p.wordBytes b).length = 32 := residues_length _ (natLE_length 32 _)

/-! DCL.W. -/

theorem exec_dclW_tagged (h : Issues s c p) (ha : (p.getS a).t.isSome) :
    exec (.dclW c 0 a b) s = .next (takeTrap c p tcAddress 0 p.pc 0 s) := by
  change execDclW c 0 a b s = _
  exact pvcStep_faults h ((legal_of rfl).trans (if_pos ha))

theorem exec_dclW_refused (h : Issues s c p) (ha : (p.getS a).t = none)
    (hbad : ¬ p.kern.caps.testBit 0 = true ∨ p.kern.output.has (p.getS a).v.toNat 32 = false) :
    exec (.dclW c 0 a b) s = .next (takeTrap c p tcDeclassify 0 p.pc 0 s) := by
  change execDclW c 0 a b s = _
  exact pvcStep_faults h ((legal_of rfl).trans ((if_neg (by simp [ha])).trans (dcl_refused wordBytes_length hbad)))

theorem exec_dclW_ok (h : Issues s c p) (ha : (p.getS a).t = none) (hrel : p.kern.caps.testBit 0 = true)
    (hout : p.kern.output.has (p.getS a).v.toNat 32 = true) :
    exec (.dclW c 0 a b) s = .next (s.setPvc c (p.released (p.getS a).v.toNat (p.wordBytes b))) := by
  change execDclW c 0 a b s = _
  exact pvcStep_completes h ((legal_of rfl).trans ((if_neg (by simp [ha])).trans (dcl_ok wordBytes_length hrel hout))) h.2.1 rfl

/-! DCL.M. -/

theorem exec_dclM_tagged (h : Issues s c p) (ht : (p.getS d).t.isSome ∨ (p.getS a).t.isSome) :
    exec (.dclM c d a b) s = .next (takeTrap c p tcAddress 0 p.pc 0 s) := by
  change execDclM c d a b s = _
  exact pvcStep_faults h (if_pos (by simpa using ht))

theorem exec_dclM_refused (h : Issues s c p) (hd : (p.getS d).t = none) (ha : (p.getS a).t = none)
    (hbad : ¬ p.kern.caps.testBit 0 = true ∨ p.kern.output.has (p.getS d).v.toNat (32 * (b.toNat + 1)) = false) :
    exec (.dclM c d a b) s = .next (takeTrap c p tcDeclassify 0 p.pc 0 s) := by
  change execDclM c d a b s = _
  exact pvcStep_faults h ((if_neg (by simp [hd, ha])).trans (if_pos (by simpa [Pvc.capBit] using hbad)))

theorem exec_dclM_ok (h : Issues s c p) (hd : (p.getS d).t = none) (ha : (p.getS a).t = none) (hrel : p.kern.caps.testBit 0 = true)
    (hout : p.kern.output.has (p.getS d).v.toNat (32 * (b.toNat + 1)) = true)
    (hsec : p.kern.secret.has (p.getS a).v.toNat (32 * (b.toNat + 1)) = true) : exec (.dclM c d a b) s =
      .next (s.setPvc c (p.released (p.getS d).v.toNat (p.recombined (p.getS a).v.toNat (32 * (b.toNat + 1))))) := by
  change execDclM c d a b s = _
  have hdcl := dcl_ok (recombined_length (p := p) (p.getS a).v.toNat (by omega)) hrel hout
  exact pvcStep_completes h ((if_neg (by simp [hd, ha])).trans
    ((if_neg (by simp [Pvc.capBit, hrel, hout])).trans ((if_neg (by simp [hsec])).trans hdcl))) h.2.1 rfl

/-! CTXST. -/

theorem exec_ctxst_long (h : Issues s c p) (hb : 7 < b.toNat) : exec (.ctxst c 0 a b) s = .next (takeTrap c p tcIllegal 0 p.pc 0 s) := by
  change execCtxst c 0 a b s = _
  exact pvcStep_faults h (legal_not (by simpa using hb))

section
variable (h : Issues s c p) (hb : b.toNat ≤ 7) (ha : (p.getS a).t = none)
include h hb ha

theorem exec_ctxst_refused (hbad : p.kern.caps.testBit 2 = false ∨ p.par.flags.testBit 4 = false) :
    exec (.ctxst c 0 a b) s = .next (takeTrap c p tcCap 0 p.pc 0 s) := by
  change execCtxst c 0 a b s = _
  exact pvcStep_faults h ((legal_of (by simpa using hb)).trans
    ((if_neg (by simp [ha])).trans (if_pos (by simpa [Pvc.capBit, Pvc.parBit] using hbad))))

theorem exec_ctxst_ok (hcap : p.kern.caps.testBit 2 = true) (hpar : p.par.flags.testBit 4 = true)
    (hsec : p.kern.secret.has (p.getS a).v.toNat (16 * (b.toNat + 1)) = true) : exec (.ctxst c 0 a b) s = .next (s.setPvc c
      ({ p with valid := false, ctxOut := some (p.recombined (p.getS a).v.toNat (16 * (b.toNat + 1))) } : Pvc).next) := by
  change execCtxst c 0 a b s = _
  exact pvcStep_completes h ((legal_of (by simpa using hb)).trans ((if_neg (by simp [ha])).trans
    ((if_neg (by simp [Pvc.capBit, Pvc.parBit, hcap, hpar])).trans (if_neg (by simp [hsec]))))) h.2.1 rfl

end

end

/-- Settles O11: what each of the three releases, its traps, and what the shares recombine to. -/
theorem declassifyAndContext : Obligations.DeclassifyAndContext := by
  unfold Obligations.DeclassifyAndContext
  intro s c p d a b h trap wrote rel out n
  have hwrote : ∀ {i dst l}, exec i s = .next (s.setPvc c (p.released dst l)) → wrote i dst l :=
    fun hexec => ⟨_, hexec, released_frame _ _⟩
  refine ⟨?_, ?_, ?_, ?_, ?_, ?_, ?_, ?_, ?_, ?_, ?_, ?_⟩
  · exact fun ha hrel hout => hwrote (exec_dclW_ok h ha hrel hout)
  · exact fun ha hbad => exec_dclW_refused h ha hbad
  · exact fun ha => exec_dclW_tagged h ha
  · exact fun hd ha hrel hout hsec => hwrote (exec_dclM_ok h hd ha hrel hout hsec)
  · exact fun hd ha hbad => exec_dclM_refused h hd ha hbad
  · exact fun ht => exec_dclM_tagged h ht
  · exact fun hb ha hcap hpar hsec => exec_ctxst_ok h hb ha hcap hpar hsec
  · exact fun hb ha hbad => exec_ctxst_refused h hb ha hbad
  · exact fun hb => exec_ctxst_long h hb
  · exact fun t l ht => residues_plain ht l
  · exact fun m l w k hq hw hl hk => by subst hw; exact leAt_residues hq hl hk
  · exact fun x k hk hshares => recombined_plain hshares x hk

end Sys2Proof.Machine
end


section
/-!
SUPPORT. Lanes and spans: what a packed register holds lane by lane, and what a span write changes and leaves (spec file 06, R174, R175;
spec file 07, R198).
-/
namespace Sys2Proof.Machine
open Sys2Proof

/-! Digits of w bits. -/

theorem packBits_digit (w : Nat) (l : List Nat) (j : Nat) : packBits w l >>> (w * j) % 2 ^ w = l.getD j 0 % 2 ^ w := by
  induction l generalizing j with
  | nil => simp [packBits]
  | cons x t ih =>
    have hcons : packBits w (x :: t) = x % 2 ^ w + 2 ^ w * packBits w t := rfl
    cases j with
    | zero => simp [hcons]
    | succ j =>
      have hpos : 0 < 2 ^ w := Nat.two_pow_pos w
      have htail : packBits w (x :: t) >>> w = packBits w t := by
        rw [hcons, Nat.shiftRight_eq_div_pow, Nat.add_mul_div_left _ _ hpos, Nat.div_eq_of_lt (Nat.mod_lt _ hpos), Nat.zero_add]
      rw [Nat.mul_succ, Nat.add_comm, Nat.shiftRight_add, htail, ih, List.getD_cons_succ]

theorem testBit_packBits (l : List Bool) (j : Nat) : (packBits 1 (l.map b2n)).testBit j = l.getD j false := by
  have h := packBits_digit 1 (l.map b2n) j
  rw [Nat.one_mul, Nat.shiftRight_eq_div_pow] at h
  rw [Nat.testBit_eq_decide_div_mod_eq, ← Nat.pow_one 2, h, List.getD_eq_getElem?_getD, List.getD_eq_getElem?_getD, List.getElem?_map]
  cases l[j]? with
  | none => rfl
  | some x => cases x <;> rfl

/-- A lane of a packed register, where the register has it. -/
theorem lane_packLanes {w j : Nat} (l : List Nat) (h : j < 256 / w) : lane (packLanes w l) w j = l.getD j 0 % 2 ^ w := by
  have hfits : w * j + w ≤ 256 := Nat.le_trans (Nat.mul_le_mul_left w h) (Nat.mul_div_le 256 w)
  rw [← packBits_digit]
  apply Nat.eq_of_testBit_eq
  intro k
  rw [lane, packLanes, BitVec.toNat_ofNat, Nat.testBit_mod_two_pow, Nat.testBit_mod_two_pow, Nat.testBit_shiftRight, Nat.testBit_shiftRight,
    Nat.testBit_mod_two_pow]
  by_cases hk : k < w
  · rw [decide_eq_true (show w * j + k < 256 by omega), Bool.true_and]
    rfl
  · simp [hk]

theorem lane_lt (x : BitVec 256) (w i : Nat) : lane x w i < 2 ^ w := Nat.mod_lt _ (Nat.two_pow_pos w)

/-! Vector registers. -/

theorem getW_setW_same (p : Pvc) (r : R5) (v : BitVec 256) (t : Tag) : (p.setW r v t).getW r = ⟨v, t⟩ := by
  simp [Pvc.getW, Pvc.setW]

theorem getW_setW_other (p : Pvc) {r x : R5} (h : x ≠ r) (v : BitVec 256) (t : Tag) : (p.setW r v t).getW x = p.getW x := by
  have hne : r.toNat ≠ x.toNat := fun he => h (BitVec.eq_of_toNat_eq he.symm)
  simp [Pvc.getW, Pvc.setW, Vector.getElem_set_ne, hne]

section
variable (p : Pvc) (r : R5) {w : Nat} (pred : Bool) (t : Tag) (g : Nat → Option Nat)

theorem getW_putReg_other {x : R5} (h : x ≠ r) : (p.putReg r w pred t g).getW x = p.getW x := getW_setW_other p h _ _

/-- A lane of a register written takes its new value, where one is given. -/
theorem lane_putReg {j : Nat} (h : j < 256 / w) :
    lane ((p.putReg r w pred t g).getW r).v w j = (g j).elim (lane (p.getW r).v w j) (· % 2 ^ w) := by
  simp only [Pvc.putReg, getW_setW_same]
  rw [lane_packLanes _ h]
  cases hg : g j <;> simp [h, hg, Nat.mod_eq_of_lt (lane_lt _ _ _)]

end

/-! Spans. -/

theorem spanReg_toNat {b : R5} {r : Nat} (h : b.toNat + r < 32) : (spanReg b r).toNat = b.toNat + r := by
  simp [spanReg, BitVec.toNat_add, Nat.mod_eq_of_lt h]

section
variable (p : Pvc) (b : R5) (n w : Nat) (pred : Bool) (t : Nat → Tag) (g : Nat → Option Nat)

theorem putSpan_succ : p.putSpan b (n + 1) w pred t g =
    (p.putSpan b n w pred t g).putReg (spanReg b n) w pred (t n) (fun j => g (n * (256 / w) + j)) := by
  simp [Pvc.putSpan, List.range_succ]

/-- A span write reaches nothing but vector registers. -/
theorem putSpan_frame : p.putSpan b n w pred t g = { p with w := (p.putSpan b n w pred t g).w } := by
  have hshape : ∃ v, p.putSpan b n w pred t g = { p with w := v } := by
    induction n with
    | zero => exact ⟨p.w, rfl⟩
    | succ n ih =>
      obtain ⟨v, hv⟩ := ih
      exact ⟨_, by rw [putSpan_succ, hv]; rfl⟩
  obtain ⟨v, hv⟩ := hshape
  rw [hv]

variable {b n}

theorem getW_putSpan_outside (hfits : b.toNat + n ≤ 32) {x : R5} (hx : x.toNat < b.toNat ∨ b.toNat + n ≤ x.toNat) :
    (p.putSpan b n w pred t g).getW x = p.getW x := by
  induction n with
  | zero => rfl
  | succ n ih =>
    have hne : x ≠ spanReg b n := by
      rintro rfl
      rw [spanReg_toNat (by omega)] at hx
      omega
    rw [putSpan_succ, getW_putReg_other _ _ _ _ _ hne, ih (by omega) (by omega)]

theorem spanReg_inj (hfits : b.toNat + n ≤ 32) {r x : Nat} (hr : r < n) (hx : x < n) (h : spanReg b r = spanReg b x) : r = x := by
  have := congrArg BitVec.toNat h
  rw [spanReg_toNat (by omega), spanReg_toNat (by omega)] at this
  omega

/-- A lane of a register of a span written takes its new value, where one is given. -/
theorem lane_putSpan (hfits : b.toNat + n ≤ 32) {r j : Nat} (hr : r < n) (hj : j < 256 / w) :
    lane ((p.putSpan b n w pred t g).getW (spanReg b r)).v w j =
      (g (r * (256 / w) + j)).elim (lane (p.getW (spanReg b r)).v w j) (· % 2 ^ w) := by
  induction n with
  | zero => omega
  | succ n ih =>
    rw [putSpan_succ]
    by_cases hlast : r = n
    · subst hlast
      rw [lane_putReg _ _ _ _ _ hj, getW_putSpan_outside _ _ _ _ _ (by omega) (by rw [spanReg_toNat] <;> omega)]
    · rw [getW_putReg_other _ _ _ _ _ (fun h => hlast (spanReg_inj hfits hr n.lt_succ_self h)), ih (by omega) (by omega)]

/-- An element of a span written takes its new value, where one is given. -/
theorem elem_putSpan (hfits : b.toNat + n ≤ 32) {i : Nat} (hi : i < n * (256 / w)) :
    (p.putSpan b n w pred t g).elem b w i = (g i).elim (p.elem b w i) (· % 2 ^ w) := by
  have hk : 0 < 256 / w := Nat.pos_of_ne_zero (by rintro h; simp [h] at hi)
  refine (lane_putSpan p w pred t g hfits ((Nat.div_lt_iff_lt_mul hk).mpr hi) (Nat.mod_lt i hk)).trans ?_
  rw [Nat.mul_comm, Nat.div_add_mod]
  rfl

end

/-- Settles O18: the elements of the span, the registers beside it, and the rest of the run. -/
theorem spanWritesKeepTheRest : Obligations.SpanWritesKeepTheRest := by
  unfold Obligations.SpanWritesKeepTheRest
  intro p b n e pred t g hfits w q
  refine ⟨fun i hi => ?_, fun r hr => getW_putSpan_outside p w pred t g hfits hr, putSpan_frame p b n w pred t g⟩
  rw [elem_putSpan p w pred t g hfits hi]
  cases g i <;> rfl

end Sys2Proof.Machine
end


section
/-!
SUPPORT. Comparisons, predicate logic, PLEN and PCNT (spec file 06, R172, R175, R178; spec file 07, R196, R197).
-/
namespace Sys2Proof.Machine
open Sys2Proof

/-! Untagged operands. -/

section
variable {p : Pvc} {b : R5} {n : Nat}

theorem reg_untagged (h : p.spanTag b n = none) {r : Nat} (hr : r < n) : (p.getW (spanReg b r)).t = none := by
  rw [Pvc.spanTag, List.head?_eq_none_iff, List.filterMap_eq_nil_iff] at h
  exact h r (List.mem_range.mpr hr)

/-- Elements of an untagged span need no conversion. -/
theorem elemAs_untagged (h : p.spanTag b n = none) (need : Share) {w i : Nat} (hi : i / (256 / w) < n) : p.elemAs need b w i = p.elem b w i := by
  simp only [Pvc.elemAs, Pvc.elem, reg_untagged h hi]
  rfl

/-- The elements that an instruction acts on lie in its spans (R198). -/
theorem reg_lt_regs {l e : Bool} {i : Nat} (h : i < p.count l e) : i / (256 / eWidth e) < p.regs l e := by
  revert h
  cases l <;> cases e <;> simp only [Pvc.count, Pvc.regs, eWidth, ceilDiv] <;> simp <;> omega

end

/-! Comparisons. -/

theorem getLsbD_packed (f : Nat → Bool) {j : Nat} (h : j < 256) :
    (BitVec.ofNat 256 (packBits 1 (((List.range 256).map f).map b2n))).getLsbD j = f j := by
  rw [BitVec.getLsbD_ofNat, testBit_packBits, decide_eq_true h, Bool.true_and]
  simp [h]

theorem setP_self (p : Pvc) (r : P3) : p.setP r (p.getP r).v (p.getP r).t = p := by
  unfold Pvc.setP Pvc.getP
  split
  · rfl
  · exact congrArg (fun v => ({ p with p := v } : Pvc)) (Vector.set_getElem_self _)

section
variable (f : Nat → Nat → Nat → Bool) {p : Pvc} {d a b : R5} (pr : P3) (l e : Bool)

theorem cmpOp_illegal (h : 8 ≤ d.toNat) : cmpOp f d a b pr l e p = .fault tcIllegal p := if_pos h

theorem cmpOp_empty (h : d.toNat < 8) (hl : l = true) (hlen : p.len = 0) : cmpOp f d a b pr l e p = .ok p.next :=
  (if_neg (Nat.not_le.mpr h)).trans (if_pos (by simp [hl, hlen]))

/-- Bit j of the predicate that a comparison leaves: both bits of a 32-bit element hold its truth (R175). -/
def Pvc.cmpBit (p : Pvc) (d a b : R5) (j : Nat) : Bool :=
  let w := eWidth e
  if j / (w / 16) < p.count l e ∧ p.pbit pr w (j / (w / 16)) then f w (p.elem a w (j / (w / 16))) (p.elem b w (j / (w / 16)))
  else (p.getP (d.truncate 3)).v.getLsbD j

/-- The predicate that a comparison leaves. -/
def Pvc.cmpBits (p : Pvc) (d a b : R5) : BitVec 256 :=
  BitVec.ofNat 256 (packBits 1 (((List.range 256).map (p.cmpBit f pr l e d a b)).map b2n))

theorem cmpBits_bit {j : Nat} (h : j < 256) : (p.cmpBits f pr l e d a b).getLsbD j = p.cmpBit f pr l e d a b j := getLsbD_packed _ h

/-- Its tag where no operand is tagged: a partial write keeps that of the old predicate (R178). -/
def Pvc.cmpTag (p : Pvc) (d : R5) : Bool := (p.getP (d.truncate 3)).t && (pr != 0 || decide (p.count l e * (eWidth e / 16) < 256))

/-- A comparison of no element leaves the predicate as it is. -/
theorem cmp_empty (hl : l = true) (hlen : p.len = 0) :
    p.setP (d.truncate 3) (p.cmpBits f pr l e d a b) (p.cmpTag pr l e d) = p := by
  have hbits : p.cmpBits f pr l e d a b = (p.getP (d.truncate 3)).v := BitVec.eq_of_getLsbD_eq fun j hj => by
    rw [cmpBits_bit f pr l e hj]
    simp [Pvc.cmpBit, Pvc.count, hl, hlen]
  have htag : p.cmpTag pr l e d = (p.getP (d.truncate 3)).t := by simp [Pvc.cmpTag, Pvc.count, hl, hlen]
  rw [hbits, htag, setP_self]

variable {f pr l e}

theorem cmpOp_ok (hd : d.toNat < 8) (hlen : ¬ (l = true ∧ p.len = 0)) (hfit : SpansFit p l e [a, b]) (ha : p.spanTag a (p.regs l e) = none)
    (hb : p.spanTag b (p.regs l e) = none) (hp : (p.getP pr).t = false) :
    cmpOp f d a b pr l e p = .ok (p.setP (d.truncate 3) (p.cmpBits f pr l e d a b) (p.cmpTag pr l e d)).next := by
  have hbits : ∀ j, p.cmpBit f pr l e d a b j = (if j / (eWidth e / 16) < p.count l e && p.pbit pr (eWidth e) (j / (eWidth e / 16)) then
      f (eWidth e) (p.elemAs .bool a (eWidth e) (j / (eWidth e / 16))) (p.elemAs .bool b (eWidth e) (j / (eWidth e / 16)))
      else (p.getP (d.truncate 3)).v.getLsbD j) := by
    intro j
    by_cases hj : j / (eWidth e / 16) < p.count l e
    · rw [elemAs_untagged ha _ (reg_lt_regs hj), elemAs_untagged hb _ (reg_lt_regs hj)]
      simp [Pvc.cmpBit]
    · simp [Pvc.cmpBit, hj]
  unfold SpansFit at hfit
  refine (if_neg (Nat.not_le.mpr hd)).trans ((if_neg (by simpa using hlen)).trans ((if_neg (by simp [hfit])).trans ?_))
  simp only [← hbits, ha, hb, hp, Pvc.cmpBits, Pvc.cmpTag, conversions, Bool.and_comm]
  rfl

end

theorem exec_cmp {s : State} {c : Nat} {p : Pvc} {d a b : R5} {pr : P3} {l e : Bool} {i : Instr} {f : Nat → Bool} (hi : (i, f) ∈
      [(Instr.vcmpEq c d a b pr l e, fun i => decide (p.elem a (eWidth e) i = p.elem b (eWidth e) i)),
       (.vcmpNe c d a b pr l e, fun i => decide (p.elem a (eWidth e) i ≠ p.elem b (eWidth e) i)),
       (.vcmpLt c d a b pr l e, fun i => decide (sgn (eWidth e) (p.elem a (eWidth e) i) < sgn (eWidth e) (p.elem b (eWidth e) i))),
       (.vcmpGe c d a b pr l e, fun i => decide (sgn (eWidth e) (p.elem b (eWidth e) i) ≤ sgn (eWidth e) (p.elem a (eWidth e) i))),
       (.vcmpLtu c d a b pr l e, fun i => decide (p.elem a (eWidth e) i < p.elem b (eWidth e) i)),
       (.vcmpGeu c d a b pr l e, fun i => decide (p.elem b (eWidth e) i ≤ p.elem a (eWidth e) i))]) :
    ∃ g, exec i s = pvcStep c (cmpOp g d a b pr l e) s ∧ ∀ i, f i = g (eWidth e) (p.elem a (eWidth e) i) (p.elem b (eWidth e) i) := by
  simp only [List.mem_cons, List.not_mem_nil, or_false, Prod.mk.injEq] at hi
  obtain ⟨rfl, rfl⟩ | ⟨rfl, rfl⟩ | ⟨rfl, rfl⟩ | ⟨rfl, rfl⟩ | ⟨rfl, rfl⟩ | ⟨rfl, rfl⟩ := hi
  case inr.inl => exact ⟨_, rfl, fun i => by simp [bne, beq_eq_decide]⟩
  all_goals exact ⟨_, rfl, fun _ => rfl⟩

/-! Predicate logic and counts. -/

section
variable {s : State} {c : Nat} {p : Pvc} {d a b : R5}

theorem predOp_ok (f : BitVec 256 → BitVec 256 → BitVec 256) (hd : d.toNat < 8) (ha : a.toNat < 8) (hb : b.toNat < 8) : predOp f d a b p =
    .ok (p.setP (d.truncate 3) (f (p.getP (a.truncate 3)).v (p.getP (b.truncate 3)).v) ((p.getP (a.truncate 3)).t || (p.getP (b.truncate 3)).t)).next :=
  if_neg (by omega)

theorem predOp_illegal (f : BitVec 256 → BitVec 256 → BitVec 256) (h : 8 ≤ d.toNat ∨ 8 ≤ a.toNat ∨ 8 ≤ b.toNat) :
    predOp f d a b p = .fault tcIllegal p := if_pos h

variable {pr : P3} {l e : Bool}

theorem exec_plen_illegal (h : Issues s c p) (hd : 8 ≤ d.toNat) : exec (.plen c d 0 0 pr l e) s = .next (takeTrap c p tcIllegal 0 p.pc 0 s) := by
  change execPlen c d 0 0 pr l e s = _
  exact pvcStep_faults h (legal_not (by simpa using hd))

theorem exec_plen (h : Issues s c p) (hd : d.toNat < 8) : exec (.plen c d 0 0 pr l e) s =
    .next (s.setPvc c (p.setP (d.truncate 3) (BitVec.ofNat 256 (2 ^ (p.len * (eWidth e / 16)) - 1)) false).next) := by
  change execPlen c d 0 0 pr l e s = _
  exact pvcStep_completes h (legal_of (by simpa using hd)) (by simp [h.2.1]) (by simp)

theorem exec_pcnt (h : Issues s c p) (ha : a.toNat < 8) (hlen : l = true → p.len ≤ 4096 / eWidth e) : exec (.pcnt c d a 0 pr l e) s =
    .next (s.setPvc c (p.setS d (BitVec.ofNat 32 ((List.range (p.count l e)).countP (fun i => p.pbit (a.truncate 3) (eWidth e) i)))
      (p.pTag (a.truncate 3))).next) := by
  change execPcnt c d a 0 pr l e s = _
  have hfit : p.spanBad l e 0 [] = false := by
    cases hl : l
    · rfl
    · simp [Pvc.spanBad, hlen hl]
  rw [List.countP_eq_length_filter]
  exact pvcStep_completes h ((legal_of (by simpa using ha)).trans (if_neg (by simp [hfit]))) (by simp [h.2.1]) (by simp)

end

/-- Settles O19: comparisons, the four logic instructions, PLEN and PCNT. -/
theorem predicateResults : Obligations.PredicateResults := by
  unfold Obligations.PredicateResults
  intro s c p d a b pr l e h w n ill
  refine ⟨fun i f hi => ?compare, fun hd ha hb => ?logic, fun hbad i hi => ?field, fun hd => ?plenField, fun hd hlen => ?plen, fun ha hlen => ?pcnt⟩
  case compare =>
    obtain ⟨g, hexec, hf⟩ := exec_cmp (s := s) hi
    rw [hexec]
    have hempty : d.toNat < 8 → l = true → p.len = 0 → pvcStep c (cmpOp g d a b pr l e) s = .next (s.setPvc c p.next) :=
      fun hd hl hlen => pvcStep_completes h (cmpOp_empty g pr l e hd hl hlen) h.2.1 rfl
    refine ⟨fun hd hfit hta htb htp => ?_, hempty, fun hd => pvcStep_faults h (cmpOp_illegal g pr l e hd)⟩
    refine ⟨p.cmpBits g pr l e d a b, fun j hj => ?_, ?_⟩
    · rw [cmpBits_bit _ _ _ _ hj, hf]
      rfl
    · by_cases hlen : l = true ∧ p.len = 0
      · rw [hempty hd hlen.1 hlen.2]
        exact congrArg (fun q : Pvc => Host.Outcome.next (s.setPvc c q.next)) (cmp_empty g pr l e hlen.1 hlen.2).symm
      · exact pvcStep_completes h (cmpOp_ok hd hlen hfit hta htb htp) (by simp [h.2.1]) (by simp)
  case logic =>
    intro x y i v hi
    have hexec : ∃ f, exec i s = pvcStep c (predOp f d a b) s ∧ v = f x.v y.v := by
      simp only [List.mem_cons, List.not_mem_nil, or_false, Prod.mk.injEq] at hi
      obtain ⟨rfl, rfl⟩ | ⟨rfl, rfl⟩ | ⟨rfl, rfl⟩ | ⟨rfl, rfl⟩ := hi <;> exact ⟨_, rfl, rfl⟩
    obtain ⟨f, hexec, rfl⟩ := hexec
    exact hexec.trans (pvcStep_completes h (predOp_ok f hd ha hb) (by simp [h.2.1]) (by simp))
  case field =>
    have hexec : ∃ f, exec i s = pvcStep c (predOp f d a b) s := by
      simp only [List.mem_cons, List.not_mem_nil, or_false] at hi
      obtain rfl | rfl | rfl | rfl := hi <;> exact ⟨_, rfl⟩
    obtain ⟨f, hexec⟩ := hexec
    exact hexec.trans (pvcStep_faults h (predOp_illegal f hbad))
  case plenField => exact exec_plen_illegal h hd
  case plen =>
    refine ⟨_, fun j hj => ?_, exec_plen h hd⟩
    rw [BitVec.getLsbD_ofNat, Nat.testBit_two_pow_sub_one, decide_eq_true hj, Bool.true_and]
  case pcnt => exact exec_pcnt h ha hlen

end Sys2Proof.Machine
end


section
/-!
SUPPORT. Sponge units: claims, absorbing, squeezing and release (spec file 06, R166, R167; spec file 07, R214).
-/
namespace Sys2Proof.Machine
open Sys2Proof

/-! Units of a run. -/

@[simp] theorem setUnit_stall (p : Pvc) (u : Bool) (x : Option Sponge) : (p.setUnit u x).stall = p.stall := rfl
@[simp] theorem setUnit_masks (p : Pvc) (u : Bool) (x : Option Sponge) : (p.setUnit u x).masks = p.masks := rfl

section
variable {p : Pvc} {u : Bool}

/-- Field d names a unit that the kernel may use (R214). -/
def Pvc.mayUse (p : Pvc) (u : Bool) : Prop := u = true → p.kern.caps.testBit 3 = true

theorem unitField_ok (k : Bool → Pvc → PRes) (h : p.mayUse u) : unitField (if u then 1 else 0) k p = k u p := by
  cases u with
  | false => rfl
  | true => simp [unitField, h rfl]

theorem unitField_pair (k : Bool → Pvc → PRes) (h : ¬ p.kern.caps.testBit 3 = true) : unitField 1 k p = .fault tcCap p := by
  simp [unitField, h]

variable {sq : Bool} {k : Sponge → Pvc → PRes} {x : Sponge}

theorem withUnit_ok (hx : p.unit u = some x) (hsq : x.squeeze = sq) : withUnit sq u k p = k x p := by simp [withUnit, hx, hsq]

theorem withUnit_wrong (hx : p.unit u = some x) (hsq : x.squeeze = !sq) : withUnit sq u k p = .fault tcSponge p := by
  simp [withUnit, hx, hsq]

theorem withUnit_free (hx : p.unit u = none) : withUnit sq u k p = .fault tcSponge p := by simp [withUnit, hx]

end

/-! Claims. -/

/-- The rate codes of R214. -/
theorem rateOf_codes {k r : Nat} (h : (k, r) ∈ [(0, 168), (1, 136), (2, 144), (3, 104), (4, 72)]) : rateOf (BitVec.ofNat 5 k).toNat = some r := by
  simp only [List.mem_cons, List.not_mem_nil, or_false, Prod.mk.injEq] at h
  obtain ⟨rfl, rfl⟩ | ⟨rfl, rfl⟩ | ⟨rfl, rfl⟩ | ⟨rfl, rfl⟩ | ⟨rfl, rfl⟩ := h <;> rfl

theorem rateOf_defined : ∀ k < 5, ∃ r, rateOf (BitVec.ofNat 5 k).toNat = some r := by
  intro k hk
  interval_cases k <;> exact ⟨_, rfl⟩

theorem spongesFree_eq (s : State) (cl : Nat) : s.spongesFree cl = if (s.cluster cl).spQueue = [] then 4 - s.spongesHeld cl else 0 := by
  simp [State.spongesFree]

/-- A sponge stall puts its core at the end of the queue of its cluster (R166). -/
theorem afterStall_sponge {s : State} {c : Nat} {q : Pvc} {us : List Nat} {rate : Nat} (h : q.stall = some (.sponge us rate)) :
    afterStall c q s = s.setCluster (clusterOf c)
      { s.cluster (clusterOf c) with spQueue := (s.cluster (clusterOf c)).spQueue ++ [c] } := by simp [afterStall, h]

section
variable {p : Pvc} {b : R5} {n r : Nat} {us : List Bool} (hr : rateOf b.toNat = some r)
include hr

theorem claimOp_held (h : p.unit false ≠ none ∨ p.unit true ≠ none) : claimOp n us b p = .fault tcIllegal p := by
  simp only [← Option.isSome_iff_ne_none] at h
  simp [claimOp, hr, h]

variable (h0 : p.unit false = none) (h1 : p.unit true = none)
include h0 h1

theorem claimOp_granted (hn : us.length ≤ n) :
    claimOp n us b p = .ok (us.foldl (fun (q : Pvc) u => q.setUnit u (some (Sponge.fresh r))) p).next := by
  simp [claimOp, hr, h0, h1, hn]

theorem claimOp_waits (hn : n < us.length) : claimOp n us b p = .ok { p with stall := some (.sponge (us.map b2n) r) } := by
  simp [claimOp, hr, h0, h1, Nat.not_le.mpr hn]

end

section
variable {s : State} {c : Nat} {p : Pvc} {u : Bool} {a b : R5} {pr : P3} {l e : Bool}

theorem exec_sclaim (h : Issues s c p) (hu : p.mayUse u) {r : PRes} (hr : claimOp (s.spongesFree (clusterOf c)) [u] b p = r) :
    exec (.sclaim c (if u then 1 else 0) a b pr l e) s = .next (pvcPut c p r s) := by
  change execSclaim c _ a b pr l e s = _
  rw [execSclaim, pvcStep_issues _ h, unitField_ok _ hu, hr]

theorem exec_sclaim2 (h : Issues s c p) (hpair : p.kern.caps.testBit 3 = true) (d : R5) {r : PRes}
    (hr : claimOp (s.spongesFree (clusterOf c)) [false, true] b p = r) : exec (.sclaim2 c d a b pr l e) s = .next (pvcPut c p r s) := by
  change execSclaim2 c d a b pr l e s = _
  rw [execSclaim2, pvcStep_issues _ h, hpair, ← hr]
  rfl

theorem exec_sclaim2_unpaired (h : Issues s c p) (hpair : ¬ p.kern.caps.testBit 3 = true) (d : R5) :
    exec (.sclaim2 c d a b pr l e) s = .next (takeTrap c p tcCap 0 p.pc 0 s) := by
  change execSclaim2 c d a b pr l e s = _
  exact pvcStep_faults h (if_pos (by simpa using hpair))

/-- A claim that has to wait stalls its core at the end of the queue. -/
theorem pvcPut_claimWaits {q : Pvc} {us : List Nat} {rate : Nat} (hstall : q.stall = some (.sponge us rate)) (hmasks : q.masks = p.masks) :
    let t := pvcPut c p (.ok q) s
    mget t.pvcs c = some q ∧ (t.cluster (clusterOf c)).spQueue = (s.cluster (clusterOf c)).spQueue ++ [c] := by
  intro t
  have ht : t = _ := (pvcPut_maskless hmasks).trans (afterStall_sponge hstall)
  rw [ht, cluster_setCluster_same]
  exact ⟨mget_mput_same _ _ _, rfl⟩

end

/-! Absorbing, padding, squeezing and release. -/

section
variable {s : State} {c : Nat} {p : Pvc} {u : Bool} {x : Sponge} (h : Issues s c p) (hu : p.mayUse u) (a b : R5) (pr : P3) (l e : Bool)
include h hu

section
variable (hx : p.unit u = some x)
include hx

theorem exec_sabs (hsq : x.squeeze = false) (hfit : SpansFit p true e [a]) : exec (.sabs c (if u then 1 else 0) a b 0 true e) s =
    .next (s.setPvc c (p.setUnit u (some { x.absorb ((List.range (p.len * (eWidth e / 8))).map (fun j => BitVec.ofNat 8 (p.elem a 8 j))) with
      tagged := x.tagged || (p.spanTag a (p.regs true e)).isSome })).next) := by
  change execSabs c _ a b 0 true e s = _
  refine pvcStep_completes h (((legal_of rfl).trans ((unitField_ok _ hu).trans (withUnit_ok hx hsq))).trans ?_) h.2.1 rfl
  exact if_neg (Bool.eq_false_iff.mp hfit)

theorem exec_sabsb (hsq : x.squeeze = false) : exec (.sabsb c (if u then 1 else 0) a b pr l e) s = .next (s.setPvc c (p.setUnit u
    (some { x.absorb [(p.getS a).v.truncate 8] with tagged := x.tagged || (p.getS a).t.isSome })).next) := by
  change execSabsb c _ a b pr l e s = _
  exact pvcStep_completes h ((unitField_ok _ hu).trans (withUnit_ok hx hsq)) h.2.1 rfl

theorem exec_sfin (hsq : x.squeeze = false) {dom : Byte} (hdom : domainOf b.toNat = some dom) :
    exec (.sfin c (if u then 1 else 0) a b pr l e) s = .next (s.setPvc c (p.setUnit u (some (x.finish dom))).next) := by
  change execSfin c _ a b pr l e s = _
  refine pvcStep_completes h ((unitField_ok _ hu).trans ?_) h.2.1 rfl
  rw [hdom]
  exact withUnit_ok hx hsq

theorem exec_ssqz (hsq : x.squeeze = true) (hfit : SpansFit p true e [a]) : exec (.ssqz c (if u then 1 else 0) a b 0 true e) s =
    .next (s.setPvc c ((p.putSpan a (p.regs true e) 8 false (fun _ => if x.tagged then some .bool else none)
      (fun j => if j < p.len * (eWidth e / 8) then some ((x.take (p.len * (eWidth e / 8))).1.getD j 0).toNat else none)).setUnit u
        (some (x.take (p.len * (eWidth e / 8))).2)).next) := by
  change execSsqz c _ a b 0 true e s = _
  refine pvcStep_completes h (((legal_of rfl).trans ((unitField_ok _ hu).trans (withUnit_ok hx hsq))).trans ?_) (by simp [h.2.1]) (by simp)
  exact if_neg (Bool.eq_false_iff.mp hfit)

theorem exec_srel : exec (.srel c (if u then 1 else 0) a b pr l e) s = .next (s.setPvc c (p.setUnit u none).next) := by
  change execSrel c _ a b pr l e s = _
  refine pvcStep_completes h ((unitField_ok _ hu).trans ?_) h.2.1 rfl
  rw [hx]

end

/-- The unit named is not the run's, or is not in the phase that an instruction needs. -/
def Pvc.unitUnfit (p : Pvc) (u sq : Bool) : Prop := p.unit u = none ∨ ∃ x, p.unit u = some x ∧ x.squeeze = !sq

omit h hu in
theorem withUnit_unfit {sq : Bool} {k : Sponge → Pvc → PRes} (hbad : p.unitUnfit u sq) : withUnit sq u k p = .fault tcSponge p := by
  obtain hx | ⟨x, hx, hsq⟩ := hbad
  · exact withUnit_free hx
  · exact withUnit_wrong hx hsq

theorem exec_sabs_unfit (hbad : p.unitUnfit u false) :
    exec (.sabs c (if u then 1 else 0) a b 0 true e) s = .next (takeTrap c p tcSponge 0 p.pc 0 s) := by
  change execSabs c _ a b 0 true e s = _
  exact pvcStep_faults h ((legal_of rfl).trans ((unitField_ok _ hu).trans (withUnit_unfit hbad)))

theorem exec_sabsb_unfit (hbad : p.unitUnfit u false) :
    exec (.sabsb c (if u then 1 else 0) a b pr l e) s = .next (takeTrap c p tcSponge 0 p.pc 0 s) := by
  change execSabsb c _ a b pr l e s = _
  exact pvcStep_faults h ((unitField_ok _ hu).trans (withUnit_unfit hbad))

theorem exec_ssqz_unfit (hbad : p.unitUnfit u true) :
    exec (.ssqz c (if u then 1 else 0) a b 0 true e) s = .next (takeTrap c p tcSponge 0 p.pc 0 s) := by
  change execSsqz c _ a b 0 true e s = _
  exact pvcStep_faults h ((legal_of rfl).trans ((unitField_ok _ hu).trans (withUnit_unfit hbad)))

theorem exec_sfin_unclaimed (hx : p.unit u = none) :
    exec (.sfin c (if u then 1 else 0) a 0 pr l e) s = .next (takeTrap c p tcSponge 0 p.pc 0 s) := by
  change execSfin c _ a 0 pr l e s = _
  exact pvcStep_faults h ((unitField_ok _ hu).trans (withUnit_free hx))

theorem exec_srel_unclaimed (hx : p.unit u = none) :
    exec (.srel c (if u then 1 else 0) a b pr l e) s = .next (takeTrap c p tcSponge 0 p.pc 0 s) := by
  change execSrel c _ a b pr l e s = _
  refine pvcStep_faults h ((unitField_ok _ hu).trans ?_)
  rw [hx]

end

/-- Settles O22: claims, then the other five instructions by the state of the unit named. -/
theorem spongeInstructions : Obligations.SpongeInstructions := by
  unfold Obligations.SpongeInstructions
  intro s c p u a b pr l e h d w n trap pair mine free fresh
  have hfree : s.spongesFree (clusterOf c) = free := spongesFree_eq s (clusterOf c)
  refine ⟨fun k r hk h0 h1 => ?claim, fun hheld k hk hu => ?held, fun hu hpair i hi => ?capability, fun x hu hx => ?unit, fun hu hx => ?unclaimed⟩
  case claim =>
    have hr := rateOf_codes hk
    refine ⟨fun hu hn => ?_, fun hu hn => ?_, fun hp hn => ?_⟩
    · rw [exec_sclaim h hu (claimOp_granted hr h0 h1 (by rw [hfree]; exact hn)), pvcPut_plain (by simp [h.2.1]) (by simp)]
      rfl
    · exact ⟨_, exec_sclaim h hu (claimOp_waits hr h0 h1 (by rw [hfree, hn]; exact Nat.one_pos)), pvcPut_claimWaits rfl rfl⟩
    · rw [exec_sclaim2 h hp d (claimOp_granted hr h0 h1 (by rw [hfree]; exact hn)), pvcPut_plain (by simp [h.2.1]) (by simp)]
      rfl
  case held =>
    obtain ⟨r, hr⟩ := rateOf_defined k hk
    rw [exec_sclaim h hu (claimOp_held hr hheld), pvcPut_fault]
  case capability =>
    subst hu
    simp only [List.mem_cons, List.not_mem_nil, or_false] at hi
    obtain rfl | rfl | rfl | rfl := hi
    case inr.inl => exact exec_sclaim2_unpaired h hpair d
    all_goals exact pvcStep_faults h (unitField_pair _ hpair)
  case unit =>
    refine ⟨fun hsq => ⟨fun hfit => exec_sabs h hu a b e hx hsq hfit, exec_sabsb h hu a b pr l e hx hsq, fun k v hk => ?_,
        exec_ssqz_unfit h hu a b e (.inr ⟨x, hx, hsq⟩)⟩,
      fun hsq => ⟨fun hfit => exec_ssqz h hu a b e hx hsq hfit, exec_sabs_unfit h hu a b e (.inr ⟨x, hx, hsq⟩),
        exec_sabsb_unfit h hu a b pr l e (.inr ⟨x, hx, hsq⟩)⟩, exec_srel h hu a b pr l e hx⟩
    have hdom : domainOf (BitVec.ofNat 5 k).toNat = some v := by
      simp only [List.mem_cons, List.not_mem_nil, or_false, Prod.mk.injEq] at hk
      obtain ⟨rfl, rfl⟩ | ⟨rfl, rfl⟩ | ⟨rfl, rfl⟩ := hk <;> rfl
    exact exec_sfin h hu a _ pr l e hx hsq hdom
  case unclaimed =>
    exact ⟨exec_sabs_unfit h hu a b e (.inl hx), exec_sabsb_unfit h hu a b pr l e (.inl hx), exec_sfin_unclaimed h hu a pr l e hx,
      exec_ssqz_unfit h hu a b e (.inl hx), exec_srel_unclaimed h hu a b pr l e hx⟩

end Sys2Proof.Machine
end


section
/-!
SUPPORT. Events of the clusters beside the instructions: grants, arrivals, time limits and scrubs (spec file 06, R165 to R168, R177, R182,
R183, R185, R191, R193).
-/
namespace Sys2Proof.Machine
open Sys2Proof

section
variable {s : State} {c cl : Nat} {p : Pvc} {t : List Nat}

/-! Grants of sponge units, of shared SRAM and of masks. -/

theorem exec_spongeGrant (hp : mget s.pvcs c = some p) {us : List Nat} {rate : Nat} (hstall : p.stall = some (.sponge us rate))
    (hq : (s.cluster cl).spQueue = c :: t) : exec (.spongeClaimGrant cl) s =
      if us.length ≤ 4 - s.spongesHeld cl then
        .next ((s.setPvc c (p.granted us rate)).setCluster cl { s.cluster cl with spQueue := t })
      else .next s := by
  change execSpongeClaimGrant cl s = _
  simp only [execSpongeClaimGrant, hq, hp, hstall]

theorem exec_sramGrant (hp : mget s.pvcs c = some p) (hq : (s.cluster cl).sramQueue = c :: t) : exec (.sramAllotGrant cl) s =
      if p.kern.sram / 4096 ≤ s.sramFree cl then
        .next ((s.setPvc c { p with stall := none, alloc := true }).setCluster cl { s.cluster cl with sramQueue := t })
      else .next s := by
  change execSramAllotGrant cl s = _
  simp only [execSramAllotGrant, hq, hp]

theorem exec_maskResume (hp : mget s.pvcs c = some p) (hstall : p.stall = some .mask) (hm : MasksFlow s c) :
    exec (.maskStreamResume c) s = .next (s.setPvc c { p with stall := none }) := by
  change execMaskStreamResume c s = _
  simp only [execMaskStreamResume, hp]
  exact if_pos ⟨hstall, hm⟩

/-! Bytes of a SLIDE and of a KLD. -/

theorem exec_slideRefill (hp : mget s.pvcs c = some p) {aux : Bool} {off : Nat} (hstall : p.stall = some (.slide aux off)) (data : List Byte) :
    exec (.slideRefillDone c data) s = .next (s.setPvc c (p.slideDone aux off data)) := by
  change execSlideRefillDone c data s = _
  simp only [execSlideRefillDone, hp, hstall]

/-- The bytes of a KLD stand at their address, and every other byte is as before. -/
theorem kldDone_frame (dst : Nat) (l : List Byte) : let q := p.kldDone dst l
    q = ({ p with stall := none, mem := q.mem, shares := q.shares } : Pvc).next ∧ (∀ k, k < l.length → readByte q.mem (dst + k) = l.getD k 0) ∧
      (∀ b, b < dst ∨ dst + l.length ≤ b → readByte q.mem b = readByte p.mem b) :=
  ⟨rfl, readByte_writeBytes_same l p.mem dst, fun _ => readByte_writeBytes_other l p.mem dst _⟩

section
variable (hp : mget s.pvcs c = some p) {dst : Nat} {l : List Byte} {sec : Bool}
include hp

theorem exec_kldDelivered (hstall : p.stall = some (.kld dst l sec none)) :
    exec (.kldDelivered c) s = .next (s.setPvc c (p.kldDone dst l)) := by
  change execKldDelivered c s = _
  simp only [execKldDelivered, hp, hstall]

variable {k par : Nat} (hstall : p.stall = some (.kld dst l sec (some (k, par))))
include hstall

theorem exec_kldDelivered_code : exec (.kldDelivered c) s = .next (s.kldCode c p dst l k par) := by
  change execKldDelivered c s = _
  simp only [execKldDelivered, hp, hstall]

/-- A resident key whose entry of the code-key cache is whole serves its bytes. -/
theorem exec_kldDelivered_cached (hkey : ∃ x ∈ s.ks.codeKeys, x.handle = k ∧ x.loading = false) :
    exec (.kldDelivered c) s = .next ((s.touchCode k).setPvc c (p.kldDone dst l)) := by
  have hloaded : s.codeLoaded k = true := by simpa [State.codeLoaded] using hkey
  rw [exec_kldDelivered_code hp hstall, State.kldCode, if_pos hloaded]

/-- One that has no entry is loaded first. -/
theorem exec_kldDelivered_uncached (hkey : s.ks.codeKeys.any (fun x => x.handle == k) = false) :
    exec (.kldDelivered c) s = .next (s.startLoad k par p.cmd) := by
  have hloaded : ¬ s.codeLoaded k = true := by
    simp only [State.codeLoaded, List.any_eq_true, List.any_eq_false] at hkey ⊢
    rintro ⟨x, hx, hk⟩
    exact hkey x hx (Bool.and_eq_true_iff.mp hk).1
  rw [exec_kldDelivered_code hp hstall, State.kldCode, if_neg hloaded, if_neg (Bool.eq_false_iff.mp hkey)]

end

/-! Time limits and scrubs. -/

theorem live_of (h : p.stall ≠ some .ended) : p.live = true := bne_iff_ne.mpr h

theorem exec_validationTimeout (hp : mget s.pvcs c = some p) (hlive : p.stall ≠ some .ended) (hvalid : p.valid = true) :
    exec (.validationPhaseTimeout c) s = .next (takeTrap c p tcValidation 0 p.pc 0 s) := by
  change execValidationPhaseTimeout c s = _
  simp only [execValidationPhaseTimeout, hp, live_of hlive, hvalid]
  rfl

theorem exec_watchdog (hp : mget s.pvcs c = some p) (hlive : p.stall ≠ some .ended) :
    exec (.kernelWatchdog c) s = .next (takeTrap c p tcWatchdog 0 p.pc 0 s) := by
  change execKernelWatchdog c s = _
  simp only [execKernelWatchdog, hp, live_of hlive]
  rfl

theorem exec_scrubDone (h : (s.unit c).scrub = true) : exec (.pvcScrubDone c) s =
    .next (({ s with pvcs := mdel s.pvcs c, test := { s.test with views := mdel s.test.views c } } : State).setUnit c
      { s.unit c with scrub := false, busy := none }) := by
  change execPvcScrubDone c s = _
  exact if_pos h

/-! The arrival of a chunk (R183). -/

theorem chunked_cmd (r : List Byte) : (p.chunked r).cmd = p.cmd := by
  unfold Pvc.chunked
  split
  · split <;> rfl
  · rfl

theorem chunked_ent (r : List Byte) : (p.chunked r).ent = r := by
  unfold Pvc.chunked
  split
  · split <;> rfl
  · rfl

theorem chunked_done {r : List Byte} {d : R5} {off : Nat} (h : p.stall = some (.ent d off)) (hlen : off + 32 ≤ r.length) :
    (p.chunked r).stall = none := by
  simp only [Pvc.chunked, h, if_pos hlen]
  rfl

theorem chunked_else {r : List Byte} (h : ∀ d off, p.stall ≠ some (.ent d off)) : (p.chunked r).stall = p.stall := by
  unfold Pvc.chunked
  split
  · next d off hstall => exact absurd hstall (h d off)
  · rfl

/-- A run that a chunk served waits for no more of the stream. -/
theorem chunked_served {r : List Byte} (h : ∀ d off, p.stall = some (.ent d off) → off + 32 ≤ r.length) (d : R5) (off : Nat) :
    (p.chunked r).stall ≠ some (.ent d off) := by
  intro hwait
  by_cases hent : ∃ d' off', p.stall = some (.ent d' off')
  · obtain ⟨d', off', hstall⟩ := hent
    rw [chunked_done hstall (h d' off' hstall)] at hwait
    contradiction
  · push Not at hent
    exact hent d off ((chunked_else hent).symm.trans hwait)

/-- The stream of a command after its granted chunk has arrived. -/
def Cmd.streamed (k : Cmd) : List Byte := k.rand ++ k.chunk.flatten.take (min 64 (4096 - k.stream))

/-- What a run sees of the stream of a command. -/
def Pvc.sees (p : Pvc) (id : Nat) (r : List Byte) : Pvc := if p.cmd = id then p.chunked r else p

theorem sees_cmd (id : Nat) (r : List Byte) : (p.sees id r).cmd = p.cmd := by
  unfold Pvc.sees
  split
  · exact chunked_cmd r
  · rfl

theorem exec_chunkArrival {id : Nat} {k : Cmd} (hk : mget s.cmds id = some k) (hchunk : k.chunk ≠ [])
    (hserved : ∀ y ∈ s.pvcs, ∀ d off, y.2.cmd = id → y.2.stall = some (.ent d off) → off + 32 ≤ k.streamed.length) :
    exec (.entChunkArrival id) s = .next { (s.setCmd id { k with chunk := [], rand := k.streamed }).incF Reg.NRG_OUT 31 0 k.chunk.length with
      pvcs := s.pvcs.map (fun y => (y.1, y.2.sees id k.streamed)) } := by
  change execEntChunkArrival id s = _
  have hmap : (fun y : Nat × Pvc => if y.2.cmd = id then (y.1, y.2.chunked k.streamed) else y) = fun y => (y.1, y.2.sees id k.streamed) := by
    funext y
    unfold Pvc.sees
    split <;> rfl
  -- no run of the command waits for more
  have hnone : ∀ y ∈ s.pvcs.map (fun y => (y.1, y.2.sees id k.streamed)), y.2.cmd = id → ∀ d off, y.2.stall ≠ some (.ent d off) := by
    intro y hy hcmd d off
    obtain ⟨z, hz, rfl⟩ := List.mem_map.mp hy
    have hzcmd : z.2.cmd = id := (sees_cmd id k.streamed).symm.trans hcmd
    have hsees : z.2.sees id k.streamed = z.2.chunked k.streamed := if_pos hzcmd
    rw [hsees]
    exact chunked_served (fun d' off' => hserved z hz d' off' hzcmd) d off
  have hstream : k.rand ++ k.chunk.flatten.take (Nat.min 64 (4096 - k.stream)) = k.streamed := rfl
  simp only [execEntChunkArrival, hk, hstream, State.incF_pvcs, State.setCmd_pvcs]
  rw [if_neg (by simpa using hchunk), hmap]
  refine congrArg Host.Outcome.next (if_neg fun hmore => ?_)
  obtain ⟨y, hy, hwait⟩ := List.any_eq_true.mp hmore
  obtain ⟨hcmd, hent⟩ := Bool.and_eq_true_iff.mp hwait
  split at hent
  · next d off hstall => exact hnone y hy (beq_iff_eq.mp hcmd) d off hstall
  · contradiction

end

/-- Settles O24: each event by what its run waits for. -/
theorem clusterEvents : Obligations.ClusterEvents := by
  unfold Obligations.ClusterEvents
  intro s c cl p t hp x free
  refine ⟨fun us rate hstall hq hn => ?_, fun us rate hstall hq hn => ?_, fun hq hn => ?_, fun hq hn => ?_, fun hstall hm => ?_,
    fun aux off data hstall => ?slide, fun dst l sec code hstall => ?kld, fun k hk hchunk => ?chunk, fun hlive hvalid => ?_, fun hlive => ?_,
    fun hscrub => ?scrub⟩
  · exact (exec_spongeGrant hp hstall hq).trans (if_pos hn)
  · exact (exec_spongeGrant hp hstall hq).trans (if_neg (Nat.not_le.mpr hn))
  · exact (exec_sramGrant hp hq).trans (if_pos hn)
  · exact (exec_sramGrant hp hq).trans (if_neg (Nat.not_le.mpr hn))
  · exact exec_maskResume hp hstall hm
  · rw [exec_slideRefill hp hstall]
    cases aux <;> rfl
  case kld =>
    refine ⟨fun h par hcode hkey => ?_, fun hkey => ?_⟩
    · subst hcode
      exact exec_kldDelivered_uncached hp hstall hkey
    · cases code with
      | none => exact ⟨_, _, exec_kldDelivered hp hstall, mget_mput_same _ _ _, kldDone_frame dst l⟩
      | some code => exact ⟨_, _, exec_kldDelivered_cached hp hstall (hkey _ _ rfl), mget_mput_same _ _ _, kldDone_frame dst l⟩
  case chunk =>
    intro r hserved
    have hsees : p.sees p.cmd k.streamed = p.chunked k.streamed := if_pos rfl
    refine ⟨_, p.chunked k.streamed, exec_chunkArrival hk hchunk hserved, mget_mput_same _ _ _, ?_, chunked_ent _, fun d off hstall => ?_⟩
    · rw [← hsees]
      exact (mget_map_snd (fun q => Pvc.sees q p.cmd k.streamed) s.pvcs c).trans (congrArg (Option.map _) hp)
    · exact chunked_done hstall (hserved (c, p) (mem_of_mget hp) d off rfl hstall)
  · exact exec_validationTimeout hp hlive hvalid
  · exact exec_watchdog hp hlive
  case scrub =>
    refine ⟨_, exec_scrubDone hscrub, mget_mdel_same _ _, ?_, ?_, ?_, mget_mdel_same _ _, fun k hk => mget_mdel_other _ _ _ hk⟩
    all_goals rw [unit_setUnit_same]

end Sys2Proof.Machine
end

section
/-!
SUPPORT. Words of the vector instruction set: the fields of a word of each format, and the word that given fields make (spec file 07, R196).
-/
namespace Sys2Proof
open Sys2Proof.Machine

/-! Bits of joined vectors. -/

theorem extractLsb'_append_high {v w k n : Nat} (x : BitVec v) (y : BitVec w) (h : w ≤ k) :
    (x ++ y).extractLsb' k n = x.extractLsb' (k - w) n := by
  rw [BitVec.extractLsb'_append_eq_ite, dif_neg (Nat.not_lt.mpr h)]

theorem extractLsb'_append_low {v w k n : Nat} (x : BitVec v) (y : BitVec w) (h : k + n ≤ w) :
    (x ++ y).extractLsb' k n = y.extractLsb' k n := by
  ext i hi
  simp only [BitVec.getElem_extractLsb', BitVec.getLsbD_append]
  exact if_pos (by omega)

theorem ofBool_getLsbD (w : Word) (k : Nat) : BitVec.ofBool (w.getLsbD k) = w.extractLsb' k 1 := by
  ext i hi
  obtain rfl : i = 0 := by omega
  simp

/-! The fields of a word that a format makes. -/

section
variable (maj : BitVec 6) (d a b : R5) (p : P3) (l e : Bool)

@[simp] theorem fields_wSR (func : BitVec 11) : ifMajor (wSR maj d a b func) = maj ∧ ifD (wSR maj d a b func) = d ∧
    ifA (wSR maj d a b func) = a ∧ ifB (wSR maj d a b func) = b ∧ ifFunc11 (wSR maj d a b func) = func := by
  unfold ifMajor ifD ifA ifB ifFunc11 wSR
  simp (disch := decide) only [extractLsb'_append_high, extractLsb'_append_low, -Nat.reduceAdd]
  simp

@[simp] theorem fields_wSI (imm : BitVec 16) : ifMajor (wSI maj d a imm) = maj ∧ ifD (wSI maj d a imm) = d ∧ ifA (wSI maj d a imm) = a ∧
    ifImm16 (wSI maj d a imm) = imm := by
  unfold ifMajor ifD ifA ifImm16 wSI
  simp (disch := decide) only [extractLsb'_append_high, extractLsb'_append_low, -Nat.reduceAdd]
  simp

@[simp] theorem fields_wJ (off : BitVec 26) : ifMajor (wJ maj off) = maj ∧ ifOff26 (wJ maj off) = off := by
  unfold ifMajor ifOff26 wJ
  simp (disch := decide) only [extractLsb'_append_high, extractLsb'_append_low, -Nat.reduceAdd]
  simp

@[simp] theorem fields_wV (func : BitVec 6) : ifMajor (wV maj d a b p l e func) = maj ∧ ifD (wV maj d a b p l e func) = d ∧
    ifA (wV maj d a b p l e func) = a ∧ ifB (wV maj d a b p l e func) = b ∧ ifPV (wV maj d a b p l e func) = p ∧
    ifBit (wV maj d a b p l e func) 7 = l ∧ ifBit (wV maj d a b p l e func) 6 = e ∧ ifFunc6 (wV maj d a b p l e func) = func := by
  unfold ifMajor ifD ifA ifB ifPV ifBit ifFunc6 wV
  simp (disch := decide) only [extractLsb'_append_high, extractLsb'_append_low, -Nat.reduceAdd, BitVec.getLsbD_append]
  simp

@[simp] theorem fields_wVI (func : BitVec 3) (imm : BitVec 8) : ifMajor (wVI maj d a p l e func imm) = maj ∧
    ifD (wVI maj d a p l e func imm) = d ∧ ifA (wVI maj d a p l e func imm) = a ∧ ifPI (wVI maj d a p l e func imm) = p ∧
    ifBit (wVI maj d a p l e func imm) 12 = l ∧ ifBit (wVI maj d a p l e func imm) 11 = e ∧ ifFunc3 (wVI maj d a p l e func imm) = func ∧
    ifImm8 (wVI maj d a p l e func imm) = imm := by
  unfold ifMajor ifD ifA ifPI ifBit ifFunc3 ifImm8 wVI
  simp (disch := decide) only [extractLsb'_append_high, extractLsb'_append_low, -Nat.reduceAdd, BitVec.getLsbD_append]
  simp

@[simp] theorem fields_wM (off : BitVec 11) : ifMajor (wM maj d a p l e off) = maj ∧ ifD (wM maj d a p l e off) = d ∧
    ifA (wM maj d a p l e off) = a ∧ ifPI (wM maj d a p l e off) = p ∧ ifBit (wM maj d a p l e off) 12 = l ∧
    ifBit (wM maj d a p l e off) 11 = e ∧ ifOff11 (wM maj d a p l e off) = off := by
  unfold ifMajor ifD ifA ifPI ifBit ifOff11 wM
  simp (disch := decide) only [extractLsb'_append_high, extractLsb'_append_low, -Nat.reduceAdd, BitVec.getLsbD_append]
  simp

end

/-! A word is what its fields make, in each format. -/

theorem glue_fields {w : Word} {hi lo m n : Nat} (h : hi = lo + n) : w.extractLsb' hi m ++ w.extractLsb' lo n = w.extractLsb' lo (m + n) :=
  BitVec.extractLsb'_append_extractLsb'_eq_extractLsb' h

theorem wSR_fields (w : Word) : wSR (ifMajor w) (ifD w) (ifA w) (ifB w) (ifFunc11 w) = w := by
  unfold wSR ifMajor ifD ifA ifB ifFunc11
  rw [glue_fields (show 26 = 21 + 5 from rfl), glue_fields (show 21 = 16 + 5 from rfl), glue_fields (show 16 = 11 + 5 from rfl),
    glue_fields (show 11 = 0 + 11 from rfl)]
  exact BitVec.extractLsb'_eq_self

theorem wSI_fields (w : Word) : wSI (ifMajor w) (ifD w) (ifA w) (ifImm16 w) = w := by
  unfold wSI ifMajor ifD ifA ifImm16
  rw [glue_fields (show 26 = 21 + 5 from rfl), glue_fields (show 21 = 16 + 5 from rfl), glue_fields (show 16 = 0 + 16 from rfl)]
  exact BitVec.extractLsb'_eq_self

theorem wJ_fields (w : Word) : wJ (ifMajor w) (ifOff26 w) = w := by
  unfold wJ ifMajor ifOff26
  rw [glue_fields (show 26 = 0 + 26 from rfl)]
  exact BitVec.extractLsb'_eq_self

theorem wV_fields (w : Word) : wV (ifMajor w) (ifD w) (ifA w) (ifB w) (ifPV w) (ifBit w 7) (ifBit w 6) (ifFunc6 w) = w := by
  unfold wV ifMajor ifD ifA ifB ifPV ifBit ifFunc6
  rw [ofBool_getLsbD, ofBool_getLsbD]
  rw [glue_fields (show 26 = 21 + 5 from rfl), glue_fields (show 21 = 16 + 5 from rfl), glue_fields (show 16 = 11 + 5 from rfl),
    glue_fields (show 11 = 8 + 3 from rfl), glue_fields (show 8 = 7 + 1 from rfl), glue_fields (show 7 = 6 + 1 from rfl),
    glue_fields (show 6 = 0 + 6 from rfl)]
  exact BitVec.extractLsb'_eq_self

theorem wVI_fields (w : Word) : wVI (ifMajor w) (ifD w) (ifA w) (ifPI w) (ifBit w 12) (ifBit w 11) (ifFunc3 w) (ifImm8 w) = w := by
  unfold wVI ifMajor ifD ifA ifPI ifBit ifFunc3 ifImm8
  rw [ofBool_getLsbD, ofBool_getLsbD]
  rw [glue_fields (show 26 = 21 + 5 from rfl), glue_fields (show 21 = 16 + 5 from rfl), glue_fields (show 16 = 13 + 3 from rfl),
    glue_fields (show 13 = 12 + 1 from rfl), glue_fields (show 12 = 11 + 1 from rfl), glue_fields (show 11 = 8 + 3 from rfl),
    glue_fields (show 8 = 0 + 8 from rfl)]
  exact BitVec.extractLsb'_eq_self

theorem wM_fields (w : Word) : wM (ifMajor w) (ifD w) (ifA w) (ifPI w) (ifBit w 12) (ifBit w 11) (ifOff11 w) = w := by
  unfold wM ifMajor ifD ifA ifPI ifBit ifOff11
  rw [ofBool_getLsbD, ofBool_getLsbD]
  rw [glue_fields (show 26 = 21 + 5 from rfl), glue_fields (show 21 = 16 + 5 from rfl), glue_fields (show 16 = 13 + 3 from rfl),
    glue_fields (show 13 = 12 + 1 from rfl), glue_fields (show 12 = 11 + 1 from rfl), glue_fields (show 11 = 0 + 11 from rfl)]
  exact BitVec.extractLsb'_eq_self

end Sys2Proof
end

section
/-!
SUPPORT. The decoder and the encoder of the vector instruction set answer each other (spec file 07, R195 to R197, R216).
-/
namespace Sys2Proof
open Sys2Proof.Machine

/-! Decoding the word that a format makes: it is enough to know its major opcode and func. -/

section
variable {c : Nat} {maj : BitVec 6}

theorem decode_wSR {i : R5 → R5 → R5 → Instr} {func : BitVec 11}
    (h : ∀ w, ifMajor w = maj → ifFunc11 w = func → decodePvc c w = some (i (ifD w) (ifA w) (ifB w)))
    (d a b : R5) : decodePvc c (wSR maj d a b func) = some (i d a b) := by
  obtain ⟨hm, hd, ha, hb, hf⟩ := fields_wSR maj d a b func
  rw [h _ hm hf, hd, ha, hb]

theorem decode_wSI {i : R5 → R5 → BitVec 16 → Instr}
    (h : ∀ w, ifMajor w = maj → decodePvc c w = some (i (ifD w) (ifA w) (ifImm16 w)))
    (d a : R5) (imm : BitVec 16) : decodePvc c (wSI maj d a imm) = some (i d a imm) := by
  obtain ⟨hm, hd, ha, hi⟩ := fields_wSI maj d a imm
  rw [h _ hm, hd, ha, hi]

theorem decode_wJ {i : BitVec 26 → Instr}
    (h : ∀ w, ifMajor w = maj → decodePvc c w = some (i (ifOff26 w)))
    (off : BitVec 26) : decodePvc c (wJ maj off) = some (i off) := by
  obtain ⟨hm, ho⟩ := fields_wJ maj off
  rw [h _ hm, ho]

theorem decode_wV {i : R5 → R5 → R5 → P3 → Bool → Bool → Instr} {func : BitVec 6}
    (h : ∀ w, ifMajor w = maj → ifFunc6 w = func → decodePvc c w = some (i (ifD w) (ifA w) (ifB w) (ifPV w) (ifBit w 7) (ifBit w 6)))
    (d a b : R5) (p : P3) (l e : Bool) : decodePvc c (wV maj d a b p l e func) = some (i d a b p l e) := by
  obtain ⟨hm, hd, ha, hb, hp, hl, he, hf⟩ := fields_wV maj d a b p l e func
  rw [h _ hm hf, hd, ha, hb, hp, hl, he]

theorem decode_wVI {i : R5 → R5 → P3 → Bool → Bool → BitVec 8 → Instr} {func : BitVec 3}
    (h : ∀ w, ifMajor w = maj → ifFunc3 w = func → decodePvc c w = some (i (ifD w) (ifA w) (ifPI w) (ifBit w 12) (ifBit w 11) (ifImm8 w)))
    (d a : R5) (p : P3) (l e : Bool) (imm : BitVec 8) : decodePvc c (wVI maj d a p l e func imm) = some (i d a p l e imm) := by
  obtain ⟨hm, hd, ha, hp, hl, he, hf, hi⟩ := fields_wVI maj d a p l e func imm
  rw [h _ hm hf, hd, ha, hp, hl, he, hi]

theorem decode_wM {i : R5 → R5 → P3 → Bool → Bool → BitVec 11 → Instr}
    (h : ∀ w, ifMajor w = maj → decodePvc c w = some (i (ifD w) (ifA w) (ifPI w) (ifBit w 12) (ifBit w 11) (ifOff11 w)))
    (d a : R5) (p : P3) (l e : Bool) (off : BitVec 11) : decodePvc c (wM maj d a p l e off) = some (i d a p l e off) := by
  obtain ⟨hm, hd, ha, hp, hl, he, ho⟩ := fields_wM maj d a p l e off
  rw [h _ hm, hd, ha, hp, hl, he, ho]

end

/-- A two-bit field names one of four modulus registers. -/
theorem quarters (m : BitVec 2) : m = 0 ∨ m = 1 ∨ m = 2 ∨ m = 3 := by decide +revert

/-- The func of a VREJ holds its mode, its unit, a zero bit and its modulus register (R215). -/
theorem vrej_func (w : Word) : w.extractLsb' 4 2 ++ BitVec.ofBool (ifBit w 3) ++ BitVec.ofBool (ifBit w 2) ++ w.extractLsb' 0 2 = ifFunc6 w := by
  unfold ifBit ifFunc6
  rw [ofBool_getLsbD, ofBool_getLsbD]
  rw [glue_fields (show 4 = 3 + 1 from rfl), glue_fields (show 3 = 2 + 1 from rfl), glue_fields (show 2 = 0 + 2 from rfl)]

theorem vrej_fields {w : Word} {mode m : BitVec 2} {u z : Bool} (h : ifFunc6 w = mode ++ BitVec.ofBool u ++ BitVec.ofBool z ++ m) :
    w.extractLsb' 4 2 = mode ∧ ifBit w 3 = u ∧ ifBit w 2 = z ∧ w.extractLsb' 0 2 = m := by
  have hfield : ∀ k n, k + n ≤ 6 → w.extractLsb' k n = (ifFunc6 w).extractLsb' k n := fun k n hk => (BitVec.extractLsb'_extractLsb'_of_le hk).symm
  have hbit : ∀ k, k < 6 → ifBit w k = (ifFunc6 w).getLsbD k := fun k hk => by simp [ifBit, ifFunc6, hk]
  rw [hfield 4 2 (by decide), hfield 0 2 (by decide), hbit 3 (by decide), hbit 2 (by decide), h]
  simp (disch := decide) only [extractLsb'_append_high, extractLsb'_append_low, -Nat.reduceAdd, BitVec.getLsbD_append]
  simp

/-- The word of an instruction decodes to it, on the core that the command names. -/
theorem decode_encode {i : Instr} {w : Word} (h : encodePvc i = some w) : ∃ c, decodePvc c w = some i := by
  cases i
  case add c d a b | sub c d a b | and c d a b | or c d a b | xor c d a b | sll c d a b | srl c d a b | sra c d a b | slt c d a b | sltu c d a b
      | mul c d a b | mulh c d a b | mulhu c d a b | min c d a b | max c d a b | minu c d a b | maxu c d a b | slli c d a b | srli c d a b
      | srai c d a b | jr c d a b =>
    cases h
    exact ⟨c, decode_wSR (fun w hm hf => by rw [decodePvc, hm]; change decMajor01 c w = _; rw [decMajor01, hf]; rfl) d a b⟩
  case addm c e m d a b | subm c e m d a b | mulm c e m d a b | mulb c e m d a b | redb c e m d a b =>
    cases h
    obtain rfl | rfl | rfl | rfl := quarters m <;> cases e
    all_goals exact ⟨c, decode_wSR (fun w hm hf => by rw [decodePvc, hm]; change decMajor01 c w = _; rw [decMajor01, hf]; rfl) d a b⟩
  case addi c d a imm | andi c d a imm | ori c d a imm | xori c d a imm | lui c d a imm | slti c d a imm | lw c d a imm | lh c d a imm
      | lhu c d a imm | lbu c d a imm | sw c d a imm | sh c d a imm | sb c d a imm | beq c d a imm | bne c d a imm | blt c d a imm
      | bge c d a imm | bltu c d a imm | bgeu c d a imm | fld c d a imm | fst c d a imm =>
    cases h
    exact ⟨c, decode_wSI (fun w hm => by rw [decodePvc, hm]; rfl) d a imm⟩
  case j c off | jal c off =>
    cases h
    exact ⟨c, decode_wJ (fun w hm => by rw [decodePvc, hm]; rfl) off⟩
  case fadd c d a b | fsub c d a b | fmul c d a b | fdiv c d a b | fsqrt c d a b | fmadd c d a b | fneg c d a b | fabs c d a b | frint c d a b
      | ffloor c d a b | fcvtFS c d a b | fcvtSF c d a b | flt c d a b | feq c d a b | fmvSLo c d a b | fmvSHi c d a b | fmvF c d a b =>
    cases h
    exact ⟨c, decode_wSR (fun w hm hf => by rw [decodePvc, hm]; change decMajor1C c w = _; rw [decMajor1C, hf]; rfl) d a b⟩
  case nop c d a b | exit c d a b | eret c d a b | valend c d a b | setlenH c d a b | setlenW c d a b | mfc c d a b | mtc c d a b
      | slide c d a b | kldP1 c d a b | kldU1 c d a b | kldP2 c d a b | kldU2 c d a b | kldC c d a b | ent c d a b | dclW c d a b | dclM c d a b
      | ctxst c d a b =>
    cases h
    exact ⟨c, decode_wSR (fun w hm hf => by rw [decodePvc, hm]; change decMajor00 c w = _; rw [decMajor00, hf]; rfl) d a b⟩
  case vadd c d a b p l e | vsub c d a b p l e | vsadd c d a b p l e | vssub c d a b p l e | vsaddu c d a b p l e | vssubu c d a b p l e
      | vmul c d a b p l e | vmulh c d a b p l e | vmulhu c d a b p l e | vmulhr c d a b p l e | vqdmulhr c d a b p l e | vand c d a b p l e
      | vor c d a b p l e | vxor c d a b p l e | vandn c d a b p l e | vshl c d a b p l e | vshr c d a b p l e | vsra c d a b p l e
      | vshrr c d a b p l e | vshrru c d a b p l e | vmin c d a b p l e | vmax c d a b p l e | vminu c d a b p l e | vmaxu c d a b p l e
      | vsel c d a b p l e | vmov c d a b p l e | vsplat c d a b p l e | vext c d a b p l e | vins c d a b p l e | vclmul c d a b p l e
      | vgfmul c d a b p l e | va2b c d a b p l e | vb2a c d a b p l e =>
    cases h
    exact ⟨c, decode_wV (fun w hm hf => by rw [decodePvc, hm]; change decMajor20 c w = _; rw [decMajor20, hf]; rfl) d a b p l e⟩
  case vb2aq c m d a b p l e =>
    cases h
    obtain rfl | rfl | rfl | rfl := quarters m
    all_goals exact ⟨c, decode_wV (fun w hm hf => by rw [decodePvc, hm]; change decMajor20 c w = _; rw [decMajor20, hf]; rfl) d a b p l e⟩
  case vaddi c d a p l e imm | vshli c d a p l e imm | vshri c d a p l e imm | vsrai c d a p l e imm | vshrri c d a p l e imm
      | vshrrui c d a p l e imm | vsplati c d a p l e imm | vandi c d a p l e imm =>
    cases h
    exact ⟨c, decode_wVI (fun w hm hf => by rw [decodePvc, hm]; change decMajor21 c w = _; rw [decMajor21, hf]; rfl) d a p l e imm⟩
  case vcmpEq c d a b p l e | vcmpNe c d a b p l e | vcmpLt c d a b p l e | vcmpGe c d a b p l e | vcmpLtu c d a b p l e | vcmpGeu c d a b p l e =>
    cases h
    exact ⟨c, decode_wV (fun w hm hf => by rw [decodePvc, hm]; change decMajor22 c w = _; rw [decMajor22, hf]; rfl) d a b p l e⟩
  case vaddm c m d a b p l e | vsubm c m d a b p l e | vnegm c m d a b p l e | vmulm c m d a b p l e | vmulb c m d a b p l e
      | vredb c m d a b p l e | vredm c m d a b p l e | vreds c m d a b p l e | vcent c m d a b p l e | bfct c m d a b p l e
      | bfgs c m d a b p l e =>
    cases h
    obtain rfl | rfl | rfl | rfl := quarters m
    all_goals exact ⟨c, decode_wV (fun w hm hf => by rw [decodePvc, hm]; change decMajor23 c w = _; rw [decMajor23, hf]; rfl) d a b p l e⟩
  case vcompr c m d a p l e imm | vdecompr c m d a p l e imm =>
    cases h
    obtain rfl | rfl | rfl | rfl := quarters m
    all_goals exact ⟨c, decode_wVI (fun w hm hf => by rw [decodePvc, hm]; change decMajor24 c w = _; rw [decMajor24, hf]; rfl) d a p l e imm⟩
  case vpack c d a p l e imm | vunpack c d a p l e imm =>
    cases h
    exact ⟨c, decode_wVI (fun w hm hf => by rw [decodePvc, hm]; change decMajor25 c w = _; rw [decMajor25, hf]; rfl) d a p l e imm⟩
  case pand c d a b p l e | por c d a b p l e | pxor c d a b p l e | pandn c d a b p l e | plen c d a b p l e | pcnt c d a b p l e =>
    cases h
    exact ⟨c, decode_wV (fun w hm hf => by rw [decodePvc, hm]; change decMajor26 c w = _; rw [decMajor26, hf]; rfl) d a b p l e⟩
  case vrej c mode u z m d a b p l e =>
    cases h
    refine ⟨c, decode_wV (fun w hm hf => ?_) d a b p l e⟩
    obtain ⟨hmode, hu, hz, hq⟩ := vrej_fields hf
    rw [decodePvc, hm, hmode, hu, hz, hq]
    rfl
  case vld c d a p l e off | vst c d a p l e off =>
    cases h
    exact ⟨c, decode_wM (fun w hm => by rw [decodePvc, hm]; rfl) d a p l e off⟩
  case vldb c d a b p l e =>
    cases h
    exact ⟨c, decode_wV (fun w hm hf => by rw [decodePvc, hm]; change decMajor2A c w = _; rw [decMajor2A, hf]; rfl) d a b p l e⟩
  case vstb c d a b p l e =>
    cases h
    exact ⟨c, decode_wV (fun w hm hf => by rw [decodePvc, hm]; change decMajor2B c w = _; rw [decMajor2B, hf]; rfl) d a b p l e⟩
  case vgath c d a b p l e =>
    cases h
    exact ⟨c, decode_wV (fun w hm hf => by rw [decodePvc, hm]; change decMajor2C c w = _; rw [decMajor2C, hf]; rfl) d a b p l e⟩
  case vscat c d a b p l e =>
    cases h
    exact ⟨c, decode_wV (fun w hm hf => by rw [decodePvc, hm]; change decMajor2D c w = _; rw [decMajor2D, hf]; rfl) d a b p l e⟩
  case sclaim c d a b p l e | sclaim2 c d a b p l e | sabs c d a b p l e | sabsb c d a b p l e | sfin c d a b p l e | ssqz c d a b p l e
      | srel c d a b p l e =>
    cases h
    exact ⟨c, decode_wV (fun w hm hf => by rw [decodePvc, hm]; change decMajor30 c w = _; rw [decMajor30, hf]; rfl) d a b p l e⟩
  all_goals cases h

/-! Encoding what a word decodes to: the word again. -/

section
variable {c : Nat} {w : Word} {i : Instr} {maj : BitVec 6} (hm : (ifMajor w).toNat = maj.toNat)
include hm

theorem wSI_of : wSI maj (ifD w) (ifA w) (ifImm16 w) = w := by
  rw [← BitVec.eq_of_toNat_eq hm, wSI_fields]

theorem wJ_of : wJ maj (ifOff26 w) = w := by
  rw [← BitVec.eq_of_toNat_eq hm, wJ_fields]

theorem wM_of : wM maj (ifD w) (ifA w) (ifPI w) (ifBit w 12) (ifBit w 11) (ifOff11 w) = w := by
  rw [← BitVec.eq_of_toNat_eq hm, wM_fields]

theorem wSR_of {func : BitVec 11} (hf : (ifFunc11 w).toNat = func.toNat) : wSR maj (ifD w) (ifA w) (ifB w) func = w := by
  rw [← BitVec.eq_of_toNat_eq hm, ← BitVec.eq_of_toNat_eq hf, wSR_fields]

theorem wV_of {func : BitVec 6} (hf : (ifFunc6 w).toNat = func.toNat) :
    wV maj (ifD w) (ifA w) (ifB w) (ifPV w) (ifBit w 7) (ifBit w 6) func = w := by
  rw [← BitVec.eq_of_toNat_eq hm, ← BitVec.eq_of_toNat_eq hf, wV_fields]

theorem wVI_of {func : BitVec 3} (hf : (ifFunc3 w).toNat = func.toNat) :
    wVI maj (ifD w) (ifA w) (ifPI w) (ifBit w 12) (ifBit w 11) func (ifImm8 w) = w := by
  rw [← BitVec.eq_of_toNat_eq hm, ← BitVec.eq_of_toNat_eq hf, wVI_fields]

end

section
variable {c : Nat} {w : Word} {i : Instr}

theorem encode_decMajor00 (hm : (ifMajor w).toNat = 0x00) (h : decMajor00 c w = some i) : encodePvc i = some w := by
  unfold decMajor00 at h
  split at h <;> cases h
  all_goals exact congrArg some (wSR_of hm ‹_›)

theorem encode_decMajor01 (hm : (ifMajor w).toNat = 0x01) (h : decMajor01 c w = some i) : encodePvc i = some w := by
  unfold decMajor01 at h
  split at h <;> cases h
  all_goals exact congrArg some (wSR_of hm ‹_›)

theorem encode_decMajor1C (hm : (ifMajor w).toNat = 0x1C) (h : decMajor1C c w = some i) : encodePvc i = some w := by
  unfold decMajor1C at h
  split at h <;> cases h
  all_goals exact congrArg some (wSR_of hm ‹_›)

theorem encode_decMajor20 (hm : (ifMajor w).toNat = 0x20) (h : decMajor20 c w = some i) : encodePvc i = some w := by
  unfold decMajor20 at h
  split at h <;> cases h
  all_goals exact congrArg some (wV_of hm ‹_›)

theorem encode_decMajor21 (hm : (ifMajor w).toNat = 0x21) (h : decMajor21 c w = some i) : encodePvc i = some w := by
  unfold decMajor21 at h
  split at h <;> cases h
  all_goals exact congrArg some (wVI_of hm ‹_›)

theorem encode_decMajor22 (hm : (ifMajor w).toNat = 0x22) (h : decMajor22 c w = some i) : encodePvc i = some w := by
  unfold decMajor22 at h
  split at h <;> cases h
  all_goals exact congrArg some (wV_of hm ‹_›)

theorem encode_decMajor23 (hm : (ifMajor w).toNat = 0x23) (h : decMajor23 c w = some i) : encodePvc i = some w := by
  unfold decMajor23 at h
  split at h <;> cases h
  all_goals exact congrArg some (wV_of hm ‹_›)

theorem encode_decMajor24 (hm : (ifMajor w).toNat = 0x24) (h : decMajor24 c w = some i) : encodePvc i = some w := by
  unfold decMajor24 at h
  split at h <;> cases h
  all_goals exact congrArg some (wVI_of hm ‹_›)

theorem encode_decMajor25 (hm : (ifMajor w).toNat = 0x25) (h : decMajor25 c w = some i) : encodePvc i = some w := by
  unfold decMajor25 at h
  split at h <;> cases h
  all_goals exact congrArg some (wVI_of hm ‹_›)

theorem encode_decMajor26 (hm : (ifMajor w).toNat = 0x26) (h : decMajor26 c w = some i) : encodePvc i = some w := by
  unfold decMajor26 at h
  split at h <;> cases h
  all_goals exact congrArg some (wV_of hm ‹_›)

theorem encode_decMajor2A (hm : (ifMajor w).toNat = 0x2A) (h : decMajor2A c w = some i) : encodePvc i = some w := by
  unfold decMajor2A at h
  split at h <;> cases h
  all_goals exact congrArg some (wV_of hm ‹_›)

theorem encode_decMajor2B (hm : (ifMajor w).toNat = 0x2B) (h : decMajor2B c w = some i) : encodePvc i = some w := by
  unfold decMajor2B at h
  split at h <;> cases h
  all_goals exact congrArg some (wV_of hm ‹_›)

theorem encode_decMajor2C (hm : (ifMajor w).toNat = 0x2C) (h : decMajor2C c w = some i) : encodePvc i = some w := by
  unfold decMajor2C at h
  split at h <;> cases h
  all_goals exact congrArg some (wV_of hm ‹_›)

theorem encode_decMajor2D (hm : (ifMajor w).toNat = 0x2D) (h : decMajor2D c w = some i) : encodePvc i = some w := by
  unfold decMajor2D at h
  split at h <;> cases h
  all_goals exact congrArg some (wV_of hm ‹_›)

theorem encode_decMajor30 (hm : (ifMajor w).toNat = 0x30) (h : decMajor30 c w = some i) : encodePvc i = some w := by
  unfold decMajor30 at h
  split at h <;> cases h
  all_goals exact congrArg some (wV_of hm ‹_›)

/-- A word that decodes is the word of what it decodes to. -/
theorem encode_decode (h : decodePvc c w = some i) : encodePvc i = some w := by
  unfold decodePvc at h
  split at h
  case h_1 hm => exact encode_decMajor00 hm h
  case h_2 hm => exact encode_decMajor01 hm h
  case h_26 hm => exact encode_decMajor1C hm h
  case h_27 hm => exact encode_decMajor20 hm h
  case h_28 hm => exact encode_decMajor21 hm h
  case h_29 hm => exact encode_decMajor22 hm h
  case h_30 hm => exact encode_decMajor23 hm h
  case h_31 hm => exact encode_decMajor24 hm h
  case h_32 hm => exact encode_decMajor25 hm h
  case h_33 hm => exact encode_decMajor26 hm h
  case h_37 hm => exact encode_decMajor2A hm h
  case h_38 hm => exact encode_decMajor2B hm h
  case h_39 hm => exact encode_decMajor2C hm h
  case h_40 hm => exact encode_decMajor2D hm h
  case h_41 hm => exact encode_decMajor30 hm h
  case h_22 hm | h_23 hm =>
    cases h
    exact congrArg some (wJ_of hm)
  case h_35 hm | h_36 hm =>
    cases h
    exact congrArg some (wM_of hm)
  case h_34 hm =>
    cases h
    exact congrArg some (wV_of hm (congrArg BitVec.toNat (vrej_func w).symm))
  case h_42 => cases h
  -- the other majors are the rows of format SI and B
  all_goals
    cases h
    exact congrArg some (wSI_of ‹_›)

end

/-- Settles O59, by the two directions above. -/
theorem instructionWordsDecode : Obligations.InstructionWordsDecode :=
  ⟨fun _ _ => decode_encode, fun _ _ _ => encode_decode, rfl, rfl⟩

end Sys2Proof
end

section
/-!
SUPPORT. Scalar integer and modular instructions: one issued instruction of the register or the immediate form, and the arithmetic of residues
(spec file 06, R169, R178, R181; spec file 07, R199, R201, R207).
-/
namespace Sys2Proof.Machine
open Sys2Proof

/-! The two operand forms. -/

section
variable {s : State} {c : Nat} {p : Pvc} {f : Pvc → PRes} {need : Option Share} {ty : Share} {nl : Bool} {d a b : R5} {v : Word}
variable (h : Issues s c p) (hm : MasksFlow s c)
include h hm

theorem pvcStep_sOp {g : Word → Word → Word} (hf : f p = sOp g need ty nl d a b p)
    (hv : g (p.asType (p.getS a).t (need.getD ty) (p.getS a).v) (p.asType (p.getS b).t (need.getD ty) (p.getS b).v) = v) :
    pvcStep c f s = .next (scalarNext c p d v [(p.getS a).t, (p.getS b).t] need ty nl s) := by
  rw [pvcStep_issues f h, hf, sOp_put h hm, hv]
  rfl

theorem pvcStep_sImm {g : Word → Word} (hf : f p = sImm g need ty nl d a p) (hv : g (p.asType (p.getS a).t (need.getD ty) (p.getS a).v) = v) :
    pvcStep c f s = .next (scalarNext c p d v [(p.getS a).t] need ty nl s) := by
  rw [pvcStep_issues f h, hf, sImm_put h hm, hv]
  rfl

end

/-! Comparisons and high words. -/

section
variable {α : Type} (x y : Word) (u v : α)

theorem ite_slt : (if x.slt y then u else v) = if x.toInt < y.toInt then u else v := by simp [BitVec.slt]

theorem ite_ult : (if x.ult y then u else v) = if x.toNat < y.toNat then u else v := by simp [BitVec.ult]

theorem hiWord_eq (k : Int) : hiWord k = BitVec.ofInt 32 (k / 2 ^ 32) :=
  congrArg _ ((Int.shiftRight_natCast_right k 32).trans (Int.shiftRight_eq_div_pow k 32))

end

/-- Settles O1: each instruction is one result of the register or of the immediate form, but for LUI. -/
theorem scalarResults : Obligations.ScalarResults := by
  unfold Obligations.ScalarResults
  refine ⟨fun s c p d a b h hm => ?register, fun s c p d a b imm h hm => ?immediate⟩
  case register =>
    intro A B of x y m n ts sh both i v need ty gad hi
    simp only [List.mem_cons, List.not_mem_nil, or_false, Prod.mk.injEq] at hi
    obtain ⟨rfl, rfl, rfl, rfl, rfl⟩ | ⟨rfl, rfl, rfl, rfl, rfl⟩ | ⟨rfl, rfl, rfl, rfl, rfl⟩ | ⟨rfl, rfl, rfl, rfl, rfl⟩ | ⟨rfl, rfl, rfl, rfl, rfl⟩ |
      ⟨rfl, rfl, rfl, rfl, rfl⟩ | ⟨rfl, rfl, rfl, rfl, rfl⟩ | ⟨rfl, rfl, rfl, rfl, rfl⟩ | ⟨rfl, rfl, rfl, rfl, rfl⟩ | ⟨rfl, rfl, rfl, rfl, rfl⟩ |
      ⟨rfl, rfl, rfl, rfl, rfl⟩ | ⟨rfl, rfl, rfl, rfl, rfl⟩ | ⟨rfl, rfl, rfl, rfl, rfl⟩ | ⟨rfl, rfl, rfl, rfl, rfl⟩ | ⟨rfl, rfl, rfl, rfl, rfl⟩ |
      ⟨rfl, rfl, rfl, rfl, rfl⟩ | ⟨rfl, rfl, rfl, rfl, rfl⟩ := hi
    -- ADD to SRA, then SLT, SLTU, MUL, MULH, MULHU, MIN to MAXU
    iterate 8 · exact pvcStep_sOp h hm rfl rfl
    · exact pvcStep_sOp h hm rfl (ite_slt x y 1 0)
    · exact pvcStep_sOp h hm rfl (ite_ult x y 1 0)
    · exact pvcStep_sOp h hm rfl rfl
    · exact pvcStep_sOp h hm rfl (hiWord_eq _)
    · exact pvcStep_sOp h hm rfl (hiWord_eq _)
    · exact pvcStep_sOp h hm rfl (ite_slt m n m n)
    · exact pvcStep_sOp h hm rfl (ite_slt m n n m)
    · exact pvcStep_sOp h hm rfl (ite_ult m n m n)
    · exact pvcStep_sOp h hm rfl (ite_ult m n n m)
  case immediate =>
    intro x m ts se ze A B
    refine ⟨fun i v need ty gad hi => ?results, ?lui, fun ha => ?luiField⟩
    case results =>
      simp only [List.mem_cons, List.not_mem_nil, or_false, Prod.mk.injEq] at hi
      obtain ⟨rfl, rfl, rfl, rfl, rfl⟩ | ⟨rfl, rfl, rfl, rfl, rfl⟩ | ⟨rfl, rfl, rfl, rfl, rfl⟩ | ⟨rfl, rfl, rfl, rfl, rfl⟩ |
        ⟨rfl, rfl, rfl, rfl, rfl⟩ | ⟨rfl, rfl, rfl, rfl, rfl⟩ | ⟨rfl, rfl, rfl, rfl, rfl⟩ | ⟨rfl, rfl, rfl, rfl, rfl⟩ := hi
      -- ADDI to XORI, SLTI, then the shifts
      iterate 4 · exact pvcStep_sImm h hm rfl rfl
      · exact pvcStep_sImm h hm rfl (ite_slt x se 1 0)
      iterate 3 · exact pvcStep_sImm h hm rfl rfl
    case lui => exact pvcStep_completes h (legal_of rfl) (by simp [h.2.1]) (by simp)
    case luiField => exact pvcStep_faults h (legal_not (by simpa using ha))

/-! Residues. -/

section
variable {q : Nat}

/-- (q + 1) / 2 is the inverse of 2 modulo an odd q. -/
theorem invPow2_spec (hq : q % 2 = 1) (w : Nat) : invPow2 w q * 2 ^ w ≡ 1 [MOD q] := by
  have hhalf : (q + 1) / 2 * 2 ≡ 1 [MOD q] := by
    rw [Nat.div_mul_cancel (by omega)]
    exact Nat.add_modEq_left
  calc invPow2 w q * 2 ^ w ≡ ((q + 1) / 2) ^ w * 2 ^ w [MOD q] := (Nat.mod_modEq _ _).mul_right _
    _ = ((q + 1) / 2 * 2) ^ w := (Nat.mul_pow _ _ _).symm
    _ ≡ 1 ^ w [MOD q] := hhalf.pow w
    _ = 1 := Nat.one_pow w

/-- A product with the inverse of 2^w: times 2^w it is the number again. -/
theorem mul_invPow2_mod (hq : q % 2 = 1) (w v : Nat) : v * invPow2 w q % q * 2 ^ w % q = v % q :=
  calc v * invPow2 w q % q * 2 ^ w ≡ v * invPow2 w q * 2 ^ w [MOD q] := (Nat.mod_modEq _ _).mul_right _
    _ = v * (invPow2 w q * 2 ^ w) := Nat.mul_assoc _ _ _
    _ ≡ v * 1 [MOD q] := (invPow2_spec hq w).mul_left v
    _ = v := Nat.mul_one v

/-- Differences of residues as the model computes them. -/
theorem cast_sub_mod (hq : 0 < q) (x y : Nat) : (((x + (q - y % q)) % q : Nat) : Int) = ((x : Int) - y) % q := by
  have hle : y % q ≤ q := (Nat.mod_lt y hq).le
  push_cast [Nat.cast_sub hle]
  rw [show (x : Int) + (q - y % q) = x - y % q + q by ring, Int.add_emod_right, Int.sub_emod, Int.emod_emod, ← Int.sub_emod]

variable {p : Pvc} {m : BitVec 2} {e : Bool}

/-- A QM register serves a width where it is set and its modulus fits (R169). -/
theorem qOk_iff : p.qOk m (eWidth e) = true ↔ p.q m ≠ 0 ∧ (e = false → p.q m < 2 ^ 16) := by
  cases e <;> simp [Pvc.qOk, eWidth]

theorem qOk_odd (hq : p.q m % 2 = 1) (hfit : e = false → p.q m < 2 ^ 16) : p.qOk m (eWidth e) = true :=
  qOk_iff.mpr ⟨by omega, hfit⟩

theorem qOk_not (hbad : p.q m = 0 ∨ (e = false ∧ 2 ^ 16 ≤ p.q m)) : p.qOk m (eWidth e) = false := by
  rw [← Bool.not_eq_true, qOk_iff]
  rintro ⟨hset, hfit⟩
  obtain hbad | ⟨he, hbad⟩ := hbad
  · exact hset hbad
  · exact absurd (hfit he) (Nat.not_lt.mpr hbad)

end

/-! The scalar modular form. -/

section
variable {p : Pvc} {m : BitVec 2} {e one nl : Bool} {d a b : R5} {f : Nat → Nat → Nat → Nat → Nat}

theorem sMod_unusable (hq : p.qOk m (eWidth e) = false) : sMod f one nl e m d a b p = .fault tcIllegal p := by simp [sMod, hq]

theorem sMod_binary (hq : p.qOk m (eWidth e) = true) : sMod f false nl e m d a b p =
    sOp (fun x y => BitVec.ofNat 32 (f (eWidth e) (p.q m) (x.toNat % 2 ^ eWidth e) (y.toNat % 2 ^ eWidth e)))
      (some (.arithq m)) (.arithq m) nl d a b p := by simp [sMod, hq]

theorem sMod_unary (hq : p.qOk m (eWidth e) = true) : sMod f true nl e m d a b p =
    sImm (fun x => BitVec.ofNat 32 (f (eWidth e) (p.q m) (x.toNat % 2 ^ eWidth e) 0)) (some (.arithq m)) (.arithq m) nl d a p := by
  simp [sMod, hq]

end

/-- Settles O2: the residues by the arithmetic above, the traps by the QM register and by field b of REDB. -/
theorem scalarModularResults : Obligations.ScalarModularResults := by
  unfold Obligations.ScalarModularResults
  intro s c p e m d a b h hm q w sh x y ts out
  refine ⟨fun hq hfit => ?results, fun hbad i hi => ?unusable, fun hb => pvcStep_faults h (legal_not (by simpa using hb))⟩
  case results =>
    have hok : p.qOk m w = true := qOk_odd hq hfit
    refine ⟨?_, ⟨_, cast_sub_mod (by omega) x y, ?_⟩, ⟨_, Nat.mod_lt _ (by omega), mul_invPow2_mod hq w (x * y), ?_⟩, ?_, ?_⟩
    iterate 4 · exact pvcStep_sOp h hm (sMod_binary hok) rfl
    · exact pvcStep_sImm h hm ((legal_of rfl).trans (sMod_unary hok)) rfl
  case unusable =>
    have hok : p.qOk m w = false := qOk_not hbad
    simp only [List.mem_cons, List.not_mem_nil, or_false] at hi
    obtain rfl | rfl | rfl | rfl | rfl := hi
    iterate 4 · exact pvcStep_faults h (sMod_unusable hok)
    · exact pvcStep_faults h ((legal_of rfl).trans (sMod_unusable hok))

end Sys2Proof.Machine
end

section
/-!
SUPPORT. Branches, jumps, scalar loads and scalar stores (spec file 06, R176 to R179; spec file 07, R195, R199).
-/
namespace Sys2Proof.Machine
open Sys2Proof

/-! Branches and jumps. -/

theorem branch_tagged {f : Word → Word → Bool} {a b : R5} {off : BitVec 16} {p : Pvc} (h : (p.getS a).t.isSome ∨ (p.getS b).t.isSome) :
    branch f a b off p = .fault tcBranch p := if_pos (by simpa using h)

theorem not_slt (x y : Word) : (!x.slt y) = decide (y.toInt ≤ x.toInt) := by
  rw [BitVec.slt, ← decide_not]
  exact decide_eq_decide.mpr Int.not_lt

theorem not_ult (x y : Word) : (!x.ult y) = decide (y.toNat ≤ x.toNat) := by
  rw [BitVec.ult, ← decide_not]
  exact decide_eq_decide.mpr Nat.not_lt

/-- A jump to a target that is no multiple of 4 (R195). -/
theorem pvcStep_jumpFaults {s : State} {c : Nat} {p : Pvc} {f : Pvc → PRes} (h : Issues s c p) {t : Word} (hf : f p = .jumpFault t p) :
    pvcStep c f s = .next (takeTrap c p tcAccess 0 t 0 s) := by
  rw [pvcStep_issues f h, hf, pvcPut_jumpFault]

/-- Settles O3: the six branches by one form, then J, JAL and JR. -/
theorem branchesAndJumps : Obligations.BranchesAndJumps := by
  unfold Obligations.BranchesAndJumps
  intro s c p a b off far h x y trap
  refine ⟨fun i cond hi => ?branches, ?j, ?jal, fun ha hal => ?jr, fun ha hal => ?jrMisaligned, fun ha => ?jrTagged, fun d hbad => ?jrField⟩
  case branches =>
    have hexec : ∃ f, exec i s = pvcStep c (branch f a b off) s ∧ f x.v y.v = cond := by
      simp only [List.mem_cons, List.not_mem_nil, or_false, Prod.mk.injEq] at hi
      obtain ⟨rfl, rfl⟩ | ⟨rfl, rfl⟩ | ⟨rfl, rfl⟩ | ⟨rfl, rfl⟩ | ⟨rfl, rfl⟩ | ⟨rfl, rfl⟩ := hi
      iterate 3 · exact ⟨_, rfl, rfl⟩
      · exact ⟨_, rfl, not_slt _ _⟩
      · exact ⟨_, rfl, rfl⟩
      · exact ⟨_, rfl, not_ult _ _⟩
    obtain ⟨f, hexec, rfl⟩ := hexec
    rw [hexec]
    exact ⟨fun hx hy => by rw [pvcStep_issues _ h, branch_put h hx hy], fun ht => pvcStep_faults h (branch_tagged ht)⟩
  case j => exact pvcStep_completes h rfl h.2.1 rfl
  case jal =>
    have hstep : exec (.jal c far) s = .next (s.setPvc c ((p.setS 31 (p.pc + 4) none).rel (far.signExtend 32))) :=
      pvcStep_completes h rfl (by simp [h.2.1]) (by simp)
    rw [hstep, Pvc.rel, setS_pc]
  case jr =>
    exact pvcStep_completes h ((legal_of rfl).trans ((if_neg (Option.not_isSome_iff_eq_none.mpr ha)).trans (if_neg (not_not.mpr hal)))) h.2.1 rfl
  case jrMisaligned =>
    exact pvcStep_jumpFaults h ((legal_of rfl).trans ((if_neg (Option.not_isSome_iff_eq_none.mpr ha)).trans (if_pos hal)))
  case jrTagged => exact pvcStep_faults h ((legal_of rfl).trans (if_pos ha))
  case jrField =>
    refine pvcStep_faults h (legal_not ?_)
    simpa [imp_iff_not_or] using hbad

/-! Loads. -/

/-- A load is one scalar form with the placing of its bytes (R199). -/
theorem exec_load {s : State} {c : Nat} {p : Pvc} {d a : R5} {imm : BitVec 16} {i : Instr} {n : Nat} {put : List Byte → Tag → Pvc} (hi : (i, n, put) ∈
      [(Instr.lw c d a imm, 4, fun l t => p.setS d (BitVec.ofNat 32 (leNat l)) t),
       (.lh c d a imm, 2, fun l t => p.setS d ((BitVec.ofNat 16 (leNat l)).signExtend 32) t),
       (.lhu c d a imm, 2, fun l t => p.setS d (BitVec.ofNat 32 (leNat l)) t),
       (.lbu c d a imm, 1, fun l t => p.setS d (BitVec.ofNat 32 (leNat l)) t),
       (.fld c d a imm, 8, fun l t => p.setW d ((((p.getW d).v >>> 64) <<< 64) ||| (BitVec.ofNat 64 (leNat l)).zeroExtend 256)
          (if t.isSome then t else (p.getW d).t))]) :
    ∃ k, exec i s = pvcStep c (sLoad n k a imm) s ∧ ∀ l t, k l t p = put l t ∧ (put l t).stall = p.stall ∧ (put l t).masks = p.masks := by
  simp only [List.mem_cons, List.not_mem_nil, or_false, Prod.mk.injEq] at hi
  obtain ⟨rfl, rfl, rfl⟩ | ⟨rfl, rfl, rfl⟩ | ⟨rfl, rfl, rfl⟩ | ⟨rfl, rfl, rfl⟩ | ⟨rfl, rfl, rfl⟩ := hi
  all_goals exact ⟨_, rfl, fun l t => ⟨rfl, by simp, by simp⟩⟩

/-- Settles O4: the five loads by one form. -/
theorem scalarLoads : Obligations.ScalarLoads := by
  unfold Obligations.ScalarLoads
  intro s c p d a imm h ad at_ i n put hi
  obtain ⟨k, hexec, hput⟩ := exec_load (s := s) hi
  rw [hexec]
  refine ⟨fun l t ha hal hl => ?_, fun x ha hal hl => pvcStep_traps h (sLoad_cause ha hal hl),
    fun ha hal => pvcStep_traps h (sLoad_misaligned ha hal), fun ha => pvcStep_faults h (sLoad_tagged ha)⟩
  obtain ⟨hk, hstall, hmasks⟩ := hput l t
  rw [← hk] at hstall hmasks ⊢
  exact pvcStep_completes h (sLoad_ok ha hal hl) (hstall.trans h.2.1) hmasks

/-! Stores. -/

section
variable (p : Pvc) (t : Tag)

/-- From 0x100000 on lies the shared SRAM. -/
theorem store_high {a : Nat} (h : 0x100000 ≤ a) (l : List Byte) : p.store a l t = { p with sram := writeBytes p.sram (a - 0x100000) l } := if_pos h

/-- Below it lies data memory. -/
theorem store_low {a : Nat} (h : a < 0x100000) (l : List Byte) :
    p.store a l t = { p with mem := writeBytes p.mem a l, shares := (p.store a l t).shares } := by
  unfold Pvc.store
  rw [if_neg (Nat.not_le.mpr h)]

/-- A store reaches nothing but the memories and the share types of lines. -/
theorem store_frame (a : Nat) (l : List Byte) : p.store a l t =
    { p with mem := (p.store a l t).mem, sram := (p.store a l t).sram, shares := (p.store a l t).shares } := by
  unfold Pvc.store
  split <;> rfl

end

/-- A store is one scalar form with the bytes of its register (R199). -/
theorem exec_store {s : State} {c : Nat} {p : Pvc} {d a : R5} {imm : BitVec 16} {i : Instr} {n v : Nat} {t : Tag} (h : Issues s c p) (hi : (i, n, v, t) ∈
      [(Instr.sw c d a imm, 4, (p.getS d).v.toNat, (p.getS d).t), (.sh c d a imm, 2, (p.getS d).v.toNat, (p.getS d).t),
       (.sb c d a imm, 1, (p.getS d).v.toNat, (p.getS d).t),
       (.fst c d a imm, 8, ((p.getW d).v.truncate 64 : DWord).toNat, (p.getW d).t)]) :
    exec i s = .next (pvcPut c p (sStore (natLE n v) t a imm p) s) := by
  simp only [List.mem_cons, List.not_mem_nil, or_false, Prod.mk.injEq] at hi
  obtain ⟨rfl, rfl, rfl, rfl⟩ | ⟨rfl, rfl, rfl, rfl⟩ | ⟨rfl, rfl, rfl, rfl⟩ | ⟨rfl, rfl, rfl, rfl⟩ := hi
  all_goals exact pvcStep_issues _ h

/-- Settles O5: the four stores by one form, and the bytes that a write leaves. -/
theorem scalarStores : Obligations.ScalarStores := by
  unfold Obligations.ScalarStores
  intro s c p d a imm h ad at_ i n v t hi
  rw [exec_store h hi]
  have hlen : (natLE n v).length = n := natLE_length n v
  have hcause : ∀ x, (p.getS a).t = none → ad % n = 0 → p.storeCause ad n t.isSome = some x →
      sStore (natLE n v) t a imm p = if x = tcStore then .fault x p else .trap x 0 ad p := by
    intro x ha hal hc
    exact sStore_cause ha (by rw [hlen]; exact hal) (by rw [hlen]; exact hc)
  refine ⟨fun ha hal hc => ?stored, fun ha hal hc => ?_, fun ha hal hc => ?_, fun ha hal => ?_, fun ha => ?_⟩
  case stored =>
    have hok : sStore (natLE n v) t a imm p = .ok (p.store ad (natLE n v) t).next :=
      sStore_ok ha (by rw [hlen]; exact hal) (by rw [hlen]; exact hc)
    have hbyte : ∀ (m : Memory) (x k : Nat), k < n → readByte (writeBytes m x (natLE n v)) (x + k) = BitVec.ofNat 8 (v / 256 ^ k) := by
      intro m x k hk
      rw [readByte_writeBytes_same _ _ _ _ (by rw [hlen]; exact hk), natLE_getD _ _ _ hk]
    have hother : ∀ (m : Memory) (x b : Nat), b < x ∨ x + n ≤ b → readByte (writeBytes m x (natLE n v)) b = readByte m b := by
      intro m x b hb
      exact readByte_writeBytes_other _ _ _ _ (by rw [hlen]; exact hb)
    refine ⟨(p.store ad (natLE n v) t).next, ?_, congrArg Pvc.next (store_frame p t ad _), fun hlow => ?_, fun hhigh => ?_⟩
    · rw [hok, pvcPut_plain (by simp [h.2.1]) (by simp)]
    · rw [store_low p t hlow]
      exact ⟨rfl, hbyte p.mem ad, hother p.mem ad⟩
    · rw [store_high p t hhigh]
      exact ⟨rfl, rfl, hbyte p.sram _, hother p.sram _⟩
  · rw [hcause _ ha hal hc]
    rfl
  · rw [hcause _ ha hal hc]
    rfl
  · rw [sStore_misaligned ha (by rw [hlen]; exact hal)]
    rfl
  · rw [sStore_tagged ha]
    rfl

end Sys2Proof.Machine
end

section
/-!
SUPPORT. NOP, VALEND, ERET and the control registers, and cores that do not issue (spec file 06, R165, R168, R169, R186, R191; spec file 07, R195,
R197, R209, R211).
-/
namespace Sys2Proof.Machine
open Sys2Proof

/-! MFC. -/

/-- The control registers are those of R209. -/
theorem control_none {p : Pvc} {k : Nat} (h : k ∉ [0, 1, 2, 3, 4, 5, 8, 9, 10, 11, 12]) : p.control k = none := by
  unfold Pvc.control
  split
  case h_12 => rfl
  all_goals exact absurd (by decide) h

/-! MTC. -/

section
variable {p : Pvc} {m : BitVec 2}

theorem vector_map_same {α : Type} {n : Nat} {f : α → α} {v : Vector α n} (h : ∀ x ∈ v.toList, f x = x) : v.map f = v := by
  ext i hi
  rw [Vector.getElem_map]
  exact h _ (by simp)

theorem tagOfQ_false {t : Tag} (h : t ≠ some (.arithq m)) : tagOfQ t m = false := beq_eq_false_iff_ne.mpr h

/-- A new modulus leaves a run that holds no share of the register as it is (log entry 28). -/
theorem reshare_self (q : Nat) (hw : ∀ r ∈ p.w.toList, r.t ≠ some (.arithq m)) (hs : ∀ r ∈ p.s.toList, r.t ≠ some (.arithq m))
    (hl : ∀ l ∈ p.shares, l.2 ≠ .arithq m) : p.reshare m q = p := by
  have hmem : ∀ (l : List (Nat × Share)) (mem : Memory), (∀ x ∈ l, x.2 ≠ .arithq m) → l.foldl (fun mem ls =>
      if tagOfQ (some ls.2) m then
        writeBytes mem (ls.1 * 32)
          (natLE 32 (Config.reshared (BitVec.ofNat 256 (leNat (readBytes mem (ls.1 * 32) 32))) (p.q m) q).toNat)
      else mem) mem = mem := by
    intro l mem hl
    induction l with
    | nil => rfl
    | cons x t ih =>
      obtain ⟨hx, ht⟩ := List.forall_mem_cons.mp hl
      rw [List.foldl_cons, tagOfQ_false (by simpa using hx)]
      exact ih ht
  unfold Pvc.reshare
  have hregs : p.w.map (fun r => if tagOfQ r.t m then { r with v := Config.reshared r.v (p.q m) q } else r) = p.w :=
    vector_map_same fun r hr => if_neg (by simp [tagOfQ_false (hw r hr)])
  have hscalars : p.s.map (fun r => if tagOfQ r.t m then { r with v := (Config.reshared (r.v.zeroExtend 256) (p.q m) q).truncate 32 } else r) = p.s :=
    vector_map_same fun r hr => if_neg (by simp [tagOfQ_false (hs r hr)])
  rw [hregs, hscalars, hmem _ _ hl]

variable {a b : R5}

/-- The codes that MTC may write (R209). -/
def mtcCode (b : R5) : Bool := b.toNat == 0 || b.toNat == 2 || (decide (8 ≤ b.toNat) && decide (b.toNat ≤ 12))

theorem mtcCode_iff : mtcCode b = true ↔ b.toNat ∈ [0, 2, 8, 9, 10, 11, 12] := by
  simp only [mtcCode, Bool.or_eq_true, Bool.and_eq_true, beq_iff_eq, decide_eq_true_eq, List.mem_cons, List.not_mem_nil, or_false]
  omega

theorem mtcOp_code (hb : b.toNat ∉ [0, 2, 8, 9, 10, 11, 12]) : mtcOp 0 a b p = .fault tcIllegal p := by
  refine (legal_of rfl).trans (if_pos ?_)
  rw [← mtcCode, Bool.eq_false_iff.mpr (mt mtcCode_iff.mp hb)]
  rfl

theorem mtcOp_tagged (hb : b.toNat ∈ [0, 2, 8, 9, 10, 11, 12]) (ha : (p.getS a).t.isSome) : mtcOp 0 a b p = .fault tcControl p := by
  refine (legal_of rfl).trans ((if_neg ?_).trans (if_pos ha))
  rw [← mtcCode, mtcCode_iff.mpr hb]
  exact Bool.false_ne_true

variable (ha : (p.getS a).t = none)
include ha

theorem mtcOp_len : mtcOp 0 a 0 p =
    if (p.getS a).v.toNat ≤ 256 then .ok ({ p with len := (p.getS a).v.toNat } : Pvc).next else .fault tcIllegal p :=
  (legal_of rfl).trans ((if_neg (by decide)).trans ((if_neg (by simp [ha])).trans (if_pos rfl)))

theorem mtcOp_fpsr : mtcOp 0 a 2 p =
    if (p.getS a).v.toNat < 32 then .ok ({ p with fpsr := BitVec.ofNat 5 (p.getS a).v.toNat } : Pvc).next else .fault tcIllegal p :=
  (legal_of rfl).trans ((if_neg (by decide)).trans ((if_neg (by simp [ha])).trans ((if_neg (by decide)).trans (if_pos rfl))))

theorem mtcOp_gfp : mtcOp 0 a 12 p =
    if gfpLegal (p.getS a).v.toNat then .ok ({ p with gfp := (p.getS a).v.toNat } : Pvc).next else .fault tcIllegal p :=
  (legal_of rfl).trans ((if_neg (by decide)).trans ((if_neg (by simp [ha])).trans
    ((if_neg (by decide)).trans ((if_neg (by decide)).trans (if_pos rfl)))))

theorem mtcOp_qmCode (hlo : 8 ≤ b.toNat) (hhi : b.toNat ≤ 11) : mtcOp 0 a b p =
    if qmLegal (p.getS a).v.toNat then
      let m := BitVec.ofNat 2 (b.toNat - 8)
      let p' := if (p.getS a).v.toNat = p.q m then p else p.reshare m (p.getS a).v.toNat
      .ok ({ p' with qm := p'.qm.set m.toNat (p.getS a).v.toNat m.isLt } : Pvc).next
    else .fault tcIllegal p := by
  have hcode : mtcCode b = true := by simp [mtcCode, hlo, Nat.le_succ_of_le hhi]
  refine (legal_of rfl).trans ((if_neg ?_).trans ((if_neg (by simp [ha])).trans
    ((if_neg (by omega)).trans ((if_neg (by omega)).trans (if_neg (by omega))))))
  rw [← mtcCode, hcode]
  exact Bool.false_ne_true

theorem mtcOp_qm (hb : b.toNat = 8 + m.toNat) (hv : qmLegal (p.getS a).v.toNat = true) (hsame : p.reshare m (p.getS a).v.toNat = p) :
    mtcOp 0 a b p = .ok ({ p with qm := p.qm.set m.toNat (p.getS a).v.toNat m.isLt } : Pvc).next := by
  have hm := m.isLt
  have hreg : BitVec.ofNat 2 (b.toNat - 8) = m := by
    rw [hb, Nat.add_sub_cancel_left]
    exact BitVec.ofNat_toNat 2 m
  rw [mtcOp_qmCode ha (by omega) (by omega), if_pos hv]
  simp only [hreg, hsame, ite_self]

/-- A value outside the range of its register (R209). -/
theorem mtcOp_range (hbad : (b = 0 ∧ 256 < (p.getS a).v.toNat) ∨ (b = 2 ∧ 32 ≤ (p.getS a).v.toNat) ∨
      (b = 12 ∧ ((p.getS a).v.toNat < 4 ∨ 2 ^ 17 ≤ (p.getS a).v.toNat)) ∨
      (8 ≤ b.toNat ∧ b.toNat ≤ 11 ∧ ((p.getS a).v.toNat % 2 = 0 ∨ (p.getS a).v.toNat < 3 ∨ 2 ^ 31 ≤ (p.getS a).v.toNat))) :
    mtcOp 0 a b p = .fault tcIllegal p := by
  obtain ⟨rfl, hv⟩ | ⟨rfl, hv⟩ | ⟨rfl, hv⟩ | ⟨hlo, hhi, hv⟩ := hbad
  · exact (mtcOp_len ha).trans (if_neg (Nat.not_le.mpr hv))
  · exact (mtcOp_fpsr ha).trans (if_neg (Nat.not_lt.mpr hv))
  · refine (mtcOp_gfp ha).trans (if_neg ?_)
    simp only [gfpLegal, Bool.and_eq_true, decide_eq_true_eq]
    omega
  · refine (mtcOp_qmCode ha hlo hhi).trans (if_neg ?_)
    simp only [qmLegal, Bool.and_eq_true, beq_iff_eq, decide_eq_true_eq]
    omega

end

/-- Settles O8: the plain instructions by their fields, MFC by its code, MTC by its code, its tag and its range. -/
theorem systemInstructions : Obligations.SystemInstructions := by
  unfold Obligations.SystemInstructions
  intro s c p d a b h ill go x
  refine ⟨pvcStep_completes h rfl h.2.1 rfl, pvcStep_completes h rfl h.2.1 rfl, ?eret, fun hbad i hi => ?fields, fun k v hk => ?mfc, fun hb => ?mfcCode,
    fun ha => pvcStep_faults h (legal_not (by simpa using ha)), fun ha hv => ?len, fun ha hv => ?fpsr, fun ha hlo hhi => ?gfp,
    fun ha hodd hlo hhi m hw hs hl => ?qm, fun ha hb => pvcStep_faults h (mtcOp_tagged hb ha), fun hb => pvcStep_faults h (mtcOp_code hb),
    fun ha hbad => pvcStep_faults h (mtcOp_range ha hbad), fun hd => pvcStep_faults h (legal_not (by simpa using hd))⟩
  case eret =>
    split
    case isTrue hin => exact pvcStep_completes h ((legal_of rfl).trans (if_pos hin)) h.2.1 rfl
    case isFalse hout => exact pvcStep_faults h ((legal_of rfl).trans (if_neg hout))
  case fields =>
    have hexec : ∃ k, exec i s = pvcStep c (legal (d == 0 && a == 0 && b == 0) k) s := by
      simp only [List.mem_cons, List.not_mem_nil, or_false] at hi
      obtain rfl | rfl | rfl := hi <;> exact ⟨_, rfl⟩
    obtain ⟨k, hexec⟩ := hexec
    refine hexec.trans (pvcStep_faults h (legal_not ?_))
    simpa [imp_iff_not_or, or_assoc] using hbad
  case mfc =>
    have hcontrol : p.control (BitVec.ofNat 5 k).toNat = some v := by
      simp only [List.mem_cons, List.not_mem_nil, or_false, Prod.mk.injEq] at hk
      obtain ⟨rfl, rfl⟩ | ⟨rfl, rfl⟩ | ⟨rfl, rfl⟩ | ⟨rfl, rfl⟩ | ⟨rfl, rfl⟩ | ⟨rfl, rfl⟩ | ⟨rfl, rfl⟩ | ⟨rfl, rfl⟩ | ⟨rfl, rfl⟩ | ⟨rfl, rfl⟩ |
        ⟨rfl, rfl⟩ := hk <;> rfl
    refine pvcStep_completes h ((legal_of rfl).trans ?_) (by simp [h.2.1]) (by simp)
    rw [hcontrol]
  case mfcCode =>
    refine pvcStep_faults h ((legal_of rfl).trans ?_)
    rw [control_none hb]
  case len => exact pvcStep_completes h ((mtcOp_len ha).trans (if_pos hv)) h.2.1 rfl
  case fpsr =>
    refine pvcStep_completes h ((mtcOp_fpsr ha).trans ((if_pos hv).trans ?_)) h.2.1 rfl
    rw [BitVec.ofNat_toNat]
  case gfp =>
    refine pvcStep_completes h ((mtcOp_gfp ha).trans (if_pos ?_)) h.2.1 rfl
    simp only [gfpLegal, Bool.and_eq_true, decide_eq_true_eq]
    exact ⟨hlo, hhi⟩
  case qm =>
    have hm := m.isLt
    refine pvcStep_completes h (mtcOp_qm ha ?_ ?_ (reshare_self _ hw hs hl)) h.2.1 rfl
    · rw [BitVec.toNat_ofNat]
      omega
    · simp only [qmLegal, Bool.and_eq_true, beq_iff_eq, decide_eq_true_eq]
      exact ⟨⟨hodd, hlo⟩, hhi⟩

/-! Cores that do not issue. -/

/-- A gadget draws masks when an operand is tagged (R181). -/
theorem sMasks_gadget_pos {need : Option Share} {ts : List Tag} (h : ts.any (·.isSome) = true) : 0 < sMasks need true ts := by
  simp [sMasks, h]

theorem pvcPut_maskStall {s : State} {c : Nat} {p q : Pvc} (hm : ¬ MasksFlow s c) (hmasks : p.masks < q.masks) :
    pvcPut c p (.ok q) s = s.setPvc c { p with stall := some .mask } := by
  refine if_pos ?_
  rw [MasksFlow, Bool.not_eq_false] at hm
  simp [hm, Nat.sub_pos_of_lt hmasks]

/-- Settles O13: the four ways not to issue hold of every instruction; AND's gadget draws masks. -/
theorem coresThatCannotIssue : Obligations.CoresThatCannotIssue := by
  unfold Obligations.CoresThatCannotIssue
  intro s c d a b pr l e m imm off
  refine ⟨fun i hi => ?_, fun p h hm ha => ?masks⟩
  · have hexec : ∃ f, exec i s = pvcStep c f s := by
      simp only [List.mem_cons, List.not_mem_nil, or_false] at hi
      obtain rfl | rfl | rfl | rfl | rfl | rfl | rfl | rfl | rfl | rfl | rfl | rfl | rfl := hi <;> exact ⟨_, rfl⟩
    obtain ⟨f, hexec⟩ := hexec
    rw [hexec]
    refine ⟨fun hp => pvcStep_idle f hp, fun p x hx => pvcStep_stalled f hx, fun p hp hstall hpc => pvcStep_beyond f hp hstall hpc,
      fun p hp hstall hpc hword => pvcStep_undefined f hp hstall hpc ?_⟩
    rw [Pvc.defined, Pvc.word, hword]
    rfl
  case masks =>
    refine (pvcStep_issues _ h).trans (congrArg _ (pvcPut_maskStall hm ?_))
    simp [sMasks_gadget_pos, ha]

end Sys2Proof.Machine
end

section
/-!
SUPPORT. Vector instructions whose elements are computed one by one: the register forms, the immediates, the moves, and the modular instructions
(spec file 06, R169, R175, R178, R181; spec file 07, R198, R200, R201, R203, R205 to R207).
-/
namespace Sys2Proof.Machine
open Sys2Proof

/-! One issued instruction of the common form. -/

section
variable {s : State} {c : Nat} {p : Pvc} {F : Pvc → PRes} {f : Nat → Nat → List Nat → Nat} {need : Option Share} {ty : Share} {gad : Nat}
variable {l e : Bool} {pr : P3} {d a b : R5} {v : Nat → Nat}
variable (h : Issues s c p) (hm : MasksFlow s c)
include h hm

theorem pvcStep_vec2 (hf : F p = vecOp f need (some ty) gad [] l e pr d [a, b] p) (hs : SpansFit p l e [d, a, b])
    (hv : ∀ i, f (eWidth e) i [p.elemAs (need.getD ty) a (eWidth e) i, p.elemAs (need.getD ty) b (eWidth e) i] = v i) :
    pvcStep c F s = .next (vectorNext c p l e pr d [p.spanTag a (p.regs l e), p.spanTag b (p.regs l e)] ty
      (vectorDraw p l e pr [p.spanTag a (p.regs l e), p.spanTag b (p.regs l e)] need gad) v s) := by
  obtain rfl : _ = v := funext hv
  rw [pvcStep_issues F h, hf, vecOp_put h hm hs (.inl rfl)]
  cases need <;> rfl

theorem pvcStep_vec1 (hf : F p = vecOp f need (some ty) gad [] l e pr d [a] p) (hs : SpansFit p l e [d, a])
    (hv : ∀ i, f (eWidth e) i [p.elemAs (need.getD ty) a (eWidth e) i] = v i) :
    pvcStep c F s = .next (vectorNext c p l e pr d [p.spanTag a (p.regs l e)] ty
      (vectorDraw p l e pr [p.spanTag a (p.regs l e)] need gad) v s) := by
  obtain rfl : _ = v := funext hv
  rw [pvcStep_issues F h, hf, vecOp_put h hm hs (.inl rfl)]
  cases need <;> rfl

end

/-! Shifts. -/

theorem shiftRight_eq_div (k : Int) (n : Nat) : k >>> n = k / 2 ^ n := by
  rw [Int.shiftRight_eq_div_pow, Nat.cast_pow]
  rfl

theorem vsra_eq (w x k : Nat) : vsra w x k = wrap w (sgn w x / 2 ^ k) := by
  rw [vsra, shiftRight_eq_div]

theorem vmulhr_eq (w x y : Nat) : vmulhr w x y = wrap w ((sgn w x * sgn w y + 2 ^ (w - 1)) / 2 ^ w) := by
  rw [vmulhr, shiftRight_eq_div]

theorem vqdmulhr_eq (w x y : Nat) : vqdmulhr w x y = satS w ((2 * sgn w x * sgn w y + 2 ^ (w - 1)) / 2 ^ w) := by
  rw [vqdmulhr, shiftRight_eq_div]

theorem vshrr_eq (w x k : Nat) : vshrr w x k = if k = 0 then x else wrap w ((sgn w x + 2 ^ (k - 1)) / 2 ^ k) := by
  rw [vshrr, shiftRight_eq_div]

theorem vshrru_eq (w x k : Nat) : vshrru w x k = if k = 0 then x else (x + 2 ^ (k - 1)) / 2 ^ k % 2 ^ w := by
  rw [vshrru, Nat.shiftRight_eq_div_pow]

/-- Settles O14: each instruction is one vector result of the register form. -/
theorem vectorElementResults : Obligations.VectorElementResults := by
  unfold Obligations.VectorElementResults
  intro s c p d a b pr l e m h hm w A B x y f g sx sy ta tb top both tsh
  refine ⟨fun hs i need ty gad v hi => ?binary, fun hs => ?vclmul, fun hs hg => ?vgfmul, fun hs => ⟨?va2b, ?vb2a, fun hq hfit => ?vb2aq⟩⟩
  case binary =>
    simp only [List.mem_cons, List.not_mem_nil, or_false, Prod.mk.injEq] at hi
    obtain ⟨rfl, rfl, rfl, rfl, rfl⟩ | ⟨rfl, rfl, rfl, rfl, rfl⟩ | ⟨rfl, rfl, rfl, rfl, rfl⟩ | ⟨rfl, rfl, rfl, rfl, rfl⟩ | ⟨rfl, rfl, rfl, rfl, rfl⟩ |
      ⟨rfl, rfl, rfl, rfl, rfl⟩ | ⟨rfl, rfl, rfl, rfl, rfl⟩ | ⟨rfl, rfl, rfl, rfl, rfl⟩ | ⟨rfl, rfl, rfl, rfl, rfl⟩ | ⟨rfl, rfl, rfl, rfl, rfl⟩ |
      ⟨rfl, rfl, rfl, rfl, rfl⟩ | ⟨rfl, rfl, rfl, rfl, rfl⟩ | ⟨rfl, rfl, rfl, rfl, rfl⟩ | ⟨rfl, rfl, rfl, rfl, rfl⟩ | ⟨rfl, rfl, rfl, rfl, rfl⟩ |
      ⟨rfl, rfl, rfl, rfl, rfl⟩ | ⟨rfl, rfl, rfl, rfl, rfl⟩ | ⟨rfl, rfl, rfl, rfl, rfl⟩ | ⟨rfl, rfl, rfl, rfl, rfl⟩ | ⟨rfl, rfl, rfl, rfl, rfl⟩ |
      ⟨rfl, rfl, rfl, rfl, rfl⟩ | ⟨rfl, rfl, rfl, rfl, rfl⟩ | ⟨rfl, rfl, rfl, rfl, rfl⟩ | ⟨rfl, rfl, rfl, rfl, rfl⟩ := hi
    -- VADD to VMUL
    iterate 7 · exact pvcStep_vec2 h hm rfl hs (fun _ => rfl)
    -- VMULH, VMULHU, VMULHR, VQDMULHR
    · exact pvcStep_vec2 h hm rfl hs (fun _ => congrArg _ (shiftRight_eq_div _ _))
    · exact pvcStep_vec2 h hm rfl hs (fun _ => Nat.shiftRight_eq_div_pow _ _)
    · exact pvcStep_vec2 h hm rfl hs (fun _ => vmulhr_eq _ _ _)
    · exact pvcStep_vec2 h hm rfl hs (fun _ => vqdmulhr_eq _ _ _)
    -- VAND to VSHR
    iterate 6 · exact pvcStep_vec2 h hm rfl hs (fun _ => rfl)
    · exact pvcStep_vec2 h hm rfl hs (fun _ => vsra_eq _ _ _)
    · exact pvcStep_vec2 h hm rfl hs (fun _ => vshrr_eq _ _ _)
    · exact pvcStep_vec2 h hm rfl hs (fun _ => vshrru_eq _ _ _)
    -- VMIN to VMAXU
    iterate 4 · exact pvcStep_vec2 h hm rfl hs (fun _ => rfl)
  case vclmul => exact pvcStep_vec2 h hm (legal_of rfl) hs (fun _ => rfl)
  case vgfmul => exact pvcStep_vec2 h hm (legal_of (by simpa using hg)) hs (fun _ => rfl)
  case va2b => exact pvcStep_vec1 h hm (legal_of rfl) hs (fun _ => rfl)
  case vb2a => exact pvcStep_vec1 h hm (legal_of rfl) hs (fun _ => rfl)
  case vb2aq =>
    have hok : p.qOk m (eWidth e) = true := qOk_iff.mpr ⟨hq, hfit⟩
    exact pvcStep_vec1 h hm (legal_of (by simpa using hok)) hs (fun _ => rfl)

end Sys2Proof.Machine
end

section
/-!
SUPPORT. Vector moves: copies, fills, selections, and one lane of a register (spec file 06, R175, R178; spec file 07, R200, R207).
-/
namespace Sys2Proof.Machine
open Sys2Proof

section
variable {s : State} {c : Nat} {p : Pvc} {l e : Bool} {pr : P3} {d : R5}

theorem vectorDraw_none (tags : List Tag) : vectorDraw p l e pr tags none 0 = 0 := by simp [vectorDraw]

/-- An instruction that computes with no share type: its result has that of its first tagged source (R207). -/
theorem pvcStep_vecMove {F : Pvc → PRes} {f : Nat → Nat → List Nat → Nat} {extra tags : List Tag} {srcs : List R5} {v : Nat → Nat}
    (h : Issues s c p) (hm : MasksFlow s c) (hf : F p = vecOp f none none 0 extra l e pr d srcs p) (hs : SpansFit p l e (d :: srcs))
    (htags : srcs.map (fun b => p.spanTag b (p.regs l e)) ++ extra = tags)
    (hv : ∀ i, f (eWidth e) i (srcs.map (fun b => p.elem b (eWidth e) i)) = v i) :
    pvcStep c F s = .next (vectorNext c p l e pr d tags (firstType tags) 0 v s) := by
  obtain rfl : _ = v := funext hv
  rw [pvcStep_issues F h, hf, vecOp_put h hm hs (.inr rfl), htags, vectorDraw_none]
  rfl

theorem firstType_one (t : Tag) : firstType [t] = t.getD .bool := by cases t <;> rfl

theorem mergeTag_untagged {ts : List Tag} (h : ∀ t ∈ ts, t = none) (ty : Share) : mergeTag ts ty = none := by
  refine if_neg ?_
  simpa [Option.isSome_iff_ne_none] using h

theorem pTag_untagged (h : (p.getP pr).t = false) : p.pTag pr = none := by simp [Pvc.pTag, h]

/-- A vector result from untagged operands, drawing no masks. -/
theorem vectorNext_untagged {tags : List Tag} (htags : ∀ t ∈ tags, t = none) (hp : (p.getP pr).t = false) (ty : Share) (v : Nat → Nat) :
    vectorNext c p l e pr d tags ty 0 v s = s.setPvc c (p.putSpan d (p.regs l e) (eWidth e) (pr != 0) (fun _ => none)
      (fun i => if i < p.count l e && p.pbit pr (eWidth e) i then some (v i) else none)).next := by
  rw [vectorNext, mergeTag_untagged (List.forall_mem_cons.mpr ⟨pTag_untagged hp, htags⟩)]
  rfl

/-- P0 allows every element of a register, and of a span in order (R172, R175). -/
theorem pbit_zero {w i : Nat} (h : (if w = 32 then 2 * i else i) < 256) : p.pbit 0 w i = true := by
  exact (BitVec.getLsbD_allOnes).trans (decide_eq_true h)

theorem ite_and_of_imp {P : Prop} [Decidable P] {on : Bool} (h : P → on = true) {α : Type} (x y : α) :
    (if (decide P && on) = true then x else y) = if P then x else y := by
  by_cases hP : P
  · simp [hP, h hP]
  · simp [hP]

theorem pbit_zero_of_count {bases : List R5} (hs : SpansFit p l e bases) {i : Nat} (hi : i < p.count l e) : p.pbit 0 (eWidth e) i = true := by
  refine pbit_zero ?_
  unfold SpansFit Pvc.spanBad at hs
  cases l <;> cases e <;> simp [Pvc.count, eWidth] at hs hi ⊢ <;> omega

end

/-- Settles O15: the immediates and VMOV by the common form, VSEL on untagged operands, VEXT and VINS on one lane. -/
theorem vectorMovesAndImmediates : Obligations.VectorMovesAndImmediates := by
  unfold Obligations.VectorMovesAndImmediates
  intro s c p d a b pr l e imm h hm w k A B x f ta tb
  refine ⟨fun hs i need ty gad v hi => ?unary, fun hs => ⟨?vsplat, ?vsplati⟩, fun hs hta htb hp => ?vsel, fun hb => ⟨?vext, ?vins⟩⟩
  case unary =>
    simp only [List.mem_cons, List.not_mem_nil, or_false, Prod.mk.injEq] at hi
    obtain ⟨rfl, rfl, rfl, rfl, rfl⟩ | ⟨rfl, rfl, rfl, rfl, rfl⟩ | ⟨rfl, rfl, rfl, rfl, rfl⟩ | ⟨rfl, rfl, rfl, rfl, rfl⟩ |
      ⟨rfl, rfl, rfl, rfl, rfl⟩ | ⟨rfl, rfl, rfl, rfl, rfl⟩ | ⟨rfl, rfl, rfl, rfl, rfl⟩ | ⟨rfl, rfl, rfl, rfl, rfl⟩ := hi
    -- VADDI, VSHLI, VSHRI, then VSRAI, VSHRRI, VSHRRUI, VANDI, VMOV
    iterate 3 · exact pvcStep_vec1 h hm rfl hs (fun _ => rfl)
    · exact pvcStep_vec1 h hm rfl hs (fun _ => vsra_eq _ _ _)
    · exact pvcStep_vec1 h hm rfl hs (fun _ => vshrr_eq _ _ _)
    · exact pvcStep_vec1 h hm rfl hs (fun _ => vshrru_eq _ _ _)
    · exact pvcStep_vec1 h hm rfl hs (fun _ => rfl)
    · rw [vectorDraw_none, ← firstType_one]
      exact pvcStep_vecMove (srcs := [a]) (extra := []) h hm (legal_of rfl) hs rfl (fun _ => rfl)
  case vsplat =>
    rw [← firstType_one]
    exact pvcStep_vecMove (srcs := []) (extra := [(p.getS a).t]) h hm (legal_of rfl) hs rfl (fun _ => rfl)
  case vsplati => exact pvcStep_vecMove (srcs := []) (extra := []) (tags := []) h hm (legal_of rfl) hs rfl (fun _ => rfl)
  case vsel =>
    have hform : ∀ i, selElem p ta tb (p.elem a w i) (p.elem b w i) (p.pbit pr w i) = if p.pbit pr w i then p.elem a w i else p.elem b w i := by
      intro i
      rw [hta]
      rfl
    have hneed : vecOp (fun w i xs => selElem p ta tb (el0 xs) (el1 xs) (p.pbit pr w i)) ta none 0 [p.pTag pr] l e 0 d [a, b] p =
        vecOp (fun w i xs => selElem p ta tb (el0 xs) (el1 xs) (p.pbit pr w i)) none none 0 [p.pTag pr] l e 0 d [a, b] p := by rw [hta]
    have htags : ∀ t ∈ [ta, tb, p.pTag pr], t = none := by simp [hta, htb, pTag_untagged hp]
    change pvcStep c _ s = _
    refine Eq.trans (pvcStep_vecMove (tags := [ta, tb, p.pTag pr]) (srcs := [a, b]) (extra := [p.pTag pr]) h hm hneed hs rfl hform) ?_
    rw [vectorNext_untagged htags rfl]
    have hon := fun i (v : Nat) => ite_and_of_imp (pbit_zero_of_count hs (i := i)) (some v) none
    simp only [hon]
    rfl
  case vext =>
    have htag : mergeTag [(p.getW a).t, p.pTag pr] (firstType [(p.getW a).t]) =
        if (p.getW a).t.isSome ∨ (p.getP pr).t then some ((p.getW a).t.getD B) else none := by
      rw [firstType_one]
      by_cases hq : (p.getP pr).t <;> simp [mergeTag, Pvc.pTag, B, hq]
    rw [← htag]
    refine pvcStep_completes h ((legal_of rfl).trans ?_) ?_ ?_
    · exact congrArg (fun v => PRes.ok (p.setS d v _).next) (if_pos hb)
    · simp [h.2.1]
    · simp
  case vins =>
    refine pvcStep_completes h ((legal_of rfl).trans ((if_pos hb).trans ?_)) h.2.1 rfl
    have hbit : ∀ j, j = b.toNat → p.pbit 0 (eWidth e) j = true := by
      rintro _ rfl
      refine pbit_zero ?_
      cases e <;> simp [w, eWidth] at hb ⊢ <;> omega
    have htag : mergeTag [(p.getS a).t, p.pTag 0] (firstType [(p.getS a).t]) = (p.getS a).t := by
      rw [firstType_one]
      cases (p.getS a).t <;> rfl
    rw [htag]
    simp only [ite_and_of_imp (hbit _)]
    rfl

end Sys2Proof.Machine
end

section
/-!
SUPPORT. The modular vector instructions (spec file 06, R169; spec file 07, R201, R203).
-/
namespace Sys2Proof.Machine
open Sys2Proof

section
variable {s : State} {c : Nat} {p : Pvc} {m : BitVec 2} {d a b : R5} {pr : P3} {l e : Bool} {imm : BitVec 8} {v : Nat → Nat}
variable {f : Bool → Nat → Nat → Nat → Nat → Nat} {gad : Tag → Tag → Nat}

theorem vMod_unusable {one : Bool} (hq : p.qOk m (eWidth e) = false) : vMod f one gad m d a b pr l e p = .fault tcIllegal p := by
  simp [vMod, hq]

theorem butterfly_unusable {step : Nat → Nat → Nat → Nat → Nat → Nat × Nat} (hq : p.qOk m (eWidth e) = false) :
    butterfly step m d a b pr l e p = .fault tcIllegal p := by
  simp [butterfly, hq]

theorem comprOp_unusable {comp : Bool} (hq : p.qOk m (eWidth e) = false) : comprOp comp m d a pr l e imm p = .fault tcIllegal p :=
  if_pos (.inr (.inr hq))

theorem comprOp_count {comp : Bool} (hn : imm.toNat = 0 ∨ eWidth e ≤ imm.toNat) : comprOp comp m d a pr l e imm p = .fault tcIllegal p :=
  if_pos (hn.imp_right .inl)

theorem pvcStep_vMod2 (h : Issues s c p) (hm : MasksFlow s c) (hq : p.qOk m (eWidth e) = true) (hs : SpansFit p l e [d, a, b])
    (hv : ∀ tagged i, f tagged (eWidth e) (p.q m) (p.elemAs (.arithq m) a (eWidth e) i) (p.elemAs (.arithq m) b (eWidth e) i) = v i) :
    pvcStep c (vMod f false gad m d a b pr l e) s =
      .next (vectorNext c p l e pr d [p.spanTag a (p.regs l e), p.spanTag b (p.regs l e)] (.arithq m)
        (vectorDraw p l e pr [p.spanTag a (p.regs l e), p.spanTag b (p.regs l e)] (some (.arithq m))
          (gad (p.spanTag a (p.regs l e)) (p.spanTag b (p.regs l e)))) v s) :=
  pvcStep_vec2 h hm (if_neg (by simp [hq])) hs (hv _)

theorem pvcStep_vMod1 (h : Issues s c p) (hm : MasksFlow s c) (hq : p.qOk m (eWidth e) = true) (hs : SpansFit p l e [d, a])
    (hv : ∀ i, f ((p.pTag pr).isSome || (p.spanTag a (p.regs l e)).isSome || false) (eWidth e) (p.q m)
      (p.elemAs (.arithq m) a (eWidth e) i) 0 = v i) :
    pvcStep c (vMod f true gad m d a 0 pr l e) s =
      .next (vectorNext c p l e pr d [p.spanTag a (p.regs l e)] (.arithq m)
        (vectorDraw p l e pr [p.spanTag a (p.regs l e)] (some (.arithq m)) (gad (p.spanTag a (p.regs l e)) none)) v s) :=
  pvcStep_vec1 h hm (if_neg (by simp [hq])) hs hv

theorem comprOp_compress (hq : p.qOk m (eWidth e) = true) (h0 : 1 ≤ imm.toNat) (hw : imm.toNat < eWidth e) :
    comprOp true m d a pr l e imm p =
      vecOp (fun _ _ xs => vcompr (p.q m) imm.toNat (el0 xs)) (some (.arithq m)) (some .bool) 32 [] l e pr d [a] p := by
  unfold comprOp
  rw [if_neg (by simp only [hq, Bool.true_eq_false, or_false]; omega), if_pos rfl]

theorem comprOp_decompress (hq : p.qOk m (eWidth e) = true) (h0 : 1 ≤ imm.toNat) (hw : imm.toNat < eWidth e)
    (ha : p.spanTag a (p.regs l e) = none) (hp : (p.getP pr).t = false) :
    comprOp false m d a pr l e imm p =
      vecOp (fun _ _ xs => vdecompr (p.q m) imm.toNat (el0 xs)) (some .bool) (some (.arithq m)) 32 [] l e pr d [a] p := by
  have htagged : ((p.pTag pr).isSome || (p.spanTag a (p.regs l e)).isSome) = false := by simp [ha, Pvc.pTag, hp]
  unfold comprOp
  rw [if_neg (by simp only [hq, Bool.true_eq_false, or_false]; omega), if_neg Bool.false_ne_true]
  simp only [htagged, Bool.false_eq_true, if_false]

end

/-- Signed values reduce as the model computes them. -/
theorem cast_modReds {q : Nat} (hq : 0 < q) (w x y : Nat) : ((modReds w q x y : Nat) : Int) = sgn w x % q :=
  Int.toNat_of_nonneg (Int.emod_nonneg _ (by omega))

theorem cast_modNeg {q : Nat} (hq : 0 < q) (w x y : Nat) : ((modNeg w q x y : Nat) : Int) = -(x : Int) % q := by
  have hsub := cast_sub_mod hq 0 x
  rwa [Nat.zero_add, Nat.cast_zero, Int.zero_sub] at hsub

/-- Settles O16: the modular forms with their residues, the illegal ones by the check they begin with. -/
theorem vectorModularResults : Obligations.VectorModularResults := by
  unfold Obligations.VectorModularResults
  intro s c p m d a b pr l e imm h hm w q n M B x y ta tb bin un
  refine ⟨fun hodd hfit hs => ?binary, fun hodd hfit hs => ?unary, fun hbad => ?unusable, fun hn => ?count⟩
  case binary =>
    have hok : p.qOk m (eWidth e) = true := qOk_odd hodd hfit
    have hpos : 0 < q := by omega
    refine ⟨?vaddm, ⟨fun i => modSub w q (x i) (y i), fun i => cast_sub_mod hpos _ _, ?vsubm⟩,
      ⟨fun i => modMulm w q (x i) (y i), fun i => ⟨Nat.mod_lt _ hpos, mul_invPow2_mod hodd w _⟩, ?vmulm⟩, ?vmulb⟩
    all_goals exact pvcStep_vMod2 h hm hok hs (fun _ _ => rfl)
  case unary =>
    have hok : p.qOk m (eWidth e) = true := qOk_odd hodd hfit
    have hpos : 0 < q := by omega
    refine ⟨⟨fun i => modNeg w q (x i) 0, fun i => cast_modNeg hpos w _ _, ?vnegm⟩, ?vredb,
      ⟨fun i => modRedm w q (x i) 0, fun i => ⟨Nat.mod_lt _ hpos, mul_invPow2_mod hodd w _⟩, ?vredm⟩,
      ⟨fun i => modReds w q (x i) 0, fun i => cast_modReds hpos w _ _, ?vreds⟩,
      fun hta hp => ?vcent, fun h0 hw => ⟨?vcompr, fun hta hp => ?vdecompr⟩⟩
    case vcent => exact pvcStep_vMod1 h hm hok hs (fun i => by simp [modCent, Pvc.pTag, hp, ← hta, ta, x, q, w, M])
    case vcompr => exact pvcStep_vec1 h hm (comprOp_compress hok h0 hw) hs (fun _ => rfl)
    case vdecompr =>
      exact pvcStep_vec1 h hm (comprOp_decompress hok h0 hw hta hp) hs (fun _ => Nat.shiftRight_eq_div_pow _ _)
    all_goals exact pvcStep_vMod1 h hm hok hs (fun _ => rfl)
  case unusable =>
    have hno : p.qOk m (eWidth e) = false := qOk_not hbad
    intro i hi
    simp only [List.mem_cons, List.not_mem_nil, or_false] at hi
    obtain rfl | rfl | rfl | rfl | rfl | rfl | rfl | rfl | rfl | rfl | rfl | rfl | rfl := hi
    -- VADDM to VCENT, the butterflies, then VCOMPR and VDECOMPR
    iterate 9 · exact pvcStep_faults h (vMod_unusable hno)
    iterate 2 · exact pvcStep_faults h (butterfly_unusable hno)
    iterate 2 · exact pvcStep_faults h (comprOp_unusable hno)
  case count => exact ⟨pvcStep_faults h (comprOp_count hn), pvcStep_faults h (comprOp_count hn)⟩

end Sys2Proof.Machine
end

section
/-!
SUPPORT. Butterflies and packing on untagged operands (spec file 07, R202, R204).
-/
namespace Sys2Proof.Machine
open Sys2Proof

/-! Butterflies. -/

section
variable {p : Pvc} {m : BitVec 2} {d a b : R5} {pr : P3} {e : Bool} {step : Nat → Nat → Nat → Nat → Nat → Nat × Nat}

/-- A butterfly whose operands are untagged and whose spans and twiddles are in order. -/
theorem butterfly_untagged {ad : Nat} (had : (p.getS b).v.toNat = ad) (hq : p.qOk m (eWidth e) = true)
    (hapart : overlap d (p.regs true e) a (p.regs true e) = false) (hspans : SpansFit p true e [d, a]) (haddress : (p.getS b).t = none)
    (hd : p.spanTag d (p.regs true e) = none) (ha : p.spanTag a (p.regs true e) = none) (hp : (p.getP pr).t = false)
    (halign : ad % (eWidth e / 8) = 0) (hlow : 0x80000 ≤ ad) (hhigh : ad + p.len * (eWidth e / 8) ≤ 0x80000 + 0x1000 * p.kern.tables)
    {r : Nat → Nat × Nat} (hr : ∀ i, step (eWidth e) (p.q m) (p.elem d (eWidth e) i) (p.elem a (eWidth e) i) (p.twiddle (eWidth e) ad i) = r i) :
    butterfly step m d a b pr true e p = .ok ((p.putSpan d (p.regs true e) (eWidth e) (pr != 0) (fun _ => none)
        (fun i => if i < p.len && p.pbit pr (eWidth e) i then some (r i).1 else none)).putSpan a (p.regs true e) (eWidth e) (pr != 0) (fun _ => none)
        (fun i => if i < p.len && p.pbit pr (eWidth e) i then some (r i).2 else none)).next := by
  subst had
  have hrange : ¬ (p.len ≠ 0 ∧ ((p.getS b).v.toNat % (eWidth e / 8) ≠ 0 ∨ (p.getS b).v.toNat < 0x80000 ∨
      (p.getS b).v.toNat + p.len * (eWidth e / 8) > 0x80000 + 0x1000 * p.kern.tables)) := by omega
  have htag : mergeTag [p.pTag pr, none, none] (.arithq m) = none := mergeTag_untagged (by simp [pTag_untagged hp]) _
  have hstep : ∀ (g : Nat × Nat → Nat) i, (if i < p.len && p.pbit pr (eWidth e) i then
      some (g (step (eWidth e) (p.q m) (p.elemAs (.arithq m) d (eWidth e) i) (p.elemAs (.arithq m) a (eWidth e) i) (p.twiddle (eWidth e) (p.getS b).v.toNat i))) else none) =
      if i < p.len && p.pbit pr (eWidth e) i then some (g (r i)) else none := by
    intro g i
    by_cases hi : i < p.len
    · have hreg := reg_lt_regs (p := p) (l := true) (e := e) hi
      rw [elemAs_untagged hd _ hreg, elemAs_untagged ha _ hreg, hr]
    · simp [hi]
  unfold SpansFit at hspans
  simp only [butterfly, hq, hapart, hspans, haddress, hd, ha, htag, if_neg hrange, hstep Prod.fst, hstep Prod.snd]
  rfl

end

/-- What the Gentleman-Sande step leaves of the difference. -/
theorem bfgs_product {q : Nat} (hq : q % 2 = 1) (w x y z : Nat) :
    (((modSub w q x y * z * invPow2 w q % q * 2 ^ w : Nat) : Int)) % q = ((x : Int) - y) * z % q := by
  have hpos : 0 < q := by omega
  rw [← Int.natCast_mod, mul_invPow2_mod hq, Int.natCast_mod, Nat.cast_mul, modSub, cast_sub_mod hpos, Int.mul_emod, Int.emod_emod, ← Int.mul_emod]

/-! Bit strings. -/

theorem testBit_packBits_digit {w j : Nat} (hj : j < w) (l : List Nat) (i : Nat) : (packBits w l).testBit (w * i + j) = (l.getD i 0).testBit j := by
  have hdigit := congrArg (·.testBit j) (packBits_digit w l i)
  simpa [Nat.testBit_shiftRight, Nat.testBit_mod_two_pow, hj] using hdigit

/-- Nothing stands above the last element. -/
theorem testBit_packBits_above {w j : Nat} (hw : 0 < w) {l : List Nat} (hj : l.length * w ≤ j) : (packBits w l).testBit j = false := by
  have hindex : l.length ≤ j / w := (Nat.le_div_iff_mul_le hw).mpr hj
  rw [← Nat.div_add_mod j w, testBit_packBits_digit (Nat.mod_lt j hw), List.getD_eq_default _ _ hindex, Nat.zero_testBit]

theorem testBit_leNat (l : List Byte) (i : Nat) {j : Nat} (hj : j < 8) : (leNat l).testBit (8 * i + j) = (l.getD i 0).getLsbD j := by
  induction l generalizing i with
  | nil => simp [leNat]
  | cons x l ih =>
    rw [leNat, Nat.add_comm, show 256 = 2 ^ 8 from rfl, Nat.testBit_two_pow_mul_add _ x.isLt]
    cases i with
    | zero => simp [hj, BitVec.testBit_toNat]
    | succ i =>
      rw [if_neg (by omega), show 8 * (i + 1) + j - 8 = 8 * i + j by omega, ih, List.getD_cons_succ]

theorem getD_slice {l : List Byte} {off n i : Nat} (hi : i < n) : (slice l off n).getD i 0 = l.getD (off + i) 0 := by
  simp [slice, List.getD_eq_getElem?_getD, hi]

theorem getD_flatMap_range {g : Nat → List Byte} {w : Nat} (hg : ∀ i, (g i).length = w) {k i n : Nat} (hk : k < n) (hi : i < w) :
    ((List.range n).flatMap g).getD (w * k + i) 0 = (g k).getD i 0 := by
  rw [← slice_flatMap_range hg hk, getD_slice hi]

/-- The bytes of an untagged span are its elements of 8 bits. -/
theorem testBit_spanBytes {p : Pvc} {a : R5} {n : Nat} (ha : p.spanTag a n = none) (need : Share) {j : Nat} (hj : j < 256 * n) :
    (leNat (p.spanBytes need a n)).testBit j = (p.elem a 8 (j / 8)).testBit (j % 8) := by
  have hreg : j / 8 / 32 < n := by omega
  have hlane : j / 8 % 32 < 32 := Nat.mod_lt _ (by omega)
  have hbyte : (p.spanBytes need a n).getD (32 * (j / 8 / 32) + j / 8 % 32) 0 = BitVec.ofNat 8 (p.elem a 8 (j / 8)) := by
    rw [Pvc.spanBytes, getD_flatMap_range (fun _ => natLE_length 32 _) hreg hlane]
    simp only [reg_untagged ha hreg]
    refine (natLE_getD _ _ _ hlane).trans (BitVec.eq_of_toNat_eq ?_)
    rw [BitVec.toNat_ofNat, BitVec.toNat_ofNat, Pvc.elem, lane, Nat.mod_mod, Nat.shiftRight_eq_div_pow, Nat.pow_mul]
    rfl
  have hbits := testBit_leNat (p.spanBytes need a n) (j / 8) (Nat.mod_lt j (by omega : 0 < 8))
  rw [Nat.div_add_mod] at hbits hbyte
  rw [hbits, hbyte, BitVec.getLsbD_ofNat, decide_eq_true (Nat.mod_lt j (by omega)), Bool.true_and]

/-! Packing. -/

section
variable {p : Pvc} {d a : R5} {e : Bool} {imm : BitVec 8} {k : Nat}
variable (hk : imm.toNat = k) (h0 : 1 ≤ k) (hw : k ≤ eWidth e)
include hk h0 hw

theorem packOp_pack {kn : Nat} (hkn : kn = (p.len * k + 255) / 256) (hapart : overlap d kn a (p.regs true e) = false)
    (hd : p.spanBad true e kn [d] = false) (ha : p.spanBad true e (p.regs true e) [a] = false) (htag : p.spanTag a (p.regs true e) = none) :
    packOp true d a 0 true e imm p = .ok (p.putSpan d kn 8 false (fun _ => none) (fun j => if j < (p.len * k + 7) / 8 then
      some (packBits k ((List.range p.len).map (p.elem a (eWidth e))) / 2 ^ (8 * j) % 256) else none)).next := by
  have hform : ¬ (decide (k = 0) || decide (k > eWidth e)) = true := by simp; omega
  have helems : (List.range p.len).map (p.elemAs .bool a (eWidth e)) = (List.range p.len).map (p.elem a (eWidth e)) :=
    List.map_congr_left fun i hi => elemAs_untagged htag _ (reg_lt_regs (l := true) (List.mem_range.mp hi))
  have hpad : p.len * k + 256 - 1 = p.len * k + 255 := rfl
  subst hk hkn
  simp only [packOp, ceilDiv, hpad, if_true, hapart, hd, ha, htag, helems, Bool.not_true, bne_self_eq_false, Bool.false_or, Bool.or_false, if_neg hform,
    Bool.false_eq_true, if_false, Nat.shiftRight_eq_div_pow]
  rfl

theorem packOp_unpack {kn : Nat} (hkn : kn = (p.len * k + 255) / 256) (hapart : overlap d (p.regs true e) a kn = false)
    (hd : p.spanBad true e (p.regs true e) [d] = false) (ha : p.spanBad true e kn [a] = false) (htag : p.spanTag a kn = none) :
    packOp false d a 0 true e imm p = .ok (p.putSpan d (p.regs true e) (eWidth e) false (fun _ => none) (fun i => if i < p.len then
      some (leNat (p.spanBytes .bool a kn) / 2 ^ (i * k) % 2 ^ k) else none)).next := by
  have hform : ¬ (decide (k = 0) || decide (k > eWidth e)) = true := by simp; omega
  have hpad : p.len * k + 256 - 1 = p.len * k + 255 := rfl
  subst hk hkn
  simp only [packOp, ceilDiv, hpad, hapart, hd, ha, htag, Bool.not_true, bne_self_eq_false, Bool.false_or, Bool.or_false, if_neg hform,
    Bool.false_eq_true, if_false, Nat.shiftRight_eq_div_pow]
  rfl

end

/-- Settles O17: the butterflies' products by the inverse of 2^w, the packed elements as digits of one bit string. -/
theorem butterfliesAndPacking : Obligations.ButterfliesAndPacking := by
  unfold Obligations.ButterfliesAndPacking
  intro s c p m d a b pr e imm h w q n ad x y z on both
  refine ⟨fun hodd hfit hapart hs haddress hd ha hp halign hlow hhigh => ⟨?bfct, ?bfgs⟩,
    fun h0 hw => ⟨fun hapart hd ha htag => ?pack, fun hapart hd ha htag => ?unpack⟩⟩
  case bfct =>
    have hpos : 0 < q := by omega
    refine ⟨fun i => y i * z i * invPow2 w q % q, fun i => ⟨Nat.mod_lt _ hpos, mul_invPow2_mod hodd w _⟩,
      fun i => modSub w q (x i) (y i * z i * invPow2 w q % q), fun i => cast_sub_mod hpos _ _, ?_⟩
    have hok := butterfly_untagged (step := bfctStep) (r := fun i => bfctStep w q (x i) (y i) (z i)) rfl (qOk_odd hodd hfit) hapart hs haddress hd ha hp
      halign hlow hhigh (fun _ => rfl)
    exact pvcStep_completes h hok (by simp [h.2.1]) (by simp)
  case bfgs =>
    have hpos : 0 < q := by omega
    refine ⟨fun i => modSub w q (x i) (y i) * z i * invPow2 w q % q, fun i => ⟨Nat.mod_lt _ hpos, bfgs_product hodd w _ _ _⟩, ?_⟩
    have hok := butterfly_untagged (step := bfgsStep) (r := fun i => bfgsStep w q (x i) (y i) (z i)) rfl (qOk_odd hodd hfit) hapart hs haddress hd ha hp
      halign hlow hhigh (fun _ => rfl)
    exact pvcStep_completes h hok (by simp [h.2.1]) (by simp)
  case pack =>
    refine ⟨packBits imm.toNat ((List.range p.len).map y), fun i j hi hj => ?_, fun j hj => testBit_packBits_above h0 (by simpa using hj), ?_⟩
    · rw [Nat.mul_comm, testBit_packBits_digit hj]
      simp [List.getD_eq_getElem?_getD, hi]
    · exact pvcStep_completes h (packOp_pack rfl h0 hw rfl hapart hd ha htag) (by simp [h.2.1]) (by simp)
  case unpack =>
    exact ⟨leNat (p.spanBytes .bool a ((p.len * imm.toNat + 255) / 256)), fun j hj => testBit_spanBytes htag _ hj,
      pvcStep_completes h (packOp_unpack rfl h0 hw rfl hapart hd ha htag) (by simp [h.2.1]) (by simp)⟩

end Sys2Proof.Machine
end

section
/-!
SUPPORT. What a vector load or store checks first, and the vector loads (spec file 06, R179, R185; spec file 07, R212).
-/
namespace Sys2Proof.Machine
open Sys2Proof

/-! The checks before the first element. -/

section
variable {p : Pvc} {l e pred : Bool} {bases : List R5} {tags : List Tag} {k : Pvc → PRes}

theorem vmemGuard_open (hs : SpansFit p l e bases) (htags : tags.any (·.isSome) = false) : vmemGuard l e bases tags false k p = k p := by
  unfold SpansFit at hs
  simp only [vmemGuard, hs, htags, Bool.false_eq_true, if_false]

theorem vmemGuard_address (hs : SpansFit p l e bases) (htags : tags.any (·.isSome) = true) :
    vmemGuard l e bases tags pred k p = .fault tcAddress p := by
  unfold SpansFit at hs
  simp only [vmemGuard, hs, htags, Bool.false_eq_true, if_false, if_true]

theorem vmemGuard_predicate (hs : SpansFit p l e bases) (htags : tags.any (·.isSome) = false) :
    vmemGuard l e bases tags true k p = .fault tcStore p := by
  unfold SpansFit at hs
  simp only [vmemGuard, hs, htags, Bool.false_eq_true, if_false, if_true]

theorem any_one (t : Tag) : [t].any (·.isSome) = t.isSome := Bool.or_false _

theorem any_two (t u : Tag) : [t, u].any (·.isSome) = (t.isSome || u.isSome) := by simp

theorem hLegal_of_mem {n : Nat} (h : n ∈ [1, 2, 4, 8, 16, 32, 64, 128]) : hLegal n = true := List.contains_iff_mem.mpr h

end

/-! Maps from lists of indices. -/

theorem mget_append {α : Type} (m n : List (Nat × α)) (k : Nat) : mget (m ++ n) k = (mget m k).or (mget n k) := by
  induction m with
  | nil => rfl
  | cons x m ih =>
    obtain ⟨j, v⟩ := x
    by_cases h : j = k
    · simp [mget, h]
    · simp [mget, h, ih]

theorem mget_table {α : Type} (is : List Nat) (f : Nat → α) (j : Nat) : mget (is.map (fun i => (i, f i))) j = if j ∈ is then some (f j) else none := by
  induction is with
  | nil => rfl
  | cons i is ih =>
    by_cases h : i = j
    · simp [mget, h]
    · simp [mget, h, ih, Ne.symm h]

/-! The elements of a load. -/

section
variable {p : Pvc} {w : Nat} {addr : Nat → Nat} {f : Nat → List Byte}

/-- Elements that all lie at aligned, readable, untagged places. -/
theorem gather_done {is : List Nat} (h : ∀ j ∈ is, addr j % (w / 8) = 0 ∧ p.load (addr j) (w / 8) = .bytes (f j) none) :
    p.gather w addr is = (is.map (fun j => (j, leNat (f j), none)), none) := by
  induction is with
  | nil => rfl
  | cons i is ih =>
    obtain ⟨⟨halign, hload⟩, hrest⟩ := List.forall_mem_cons.mp h
    simp [Pvc.gather, halign, hload, ih hrest]

/-- The first element that faults ends the load. -/
theorem gather_stopped {pre post : List Nat} {k cause : Nat}
    (h : ∀ j ∈ pre, addr j % (w / 8) = 0 ∧ p.load (addr j) (w / 8) = .bytes (f j) none)
    (hk : addr k % (w / 8) ≠ 0 ∧ cause = tcAccess ∨ addr k % (w / 8) = 0 ∧ p.load (addr k) (w / 8) = .cause cause) :
    p.gather w addr (pre ++ k :: post) = (pre.map (fun j => (j, leNat (f j), none)), some (k, cause, addr k)) := by
  induction pre with
  | nil =>
    obtain ⟨hmis, rfl⟩ | ⟨halign, hload⟩ := hk
    · simp [Pvc.gather, hmis]
    · simp [Pvc.gather, halign, hload]
  | cons i pre ih =>
    obtain ⟨⟨halign, hload⟩, hrest⟩ := List.forall_mem_cons.mp h
    simp [Pvc.gather, halign, hload, ih hrest]

/-- The new elements of a load at d: those loaded before a fault stay, those of `is` become their bytes (R185, R212). -/
def Pvc.loaded (p : Pvc) (w : Nat) (f : Nat → List Byte) (pr : P3) (d : R5) (is : List Nat) (j : Nat) : Option Nat :=
  if j < p.first ∧ j / (256 / w) = p.first / (256 / w) ∧ p.pbit pr w j then some (p.elem d w j)
  else if j ∈ is then some (leNat (f j)) else none

/-- The elements that a load with untagged elements `is` writes, each with the tag of its line. -/
def Pvc.loadTable (p : Pvc) (w : Nat) (addr : Nat → Nat) (f : Nat → List Byte) (pr : P3) (d : R5) (is : List Nat) : List (Nat × Nat × Tag) :=
  ((List.range p.first).filter (fun i => i / (256 / w) == p.first / (256 / w) && p.pbit pr w i)).map
    (fun i => (i, p.elem d w i, p.lineTag (addr i) (w / 8))) ++ is.map (fun i => (i, leNat (f i), none))

theorem mem_loadedBefore (pr : P3) (j : Nat) :
    j ∈ (List.range p.first).filter (fun i => i / (256 / w) == p.first / (256 / w) && p.pbit pr w i) ↔
      j < p.first ∧ j / (256 / w) = p.first / (256 / w) ∧ p.pbit pr w j := by
  simp [List.mem_filter]

theorem mget_loadTable (pr : P3) (d : R5) (is : List Nat) (j : Nat) : (mget (p.loadTable w addr f pr d is) j).map (·.1) = p.loaded w f pr d is j := by
  rw [Pvc.loadTable, mget_append, mget_table _ (fun i => (p.elem d w i, p.lineTag (addr i) (w / 8))), mget_table _ (fun i => (leNat (f i), none))]
  simp only [mem_loadedBefore, Pvc.loaded]
  split
  · rfl
  · split <;> rfl

theorem loadTable_untagged {pr : P3}
    (hlines : ∀ j, j < p.first ∧ j / (256 / w) = p.first / (256 / w) ∧ p.pbit pr w j → p.lineTag (addr j) (w / 8) = none)
    {d : R5} {is : List Nat} {x : Nat × Nat × Tag} (hx : x ∈ p.loadTable w addr f pr d is) : x.2.2 = none := by
  obtain hx | hx := List.mem_append.mp hx
  · obtain ⟨i, hi, rfl⟩ := List.mem_map.mp hx
    exact hlines i ((mem_loadedBefore pr i).mp hi)
  · obtain ⟨i, -, rfl⟩ := List.mem_map.mp hx
    rfl

variable {l e : Bool} {pr : P3} {d : R5} (hp : (p.getP pr).t = false)
variable (hlines : ∀ j, j < p.first ∧ j / (256 / eWidth e) = p.first / (256 / eWidth e) ∧ p.pbit pr (eWidth e) j →
  p.lineTag (addr j) (eWidth e / 8) = none)
include hp hlines

/-- A load of untagged elements: what it writes, and where it stops. -/
theorem vLoad_untagged {is : List Nat} {stop : Option (Nat × Nat × Nat)}
    (hg : p.gather (eWidth e) addr (p.active pr (eWidth e) (p.count l e)) = (is.map (fun j => (j, leNat (f j), none)), stop)) :
    vLoad addr l e pr d p = stop.elim (.ok (p.putSpan d (p.regs l e) (eWidth e) (pr != 0) (fun _ => none) (p.loaded (eWidth e) f pr d is)).next)
      (fun x => .trap x.2.1 x.1 x.2.2
        (p.putSpan d (ceilDiv x.1 (256 / eWidth e)) (eWidth e) (pr != 0) (fun _ => none) (p.loaded (eWidth e) f pr d is))) := by
  have hmerge : ∀ j ty, mergeTag (p.pTag pr :: ((p.loadTable (eWidth e) addr f pr d is).filter (fun x => x.1 / (256 / eWidth e) == j)).map (·.2.2)) ty =
      none := by
    intro j ty
    refine mergeTag_untagged (List.forall_mem_cons.mpr ⟨pTag_untagged hp, fun t ht => ?_⟩) ty
    obtain ⟨x, hx, rfl⟩ := List.mem_map.mp ht
    exact loadTable_untagged hlines (List.mem_of_mem_filter hx)
  have hvalues := funext (mget_loadTable (addr := addr) (f := f) (p := p) (w := eWidth e) pr d is)
  simp only [Pvc.loadTable] at hmerge hvalues
  simp only [vLoad, hg, hmerge, hvalues]
  cases stop <;> rfl

theorem vLoad_done (h : ∀ j ∈ p.active pr (eWidth e) (p.count l e),
      addr j % (eWidth e / 8) = 0 ∧ p.load (addr j) (eWidth e / 8) = .bytes (f j) none) :
    vLoad addr l e pr d p = .ok (p.putSpan d (p.regs l e) (eWidth e) (pr != 0) (fun _ => none)
      (p.loaded (eWidth e) f pr d (p.active pr (eWidth e) (p.count l e)))).next :=
  vLoad_untagged hp hlines (gather_done h)

theorem vLoad_stopped {pre post : List Nat} {k cause : Nat} (his : p.active pr (eWidth e) (p.count l e) = pre ++ k :: post)
    (h : ∀ j ∈ pre, addr j % (eWidth e / 8) = 0 ∧ p.load (addr j) (eWidth e / 8) = .bytes (f j) none)
    (hk : addr k % (eWidth e / 8) ≠ 0 ∧ cause = tcAccess ∨ addr k % (eWidth e / 8) = 0 ∧ p.load (addr k) (eWidth e / 8) = .cause cause) :
    vLoad addr l e pr d p = .trap cause k (addr k) (p.putSpan d (ceilDiv k (256 / eWidth e)) (eWidth e) (pr != 0) (fun _ => none)
      (p.loaded (eWidth e) f pr d pre)) :=
  vLoad_untagged hp hlines (by rw [his]; exact gather_stopped h hk)

end

/-- The three loads: the element form behind the checks of R172, R179 and R212. -/
theorem exec_vectorLoad {s : State} {c : Nat} {p : Pvc} {d a b : R5} {pr : P3} {l e : Bool} {off : BitVec 11} {i : Instr} {addr : Nat → Nat}
    {ok : Prop} {tagged : Bool} (hi : (i, addr, ok, tagged) ∈
      [(Instr.vld c d a pr l e off, contigAddr (p.getS a).v.toNat off (eWidth e), SpansFit p l e [d], (p.getS a).t.isSome),
       (.vldb c d a b pr l e, blockAddr (p.getS a).v.toNat (p.getS b).v.toNat (eWidth e),
          SpansFit p l e [d] ∧ (p.getS b).v.toNat ∈ [1, 2, 4, 8, 16, 32, 64, 128], (p.getS a).t.isSome || (p.getS b).t.isSome),
       (.vgath c d a b pr l e, fun i => indexAddr (p.getS a).v.toNat (eWidth e) (p.elem b (eWidth e) i),
          SpansFit p l e [d, b] ∧ overlap d (p.regs l e) b (p.regs l e) = false ∧ (p.getP pr).t = false,
          (p.getS a).t.isSome || (p.spanTag b (p.regs l e)).isSome)]) :
    ∃ F : Pvc → PRes, exec i s = pvcStep c F s ∧ (ok → tagged = false → F p = vLoad addr l e pr d p) ∧
      (ok → tagged = true → F p = .fault tcAddress p) := by
  simp only [List.mem_cons, List.not_mem_nil, or_false, Prod.mk.injEq] at hi
  obtain ⟨rfl, rfl, rfl, rfl⟩ | ⟨rfl, rfl, rfl, rfl⟩ | ⟨rfl, rfl, rfl, rfl⟩ := hi
  · refine ⟨_, rfl, fun hs htag => ?_, fun hs htag => ?_⟩
    · exact vmemGuard_open hs ((any_one _).trans htag)
    · exact vmemGuard_address hs ((any_one _).trans htag)
  · refine ⟨_, rfl, fun ⟨hs, hh⟩ htag => ?_, fun ⟨hs, hh⟩ htag => ?_⟩
    · exact (vmemGuard_open hs ((any_two _ _).trans htag)).trans (legal_of (hLegal_of_mem (by simpa using hh)))
    · exact vmemGuard_address hs ((any_two _ _).trans htag)
  · refine ⟨_, rfl, fun ⟨hs, hapart, hp⟩ htag => ?_, fun ⟨hs, hapart, hp⟩ htag => ?_⟩
    · refine (legal_of (by rw [hapart]; rfl)).trans ?_
      rw [hp]
      exact vmemGuard_open hs ((any_two _ _).trans htag)
    · exact (legal_of (by rw [hapart]; rfl)).trans (vmemGuard_address hs ((any_two _ _).trans htag))

/-- Settles O20: the three loads by their common form, the elements by induction on those the instruction acts on. -/
theorem vectorLoads : Obligations.VectorLoads := by
  unfold Obligations.VectorLoads
  intro s c p d a b pr l e off h w n base hb is kept put i addr ok tagged hi
  obtain ⟨F, hexec, hload, haddress⟩ := exec_vectorLoad (s := s) hi
  rw [hexec]
  refine ⟨fun f hok htag hp hlines hall => ?done, fun f pre post k cause hok htag hp his hlines hpre hk => ?stopped,
    fun hok htag => pvcStep_faults h (haddress hok htag)⟩
  case done =>
    refine (pvcStep_completes h ((hload hok htag).trans (vLoad_done hp hlines hall)) (by simp [h.2.1]) (by simp)).trans ?_
    rfl
  case stopped =>
    rw [pvcStep_issues F h, hload hok htag, vLoad_stopped hp hlines his hpre hk, pvcPut_trap]
    rfl

end Sys2Proof.Machine
end

section
/-!
SUPPORT. The vector stores: the bytes that they leave, the last writer of an address (spec file 06, R176, R179; spec file 07, R212, R213).
-/
namespace Sys2Proof.Machine
open Sys2Proof

/-! One element stored. -/

section
variable {p : Pvc} {e : Bool} {a b x v : Nat} {t : Tag}

theorem storeCause_store (a : Nat) (l : List Byte) (t : Tag) (b n : Nat) (tagged : Bool) :
    (p.store a l t).storeCause b n tagged = p.storeCause b n tagged := by
  rw [store_frame]
  rfl

/-- An aligned element lies on one side of the end of data memory. -/
theorem aligned_side (ha : a % (eWidth e / 8) = 0) : 0x100000 ≤ a ∨ a + eWidth e / 8 ≤ 0x100000 := by
  cases e <;> simp only [eWidth, Bool.false_eq_true, if_false, if_true] at ha ⊢ <;> omega

/-- Aligned elements at two addresses share no byte. -/
theorem aligned_apart (ha : a % (eWidth e / 8) = 0) (hb : b % (eWidth e / 8) = 0) (hne : b ≠ a) (hx : x < eWidth e / 8) :
    a + x < b ∨ b + eWidth e / 8 ≤ a + x := by
  cases e <;> simp only [eWidth, Bool.false_eq_true, if_false, if_true] at ha hb hx ⊢ <;> omega

theorem byteAt_high (p : Pvc) (h : 0x100000 ≤ x) : p.byteAt x = readByte p.sram (x - 0x100000) := if_neg (Nat.not_lt.mpr h)

theorem byteAt_low (p : Pvc) (h : x < 0x100000) : p.byteAt x = readByte p.mem x := if_pos h

theorem byteAt_store_other (hx : x < a ∨ a + eWidth e / 8 ≤ x) :
    (p.store a (natLE (eWidth e / 8) v) t).byteAt x = p.byteAt x := by
  have hlen := natLE_length (eWidth e / 8) v
  obtain hlow | hhigh := Nat.lt_or_ge a 0x100000 <;> obtain hxlow | hxhigh := Nat.lt_or_ge x 0x100000
  · rw [store_low p t hlow, byteAt_low _ hxlow, byteAt_low _ hxlow]
    exact readByte_writeBytes_other _ _ _ _ (by rwa [hlen])
  · rw [store_low p t hlow, byteAt_high _ hxhigh, byteAt_high _ hxhigh]
  · rw [store_high p t hhigh, byteAt_low _ hxlow, byteAt_low _ hxlow]
  · rw [store_high p t hhigh, byteAt_high _ hxhigh, byteAt_high _ hxhigh]
    exact readByte_writeBytes_other _ _ _ _ (by rw [hlen]; omega)

theorem byteAt_store_same (ha : a % (eWidth e / 8) = 0) (hx : x < eWidth e / 8) :
    (p.store a (natLE (eWidth e / 8) v) t).byteAt (a + x) = BitVec.ofNat 8 (v / 256 ^ x) := by
  have hlen := natLE_length (eWidth e / 8) v
  rw [← natLE_getD _ _ _ hx]
  obtain hhigh | hlow := aligned_side ha
  · rw [store_high p t hhigh, byteAt_high _ (by omega), Nat.sub_add_comm hhigh]
    exact readByte_writeBytes_same _ _ _ _ (by rwa [hlen])
  · rw [store_low p t (by omega), byteAt_low _ (by omega)]
    exact readByte_writeBytes_same _ _ _ _ (by rwa [hlen])

end

/-! All elements in order. -/

/-- The run after the elements `is` are stored in their order. -/
def Pvc.stored (w : Nat) (addr data : Nat → Nat) (tag : Nat → Tag) (p : Pvc) (is : List Nat) : Pvc :=
  is.foldl (fun q i => q.store (addr i) (natLE (w / 8) (data i)) (tag i)) p

section
variable {p : Pvc} {e : Bool} {addr data : Nat → Nat} {tag : Nat → Tag} {is : List Nat}

theorem scatter_done {w : Nat} (h : ∀ j ∈ is, addr j % (w / 8) = 0 ∧ p.storeCause (addr j) (w / 8) (tag j).isSome = none) :
    p.scatter w addr data tag is = (p.stored w addr data tag is, none) := by
  induction is generalizing p with
  | nil => rfl
  | cons i is ih =>
    obtain ⟨⟨halign, hcause⟩, hrest⟩ := List.forall_mem_cons.mp h
    have htail := ih (p := p.store (addr i) (natLE (w / 8) (data i)) (tag i)) (by simpa only [storeCause_store] using hrest)
    simpa [Pvc.scatter, Pvc.stored, halign, hcause] using htail

/-- Stores reach nothing but the memories and the share types of lines. -/
theorem stored_frame {w : Nat} : p.stored w addr data tag is =
    { p with mem := (p.stored w addr data tag is).mem, sram := (p.stored w addr data tag is).sram, shares := (p.stored w addr data tag is).shares } := by
  have hshape : ∃ m r h, p.stored w addr data tag is = { p with mem := m, sram := r, shares := h } := by
    induction is generalizing p with
    | nil => exact ⟨p.mem, p.sram, p.shares, rfl⟩
    | cons i is ih =>
      obtain ⟨m, r, h, hrest⟩ := ih (p := p.store (addr i) (natLE (w / 8) (data i)) (tag i))
      exact ⟨m, r, h, hrest.trans (by rw [store_frame])⟩
  obtain ⟨m, r, h, hshape⟩ := hshape
  rw [hshape]

theorem byteAt_stored_other {x : Nat} (hx : ∀ j ∈ is, x < addr j ∨ addr j + eWidth e / 8 ≤ x) :
    (p.stored (eWidth e) addr data tag is).byteAt x = p.byteAt x := by
  induction is generalizing p with
  | nil => rfl
  | cons i is ih =>
    obtain ⟨hxi, hxrest⟩ := List.forall_mem_cons.mp hx
    exact (ih hxrest).trans (byteAt_store_other hxi)

/-- An element to whose address no later one goes. -/
theorem byteAt_stored_last (hsorted : is.Pairwise (· < ·)) (halign : ∀ j ∈ is, addr j % (eWidth e / 8) = 0) {j : Nat} (hj : j ∈ is)
    (hlast : ∀ k ∈ is, j < k → addr k ≠ addr j) {x : Nat} (hx : x < eWidth e / 8) :
    (p.stored (eWidth e) addr data tag is).byteAt (addr j + x) = BitVec.ofNat 8 (data j / 256 ^ x) := by
  induction is generalizing p with
  | nil => simp at hj
  | cons i is ih =>
    obtain ⟨hi, hrest⟩ := List.forall_mem_cons.mp halign
    obtain ⟨hfirst, htail⟩ := List.pairwise_cons.mp hsorted
    obtain ⟨-, hlater⟩ := List.forall_mem_cons.mp hlast
    obtain rfl | hj := List.mem_cons.mp hj
    · refine (byteAt_stored_other (is := is) fun k hk => ?_).trans (byteAt_store_same hi hx)
      exact aligned_apart hi (hrest k hk) (hlater k hk (hfirst k hk)) hx
    · exact ih htail hrest hj hlater

end

theorem active_sorted (p : Pvc) (pr : P3) (w n : Nat) : (p.active pr w n).Pairwise (· < ·) := List.pairwise_lt_range.filter _

/-! The store of a span. -/

section
variable {p : Pvc} {addr : Nat → Nat} {l e : Bool} {pr : P3} {d : R5}

theorem vStore_done (h : ∀ j ∈ p.active pr (eWidth e) (p.count l e), addr j % (eWidth e / 8) = 0 ∧
      p.storeCause (addr j) (eWidth e / 8) (p.getW (spanReg d (j / (256 / eWidth e)))).t.isSome = none) :
    vStore addr l e pr d p = .ok (p.stored (eWidth e) addr (p.elem d (eWidth e)) (fun j => (p.getW (spanReg d (j / (256 / eWidth e)))).t)
      (p.active pr (eWidth e) (p.count l e))).next := by
  have hflow : (p.active pr (eWidth e) (p.count l e)).any (fun i =>
      p.storeCause (addr i) (eWidth e / 8) (p.getW (spanReg d (i / (256 / eWidth e)))).t.isSome == some tcStore) = false := by
    rw [List.any_eq_false]
    intro j hj
    simp [(h j hj).2]
  simp only [vStore, hflow, scatter_done h, Bool.false_eq_true, if_false]

theorem vStore_flow (h : ∃ j ∈ p.active pr (eWidth e) (p.count l e),
      p.storeCause (addr j) (eWidth e / 8) (p.getW (spanReg d (j / (256 / eWidth e)))).t.isSome = some tcStore) :
    vStore addr l e pr d p = .fault tcStore p := by
  obtain ⟨j, hj, hcause⟩ := h
  exact if_pos (List.any_eq_true.mpr ⟨j, hj, by rw [hcause]; rfl⟩)

end

/-- The three stores: the element form behind the checks of R172, R179 and R212. -/
theorem exec_vectorStore {s : State} {c : Nat} {p : Pvc} {d a b : R5} {pr : P3} {l e : Bool} {off : BitVec 11} {i : Instr} {addr : Nat → Nat}
    {ok : Prop} {tagged : Bool} (hi : (i, addr, ok, tagged) ∈
      [(Instr.vst c d a pr l e off, contigAddr (p.getS a).v.toNat off (eWidth e), SpansFit p l e [d], (p.getS a).t.isSome),
       (.vstb c d a b pr l e, blockAddr (p.getS a).v.toNat (p.getS b).v.toNat (eWidth e),
          SpansFit p l e [d] ∧ (p.getS b).v.toNat ∈ [1, 2, 4, 8, 16, 32, 64, 128], (p.getS a).t.isSome || (p.getS b).t.isSome),
       (.vscat c d a b pr l e, fun i => indexAddr (p.getS a).v.toNat (eWidth e) (p.elem b (eWidth e) i),
          SpansFit p l e [d, b] ∧ overlap d (p.regs l e) b (p.regs l e) = false, (p.getS a).t.isSome || (p.spanTag b (p.regs l e)).isSome)]) :
    ∃ F : Pvc → PRes, exec i s = pvcStep c F s ∧ (ok → tagged = false → (p.getP pr).t = false → F p = vStore addr l e pr d p) ∧
      (ok → tagged = false → (p.getP pr).t = true → F p = .fault tcStore p) ∧ (ok → tagged = true → F p = .fault tcAddress p) := by
  simp only [List.mem_cons, List.not_mem_nil, or_false, Prod.mk.injEq] at hi
  obtain ⟨rfl, rfl, rfl, rfl⟩ | ⟨rfl, rfl, rfl, rfl⟩ | ⟨rfl, rfl, rfl, rfl⟩ := hi
  · refine ⟨_, rfl, fun hs htag hp => ?_, fun hs htag hp => ?_, fun hs htag => vmemGuard_address hs ((any_one _).trans htag)⟩ <;> rw [hp]
    · exact vmemGuard_open hs ((any_one _).trans htag)
    · exact vmemGuard_predicate hs ((any_one _).trans htag)
  · refine ⟨_, rfl, fun ⟨hs, hh⟩ htag hp => ?_, fun ⟨hs, hh⟩ htag hp => ?_,
      fun ⟨hs, hh⟩ htag => vmemGuard_address hs ((any_two _ _).trans htag)⟩ <;> rw [hp]
    · exact (vmemGuard_open hs ((any_two _ _).trans htag)).trans (legal_of (hLegal_of_mem (by simpa using hh)))
    · exact vmemGuard_predicate hs ((any_two _ _).trans htag)
  · have hlegal : ∀ {k : Pvc → PRes}, overlap d (p.regs l e) b (p.regs l e) = false → legal (!overlap d (p.regs l e) b (p.regs l e)) k p = k p :=
      fun hapart => legal_of (by rw [hapart]; rfl)
    refine ⟨_, rfl, fun ⟨hs, hapart⟩ htag hp => (hlegal hapart).trans ?_, fun ⟨hs, hapart⟩ htag hp => (hlegal hapart).trans ?_,
      fun ⟨hs, hapart⟩ htag => (hlegal hapart).trans (vmemGuard_address hs ((any_two _ _).trans htag))⟩ <;> rw [hp]
    · exact vmemGuard_open hs ((any_two _ _).trans htag)
    · exact vmemGuard_predicate hs ((any_two _ _).trans htag)

/-- Settles O21: the three stores by their common form, the bytes by induction on the elements in their order. -/
theorem vectorStores : Obligations.VectorStores := by
  unfold Obligations.VectorStores
  intro s c p d a b pr l e off h w n base hb is tag i addr ok tagged hi
  obtain ⟨F, hexec, hstore, hpredicate, haddress⟩ := exec_vectorStore (s := s) hi
  rw [hexec]
  refine ⟨fun hok htag hp hall => ?done, fun hok htag hp hflow => pvcStep_faults h ((hstore hok htag hp).trans (vStore_flow hflow)),
    fun hok htag hp => pvcStep_faults h (hpredicate hok htag hp), fun hok htag => pvcStep_faults h (haddress hok htag)⟩
  have halign : ∀ j ∈ is, addr j % (eWidth e / 8) = 0 := fun j hj => (hall j hj).1
  have hframe : (p.stored w addr (p.elem d w) tag is) = _ := stored_frame
  refine ⟨(p.stored w addr (p.elem d w) tag is).next, pvcStep_completes h ((hstore hok htag hp).trans (vStore_done hall)) ?_ ?_,
    congrArg Pvc.next hframe, fun x hx => byteAt_stored_other hx,
    fun j hj hlast x hx => byteAt_stored_last (active_sorted p pr w _) halign hj hlast hx⟩
  · rw [hframe]
    exact h.2.1
  · rw [hframe]
    rfl

end Sys2Proof.Machine
end

section
/-!
SUPPORT. Rejection sampling: the blocks of a unit, the candidates they give, and where the sampling stops (spec file 06, R167; spec file 07,
R215).
-/
namespace Sys2Proof.Machine
open Sys2Proof

/-! The blocks of a squeezing unit. -/

theorem squeezed_add (m n : Nat) (st : List Byte) : squeezed (m + n) st = squeezed m (squeezed n st) := by
  induction n generalizing st with
  | zero => rfl
  | succ n ih => exact ih (keccakF st)

/-- The permutations before the unit's first whole block: one where a block is in use. -/
def Sponge.lead (x : Sponge) : Nat := if x.pos = 0 then 0 else 1

/-- The k-th whole block from here on. -/
def Sponge.block (x : Sponge) (k : Nat) : List Byte := (squeezed (k + x.lead) x.st).take x.rate

/-- The unit once n whole blocks are taken. -/
def Sponge.after (x : Sponge) (n : Nat) : Sponge := if n = 0 then x else { x with st := squeezed (n - 1 + x.lead) x.st, pos := x.rate }

/-- The accepted candidates of n whole blocks. -/
def Sponge.accepted (x : Sponge) (mode q n : Nat) : List Nat := (List.range n).flatMap (fun k => (candidates mode (x.block k)).filter (· < q))

section
variable {x : Sponge}

theorem nextBlock_eq (x : Sponge) : x.nextBlock = (x.block 0, x.after 1) := by
  by_cases h : x.pos = 0
  · simp [Sponge.nextBlock, Sponge.block, Sponge.after, Sponge.lead, h, squeezed]
  · simp [Sponge.nextBlock, Sponge.block, Sponge.after, Sponge.lead, h, squeezed, Sponge.perm]

section
variable (hr : 0 < x.rate)
include hr

theorem lead_after_one : (x.after 1).lead = 1 := if_neg (Nat.pos_iff_ne_zero.mp hr)

theorem block_after_one (k : Nat) : (x.after 1).block k = x.block (k + 1) := by
  have hst : (x.after 1).st = squeezed x.lead x.st := congrArg (squeezed · x.st) (Nat.zero_add _)
  rw [Sponge.block, lead_after_one hr, hst, ← squeezed_add]
  rfl

theorem after_after_one (n : Nat) : (x.after 1).after n = x.after (n + 1) := by
  have hst : (x.after 1).st = squeezed x.lead x.st := congrArg (squeezed · x.st) (Nat.zero_add _)
  cases n with
  | zero => rfl
  | succ n =>
    rw [Sponge.after, if_neg n.succ_ne_zero, lead_after_one hr, hst, ← squeezed_add]
    rfl

theorem accepted_succ (mode q n : Nat) : x.accepted mode q (n + 1) = (candidates mode (x.block 0)).filter (· < q) ++ (x.after 1).accepted mode q n := by
  simp only [Sponge.accepted, List.range_succ_eq_map, List.flatMap_cons, List.flatMap_map, block_after_one hr]

end

/-- Without a bound on the candidates the sampling takes all its blocks. -/
theorem sample_all (hr : 0 < x.rate) (mode q n : Nat) : sample mode q none n x = (x.accepted mode q n, x.after n) := by
  induction n generalizing x with
  | zero => rfl
  | succ n ih =>
    have hrest := ih (x := x.after 1) hr
    simp only [sample, nextBlock_eq, hrest, accepted_succ hr, after_after_one hr]

/-- With one it stops with the block that gives enough. -/
theorem sample_wanted (hr : 0 < x.rate) (mode q : Nat) {want : Nat} (hw : 0 < want) (lim : Nat) :
    ∃ n, n ≤ lim ∧ (n = lim ∨ want ≤ (x.accepted mode q n).length) ∧ (∀ k, k < n → (x.accepted mode q k).length < want) ∧
      sample mode q (some want) lim x = ((x.accepted mode q n).take want, x.after n) := by
  induction lim generalizing x want with
  | zero => exact ⟨0, le_rfl, .inl rfl, fun k hk => absurd hk k.not_lt_zero, Prod.ext List.take_nil.symm rfl⟩
  | succ lim ih =>
    have hone : x.accepted mode q 1 = (candidates mode (x.block 0)).filter (· < q) := (accepted_succ hr mode q 0).trans (List.append_nil _)
    have hnone : (x.accepted mode q 0).length < want := hw
    by_cases henough : want ≤ ((candidates mode (x.block 0)).filter (· < q)).length
    · refine ⟨1, by omega, .inr (by rwa [hone]), fun k hk => by rwa [Nat.lt_one_iff.mp hk], ?_⟩
      simp only [sample, nextBlock_eq, if_pos henough, hone]
    · obtain ⟨n, hn, hstop, hbefore, hrest⟩ := ih (x := x.after 1) hr (want := want - ((candidates mode (x.block 0)).filter (· < q)).length) (by omega)
      have hlength : ∀ k, (x.accepted mode q (k + 1)).length =
          ((candidates mode (x.block 0)).filter (· < q)).length + ((x.after 1).accepted mode q k).length := fun k => by
        rw [accepted_succ hr, List.length_append]
      refine ⟨n + 1, by omega, hstop.imp (by omega) (fun h => by rw [hlength]; omega), fun k hk => ?_, ?_⟩
      · cases k with
        | zero => exact hnone
        | succ k =>
          have hk := hbefore k (by omega)
          rw [hlength]
          omega
      · simp only [sample, nextBlock_eq, if_neg henough, hrest, after_after_one hr]
        rw [accepted_succ hr, List.take_append, List.take_of_length_le (Nat.le_of_not_le henough)]

/-! A unit brought to the end of its block. -/

theorem lead_atBlock (hr : 0 < x.rate) : x.atBlock.lead = x.lead := by
  by_cases h : x.pos = 0
  · simp [Sponge.atBlock, h]
  · simp [Sponge.atBlock, Sponge.lead, h, Nat.pos_iff_ne_zero.mp hr]

theorem atBlock_form (x : Sponge) : x.atBlock = { x with pos := if x.pos = 0 then 0 else x.rate } := by
  by_cases h : x.pos = 0
  · simp only [Sponge.atBlock, h, if_true]
    rw [← h]
  · simp only [Sponge.atBlock, h, if_false]

theorem accepted_atBlock (hr : 0 < x.rate) (mode q n : Nat) : x.atBlock.accepted mode q n = x.accepted mode q n := by
  simp only [Sponge.accepted, Sponge.block, lead_atBlock hr]
  simp only [atBlock_form]

theorem after_atBlock (hr : 0 < x.rate) (n : Nat) : x.atBlock.after n =
    { x with st := if n = 0 then x.st else squeezed (n - 1 + x.lead) x.st, pos := if n = 0 ∧ x.pos = 0 then 0 else x.rate } := by
  cases n with
  | zero => simp [Sponge.after, atBlock_form]
  | succ n =>
    rw [Sponge.after, lead_atBlock hr]
    simp [atBlock_form]

/-- The blocks that a sampling consumes: all where the unit or the count is secret, else up to the one that gives enough. -/
theorem sample_blocks (hr : 0 < x.rate) (mode q lim room : Nat) {tagged : Bool} (hroom : tagged = false → 0 < room) :
    ∃ n, n ≤ lim ∧ (tagged = true → n = lim) ∧
      (tagged = false → (n = lim ∨ room ≤ (x.accepted mode q n).length) ∧ ∀ k, k < n → (x.accepted mode q k).length < room) ∧
      ∃ got, got.take room = (x.accepted mode q n).take room ∧
        sample mode q (if tagged then none else some room) lim x.atBlock = (got, x.atBlock.after n) := by
  have hrate : 0 < x.atBlock.rate := by rwa [atBlock_form]
  cases tagged with
  | true =>
    refine ⟨lim, le_rfl, fun _ => rfl, by simp, x.accepted mode q lim, rfl, ?_⟩
    rw [← accepted_atBlock hr]
    exact sample_all hrate mode q lim
  | false =>
    obtain ⟨n, hn, hstop, hbefore, hsample⟩ := sample_wanted hrate mode q (hroom rfl) lim
    simp only [accepted_atBlock hr] at hstop hbefore hsample
    exact ⟨n, hn, by simp, fun _ => ⟨hstop, hbefore⟩, _, by rw [List.take_take, Nat.min_self], hsample⟩

/-- The unit after n blocks: at the end of one, but for a secret unit at its start that gave none. -/
theorem after_atBlock_pos (hr : 0 < x.rate) (n : Nat) (tagged : Bool) :
    (if tagged then x.atBlock.after n else { x.atBlock.after n with pos := (x.atBlock.after n).rate }) =
      { x with st := if n = 0 then x.st else squeezed (n - 1 + x.lead) x.st, pos := if tagged = true ∧ n = 0 ∧ x.pos = 0 then 0 else x.rate } := by
  rw [after_atBlock hr]
  cases tagged <;> simp

end

/-! VREJ. -/

section
variable {p : Pvc} {mode : Nat} {m : BitVec 2} {u e : Bool} {d a b : R5} {x : Sponge}

theorem exec_vrej {s : State} {c : Nat} {mode : BitVec 2} (h : Issues s c p) (hmode : mode ≠ 3) (hq : p.qOk m (eWidth e) = true) (hu : p.mayUse u) :
    exec (.vrej c mode u false m d a b 0 true e) s = .next (pvcPut c p (vrejOp mode.toNat u m d a b e p) s) := by
  have hfields : (true && (0 : P3) == 0 && !false && mode != 3 && p.qOk m (eWidth e)) = true := by
    simpa [hq] using hmode
  have hform : legal (true && (0 : P3) == 0 && !false && mode != 3 && p.qOk m (eWidth e))
      (unitField (if u then 1 else 0) (fun u => vrejOp mode.toNat u m d a b e)) p = vrejOp mode.toNat u m d a b e p :=
    (legal_of hfields).trans (unitField_ok (fun u => vrejOp mode.toNat u m d a b e) hu)
  rw [← hform]
  exact pvcStep_issues _ h

theorem vrejOp_unfit (hbad : p.unitUnfit u true) : vrejOp mode u m d a b e p = .fault tcSponge p := withUnit_unfit hbad

variable (hx : p.unit u = some x) (hsq : x.squeeze = true) (hs : SpansFit p true e [d])
include hx hsq hs

theorem vrejOp_bound (hb : (p.getS b).t.isSome) : vrejOp mode u m d a b e p = .fault tcControl p := by
  refine (withUnit_ok hx hsq).trans ?_
  unfold SpansFit at hs
  simp only [hs, hb, Bool.false_eq_true, if_false, if_true]

theorem vrejOp_full (hb : (p.getS b).t = none) (ha : (p.getS a).t = none) (hfull : p.len ≤ (p.getS a).v.toNat) :
    vrejOp mode u m d a b e p = .ok p.next := by
  refine (withUnit_ok hx hsq).trans ?_
  unfold SpansFit at hs
  simp [hs, hb, ha, hfull]

/-- What VREJ writes from the candidates that its sampling gives. -/
theorem vrejOp_samples (hb : (p.getS b).t = none) (hroom : (p.getS a).t = none → (p.getS a).v.toNat < p.len) {tagged : Bool}
    (htagged : (x.tagged || (p.getS a).t.isSome) = tagged) {start : Nat} (hstart : (p.getS a).v.toNat = start) {r : List Nat × Sponge}
    (hr : sample mode (p.q m) (if tagged then none else some (p.len - start)) (p.getS b).v.toNat x.atBlock = r) :
    vrejOp mode u m d a b e p = .ok (((p.putSpan d (p.regs true e) (eWidth e) false
        (fun j => if (p.getS a).t.isSome || decide (start < (j + 1) * (256 / eWidth e)) then (if tagged then some .bool else none) else none)
        (fun i => if start ≤ i then (r.1.take (p.len - start))[i - start]? else none)).setS a (BitVec.ofNat 32 (start + (r.1.take (p.len - start)).length))
        (if tagged then some .bool else none)).setUnit u (some (if tagged then r.2 else { r.2 with pos := r.2.rate }))).next := by
  subst hr htagged hstart
  have hgo : ((p.getS a).t.isNone && decide ((p.getS a).v.toNat ≥ p.len)) = false := by
    cases ha : (p.getS a).t with
    | none => simp [hroom ha]
    | some t => rfl
  refine (withUnit_ok hx hsq).trans ?_
  unfold SpansFit at hs
  simp only [hs, hb, hgo, Bool.false_eq_true, if_false, Option.isSome_none]

end

/-- Settles O23: the blocks by induction on their number, with a bound on the candidates and without. -/
theorem rejectionSampling : Obligations.RejectionSampling := by
  unfold Obligations.RejectionSampling
  refine ⟨fun s c p mode m u e d a b h => ?vrej, fun b0 b1 b2 => ⟨rfl, rfl, rfl⟩⟩
  intro start lim q room hmode hq hfit hu
  have hexec := exec_vrej (d := d) (a := a) (b := b) h hmode (qOk_iff.mpr ⟨hq, hfit⟩) hu
  refine ⟨fun hbad => ?unfit, fun x hx hsq hr hs => ⟨fun hb => ?bound, fun hb ha hfull => ?full, fun hb hroom => ?samples⟩⟩ <;> rw [hexec]
  case unfit => rw [vrejOp_unfit hbad, pvcPut_fault]
  case bound => rw [vrejOp_bound hx hsq hs hb, pvcPut_fault]
  case full => rw [vrejOp_full hx hsq hs hb ha hfull, pvcPut_plain (p := p) (q := p.next) h.2.1 rfl]
  case samples =>
    have hpos : (x.tagged || (p.getS a).t.isSome) = false → 0 < room := by
      intro hno
      have ha : (p.getS a).t = none := by simpa using (Bool.or_eq_false_iff.mp hno).2
      exact Nat.sub_pos_of_lt (hroom ha)
    obtain ⟨n, hn, hall, hstop, got, hgot, hsample⟩ := sample_blocks hr mode.toNat q lim room hpos
    refine ⟨n, hn, hall, hstop, ?_⟩
    rw [vrejOp_samples hx hsq hs hb hroom rfl rfl hsample, hgot, after_atBlock_pos hr, pvcPut_plain (by simp [h.2.1]) (by simp)]
    rfl

end Sys2Proof.Machine
end

section
/-!
SUPPORT. Commands of the digest engine (spec file 08): what the row of each answers, where a validated command goes, the keyed-state cache, and
the spill of idle contexts.
-/
namespace Sys2Proof.Machine
open Sys2Proof

/-! The keyed-state cache (R240). -/

section
variable {s : State} {c : Cmd} {k : KeyMat}

theorem useKsc_frame (s : State) (c : Cmd) : s.useKsc c = { s with dg := (s.useKsc c).dg, regs := (s.useKsc c).regs } := by
  unfold State.useKsc
  (repeat' split) <;> rfl

theorem useKsc_unused (h : c.usesKsc = false) : s.useKsc c = s := by
  unfold State.useKsc
  split
  · rfl
  · rw [h]
    rfl

/-- The slots, those that serve the command marked as used at a time. -/
def State.kscTouched (s : State) (c : Cmd) (t : Nat) : List KscSlot :=
  s.dg.ksc.map (fun (x : KscSlot) => if x.serves c then { x with used := t } else x)

theorem useKsc_hit (hkey : c.k1 = some k) (huse : c.usesKsc = true) (hany : s.dg.ksc.any (fun x => x.serves c) = true) :
    s.useKsc c = ({ s with dg := { s.dg with ksc := s.kscTouched c (s.dg.clock + 1), clock := s.dg.clock + 1 } } : State).incF
      Reg.DGE_KSC_HIT 15 0 1 := by
  simp only [State.useKsc, hkey, huse, hany]
  rfl

/-- The slot that a command's key is stored in. -/
def KeyMat.kscSlot (k : KeyMat) (alg t : Nat) : KscSlot :=
  ⟨k.handle, k.uid, alg, (dgOpen alg k.priv []).st, (dgOpen alg k.priv []).outer, t⟩

theorem useKsc_miss (hkey : c.k1 = some k) (huse : c.usesKsc = true) (hany : s.dg.ksc.any (fun x => x.serves c) = false)
    (hroom : s.dg.ksc.length < 256) :
    s.useKsc c = ({ s with dg := { s.dg with ksc := s.dg.ksc ++ [k.kscSlot c.par (s.dg.clock + 1)], clock := s.dg.clock + 1 } } : State).incF
      Reg.DGE_KSC_HIT 31 16 1 := by
  have hfree : s.kscRoom = some s.dg.ksc := if_pos hroom
  simp only [State.useKsc, hkey, huse, hany, hfree]
  rfl

end

/-! Where a validated command goes (R236, R237). -/

section
variable {s : State} {id : Nat} {c : Cmd}

theorem ownSlot_iff : c.ownSlot = true ↔ c.op = 0x0C01 ∨ c.op = 0x0C02 ∨ c.op = 0x0C03 ∨ c.op = 0x0C10 ∨ c.op = 0x0C19 := by
  simp [Cmd.ownSlot, or_assoc]

/-- A command that goes to its turns is ready for the first, with a leg of its own. -/
theorem toTurns_ready (s : State) (id : Nat) (c : Cmd) : let t := s.toTurns id c
    (∃ x, mget t.cmds id = some x ∧ x.phase = .ready ∧ x.desc = c.desc ∧ x.inp = c.inp ∧ x.note = zeros 4 ++ natLE 8 (s.dg.clock + 1) ∧
      x.legs = [⟨.dge, if s.dgKeyedWork c then 2 else 1, [], [], none, [], []⟩]) ∧
    t.dg = { s.dg with clock := s.dg.clock + 1 } ∧ t.regs = s.regs ∧ t.tx = s.tx :=
  ⟨⟨_, mget_mput_same _ _ _, rfl, rfl, rfl, rfl, rfl⟩, rfl, rfl, rfl⟩

theorem dgNext_ownSlot_free (hget : mget s.cmds id = some c) (hown : c.ownSlot = true) (hfree : s.slotsUsed < 1024) :
    s.dgNext id = s.toTurns id c := by
  simp only [State.dgNext, hget, hown, hfree, decide_true, if_true]

theorem dgNext_ownSlot_full (hget : mget s.cmds id = some c) (hown : c.ownSlot = true) (hfull : 1024 ≤ s.slotsUsed) (hup : s.nrgDown = false) :
    s.dgNext id = (s.setCmd id { c with phase := .waitSlot, since := s.now }).askSpill (fun _ => false) := by
  simp only [State.dgNext, hget, hown, Nat.not_lt.mpr hfull, hup, decide_false, Bool.false_and, Bool.false_eq_true, if_true, if_false]

theorem dgNext_notOpen (hget : mget s.cmds id = some c) (hown : c.ownSlot = false) (hnone : s.dctxOpen c.fn c.ctx = none) :
    s.dgNext id = s.complete id (.late St.STATE) := by
  simp only [State.dgNext, hget, hown, hnone, Bool.false_eq_true, if_false]

theorem dgNext_resident {x : Dctx} (hget : mget s.cmds id = some c) (hown : c.ownSlot = false) (hopen : s.dctxOpen c.fn c.ctx = some x)
    (hres : x.resident = true) : s.dgNext id = s.toTurns id c := by
  simp only [State.dgNext, hget, hown, hopen, hres, Bool.false_eq_true, if_true, if_false]

/-- The state in which a validated command is taken in, its keyed-state slot read or stored. -/
def State.dgTaken (s : State) (id : Nat) (c : Cmd) : State := ({ s with cmds := mput s.cmds id c } : State).useKsc c

theorem dgTaken_frame (s : State) (id : Nat) (c : Cmd) :
    s.dgTaken id c = { s with cmds := mput s.cmds id c, dg := (s.dgTaken id c).dg, regs := (s.dgTaken id c).regs } := useKsc_frame _ c

theorem mget_dgTaken (s : State) (id : Nat) (c : Cmd) : mget (s.dgTaken id c).cmds id = some c := by
  rw [dgTaken_frame]
  exact mget_mput_same _ _ _

theorem dgTaken_tx (s : State) (id : Nat) (c : Cmd) : (s.dgTaken id c).tx = s.tx := by rw [dgTaken_frame]

theorem dgTaken_now (s : State) (id : Nat) (c : Cmd) : (s.dgTaken id c).now = s.now := by rw [dgTaken_frame]

theorem dgAdmit_next (s : State) (id : Nat) (hneed : c.need = 0) : s.dgAdmit id c = (s.dgTaken id c).dgNext id :=
  if_neg (by omega)

theorem dgAdmit_draws (s : State) (id : Nat) (hneed : 0 < c.need) : s.dgAdmit id c = (s.dgTaken id c).askRand id c := if_pos hneed

end

/-! The rows (R230 to R235). -/

/-- The rows of the nine commands that take turns, with their opcodes and validations. -/
noncomputable def dgRows (s : State) (id : Nat) (h : HostRead) : List (Instr × Nat × (Cmd → Except Done Cmd)) :=
  [(.digest id h, 0x0C01, fun c => s.oneShotVal c h), (.mac id h, 0x0C02, fun c => s.oneShotVal c h),
    (.macVerify id h, 0x0C03, fun c => s.oneShotVal c h), (.init id h, 0x0C10, fun c => s.initVal c h),
    (.update id h, 0x0C11, fun c => s.contVal c h), (.final id h, 0x0C12, fun c => s.contVal c h),
    (.finalVerify id h, 0x0C13, fun c => s.contVal c h), (.save id h, 0x0C18, fun c => s.contVal c h),
    (.restore id h, 0x0C19, fun c => s.restoreVal c h)]

theorem exec_dgRows (s : State) (id : Nat) (h : HostRead) :
    ∀ p ∈ dgRows s id h, exec p.1 s = dgRow p.2.1 id p.2.2 s ∧ p.2.1 ≤ 0x0C1A := by
  simp only [dgRows, List.forall_mem_cons]
  refine ⟨⟨rfl, ?_⟩, ⟨rfl, ?_⟩, ⟨rfl, ?_⟩, ⟨rfl, ?_⟩, ⟨rfl, ?_⟩, ⟨rfl, ?_⟩, ⟨rfl, ?_⟩, ⟨rfl, ?_⟩, ⟨rfl, ?_⟩, List.forall_mem_nil _⟩ <;> decide

section
variable {s : State} {id op : Nat} {c : Cmd} {host : HostRead}

theorem dgRow_eq (h : MayStart s id c) (hop : c.op = op) (f : Cmd → Except Done Cmd) :
    dgRow op id f s = if c.namesDctx && s.dctxBusy id c then .next s else .next (s.dgValidated id c (f c)) := by
  obtain ⟨hst, hbehind, hv⟩ := h
  refine (opRow_eq hst hv).trans ?_
  cases c.namesDctx && s.dctxBusy id c <;> simp [hop, hbehind]

/-- A command waits while an earlier one on its context has not ended (R235); else its validation decides. -/
theorem exec_dgRows_started (h : MayStart s id c) {p : Instr × Nat × (Cmd → Except Done Cmd)} (hp : p ∈ dgRows s id host) (hop : c.op = p.2.1) :
    (0x0C10 ≤ p.2.1 → s.dctxBusy id c = true → exec p.1 s = .next s) ∧
    ((0x0C10 ≤ p.2.1 → s.dctxBusy id c = false) → exec p.1 s = .next (s.dgValidated id c (p.2.2 c))) := by
  obtain ⟨hexec, hle⟩ := exec_dgRows s id host p hp
  rw [dgRow_eq h hop] at hexec
  have hnames : c.namesDctx = decide (0x0C10 ≤ p.2.1) := by simp [Cmd.namesDctx, hop, hle]
  refine ⟨fun hlo hbusy => hexec.trans (if_pos (by simp [hnames, hlo, hbusy])), fun hidle => hexec.trans (if_neg ?_)⟩
  by_cases hlo : 0x0C10 ≤ p.2.1
  · simp [hidle hlo]
  · simp [hnames, hlo]

theorem exec_releaseContext (h : MayStart s id c) (hop : c.op = 0x0C1A) (hidle : s.dctxBusy id c = false) :
    exec (.release id host) s = .next (s.atOnce id c (s.releaseOp c host)) :=
  opRow_next h (by simp [hop, hidle])

theorem exec_epochAdvance (h : MayStart s id c) (hop : c.op = 0x0C20) :
    exec (.epochAdvance id host) s = .next (s.atOnce id c (s.epochOp c host)) := keyRow0_next h hop _

theorem releaseOp_frees (hplain : c.dgPlain = true) (hpar : c.par = 0) (hbare : c.bare host = .ok (c.withFlatOut host)) (hctx : c.ctx < 4096) :
    s.releaseOp c host = .ok ({ s with dg := { s.dg with ctxs := mdel s.dg.ctxs (dctxKey c.fn c.ctx) } }, .ok 0 []) := by
  have hgood : (decide (c.ctx < 4096) && c.dgPlain && s.dgByte3 c) = true := by simp [hctx, hplain, State.dgByte3, hpar]
  simp only [State.releaseOp, need_true hgood, hbare, ok_bind]
  rfl

theorem releaseOp_beyond (hctx : 4096 ≤ c.ctx) : s.releaseOp c host = .error (.err St.BAD_FIELD) := by
  simp only [State.releaseOp, Nat.not_lt.mpr hctx, decide_false, Bool.false_and]
  rfl

theorem epochOp_advances (hplain : c.dgPlain = true) (hpar : c.par = 0) (hbare : c.bare host = .ok (c.withFlatOut host)) (hctx : c.ctx = 0) :
    let e := ((mget s.dg.saveEpoch c.fn).getD 0 + 1) % 2 ^ 32
    s.epochOp c host = .ok ({ s with dg := { s.dg with saveEpoch := mput s.dg.saveEpoch c.fn e } }, .ok 0 (natLE 4 e)) := by
  have hgood : (c.dgPlain && c.par == 0 && c.ctx == 0) = true := by simp [hctx, hplain, hpar]
  simp only [State.epochOp, need_true hgood, hbare, ok_bind]
  rfl

theorem epochOp_context (hctx : c.ctx ≠ 0) : s.epochOp c host = .error (.err St.BAD_FIELD) := by
  have hbad : (c.dgPlain && c.par == 0 && c.ctx == 0) = false := by simp [hctx]
  simp only [State.epochOp, hbad]
  rfl

end

/-! Spills (R236, R242). -/

section
variable {s : State}

/-- The context chosen to be spilled is none of those passed over. -/
theorem spillVictim_not_skipped {skip : Nat → Bool} {k : Nat} (h : s.spillVictim skip = some k) : skip k = false := by
  have hkept : ∀ x ∈ s.dg.ctxs.filter (fun c => c.2.state == .opened && c.2.resident && s.dctxIdle c.1 && !skip c.1), skip x.1 = false := by
    intro x hx
    simpa using (Bool.and_eq_true_iff.mp (List.mem_filter.mp hx).2).2
  unfold State.spillVictim at h
  generalize s.dg.ctxs.filter (fun c => c.2.state == .opened && c.2.resident && s.dctxIdle c.1 && !skip c.1) = l at h hkept
  cases l with
  | nil => cases h
  | cons x t =>
    obtain ⟨hx, ht⟩ := List.forall_mem_cons.mp hkept
    obtain rfl := Option.some.inj h
    refine List.foldlRecOn (motive := fun (a : Nat × Dctx) => skip a.1 = false) t _ hx (fun a ha b hb => ?_)
    split
    · exact ht b hb
    · exact ha

theorem askSpill_cases (s : State) (skip : Nat → Bool) : s.askSpill skip = s ∨
    ∃ k, skip k = false ∧ s.askSpill skip = s.nrgAsk 2 21 (.spillNonce k) 32 := by
  unfold State.askSpill
  split
  · exact .inl rfl
  · split
    next k hk => exact .inr ⟨k, spillVictim_not_skipped hk, rfl⟩
    next => exact .inl rfl

/-- A request for a nonce adds to the generator's queue alone. -/
theorem askSpill_frame (s : State) (skip : Nat → Bool) : s.askSpill skip = { s with nrg := (s.askSpill skip).nrg } := by
  obtain h | ⟨k, -, h⟩ := askSpill_cases s skip
  · rw [h]
  · rw [h]
    rfl

/-- The state once the write of a spill has failed, before another context is tried. -/
def State.spillFailed (s : State) (k : Nat) : State :=
  (({ s with nrg := { s.nrg with queue := s.nrg.queue.filter (fun r => r.who != .spillNonce k) } } : State).incF Reg.DGE_SPILL_ERR 15 0 1).flt1 288 0

theorem spillFailed_sansReports (s : State) (k : Nat) : (s.spillFailed k).sansReports =
    ({ s with nrg := { s.nrg with queue := s.nrg.queue.filter (fun r => r.who != .spillNonce k) } } : State).sansReports :=
  sansReports_fault (by decide) _ 288 false false false

theorem exec_spillWriteFail_none (h : ∀ r ∈ s.nrg.queue, ∀ k, r.who ≠ .spillNonce k) : exec .spillWriteFail s = .next s := by
  change execSpillWriteFail s = .next s
  unfold execSpillWriteFail
  split
  next k _ _ hfind => exact absurd rfl (h _ (List.mem_of_find?_eq_some hfind) k)
  next => rfl

theorem exec_spillWriteFail_one {k a cls reqr time : Nat} (h : s.nrg.queue = [⟨cls, reqr, .spillNonce k, a, time⟩]) :
    exec .spillWriteFail s = .next ((s.spillFailed k).askSpill (· == k)) := by
  change execSpillWriteFail s = _
  unfold execSpillWriteFail State.spillFailed
  rw [h]
  rfl

end

/-- Settles O34: the rows by their common form, and a validated command by the slot it has or wants. -/
theorem digestCommands : Obligations.DigestCommands := by
  refine ⟨?rows, ?cache, ?atOnce, ?slot, ?noSpill, ?spill⟩
  case rows =>
    intro s id c h hst i op r hmem hop
    obtain ⟨p, hp, hpeq⟩ : ∃ p ∈ dgRows s id h, (p.1, p.2.1, p.2.2 c) = (i, op, r) := List.mem_map.mp hmem
    obtain ⟨rfl, rfl, rfl⟩ : p.1 = i ∧ p.2.1 = op ∧ p.2.2 c = r := by simpa using hpeq
    obtain ⟨hwaits, hruns⟩ := exec_dgRows_started hst hp hop
    refine ⟨hwaits, fun hidle => ?_⟩
    have hgo := hruns hidle
    have hpass : ∀ c1, p.2.2 c = .ok c1 → exec p.1 s = .next (s.dgAdmit id c1) := fun c1 hr => hgo.trans (by rw [hr]; rfl)
    refine ⟨fun d hr hne => ?fails, fun d hr heq => ?marked, hpass, fun c1 hr => ?admitted⟩
    case fails => exact hgo.trans (by rw [hr]; exact congrArg _ (if_neg hne))
    case marked => exact hgo.trans (by rw [hr]; exact congrArg _ (if_pos heq))
    case admitted =>
      intro s1 own goes
      have hget : mget s1.cmds id = some c1 := mget_dgTaken s id c1
      have htx : s1.tx = s.tx := dgTaken_tx s id c1
      have hnext : c1.need = 0 → exec p.1 s = .next (s1.dgNext id) := fun hneed => (hpass c1 hr).trans (congrArg _ (dgAdmit_next s id hneed))
      have hturns : c1.need = 0 → s1.dgNext id = s1.toTurns id c1 → goes := by
        intro hneed heq
        obtain ⟨⟨x, hx, hphase, hdesc, hinp, hnote, hlegs⟩, hdg, hregs, htx'⟩ := toTurns_ready s1 id c1
        exact ⟨_, x, (hnext hneed).trans (congrArg _ heq), hx, hphase, hdesc, hinp, hnote, hlegs, hdg, hregs, htx'.trans htx⟩
      refine ⟨fun hneed hown hfree => ?_, fun hneed hown hfull hup => ?_, fun hneed hown hnone => ?_, fun hneed hown x hopen hres => ?_,
        fun hneed hop1 hup => ?_⟩
      · exact hturns hneed (dgNext_ownSlot_free hget (ownSlot_iff.mpr hown) hfree)
      · have heq := dgNext_ownSlot_full hget (ownSlot_iff.mpr hown) hfull hup
        rw [askSpill_frame] at heq
        refine ⟨_, (hnext hneed).trans (congrArg _ heq), htx, rfl, ?_⟩
        rw [← dgTaken_now s id c1]
        exact mget_mput_same _ _ _
      · exact (hnext hneed).trans (congrArg _ (dgNext_notOpen hget (Bool.eq_false_iff.mpr (mt ownSlot_iff.mp hown)) hnone))
      · exact hturns hneed (dgNext_resident hget (Bool.eq_false_iff.mpr (mt ownSlot_iff.mp hown)) hopen hres)
      · have hask : c1.ask = c1.need := if_neg hop1
        rw [hpass c1 hr, dgAdmit_draws s id hneed, askRand_up (s.dgTaken id c1) id c1 hup, hask]
        rfl
  case cache =>
    intro s c k hkey
    refine ⟨useKsc_unused, fun huse hany => ?hit, fun huse hany hroom => ?miss⟩
    case hit =>
      rw [useKsc_hit hkey huse hany]
      exact ⟨rfl, rdF_incF_same _ _ 15 0 1 (by decide) (by decide)⟩
    case miss =>
      rw [useKsc_miss hkey huse hany hroom]
      exact ⟨rfl, rdF_incF_same _ _ 31 16 1 (by decide) (by decide)⟩
  case atOnce =>
    intro s id c h hst hin haux hcap hplain hpar
    have hbare := bare_empty h hin haux hcap
    refine ⟨fun hop hctx hidle => ?_, fun hop hctx hidle => ?_, fun hop hctx => ?_, fun hop hctx => ?_⟩
    · rw [exec_releaseContext hst hop hidle, releaseOp_frees hplain hpar hbare hctx]
      rfl
    · rw [exec_releaseContext hst hop hidle, releaseOp_beyond hctx, atOnce_err (by decide)]
    · rw [exec_epochAdvance hst hop, epochOp_advances hplain hpar hbare hctx]
      rfl
    · rw [exec_epochAdvance hst hop, epochOp_context hctx, atOnce_err (by decide)]
  case slot =>
    intro s id c hget
    have hexec : exec (.dgeSlotWaitEnd id) s = if c.phase = .waitSlot then .next (s.dgNext id) else .next s := by
      change execDgeSlotWaitEnd id s = _
      simp only [execDgeSlotWaitEnd, hget]
    refine ⟨fun hphase => hexec.trans (if_neg hphase), fun hphase hown hfree => ?_⟩
    rw [hexec, if_pos hphase, dgNext_ownSlot_free hget hown hfree]
    rfl
  case noSpill => exact fun s h => exec_spillWriteFail_none h
  case spill =>
    intro s k a cls reqr time hqueue
    have hsame := spillFailed_sansReports s k
    have hempty : (s.spillFailed k).nrg.queue = [] := by
      rw [field_of_erased hsame State.nrg, hqueue]
      simp
    refine ⟨_, exec_spillWriteFail_one hqueue, ?_, ?_, ?_⟩
    · rw [askSpill_frame]
      exact field_of_erased hsame State.dg
    · rw [askSpill_frame]
      exact field_of_erased hsame State.cmds
    · obtain h | ⟨j, hj, h⟩ := askSpill_cases (s.spillFailed k) (· == k) <;> rw [h]
      · simp [hempty]
      · have hne : j ≠ k := by simpa using hj
        simp [State.nrgAsk, hempty, hne]

end Sys2Proof.Machine
end

section
/-!
SUPPORT. Turns of the digest engine (spec file 08, R227, R230, R234, R237 to R239): the comparison of the pipelines, what the last turn of each
command yields, a pipeline taken out of service, and a message absorbed in pieces.
-/
namespace Sys2Proof.Machine
open Sys2Proof

/-! A message absorbed in pieces (R234). -/

section
variable {k : HKind}

theorem absorbAll_short {l : List Byte} (st : List Byte) (h : l.length < k.rate) : k.absorbAll st l = (st, l) := by
  rw [HKind.absorbAll, Nat.div_eq_of_lt h, HKind.absorb]

theorem absorbAll_block {l : List Byte} (st : List Byte) (hrate : 0 < k.rate) (h : k.rate ≤ l.length) :
    k.absorbAll st l = k.absorbAll (k.block st (l.take k.rate)) (l.drop k.rate) := by
  rw [HKind.absorbAll, Nat.div_eq_sub_div hrate h, HKind.absorb, if_neg (Nat.not_lt.mpr h), HKind.absorbAll, List.length_drop]

theorem absorbAll_append (hrate : 0 < k.rate) (st a b : List Byte) :
    k.absorbAll (k.absorbAll st a).1 ((k.absorbAll st a).2 ++ b) = k.absorbAll st (a ++ b) := by
  by_cases h : a.length < k.rate
  · rw [absorbAll_short st h]
  · have hle : k.rate ≤ a.length := Nat.not_lt.mp h
    have hlen : (a.drop k.rate).length < a.length := by rw [List.length_drop]; omega
    rw [absorbAll_block st hrate hle, absorbAll_append hrate _ (a.drop k.rate) b,
      absorbAll_block (l := a ++ b) st hrate (by rw [List.length_append]; omega), List.take_append_of_le_length hle,
      List.drop_append_of_le_length hle]
termination_by a.length

end

theorem dgAbsorb_append {alg : Nat} {custom : Bool} (hrate : 0 < (dgHash alg custom).rate) (r : DgRun) (a b : List Byte) :
    dgAbsorb alg custom (dgAbsorb alg custom r a) b = dgAbsorb alg custom r (a ++ b) := by
  simp only [dgAbsorb, absorbAll_append hrate, List.append_assoc, List.length_append, Nat.add_assoc]

/-! The end of a run on a pipeline (R33, R227). -/

section
variable {s : State} {id pipe : Nat} {c : Cmd} {l : Leg} {r : RunResult}

/-- The leg once the run going on a unit has ended with a result. -/
def Leg.ended (l : Leg) (u : Nat) (r : RunResult) : Leg :=
  { l with runs := l.runs.map (fun (y : Run) => if y.unit = u ∧ y.res.isNone then { y with res := some r } else y) }

/-- The run of a digest command has no check of its own result but the comparison. -/
theorem ownGood_digest (s : State) (leg : Nat) (r : RunResult) (hkern : c.kern = false) (hfam : c.op / 256 = 0x0C) : s.ownGood c leg r = true := by
  have hnone : hybLegs 0x0C c.par = none := rfl
  have hkey : (c.legKey leg).1 = 0x0C := by simp [Cmd.legKey, Cmd.fam, hfam, hnone]
  have hown : s.ownOk c leg r = true := by
    refine if_pos (.inr ?_)
    change (!([0x09, 0x0A, 0x0B] : List Nat).contains (c.legKey leg).1) = true
    rw [hkey]
    rfl
  simp [State.ownGood, hkern, hfam, hown]

theorem countRun_pipe (s : State) (kernel : Bool) (hlo : 132 ≤ pipe) : s.countRun pipe kernel = s := by
  unfold State.countRun
  rw [if_neg (by omega), if_neg (by omega), if_neg (by omega)]

theorem maskedRun_pipe (s : State) (c : Cmd) (hlo : 132 ≤ pipe) : s.maskedRun c pipe = s := by
  have hnone : expanderOf pipe = none := by
    unfold expanderOf
    rw [if_neg (by omega), if_neg (by omega), if_neg (by omega)]
  simp [State.maskedRun, hnone]

theorem endRunWith_turn (hkern : c.kern = false) (hfam : c.op / 256 = 0x0C) (hlegs : c.legs = [l]) (hlo : 132 ≤ pipe)
    (hcor : (s.unit pipe).corrupt = none) :
    s.endRunWith id 0 pipe c l (s.turnResult c) =
      ((s.setCmd id { c with legs := [l.ended pipe (s.turnResult c)] }).freeUnit pipe id).vote id 0 := by
  have hset : c.legs.set 0 (l.ended pipe (s.turnResult c)) = [l.ended pipe (s.turnResult c)] := by rw [hlegs]; rfl
  rw [← hset]
  unfold State.endRunWith
  simp only [hcor, ownGood_digest s 0 _ hkern hfam, countRun_pipe s _ hlo, maskedRun_pipe s c hlo, hkern]
  rfl

/-- The end of a turn with no bit flipped on a pipeline with no armed corruption, by whether the pipeline's cores agree. -/
theorem exec_dgeTurnEnd_eq (cores : Bool) (hget : mget s.cmds id = some c) (hfam : c.op / 256 = 0x0C) (hlegs : c.legs = [l])
    (hgoing : l.runs.any (fun r => r.unit == pipe && r.res.isNone) = true) (hcor : (s.unit pipe).corrupt = none) :
    exec (.dgeTurnEnd id ⟨pipe, cores, none⟩) s =
      if cores = true then .next (((s.pullRun id 0 pipe).outvote pipe).fault pipe 0 false false true)
      else .next (s.endRunWith id 0 pipe c l (s.turnResult c)).settle := by
  change execDgeTurnEnd id ⟨pipe, cores, none⟩ s = _
  simp only [execDgeTurnEnd, hget, hlegs, hfam, hgoing, hcor, and_self, and_false, or_self, or_false, if_true, if_false, Option.isSome_none,
    Bool.false_eq_true]

/-- A turn of a command in another family, or on a pipeline that none of its runs is on, is none. -/
theorem exec_dgeTurnEnd_idle (turn : TurnEnd) (hget : mget s.cmds id = some c)
    (h : c.op / 256 ≠ 0x0C ∨ ∀ l ∈ c.legs, ∀ r ∈ l.runs, r.unit ≠ turn.pipe) : exec (.dgeTurnEnd id turn) s = .next s := by
  change execDgeTurnEnd id turn s = _
  unfold execDgeTurnEnd
  simp only [hget]
  split
  next => rfl
  next l ls hlegs =>
    refine if_neg (fun ⟨hfam, hgoing⟩ => ?_)
    obtain ⟨r, hr, hon⟩ := List.any_eq_true.mp hgoing
    have hunit : r.unit = turn.pipe := beq_iff_eq.mp (Bool.and_eq_true_iff.mp hon).1
    obtain h | h := h
    · exact h hfam
    · exact h l (by simp [hlegs]) r hr hunit

end

/-! The comparison (R35, R227). -/

section
variable {s : State} {id : Nat} {c : Cmd} {l : Leg} {r : RunResult}

/-- Every run that is due has ended, and with one result: the run of a turn, or both runs of a keyed one. -/
def Leg.Unanimous (l : Leg) (r : RunResult) : Prop :=
  l.want = 1 ∧ (∃ x, l.runs = [x] ∧ x.res = some r) ∨ l.want = 2 ∧ ∃ x y, l.runs = [x, y] ∧ x.res = some r ∧ y.res = some r

theorem vote_unanimous (hget : mget s.cmds id = some c) (hlegs : c.legs = [l]) (hdec : l.decided = none) (hown : r.own = true)
    (htrap : r.trap = 0) (hall : l.Unanimous r) : s.vote id 0 = (s.setCmd id { c with legs := [{ l with decided := some r }] }).finish id := by
  have hnote : ∀ t : State, t.noteTrap c l r = t := fun t => if_pos htrap
  unfold State.vote
  obtain ⟨hwant, x, hruns, hx⟩ | ⟨hwant, x, y, hruns, hx, hy⟩ := hall
  · simp [hget, hlegs, hdec, hwant, hruns, hx, hown, hnote]
  · simp [hget, hlegs, hdec, hwant, hruns, hx, hy, hown, hnote, agreed]

/-- Results that all differ have no majority. -/
theorem agreed_of_nodup : ∀ {rs : List RunResult}, rs.Nodup → agreed rs = none
  | [], _ => rfl
  | r :: rs, h => by
    obtain ⟨hnot, hrest⟩ := List.nodup_cons.mp h
    rw [agreed, if_neg (by simpa using hnot), agreed_of_nodup hrest]

theorem vote_differs {x y : Run} {a : RunResult} (hget : mget s.cmds id = some c) (hlegs : c.legs = [l]) (hdec : l.decided = none)
    (hwant : l.want = 2) (hruns : l.runs = [x, y]) (hx : x.res = some a) (hy : y.res = some r) (hne : a ≠ r) :
    s.vote id 0 = (s.setCmd id { c with legs := [{ l with want := 3 }] }).retest id 0 := by
  have hno : agreed ([a, r].filter (·.own)) = none := agreed_of_nodup (List.Nodup.filter _ (by simpa using hne))
  unfold State.vote
  simp only [hget, hlegs, hdec, hwant, hruns, hx, hy, List.filterMap_cons, List.filterMap_nil, List.getElem?_cons_zero, hno]
  rfl

theorem finish_turn (hget : mget s.cmds id = some c) (hkern : c.kern = false) (hfam : c.op / 256 = 0x0C) (hlegs : c.legs = [l])
    (hdec : l.decided = some r) : s.finish id = s.turnOver id c := by
  simp [State.finish, hget, hkern, hfam, hlegs, hdec]

/-- A unit is freed alike whatever stands in the legs of the command that ran on it. -/
theorem freeUnit_legs (s : State) (id u : Nat) (c : Cmd) (a b : List Leg) :
    ((s.setCmd id { c with legs := a }).freeUnit u id).setCmd id { c with legs := b } = (s.setCmd id { c with legs := b }).freeUnit u id := by
  have hinter : ∀ x, (s.setCmd id { c with legs := a }).interEnds x = (s.setCmd id { c with legs := b }).interEnds x := by
    intro x
    unfold State.interEnds State.setCmd
    cases hbusy : x.busy with
    | none => rfl
    | some k =>
      by_cases hk : k = id
      · simp only [hk, Option.bind_some, mget_mput_same]
        rfl
      · simp only [Option.bind_some, mget_mput_other _ _ _ _ hk]
  have hunit : ∀ y, (s.setCmd id y).unit u = s.unit u := fun _ => rfl
  unfold State.freeUnit
  simp only [hinter, hunit]
  simp only [State.setUnit, State.setCmd, mput_mput_same]

section
variable {pipe : Nat} {l1 : Leg}
variable (hkern : c.kern = false) (hfam : c.op / 256 = 0x0C) (hlegs : c.legs = [l]) (hdec : l.decided = none) (hlo : 132 ≤ pipe)
  (hcor : (s.unit pipe).corrupt = none) (hended : l.ended pipe (s.turnResult c) = l1)
include hkern hfam hlegs hdec hlo hcor hended

/-- A turn that is decided at its end goes over to the next one, or to the end of the command. -/
theorem endRunWith_unanimous (hall : l1.Unanimous (s.turnResult c)) : s.endRunWith id 0 pipe c l (s.turnResult c) =
    ((s.setCmd id { c with legs := [{ l1 with decided := some (s.turnResult c) }] }).freeUnit pipe id).turnOver id
      { c with legs := [{ l1 with decided := some (s.turnResult c) }] } := by
  subst hended
  have hvote := vote_unanimous (s := (s.setCmd id { c with legs := [l.ended pipe (s.turnResult c)] }).freeUnit pipe id) (id := id)
    (mget_mput_same _ _ _) rfl hdec rfl rfl hall
  rw [endRunWith_turn hkern hfam hlegs hlo hcor, hvote, freeUnit_legs]
  exact finish_turn (mget_mput_same _ _ _) hkern hfam rfl rfl

/-- A turn whose two pipelines left different states wants a third run. -/
theorem endRunWith_differs {x y : Run} {b : RunResult} (hwant : l1.want = 2) (hruns : l1.runs = [x, y]) (hx : x.res = some b)
    (hy : y.res = some (s.turnResult c)) (hne : b ≠ s.turnResult c) : s.endRunWith id 0 pipe c l (s.turnResult c) =
    ((s.setCmd id { c with legs := [{ l1 with want := 3 }] }).freeUnit pipe id).retest id 0 := by
  subst hended
  have hvote := vote_differs (s := (s.setCmd id { c with legs := [l.ended pipe (s.turnResult c)] }).freeUnit pipe id) (id := id)
    (mget_mput_same _ _ _) rfl hdec hwant hruns hx hy hne
  rw [endRunWith_turn hkern hfam hlegs hlo hcor, hvote, freeUnit_legs]

end

end

/-! The last turn (R230, R234, R238, R239). -/

section
variable {s u : State} {id : Nat} {c : Cmd} {ls : List Leg}

/-- The command with other legs: what its turns compute is the same. -/
def Cmd.withLegs (c : Cmd) (ls : List Leg) : Cmd := { c with legs := ls }

theorem dctxOpen_of_dg (hdg : u.dg = s.dg) (fn i : Nat) : u.dctxOpen fn i = s.dctxOpen fn i := by
  unfold State.dctxOpen State.dctx
  rw [hdg]

theorem openDctx_of_stores (hdg : u.dg = s.dg) (hks : u.ks = s.ks) (kind fn i : Nat) (b : List Byte) :
    u.openDctx kind fn i b = s.openDctx kind fn i b := by
  unfold State.openDctx State.spillEpoch State.saveEpochOf
  rw [hdg, hks]

theorem sealDctx_of_stores (hdg : u.dg = s.dg) (hks : u.ks = s.ks) (kind fn i : Nat) (x : Dctx) (nonce : List Byte) :
    u.sealDctx kind fn i x nonce = s.sealDctx kind fn i x nonce := by
  unfold State.sealDctx State.spillEpoch State.saveEpochOf
  rw [hdg, hks]

theorem putRun_eq (hdg : u.dg = s.dg) (c : Cmd) (x : Dctx) (r : DgRun) : u.putRun c x r = { u with dg := { u.dg with
    clock := s.dg.clock + 1
    ctxs := mput u.dg.ctxs (c.fn * 4096 + c.ctx)
      { x with chainv := r.st, part := r.part, outer := r.outer, count := r.count, used := s.dg.clock + 1 } } } := by
  rw [← hdg]
  rfl

theorem dgTurns_withLegs (hdg : u.dg = s.dg) : u.dgTurns (c.withLegs ls) = s.dgTurns c := by
  have hdctx : u.dctx c.fn c.ctx = s.dctx c.fn c.ctx := by rw [State.dctx, State.dctx, hdg]
  have halg : u.dgAlg (c.withLegs ls) = s.dgAlg c := by
    change (if c.op ≤ 0x0C10 then c.par else match u.dctx c.fn c.ctx with | some x => x.alg | none => 0) = _
    rw [hdctx]
    rfl
  unfold State.dgTurns State.turnLen
  rw [halg]
  rfl

theorem turnOver_last (h : s.dgTurns c ≤ leAt c.note 0 4 + 1) : s.turnOver id c = s.dgEnd id c := if_pos h

theorem turnOver_more {l : Leg} {want : Nat} (hlegs : c.legs = [l]) (hl : l.want = want) (hwant : want = 1 ∨ want = 2)
    (h : leAt c.note 0 4 + 1 < s.dgTurns c) :
    s.turnOver id c = { s with
      dg := { s.dg with clock := s.dg.clock + 1 }
      cmds := mput s.cmds id { c with
        phase := .ready, note := natLE 4 (leAt c.note 0 4 + 1) ++ natLE 8 (s.dg.clock + 1), legs := [⟨.dge, want, [], [], none, [], []⟩] } } := by
  have hkeep : (if 2 ≤ l.want then 2 else 1) = want := by
    rw [hl]
    obtain rfl | rfl := hwant <;> rfl
  refine (if_neg (Nat.not_le.mpr h)).trans ?_
  simp only [hlegs, List.map_cons, List.map_nil, hkeep]
  rfl

/-- The start of a command's computation: its slot's where one serves it, else computed. -/
theorem dgStart_eq {str : List Byte} {r : DgRun} (hdg : u.dg = s.dg)
    (h : (∀ x ∈ s.dg.ksc, x.serves c = false) ∧ r = dgOpen c.par c.src str ∨
      ∃ x, s.dg.ksc.find? (fun x => x.serves c) = some x ∧ r = ⟨x.st, [], x.outer, 0⟩) : u.dgStart c str = r := by
  unfold State.dgStart
  rw [hdg]
  obtain ⟨hnone, rfl⟩ | ⟨x, hx, rfl⟩ := h
  · rw [List.find?_eq_none.mpr (fun x hx => by simp [hnone x hx])]
  · rw [hx]

/-- The context value that a MAC consumes is gone (R231). -/
def State.macSpent (s : State) (c : Cmd) : State := if c.op ≠ 0x0C01 ∧ c.b 50 = 3 then s.clearCtx c.fn c.ctx else s

section
variable {cust : List Byte} {r : DgRun} (hcust : cust = if c.op = 0x0C10 then c.aux else c.aux.take (c.b 51)) (hstart : u.dgStart c cust = r)
include hcust hstart

theorem dgEnd_output (hop : c.op = 0x0C01 ∨ c.op = 0x0C02) :
    let o := dgFinish c.par (!cust.isEmpty) (dgAbsorb c.par (!cust.isEmpty) r c.inp) ((dgOut c.par (leAt c.desc 48 2)).getD 0)
    u.dgEnd id (c.withLegs ls) = ((u.macSpent c).writeOut (c.withLegs ls) 0 o true).complete id (.ok o.length (c.dgInline o)) := by
  have hlo : c.op ≤ 0x0C03 := by omega
  have hne : c.op ≠ 0x0C03 := by omega
  rw [if_neg (by omega)] at hcust
  subst hcust hstart
  exact (if_pos hlo).trans (if_neg hne)

theorem dgEnd_macVerify (hop : c.op = 0x0C03) {tag : List Byte} (htag : tag = c.aux.drop (c.b 51)) :
    u.dgEnd id (c.withLegs ls) = (u.macSpent c).complete id
      ⟨St.SUCCESS, 0, some (decide (dgFinish c.par (!cust.isEmpty) (dgAbsorb c.par (!cust.isEmpty) r c.inp) tag.length = tag)), [], true⟩ := by
  rw [← beq_eq_decide]
  rw [if_neg (by omega)] at hcust
  subst hcust hstart htag
  exact (if_pos (Nat.le_of_eq hop)).trans (if_pos hop)

theorem dgEnd_init (hop : c.op = 0x0C10) : u.dgEnd id (c.withLegs ls) = (u.putRun c c.newDctx r).complete id (.ok 0 []) := by
  rw [if_pos hop] at hcust
  subst hcust hstart
  exact (if_neg (show ¬ c.op ≤ 0x0C03 by omega)).trans (if_pos hop)

end

theorem dgEnd_restore {x : Dctx} (hop : c.op = 0x0C19) (hopens : u.openDctx 1 c.fn c.ctx c.inp = some x)
    (hnew : ∀ y ∈ u.dg.saved, y.1 ≠ slice c.inp 44 32) :
    u.dgEnd id (c.withLegs ls) = (u.putRun c { x with uid := 0 } x.run).complete id (.ok 0 []) := by
  have hfind : u.dg.saved.find? (fun y => y.1 == slice c.inp 44 32) = none := List.find?_eq_none.mpr (fun y hy => by simp [hnew y hy])
  have hrow : u.dgEnd id (c.withLegs ls) = match u.openDctx 1 c.fn c.ctx c.inp with
      | some x =>
        let k := match u.dg.saved.find? (fun y => y.1 == slice c.inp 44 32) with | some y => y.2 | none => 0
        (u.putRun c { x with uid := k } x.run).complete id (.ok 0 [])
      | none => u.complete id badRun :=
    (if_neg (show ¬ c.op ≤ 0x0C03 by omega)).trans ((if_neg (show ¬ c.op = 0x0C10 by omega)).trans (if_pos hop))
  rw [hrow, hopens, hfind]

/-- A command on a context that is OPEN ends as its opcode has it; on one that is not it ends with STATE. -/
theorem dgEnd_context (hop : c.op = 0x0C11 ∨ c.op = 0x0C12 ∨ c.op = 0x0C13 ∨ c.op = 0x0C18) : u.dgEnd id (c.withLegs ls) =
    match u.dctxOpen c.fn c.ctx with
    | none => u.complete id (.late St.STATE)
    | some x =>
      if c.op = 0x0C11 then (u.putRun c x (dgAbsorb x.alg x.custom x.run c.inp)).complete id (.ok 0 [])
      else if c.op = 0x0C18 then
        let b := u.sealDctx 1 c.fn c.ctx x (c.rand.take 32)
        let s1 := if x.keyed.isSome then { u with dg := { u.dg with saved := u.dg.saved ++ [(c.rand.take 32, x.uid)] } } else u
        (s1.writeOut (c.withLegs ls) 0 b true).complete id (.ok 1024 [])
      else u.finalEnd id (c.withLegs ls) x :=
  (if_neg (show ¬ c.op ≤ 0x0C03 by omega)).trans ((if_neg (show ¬ c.op = 0x0C10 by omega)).trans (if_neg (show ¬ c.op = 0x0C19 by omega)))

theorem dgEnd_notOpen (hop : c.op = 0x0C11 ∨ c.op = 0x0C12 ∨ c.op = 0x0C13 ∨ c.op = 0x0C18) (hnone : u.dctxOpen c.fn c.ctx = none) :
    u.dgEnd id (c.withLegs ls) = u.complete id (.late St.STATE) := by
  rw [dgEnd_context hop, hnone]

section
variable {x : Dctx} (hopen : u.dctxOpen c.fn c.ctx = some x)
include hopen

theorem dgEnd_update (hop : c.op = 0x0C11) :
    u.dgEnd id (c.withLegs ls) = (u.putRun c x (dgAbsorb x.alg x.custom x.run c.inp)).complete id (.ok 0 []) := by
  rw [dgEnd_context (.inl hop), hopen]
  exact if_pos hop

theorem dgEnd_save (hop : c.op = 0x0C18) (hkeyed : x.keyed = none) : u.dgEnd id (c.withLegs ls) =
    (u.writeOut (c.withLegs ls) 0 (u.sealDctx 1 c.fn c.ctx x (c.rand.take 32)) true).complete id (.ok 1024 []) := by
  rw [dgEnd_context (by omega), hopen]
  simp [hop, hkeyed]

theorem dgEnd_final (hop : c.op = 0x0C12 ∨ c.op = 0x0C13) : u.dgEnd id (c.withLegs ls) = u.finalEnd id (c.withLegs ls) x := by
  rw [dgEnd_context (by omega), hopen]
  exact (if_neg (by omega)).trans (if_neg (by omega))

theorem dgEnd_final_differs (hop : c.op = 0x0C12 ∨ c.op = 0x0C13) (hsome : x.total ≠ none) (hne : x.total ≠ some (x.count + c.inp.length)) :
    u.dgEnd id (c.withLegs ls) = (u.setDctx c.fn c.ctx (x.wipe .invalid)).complete id
      ⟨St.LENGTH_MISMATCH, 0, none, natLE 4 ((x.count + c.inp.length) % 2 ^ 32), true⟩ := by
  obtain ⟨t, ht⟩ := Option.ne_none_iff_exists'.mp hsome
  have hcount : (dgAbsorb x.alg x.custom x.run c.inp).count = x.count + c.inp.length := rfl
  have htotal : (t != x.count + c.inp.length) = true := bne_iff_ne.mpr (fun h => hne (by rw [ht, h]))
  have hcap : Nat.min ((x.count + c.inp.length) % 2 ^ 32) 0xFFFFFFFF = (x.count + c.inp.length) % 2 ^ 32 := by
    have := Nat.mod_lt (x.count + c.inp.length) (Nat.two_pow_pos 32)
    exact Nat.min_eq_left (by omega)
  have hinp : (c.withLegs ls).inp = c.inp := rfl
  rw [dgEnd_final hopen hop]
  simp only [State.finalEnd, hinp, ht, hcount, htotal, if_true, lenFail, hcap]
  rfl

/-- A context without a declared total, or with the length of its message for it, becomes FINAL. -/
theorem dgEnd_final_holds (hop : c.op = 0x0C12 ∨ c.op = 0x0C13) (htotal : x.total = none ∨ x.total = some (x.count + c.inp.length)) :
    u.dgEnd id (c.withLegs ls) =
    if c.op = 0x0C13 then
      let o := dgFinish x.alg x.custom (dgAbsorb x.alg x.custom x.run c.inp) (if dgKind x.alg = some .hash then dgLen x.alg else c.aux.length)
      (u.setDctx c.fn c.ctx (x.wipe .final)).complete id ⟨St.SUCCESS, 0, some (decide (o = c.aux)), c.dgInline o, true⟩
    else
      let o := dgFinish x.alg x.custom (dgAbsorb x.alg x.custom x.run c.inp) ((dgOut x.alg (leAt c.desc 48 2)).getD 0)
      ((u.setDctx c.fn c.ctx (x.wipe .final)).writeOut (c.withLegs ls) 0 o true).complete id (.ok o.length (c.dgInline o)) := by
  have hcount : (dgAbsorb x.alg x.custom x.run (c.withLegs ls).inp).count = x.count + c.inp.length := rfl
  simp only [dgEnd_final hopen hop, ← beq_eq_decide]
  refine (if_neg ?_).trans rfl
  obtain h | h := htotal <;> simp [h, hcount]

end

end

/-! Runs taken off units (R366, R368). -/

/-- What stays of a command as runs of it are taken off units. -/
structure PulledFrom (c x : Cmd) : Prop where
  note : x.note = c.note
  replayed : c.replayed = true → x.replayed = true
  leg : ∀ l, c.legs = [l] → ∃ m, x.legs = [m] ∧ m.want = l.want ∧ m.decided = l.decided ∧ m.runs ⊆ l.runs

theorem PulledFrom.refl (c : Cmd) : PulledFrom c c := ⟨rfl, id, fun l hl => ⟨l, hl, rfl, rfl, List.Subset.refl _⟩⟩

theorem PulledFrom.trans {c x y : Cmd} (h : PulledFrom c x) (k : PulledFrom x y) : PulledFrom c y := by
  refine ⟨k.note.trans h.note, k.replayed ∘ h.replayed, fun l hl => ?_⟩
  obtain ⟨m, hm, hwant, hdec, hruns⟩ := h.leg l hl
  obtain ⟨n, hn, hwant', hdec', hruns'⟩ := k.leg m hm
  exact ⟨n, hn, hwant'.trans hwant, hdec'.trans hdec, fun z hz => hruns (hruns' hz)⟩

theorem pulledFrom_pulled (c : Cmd) (leg u : Nat) : PulledFrom c (c.pulled leg u) := by
  refine ⟨rfl, fun _ => rfl, fun l hl => ?_⟩
  cases leg with
  | zero => exact ⟨l.pulled u, by rw [Cmd.pulled, hl]; rfl, rfl, rfl, List.filter_subset_self _⟩
  | succ n => exact ⟨l, by simp [Cmd.pulled, hl], rfl, rfl, List.Subset.refl _⟩

/-- Commands change as runs of them are taken off units, and in no other way. -/
def PullsOnly (s t : State) : Prop := ∀ k c, mget s.cmds k = some c → ∃ x, mget t.cmds k = some x ∧ PulledFrom c x

theorem PullsOnly.of_cmds {s t : State} (h : t.cmds = s.cmds) : PullsOnly s t := fun _ c hc => ⟨c, by rw [h, hc], .refl c⟩

theorem PullsOnly.trans {s t u : State} (h : PullsOnly s t) (k : PullsOnly t u) : PullsOnly s u := by
  intro j c hc
  obtain ⟨x, hx, hcx⟩ := h j c hc
  obtain ⟨y, hy, hxy⟩ := k j x hx
  exact ⟨y, hy, hcx.trans hxy⟩

theorem PullsOnly.foldl {β : Type} {f : State → β → State} (h : ∀ x a, PullsOnly x (f x a)) (l : List β) (s : State) : PullsOnly s (l.foldl f s) := by
  induction l generalizing s with
  | nil => exact .of_cmds rfl
  | cons a l ih => exact (h s a).trans (ih _)

section
variable {s : State} {id leg u : Nat}

theorem pullRun_freeUnit (s : State) (id leg u : Nat) :
    s.pullRun id leg u = (((s.modCmd id (fun c => c.pulled leg u)).unqueue u).coreStops u).freeUnit u id := rfl

theorem pullRun_cmds (s : State) (id leg u : Nat) : (s.pullRun id leg u).cmds = mmod s.cmds id (fun c => c.pulled leg u) :=
  field_of_erased (unqueue_sansClusters (s.modCmd id (fun c => c.pulled leg u)) u) State.cmds

theorem pullRun_pullsOnly (s : State) (id leg u : Nat) : PullsOnly s (s.pullRun id leg u) := by
  intro k c hc
  rw [pullRun_cmds]
  by_cases hk : k = id
  · subst hk
    exact ⟨_, mget_mmod_of_mget _ hc, pulledFrom_pulled c leg u⟩
  · exact ⟨c, by rw [mget_mmod_other _ _ _ _ hk, hc], .refl c⟩

theorem pullUnit_pullsOnly (s : State) (u : Nat) : PullsOnly s (s.pullUnit u) := .foldl (fun x r => by exact pullRun_pullsOnly x r.1 r.2.1 u) _ s

theorem outvote_pullsOnly (s : State) (u : Nat) : PullsOnly s (s.outvote u) := by
  unfold State.outvote
  split
  · exact .of_cmds rfl
  · exact (pullUnit_pullsOnly s u).trans (.of_cmds (isoCheck_cmds _))

theorem retest_pullsOnly (s : State) (id leg : Nat) : PullsOnly s (s.retest id leg) := by
  unfold State.retest
  split
  · exact .of_cmds rfl
  next c hget =>
    split
    · exact .of_cmds rfl
    next l hleg =>
      dsimp only
      split
      case isFalse => exact .of_cmds rfl
      case isTrue =>
        refine PullsOnly.trans (t := s.setCmd id { c with legs := c.legs.set leg { l with
          retest := l.used.eraseDups.filter (fun u => (s.unit u).service || (s.unit u).selftest) } }) (fun k c' hk => ?_)
          (.foldl (fun x v => by exact (pullUnit_pullsOnly x v).trans (.of_cmds rfl)) _ _)
        by_cases hid : k = id
        · subst hid
          obtain rfl : c = c' := Option.some.inj (hget.symm.trans hk)
          refine ⟨_, mget_mput_same _ _ _, rfl, fun h => h, fun m hm => ?_⟩
          cases leg with
          | zero =>
            obtain rfl : m = l := by simpa [hm] using hleg
            exact ⟨_, congrArg (fun ls : List Leg => ls.set 0 _) hm, rfl, rfl, List.Subset.refl _⟩
          | succ n => simp [hm] at hleg
        · exact ⟨c', (mget_mput_other _ _ _ _ hid).trans hk, .refl c'⟩

/-- A unit that is freed stays retired, or not. -/
theorem freeUnit_retired (s : State) (u id : Nat) : ((s.freeUnit u id).unit u).retired = (s.unit u).retired := by
  unfold State.freeUnit
  rw [unit_setUnit_same]
  split
  · rfl
  · split
    · unfold State.interEnds
      split <;> rfl
    · rfl

theorem pullRun_retired (s : State) (id leg u : Nat) : ((s.pullRun id leg u).unit u).retired = (s.unit u).retired := by
  have hunits : (((s.modCmd id (fun c => c.pulled leg u)).unqueue u).coreStops u).units = s.units :=
    field_of_erased (unqueue_sansClusters (s.modCmd id (fun c => c.pulled leg u)) u) State.units
  rw [pullRun_freeUnit, freeUnit_retired, unit_of_units hunits]

/-- An outvoted unit is in self-test and out of service. -/
theorem outvote_unit (h : (s.unit u).retired = false) : ((s.outvote u).unit u).selftest = true ∧ ((s.outvote u).unit u).service = false := by
  have hgo : s.outvote u = ((s.pullUnit u).setUnit u { (s.pullUnit u).unit u with
      service := false, selftest := true, kept := none, outvotes := ((s.pullUnit u).unit u).outvotes ++ [s.now] }).isoCheck :=
    if_neg (by rw [h]; exact Bool.false_ne_true)
  rw [hgo, unit_of_units (isoCheck_units _), unit_setUnit_same]
  exact ⟨rfl, rfl⟩

/-- A recorded event of class C or D leaves commands and units. -/
theorem fault_work {cls : Nat} (hcls : cls ≠ clsF) (s : State) (src : Nat) (active rail respond : Bool) :
    (s.fault src cls active rail respond).cmds = s.cmds ∧ (s.fault src cls active rail respond).units = s.units :=
  ⟨field_of_erased (sansReports_fault hcls s src active rail respond) State.cmds,
    field_of_erased (sansReports_fault hcls s src active rail respond) State.units⟩

end

/-! Settling O35. -/

section
variable {s : State} {id pipe : Nat} {c : Cmd} {l : Leg} {a run : Run}

theorem going_of_mem {l : Leg} (hmem : run ∈ l.runs) (hunit : run.unit = pipe) (hres : run.res = none) :
    l.runs.any (fun r => r.unit == pipe && r.res.isNone) = true :=
  List.any_eq_true.mpr ⟨run, hmem, by simp [hunit, hres]⟩

/-- The runs of a leg as the last one due, on a pipeline of its own, ends. -/
theorem ended_last {r : RunResult} (hunit : run.unit = pipe) (hres : run.res = none)
    (hruns : l.want = 1 ∧ l.runs = [run] ∨ l.want = 2 ∧ l.runs = [a, run] ∧ a.unit ≠ pipe) :
    l.ended pipe r = { l with runs := (if l.want = 2 then [a] else []) ++ [{ run with res := some r }] } := by
  obtain ⟨hwant, hruns⟩ | ⟨hwant, hruns, ha⟩ := hruns
  · simp [Leg.ended, hwant, hruns, hunit, hres]
  · simp [Leg.ended, hwant, hruns, hunit, hres, ha]

/-- The command once the last run due of its turn has ended, with a result that decides the turn. -/
def Cmd.turned (c : Cmd) (l : Leg) (a run : Run) (r : RunResult) : Cmd :=
  c.withLegs [{ l with runs := (if l.want = 2 then [a] else []) ++ [{ run with res := some r }], decided := some r }]

/-- A turn that ends well, on one pipeline or on two whose states agree, is over. -/
theorem exec_dgeTurnEnd_decided (hget : mget s.cmds id = some c) (hkern : c.kern = false) (hfam : c.op / 256 = 0x0C)
    (hlegs : c.legs = [l]) (hdec : l.decided = none) (hlo : 132 ≤ pipe) (hunit : run.unit = pipe) (hres : run.res = none)
    (hcor : (s.unit pipe).corrupt = none)
    (hruns : l.want = 1 ∧ l.runs = [run] ∨ l.want = 2 ∧ l.runs = [a, run] ∧ a.unit ≠ pipe ∧ a.res = some (s.turnResult c)) :
    exec (.dgeTurnEnd id ⟨pipe, false, none⟩) s =
      .next (((s.setCmd id (c.turned l a run (s.turnResult c))).freeUnit pipe id).turnOver id (c.turned l a run (s.turnResult c))).settle := by
  have hmem : run ∈ l.runs := by obtain ⟨-, h⟩ | ⟨-, h, -⟩ := hruns <;> simp [h]
  have hended := ended_last (r := s.turnResult c) hunit hres (hruns.imp_right fun h => ⟨h.1, h.2.1, h.2.2.1⟩)
  have hall : Leg.Unanimous { l with runs := (if l.want = 2 then [a] else []) ++ [{ run with res := some (s.turnResult c) }] } (s.turnResult c) := by
    obtain ⟨h1, -⟩ | ⟨h2, -, -, ha⟩ := hruns
    · exact .inl ⟨h1, { run with res := some (s.turnResult c) }, by simp [h1], rfl⟩
    · exact .inr ⟨h2, a, { run with res := some (s.turnResult c) }, by simp [h2], ha, rfl⟩
  have hover := endRunWith_unanimous (id := id) hkern hfam hlegs hdec hlo hcor hended hall
  refine (exec_dgeTurnEnd_eq false hget hfam hlegs (going_of_mem hmem hunit hres) hcor).trans ((if_neg (by simp)).trans ?_)
  exact congrArg (fun t : State => Host.Outcome.next t.settle) hover

/-- Two pipelines whose states differ: a third run is asked for, and the turn stays the one it was. -/
theorem exec_dgeTurnEnd_differs {ra : RunResult} (hget : mget s.cmds id = some c) (hkern : c.kern = false) (hfam : c.op / 256 = 0x0C)
    (hlegs : c.legs = [l]) (hdec : l.decided = none) (hlo : 132 ≤ pipe) (hunit : run.unit = pipe) (hres : run.res = none)
    (hcor : (s.unit pipe).corrupt = none) (hwant : l.want = 2) (hruns : l.runs = [a, run]) (ha : a.unit ≠ pipe) (hra : a.res = some ra)
    (hne : ra ≠ s.turnResult c) :
    ∃ t x, exec (.dgeTurnEnd id ⟨pipe, false, none⟩) s = .next t ∧ mget t.cmds id = some x ∧ x.note = c.note ∧
      ∃ y ∈ x.legs, y.want = 3 ∧ y.decided = none := by
  have hexec := (exec_dgeTurnEnd_eq false hget hfam hlegs (going_of_mem (by simp [hruns]) hunit hres) hcor).trans (if_neg (by simp))
  have hended := ended_last (r := s.turnResult c) hunit hres (.inr ⟨hwant, hruns, ha⟩)
  rw [if_pos hwant] at hended
  have hvote := endRunWith_differs (id := id) hkern hfam hlegs hdec hlo hcor hended hwant rfl hra rfl hne
  obtain ⟨x, hx, hfrom⟩ := retest_pullsOnly ((s.setCmd id { c with legs := _ }).freeUnit pipe id) id 0 id _ (mget_mput_same _ _ _)
  obtain ⟨m, hm, hmwant, hmdec, -⟩ := hfrom.leg _ rfl
  exact ⟨_, x, hexec.trans (congrArg (fun t : State => Host.Outcome.next t.settle) hvote), hx, hfrom.note, m,
    by rw [hm]; exact List.mem_singleton_self m, hmwant, hmdec.trans hdec⟩

/-- The cores of a pipeline disagree: the run is taken off it, and it goes to self-test. -/
theorem exec_dgeTurnEnd_cores (hget : mget s.cmds id = some c) (hfam : c.op / 256 = 0x0C) (hlegs : c.legs = [l]) (hunit : run.unit = pipe)
    (hres : run.res = none) (hcor : (s.unit pipe).corrupt = none) (hret : (s.unit pipe).retired = false)
    (hruns : l.runs = [run] ∨ l.runs = [a, run] ∧ a.unit ≠ pipe) :
    ∃ t x, exec (.dgeTurnEnd id ⟨pipe, true, none⟩) s = .next t ∧ mget t.cmds id = some x ∧ x.note = c.note ∧ x.replayed = true ∧
      (t.unit pipe).selftest = true ∧ (t.unit pipe).service = false ∧ ∀ y ∈ x.legs, ∀ z ∈ y.runs, z.unit ≠ pipe := by
  have hmem : run ∈ l.runs := by obtain h | ⟨h, -⟩ := hruns <;> simp [h]
  have hexec := (exec_dgeTurnEnd_eq true hget hfam hlegs (going_of_mem hmem hunit hres) hcor).trans (if_pos rfl)
  have hgone : ∀ z ∈ (l.pulled pipe).runs, z.unit ≠ pipe := by
    obtain h | ⟨h, ha⟩ := hruns
    · simp [Leg.pulled, h, hunit, hres]
    · simp [Leg.pulled, h, hunit, hres, ha]
  obtain ⟨hcmds, hunits⟩ := fault_work (show 0 ≠ clsF by decide) ((s.pullRun id 0 pipe).outvote pipe) pipe false false true
  have hpulled : mget (s.pullRun id 0 pipe).cmds id = some (c.pulled 0 pipe) := by
    rw [pullRun_cmds]
    exact mget_mmod_of_mget _ hget
  obtain ⟨x, hx, hfrom⟩ := outvote_pullsOnly _ pipe id _ hpulled
  obtain ⟨m, hm, -, -, hsub⟩ := hfrom.leg (l.pulled pipe) (by rw [Cmd.pulled, hlegs]; rfl)
  obtain ⟨htest, hserve⟩ := outvote_unit ((pullRun_retired s id 0 pipe).trans hret)
  refine ⟨_, x, hexec, by rw [hcmds]; exact hx, hfrom.note, hfrom.replayed rfl, ?_, ?_, fun y hy z hz => ?_⟩
  · rw [unit_of_units hunits]
    exact htest
  · rw [unit_of_units hunits]
    exact hserve
  · obtain rfl : y = m := by simpa [hm] using hy
    exact hgone z (hsub hz)

end

/-- Settles O35: a turn by the comparison of its pipelines, the last one by the command's opcode. -/
theorem digestTurns : Obligations.DigestTurns := by
  refine ⟨?decided, ?undecided, ?idle, fun alg custom r a b hrate => dgAbsorb_append hrate r a b⟩
  case idle => exact fun s id pipe cores flip c hget h => exec_dgeTurnEnd_idle ⟨pipe, cores, flip⟩ hget h
  case undecided =>
    intro s id pipe c l a run ra hget hkern hfam hlegs hdec hlo hhi hunit hres hcor
    exact ⟨fun hwant hruns ha hra hne => exec_dgeTurnEnd_differs hget hkern hfam hlegs hdec hlo hunit hres hcor hwant hruns ha hra hne,
      fun hret hruns => exec_dgeTurnEnd_cores hget hfam hlegs hunit hres hcor hret hruns⟩
  case decided =>
    intro s id pipe c l a run hget hkern hfam hlegs hdec hlo hhi hunit hres hcor hruns n r c1 u key fin ctx keep inl
    have hwant : l.want = 1 ∨ l.want = 2 := hruns.imp And.left And.left
    have hexec : exec (.dgeTurnEnd id ⟨pipe, false, none⟩) s = .next (u.turnOver id c1).settle :=
      exec_dgeTurnEnd_decided hget hkern hfam hlegs hdec hlo hunit hres hcor hruns
    have hdg : u.dg = s.dg := rfl
    have hks : u.ks = s.ks := rfl
    obtain ⟨l1, hc1, hl1⟩ : ∃ l1 : Leg, c1 = c.withLegs [l1] ∧ l1.want = l.want := ⟨_, rfl, rfl⟩
    clear_value u c1
    subst hc1
    have hturns : u.dgTurns (c.withLegs [l1]) = s.dgTurns c := dgTurns_withLegs hdg
    refine ⟨fun hmore => ?more, fun hlast => ?last⟩
    case more =>
      have hover := turnOver_more (s := u) (id := id) (c := c.withLegs [l1]) rfl hl1 hwant (hturns ▸ hmore)
      rw [hexec, hover, hdg]
      rfl
    case last =>
      have hfin : ∀ t d, u.dgEnd id (c.withLegs [l1]) = t.complete id d → fin t d := fun t d h =>
        hexec.trans (congrArg (fun t : State => Host.Outcome.next t.settle) ((turnOver_last (hturns ▸ hlast)).trans h))
      refine ⟨?oneShot, ?context, fun hop x hopens hnew => ?restore, fun hop hnone => ?closed⟩
      case oneShot =>
        intro cust r0 hcust hle hstart y v
        have hstart' : u.dgStart c cust = r0 := dgStart_eq hdg hstart
        refine ⟨fun hop => ?_, fun hop tag htag => ?_, fun hop => ?_⟩
        · exact hfin _ _ (dgEnd_output hcust hstart' hop)
        · exact hfin _ _ (dgEnd_macVerify hcust hstart' hop htag)
        · refine ⟨{ c.newDctx with chainv := r0.st, part := r0.part, outer := r0.outer, count := r0.count }, rfl, rfl, rfl, rfl, rfl, rfl, rfl,
            rfl, ?_⟩
          refine hfin _ _ ((dgEnd_init hcust hstart' hop).trans ?_)
          rw [putRun_eq hdg]
      case context =>
        intro x hopen y
        have hopen' : u.dctxOpen c.fn c.ctx = some x := (dctxOpen_of_dg hdg _ _).trans hopen
        refine ⟨fun hop => ?_, fun hop hsome hne => ?_, fun hop htotal => ?_, fun hop htotal => ?_, fun hop hkeyed => ?_⟩
        · refine hfin _ _ ((dgEnd_update hopen' hop).trans ?_)
          rw [putRun_eq hdg]
          rfl
        · exact hfin _ _ (dgEnd_final_differs hopen' hop hsome hne)
        · exact hfin _ _ ((dgEnd_final_holds hopen' (.inl hop) htotal).trans (if_neg (by omega)))
        · exact hfin _ _ ((dgEnd_final_holds hopen' (.inr hop) htotal).trans (if_pos hop))
        · rw [← sealDctx_of_stores hdg hks]
          exact hfin _ _ (dgEnd_save hopen' hop hkeyed)
      case restore =>
        have hopens' : u.openDctx 1 c.fn c.ctx c.inp = some x := (openDctx_of_stores hdg hks _ _ _ _).trans hopens
        refine hfin _ _ ((dgEnd_restore hop hopens' (by rwa [hdg])).trans ?_)
        rw [putRun_eq hdg]
        rfl
      case closed => exact hfin _ _ (dgEnd_notOpen hop ((dctxOpen_of_dg hdg _ _).trans hnone))

end Sys2Proof.Machine
end

section
/-!
SUPPORT. Operand memory and check channels: OPM_FORMAT and PF0's window (spec file 09, R260, R262, R266), and the configuration registers of the
check channels (spec file 08, R245).
-/
namespace Sys2Proof.Machine
open Sys2Proof

/-! Bytes of numbers, and bytes put in place of others. -/

theorem natLE_leNat (l : List Byte) : natLE l.length (leNat l) = l := by
  induction l with
  | nil => rfl
  | cons b t ih =>
    have hb : b.toNat < 256 := b.isLt
    have hlow : BitVec.ofNat 8 (b.toNat + 256 * leNat t) = b := BitVec.eq_of_toNat_eq (by rw [BitVec.toNat_ofNat]; omega)
    have hhigh : (b.toNat + 256 * leNat t) / 256 = leNat t := by omega
    rw [leNat, List.length_cons, natLE, hlow, hhigh, ih]

theorem beNat_eq_leNat_reverse (l : List Byte) : beNat l = leNat l.reverse := by
  induction l using List.reverseRecOn with
  | nil => rfl
  | append_singleton l b ih =>
    rw [List.reverse_concat, leNat, ← ih, beNat, List.foldl_concat, Nat.add_comm]
    rfl

@[simp] theorem natBE_length (n v : Nat) : (natBE n v).length = n := by rw [natBE, List.length_reverse, natLE_length]

theorem natBE_beNat {n : Nat} {l : List Byte} (h : l.length = n) : natBE n (beNat l) = l := by
  rw [← h, natBE, beNat_eq_leNat_reverse, ← List.length_reverse, natLE_leNat, List.reverse_reverse]

/-- The bytes l with those from place j on replaced by b. -/
def splice (l : List Byte) (j : Nat) (b : List Byte) : List Byte := l.take j ++ b ++ l.drop (j + b.length)

section
variable {l b : List Byte} {j : Nat} (h : j + b.length ≤ l.length)
include h

theorem splice_length : (splice l j b).length = l.length := by
  simp only [splice, List.length_append, List.length_take, List.length_drop]
  omega

theorem getD_splice_within {k : Nat} (hk : k < b.length) : (splice l j b).getD (j + k) 0 = b.getD k 0 := by
  have htake : (l.take j).length = j := List.length_take_of_le (by omega)
  rw [splice, List.append_assoc, List.getD_append_right _ _ _ _ (by omega), htake, Nat.add_sub_cancel_left, List.getD_append _ _ _ _ hk]

theorem getD_splice_beside {k : Nat} (hk : k < j ∨ j + b.length ≤ k) : (splice l j b).getD k 0 = l.getD k 0 := by
  have htake : (l.take j).length = j := List.length_take_of_le (by omega)
  obtain hbefore | hafter := hk
  · rw [splice, List.append_assoc, List.getD_append _ _ _ _ (by omega), List.getD_eq_getElem?_getD, List.getElem?_take_of_lt hbefore,
      ← List.getD_eq_getElem?_getD]
  · have hhead : (l.take j ++ b).length = j + b.length := by rw [List.length_append, htake]
    rw [splice, List.getD_append_right _ _ _ _ (by omega), hhead, List.getD_eq_getElem?_getD, List.getElem?_drop,
      Nat.add_sub_cancel' hafter, ← List.getD_eq_getElem?_getD]

end

/-! OPM_FORMAT (R260, R262). -/

section
variable {s : State} {id : Nat} {c : Cmd} {host : HostRead}

theorem exec_opmFormat_busy (h : MayStart s id c) (hbusy : s.opmBusy id c = true) : exec (.opmFormat id host) s = .next s := by
  obtain ⟨hstarted, -, hvendor⟩ := h
  exact (opRow_eq hstarted hvendor).trans (if_neg (by simp [hbusy]))

theorem exec_opmFormat_idle (h : MayStart s id c) (hop : c.op = 0x0F88) (hidle : s.opmBusy id c = false) :
    exec (.opmFormat id host) s = .next (s.atOnce id c (s.opmFormatOp c host)) := opRow_next h (by simp [hop, hidle])

/-- Byte 3 of the descriptor gives a slot length from 32 to 1,024 bytes, and its reserved bit is 0. -/
def Cmd.slotLenOk (c : Cmd) : Prop := 1 ≤ c.par % 64 ∧ c.par % 64 ≤ 32 ∧ c.par / 64 % 2 = 0

theorem slotLenOk_iff : c.slotLenOk ↔ (1 ≤ c.par % 64 && c.par % 64 ≤ 32 && c.par / 64 % 2 == 0) = true := by
  simp [Cmd.slotLenOk, and_assoc]

theorem opmFormatOp_badLength (hfields : c.fields false = .ok ()) (hbad : ¬ c.slotLenOk) : s.opmFormatOp c host = .error (.err St.BAD_FIELD) := by
  rw [slotLenOk_iff, Bool.not_eq_true] at hbad
  simp only [State.opmFormatOp, hfields, ok_bind, hbad]
  rfl

theorem opmFormatOp_noPartition (hfields : c.fields false = .ok ()) (hlen : c.slotLenOk) (hnone : s.opmSize c.fn = 0) :
    s.opmFormatOp c host = .error (.err St.STATE) := by
  simp only [State.opmFormatOp, hfields, ok_bind, need_true (slotLenOk_iff.mp hlen), hnone]
  rfl

theorem opmFormatOp_tooLarge (hfields : c.fields false = .ok ()) (hlen : c.slotLenOk) (hsome : 0 < s.opmSize c.fn)
    (hlarge : s.opmSize c.fn < 32 * (c.par % 64)) : s.opmFormatOp c host = .error (.err St.BAD_FIELD) := by
  have hsize : (s.opmSize c.fn != 0) = true := bne_iff_ne.mpr (by omega)
  simp only [State.opmFormatOp, hfields, ok_bind, need_true (slotLenOk_iff.mp hlen), need_true hsize, Nat.not_le.mpr hlarge, decide_false]
  rfl

theorem opmFormatOp_formats (hfields : c.fields false = .ok ()) (hbare : c.bare host = .ok (c.withFlatOut host)) (hlen : c.slotLenOk)
    (hsome : 0 < s.opmSize c.fn) (hfits : 32 * (c.par % 64) ≤ s.opmSize c.fn) : s.opmFormatOp c host =
    .ok (s.setOpm c.fn { s.opmPart c.fn with slotLen := 32 * (c.par % 64), sealed := decide (128 ≤ c.par), slots := [] }, .ok 0 []) := by
  have hsize : (s.opmSize c.fn != 0) = true := bne_iff_ne.mpr (by omega)
  simp only [State.opmFormatOp, hfields, hbare, ok_bind, need_true (slotLenOk_iff.mp hlen), need_true hsize, need_true (decide_eq_true hfits)]
  rfl

end

/-! The slot that an offset names (R262). -/

/-- The offset in BAR0 of byte j of slot i of PF0's partition. -/
def State.slotByte (s : State) (i j : Nat) : Nat := 0x700000 + (s.opmPart 0).base * 4096 + i * (s.opmPart 0).slotLen + j

section
variable {s : State} {i j off : Nat}

theorem opmAt_slotByte (hj : j < (s.opmPart 0).slotLen) (hi : i < 1024) (hfits : (i + 1) * (s.opmPart 0).slotLen ≤ s.opmSize 0) :
    s.opmAt (s.slotByte i j) = some (i, j) := by
  have hpos : 0 < (s.opmPart 0).slotLen := by omega
  have hplace : s.slotByte i j - (0x700000 + (s.opmPart 0).base * 4096) = j + i * (s.opmPart 0).slotLen := by
    unfold State.slotByte
    omega
  have hslot : (j + i * (s.opmPart 0).slotLen) / (s.opmPart 0).slotLen = i := by
    rw [Nat.add_mul_div_right _ _ hpos, Nat.div_eq_of_lt hj, Nat.zero_add]
  have hbyte : (j + i * (s.opmPart 0).slotLen) % (s.opmPart 0).slotLen = j := by
    rw [Nat.add_mul_mod_self_right, Nat.mod_eq_of_lt hj]
  have hcount : i < s.opmCount 0 := by
    have hquot : i + 1 ≤ s.opmSize 0 / (s.opmPart 0).slotLen := (Nat.le_div_iff_mul_le hpos).mpr hfits
    rw [State.opmCount, if_neg (by omega)]
    exact Nat.lt_min.mpr ⟨hi, hquot⟩
  have hwithin : s.slotByte i j < 0x700000 + (s.opmPart 0).base * 4096 + s.opmSize 0 := by
    rw [Nat.succ_mul] at hfits
    unfold State.slotByte
    omega
  simp only [State.opmAt, hplace, hslot, hbyte]
  exact if_pos ⟨by unfold State.slotByte; omega, hwithin, by omega, hcount⟩

theorem opmAt_beyond (h : 0x700000 + (s.opmPart 0).base * 4096 + s.opmSize 0 ≤ off) : s.opmAt off = none :=
  if_neg fun ⟨_, hlt, _⟩ => Nat.not_lt.mpr h hlt

theorem slotByte_aligned (hlen : (s.opmPart 0).slotLen % 4 = 0) (hj : j % 4 = 0) : s.slotByte i j % 4 = 0 := by
  have hslot : i * (s.opmPart 0).slotLen % 4 = 0 := by rw [Nat.mul_mod, hlen, Nat.mul_zero, Nat.zero_mod]
  unfold State.slotByte
  omega

end

/-! Window writes (R266). -/

/-- The partition with a slot VALID and not marked as secret. -/
def OpmPart.putSlot (p : OpmPart) (i val : Nat) : OpmPart := { p with slots := mput p.slots i ⟨false, val, false⟩ }

/-- The value that a window write finds in a slot: 0 in an EMPTY or a POISONED one. -/
def OpmPart.found (p : OpmPart) (i : Nat) : Nat := match mget p.slots i with | some x => if x.poisoned then 0 else x.value | none => 0

theorem found_valid {p : OpmPart} {i : Nat} {x : OpmSlot} (hget : mget p.slots i = some x) (hvalid : x.poisoned = false) : p.found i = x.value := by
  simp [OpmPart.found, hget, hvalid]

section
variable {s : State} {i j off : Nat}

theorem exec_windowWrite_outside (v : Word) (hat : s.opmAt off = none) : exec (.opmWindowWrite off v) s = .next s := by
  change execOpmWindowWrite off v s = _
  simp only [execOpmWindowWrite, hat]

theorem exec_windowWrite_sealed (v : Word) (hat : s.opmAt off = some (i, j)) (hsealed : (s.opmPart 0).sealed = true) :
    exec (.opmWindowWrite off v) s = .next s := by
  change execOpmWindowWrite off v s = _
  simp only [execOpmWindowWrite, hat]
  exact if_pos (.inl hsealed)

theorem exec_windowWrite_open (v : Word) (hat : s.opmAt off = some (i, j)) (hopen : (s.opmPart 0).sealed = false) (hal : off % 4 = 0) :
    exec (.opmWindowWrite off v) s = .next (s.setOpm 0 ((s.opmPart 0).putSlot i
      (beNat (splice (natBE (s.opmPart 0).slotLen ((s.opmPart 0).found i)) j (natLE 4 v.toNat))))) := by
  change execOpmWindowWrite off v s = _
  simp only [execOpmWindowWrite, hat]
  exact if_neg (by simp [hopen, hal])

end

/-- A window write puts its four bytes, the lowest address first, and keeps the other bytes of a VALID slot. -/
theorem windowWrite_bytes {p : OpmPart} {i j : Nat} (v : Word) (hj : j + 4 ≤ p.slotLen) :
    let val := beNat (splice (natBE p.slotLen (p.found i)) j (natLE 4 v.toNat))
    (∀ k, k < 4 → (natBE p.slotLen val).getD (j + k) 0 = BitVec.ofNat 8 (v.toNat / 256 ^ k)) ∧
    (∀ k x, k < p.slotLen → k < j ∨ j + 4 ≤ k → mget p.slots i = some x → x.poisoned = false →
      (natBE p.slotLen val).getD k 0 = (natBE p.slotLen x.value).getD k 0) := by
  intro val
  have hroom : j + (natLE 4 v.toNat).length ≤ (natBE p.slotLen (p.found i)).length := by simpa using hj
  have hval : natBE p.slotLen val = splice (natBE p.slotLen (p.found i)) j (natLE 4 v.toNat) :=
    natBE_beNat ((splice_length hroom).trans (natBE_length _ _))
  rw [hval]
  refine ⟨fun k hk => ?_, fun k x _ hk hget hvalid => ?_⟩
  · rw [getD_splice_within hroom (by simpa using hk), natLE_getD _ _ _ hk]
  · rw [getD_splice_beside hroom (by simpa using hk), found_valid hget hvalid]

/-! Window reads (R262, R266). -/

section
variable {s : State} {i j off : Nat}

theorem exec_windowRead_outside (hat : s.opmAt off = none) : exec (.opmWindowRead off) s = .next (s.emit (.readData 0 off 0)) := by
  change execOpmWindowRead off s = _
  simp only [execOpmWindowRead, State.opmLook, hat]

theorem exec_windowRead_sealed (hat : s.opmAt off = some (i, j)) (hsealed : (s.opmPart 0).sealed = true) :
    exec (.opmWindowRead off) s = .next (s.emit (.readData 0 off 0)) := by
  have hlook : s.opmLook off = (s, 0) := by
    simp only [State.opmLook, hat]
    split
    · rfl
    · exact if_pos hsealed
  change execOpmWindowRead off s = _
  rw [execOpmWindowRead, hlook]

theorem exec_windowRead_poisoned {x : OpmSlot} (hat : s.opmAt off = some (i, j)) (hopen : (s.opmPart 0).sealed = false)
    (hget : mget (s.opmPart 0).slots i = some x) (hpoison : x.poisoned = true) :
    exec (.opmWindowRead off) s = .next ((s.wrB Reg.OPM_STAT 0 true).emit (.readData 0 off 0)) := by
  change execOpmWindowRead off s = _
  simp [execOpmWindowRead, State.opmLook, hat, hget, hopen, hpoison]

theorem exec_windowRead_valid {x : OpmSlot} (hat : s.opmAt off = some (i, j)) (hopen : (s.opmPart 0).sealed = false)
    (hget : mget (s.opmPart 0).slots i = some x) (hvalid : x.poisoned = false) : exec (.opmWindowRead off) s =
    .next (s.emit (.readData 0 off (BitVec.ofNat 32 (leNat (slice (natBE (s.opmPart 0).slotLen x.value) j 4))))) := by
  change execOpmWindowRead off s = _
  simp [execOpmWindowRead, State.opmLook, hat, hget, hopen, hvalid]

end

/-! Configuration of a check channel (R245). -/

theorem fld_and_fieldMask (w : Word) {hi lo a b : Nat} (hi32 : hi < 32) (hlo : lo ≤ b) (hab : b ≤ a) (hhi : a ≤ hi) :
    fld (w &&& fieldMask hi lo) a b = fld w a b := by
  apply Nat.eq_of_testBit_eq
  intro k
  have hmask := bitAt_fieldMask hi lo (b + k) hi32 (by omega)
  have hand : bitAt (w &&& fieldMask hi lo) (b + k) = (bitAt w (b + k) && bitAt (fieldMask hi lo) (b + k)) := BitVec.getLsbD_and
  rw [testBit_fld, testBit_fld, hand, hmask]
  by_cases hk : k < a - b + 1
  · simp [show lo ≤ b + k by omega, show b + k ≤ hi by omega]
  · simp [hk]

theorem setBit_31_false (w : Word) : setBit w 31 false = w &&& 0x7FFFFFFF := by
  have hmask : ~~~ fieldMask 31 31 = 0x7FFFFFFF := by decide
  simp [setBit, setBits, b2n, hmask]

theorem chkReg_channel {n k : Nat} (hn : n < 64) (hk : k ≤ 6) : chkReg (Reg.CHK_CFG n + 4 * k) = some (n, 4 * k) := by
  have hplace : Reg.CHK_CFG n + 4 * k - 0x481000 = 4 * k + n * 0x40 := by
    unfold Reg.CHK_CFG
    omega
  have hchannel : (4 * k + n * 0x40) / 0x40 = n := by omega
  have hreg : (4 * k + n * 0x40) % 0x40 = 4 * k := by omega
  simp only [chkReg, hplace, hchannel, hreg]
  exact if_pos (by unfold Reg.CHK_CFG; omega)

theorem chkReg_cfg {n : Nat} (hn : n < 64) : chkReg (Reg.CHK_CFG n) = some (n, 0) := chkReg_channel hn (Nat.zero_le 6)

/-- A configuration word asks for a custom polynomial, of 32 bits or of 64. -/
abbrev Custom (v : Word) : Prop := fld v 18 16 = 4 ∨ fld v 18 16 = 5

section
variable {s : State} {n : Nat} (v : Word) (hn : n < 64)
include hn

theorem exec_chkCfg_enabled (hon : bitAt (s.rd 0 (Reg.CHK_CFG n)) 31 = true) : exec (.chkCfgWrite (Reg.CHK_CFG n) v) s =
    .next (if bitAt v 31 = true then s else s.wr 0 (Reg.CHK_CFG n) (s.rd 0 (Reg.CHK_CFG n) &&& 0x7FFFFFFF)) := by
  change execChkCfgWrite _ v s = _
  simp only [execChkCfgWrite, chkReg_cfg hn, hon, if_true, setBit_31_false]
  cases bitAt v 31 <;> simp

theorem exec_chkCfg_disabled (hoff : bitAt (s.rd 0 (Reg.CHK_CFG n)) 31 = false) : exec (.chkCfgWrite (Reg.CHK_CFG n) v) s =
    .next (if bitAt v 31 = true ∧ Custom v ∧ bitAt (s.rd 0 (Reg.CHK_POLY_LO n)) 0 = false then
      (s.wr 0 (Reg.CHK_CFG n) (v &&& 0xFFFFFE00 &&& 0x7FFFFFFF)).wrB Reg.CHK_STAT 8 true
    else s.wr 0 (Reg.CHK_CFG n) (v &&& 0xFFFFFE00)) := by
  have hmask : fieldMask 31 9 = 0xFFFFFE00 := by decide
  have hkind : fld (v &&& 0xFFFFFE00) 18 16 = fld v 18 16 := fld_and_fieldMask v (hi := 31) (lo := 9) (by omega) (by omega) (by omega) (by omega)
  have hen : bitAt (v &&& 0xFFFFFE00) 31 = bitAt v 31 := by simp [bitAt]
  change execChkCfgWrite _ v s = _
  simp only [execChkCfgWrite, chkReg_cfg hn, hoff, hmask, hkind, hen, setBit_31_false, State.rdB,
    Bool.not_eq_true', Bool.false_eq_true, if_false, if_true]
  split <;> rfl

theorem exec_chkCfg_value {k : Nat} (hpos : 1 ≤ k) (hk : k ≤ 6) : exec (.chkCfgWrite (Reg.CHK_CFG n + 4 * k) v) s =
    .next (if bitAt (s.rd 0 (Reg.CHK_CFG n)) 31 = true then s else s.wr 0 (Reg.CHK_CFG n + 4 * k) v) := by
  change execChkCfgWrite _ v s = _
  have hother : 4 * k ≠ 0 := by omega
  simp only [execChkCfgWrite, chkReg_channel hn hk, hother, false_and, if_false]
  split <;> rfl

end

/-- Settles O37: OPM_FORMAT by its checks in order, the window by the slot that an offset names, a channel's registers by whether it is enabled. -/
theorem operandMemoryAndChannels : Obligations.OperandMemoryAndChannels := by
  unfold Obligations.OperandMemoryAndChannels
  refine ⟨fun s id c h hmay hop => ⟨exec_opmFormat_busy hmay, fun hidle h48 hh1 hh2 hin haux hcap => ?format⟩, ?window,
    fun s off v hbeyond => ?beyond, ?channel⟩
  case format =>
    intro l size okLen
    have hfields : c.fields false = .ok () := fields_unkeyed h48 hh2 hh1
    rw [exec_opmFormat_idle hmay hop hidle]
    refine ⟨fun hbad => ?_, fun hok hnone => ?_, fun hok hsome hlarge => ?_, fun hok hsome hfits => ?_⟩
    · rw [opmFormatOp_badLength hfields hbad, atOnce_err (by decide)]
    · rw [opmFormatOp_noPartition hfields hok hnone, atOnce_err (by decide)]
    · rw [opmFormatOp_tooLarge hfields hok hsome hlarge, atOnce_err (by decide)]
    · rw [opmFormatOp_formats hfields (bare_empty h hin haux hcap) hok hsome hfits]
      rfl
  case window =>
    intro s i j v p L off size _ hlen4 hj hj4 hi hfits
    have hat : s.opmAt off = some (i, j) := opmAt_slotByte hj hi hfits
    have hal : off % 4 = 0 := slotByte_aligned hlen4 hj4
    refine ⟨fun hopen => ⟨?write, fun x hget hvalid => exec_windowRead_valid hat hopen hget hvalid, fun x hget hpoison => ?poisoned⟩,
      fun hsealed => ⟨exec_windowWrite_sealed v hat hsealed, exec_windowRead_sealed hat hsealed⟩⟩
    case write => exact ⟨_, exec_windowWrite_open v hat hopen hal, windowWrite_bytes v (by omega)⟩
    case poisoned =>
      exact ⟨_, exec_windowRead_poisoned hat hopen hget hpoison, rfl, rdB_wrB_same s Reg.OPM_STAT 0 true (by decide), rfl⟩
  case beyond =>
    have hat : s.opmAt off = none := opmAt_beyond hbeyond
    exact ⟨exec_windowWrite_outside v hat, exec_windowRead_outside hat⟩
  case channel =>
    intro s n v hn
    rw [show 0x481000 + 0x40 * n = Reg.CHK_CFG n from congrArg (0x481000 + ·) (Nat.mul_comm 0x40 n)]
    intro off cfg w custom
    have hstat : off ≠ Reg.CHK_STAT := by
      unfold off Reg.CHK_CFG Reg.CHK_STAT
      omega
    refine ⟨fun hon hen => ?kept, fun hon hdis => ?cleared, fun hoff hgood => ?configured, fun hoff hen hcustom hpoly => ?refused,
      fun k hlo hhi => ⟨fun hon => ?frozen, fun hoff => ?set⟩⟩
    case kept => exact (exec_chkCfg_enabled v hn hon).trans (congrArg _ (if_pos hen))
    case cleared =>
      exact ⟨_, (exec_chkCfg_enabled v hn hon).trans (congrArg _ (if_neg (Bool.eq_false_iff.mp hdis))), rd_wr_same .., fun f o => rd_wr_other s 0 _ f o _⟩
    case configured =>
      have hnot : ¬ (bitAt v 31 = true ∧ Custom v ∧ bitAt (s.rd 0 (Reg.CHK_POLY_LO n)) 0 = false) := by
        rintro ⟨hen, hcustom, hpoly⟩
        obtain hdis | hplain | hbit := hgood
        · exact Bool.eq_false_iff.mp hdis hen
        · exact hplain hcustom
        · exact Bool.eq_false_iff.mp hpoly hbit
      exact ⟨_, (exec_chkCfg_disabled v hn hoff).trans (congrArg _ (if_neg hnot)), rd_wr_same .., fun f o => rd_wr_other s 0 _ f o _⟩
    case refused =>
      refine ⟨_, (exec_chkCfg_disabled v hn hoff).trans (congrArg _ (if_pos ⟨hen, hcustom, hpoly⟩)), ?_, rdB_wrB_same _ _ _ _ (by decide)⟩
      exact (rd_wr_pf _ _ _ _ hstat).trans (rd_wr_same ..)
    case frozen => exact (exec_chkCfg_value v hn hlo hhi).trans (congrArg _ (if_pos hon))
    case set =>
      exact ⟨_, (exec_chkCfg_value v hn hlo hhi).trans (congrArg _ (if_neg (Bool.eq_false_iff.mp hoff))), rd_wr_same .., fun f o => rd_wr_other s 0 _ f o _⟩

end Sys2Proof.Machine
end

section
/-!
SUPPORT. FAULT of the noise random generator (spec file 10, R268, R274): what the end of a command, the clear of the digest engines and a recorded
event leave of its pools and of the registers below NRG_GRP.
-/
namespace Sys2Proof.Machine
open Sys2Proof

/-! The end of a command (R90). -/

/-- The state without commands, queue pairs, batches and what is sent outward. -/
def State.sansEntries (s : State) : State :=
  { s with cmds := [], qps := [], batches := [], tx := [], free := 0, link := { s.link with pba := [] } }

section
variable (s : State)

theorem sansEntries_msix (fn vec : Nat) : (s.msix fn vec).sansEntries = s.sansEntries := by
  unfold State.msix
  (repeat' split) <;> rfl

theorem sansEntries_memWrite (fn addr : Nat) (data : List Byte) (relaxed : Bool) : (s.memWrite fn addr data relaxed).sansEntries = s.sansEntries := by
  unfold State.memWrite
  split <;> rfl

theorem sansEntries_writeOut (c : Cmd) (off : Nat) (data : List Byte) (relaxed : Bool) :
    (s.writeOut c off data relaxed).sansEntries = s.sansEntries :=
  foldl_keep State.sansEntries _ (fun _ _ => sansEntries_memWrite _ _ _ _ _) _ s

theorem sansEntries_writeCq (fn q id : Nat) (entry : List Byte) (irq ok : Bool) : (s.writeCq fn q id entry irq ok).sansEntries = s.sansEntries := by
  have hwritten : (s.entryWritten fn q id entry ok).sansEntries = s.sansEntries := sansEntries_memWrite s fn _ _ _
  rw [writeCq_eq]
  unfold State.countIrq
  dsimp only
  split
  · exact (sansEntries_msix _ _ _).trans hwritten
  · exact hwritten

theorem sansEntries_completeTop (id : Nat) (c : Cmd) (entry : List Byte) (ok : Bool) : (s.completeTop id c entry ok).sansEntries = s.sansEntries := by
  simp only [State.completeTop]
  split
  · split
    · rfl
    · exact sansEntries_writeCq _ _ _ _ _ _ _
  · rfl

theorem sansEntries_summary (bid : Nat) (b : Batch) : (s.summary bid b).sansEntries = s.sansEntries := by
  unfold State.summary
  split
  · rfl
  · exact sansEntries_completeTop _ _ _ _ _

theorem sansEntries_memberDone (bid i tag : Nat) (d : Done) (replayed : Bool) (time : Word) :
    (s.memberDone bid i tag d replayed time).sansEntries = s.sansEntries := by
  have hwritten : ∀ (c : Cmd) (off addr : Nat) (e w : List Byte),
      ((s.writeOut c off e false).memWrite c.fn addr w false).sansEntries = s.sansEntries :=
    fun c off addr e w => (sansEntries_memWrite _ _ _ _ _).trans (sansEntries_writeOut s c off e false)
  unfold State.memberDone
  split
  · dsimp only
    split
    · exact (sansEntries_summary _ _ _).trans (hwritten _ _ _ _ _)
    · exact hwritten _ _ _ _ _
  · rfl

end

/-! The pools (R268, R269). -/

/-- Pending blocks stay; ready blocks stay in FAULT and without power, an empty queue stays empty, and so do the registers below NRG_GRP. -/
structure PoolsKept (s t : State) : Prop where
  low : ∀ o, o < Reg.NRG_GRP 0 → t.rd 0 o = s.rd 0 o
  pend : t.nrg.pend = s.nrg.pend
  ready : 2 ≤ s.nrgSt → t.nrg.ready = s.nrg.ready
  queue : s.nrg.queue = [] → t.nrg.queue = []

theorem nrgStat_low : Reg.NRG_STAT < Reg.NRG_GRP 0 := by decide

theorem PoolsKept.nrgSt {s t : State} (h : PoolsKept s t) : t.nrgSt = s.nrgSt := congrArg (fld · 1 0) (h.low _ nrgStat_low)

theorem PoolsKept.refl (s : State) : PoolsKept s s := ⟨fun _ _ => rfl, rfl, fun _ => rfl, id⟩

theorem PoolsKept.trans {s t u : State} (h : PoolsKept s t) (k : PoolsKept t u) : PoolsKept s u where
  low o ho := (k.low o ho).trans (h.low o ho)
  pend := k.pend.trans h.pend
  ready hst := (k.ready (h.nrgSt.symm ▸ hst)).trans (h.ready hst)
  queue hq := k.queue (h.queue hq)

theorem PoolsKept.of_same {s t : State} (hregs : t.regs = s.regs) (hnrg : t.nrg = s.nrg) : PoolsKept s t where
  low o _ := rd_of_regs hregs o
  pend := congrArg Nrg.pend hnrg
  ready _ := congrArg Nrg.ready hnrg
  queue hq := (congrArg Nrg.queue hnrg).trans hq

theorem PoolsKept.of_sansEntries {s t : State} (h : t.sansEntries = s.sansEntries) : PoolsKept s t :=
  .of_same (field_of_erased h State.regs) (field_of_erased h State.nrg)

section
variable (s : State)

theorem unreserve_pools (blocks : List (List Byte)) : PoolsKept s (s.unreserve blocks) where
  low o _ := rd_unreserve s blocks o
  pend := by
    unfold State.unreserve
    split <;> rfl
  ready hst := congrArg (fun t : State => t.nrg.ready) (if_neg (Nat.not_lt.mpr hst))
  queue hq := by
    unfold State.unreserve
    split <;> exact hq

theorem endRaw_pools (c : Cmd) : PoolsKept s (s.endRaw c) where
  low o ho := rd_endRaw s c ho
  pend := by
    unfold State.endRaw
    dsimp only
    (repeat' split) <;> rfl
  ready _ := by
    unfold State.endRaw
    dsimp only
    (repeat' split) <;> rfl
  queue hq := by
    unfold State.endRaw
    dsimp only
    (repeat' split) <;> exact hq

theorem dropReqs_pools (id : Nat) : PoolsKept s (s.dropReqs id) := by
  have hfilter : PoolsKept s { s with nrg := { s.nrg with queue := s.nrg.queue.filter (fun r => !r.ofCmd id) } } :=
    ⟨fun _ _ => rfl, rfl, fun _ => rfl, fun hq => by simp [hq]⟩
  unfold State.dropReqs
  dsimp only
  split
  · exact (hfilter.trans (unreserve_pools _ _)).trans (endRaw_pools _ _)
  · exact hfilter

theorem opmAbort_pools (c : Cmd) : PoolsKept s (s.opmAbort c) := by
  unfold State.opmAbort
  split
  · exact .of_same rfl rfl
  · exact .refl s

theorem ended_pools (id : Nat) (c : Cmd) (d : Done) : PoolsKept s (s.ended id c d) := by
  have hreqs : PoolsKept (s.dropRuns id) (s.letGo id) := (dropReqs_pools (s.dropRuns id) id).trans (.of_same rfl rfl)
  have hruns : PoolsKept s (s.dropRuns id) := .of_same rfl rfl
  have hgo : PoolsKept s (s.letGo id) := hruns.trans hreqs
  have hcut : PoolsKept s (if d.cut then (s.letGo id).opmAbort c else s.letGo id) := by
    split
    · exact hgo.trans (opmAbort_pools _ c)
    · exact hgo
  unfold State.ended
  dsimp only
  split
  · exact hcut.trans (.of_same rfl rfl)
  · exact hcut

theorem complete_pools (id : Nat) (d : Done) : PoolsKept s (s.complete id d) := by
  cases hc : mget s.cmds id with
  | none =>
    simp only [State.complete, hc]
    exact .refl s
  | some c =>
    have hended := ended_pools s id c d
    cases hm : c.member with
    | none =>
      rw [complete_top d hc hm]
      exact hended.trans (.of_sansEntries (sansEntries_completeTop _ _ _ _ _))
    | some m =>
      rw [complete_member d hc hm]
      exact hended.trans (.of_sansEntries (sansEntries_memberDone _ _ _ _ _ _ _))

theorem dgeClear_pools : PoolsKept s s.dgeClear := by
  have hdone : ∀ (ids : List Nat) (x : State), PoolsKept x (ids.foldl (fun (x : State) i => x.complete i (.abortedLate 1)) x) := by
    intro ids
    induction ids with
    | nil => exact .refl
    | cons i t ih => exact fun x => (complete_pools x i _).trans (ih _)
  have hstat : ∀ x : State, PoolsKept x (x.wrB Reg.DGE_STAT 11 true) := fun x =>
    ⟨fun o ho => rd_wr_pf _ _ _ _ (by simp only [Reg.NRG_GRP, Reg.DGE_STAT] at ho ⊢; omega), rfl, fun _ => rfl, id⟩
  unfold State.dgeClear
  refine PoolsKept.trans (PoolsKept.trans ?_ (hdone _ _)) (hstat _)
  exact .of_same rfl rfl

end

/-! Events (R361, R362). -/

/-- Any event is recorded in its own registers and reported; one of class F clears the digest engines, and a full reset may follow. -/
theorem fault_records (s : State) (src cls : Nat) (active rail respond : Bool) : ∃ u : State, u.sansReports = s.sansReports ∧
    (∀ o, o ≠ Reg.FLT_CNT1 → o ∉ faultRegs src → u.rd 0 o = s.rd 0 o) ∧ u.rdB (Reg.FLT_STICKY (src / 32)) (src % 32) = true ∧
    s.fault src cls active rail respond = if cls = clsF then
      (if u.dgeClear.rdB Reg.FLT_CTRL 7 then u.dgeClear.fullReset [6] else u.dgeClear) else u := by
  have hrecord : ∀ r : FltSrc, ({ s with flt := mput s.flt src r } : State).sansReports = s.sansReports := fun _ => rfl
  have hkept : ∀ i, Reg.FLT_STICKY i ≠ Reg.FLT_CNT0 ∧ Reg.FLT_STICKY i ≠ Reg.FLT_CNT1 ∧ Reg.FLT_STICKY i ≠ Reg.FLT_FIRST ∧
      Reg.FLT_STICKY i ≠ Reg.FLT_FIRST_TS 0 ∧ Reg.FLT_STICKY i ≠ Reg.FLT_FIRST_TS 1 := by
    intro i
    simp only [Reg.FLT_STICKY, Reg.FLT_CNT0, Reg.FLT_CNT1, Reg.FLT_FIRST, Reg.FLT_FIRST_TS]
    omega
  obtain ⟨k0, k1, k2, k3, k4⟩ := hkept (src / 32)
  have hbit : ∀ r : FltSrc, bitAt ((({ s with flt := mput s.flt src r } : State).wrB (Reg.FLT_STICKY (src / 32)) (src % 32) true).rd 0
      (Reg.FLT_STICKY (src / 32))) (src % 32) = true := fun r => rdB_wrB_same _ _ _ _ (Nat.mod_lt _ (by decide))
  refine ⟨_, ?_, fun o hcnt1 ho => ?_, ?_, rfl⟩
  · (repeat' split) <;> simp [hrecord]
  · simp only [faultRegs, List.mem_cons, List.not_mem_nil, or_false, not_or] at ho
    obtain ⟨hsticky, hcnt, hfirst, hts0, hts1⟩ := ho
    (repeat' split) <;> simp [rd_msix, State.wrB, State.wrF, State.incF, rd_wr_pf, hsticky, hcnt, hcnt1, hfirst, hts0, hts1] <;> rfl
  · simp only [State.rdB]
    (repeat' split) <;> simp [rd_msix, State.incF, State.wrF, rd_wr_pf, k0, k1, k2, k3, k4, hbit]

end Sys2Proof.Machine
end

section
/-!
SUPPORT. The noise random generator's groups, blocks and windows (spec file 10, R267 to R274).
-/
namespace Sys2Proof.Machine
open Sys2Proof

/-! FAULT (R274). -/

section
variable {s : State}

/-- FAULT ends no request where none waits. -/
theorem nrgFail_idle (hq : s.nrg.queue = []) :
    s.nrgFail = { (s.wrF Reg.NRG_STAT 1 0 2) with nrg := { s.nrg with ready := [], pend := [], queue := [], retries := [] } } := by
  simp [State.nrgFail, State.refuseAll, hq]

/-- A class F event where F_RESET asks for no reset: it is recorded, and the digest engines are cleared. -/
theorem fault_unreset {src : Nat} (hctrl : Reg.FLT_CTRL ∉ faultRegs src) (hoff : s.rdB Reg.FLT_CTRL 7 = false) (active rail respond : Bool) :
    ∃ u : State, u.sansReports = s.sansReports ∧ (∀ o, o ≠ Reg.FLT_CNT1 → o ∉ faultRegs src → u.rd 0 o = s.rd 0 o) ∧
      u.rdB (Reg.FLT_STICKY (src / 32)) (src % 32) = true ∧ s.fault src clsF active rail respond = u.dgeClear := by
  obtain ⟨u, hsame, hregs, hsticky, heq⟩ := fault_records s src clsF active rail respond
  have hreset : u.dgeClear.rdB Reg.FLT_CTRL 7 = false := by
    rw [State.rdB, (dgeClear_pools u).low _ (by decide), hregs _ (by decide) hctrl]
    exact hoff
  refine ⟨u, hsame, hregs, hsticky, ?_⟩
  rw [heq, if_pos rfl, hreset]
  exact if_neg Bool.false_ne_true

/-- FAULT without requests and without a reset: the pools are empty, and source 246 has its event. -/
theorem nrgFault_empties (hst : s.nrgSt < 2) (hq : s.nrg.queue = []) (hoff : s.rdB Reg.FLT_CTRL 7 = false) : s.nrgFault.nrg.ready = [] ∧
    s.nrgFault.nrg.pend = [] ∧ s.nrgFault.nrgSt = 2 ∧ s.nrgFault.rdB (Reg.FLT_STICKY 7) 22 = true := by
  have heq : s.nrgFault = s.nrgFail.fault 246 clsF true false false := if_neg (by omega)
  have hfail := nrgFail_idle hq
  have hctrl : s.nrgFail.rdB Reg.FLT_CTRL 7 = false := by
    rw [hfail]
    exact (rdB_wrF_other s _ _ 1 0 2 7 (by decide)).trans hoff
  have hdown : s.nrgFail.nrgSt = 2 := by
    rw [hfail]
    exact rdF_wrF_same s _ 1 0 2 (by decide) (by decide) (by decide)
  have hready : s.nrgFail.nrg.ready = [] := by rw [hfail]
  have hpend : s.nrgFail.nrg.pend = [] := by rw [hfail]
  obtain ⟨u, hsame, hregs, hsticky, hfault⟩ := fault_unreset (src := 246) (by decide) hctrl true false false
  have hnrg : u.nrg = s.nrgFail.nrg := field_of_erased hsame State.nrg
  have hust : u.nrgSt = 2 := (congrArg (fld · 1 0) (hregs _ (by decide) (by decide))).trans hdown
  have hkept := dgeClear_pools u
  rw [heq, hfault]
  refine ⟨(hkept.ready hust.ge).trans (by rw [hnrg, hready]), hkept.pend.trans (by rw [hnrg, hpend]), hkept.nrgSt.trans hust, ?_⟩
  rw [State.rdB, hkept.low _ (by decide)]
  exact hsticky

/-- The last disagreement of the conditioner's lanes (R268, R274). -/
theorem lanesLost_empties (hst : s.nrgSt < 2) (hq : s.nrg.queue = []) (hoff : s.rdB Reg.FLT_CTRL 7 = false) : s.lanesLost.nrg.ready = [] ∧
    s.lanesLost.nrg.pend = [] ∧ s.lanesLost.nrgSt = 2 ∧ s.lanesLost.rdB (Reg.FLT_STICKY 7) 22 = true := by
  obtain ⟨u, hsame, hregs, -, hfault⟩ := fault_unreset (s := s.wrB Reg.FLT_CTRL 7 false) (src := 247) (by decide)
    (rdB_wrB_same s _ 7 false (by decide)) false false false
  have hkept := dgeClear_pools u
  have heq : s.lanesLost = (u.dgeClear.wrB Reg.FLT_CTRL 7 false).nrgFault := by
    rw [← hfault, State.lanesLost, hoff]
    rfl
  rw [heq]
  refine nrgFault_empties ?_ ?_ (rdB_wrB_same _ _ 7 false (by decide))
  · have hstat : (u.dgeClear.wrB Reg.FLT_CTRL 7 false).nrgSt = s.nrgSt := by
      refine (rdF_wrB_other _ _ _ 7 1 0 false (by decide)).trans (hkept.nrgSt.trans ?_)
      exact (congrArg (fld · 1 0) (hregs Reg.NRG_STAT (by decide) (by decide))).trans (rdF_wrB_other s _ _ 7 1 0 false (by decide))
    omega
  · exact hkept.queue ((congrArg Nrg.queue (field_of_erased hsame State.nrg)).trans hq)

end

/-! Blocks (R268, R269). -/

section
variable {s : State} {b : NrgTake}

theorem exec_nrgBlock_closed (h : 2 ≤ s.nrgSt ∨ s.grpsUp = []) : exec (.nrgBlock b) s = .next s := by
  refine if_neg ?_
  rintro ⟨hst, hup⟩
  obtain h | h := h
  · omega
  · simp [h] at hup

theorem exec_nrgBlock_open (hst : s.nrgSt < 2) (hup : s.grpsUp ≠ []) : exec (.nrgBlock b) s =
    if b.agree then
      if 0 < s.nrg.discard then .next { s with nrg := { s.nrg with discard := s.nrg.discard - 1 } }
      else if s.nrg.pend.length < 1024 then
        .next { s with nrg := { s.nrg with pend := s.nrg.pend ++ [(s.grpsUp, sha3_256 (blockSamples b.cells (turnOrder s.grpsUp)))] } }
      else .next s
    else if s.nrg.lanes = 3 then .next ({ s with nrg := { s.nrg with lanes := 2 } }.fault 247 0 false false true)
    else .next s.lanesLost := by
  refine if_pos ⟨hst, ?_⟩
  simpa using hup

/-- The first lane that disagrees goes out, and source 247 records it. -/
theorem exec_nrgBlock_spare (hst : s.nrgSt < 2) (hup : s.grpsUp ≠ []) (hdiff : b.agree = false) (hthree : s.nrg.lanes = 3) :
    ∃ t, exec (.nrgBlock b) s = .next t ∧ t.nrg = { s.nrg with lanes := 2 } ∧ t.rdB (Reg.FLT_STICKY 7) 23 = true := by
  obtain ⟨u, hsame, -, hsticky, hfault⟩ := fault_records { s with nrg := { s.nrg with lanes := 2 } } 247 0 false false true
  rw [if_neg (by decide)] at hfault
  refine ⟨u, ?_, field_of_erased hsame State.nrg, hsticky⟩
  rw [exec_nrgBlock_open hst hup, hdiff, if_neg Bool.false_ne_true, if_pos hthree, hfault]

end

/-- Bits summed by their weights. -/
theorem testBit_bitSum (f : Nat → Bool) (n : Nat) : (List.range n).foldl (fun v k => v + b2n (f k) * 2 ^ k) 0 < 2 ^ n ∧
    ∀ i, ((List.range n).foldl (fun v k => v + b2n (f k) * 2 ^ k) 0).testBit i = (decide (i < n) && f i) := by
  induction n with
  | zero => simp
  | succ n ih =>
    obtain ⟨hlt, hbit⟩ := ih
    rw [List.range_succ, List.foldl_append, List.foldl_cons, List.foldl_nil]
    generalize (List.range n).foldl (fun v k => v + b2n (f k) * 2 ^ k) 0 = v at hlt hbit
    have hsum : v + b2n (f n) * 2 ^ n = 2 ^ n * b2n (f n) + v := by rw [Nat.add_comm, Nat.mul_comm]
    have htop : b2n (f n) ≤ 1 := by cases f n <;> decide
    refine ⟨?_, fun i => ?_⟩
    · have := Nat.mul_le_mul_right (2 ^ n) htop
      rw [Nat.pow_succ]
      omega
    · rw [hsum, Nat.testBit_two_pow_mul_add _ hlt, hbit]
      by_cases hi : i < n
      · simp [hi, Nat.lt_succ_of_lt hi]
      · obtain rfl | hne := eq_or_ne i n
        · cases f i <;> simp [b2n]
        · have hzero : (b2n (f n)).testBit (i - n) = false := Nat.testBit_lt_two_pow (Nat.lt_of_le_of_lt htop (Nat.one_lt_two_pow (by omega)))
          simp [hi, hzero, show ¬ i < n + 1 by omega]

/-- Sample i that the conditioner takes, going round the cells (R268; log entry 138). -/
def takenSample (cells : List (Nat × List Byte)) (order : List Nat) (i : Nat) : Bool :=
  sampleAt ((mget cells (order.getD (i % order.length) 0)).getD []) (i / order.length)

theorem blockSamples_length (cells : List (Nat × List Byte)) (order : List Nat) : (blockSamples cells order).length = 72 := by simp [blockSamples]

theorem blockSamples_byte (cells : List (Nat × List Byte)) (order : List Nat) {j : Nat} (hj : j < 72) : (blockSamples cells order).getD j 0 =
    BitVec.ofNat 8 ((List.range 8).foldl (fun v k => v + b2n (takenSample cells order (8 * j + k)) * 2 ^ k) 0) := by
  rw [List.getD_eq_getElem _ _ ((blockSamples_length cells order).symm ▸ hj)]
  simp only [blockSamples, List.getElem_map, List.getElem_range]
  rfl

/-- The samples of a block stand in its 72 bytes in the order in which they were taken. -/
theorem blockSamples_bit (cells : List (Nat × List Byte)) (order : List Nat) {i : Nat} (hi : i < 576) :
    ((blockSamples cells order).getD (i / 8) 0).getLsbD (i % 8) = takenSample cells order i := by
  have hpos : i % 8 < 8 := Nat.mod_lt _ (by decide)
  rw [blockSamples_byte cells order (by omega), BitVec.getLsbD_ofNat, (testBit_bitSum _ 8).2, Nat.div_add_mod]
  simp [hpos]

end Sys2Proof.Machine
end

section
/-!
SUPPORT. Windows, start-up and restart of the noise random generator (spec file 10, R267, R269, R270, R272 to R275).
-/
namespace Sys2Proof.Machine
open Sys2Proof

/-! Groups in service (R274). -/

section
variable {s t : State} {g : Nat}

theorem grpUp_iff : s.grpUp g = true ↔ s.nrgSt ≠ 3 ∧ s.grpSt g = Grp.IN_SERVICE ∧ mget s.nrg.retries g = none := by
  simp [State.grpUp, and_assoc]

theorem mem_grpsUp : g ∈ s.grpsUp ↔ g < 16 ∧ s.grpUp g = true := by simp [State.grpsUp]

theorem grpUp_of_same (hstat : t.rd 0 Reg.NRG_STAT = s.rd 0 Reg.NRG_STAT) (hgrp : t.rd 0 (Reg.NRG_GRP g) = s.rd 0 (Reg.NRG_GRP g))
    (hretries : t.nrg.retries = s.nrg.retries) : t.grpUp g = s.grpUp g := by
  simp only [State.grpUp, State.nrgSt, State.grpSt, State.rdF, hstat, hgrp, hretries]

theorem nrgGrp_ne_stat (g : Nat) : Reg.NRG_GRP g ≠ Reg.NRG_STAT := by
  simp only [Reg.NRG_GRP, Reg.NRG_STAT]
  omega

theorem nrgGrp_inj {k : Nat} (h : k ≠ g) : Reg.NRG_GRP k ≠ Reg.NRG_GRP g := by
  simp only [Reg.NRG_GRP]
  omega

theorem nrgGrp_not_faultReg {src : Nat} (h : src < 1024) (g : Nat) : Reg.NRG_GRP g ∉ faultRegs src := by
  simp only [faultRegs, List.mem_cons, List.not_mem_nil, or_false, not_or, Reg.NRG_GRP, Reg.FLT_STICKY, Reg.FLT_CNT0, Reg.FLT_FIRST, Reg.FLT_FIRST_TS]
  omega

theorem nrgStat_not_faultReg {src : Nat} (h : src < 1024) : Reg.NRG_STAT ∉ faultRegs src := by
  simp only [faultRegs, List.mem_cons, List.not_mem_nil, or_false, not_or, Reg.NRG_STAT, Reg.FLT_STICKY, Reg.FLT_CNT0, Reg.FLT_FIRST, Reg.FLT_FIRST_TS]
  omega

/-- While a group is in service, or start-up tests go on, a change of the groups is at most recorded and reported (R270). -/
theorem nrgRecheck_reports (h : s.grpsUp ≠ [] ∨ s.nrgSt = 0 ∧ s.nrg.retries ≠ []) : s.nrgRecheck.sansReports = s.sansReports ∧
    ∀ o, o ∉ faultRegs 246 → s.nrgRecheck.rd 0 o = s.rd 0 o := by
  unfold State.nrgRecheck
  split
  next hdone =>
    have hup : s.grpsUp ≠ [] := by
      obtain h | ⟨hst, hretries⟩ := h
      · exact h
      · simp [hst, hretries] at hdone
    rw [if_neg (by simpa using hup)]
    split
    · exact ⟨sansReports_fault (by decide) s 246 true false false, fun o ho => rd_fault_low s true false false (by decide) ho⟩
    · split <;> exact ⟨rfl, fun _ _ => rfl⟩
  next => exact ⟨rfl, fun _ _ => rfl⟩

end

/-! Trim codes (R267). -/

/-- The state with other trim codes. -/
def State.withFb (s : State) (fb : List (Nat × Nat)) : State := { s with nrg := { s.nrg with fb := fb } }

theorem foldl_withFb {β : Type} {f : State → β → State} (h : ∀ x a, ∃ fb, f x a = x.withFb fb) (l : List β) (s : State) :
    ∃ fb, l.foldl f s = s.withFb fb := by
  induction l generalizing s with
  | nil => exact ⟨s.nrg.fb, rfl⟩
  | cons a t ih =>
    obtain ⟨fb, hfb⟩ := h s a
    obtain ⟨fb', hfb'⟩ := ih (f s a)
    exact ⟨fb', by rw [List.foldl_cons, hfb', hfb]; rfl⟩

theorem trimWindow_withFb (s : State) (obs : List (Nat × List Byte)) : ∃ fb, s.trimWindow obs = s.withFb fb :=
  foldl_withFb (fun _ _ => ⟨_, rfl⟩) obs s

/-! Tests of a window (R272). -/

theorem windowTests_range {s : State} {obs : List (Nat × List Byte)} {g : Nat} {f : Nat × Nat} (h : f ∈ s.windowTests obs g) : f.1 < 8 ∧ f.2 < 32 := by
  simp only [State.windowTests, List.mem_append, List.mem_filterMap, List.mem_range] at h
  have hnear : ∀ c : Nat, c < 32 → min c ((c + 1) % 32) < 32 := by omega
  obtain ((⟨c, hc, hf⟩ | ⟨c, hc, hf⟩) | ⟨c, hc, hf⟩) | ⟨c, hc, hf⟩ := h <;> (repeat' split at hf) <;> simp at hf <;> subst hf
  exacts [⟨by simp, hc⟩, ⟨by simp, hc⟩, ⟨by simp, hc⟩, ⟨by simp, hnear c hc⟩]

section
variable {s : State} {g : Nat} {f : Nat × Nat}

/-- A group that fails while in service (R274): its state, test and cell; its blocks are gone, and its event is recorded. -/
structure Isolated (s t : State) (g : Nat) (f : Nat × Nat) : Prop where
  state : t.grpSt g = Grp.ISOLATED
  test : t.rdF (Reg.NRG_GRP g) 10 8 = f.1
  cell : t.rdF (Reg.NRG_GRP g) 4 0 = f.2
  others : ∀ o, o ≠ Reg.NRG_GRP g → o ∉ faultRegs (230 + g) → t.rd 0 o = s.rd 0 o
  nrg : t.nrg = { s.nrg with pend := s.nrg.pend.filter (fun b => !b.1.contains g) }
  cmds : t.cmds = s.cmds

theorem windowFail_inService (hup : s.grpUp g = true) (hcap : s.captured g = false) :
    s.windowFail g f = ((s.grpFail g f).isolate g).fault (230 + g) 0 false false true := by
  obtain ⟨-, hst, hretries⟩ := grpUp_iff.mp hup
  simp [State.windowFail, hst, hretries, hcap, Grp.IN_SERVICE, Grp.RETIRED, Grp.ISOLATED, Grp.RAW]

theorem grpFail_nrg (s : State) (g : Nat) : (s.grpFail g f).nrg = s.nrg := by simp [State.grpFail]

theorem grpFail_cmds (s : State) (g : Nat) : (s.grpFail g f).cmds = s.cmds := by simp [State.grpFail]

theorem grpFail_does (s : State) (g : Nat) (htest : f.1 < 8) (hcell : f.2 < 32) : (s.grpFail g f).rdF (Reg.NRG_GRP g) 10 8 = f.1 ∧
    (s.grpFail g f).rdF (Reg.NRG_GRP g) 4 0 = f.2 ∧ ∀ o, o ≠ Reg.NRG_GRP g → (s.grpFail g f).rd 0 o = s.rd 0 o := by
  unfold State.grpFail
  refine ⟨?_, rdF_wrF_same _ _ 4 0 _ (by decide) (by decide) hcell, fun o ho => ?_⟩
  · rw [rdF_wrF_beside _ _ 4 0 _ 10 8 (by decide) (by decide) (by decide) (by decide)]
    exact rdF_wrF_same _ _ 10 8 _ (by decide) (by decide) htest
  · exact (rd_wr_pf _ _ _ _ ho).trans ((rd_wr_pf _ _ _ _ ho).trans (rd_wr_pf _ _ _ _ ho))

theorem isolate_does (s : State) (g : Nat) : (s.isolate g).grpSt g = Grp.ISOLATED ∧
    (∀ hi lo, lo ≤ hi → hi < 28 → (s.isolate g).rdF (Reg.NRG_GRP g) hi lo = s.rdF (Reg.NRG_GRP g) hi lo) ∧
    (∀ o, o ≠ Reg.NRG_GRP g → (s.isolate g).rd 0 o = s.rd 0 o) ∧ (s.isolate g).nrg = (s.dropBlocks g).nrg ∧ (s.isolate g).cmds = s.cmds := by
  unfold State.isolate
  refine ⟨?_, fun hi lo hle hlt => ?_, fun o ho => (rd_wr_pf _ _ _ _ ho).trans (rd_wr_pf _ _ _ _ ho), by simp, ?_⟩
  · rw [State.grpSt, rdF_wrF_beside _ _ 29 28 _ 31 30 (by decide) (by decide) (by decide) (by decide)]
    exact rdF_wrF_same _ _ 31 30 _ (by decide) (by decide) (by decide)
  · rw [rdF_wrF_beside _ _ 29 28 _ hi lo (by decide) (by decide) hle (by omega),
      rdF_wrF_beside _ _ 31 30 _ hi lo (by decide) (by decide) hle (by omega)]
    rfl
  · rw [State.wrF_cmds, State.wrF_cmds]
    rfl

theorem windowFail_isolated (hg : g < 16) (hup : s.grpUp g = true) (hcap : s.captured g = false) (htest : f.1 < 8) (hcell : f.2 < 32) :
    Isolated s ((s.dropBlocks g).windowFail g f) g f := by
  obtain ⟨ftest, fcell, fothers⟩ := grpFail_does (f := f) (s.dropBlocks g) g htest hcell
  obtain ⟨istate, ifields, iothers, inrg, icmds⟩ := isolate_does ((s.dropBlocks g).grpFail g f) g
  have hnrg : (((s.dropBlocks g).grpFail g f).isolate g).nrg = { s.nrg with pend := s.nrg.pend.filter (fun b => !b.1.contains g) } := by
    rw [inrg, State.dropBlocks, grpFail_nrg]
    simp [State.dropBlocks, List.filter_filter]
  rw [windowFail_inService (s := s.dropBlocks g) hup hcap]
  generalize ((s.dropBlocks g).grpFail g f).isolate g = x at istate ifields iothers hnrg icmds
  have hlow : ∀ o, o ∉ faultRegs (230 + g) → (x.fault (230 + g) 0 false false true).rd 0 o = x.rd 0 o :=
    fun o ho => rd_fault_low x false false true (by decide) ho
  have hsame := sansReports_fault (cls := 0) (by decide) x (230 + g) false false true
  have hgrp := hlow _ (nrgGrp_not_faultReg (src := 230 + g) (by omega) g)
  exact {
    state := (congrArg (fld · 31 30) hgrp).trans istate
    test := (congrArg (fld · 10 8) hgrp).trans ((ifields 10 8 (by decide) (by decide)).trans ftest)
    cell := (congrArg (fld · 4 0) hgrp).trans ((ifields 4 0 (by decide) (by decide)).trans fcell)
    others := fun o hne ho => (hlow o ho).trans ((iothers o hne).trans (fothers o hne))
    nrg := (field_of_erased hsame State.nrg).trans hnrg
    cmds := (field_of_erased hsame State.cmds).trans (icmds.trans (grpFail_cmds _ g)) }

end

/-! Windows that pass (R274, R279). -/

/-- What the passing windows of groups leave: other registers, pools, start-ups and commands, and every group in service. -/
structure WindowsPassed (gs : List Nat) (s t : State) : Prop where
  regs : ∀ o, (∀ k ∈ gs, o ≠ Reg.NRG_GRP k) → t.rd 0 o = s.rd 0 o
  ready : t.nrg.ready = s.nrg.ready
  pend : t.nrg.pend = s.nrg.pend
  cmds : t.cmds = s.cmds
  up : ∀ j, s.grpUp j = true → t.grpUp j = true

section
variable {s : State} {g : Nat}

theorem windowPass_frame (s : State) (g : Nat) : (∀ o, o ≠ Reg.NRG_GRP g → (s.windowPass g).rd 0 o = s.rd 0 o) ∧
    (s.windowPass g).nrg = { s.nrg with passes := (s.windowPass g).nrg.passes } ∧ (s.windowPass g).cmds = s.cmds := by
  unfold State.windowPass
  split
  · dsimp only
    split
    · exact ⟨fun o ho => rd_wr_pf _ _ _ _ ho, rfl, rfl⟩
    · exact ⟨fun o ho => (rd_wr_pf _ _ _ _ ho).trans (rd_wr_pf _ _ _ _ ho), rfl, rfl⟩
  · split
    · exact ⟨fun o ho => rd_wr_pf _ _ _ _ ho, rfl, rfl⟩
    · exact ⟨fun _ _ => rfl, rfl, rfl⟩

theorem windowPass_inService (h : s.grpSt g = Grp.IN_SERVICE) : s.windowPass g = s := by
  simp [State.windowPass, h, Grp.IN_SERVICE, Grp.ISOLATED, Grp.RAW]

theorem windowPass_up {j : Nat} (hj : s.grpUp j = true) : (s.windowPass g).grpUp j = true := by
  obtain rfl | hne := eq_or_ne j g
  · rw [windowPass_inService (grpUp_iff.mp hj).2.1]
    exact hj
  · obtain ⟨hregs, hnrg, -⟩ := windowPass_frame s g
    rw [grpUp_of_same (hregs _ (nrgGrp_ne_stat g).symm) (hregs _ (nrgGrp_inj hne)) (by rw [hnrg])]
    exact hj

theorem windowPass_foldl (gs : List Nat) (s : State) : WindowsPassed gs s (gs.foldl State.windowPass s) := by
  induction gs generalizing s with
  | nil => exact ⟨fun _ _ => rfl, rfl, rfl, rfl, fun _ => id⟩
  | cons g t ih =>
    obtain ⟨hregs, hnrg, hcmds⟩ := windowPass_frame s g
    have hrest := ih (s.windowPass g)
    exact {
      regs := fun o ho => (hrest.regs o (fun k hk => ho k (List.mem_cons_of_mem _ hk))).trans (hregs o (ho g List.mem_cons_self))
      ready := hrest.ready.trans (by rw [hnrg])
      pend := hrest.pend.trans (by rw [hnrg])
      cmds := hrest.cmds.trans hcmds
      up := fun j hj => hrest.up j (windowPass_up hj) }

end

/-! The ready pool filled (R269, R270, R273). -/

theorem moveBlocks_all {n : Nat} {l : List (List Nat × List Byte)} (hl : ∀ b ∈ l, b.1 = []) (hn : l.length ≤ n) : moveBlocks n l = (l.map (·.2), []) := by
  induction l generalizing n with
  | nil => rfl
  | cons b t ih =>
    have hpos : 0 < n := Nat.lt_of_lt_of_le (Nat.succ_pos _) hn
    have hrest := ih (n := n - 1) (fun x hx => hl x (List.mem_cons_of_mem _ hx)) (by simp at hn; omega)
    simp [moveBlocks, hl b List.mem_cons_self, hpos, hrest]

theorem moveBlocks_rest (n : Nat) (l : List (List Nat × List Byte)) : ∀ b ∈ (moveBlocks n l).2, b ∈ l := by
  induction l generalizing n with
  | nil => simp [moveBlocks]
  | cons a t ih =>
    intro b hb
    rw [moveBlocks] at hb
    split at hb
    · exact List.mem_cons_of_mem _ (ih _ b hb)
    · obtain rfl | hb := List.mem_cons.mp hb
      · exact List.mem_cons_self
      · exact List.mem_cons_of_mem _ (ih _ b hb)

/-- Blocks moved to the ready pool, and those that still wait. -/
def State.pooled (s : State) (more : List (List Byte)) (rest : List (List Nat × List Byte)) : State :=
  { s with nrg := { s.nrg with ready := s.nrg.ready ++ more, pend := rest } }

section
variable {s : State}

/-- Filling the ready pool moves blocks, and may end the start-up. -/
theorem fillReady_shape (s : State) : ∃ more rest, (∀ b ∈ rest, b ∈ s.nrg.pend) ∧
    (s.fillReady = s.pooled more rest ∨ s.nrgSt = 0 ∧ s.fillReady = (s.pooled more rest).wrF Reg.NRG_STAT 1 0 1) := by
  by_cases h : s.nrgSt < 2 ∧ !s.nrgLow
  · refine ⟨(moveBlocks (512 - s.readyBlocks) s.nrg.pend).1, _, moveBlocks_rest (512 - s.readyBlocks) s.nrg.pend, ?_⟩
    rw [State.fillReady, if_pos h]
    dsimp only
    split
    next hst => exact .inr ⟨hst.1, rfl⟩
    next => exact .inl rfl
  · refine ⟨[], s.nrg.pend, fun _ => id, .inl ?_⟩
    rw [State.fillReady, if_neg h]
    simp [State.pooled]

theorem fillReady_running (hst : s.nrgSt = 1) : ∃ more rest, (∀ b ∈ rest, b ∈ s.nrg.pend) ∧ s.fillReady = s.pooled more rest := by
  obtain ⟨more, rest, hrest, h | ⟨hzero, -⟩⟩ := fillReady_shape s
  · exact ⟨more, rest, hrest, h⟩
  · omega

/-- With room for them, all blocks whose windows have passed move. -/
theorem fillReady_all (hst : s.nrgSt = 1) (hlow : s.nrgLow = false) (hpassed : ∀ b ∈ s.nrg.pend, b.1 = [])
    (hroom : s.readyBlocks + s.nrg.pend.length ≤ 512) : s.fillReady = s.pooled (s.nrg.pend.map (·.2)) [] := by
  rw [State.fillReady, if_pos (by simp [hst, hlow])]
  dsimp only
  rw [moveBlocks_all hpassed (by omega), if_neg (by simp [hst])]
  rfl

end

/-! A window period (R269, R272, R274). -/

/-- The groups that fail a test in a window, each with the last test it fails. -/
def State.failing (s : State) (obs : List (Nat × List Byte)) : List (Nat × Nat × Nat) :=
  (((List.range 16).filter (fun g => !s.captured g)).map (fun g => (g, s.windowTests obs g))).filterMap (fun x => x.2.getLast?.map (fun f => (x.1, f)))

/-- The groups judged by their windows. -/
def State.judged (s : State) (obs : List (Nat × List Byte)) : State :=
  ((List.range 16).filter (fun g => !(s.failing obs).any (fun f => f.1 == g))).foldl State.windowPass
    (((s.failing obs).foldl (fun (x : State) f => (x.dropBlocks f.1).windowFail f.1 f.2) s).trimWindow obs)

/-- The state once windows are judged: blocks wait for captured groups alone. -/
def State.closed (s : State) (obs : List (Nat × List Byte)) : State :=
  { s.judged obs with nrg := { (s.judged obs).nrg with
    pend := (s.judged obs).nrg.pend.map (fun (b : List Nat × List Byte) => (b.1.filter s.captured, b.2)) } }

/-- The count of window periods in a row in which a group left service. -/
def State.lostCount (s : State) (obs : List (Nat × List Byte)) : Nat :=
  if (s.grpsUp.filter (fun g => (s.failing obs).any (fun f => f.1 == g))).isEmpty then 0 else s.rdF Reg.NRG_STAT 15 14 + 1

section
variable {s : State} {obs : List (Nat × List Byte)} {g : Nat} {f : Nat × Nat} {l : List (Nat × Nat)}

theorem exec_windowEnd_closed (hst : 2 ≤ s.nrgSt) : exec (.nrgWindowEnd obs) s = .next s := if_neg (by omega)

theorem exec_windowEnd_open (hst : s.nrgSt < 2) : exec (.nrgWindowEnd obs) s = if 3 ≤ s.lostCount obs then .next (s.closed obs).nrgFault else
    .next (((s.closed obs).wrF Reg.NRG_STAT 15 14 (s.lostCount obs)).fillReady.nrgRecheck) := if_pos hst

theorem exec_windowEnd_next (obs : List (Nat × List Byte)) (s : State) : ∃ t, exec (.nrgWindowEnd obs) s = .next t := by
  by_cases hst : s.nrgSt < 2
  · rw [exec_windowEnd_open hst]
    split <;> exact ⟨_, rfl⟩
  · exact ⟨s, exec_windowEnd_closed (by omega)⟩

theorem captured_none (h : ∀ x ∈ s.cmds, x.2.op ≠ 0x0E20) (g : Nat) : s.captured g = false := by
  simp only [State.captured, List.any_eq_false]
  intro x hx
  simp [h x hx]

theorem failing_eq (hcap : ∀ g, s.captured g = false) :
    s.failing obs = (List.range 16).filterMap (fun g => (s.windowTests obs g).getLast?.map (fun f => (g, f))) := by
  simp [State.failing, hcap, List.filterMap_map]

theorem failing_none (hcap : ∀ g, s.captured g = false) (h : ∀ g, g < 16 → s.windowTests obs g = []) : s.failing obs = [] := by
  rw [failing_eq hcap, List.filterMap_eq_nil_iff]
  intro g hg
  simp [h g (List.mem_range.mp hg)]

theorem failing_one (hcap : ∀ g, s.captured g = false) (hg : g < 16) (hfails : s.windowTests obs g = l ++ [f])
    (hpass : ∀ k, k < 16 → k ≠ g → s.windowTests obs k = []) : s.failing obs = [(g, f)] := by
  obtain ⟨as, bs, hsplit⟩ := List.append_of_mem (List.mem_range.mpr hg)
  have hnodup : (as ++ g :: bs).Nodup := hsplit ▸ List.nodup_range
  obtain ⟨-, hbs, hdisjoint⟩ := List.nodup_append.mp hnodup
  have hnil : ∀ ks : List Nat, (∀ k ∈ ks, k ∈ List.range 16 ∧ k ≠ g) →
      ks.filterMap (fun g => (s.windowTests obs g).getLast?.map (fun f => (g, f))) = [] := by
    intro ks hks
    rw [List.filterMap_eq_nil_iff]
    intro k hk
    obtain ⟨hmem, hne⟩ := hks k hk
    simp [hpass k (List.mem_range.mp hmem) hne]
  rw [failing_eq hcap, hsplit, List.filterMap_append, List.filterMap_cons, hfails,
    hnil as (fun k hk => ⟨by simp [hsplit, hk], hdisjoint k hk g List.mem_cons_self⟩),
    hnil bs (fun k hk => ⟨by simp [hsplit, hk], fun heq => (List.nodup_cons.mp hbs).1 (heq ▸ hk)⟩)]
  simp

theorem judged_none (hnone : s.failing obs = []) : ∃ fb, WindowsPassed (List.range 16) (s.withFb fb) (s.judged obs) := by
  obtain ⟨fb, hfb⟩ := trimWindow_withFb s obs
  have heq : s.judged obs = (List.range 16).foldl State.windowPass (s.withFb fb) := by simp [State.judged, hnone, hfb]
  exact ⟨fb, heq ▸ windowPass_foldl _ _⟩

theorem judged_one (hone : s.failing obs = [(g, f)]) :
    ∃ fb, WindowsPassed ((List.range 16).filter (· != g)) (((s.dropBlocks g).windowFail g f).withFb fb) (s.judged obs) := by
  obtain ⟨fb, hfb⟩ := trimWindow_withFb ((s.dropBlocks g).windowFail g f) obs
  have heq : s.judged obs = ((List.range 16).filter (· != g)).foldl State.windowPass (((s.dropBlocks g).windowFail g f).withFb fb) := by
    simp only [State.judged, hone, List.foldl_cons, List.foldl_nil, hfb]
    congr 2
    funext k
    simp [bne, Bool.beq_comm]
  exact ⟨fb, heq ▸ windowPass_foldl _ _⟩

theorem exists_other_up (hmore : 2 ≤ s.grpsUp.length) (g : Nat) : ∃ j ∈ s.grpsUp, j ≠ g := by
  by_contra hno
  have hnodup : s.grpsUp.Nodup := List.nodup_range.filter _
  have hle := (hnodup.subperm (l₂ := [g]) (fun x hx => List.mem_singleton.mpr (by_contra fun hne => hno ⟨x, hx, hne⟩))).length_le
  rw [List.length_singleton] at hle
  omega

/-- With no capture under way, no block waits once the windows are judged. -/
theorem closed_passed (hcap : ∀ g, s.captured g = false) : ∀ b ∈ (s.closed obs).nrg.pend, b.1 = [] := by
  intro b hb
  obtain ⟨a, -, rfl⟩ := List.mem_map.mp hb
  simp [hcap]

/-- The end of a window period in RUN, from the state in which its windows are judged. -/
structure PeriodEnds (s t : State) (n : Nat) : Prop where
  count : t.rdF Reg.NRG_STAT 15 14 = n
  grps : ∀ g, t.rd 0 (Reg.NRG_GRP g) = s.rd 0 (Reg.NRG_GRP g)
  cmds : t.cmds = s.cmds
  pend : ∀ b ∈ t.nrg.pend, b ∈ s.nrg.pend

/-- The period's count in NRG_STAT. -/
theorem nrgSt_counted (n : Nat) : (s.wrF Reg.NRG_STAT 15 14 n).nrgSt = s.nrgSt :=
  rdF_wrF_beside _ _ 15 14 _ 1 0 (by decide) (by decide) (by decide) (by decide)

theorem grpUp_counted (n g : Nat) : (s.wrF Reg.NRG_STAT 15 14 n).grpUp g = s.grpUp g := by
  have hgrp : (s.wrF Reg.NRG_STAT 15 14 n).grpSt g = s.grpSt g := rdF_wrF_other _ _ _ _ _ _ _ _ (nrgGrp_ne_stat g)
  simp only [State.grpUp, nrgSt_counted, hgrp, State.wrF_nrg]

theorem period_ends {n : Nat} (hst : s.nrgSt = 1) (hn : n < 4) (hg : g < 16) (hup : s.grpUp g = true) :
    PeriodEnds s ((s.wrF Reg.NRG_STAT 15 14 n).fillReady.nrgRecheck) n := by
  obtain ⟨more, rest, hrest, hfill⟩ := fillReady_running ((nrgSt_counted (s := s) n).trans hst)
  rw [hfill]
  have hmem : g ∈ ((s.wrF Reg.NRG_STAT 15 14 n).pooled more rest).grpsUp := mem_grpsUp.mpr ⟨hg, (grpUp_counted n g).trans hup⟩
  obtain ⟨hsame, hregs⟩ := nrgRecheck_reports (.inl (List.ne_nil_of_mem hmem))
  refine ⟨?_, fun k => ?_, field_of_erased hsame State.cmds, ?_⟩
  · refine (congrArg (fld · 15 14) (hregs _ (by decide))).trans ?_
    exact rdF_wrF_same s _ 15 14 n (by decide) (by decide) hn
  · exact (hregs _ (nrgGrp_not_faultReg (by decide) k)).trans (rd_wr_pf _ _ _ _ (nrgGrp_ne_stat k))
  · rw [field_of_erased hsame (fun x => x.nrg.pend)]
    exact hrest

/-- Every group passes and the pool has room: all blocks move (R269). -/
theorem period_moves (hst : s.nrgSt = 1) (hup : ∀ g, g < 16 → s.grpUp g = true) (hpassed : ∀ b ∈ s.nrg.pend, b.1 = [])
    (hroom : s.readyBlocks + s.nrg.pend.length ≤ 512) :
    ((s.wrF Reg.NRG_STAT 15 14 0).fillReady.nrgRecheck).nrg.ready = s.nrg.ready ++ s.nrg.pend.map (·.2) ∧
      ((s.wrF Reg.NRG_STAT 15 14 0).fillReady.nrgRecheck).nrg.pend = [] := by
  have hall : ∀ g, g < 16 → (s.wrF Reg.NRG_STAT 15 14 0).grpUp g = true := fun g hg => (grpUp_counted 0 g).trans (hup g hg)
  have hgrps : (s.wrF Reg.NRG_STAT 15 14 0).grpsUp = List.range 16 :=
    List.filter_eq_self.mpr (fun g hg => hall g (List.mem_range.mp hg))
  have hfill := fillReady_all (s := s.wrF Reg.NRG_STAT 15 14 0) ((nrgSt_counted 0).trans hst) (by simp [State.nrgLow, hgrps]) hpassed hroom
  rw [hfill]
  have hmem : 0 ∈ ((s.wrF Reg.NRG_STAT 15 14 0).pooled (s.nrg.pend.map (·.2)) []).grpsUp := mem_grpsUp.mpr ⟨by decide, hall 0 (by decide)⟩
  obtain ⟨hsame, -⟩ := nrgRecheck_reports (.inl (List.ne_nil_of_mem hmem))
  exact ⟨field_of_erased hsame (fun x => x.nrg.ready), field_of_erased hsame (fun x => x.nrg.pend)⟩

/-- A window period without failures (R269). -/
theorem exec_windowEnd_passes (hst : s.nrgSt = 1) (hraw : ∀ x ∈ s.cmds, x.2.op ≠ 0x0E20)
    (h : ∀ g, g < 16 → s.grpUp g = true ∧ s.windowTests obs g = []) (hroom : s.readyBlocks + s.nrg.pend.length ≤ 512) :
    ∃ t, exec (.nrgWindowEnd obs) s = .next t ∧ t.nrg.ready = s.nrg.ready ++ s.nrg.pend.map (·.2) ∧ t.nrg.pend = [] ∧
      t.rdF Reg.NRG_STAT 15 14 = 0 ∧ t.cmds = s.cmds := by
  have hcap := captured_none hraw
  have hnone : s.failing obs = [] := failing_none hcap (fun g hg => (h g hg).2)
  have hcount : s.lostCount obs = 0 := by simp [State.lostCount, hnone]
  obtain ⟨fb, hjudged⟩ := judged_none hnone
  have hup : ∀ g, g < 16 → (s.closed obs).grpUp g = true := fun g hg => hjudged.up g (h g hg).1
  have hrun : (s.closed obs).nrgSt = 1 := (congrArg (fld · 1 0) (hjudged.regs _ (fun k _ => (nrgGrp_ne_stat k).symm))).trans hst
  have hpend : (s.judged obs).nrg.pend = s.nrg.pend := hjudged.pend
  have hready : (s.judged obs).nrg.ready = s.nrg.ready := hjudged.ready
  have hcmds : (s.judged obs).cmds = s.cmds := hjudged.cmds
  have hblocks : (s.closed obs).readyBlocks + (s.closed obs).nrg.pend.length ≤ 512 := by
    simpa [State.readyBlocks, State.closed, hcmds, hready, hpend] using hroom
  have hends := period_ends (n := 0) hrun (by decide) (by decide) (hup 0 (by decide))
  obtain ⟨mready, mpend⟩ := period_moves hrun hup (closed_passed hcap) hblocks
  refine ⟨_, (exec_windowEnd_open (by omega)).trans (if_neg (by omega)), ?_, ?_, ?_, ?_⟩
  · rw [hcount, mready]
    simp [State.closed, hready, hpend, Function.comp_def]
  · rw [hcount, mpend]
  · rw [hcount, hends.count]
  · rw [hcount, hends.cmds]
    exact hcmds

/-- A window period in which one group in service fails, and others stay (R274). -/
theorem exec_windowEnd_isolates (hst : s.nrgSt = 1) (hraw : ∀ x ∈ s.cmds, x.2.op ≠ 0x0E20) (hg : g < 16) (hup : s.grpUp g = true)
    (hmore : 2 ≤ s.grpsUp.length) (hfew : s.rdF Reg.NRG_STAT 15 14 < 2) (hfails : s.windowTests obs g = l ++ [f])
    (hpass : ∀ k, k < 16 → k ≠ g → s.windowTests obs k = []) : ∃ t, exec (.nrgWindowEnd obs) s = .next t ∧ t.grpSt g = Grp.ISOLATED ∧
      t.rdF (Reg.NRG_GRP g) 10 8 = f.1 ∧ t.rdF (Reg.NRG_GRP g) 4 0 = f.2 ∧ t.rdF Reg.NRG_STAT 15 14 = s.rdF Reg.NRG_STAT 15 14 + 1 ∧
      ∀ b ∈ t.nrg.pend, g ∉ b.1 := by
  have hcap := captured_none hraw
  have hone : s.failing obs = [(g, f)] := failing_one hcap hg hfails hpass
  have hcount : s.lostCount obs = s.rdF Reg.NRG_STAT 15 14 + 1 := by
    have hlost : g ∈ s.grpsUp.filter (fun g => (s.failing obs).any (fun f => f.1 == g)) :=
      List.mem_filter.mpr ⟨mem_grpsUp.mpr ⟨hg, hup⟩, by simp [hone]⟩
    exact if_neg (fun hnone => List.ne_nil_of_mem hlost (List.isEmpty_iff.mp hnone))
  obtain ⟨htest, hcell⟩ := windowTests_range (s := s) (obs := obs) (g := g) (f := f) (by simp [hfails])
  have hiso := windowFail_isolated hg hup (hcap g) htest hcell
  obtain ⟨fb, hjudged⟩ := judged_one hone
  have hkept : ∀ o, o ≠ Reg.NRG_GRP g → o ∉ faultRegs (230 + g) → (∀ k, o ≠ Reg.NRG_GRP k) → (s.judged obs).rd 0 o = s.rd 0 o :=
    fun o hne ho hno => (hjudged.regs o (fun k _ => hno k)).trans (hiso.others o hne ho)
  have hstat := hkept Reg.NRG_STAT (nrgGrp_ne_stat g).symm (nrgStat_not_faultReg (by omega)) (fun k => (nrgGrp_ne_stat k).symm)
  have hrun : (s.closed obs).nrgSt = 1 := (congrArg (fld · 1 0) hstat).trans hst
  have hgrp : (s.closed obs).rd 0 (Reg.NRG_GRP g) = ((s.dropBlocks g).windowFail g f).rd 0 (Reg.NRG_GRP g) :=
    hjudged.regs _ (fun k hk => nrgGrp_inj (bne_iff_ne.mp (List.mem_filter.mp hk).2).symm)
  obtain ⟨j, hj, hne⟩ := exists_other_up hmore g
  obtain ⟨hjlt, hjup⟩ := mem_grpsUp.mp hj
  have hother : (s.closed obs).grpUp j = true := by
    refine hjudged.up j (Eq.trans ?_ hjup)
    exact grpUp_of_same (hiso.others _ (nrgGrp_ne_stat g).symm (nrgStat_not_faultReg (by omega)))
      (hiso.others _ (nrgGrp_inj hne) (nrgGrp_not_faultReg (by omega) j)) ((congrArg Nrg.retries hiso.nrg :))
  have hends := period_ends (n := s.lostCount obs) hrun (by omega) hjlt hother
  have hgrp' := (hends.grps g).trans hgrp
  refine ⟨_, (exec_windowEnd_open (by omega)).trans (if_neg (by omega)), ?_, ?_, ?_, hends.count.trans hcount, fun b hb => ?_⟩
  · exact (congrArg (fld · 31 30) hgrp').trans hiso.state
  · exact (congrArg (fld · 10 8) hgrp').trans hiso.test
  · exact (congrArg (fld · 4 0) hgrp').trans hiso.cell
  · rw [closed_passed hcap b (hends.pend b hb)]
    exact List.not_mem_nil

end

end Sys2Proof.Machine
end

section
/-!
SUPPORT. Start-up and RESTART, grants, wait limits and expanders of the noise random generator (spec file 10, R271, R273, R275 to R277).
-/
namespace Sys2Proof.Machine
open Sys2Proof

/-! Start-up tests (R273). -/

/-- The bias loops of a group settled at the codes given. -/
def State.biased (s : State) (g : Nat) (fb : List (Nat × Nat)) : State :=
  (fb.filter (fun (x : Nat × Nat) => x.1 / 32 == g)).foldl (fun (x : State) c => x.setFb c.1 (c.2 % 64)) s

/-- The group enters service. -/
def State.entered (s : State) (g : Nat) : State :=
  { (s.wrF (Reg.NRG_GRP g) 31 30 Grp.IN_SERVICE) with nrg := { s.nrg with retries := mdel s.nrg.retries g } }

/-- The group fails its start-up tests, and runs them again. -/
def State.retried (s : State) (g n cell : Nat) : State :=
  { s.grpFail g (5, cell) with nrg := { (s.grpFail g (5, cell)).nrg with retries := mput (s.grpFail g (5, cell)).nrg.retries g (n + 1) } }

theorem retried_nrg (s : State) (g n cell : Nat) : (s.retried g n cell).nrg = { s.nrg with retries := mput s.nrg.retries g (n + 1) } := by
  rw [State.retried, grpFail_nrg]

/-- The group fails its start-up tests for the last time. -/
def State.retired (s : State) (g cell : Nat) : State :=
  ({ ((s.grpFail g (5, cell)).wrF (Reg.NRG_GRP g) 31 30 Grp.RETIRED) with nrg := { s.nrg with retries := mdel s.nrg.retries g } } : State).flt1 (230 + g) 1

section
variable {s : State} {g n : Nat} {fb : List (Nat × Nat)} {obs : List (Nat × List Byte)}

theorem biased_withFb (s : State) (g : Nat) (fb : List (Nat × Nat)) : ∃ fb', s.biased g fb = s.withFb fb' := foldl_withFb (fun _ _ => ⟨_, rfl⟩) _ s

theorem biased_retries (s : State) (g : Nat) (fb : List (Nat × Nat)) : (s.biased g fb).nrg.retries = s.nrg.retries := by
  obtain ⟨fb', hfb⟩ := biased_withFb s g fb
  rw [hfb]
  rfl

theorem exec_startup_idle (h : mget s.nrg.retries g = none ∨ 2 ≤ s.nrgSt) : exec (.nrgStartupDone g fb obs) s = .next s := by
  change execNrgStartupDone g fb obs s = _
  unfold execNrgStartupDone
  split
  · rfl
  next m hm => exact if_pos (h.resolve_left (by simp [hm]))

theorem exec_startup_open (hn : mget s.nrg.retries g = some n) (hst : s.nrgSt < 2) : exec (.nrgStartupDone g fb obs) s =
    match ((s.biased g fb).windowTests obs g).getLast? with
    | none =>
      if s.grpSt g = Grp.RAW then
        .next { s.biased g fb with nrg := { (s.biased g fb).nrg with retries := mdel s.nrg.retries g, discard := 16 } }
      else .next ((s.biased g fb).entered g).nrgRecheck
    | some f =>
      if n < 3 then .next ((s.biased g fb).retried g n f.2) else .next ((s.biased g fb).retired g f.2).nrgRecheck := by
  change execNrgStartupDone g fb obs s = _
  unfold execNrgStartupDone State.entered State.retired
  rw [hn, biased_retries]
  dsimp only
  rw [if_neg (by omega)]
  rfl

theorem exec_startup_next : ∃ t, exec (.nrgStartupDone g fb obs) s = .next t := by
  cases hn : mget s.nrg.retries g with
  | none => exact ⟨s, exec_startup_idle (.inl hn)⟩
  | some n =>
    by_cases hst : s.nrgSt < 2
    · rw [exec_startup_open hn hst]
      (repeat' split) <;> exact ⟨_, rfl⟩
    · exact ⟨s, exec_startup_idle (.inr (by omega))⟩

/-- Another group's start-up goes on when this one's ends. -/
theorem retries_left {m : List (Nat × Nat)} (h : ∃ k, k ≠ g ∧ (mget m k).isSome = true) : mdel m g ≠ [] := by
  obtain ⟨k, hne, hk⟩ := h
  intro hnil
  rw [← mget_mdel_other m g k hne, hnil] at hk
  exact Bool.false_ne_true hk

theorem entered_does (hst : s.nrgSt = 0) (hleft : ∃ k, k ≠ g ∧ (mget s.nrg.retries k).isSome = true) :
    mget (s.entered g).nrgRecheck.nrg.retries g = none ∧ (s.entered g).nrgRecheck.grpSt g = Grp.IN_SERVICE := by
  have hstart : (s.entered g).nrgSt = 0 := (rdF_wrF_other s _ _ 31 30 _ 1 0 (nrgGrp_ne_stat g).symm).trans hst
  obtain ⟨hsame, hregs⟩ := nrgRecheck_reports (.inr ⟨hstart, retries_left hleft⟩)
  constructor
  · rw [field_of_erased hsame (fun x => x.nrg.retries)]
    exact mget_mdel_same _ _
  · refine (congrArg (fld · 31 30) (hregs _ (nrgGrp_not_faultReg (by decide) g))).trans ?_
    exact rdF_wrF_same s _ 31 30 _ (by decide) (by decide) (by decide)

theorem retired_does (hg : g < 16) (cell : Nat) (hst : s.nrgSt = 0) (hleft : ∃ k, k ≠ g ∧ (mget s.nrg.retries k).isSome = true) :
    mget (s.retired g cell).nrgRecheck.nrg.retries g = none ∧ (s.retired g cell).nrgRecheck.grpSt g = Grp.RETIRED := by
  have hlow : ∀ o, o ∉ faultRegs (230 + g) → (s.retired g cell).rd 0 o = ((s.grpFail g (5, cell)).wrF (Reg.NRG_GRP g) 31 30 Grp.RETIRED).rd 0 o :=
    fun o ho => rd_flt1_classD _ _ _ ho
  have hretries : (s.retired g cell).nrg.retries = mdel s.nrg.retries g :=
    field_of_erased (sansReports_fault (by decide) _ (230 + g) false false false) (fun x => x.nrg.retries)
  have hstart : (s.retired g cell).nrgSt = 0 := by
    refine (congrArg (fld · 1 0) (hlow _ (nrgStat_not_faultReg (by omega)))).trans (Eq.trans ?_ hst)
    simp only [State.grpFail, State.incF, State.wrF]
    iterate 4 rw [rd_wr_pf _ _ _ _ (nrgGrp_ne_stat g).symm]
    rfl
  obtain ⟨hsame, hregs⟩ := nrgRecheck_reports (.inr ⟨hstart, hretries ▸ retries_left hleft⟩)
  constructor
  · rw [field_of_erased hsame (fun x => x.nrg.retries), hretries]
    exact mget_mdel_same _ _
  · refine (congrArg (fld · 31 30) ((hregs _ (nrgGrp_not_faultReg (by decide) g)).trans (hlow _ (nrgGrp_not_faultReg (by omega) g)))).trans ?_
    exact rdF_wrF_same _ _ 31 30 _ (by decide) (by decide) (by decide)

/-- A failed start-up with retries left is counted (R273). -/
theorem exec_startup_retries (hn : mget s.nrg.retries g = some n) (hst : s.nrgSt < 2) (hfails : (s.biased g fb).windowTests obs g ≠ []) (hfew : n < 3) :
    ∃ t, exec (.nrgStartupDone g fb obs) s = .next t ∧ t.nrg = { (s.biased g fb).nrg with retries := mput s.nrg.retries g (n + 1) } := by
  obtain ⟨f, hf⟩ : ∃ f, ((s.biased g fb).windowTests obs g).getLast? = some f := ⟨_, List.getLast?_eq_some_getLast hfails⟩
  refine ⟨(s.biased g fb).retried g n f.2, ?_, by rw [retried_nrg, biased_retries]⟩
  rw [exec_startup_open hn hst, hf]
  exact if_pos hfew

/-- The end of a group's start-up while another's goes on: it is in service, or RETIRED (R273). -/
theorem exec_startup_ends (hg : g < 16) (hn : mget s.nrg.retries g = some n) (hst : s.nrgSt = 0)
    (hleft : ∃ k, k ≠ g ∧ (mget s.nrg.retries k).isSome = true) : ∃ t, exec (.nrgStartupDone g fb obs) s = .next t ∧
      ((s.biased g fb).windowTests obs g = [] → s.grpSt g ≠ Grp.RAW → mget t.nrg.retries g = none ∧ t.grpSt g = Grp.IN_SERVICE) ∧
      ((s.biased g fb).windowTests obs g ≠ [] → 3 ≤ n → mget t.nrg.retries g = none ∧ t.grpSt g = Grp.RETIRED) := by
  obtain ⟨fb', hfb⟩ := biased_withFb s g fb
  have hstart : (s.biased g fb).nrgSt = 0 := by
    rw [hfb]
    exact hst
  have hleft' : ∃ k, k ≠ g ∧ (mget (s.biased g fb).nrg.retries k).isSome = true := by
    rw [hfb]
    exact hleft
  obtain ⟨t, ht⟩ := exec_startup_next (s := s) (g := g) (fb := fb) (obs := obs)
  have hopen := ht.symm.trans (exec_startup_open hn (by omega))
  refine ⟨t, ht, fun hpass hraw => ?_, fun hfails hlast => ?_⟩
  · simp only [hpass, List.getLast?_nil, if_neg hraw, Host.Outcome.next.injEq] at hopen
    rw [hopen]
    exact entered_does hstart hleft'
  · simp only [List.getLast?_eq_some_getLast hfails, if_neg (Nat.not_lt.mpr hlast), Host.Outcome.next.injEq] at hopen
    rw [hopen]
    exact retired_does hg _ hstart hleft'

end

/-! RESTART (R275). -/

section
variable {s : State}

theorem exec_restart_ignored (h : s.nrgSt ≠ 2) : exec .nrgRestart s = .next s := congrArg Host.Outcome.next (if_neg h)

theorem exec_restart_fault (h : s.nrgSt = 2) : exec .nrgRestart s = .next s.nrgStart := congrArg Host.Outcome.next (if_pos h)

/-- Seeds are asked for in the queue alone. -/
theorem askSeeds_frame (s : State) : ∃ q, s.askSeeds = { s with nrg := { s.nrg with queue := q } } := by
  refine List.foldlRecOn (motive := fun x : State => ∃ q, x = { s with nrg := { s.nrg with queue := q } }) expanders _ ⟨s.nrg.queue, rfl⟩ ?_
  rintro x ⟨q, rfl⟩ e -
  unfold State.askSeed
  (repeat' split) <;> exact ⟨_, rfl⟩

theorem nrgStart_does (s : State) : s.nrgStart.nrg.ready = [] ∧ s.nrgStart.nrg.pend = [] ∧ s.nrgStart.nrg.discard = 16 ∧ s.nrgStart.nrgSt = 0 := by
  unfold State.nrgStart
  dsimp only
  generalize List.foldl _ s _ = x
  obtain ⟨q, hq⟩ := askSeeds_frame ({ (((x.wrF Reg.NRG_STAT 1 0 0).wrF Reg.NRG_STAT 15 14 0).fltActive 246 false) with
    nrg := { (((x.wrF Reg.NRG_STAT 1 0 0).wrF Reg.NRG_STAT 15 14 0).fltActive 246 false).nrg with
      ready := [], pend := [], discard := 16, passes := []
      retries := ((List.range 16).filter (fun g => s.grpSt g != Grp.RETIRED && !s.captured g)).map (fun g => (g, 0)) } } : State)
  rw [hq]
  refine ⟨rfl, rfl, rfl, ?_⟩
  refine (rdF_wrF_beside (x.wrF Reg.NRG_STAT 1 0 0) _ 15 14 0 1 0 (by decide) (by decide) (by decide) (by decide)).trans ?_
  exact rdF_wrF_same x _ 1 0 0 (by decide) (by decide) (by decide)

end

/-! Grants (R271). -/

section
variable {s : State} {r : NrgReq} {t : List NrgReq}

theorem nextReq_head (h : ∀ x ∈ t, x.before r = false) : nextReq (r :: t) = some r := by
  refine congrArg some (List.foldlRecOn (motive := (· = r)) t _ rfl ?_)
  rintro a rfl x hx
  exact if_neg (by simp [h x hx])

theorem exec_grant_next (s : State) : ∃ t, exec .keyGradeGrant s = .next t := by
  change ∃ t, execKeyGradeGrant s = .next t
  unfold execKeyGradeGrant
  dsimp only
  (repeat' split) <;> exact ⟨_, rfl⟩

theorem exec_grant_idle (h : s.nrg.queue = []) : exec .keyGradeGrant s = .next s := by
  change execKeyGradeGrant s = _
  unfold execKeyGradeGrant
  rw [h]
  rfl

/-- Whole blocks that cover a number of bytes (R268). -/
def blocksFor (left : Nat) : Nat := (left + 31) / 32

/-- The bytes that the first blocks of the ready pool give a request. -/
def State.bytesFor (s : State) (r : NrgReq) : List Byte := (s.nrg.ready.take (blocksFor r.left)).flatten.take r.left

/-- Blocks and their request leave the generator. -/
def State.withdrawn (s : State) (n : Nat) (t : List NrgReq) : State := { s with nrg := { s.nrg with ready := s.nrg.ready.drop n, queue := t } }

/-- The blocks that leave are counted (R271). -/
def State.handedOut (s : State) (n : Nat) (t : List NrgReq) : State := (s.withdrawn n t).incF Reg.NRG_OUT 31 0 n

theorem handedOut_does (s : State) (n : Nat) (t : List NrgReq) : (s.handedOut n t).nrg.queue = t ∧ (s.handedOut n t).nrg.ready = s.nrg.ready.drop n ∧
    (s.handedOut n t).cmds = s.cmds := by
  unfold State.handedOut
  rw [State.incF_nrg, State.incF_cmds]
  exact ⟨rfl, rfl, rfl⟩

theorem exec_grant_first (hq : s.nrg.queue = r :: t) (hfirst : ∀ x ∈ t, x.before r = false) : let n := blocksFor r.left
    exec .keyGradeGrant s = if n ≤ s.nrg.ready.length then
      .next (((match r.who with | .chunk _ => s.withdrawn n t | _ => s.handedOut n t).grant r (s.nrg.ready.take n)).fillReady)
    else .next s := by
  change execKeyGradeGrant s = _
  unfold execKeyGradeGrant
  rw [hq, nextReq_head hfirst]
  simp only [List.erase_cons_head]
  rfl

theorem exec_grant_waits (hq : s.nrg.queue = r :: t) (hfirst : ∀ x ∈ t, x.before r = false) (hfew : s.nrg.ready.length < blocksFor r.left) :
    exec .keyGradeGrant s = .next s := (exec_grant_first hq hfirst).trans (if_neg (Nat.not_le.mpr hfew))

/-- Whole blocks cover what is asked for. -/
theorem bytesFor_length (hall : ∀ b ∈ s.nrg.ready, b.length = 32) (hn : blocksFor r.left ≤ s.nrg.ready.length) : (s.bytesFor r).length = r.left := by
  have hlens : (s.nrg.ready.take (blocksFor r.left)).map List.length = List.replicate (blocksFor r.left) 32 := by
    refine List.eq_replicate_iff.mpr ⟨by simpa using hn, fun k hk => ?_⟩
    obtain ⟨b, hb, rfl⟩ := List.mem_map.mp hk
    exact hall b (List.mem_of_mem_take hb)
  have hcover : r.left ≤ blocksFor r.left * 32 := by
    unfold blocksFor
    omega
  rw [State.bytesFor, List.length_take, List.length_flatten, hlens, List.sum_replicate, smul_eq_mul, Nat.min_eq_left hcover]

/-- Filling the ready pool leaves the queue and the commands, and adds to the pool's end. -/
theorem fillReady_keeps (s : State) : ∃ more, s.fillReady.nrg.ready = s.nrg.ready ++ more ∧ s.fillReady.nrg.queue = s.nrg.queue ∧
    s.fillReady.nrg.exps = s.nrg.exps ∧ s.fillReady.cmds = s.cmds ∧ ∀ o, o ≠ Reg.NRG_STAT → s.fillReady.rd 0 o = s.rd 0 o := by
  obtain ⟨more, rest, -, h | ⟨-, h⟩⟩ := fillReady_shape s
  · exact ⟨more, by rw [h]; exact ⟨rfl, rfl, rfl, rfl, fun _ _ => rfl⟩⟩
  · exact ⟨more, by rw [h]; exact ⟨rfl, rfl, rfl, rfl, fun o ho => rd_wr_pf _ _ _ _ ho⟩⟩

/-- A command that has drawn all it asked for. -/
def Cmd.drawn (c : Cmd) (bytes : List Byte) : Cmd := { c with rand := c.rand ++ bytes, need := 0, phase := .ready }

theorem grantCmd_ready {id : Nat} {c : Cmd} {bytes : List Byte} (hc : mget s.cmds id = some c) (hneed : c.need = bytes.length) (hrandom : c.op ≠ 0x0E01)
    (hctx : c.op ≠ 0x0E02) (hdigest : c.op ≠ 0x0C18) : s.grantCmd id bytes = s.setCmd id (c.drawn bytes) := by
  simp [State.grantCmd, hc, hneed, hrandom, hctx, hdigest, State.setCmd, mput_mput_same, Cmd.drawn]

/-- A command that draws is granted all it asks for (R271). -/
theorem exec_grant_cmd {id : Nat} {c : Cmd} (hq : s.nrg.queue = r :: t) (hfirst : ∀ x ∈ t, x.before r = false)
    (hn : blocksFor r.left ≤ s.nrg.ready.length) (hall : ∀ b ∈ s.nrg.ready, b.length = 32) (hwho : r.who = .cmd id)
    (hc : mget s.cmds id = some c) (hneed : c.need = r.left) (hrandom : c.op ≠ 0x0E01) (hctx : c.op ≠ 0x0E02) (hdigest : c.op ≠ 0x0C18) :
    ∃ u more, exec .keyGradeGrant s = .next u ∧ u.nrg.queue = t ∧ u.nrg.ready = s.nrg.ready.drop (blocksFor r.left) ++ more ∧
      mget u.cmds id = some (c.drawn (s.bytesFor r)) := by
  have hexec : exec .keyGradeGrant s = .next ((s.handedOut (blocksFor r.left) t).grantCmd id (s.bytesFor r)).fillReady := by
    rw [exec_grant_first hq hfirst, if_pos hn, State.grant, hwho]
    rfl
  obtain ⟨xqueue, xready, xcmds⟩ := handedOut_does s (blocksFor r.left) t
  generalize s.handedOut (blocksFor r.left) t = x at hexec xqueue xready xcmds
  have hgrant : x.grantCmd id (s.bytesFor r) = x.setCmd id (c.drawn (s.bytesFor r)) :=
    grantCmd_ready (by rw [xcmds, hc]) (hneed.trans (bytesFor_length hall hn).symm) hrandom hctx hdigest
  obtain ⟨more, hready, hqueue, -, hcmds, -⟩ := fillReady_keeps (x.setCmd id (c.drawn (s.bytesFor r)))
  refine ⟨_, more, hgrant ▸ hexec, hqueue.trans xqueue, ?_, ?_⟩
  · rw [hready, State.setCmd_nrg, xready]
  · rw [hcmds]
    exact mget_mput_same _ _ _

end

/-! Expanders (R277). -/

section
variable {s : State} {e : Nat}

theorem maskReg_ne (e : Nat) : maskReg e ≠ Reg.NRG_STAT ∧ maskReg e ≠ Reg.NRG_EXP := by
  simp only [maskReg, Reg.CL_MASK, Reg.BNE_MASK, Reg.HTE_MASK, Reg.NRG_STAT, Reg.NRG_EXP]
  (repeat' split) <;> omega

theorem maskCount_of_rd {t : State} (h : t.rd 0 (maskReg e) = s.rd 0 (maskReg e)) : t.maskCount e = s.maskCount e := congrArg (fld · 20 0) h

/-- A new seed clears the expander's count and its place in NRG_EXP. -/
theorem seed_does (s : State) (he : e < 21) (bytes : List Byte) : (s.seed e bytes).maskCount e = 0 ∧ e ∈ (s.seed e bytes).nrg.seeded ∧
    (s.seed e bytes).rdB Reg.NRG_EXP e = false ∧ (s.seed e bytes).nrg.queue = s.nrg.queue := by
  have hmem : (e, absorbSeed (s.expState e) bytes) ∈ mput s.nrg.exps e (absorbSeed (s.expState e) bytes) := mem_of_mget (mget_mput_same _ _ _)
  unfold State.seed
  dsimp only
  generalize hx : ({ s with nrg := { s.nrg with exps := mput s.nrg.exps e (absorbSeed (s.expState e) bytes) } } : State) = x
  have hnrg : ((x.wrF (maskReg e) 20 0 0).wrB Reg.NRG_EXP e false).nrg = { s.nrg with exps := mput s.nrg.exps e (absorbSeed (s.expState e) bytes) } := by
    rw [State.wrB_nrg, State.wrF_nrg, ← hx]
  have hcount : ((x.wrF (maskReg e) 20 0 0).wrB Reg.NRG_EXP e false).maskCount e = 0 := by
    rw [State.maskCount, rdF_wrB_other _ _ _ _ _ _ _ (maskReg_ne e).2]
    exact rdF_wrF_same x _ 20 0 0 (by decide) (by decide) (by decide)
  have hexp := rdB_wrB_same (x.wrF (maskReg e) 20 0 0) Reg.NRG_EXP e false (by omega)
  generalize (x.wrF (maskReg e) 20 0 0).wrB Reg.NRG_EXP e false = y at hnrg hcount hexp
  have hseeded : e ∈ y.nrg.seeded := by
    rw [hnrg]
    exact List.mem_map_of_mem (f := Prod.fst) hmem
  have hqueue : y.nrg.queue = s.nrg.queue := by rw [hnrg]
  split <;> exact ⟨hcount, hseeded, hexp, hqueue⟩

theorem exec_grant_expander {r : NrgReq} {t : List NrgReq} (hq : s.nrg.queue = r :: t) (hfirst : ∀ x ∈ t, x.before r = false) (he : e < 21)
    (hn : blocksFor r.left ≤ s.nrg.ready.length) (hwho : r.who = .expander e) : ∃ u, exec .keyGradeGrant s = .next u ∧ u.nrg.queue = t ∧
      u.maskCount e = 0 ∧ e ∈ u.nrg.seeded ∧ u.rdB Reg.NRG_EXP e = false := by
  have hexec : exec .keyGradeGrant s = .next ((s.handedOut (blocksFor r.left) t).seed e (s.bytesFor r)).fillReady := by
    rw [exec_grant_first hq hfirst, if_pos hn, State.grant, hwho]
    rfl
  obtain ⟨xqueue, -, -⟩ := handedOut_does s (blocksFor r.left) t
  generalize s.handedOut (blocksFor r.left) t = x at hexec xqueue
  obtain ⟨hcount, hseeded, hexp, hqueue⟩ := seed_does x he (s.bytesFor r)
  obtain ⟨-, -, fqueue, fexps, -, fregs⟩ := fillReady_keeps (x.seed e (s.bytesFor r))
  refine ⟨_, hexec, fqueue.trans (hqueue.trans xqueue), (maskCount_of_rd (fregs _ (maskReg_ne e).1)).trans hcount, ?_, ?_⟩
  · rw [Nrg.seeded, fexps]
    exact hseeded
  · rw [State.rdB, fregs _ (by decide)]
    exact hexp

theorem maskCount_maskTo (s : State) {n : Nat} (hn : n < 2 ^ 21) : n ≤ (s.maskTo e n).maskCount e := by
  have hold : s.maskCount e < 2 ^ 21 := Nat.mod_lt _ (by decide)
  have hset : (s.maskTo e n).maskCount e = max (s.maskCount e) n :=
    rdF_wrF_same s _ 20 0 _ (by decide) (by decide) (Nat.max_lt.mpr ⟨hold, hn⟩)
  rw [hset]
  exact Nat.le_max_right _ _

/-- A seed that is asked for, or has been, waits in the queue. -/
theorem askSeed_asks (s : State) (e cls : Nat) : (∃ r ∈ (s.askSeed e cls).nrg.queue, r.who = .expander e) ∧
    ((∀ r ∈ s.nrg.queue, r.who = .expander e → r.cls = cls) → ∀ r ∈ (s.askSeed e cls).nrg.queue, r.who = .expander e → r.cls = cls) ∧
    (s.askSeed e cls).regs = s.regs := by
  unfold State.askSeed
  split
  next h => exact ⟨by simpa using h, id, rfl⟩
  next h =>
    refine ⟨⟨⟨cls, e, .expander e, 32, s.now⟩, by simp [State.nrgAsk], rfl⟩, fun hall r hr hwho => ?_, rfl⟩
    obtain hr | hr := List.mem_append.mp hr
    · exact hall r hr hwho
    · rw [List.mem_singleton.mp hr]

/-- The three events of an expander (R277). -/
noncomputable def expanderEvents (e : Nat) : List Instr := [.expanderReseedRequest e, .expanderUrgent e, .expanderHardLimit e]

theorem exec_expander_next (s : State) (e : Nat) : ∀ i ∈ expanderEvents e, ∃ t, exec i s = .next t := by
  simp only [expanderEvents, List.forall_mem_cons]
  refine ⟨?_, ?_, ?_, List.forall_mem_nil _⟩
  · change ∃ t, execExpanderReseedRequest e s = .next t
    unfold execExpanderReseedRequest
    split <;> exact ⟨_, rfl⟩
  · change ∃ t, execExpanderUrgent e s = .next t
    unfold execExpanderUrgent
    dsimp only
    (repeat' split) <;> exact ⟨_, rfl⟩
  · change ∃ t, execExpanderHardLimit e s = .next t
    unfold execExpanderHardLimit
    split <;> exact ⟨_, rfl⟩

theorem exec_expander_unseeded (h : 21 ≤ e ∨ e ∉ s.nrg.seeded) : ∀ i ∈ expanderEvents e, exec i s = .next s := by
  have hno : ¬ (e < 21 ∧ s.nrg.seeded.contains e = true) := by
    rintro ⟨he, hseeded⟩
    obtain h | h := h
    · omega
    · exact h (List.contains_iff_mem.mp hseeded)
  simp only [expanderEvents, List.forall_mem_cons]
  exact ⟨if_neg hno, if_neg hno, if_neg hno, List.forall_mem_nil _⟩

/-- The expander's waiting request becomes one of class 1. -/
def State.urged (s : State) (e : Nat) : State :=
  { s with nrg := { s.nrg with queue := s.nrg.queue.map (fun (r : NrgReq) => if r.who = .expander e then { r with cls := 1 } else r) } }

theorem urged_class (s : State) (e : Nat) : ∀ r ∈ (s.urged e).nrg.queue, r.who = .expander e → r.cls = 1 := by
  intro r hr hwho
  obtain ⟨a, -, rfl⟩ := List.mem_map.mp hr
  by_cases ha : a.who = .expander e
  · rw [if_pos ha]
  · rw [if_neg ha] at hwho
    exact absurd hwho ha

/-- An expander that has stopped at its limit. -/
def State.hardLimited (s : State) (e : Nat) : State :=
  let s1 := (s.maskTo e (2 ^ 20)).wrB Reg.NRG_EXP e true
  if e < 12 then s1.setCluster e { s1.cluster e with maskStall := true } else s1

theorem hardLimited_does (s : State) (he : e < 21) : 2 ^ 20 ≤ (s.hardLimited e).maskCount e ∧ (s.hardLimited e).rdB Reg.NRG_EXP e = true ∧
    (e < 12 → ((s.hardLimited e).cluster e).maskStall = true) ∧ (s.hardLimited e).cmds = s.cmds := by
  have hcount : 2 ^ 20 ≤ ((s.maskTo e (2 ^ 20)).wrB Reg.NRG_EXP e true).maskCount e := by
    rw [State.maskCount, rdF_wrB_other _ _ _ _ _ _ _ (maskReg_ne e).2]
    exact maskCount_maskTo s (by decide)
  have hexp : ((s.maskTo e (2 ^ 20)).wrB Reg.NRG_EXP e true).rdB Reg.NRG_EXP e = true := rdB_wrB_same _ _ e true (by omega)
  unfold State.hardLimited
  dsimp only
  split
  · exact ⟨hcount, hexp, fun _ => by rw [cluster_setCluster_same], rfl⟩
  next hno => exact ⟨hcount, hexp, fun h => absurd h hno, rfl⟩

section
variable (he : e < 21) (hseeded : e ∈ s.nrg.seeded)
include he hseeded

theorem exec_reseedRequest : exec (.expanderReseedRequest e) s =
    .next (if s.nrgSt = 2 then s.maskTo e (2 ^ 12) else (s.maskTo e (2 ^ 12)).askSeed e 3) := if_pos ⟨he, List.contains_iff_mem.mpr hseeded⟩

theorem reseedRequest_asks : ∃ t, exec (.expanderReseedRequest e) s = .next t ∧ 2 ^ 12 ≤ t.maskCount e ∧
    (s.nrgSt ≠ 2 → ∃ r ∈ t.nrg.queue, r.who = .expander e) := by
  have hcount := maskCount_maskTo (e := e) s (n := 2 ^ 12) (by decide)
  refine ⟨_, exec_reseedRequest he hseeded, ?_⟩
  by_cases hst : s.nrgSt = 2
  · rw [if_pos hst]
    exact ⟨hcount, fun h => absurd hst h⟩
  · obtain ⟨hasked, -, hregs⟩ := askSeed_asks (s.maskTo e (2 ^ 12)) e 3
    rw [if_neg hst, maskCount_of_rd (rd_of_regs hregs _)]
    exact ⟨hcount, fun _ => hasked⟩

theorem exec_urgent : exec (.expanderUrgent e) s =
    .next (if s.nrgSt = 2 then s.maskTo e (2 ^ 16) else ((s.maskTo e (2 ^ 16)).urged e).askSeed e 1) := by
  refine (if_pos ⟨he, List.contains_iff_mem.mpr hseeded⟩).trans ?_
  dsimp only
  split <;> rfl

theorem urgent_asks : ∃ t, exec (.expanderUrgent e) s = .next t ∧ 2 ^ 16 ≤ t.maskCount e ∧
    (s.nrgSt ≠ 2 → (∃ r ∈ t.nrg.queue, r.who = .expander e) ∧ ∀ r ∈ t.nrg.queue, r.who = .expander e → r.cls = 1) := by
  have hcount := maskCount_maskTo (e := e) s (n := 2 ^ 16) (by decide)
  refine ⟨_, exec_urgent he hseeded, ?_⟩
  by_cases hst : s.nrgSt = 2
  · rw [if_pos hst]
    exact ⟨hcount, fun h => absurd hst h⟩
  · obtain ⟨hasked, hcls, hregs⟩ := askSeed_asks ((s.maskTo e (2 ^ 16)).urged e) e 1
    rw [if_neg hst, maskCount_of_rd (rd_of_regs hregs _)]
    exact ⟨hcount, fun _ => ⟨hasked, hcls (urged_class _ e)⟩⟩

theorem exec_hardLimit_idle (hidle : ∀ u ∈ unitsFed e, s.runsOn u = []) : exec (.expanderHardLimit e) s = .next (s.hardLimited e) := by
  have hruns : ∀ u ∈ unitsFed e, (s.hardLimited e).runsOn u = [] := by
    intro u hu
    rw [State.runsOn, (hardLimited_does s he).2.2.2]
    exact hidle u hu
  have hnone : (unitsFed e).flatMap (fun u => ((s.hardLimited e).runsOn u).map (fun r => (u, r))) = [] := by
    rw [List.flatMap_eq_nil_iff]
    intro u hu
    rw [hruns u hu]
    rfl
  refine (if_pos ⟨he, List.contains_iff_mem.mpr hseeded⟩).trans ?_
  dsimp only
  change Host.Outcome.next ((((unitsFed e).flatMap (fun u => ((s.hardLimited e).runsOn u).map (fun r => (u, r)))).mergeSort _).foldl _ (s.hardLimited e)) = _
  rw [hnone, List.mergeSort_nil]
  rfl

end

end

/-! Requests that wait too long (R276). -/

section
variable {s : State} {who : NrgWho}

theorem exec_waitLimit_next (s : State) (who : NrgWho) : ∃ t, exec (.nrgWaitLimit who) s = .next t := by
  change ∃ t, execNrgWaitLimit who s = .next t
  unfold execNrgWaitLimit
  (repeat' split) <;> exact ⟨_, rfl⟩

theorem exec_waitLimit_none (h : ∀ r ∈ s.nrg.queue, r.who ≠ who) : exec (.nrgWaitLimit who) s = .next s := by
  have hnone : s.nrg.queue.find? (fun r => r.who == who) = none := by simpa using h
  change execNrgWaitLimit who s = _
  unfold execNrgWaitLimit
  rw [hnone]

/-- A command whose request waits too long ends. -/
theorem exec_waitLimit_cmd {id : Nat} (hwho : who = .cmd id ∨ who = .chunk id) (h : ∃ r ∈ s.nrg.queue, r.who = who) :
    exec (.nrgWaitLimit who) s = .next
      (let t := (s.dropWho who).complete id (.late St.ENTROPY_UNAVAILABLE)
       if t.cmds.any (fun c => c.2.phase == .waitSlot) then t.askSpill (fun _ => false) else t) := by
  obtain ⟨r, hr, hrw⟩ := h
  obtain ⟨r', hfind⟩ : ∃ r', s.nrg.queue.find? (fun r => r.who == who) = some r' :=
    Option.isSome_iff_exists.mp (List.find?_isSome.mpr ⟨r, hr, beq_iff_eq.mpr hrw⟩)
  have hrw' : r'.who = who := by simpa using List.find?_some hfind
  have hends : (s.dropWho who).refuseAll St.ENTROPY_UNAVAILABLE [r'] = (s.dropWho who).complete id (.late St.ENTROPY_UNAVAILABLE) := by
    obtain rfl | rfl := hwho <;> simp [State.refuseAll, State.servedBy, State.nrgRefuse, hrw', List.eraseDups_cons]
  change execNrgWaitLimit who s = _
  unfold execNrgWaitLimit
  rw [hfind]
  obtain rfl | rfl := hwho <;> (dsimp only; rw [hends])

end

end Sys2Proof.Machine
end

section
/-!
SUPPORT. RAW_CAPTURE (spec file 10, R278, R279), and the generator's obligation.
-/
namespace Sys2Proof.Machine
open Sys2Proof

/-! Validation (R25, R278). -/

theorem ok_of_bind {ε α β : Type} {x : Except ε α} {f : α → Except ε β} {b : β} (h : (x >>= f) = .ok b) : ∃ a, x = .ok a ∧ f a = .ok b := by
  cases x with
  | error e => exact nomatch h
  | ok a => exact ⟨a, rfl, h⟩

theorem of_need {b : Bool} {status : Nat} {u : Unit} (h : need b status = .ok u) : b = true := by
  by_contra hno
  rw [need, if_neg hno] at h
  exact nomatch h

/-- Reading the buffers leaves the descriptor. -/
theorem buffers_desc {c c1 : Cmd} {h : HostRead} {inOk auxOk : Nat → Bool} {n : Nat} (hb : c.buffers h inOk auxOk n = .ok c1) : c1.desc = c.desc := by
  obtain ⟨_, -, hb⟩ := ok_of_bind hb
  obtain ⟨_, -, hb⟩ := ok_of_bind hb
  obtain ⟨o, -, hb⟩ := ok_of_bind hb
  dsimp only at hb
  (repeat' split at hb) <;> cases hb
  rfl

section
variable {s : State} {c c1 : Cmd} {h : HostRead}

/-- A capture that passes validation leaves another group in service. -/
theorem rawVal_ok (hv : s.rawVal c h = .ok c1) : c1.desc = c.desc ∧ ∃ k ∈ s.grpsUp, k ≠ c.par := by
  obtain ⟨_, -, hv⟩ := ok_of_bind hv
  obtain ⟨_, hstate, hb⟩ := ok_of_bind hv
  have hup := of_need hstate
  simp only [Bool.and_eq_true, List.any_eq_true, bne_iff_ne] at hup
  exact ⟨buffers_desc hb, hup.2⟩

end

/-! The start of a capture (R279). -/

section
variable {s : State} {id : Nat} {c c1 : Cmd} {h : HostRead} {d : List Byte} {fails : List (Nat × Nat × Nat)} {fb : List (Nat × Nat)}

theorem exec_rawCapture_started (hm : MayStart s id c) (hop : c.op = 0x0E20) : exec (.rawCapture id h d fails fb) s =
    .next (match s.rawVal c h with
      | .error x => s.complete id x
      | .ok c1 => if s.captured c.par then s else s.rawStart id c1) := by
  obtain ⟨hget, hphase⟩ := hm.1
  have hnot : ¬ (c.op = 0x0E20 ∧ c.phase = .running) := by simp [hphase]
  change execRawCapture id h d fails fb s = _
  unfold execRawCapture
  simp only [hget, if_neg hnot]
  exact opRow_next (f := fun c => c.op == 0x0E20) hm (beq_iff_eq.mpr hop)

/-- The group leaves service for the capture. -/
theorem rawStart_does {g k : Nat} (hg : c.par = g) (hk : k ∈ s.grpsUp) (hne : k ≠ g) :
    (s.rawStart id c).grpSt g = Grp.RAW ∧ ∃ x, mget (s.rawStart id c).cmds id = some x ∧ x.phase = .running ∧ x.desc = c.desc := by
  subst hg
  obtain ⟨hlt, hup⟩ := mem_grpsUp.mp hk
  generalize hx : { c with phase := Phase.running, note := if s.grpSt c.par == Grp.RETIRED then [1] else [] } = x
  have hrecheck : ∃ y : State, s.rawStart id c = y.nrgRecheck ∧ y.regs = (s.wrF (Reg.NRG_GRP c.par) 31 30 Grp.RAW).regs ∧
      y.nrg.retries = mdel s.nrg.retries c.par ∧ y.cmds = mput s.cmds id x := ⟨_, rfl, rfl, rfl, by rw [← hx]; rfl⟩
  obtain ⟨y, heq, hregs, hretries, hcmds⟩ := hrecheck
  have hother : y.grpUp k = true := by
    obtain ⟨hst, hserving, hstarted⟩ := grpUp_iff.mp hup
    refine grpUp_iff.mpr ⟨?_, ?_, ?_⟩
    · rw [State.nrgSt, State.rdF, rd_of_regs hregs]
      exact (rdF_wrF_other s _ _ 31 30 _ 1 0 (nrgGrp_ne_stat _).symm).trans_ne hst
    · rw [State.grpSt, State.rdF, rd_of_regs hregs]
      exact (rdF_wrF_other s _ _ 31 30 _ 31 30 (nrgGrp_inj hne)).trans hserving
    · rw [hretries, mget_mdel_other _ _ _ hne, hstarted]
  obtain ⟨hsame, hkept⟩ := nrgRecheck_reports (.inl (List.ne_nil_of_mem (mem_grpsUp.mpr ⟨hlt, hother⟩)))
  rw [heq]
  constructor
  · rw [State.grpSt, State.rdF, hkept _ (nrgGrp_not_faultReg (by decide) _), rd_of_regs hregs]
    exact rdF_wrF_same s _ 31 30 _ (by decide) (by decide) (by decide)
  · refine ⟨x, ?_, by rw [← hx], by rw [← hx]⟩
    rw [field_of_erased hsame State.cmds, hcmds]
    exact mget_mput_same _ _ _

theorem exec_rawCapture_starts (hm : MayStart s id c) (hop : c.op = 0x0E20) (hv : s.rawVal c h = .ok c1) (hfree : s.captured c.par = false) :
    ∃ t x, exec (.rawCapture id h d fails fb) s = .next t ∧ t.grpSt c.par = Grp.RAW ∧ mget t.cmds id = some x ∧ x.phase = .running ∧ x.desc = c.desc := by
  obtain ⟨hdesc, k, hk, hne⟩ := rawVal_ok hv
  obtain ⟨hraw, x, hx, hphase, hxdesc⟩ := rawStart_does (id := id) (c := c1) (g := c.par) (by rw [Cmd.par, hdesc, Cmd.par]) hk hne
  refine ⟨_, x, (exec_rawCapture_started hm hop).trans ?_, hraw, hx, hphase, hxdesc.trans hdesc⟩
  rw [hv]
  exact congrArg _ (if_neg (by simp [hfree]))

end

/-! The end of a capture (R278). -/

/-- The trim codes after a capture. -/
def State.rawTrimmed (s : State) (c : Cmd) (samples : List Byte) (fb : List (Nat × Nat)) : State :=
  let g := c.par
  let cell := leAt c.desc 48 2
  let n := leAt c.desc 52 4
  let freeze := (c.b 50).testBit 0
  let all := cell == 0xFFFF
  let trims := (if all then List.range 32 else [cell]).map (fun k =>
    (k, s.rawTrim g k (if all then 32 else 1) (if all then k else 0) (if all then n / 32 else n) samples freeze))
  let others := if freeze then [] else (fb.filter (fun x => decide (x.1 < 32) && !trims.any (fun y => y.1 == x.1))).map (fun x => (x.1, x.2 % 64))
  (trims ++ others).foldl (fun (x : State) y => x.setFb (32 * g + y.1) y.2) s

/-- The failing windows of a capture in the group's register, and the blocks that wait for the window in which it began judged. -/
def State.rawJudged (s : State) (g : Nat) (bad : List (Nat × Nat × Nat)) : State :=
  let count := ((bad.map (·.1)).eraseDups).length
  let s2 := match bad.getLast? with
    | some f => ((s.incF (Reg.NRG_GRP g) 27 16 count).wrF (Reg.NRG_GRP g) 10 8 f.2.1).wrF (Reg.NRG_GRP g) 4 0 f.2.2
    | none => s
  if bad.any (fun f => f.1 == 0) then s2.dropBlocks g
  else { s2 with nrg := { s2.nrg with pend := s2.nrg.pend.map (fun (b : List Nat × List Byte) => (b.1.filter (· != g), b.2)) } }

section
variable {s : State} {id : Nat} {c : Cmd} {h : HostRead} {d : List Byte} {fails : List (Nat × Nat × Nat)} {fb : List (Nat × Nat)}

theorem fbOf_setFb (s : State) (x v : Nat) : (s.setFb x v).fbOf x = v := by
  by_cases hv : v = 32
  · simp [State.fbOf, State.setFb, hv, mget_mdel_same]
  · simp [State.fbOf, State.setFb, hv, mget_mput_same]

/-- Counting a capture's failing windows and judging its blocks leaves keys, commands, what is sent and the trim codes. -/
theorem rawJudged_keeps (s : State) (g : Nat) (bad : List (Nat × Nat × Nat)) : (s.rawJudged g bad).ks = s.ks ∧ (s.rawJudged g bad).cmds = s.cmds ∧
    (s.rawJudged g bad).tx = s.tx ∧ (s.rawJudged g bad).nrg.fb = s.nrg.fb := by
  unfold State.rawJudged
  dsimp only
  (repeat' split) <;> simp [State.dropBlocks]

theorem rawTrimmed_withFb (s : State) (c : Cmd) (d : List Byte) (fb : List (Nat × Nat)) : ∃ fb', s.rawTrimmed c d fb = s.withFb fb' :=
  foldl_withFb (fun _ _ => ⟨_, rfl⟩) _ s

/-- With FREEZE the one captured cell keeps its trim code. -/
theorem rawTrimmed_frozen (hfreeze : c.b 50 = 1) (hcell : leAt c.desc 48 2 ≠ 0xFFFF) :
    (s.rawTrimmed c d fb).fbOf (32 * c.par + leAt c.desc 48 2) = s.fbOf (32 * c.par + leAt c.desc 48 2) := by
  have hset : s.rawTrimmed c d fb = s.setFb (32 * c.par + leAt c.desc 48 2) (s.fbOf (32 * c.par + leAt c.desc 48 2)) := by
    simp [State.rawTrimmed, State.rawTrim, hfreeze, hcell]
  rw [hset, fbOf_setFb]

theorem exec_rawCapture_ends (hget : mget s.cmds id = some c) (hop : c.op = 0x0E20) (hphase : c.phase = .running) :
    let cell := leAt c.desc 48 2
    let n := leAt c.desc 52 4
    let bad := s.rawWindows c.par cell n d fails
    let t := (s.rawTrimmed c d fb).rawJudged c.par bad
    exec (.rawCapture id h d fails fb) s = .next (((t.writeOut c 0 (fixLen (n / 8) d) true).complete id (.ok (n / 8)
      (natLE 4 ((bad.map (·.1)).eraseDups).length ++ [BitVec.ofNat 8 (t.fbOf (32 * c.par + (if cell == 0xFFFF then 0 else cell)))]))).fillReady) := by
  intro cell n bad t
  change execRawCapture id h d fails fb s = _
  unfold execRawCapture
  rw [hget]
  exact if_pos ⟨hop, hphase⟩

end

/-- Settles O38, event by event: blocks, windows, start-up tests, RESTART, grants, wait limits, expanders and raw captures. -/
theorem noiseGenerator : Obligations.NoiseGenerator := by
  unfold Obligations.NoiseGenerator
  refine ⟨fun s => ?_, fun cells order i hi _ => ⟨blockSamples_length cells order, blockSamples_bit cells order hi⟩⟩
  intro st grp
  refine ⟨?block, ?window, ?startup, exec_restart_ignored, fun hst => ⟨s.nrgStart, exec_restart_fault hst, nrgStart_does s⟩, exec_grant_next s,
    exec_grant_idle, ?grant, fun who => ⟨exec_waitLimit_next s who, exec_waitLimit_none⟩, fun id who => exec_waitLimit_cmd, ?expander, ?rawStart, ?rawEnd⟩
  case block =>
    refine fun b => ⟨exec_nrgBlock_closed, fun hst hup => ⟨fun hagree hdisc => ?_, fun hagree hdisc hroom => ?_,
      fun hdiff hlanes => exec_nrgBlock_spare hst hup hdiff hlanes, fun hdiff hlanes hq hoff => ?_⟩⟩
    · rw [exec_nrgBlock_open hst hup, if_pos hagree, if_pos hdisc]
    · rw [exec_nrgBlock_open hst hup, if_pos hagree, if_neg (by omega), if_pos hroom]
      rfl
    · refine ⟨_, ?_, lanesLost_empties hst hq hoff⟩
      rw [exec_nrgBlock_open hst hup, hdiff, if_neg Bool.false_ne_true, if_neg hlanes]
  case window =>
    refine fun obs => ⟨exec_windowEnd_closed, exec_windowEnd_next obs s, fun hst hraw => ⟨fun hall hroom _ => exec_windowEnd_passes hst hraw hall hroom, ?_⟩⟩
    exact fun g f l hg hup hmore hfew hfails hpass => exec_windowEnd_isolates hst hraw hg hup (by omega) hfew hfails hpass
  case startup =>
    refine fun g fb obs => ⟨exec_startup_next, exec_startup_idle, fun n hn hst => ⟨fun hfails hfew => exec_startup_retries hn hst hfails hfew, ?_⟩⟩
    exact fun hg hstart hleft => exec_startup_ends hg hn hstart hleft
  case grant =>
    exact fun r t hq hfirst => ⟨exec_grant_waits hq hfirst, fun id c => exec_grant_cmd hq hfirst, fun e => exec_grant_expander hq hfirst⟩
  case expander =>
    refine fun e => ⟨exec_expander_next s e, exec_expander_unseeded, fun he hseeded => ⟨reseedRequest_asks he hseeded, urgent_asks he hseeded, fun hidle => ?_⟩⟩
    exact ⟨_, exec_hardLimit_idle he hseeded hidle, hardLimited_does s he⟩
  case rawStart =>
    refine fun id c h d fails fb hm hop => ⟨fun x hv => ?_, fun c1 hv hbusy => ?_, fun c1 hv hfree => exec_rawCapture_starts hm hop hv hfree⟩
    · rw [exec_rawCapture_started hm hop, hv]
    · rw [exec_rawCapture_started hm hop, hv]
      exact congrArg _ (if_pos hbusy)
  case rawEnd =>
    intro id c h d fails fb hget hop hphase cell n bad
    obtain ⟨hks, hcmds, htx, hfb⟩ := rawJudged_keeps (s.rawTrimmed c d fb) c.par (s.rawWindows c.par cell n d fails)
    obtain ⟨fb', htrim⟩ := rawTrimmed_withFb s c d fb
    refine ⟨(s.rawTrimmed c d fb).rawJudged c.par (s.rawWindows c.par cell n d fails), _, exec_rawCapture_ends hget hop hphase,
      by rw [hks, htrim]; rfl, by rw [hcmds, htrim]; rfl, by rw [htx, htrim]; rfl, fun hfreeze hcell => ?_⟩
    rw [if_neg (by simpa using hcell), State.fbOf, hfb]
    exact rawTrimmed_frozen hfreeze hcell

end Sys2Proof.Machine
end
